-- ==== Sys2Proof/Word.lean ====
section
/-! DEFINITION. The machine's words: a register is 32 bits wide (R6), memory is bytes, multi-byte fields are
little-endian (R12). Everything a test could show wrong stands in Machine/Bits.lean. -/

namespace Sys2Proof

/-- A register's contents (R6). -/
abbrev Word := BitVec 32

/-- One byte of device memory, host memory or a message. -/
abbrev Byte := BitVec 8

end Sys2Proof
end

