-- ==== Sys2Proof/Machine/Types.lean ====
section
/-! DEFINITION. The records that the state is made of (Machine/State.lean), as plain data: what each block holds beside its registers.
The default value of each structure is its state after reset. -/

namespace Sys2Proof.Machine

open Sys2Proof

/-! ### Ranger, mailboxes and notification rings (spec/13_ranger_mailboxes.md, 14_command_set.md) -/

/-- A command that waits in a BUSY mailbox for the end of its work: the mailbox, and the serial number of the message
it carries, so that an answer for a message the mailbox no longer carries is discarded (R386, R389). -/
structure Waiter where
  mbx : Nat := 0
  serial : Nat := 0
  deriving DecidableEq, Repr, Inhabited

/-- One mailbox beside its registers: the IRQ bit of the posted message (R377), the serial number of the last message. -/
structure MailboxSt where
  irq : Bool := false
  serial : Nat := 0
  deriving DecidableEq, Repr, Inhabited

/-- A notice as the notice writer holds it (R381): kind, object it is rate-limited for, NOW40 when raised, partition
addressed, HW flag, occurrences folded in, payload. -/
structure Notice where
  kind : Nat := 0
  obj : Nat := 0
  stamp : Nat := 0
  part : Nat := 0
  hw : Bool := true
  coalesced : Nat := 0
  payload : List Byte := []
  deriving DecidableEq, Repr, Inhabited

/-- What the host's PCI Express software sets up beside the registers (R385, R389): the configuration dwords it has written, the MSI-X vectors whose mask
bit it has cleared, and the vectors whose pending bit is set. -/
structure PcieSt where
  config : List (Nat × Nat) := []
  unmasked : List Nat := []
  pending : List Nat := []
  deriving DecidableEq, Repr, Inhabited

/-- Notices of one kind and object left unwritten for lack of ring space (R383), to be counted into the next one. -/
structure Unwritten where
  kind : Nat := 0
  obj : Nat := 0
  count : Nat := 0
  payload : List Byte := []
  deriving DecidableEq, Repr, Inhabited

/-- One notification ring beside its registers (R380 to R384): the next SEQ, the backlog of never-coalesced notices, the
notices left unwritten, and the two counts of the next overflow record. -/
structure NringSt where
  seq : Nat := 0
  backlog : List Notice := []
  unwritten : List Unwritten := []
  ovfLimited : Nat := 0
  ovfDropped : Nat := 0
  deriving DecidableEq, Repr, Inhabited

/-- The 10 ms window of one rate-limited kind and object for the partitions that the notice was raised for (R77, R564): its end, the occurrences
folded in, and the payload of the last of them with its count fields covering all of them. -/
structure Coalesce where
  kind : Nat := 0
  obj : Nat := 0
  endTick : Nat := 0
  folded : Nat := 0
  dests : List Nat := []
  payload : List Byte := []
  deriving DecidableEq, Repr, Inhabited

/-- A notice that Ranger A1 composes once it runs again (R563, R386): kind, object, partitions addressed, payload. -/
structure Untold where
  kind : Nat := 0
  obj : Nat := 0
  dests : List Nat := []
  payload : List Byte := []
  deriving DecidableEq, Repr, Inhabited

/-- A host partition (R397, R398): it exists, and its quotas (0xFFFF_FFFF or 0xFF for none). -/
structure Partition where
  present : Bool := false
  cellQuota : Nat := 0
  decQuota : Nat := 0
  encQuota : Nat := 0
  capQuota : Nat := 0
  ringQuota : Nat := 0
  deriving DecidableEq, Repr, Inhabited

/-- A grant (R399): the partition, the window's base and size, and the FBK_HOST region it takes (R561). -/
structure Grant where
  part : Nat := 0
  base : Nat := 0
  log2 : Nat := 12
  region : Nat := 0
  deriving DecidableEq, Repr, Inhabited

/-- Lysman firmware beside its registers: when service mode ends (R411), the last lockstep or watchdog restart not yet
classed (R388) and when, the tick it stopped, a restart ordered and due, the notices it composes when it runs again (R563). -/
structure RangerSt where
  svcEnd : Nat := 0
  restartCause : Nat := 0
  restartAt : Option Nat := none
  stoppedAt : Option Nat := none
  restartDue : Option Nat := none
  untold : List Untold := []
  deriving DecidableEq, Repr, Inhabited

/-! ### Firebreak (spec/16_firebreak.md) -/

/-- An active region of a unit: base and the CFG word (R437, R453). -/
structure FbkRegion where
  base : Nat := 0
  cfg : Nat := 8
  deriving DecidableEq, Repr, Inhabited

/-- Firebreak beside its staged regions (registers): the active regions by unit × 64 + region (R449 at cold start), and each unit's
last violation (R451). -/
structure FbkSt where
  active : List (Nat × FbkRegion) := [(128, { base := 0xFE00000000, cfg := 0xE0000016 }), (129, { base := 0xFE01000000, cfg := 0xE0000012 })]
  lastViol : List (Nat × Nat) := []
  deriving DecidableEq, Repr, Inhabited

/-! ### Faults, check values, injection (spec/17_faults_checks_injection.md) -/

/-- A run of failures of one detector instance (R566): how many so far (2 for two or more), whether the first was
injected, and a word of the first failure's payload. -/
structure FaultRun where
  count : Nat := 0
  injected : Bool := false
  first : Nat := 0
  deriving DecidableEq, Repr, Inhabited

/-- A pending injection (R476). -/
structure Injection where
  det : Nat := 0
  inst : Nat := 0
  param : Nat := 0
  addr : Nat := 0
  since : Nat := 0
  deriving DecidableEq, Repr, Inhabited

/-- The collector and the injection unit beside the HLT_ registers: runs by detector × 65536 + instance; the tick of
the first arming key (R475); when ARMED ends; the pending injection; the further occasions of performed ones (R476);
the command HLT_INJECT that waits; when a sensor first stood at the trip point (R458), when the sensors were last sampled; TEMP_ALERT_N driven low (R466); the injected
reading of sensors; Ranger units halted (R463). -/
structure HltSt where
  runs : List (Nat × FaultRun) := []
  key1At : Option Nat := none
  armedUntil : Option Nat := none
  pendingInj : Option Injection := none
  further : List Injection := []
  injWaiter : Option Waiter := none
  tripSince : Option Nat := none
  sampledAt : Option Nat := none
  tempAlert : Bool := false
  sensorForced : List (Nat × (Nat × Nat)) := []
  unitHalted : List Nat := []
  deriving DecidableEq, Repr, Inhabited

/-- One check-value unit beside its registers (R467 to R472): the scan's end address, the waiting CVU_CHECK and its
deadline, the RUN_HI written and not yet committed, ABORT written. -/
structure CvuSt where
  endAddr : Nat := 0
  waiter : Option Waiter := none
  deadline : Nat := 0
  runHi : Option Nat := none
  aborting : Bool := false
  deriving DecidableEq, Repr, Inhabited

/-! ### Blaze (spec/18_blaze_recorder.md) -/

/-- An entry of the trigger queue (R487). -/
structure BlzEntry where
  type : Nat := 0
  source : Nat := 0
  severity : Nat := 0
  stamp : Nat := 0
  suppressed : Nat := 0
  detail : List Byte := []
  fatal : Bool := false
  deriving DecidableEq, Repr, Inhabited

/-- A record's place in the volatile buffer or the persistent log: offset, SEQ, size, severity, when committed. -/
structure BlzRecord where
  offset : Nat := 0
  seq : Nat := 0
  size : Nat := 0
  severity : Nat := 0
  doneAt : Nat := 0
  flushed : Bool := false
  deriving DecidableEq, Repr, Inhabited

/-- Blaze beside its registers: the trigger queue, the 16 snapshot lists (block descriptors), which list each detector
and type selects, the records in the buffer oldest first, the records of the LOW and HIGH rings of the persistent chip,
the drops since the last record began, the BLZ_FLUSH that waits and since when, whether a power-fail or FATAL flush is under way, the BLZ_MARK commands that wait by partition, the bytes of the persistent chip. -/
structure BlzSt where
  queue : List BlzEntry := []
  lists : List (Nat × List Nat) := []
  detList : List (Nat × Nat) := []
  typeList : List (Nat × Nat) := []
  records : List BlzRecord := []
  low : List BlzRecord := []
  high : List BlzRecord := []
  dropped : Nat := 0
  flushWaiters : List (Waiter × Nat) := []
  pfFlush : Bool := false
  marks : List (Nat × Waiter) := []
  chip : List Host.Cell := []
  deriving DecidableEq, Repr, Inhabited

/-! ### Time unit (spec/10_time_unit.md) -/

/-- The two clocks in units of 2^-32 ns (R275, R276). Of the seven consumers that the age clock is carried to (R21, R25): by how many ns a
copy lags beyond its steps, and the copy that a queue reset holds with the tick that ends the hold. -/
structure ClockSt where
  age : Nat := 0
  ptp : Nat := 0
  lag : List (Nat × Nat) := []
  held : List (Nat × (Nat × Nat)) := []
  deriving DecidableEq, Repr, Inhabited

/-- A sample pair of the conversion history (R286): PTP and age clock in whole ns at one tick, and the two rate
adjustments in force from it. -/
structure ConvPair where
  p : Nat := 0
  a : Nat := 0
  ageAdj : Int := 0
  ptpAdj : Int := 0
  deriving DecidableEq, Repr, Inhabited

/-- An entry of the transmit-timestamp queue (R281). -/
structure TxStamp where
  port : Nat := 0
  msgType : Nat := 0
  seqId : Nat := 0
  ptp : Nat := 0
  deriving DecidableEq, Repr, Inhabited

/-- A received PTP frame with its receive timestamp, PTP time in ns (R252, R280). -/
structure RxStamp where
  ptp : Nat := 0
  message : List Byte := []
  deriving DecidableEq, Repr, Inhabited

/-- A master whose Announce messages are heard (R279): the port they come on, its port identity, its grandmaster, what the best master clock algorithm
compares, in order, the tick of the last one and the interval in ticks. -/
structure PtpMaster where
  port : Nat := 0
  id : Nat := 0
  gm : Nat := 0
  rank : List Nat := []
  heardAt : Nat := 0
  every : Nat := 0
  deriving DecidableEq, Repr, Inhabited

/-- A Sync of the selected master (R279): sequenceId, receive timestamp, correction, and t1 once it is known. -/
structure PtpSync where
  seq : Nat := 0
  t2 : Int := 0
  corr : Int := 0
  t1 : Option Int := none
  deriving DecidableEq, Repr, Inhabited

/-- The time unit beside the TIM_ registers: the last PTP frame received on each port; the conversion history, oldest first; the last measurements of one master
(local receive time, offset) and that master; consecutive offsets beyond and within STEP_THRESH; when HOLDOVER was
entered; whether a step was ever applied; the transmit-timestamp queue; the PPS width in force; when PPS_OUT last rose
and whether it is high; the PPS_IN check; the settings of TIM_CFG with no register. -/
structure TimeSt where
  rx : List (Nat × RxStamp) := []
  masters : List PtpMaster := []
  sync : Option (Nat × Nat) := none
  heardSync : Option PtpSync := none
  request : Option (Nat × Option Int) := none
  response : Option Int := none
  history : List ConvPair := [{}]
  meas : List (Int × Int) := []
  master : Nat := 0
  beyond : Nat := 0
  missed : Bool := false
  inside : Nat := 0
  holdoverAt : Nat := 0
  txq : List TxStamp := []
  widthPending : Option Nat := none
  ppsRoseAt : Option Nat := none
  ppsHigh : Bool := false
  ppsInCheck : Nat := 0
  ports : Nat := 0
  transport : Nat := 0
  pcp : Nat := 0
  vlan : Nat := 0
  deriving DecidableEq, Repr, Inhabited

/-! ### Ring ledger (spec/02_ring_ledger.md) -/

/-- A ledger cell (R44). An unallocated cell is VOID and zero elsewhere (R46). -/
structure Cell where
  confirmedAt : Nat := 0
  limit : Nat := 0
  ownerKind : Nat := 0
  slot : Nat := 0
  standMask : Nat := 0
  partition : Nat := 0
  gen : Nat := 0
  filed : Bool := false
  damaged : Bool := false
  aged : Bool := false
  cls : Nat := 0
  latchEn : Bool := false
  sticky : Bool := false
  state : Nat := 3
  deriving DecidableEq, Repr, Inhabited

/-- A windfall entry (R62), or the entry a cell waits for (R64), with the tick of the cell's lapse. -/
structure Windfall where
  cell : Nat := 0
  confirmedAt : Nat := 0
  saturated : Bool := false
  state : Nat := 0
  lapse : Nat := 0
  deriving DecidableEq, Repr, Inhabited

/-- An engine confirmation on its way to the ledger engine (R54, R55): the cell, the ACTION, the stamp (TIME_KIND 0 age
units, 1 PTP seconds × 10^9 + ns with its epoch, 2 arrival), the source's transit allowance. -/
structure EngineConf where
  cell : Nat := 0
  action : Nat := 0
  timeKind : Nat := 0
  time : Nat := 0
  epoch : Nat := 0
  transit : Nat := 0
  deriving DecidableEq, Repr, Inhabited

/-- Stale-batch notices of a partition (R76, R77): the settings, when the periods began, and the batch gathered. -/
structure NotifySt where
  periodMs : Nat := 100
  safetyOnly : Bool := false
  base : Nat := 0
  endTick : Nat := 0
  total : Nat := 0
  cells : List Nat := []
  deriving DecidableEq, Repr, Inhabited

/-- A confirm ring being closed (R76): the PROD at the command, and the command that waits. -/
structure RingClose where
  prod : Nat := 0
  waiter : Option Waiter := none
  deriving DecidableEq, Repr, Inhabited

/-- The ledger beside its registers: cells (unlisted: unallocated); wheel slots by index; the slot number last scanned and
its candidates in order; bitmap replicas, bit of cell n in replica r at r × 2^20 + n (unlisted: 1); windfall entries in
order of installation; cells waiting for one in order of lapse; engine confirmations in flight; confirm rings closing;
cells freed, with the lap count at which they may be allocated again (R67); sweeper laps since cold start; the first
wheel fault and bitmap faults by replica of this lap and the runs of failing laps (R66); notify settings by partition;
cells whose next wheel expiry an injection suppresses
(R479); engine cells and the partition they count for (R201, R326); whether a lap has ended and is not yet counted; the confirm ring
whose turn it is, and the records taken in this turn (R51). -/
structure LedgerSt where
  cells : List (Nat × Cell) := [(0, { ownerKind := 6, state := 0 })]
  wheel : List (Nat × List Nat) := []
  scanned : Nat := 0
  candidates : List Nat := []
  bitmap : List (Nat × Bool) := [(0, false), (1048576, false), (2097152, false), (3145728, false)]
  windfall : List Windfall := []
  waiting : List Windfall := []
  conf : List EngineConf := []
  closing : List (Nat × RingClose) := []
  freed : List (Nat × Nat) := []
  laps : Nat := 0
  wheelFault : Option Nat := none
  bitFault : List (Nat × Nat) := []
  notify : List (Nat × NotifySt) := []
  suppressed : List Nat := []
  lent : List (Nat × Nat) := []
  lapDue : Bool := false
  turn : Nat := 0
  taken : Nat := 0
  deriving DecidableEq, Repr, Inhabited

/-! ### Lanes and the Kiene link (spec/11_lanes_and_kiene_link.md) -/

/-- A flit of the sending side (R305): TYPE, LAST, FRAME_TAG, LINE, FIRST_PIXEL, PIXELS, the payload bytes used; its SEQ once sent,
and the tick at which its last block was sent last. -/
structure Flit where
  type : Nat := 0
  last : Bool := false
  tag : Nat := 0
  line : Nat := 0
  first : Nat := 0
  pixels : Nat := 0
  payload : List Byte := []
  seq : Nat := 0
  sentAt : Nat := 0
  deriving DecidableEq, Repr, Inhabited

/-- A lane beside its KLN_ registers: the tick it entered its state; when power-up began, and the end of the next detection probe;
block lock (consecutive valid headers, the last 64 headers with true for an invalid one); the receive scrambler, consecutive TS1
that met their prediction, consecutive SKIPs that disagreed; consecutive TS1 with RX_LOCKED; the capability words of the group
being received and of the one before, groups alike, consecutive TS2 with CAPS_RECEIVED; the flit being gathered; whether data is discarded until an IDLE and flits until the replay; the replay buffer, the transmit queue, the SEQs whose
first replay is open, the tick at which the lane has sent the last flit given to it; when a TRANSIENT replay was last logged; last valid header; last STATUS, its FLAGS and MODE; the last HOTPLUG's
PREFERRED; what DEVICE_STATUS last said and when; whether a LASTING queue fault holds the lane down (R25). -/
structure LaneSt where
  since : Nat := 0
  powerAt : Option Nat := none
  probeAt : Nat := 0
  good : Nat := 0
  window : List Bool := []
  scr : Nat := 0
  ts1Run : Nat := 0
  ts1Seen : Bool := false
  skipBad : Nat := 0
  ts1Locked : Nat := 0
  group : List Nat := []
  lastGroup : List Nat := []
  groups : Nat := 0
  ts2Caps : Nat := 0
  gather : List Byte := []
  discard : Bool := false
  wantReplay : Bool := false
  out : List Flit := []
  queue : List Flit := []
  replaying : List Nat := []
  freeAt : Nat := 0
  loggedAt : Option Nat := none
  validAt : Nat := 0
  statusAt : Nat := 0
  status : Nat := 0
  pref : Nat := 255
  said : Nat := 0
  saidAt : Option Nat := none
  down : Bool := false
  deriving DecidableEq, Repr, Inhabited

/-- A capture picture being received (R321 to R325): slot, NOW40 at its FRAME_START, FRAME_TAG, whether its MODE flit has come and what
it said (size, format, MATRIX, FULL_RANGE, PTP, F), the line that the next LINE_START must name, the next column of the first line not whole, lines whole, oversize. -/
structure CapPic where
  slot : Nat := 0
  arrival : Nat := 0
  tag : Nat := 0
  mode : Bool := false
  w : Nat := 0
  h : Nat := 0
  fmt : Nat := 1
  matrix : Nat := 0
  full : Bool := false
  ptp : Option Nat := none
  f : Nat := 0
  next : Nat := 0
  col : Nat := 0
  lines : Nat := 0
  big : Bool := false
  deriving DecidableEq, Repr, Inhabited

/-- A capture input beside its registers: what CAP_ENABLE set, its memory, the picture in flight, its drain, whether a LASTING
queue fault stopped it (R25). -/
structure CapSt where
  transit : Nat := 1024
  base : Nat := 0
  log2 : Nat := 12
  cur : Option CapPic := none
  drainAt : Option Nat := none
  stuck : Bool := false
  waiter : Option Waiter := none
  stopped : Bool := false
  deriving DecidableEq, Repr, Inhabited

/-! ### Pair (spec/12_pair_operation.md) -/

/-- A rectangle: left edge, top edge, width, height (R395). -/
structure Rect where
  x : Nat := 0
  y : Nat := 0
  w : Nat := 0
  h : Nat := 0
  deriving DecidableEq, Repr, Inhabited

/-- A region of a pair record: number, VERDICT, skip cause, SIG. -/
structure RegionSig where
  num : Nat := 0
  verdict : Nat := 0
  skip : Nat := 0
  sig : Nat := 0
  deriving DecidableEq, Repr, Inhabited

/-- A Lookout pair record (R185): F, flags (bit 0 SELF_DIFF, bit 1 LATE_LATCH, bit 2 PIC_SKEW, bit 3 underrun, bit 4 RUNNING), the
whole-frame signature, the regions with PAIR and EN. -/
structure SigRec where
  f : Nat := 0
  flags : Nat := 0
  sig : Nat := 0
  regions : List RegionSig := []
  deriving DecidableEq, Repr, Inhabited

/-- A dispute rectangle (R359): region, consecutive compared frames in which it agreed, whether it marks a region of this device's own fault (R429). -/
structure Dispute where
  region : Nat := 0
  agreed : Nat := 0
  rect : Rect := {}
  own : Bool := false
  deriving DecidableEq, Repr, Inhabited

/-- An action on a LASTING disagreement of output `n` in frame `f` that waits for Lysman firmware (R368): its attribution, the regions undecided, those
whose reference says that this device is wrong. -/
structure PairAct where
  n : Nat := 0
  f : Nat := 0
  attrib : Nat := 0
  undecided : List Nat := []
  own : List Nat := []
  deriving DecidableEq, Repr, Inhabited

/-- A BAR2 write that waits for posted-write credits (R346): address, bytes, whether the fabric holds it. -/
structure HostWrite where
  a : Nat := 0
  data : List Byte := []
  held : Bool := false
  deriving DecidableEq, Repr, Inhabited

/-- The comparison of one output: own and partner records not yet matched, consecutive AGREE results, disputes, dispute rectangles
that wait for their frame; on a standby, the LATCH messages not yet applied with their target frames, the target last applied, and the
frames scanned with LATE_LATCH and with PIC_SKEW (R347, R348); partner records of which parts have come, with their numbers of regions. -/
structure PairOut where
  own : List SigRec := []
  partner : List SigRec := []
  agrees : Nat := 0
  disputes : List Dispute := []
  later : List (Nat × List Rect) := []
  latches : List (Nat × List Byte) := []
  latchedF : Option Nat := none
  lateF : Option Nat := none
  skewF : Option Nat := none
  parts : List (Nat × SigRec) := []
  deriving DecidableEq, Repr, Inhabited


/-! ### Pictures, buffers and layers (spec/05_layers_and_commits.md) -/

/-- A picture or buffer as Canopy scans it (R131, R133): format, size, plane and palette addresses, strides, the
generation, the capture stamp in age units (R175), the colour settings, the identity the pair link names (R347), and the
slot of its session or input. -/
structure Pic where
  fmt : Nat := 0
  w : Nat := 0
  h : Nat := 0
  p0 : Nat := 0
  p1 : Nat := 0
  s0 : Nat := 0
  s1 : Nat := 0
  gen : Nat := 0
  stamp : Nat := 0
  matrix : Nat := 0
  full : Bool := false
  tag : Nat := 0
  slot : Nat := 0
  deriving DecidableEq, Repr, Inhabited

/-- A record of an output's buffer table (R142); an absent one is empty. -/
structure BufRec where
  present : Bool := false
  pic : Pic := {}
  gen : Nat := 0
  deriving DecidableEq, Repr, Inhabited

/-- A picture slot of a decode session or capture input (R198, R322): its picture, the layers that hold it (output × 8 +
slot, one entry each). -/
structure PicSlot where
  pic : Pic := {}
  held : List Nat := []
  deriving DecidableEq, Repr, Inhabited

/-- The pictures of an open decode session or enabled capture input, as the display path knows them: the partition that
opened it, the declared maximum size and the format counted (R567), its cell, its row cells and their height in lines
(R201), whether it is safety class, MAX_VIEWS, its slots, the newest complete picture's slot. -/
structure PicPool where
  present : Bool := false
  part : Nat := 0
  w : Nat := 0
  h : Nat := 0
  fmt : Nat := 0
  cell : Nat := 0
  rowCell : Nat := 0
  rows : Nat := 0
  rowH : Nat := 16
  cls : Nat := 0
  maxViews : Nat := 0
  base : Nat := 0
  slotSize : Nat := 0
  slots : List (Nat × PicSlot) := []
  newest : Option Nat := none
  deriving DecidableEq, Repr, Inhabited

/-- A binding of a cell inside a layer (GATE_BIND_SET), with its FLAGS byte; `void` once its cell was freed (R84). -/
structure Binding where
  rect : Rect := {}
  cell : Nat := 0
  flags : Nat := 0
  void : Bool := false
  deriving DecidableEq, Repr, Inhabited

/-- One slot of a stage (R147): enable, flags, source, filter, colour settings, provenance, geometry, the buffer class it
was staged with, its scalers, its bindings. -/
structure StageSlot where
  en : Bool := false
  opq : Bool := false
  static : Bool := false
  premult : Bool := false
  ignoreAlpha : Bool := false
  source : Nat := 0
  id : Nat := 0
  filter : Nat := 0
  matrix : Nat := 0
  full : Bool := false
  alpha : Nat := 255
  cell : Nat := 0
  void : Bool := false
  crop : Rect := {}
  dst : Rect := {}
  col : Nat := 0
  fmt : Nat := 0
  srcW : Nat := 0
  srcH : Nat := 0
  scalers : Nat := 0
  scalerIdx : Nat := 0
  rowH : Nat := 16
  binds : List Binding := []
  deriving DecidableEq, Repr, Inhabited

/-- A stage: its eight slots, the tolerance computed for it and its staged spans' count. -/
structure Stage where
  slots : List StageSlot := []
  tol : Nat := 0xFFFF
  deriving DecidableEq, Repr, Inhabited

/-- What Canopy holds of one layer beside its CNP_LAYER_ registers: the picture or buffer in use, the colour of an A8
layer, the slot of the stage last applied, whether Lookout holds FREEZE_HOLD, whether this frame's start or end check
failed and from which line the override holds, whether the previous frame had failed, the frame whose latch line took the picture,
whether rung 2 lowers its FILTER (R422), the palette fetched for this frame (R136). -/
structure LayerSt where
  pic : Option Pic := none
  col : Nat := 0
  stage : StageSlot := {}
  freezeHold : Bool := false
  tornNow : Bool := false
  tornFirst : Nat := 0
  tornF : Nat := 0
  tornCheck : Nat := 0
  tornHold : Bool := false
  eased : Bool := false
  pal : List Byte := []
  deriving DecidableEq, Repr, Inhabited

/-- The descriptors below `prod` of one PROD write (R151) and their target frame; none for a write before the first frame,
whose commits the first latch line takes. -/
structure Doorbell where
  prod : Nat := 0
  target : Option Nat := none
  deriving DecidableEq, Repr, Inhabited

/-- A group of commits (R155): its stand and tag, the number of its members, the frame of its first member's PROD write, its members
so far (output and ring index), its target frame once it is complete, the last decision (the frame decided for, whether it applies),
whether it is dropped, the outputs whose member is done with. -/
structure Group where
  stand : Nat := 0
  tag : Nat := 0
  count : Nat := 0
  firstF : Nat := 0
  members : List (Nat × Nat) := []
  target : Option Nat := none
  decision : Option (Nat × Bool) := none
  dropped : Bool := false
  finished : List Nat := []
  deriving DecidableEq, Repr, Inhabited

/-- A fence of a descriptor. -/
structure Fence where
  addr : Nat := 0
  value : Nat := 0
  mask : Nat := 0
  deriving DecidableEq, Repr, Inhabited

/-- A commit descriptor (R149). -/
structure Desc where
  flip : Nat := 0
  partial_ : Bool := false
  group : Bool := false
  timeout : Nat := 0
  stage : Nat := 0
  tag : Nat := 0
  count : Nat := 0
  user : Nat := 0
  bufs : List (Nat × Nat) := []
  fences : List Fence := []
  bad : Bool := false
  deriving DecidableEq, Repr, Inhabited

/-- The layers and commits of one output: buffer table, the stage, the stage shown, layers, the PROD writes not yet
consumed, how many latch lines the oldest commit has waited, the CNP_CRING_CLOSE that waits and its closing mark, whether a
commit with layers has taken effect since the output was enabled, the last STAGE_SEQ built, the
one applied last; service writes of layer fields that wait for the latch line, and whether the end of service mode restores them
there (R140, R411); the descriptors from CONS to below PROD by index, each read when its PROD write was applied. -/
structure CommitSt where
  bufs : List (Nat × BufRec) := []
  stage : Option Stage := none
  shown : Bool := false
  layers : List (Nat × LayerSt) := []
  bells : List Doorbell := []
  descs : List (Nat × Desc) := []
  waited : Nat := 0
  closing : Option (Nat × Waiter) := none
  seq : Nat := 0
  applied : Nat := 0
  svc : List (Nat × Nat) := []
  restore : Bool := false
  deriving DecidableEq, Repr, Inhabited

/-! ### Scan gate (spec/03_scan_gate.md) -/

/-- A span of the line being scanned, clipped to the active area, with the state read at its sample point (R86 to R88)
and its age basis: CONFIRMED_AT and SATURATED of its windfall entry. -/
structure LineSpan where
  idx : Nat := 0
  layer : Nat := 0
  opq : Bool := false
  corner : Nat := 0
  size : Nat := 0
  noBadge : Bool := false
  forced : Bool := false
  x0 : Nat := 0
  x1 : Nat := 0
  y0 : Nat := 0
  y1 : Nat := 0
  state : Nat := 0
  basis : Option (Nat × Bool) := none
  deriving DecidableEq, Repr, Inhabited

/-- What R89 latches at line 0's sample point for a frame: NOW40, the ten colours in table order, the two alphas, the
image of GATE_OUT_CFG, and whether the whole active area is cleared (FORCE_VOID, R25, R113, R459, R514). -/
structure FrameLatch where
  now : Nat := 0
  cols : List Nat := []
  alphaA : Nat := 192
  alphaB : Nat := 192
  cfg : Nat := 0
  void : Bool := false
  deriving DecidableEq, Repr, Inhabited

/-- A span entry as stored (R80). -/
structure SpanEnt where
  cell : Nat := 0
  layer : Nat := 0
  opq : Bool := false
  corner : Nat := 0
  size : Nat := 0
  noBadge : Bool := false
  forced : Bool := false
  x0 : Nat := 0
  x1 : Nat := 0
  y0 : Nat := 0
  y1 : Nat := 0
  bad : Bool := false
  deriving DecidableEq, Repr, Inhabited

/-- The gate's working state of one output: the frame's settings, the active list (the entries loaded for this frame so far, with their
numbers, R82), the whole active set as read at line 0 (R86, R92), the state of each span held in frame-coherent mode,
badge texts of this frame, the spans and disputes of the line sampled last, whether that line is cleared whole, spans
counted in BADGE_OMIT this frame, treated pixels of this frame, fault bits of this and the previous frame
(R103), whether R25 holds the output in clearing and the holds (bit 0 R25, bit 1 R459, bit 2 R514, bit 3 R362, bit 4 R429). -/
structure GateOut where
  latch : FrameLatch := {}
  loaded : List (Nat × SpanEnt) := []
  whole : List (Nat × SpanEnt) := []
  held : List (Nat × (Nat × Option (Nat × Bool))) := []
  texts : List (Nat × List Nat) := []
  spans : List LineSpan := []
  disputes : List (Nat × Nat × Nat × Nat) := []
  lineVoid : Bool := false
  orderBad : Bool := false
  omitted : List Nat := []
  treated : Nat := 0
  faultNow : List Nat := []
  holds : Nat := 0
  restage : List Nat := []
  deriving DecidableEq, Repr, Inhabited

/-! ### Outputs (spec/04_outputs_and_timing.md) -/

/-- An output's scan beside its CNP_OUT_ registers. The current frame is grid instant `k` of the time base with phase
`base` (R108); the next one starts at grid instant `nextK` of `nextBase`. `notBefore` bounds the first start (R113).
`rephase` is the rephase under way with its cause and added blanking, `later` the cause of a change that waits for the end
of the next frame (R110). Lines sampled and lines started of this frame; whether FRAME_END, the Lookout post and the latch
line of this frame have come; the latch line in force; the settings OUT_SET left for the next frame start; the higher
tolerance waiting (R117); the drain's waiter, deadline and NO_FRAME; underrun lines of this frame; whether a queue reset spoils the next line or cut the
frame short (R25); lines of this frame an injection leaves without fill, and a drain it holds up (R479). -/
structure OutSt where
  base : Int := 0
  k : Int := 0
  nextBase : Int := 0
  nextK : Int := 0
  notBefore : Int := 0
  rephase : Option (Nat × Nat) := none
  later : Option Nat := none
  sampled : Nat := 0
  line : Nat := 0
  ended : Bool := false
  posted : Bool := true
  latched : Bool := true
  latch : Nat := 0
  setWhich : Nat := 0
  setClass : Nat := 0
  setPrio : Nat := 0
  setLatch : Nat := 0
  tolNext : Option Nat := none
  waiter : Option Waiter := none
  drainAt : Option Nat := none
  noFrame : Bool := false
  urLines : List Nat := []
  urLost : Bool := false
  poolMin : Nat := 1536
  frameCut : Bool := false
  noFill : Nat := 0
  stuck : Bool := false
  stuckInj : Bool := false
  deriving DecidableEq, Repr, Inhabited

/-! ### Lookout (spec/06_lookout.md) -/

/-- A region beside its table entry: the partition it belongs to (R188), the baseline (previous signature, picture stamp,
cell stamp), whether the run had a pipeline HOLD, an ON_COMMIT reference that waits (R189), the cell that the region forced STALE with
the STATE and CONFIRMED_AT it had (R176, R188). -/
structure RegionSt where
  owner : Nat := 0
  prev : Option (Nat × Nat × Nat) := none
  pipe : Bool := false
  onCommit : Option Nat := none
  forced : Option (Nat × Nat × Nat) := none
  deriving DecidableEq, Repr, Inhabited

/-- A region in the current frame: number, the entry's first 24 bytes as latched, the running CRCs of tap A and tap B,
whether a pixel of it was treated, whether a line of the frame left it out for OVERLOAD, whether its entry could be read, whether a write has
cleared the region's working state since. -/
structure RegionRun where
  num : Nat := 0
  ctrl : Nat := 0
  x0 : Nat := 0
  x1 : Nat := 0
  y0 : Nat := 0
  y1 : Nat := 0
  cell : Nat := 0
  ref : Nat := 0
  refF : Nat := 0
  crcA : Nat := 0xFFFFFFFF
  crcB : Nat := 0xFFFFFFFF
  treated : Bool := false
  overload : Bool := false
  valid : Bool := true
  rewritten : Bool := false
  deriving DecidableEq, Repr, Inhabited

/-- A frame sent, in the return history (R182): its tag, the whole-frame and 16 stripe signatures, its result, the signatures that differed
(bit 0 the whole frame, bit s + 1 stripe s), whether an injection made the result, whether R184 has classed it. -/
structure SentFrame where
  tag : Nat := 0
  f : Nat := 0
  sigs : List Nat := []
  result : Nat := 0
  bad : Nat := 0
  injected : Bool := false
  classed : Bool := false
  deriving DecidableEq, Repr, Inhabited

/-- Lookout's working state of one output: the regions of this frame, running CRCs (tap A and B of the frame, tap B of the
16 stripes), whether any pixel was treated, regions treated in the previous frame, the commits applied at the latch line
before this frame (slots flipped or whose held picture changed, whether the stage changed), the picture and cell stamps read
at it, the history of sent frames, whether results of this frame are discarded, checking stopped (R25), self-check runs
decided by the pair record. -/
structure LookOut where
  runs : List RegionRun := []
  frameA : Nat := 0xFFFFFFFF
  frameB : Nat := 0xFFFFFFFF
  stripes : List Nat := []
  treated : Bool := false
  prevTreated : List Nat := []
  flipped : List Nat := []
  restaged : Bool := false
  nextFlipped : List Nat := []
  nextRestaged : Bool := false
  stamps : List (Nat × (Nat × Nat)) := []
  nextStamps : List (Nat × (Nat × Nat)) := []
  urLines : List Nat := []
  history : List SentFrame := []
  discard : Bool := false
  stopped : Bool := false
  retStopped : Bool := false
  deriving DecidableEq, Repr, Inhabited

/-! ### Packet ports and ingest queues (spec/09_packet_ports.md) -/

/-- An SRTP key (R258): master key, master salt, the first 48-bit index it applies to. -/
structure SrtpKey where
  key : List Byte := []
  salt : List Byte := []
  start : Nat := 0
  deriving DecidableEq, Repr, Inhabited

/-- SRTP of one flow (R257, R258): the key in use, the new key, the highest index accepted, the replay window of 128
packets (bit k: index top − k), the next SRTCP index, and the highest SRTCP index accepted with its window. -/
structure SrtpSt where
  cur : Option SrtpKey := none
  new : Option SrtpKey := none
  top : Option Nat := none
  window : Nat := 0
  rtcp : Nat := 0
  rtcpTop : Option Nat := none
  rtcpWindow : Nat := 0
  deriving DecidableEq, Repr, Inhabited

/-- A flow filter as PKT_FLOW_SET gives it (R254). -/
structure Flow where
  ports : Nat := 0
  flags : Nat := 0
  vlan : Nat := 0
  pt : Nat := 0
  dstIp : List Byte := []
  srcIp : List Byte := []
  dstPort : Nat := 0
  rtcpPort : Nat := 0
  ssrc : Nat := 0
  deriving DecidableEq, Repr, Inhabited

/-- A PKT_QUEUE_READ that waits for an item, its end, and MAX_BYTES (R273). -/
structure QueueWait where
  waiter : Waiter := {}
  endTick : Nat := 0
  most : Nat := 0
  deriving DecidableEq, Repr, Inhabited

/-- One ingest queue beside its registers (R259 to R266): ring base, filter, SRTP, SSRC of the last accepted RTP packet, item
count, the copies that wait for the next item, the byte count of the item that the pipe has begun to read (R262). -/
structure QueueSt where
  base : Nat := 0
  flow : Option Flow := none
  srtp : SrtpSt := {}
  ssrc : Option Nat := none
  item : Nat := 0
  waits : List QueueWait := []
  reading : Option Nat := none
  deriving DecidableEq, Repr, Inhabited

/-- An address of a packet port (PKT_PORT_CFG). -/
structure PortAddr where
  addr : List Byte := []
  prefixLen : Nat := 0
  v6 : Bool := false
  deriving DecidableEq, Repr, Inhabited

/-- A frame in a port's transmit buffer: its class, the encode session it comes from, its picture count, the bytes. -/
structure TxFrame where
  pcp : Nat := 0
  session : Option Nat := none
  bytes : List Byte := []
  deriving DecidableEq, Repr, Inhabited

/-- A packet port beside its registers: addresses; per class the tick its received pause ends, and the tick its pause
began; the transmit buffer; the second of frames for Lysman firmware (R252); per class the tick of the last PFC frame sent
(R265); whether the link ever came up; whether a LASTING queue fault took it down (R25). -/
structure PortSt where
  addrs : List PortAddr := []
  pausedTill : List (Nat × Nat) := []
  pausedSince : List (Nat × Nat) := []
  txq : List TxFrame := []
  ctrlAt : Nat := 0
  ctrlN : Nat := 0
  pfcAt : List (Nat × Nat) := []
  everUp : Bool := false
  down : Bool := false
  deriving DecidableEq, Repr, Inhabited

/-- A transmit flow (R268, R269) as PKT_TX_FLOW_SET gives it, with its SRTP, packet and octet counts, and the tick of the
last sender report. -/
structure TxFlow where
  v6 : Bool := false
  srtp : Bool := false
  pcp : Nat := 0
  vlan : Nat := 0
  dscp : Nat := 0
  ttl : Nat := 0
  mac : List Byte := []
  pt : Nat := 0
  tai : Nat := 0
  srcIp : List Byte := []
  dstIp : List Byte := []
  srcPort : Nat := 0
  dstPort : Nat := 0
  ssrc : Nat := 0
  most : Nat := 1400
  srMs : Nat := 0
  srAt : Nat := 0
  packets : Nat := 0
  octets : Nat := 0
  keys : SrtpSt := {}
  deriving DecidableEq, Repr, Inhabited

/-! ### Decode pool (spec/07_decode_pool.md) -/

/-- A picture of a decode session from its first row to its output (R200, R214): slot, unwrapped RTP timestamp, NOW40 at the
arrival of its first packet, size, format, colour settings, row height, whether the codec is H.264; the clean maps before and
after in-loop filtering; for each unit the neighbours its filters read; units concealed; carried ages by row, or a map that
fails to parse; whether the codec outputs it; UNSUPPORTED; whether a PIPE_FAULT or drain reset ended it; picture order count; bit depth and
chroma format; the mark of its access unit (R219); what is missing before its next unit (R209, R210): 0 nothing, 1 all until a resume
point, 2 all until the next slice segment, 3 the rest; slice segments and bytes of its access unit so far. -/
structure DecPic where
  slot : Nat := 0
  u : Nat := 0
  arrival : Nat := 0
  w : Nat := 0
  h : Nat := 0
  fmt : Nat := 3
  matrix : Nat := 1
  full : Bool := false
  unit : Nat := 16
  avc : Bool := false
  pre : List Bool := []
  filters : List (List Nat) := []
  map : List Bool := []
  conceal : Nat := 0
  ages : List (Nat × Nat) := []
  badMap : Bool := false
  output : Bool := true
  unsupported : Bool := false
  broken : Bool := false
  poc : Int := 0
  depth : Nat := 8
  chroma : Nat := 1
  mark : Option Nat := none
  gap : Nat := 0
  segs : Nat := 0
  octets : Nat := 0
  coded : Nat × Nat := (0, 0)
  deriving DecidableEq, Repr, Inhabited

/-- An anchor (R205): unwrapped RTP timestamp, PTP time in ns, time epoch. -/
structure Anchor where
  rtp : Nat := 0
  ptp : Int := 0
  epoch : Nat := 0
  deriving DecidableEq, Repr, Inhabited

/-- A decode session beside its registers: what DEC_SESSION_OPEN declared; parameter sets held; u_last and the anchor; the
picture in flight, pictures decoded and not yet output, slots the DPB holds, the slot decoded last; pictures since the first
unclean one; luma samples of this 10 ms window and its start; when a packet last arrived; its drain, and whether that drain
belongs to a pipe; whether it is parked; its memory; the pipe it moves to at the next picture boundary (R195); the mark set for the
access unit found ahead (R219); whether items are skipped up to the next access unit (R261); whether the RTP marker bit of the access
unit has been read (R211). `kept` holds the picture last decoded into each slot, with its clean map
(R214), or a phantom's (R217). -/
structure DecSes where
  w : Nat := 0
  h : Nat := 0
  rateMhz : Nat := 0
  kbps : Nat := 0
  maxViews : Nat := 0
  dpbMax : Nat := 0
  arrivalMode : Bool := false
  tai : Nat := 37
  transit : Nat := 1024
  params : List Byte := []
  uLast : Option Nat := none
  anchor : Option Anchor := none
  cur : Option DecPic := none
  out : List DecPic := []
  refs : List Nat := []
  kept : List (Nat × DecPic) := []
  prev : Option Nat := none
  unclean : Option Nat := none
  winPix : Nat := 0
  winAt : Nat := 0
  lastPacket : Nat := 0
  drainAt : Option Nat := none
  pipeDrain : Bool := false
  stuck : Bool := false
  waiter : Option Waiter := none
  wasReset : Bool := false
  parked : Bool := false
  picBase : Nat := 0
  picLog : Nat := 12
  metaBase : Nat := 0
  metaLog : Nat := 12
  queueBase : Nat := 0
  queueLog : Nat := 20
  moveTo : Option Nat := none
  ahead : Option Nat := none
  skipping : Bool := false
  marker : Bool := false
  wantWhole : Bool := false
  deriving DecidableEq, Repr, Inhabited

/-- A pipe of the decode or encode pool beside its registers: the session whose regions it has loaded, the DEC_PIPE_CTRL or
ENC_PIPE_CTRL that waits, and the luma samples that each session may still have decoded in this round of R196. -/
structure PipeSt where
  loaded : Option Nat := none
  waiter : Option Waiter := none
  credit : List (Nat × Nat) := []
  deriving DecidableEq, Repr, Inhabited

/-! ### Encode pool (spec/08_encode_pool.md) -/

/-- What rate control, Coppice refresh and the row-age map keep of a row: bits and QP of its last coded instance, whether that
was in the IDR picture (R238), its refresh boundary (R235), the stamp of the last picture in which it was not skipped (R240). -/
structure EncRow where
  bits : Nat := 0
  qp : Nat := 26
  idr : Bool := false
  bound : Nat := 0
  coded : Nat := 0
  deriving DecidableEq, Repr, Inhabited

/-- A source picture in a slot (R228 to R230): stamp, RTP timestamp, frame counter, lines of the encoded picture written, and
the tick at which each of its rows was written whole; whether a frame before it was dropped, so that it restarts the Coppice cycle (R236). -/
structure EncSrc where
  slot : Nat := 0
  t : Nat := 0
  rtp : Nat := 0
  f : Nat := 0
  lines : Nat := 0
  rowTicks : List Nat := []
  whole : Bool := false
  restart : Bool := false
  deriving DecidableEq, Repr, Inhabited

/-- The picture being coded (R238, R239): its source, next row, whether coded intra, budget, borrowing limit, bits spent,
exhaustion, the QP of the row before, sum of QPs, rows skipped, NAL units of each row, the leading NAL units, whether a reference
was poisoned, RESTART, whether a pipe fault has the remaining rows skipped (R25), chunks already handed out, the rows' boundaries after the
reference was coded (R235), the bits of their slice headers (R238), whether a row reached QP_MAX (R239). -/
structure EncCur where
  src : EncSrc := {}
  row : Nat := 0
  intra : Bool := false
  budget : Nat := 0
  borrow : Nat := 0
  spent : Nat := 0
  exhausted : Bool := false
  qpPrev : Nat := 26
  qpSum : Nat := 0
  skipped : List Nat := []
  nals : List (List (List Byte)) := []
  head : List (List Byte) := []
  poison : Bool := false
  restart : Bool := false
  forceSkip : Bool := false
  sent : Nat := 0
  bounds : List Nat := []
  heads : List Nat := []
  maxed : Bool := false
  deriving DecidableEq, Repr, Inhabited

/-- An encode session beside its registers: the tap's crop, decimation and RATE_DIV; rate control's settings and the cap of Lysman
firmware; the rows; the Coppice cycle position, a restart due, whether the next picture is the first; the QP of row 0 of the last
picture; debt parts by picture and start debt (R239); source pictures, lines gathered for the next pair of rows, whether the tap
writes; the picture being coded; a picture dropped since the last chunk; drain; parking; settings that wait for the next picture
(WHICH, KBPS, QP_MIN, QP_MAX, QP_INIT, DQP_ROW); memory; the transmit flow; the slot due next; the stamp of a picture handed out
whose confirmation is due (R241); rows or pictures judged against their latency target since the pressure window began (R421); a frame
dropped since the last source picture (R236); bytes of the transmit staging area used; the reconstruction slot of the next picture (R233); the pipe it moves to at the next picture boundary (R232). -/
structure EncSes where
  crop : Rect := {}
  divX : Nat := 0
  divY : Nat := 0
  rateDiv : Nat := 1
  qpMin : Nat := 0
  qpMax : Nat := 51
  qpInit : Nat := 26
  kbps : Nat := 100
  cap : Option Nat := none
  refreshN : Nat := 2
  dqp : Nat := 2
  port : Nat := 0
  rows : List EncRow := []
  pos : Nat := 0
  refresh : Bool := false
  first : Bool := true
  qpRow0 : Option Nat := none
  debt : List Int := []
  startDebt : Nat := 0
  sources : List EncSrc := []
  lines : List (List Nat) := []
  tapping : Bool := false
  cur : Option EncCur := none
  dropBefore : Bool := false
  abortDue : Option EncSrc := none
  txKeys : SrtpSt := {}
  drainAt : Option Nat := none
  pipeDrain : Bool := false
  stuck : Bool := false
  waiter : Option Waiter := none
  wasReset : Bool := false
  parked : Bool := false
  set : Option (Nat × Nat × Nat × Nat × Nat × Nat) := none
  srcBase : Nat := 0
  srcLog : Nat := 12
  recBase : Nat := 0
  recLog : Nat := 12
  outBase : Nat := 0
  outLog : Nat := 12
  flow : Option TxFlow := none
  nextSlot : Nat := 0
  handed : Option Nat := none
  judged : Nat := 0
  dropped : Bool := false
  staged : Nat := 0
  recSlot : Nat := 0
  moveTo : Option Nat := none
  deriving DecidableEq, Repr, Inhabited


/-! ### Policy (spec/15_policy.md) -/

/-- The policy's working state: rungs in force, bit r − 1 for rung r; what POL_CFG set; for each pressure kind the windows in a row
it has been present in, and the tick it was present last; kinds an immediate trigger fired (mask) in this window; the tick of the
last release; pressures of the last window; windows since cold start and when this one began; what POL_MEASURE answers beside the
count; counters as the window found them; whether a scan pool ran low in this window and the outputs with an underrun line; outputs held
by R429; outputs retrained by R428, with the tick the lane was
ACTIVE again; outputs under R427, with the frame of the last session parked; responses that wait for Lysman firmware: 0 the retraining
of R428, 1 the clearing of R429, for an output. -/
structure PolSt where
  rungs : Nat := 0
  rungEn : Nat := 0x1F
  margin : Nat := 10
  enterWin : Nat := 3
  releaseS : Nat := 5
  capPct : Nat := 50
  runs : List (Nat × Nat) := []
  seen : List (Nat × Nat) := []
  fired : Nat := 0
  releasedAt : Nat := 0
  pressure : Nat := 0
  window : Nat := 0
  startAt : Nat := 0
  measure : List Byte := []
  counts : List (Nat × Nat) := []
  scanLow : Bool := false
  urOuts : Nat := 0
  forced : Nat := 0
  retrain : List (Nat × Option Nat) := []
  trades : List (Nat × Nat) := []
  armed : List Nat := []
  waits : List (Nat × Nat) := []
  deriving DecidableEq, Repr, Inhabited


/-! ### Dual-clock queues (spec/01_architecture.md) -/

/-- One pointer of a dual-clock queue (R22): its two copies on its own side, both in Gray code, the two synchronised copies on the other side, and
the cycles for which those have differed. -/
structure PtrHeld where
  own0 : Nat := 0
  own1 : Nat := 0
  syn0 : Nat := 0
  syn1 : Nat := 0
  apart : Nat := 0
  deriving DecidableEq, Repr, Inhabited

/-- A dual-clock queue that was reset (R22 to R25): the tick after the reset (0: none waits for its class),
whether it accepts entries again, whether a further mismatch made it LASTING, whether the first was injected; the two local copies of
the detecting side's own pointer and the two synchronised copies of the other side's, in Gray code, as they were seen last (R22). -/
structure DcqSt where
  at_ : Nat := 0
  resumed : Bool := false
  lasting : Bool := false
  injected : Bool := false
  wp : PtrHeld := {}
  rp : PtrHeld := {}
  deriving DecidableEq, Repr, Inhabited

/-! ### Device memory (spec/01_architecture.md) -/

/-- A request that waits at its memory channel (R39): the Firebreak unit it passed, the access, what the controller will find in each of
its blocks, its urgency level and the tick it arrived. -/
structure MemReq where
  unit : Nat := 0
  addr : Nat := 0
  write : Bool := false
  data : List Byte := []
  len : Nat := 0
  ecc : List Nat := []
  level : Nat := 3
  since : Nat := 0
  old : Bool := false
  deriving DecidableEq, Repr, Inhabited

/-- Device memory beside its contents and the MEM_ registers. Of a channel (stack × 32 + selection, R32): the tick of its last access,
whether it is in power-down (R36), whether a LASTING queue fault fenced it off (R25). Blocks whose check bits show an error, by address (1
correctable, 3 uncorrectable; R33, R34); the tick of the scrubber's last visit, and the block whose write-back is under way (R35); the
requests that wait, in order of arrival (R39). -/
structure HbmSt where
  used : List (Nat × Nat) := []
  down : List Nat := []
  fenced : List Nat := []
  errors : List (Nat × Nat) := []
  scrubAt : Option Nat := none
  writeBack : Option Nat := none
  waiting : List MemReq := []
  deriving DecidableEq, Repr, Inhabited

/-! ### Control strip (spec/20_control_strip.md) -/

/-- A node of the strip beside its registers: consecutive scans for the debounce of a touch's begin and end and for an anti-touch with
their RAW sum; scans since the baseline moved; the tick its touch began; the drift guard (the sum of RAW and the neighbours that M0 is the mean of, scans over); scans of a
baselining left, with their RAW sum; whether a touch ended by a stuck rebaseline bars a new one. -/
structure StripNode where
  down : Nat := 0
  up : Nat := 0
  anti : Nat := 0
  antiSum : Nat := 0
  track : Nat := 0
  since : Nat := 0
  guard : Option (Nat × List Nat) := none
  drift : Nat := 0
  baseLeft : Nat := 0
  baseSum : Nat := 0
  barred : Bool := false
  deriving DecidableEq, Repr, Inhabited

/-- A control beside its registers: the POSITION of its last STRIP_TOUCH; the tick its touch began, the POSITION then and last, the
direction of the movement (0 none, 1 up, 2 down), the travel, whether the movement stayed in one direction, whether the gesture was
recognised in this touch, and whether the touch ended stuck. -/
structure StripCtl where
  said : Nat := 0
  since : Option Nat := none
  last : Nat := 0
  dir : Nat := 0
  travel : Nat := 0
  straight : Bool := true
  done : Bool := false
  deriving DecidableEq, Repr, Inhabited

/-- The strip beside its registers: drive and sense lines used, the tick of the last scan, nodes and controls. -/
structure StripSt where
  drv : Nat := 0
  sns : Nat := 0
  scanAt : Option Nat := none
  nodes : List (Nat × StripNode) := []
  ctls : List (Nat × StripCtl) := []
  deriving DecidableEq, Repr, Inhabited

/-! ### Start-up, power, host port (spec/19_startup.md, 01, 21) -/

/-- An image write under way (R524): slot, item, length, source. -/
structure ImgWrite where
  slot : Nat := 0
  item : Nat := 0
  length : Nat := 0
  source : Nat := 0
  deriving DecidableEq, Repr, Inhabited

/-- The system beside its registers. RESET_N is low; the tick of the cause of the last start, and which form it takes (0 cold, 1 warm,
2 retention exit); warm start ordered (due); power state ordered (2 RETENTION, 3 DEEP) and when;
whether the device is in DEEP; PWR_FAIL_N low, and since when it is high again; PCIE_PERST_N low; whether a LASTING queue reset stopped
the host port (R25); die ID and key hash; board identifier and version; the digests of the kept copies (R511); the table's lanes;
the image write; access errors since the last SYS_ACCESS_ERROR; AVSBus: last set-point update, retry tick, last read-back; BOOT_SRC as sampled. -/
structure SysSt where
  resetLow : Bool := false
  startAt : Nat := 0
  form : Nat := 0
  warmDue : Option Nat := none
  powerDue : Option (Nat × Nat) := none
  deep : Bool := false
  pfLow : Bool := false
  pfHighAt : Option Nat := none
  perstLow : Bool := false
  hostStopped : Bool := false
  dieId : Nat := 0
  keyHash : List Byte := []
  boardId : Nat := 0
  boardVer : Nat := 0
  digests : List Byte := []
  lanes : List (Nat × List Byte) := []
  imgWrite : Option ImgWrite := none
  accErrs : Nat := 0
  avsAt : Nat := 0
  avsRetryAt : Nat := 0
  avsReadAt : Option Nat := none
  strapBoot : Nat := 0
  deriving DecidableEq, Repr, Inhabited


/-! ### Pair operation (spec/12_pair_operation.md) -/

/-- The settings that the active sends to a joiner (R352): registers of the display, ledger, session and flow blocks; partitions and
grants; stands, groups, outputs with their grids, commits with stages and buffers, span sets; regions and disputes; policy; sessions,
pools of pictures, queues and inputs; memory of the firmware pool; the cells of engines and what the ledger keeps of partitions;
addresses of the packet ports; the settings of TIM_CFG; HOT_EGRESS and DISPUTE_MARK. -/
structure Settings where
  regs : List (Nat × Word) := []
  parts : List (Nat × Partition) := []
  grants : List Grant := []
  stands : List (Nat × Nat) := []
  groups : List Group := []
  outs : List (Nat × OutSt) := []
  commits : List (Nat × CommitSt) := []
  gate : List (Nat × GateOut) := []
  regions : List (Nat × RegionSt) := []
  disputes : List (Nat × List Dispute) := []
  pol : PolSt := {}
  decs : List (Nat × DecSes) := []
  encs : List (Nat × EncSes) := []
  pools : List (Nat × PicPool) := []
  queues : List (Nat × QueueSt) := []
  caps : List (Nat × CapSt) := []
  fwPool : List (Nat × Nat) := []
  cells : List (Nat × Cell) := []
  lent : List (Nat × Nat) := []
  freed : List (Nat × Nat) := []
  notify : List (Nat × NotifySt) := []
  suppressed : List Nat := []
  addrs : List (Nat × List PortAddr) := []
  time : TimeSt := {}
  hotEgress : Bool := false
  disputeMark : Bool := false
  deriving DecidableEq, Repr, Inhabited

/-- A message of the ordered stream (R341, R342). A transfer block with the settings carries them as they are: the spec gives no layout. -/
structure PairMsg where
  pseq : Nat := 0
  type : Nat := 0
  body : List Byte := []
  settings : Option Settings := none
  deriving DecidableEq, Repr, Inhabited

/-- The pair operation beside the PAIR_ registers. Forwarding runs (R343); ordered messages kept for retransmission; messages received
beyond a gap, since when, and whether RETX was sent; forwarded commands that wait for Lysman firmware (R368) and forwarded commands that wait for their end,
with the active's status and body; ticks of the last pin edge, the last HEARTBEAT received and the last sent; the partner's role and
phase; the partner's last transmit time with its local receive time; whether the partner was declared lost; when OUT_OWN rose, and
since when SEL_STATUS is low; interlock: since when ILK_IN_N is high, since when a takeover waits, when the claim was driven and when
it may be retried; when the egress bring-up of a takeover or switchover began, whether it is a switchover's; outputs held FORCE_VOID by
R362; a switchover's PTP instant, its waiting command, whether this device is the one that
hands over; whether the age alignment runs down by rate (R350); joins this device began, and the partner's join that the transfer serves; transfer bytes, and whether the transfer has ended; the heartbeat held up by an injection; part of a forwarded
command gathered; outputs' comparison. -/
structure PairSt where
  mirroring : Bool := false
  log : List PairMsg := []
  held : List PairMsg := []
  gapAt : Option Nat := none
  retx : Bool := false
  lcsWait : List PairMsg := []
  waits : List (Nat × Nat × List Byte) := []
  serial : Nat := 0
  pinAt : Option Nat := none
  linkAt : Option Nat := none
  sentAt : Option Nat := none
  partnerRole : Nat := 3
  partnerPhase : Nat := 0
  partnerTx : Nat := 0
  partnerRx : Nat := 0
  startedAt : Option Nat := none
  lost : Bool := false
  ownAt : Option Nat := none
  selLowAt : Option Nat := none
  ilkHighAt : Option Nat := none
  ilkWaitAt : Option Nat := none
  claimAt : Option Nat := none
  retryAt : Option Nat := none
  blind : Bool := false
  cause : Nat := 0
  egressAt : Option Nat := none
  switching : Bool := false
  voids : List Nat := []
  swAt : Option Nat := none
  swWaiter : Option Waiter := none
  aligned : Bool := false
  xferBytes : Nat := 0
  xferDone : Bool := false
  hbHeld : Nat := 0
  ageRate : Bool := false
  joins : Nat := 0
  partnerJoin : Nat := 0
  gather : List Byte := []
  toggledAt : Option Nat := none
  linkTold : Bool := false
  acts : List PairAct := []
  hostWait : List HostWrite := []
  dualSeen : Bool := false
  adopted : Option Settings := none
  steps : List (Nat × Int) := []
  outs : List (Nat × PairOut) := []
  deriving DecidableEq, Repr, Inhabited


end Sys2Proof.Machine
end

