-- ==== Sys2Proof/Syntax.lean ====
section
/-! DEFINITION. The commands of the block: one constructor for each row of spec/opcode_table.json. Every command's first
operand `dt` is the number of TIM clock ticks (2 ns) since the command before it; a unit is named by its number; what the
world outside supplies (bytes received, a measured value, what a codec made of a picture) is an operand. -/

namespace Sys2Proof

/-- A prediction block's reference (R215): the slot (256 and above: a phantom of this row), the block's left and top edge moved
by its motion vector, its width and height, in luma samples. -/
structure RefBlock where
  slot : Nat := 0
  x : Int := 0
  y : Int := 0
  w : Nat := 0
  h : Nat := 0
  deriving DecidableEq, Repr, Inhabited

/-- What the codec standard makes of one unit (R214, R215): decoded without error; a reference read of it came back poisoned; a tile
or a WPP substream begins with it (R209); the units its intra prediction reads; its reference blocks; the neighbours its in-loop
filters read. -/
structure DecUnit where
  good : Bool := true
  poison : Bool := false
  resume : Bool := false
  intra : List Nat := []
  inter : List RefBlock := []
  filters : List Nat := []
  deriving DecidableEq, Repr, Inhabited

/-- A NAL unit met in a row (R191, R210): `kind` 0 a slice segment, 1 a parameter set, 2 another; the unit of the row it begins at, where
it is a slice segment; its bytes; the bytes of its slice segment header; nuh_layer_id; whether its identifiers and values lie in the
ranges of the codec standard. -/
structure DecNal where
  kind : Nat := 0
  first : Nat := 0
  size : Nat := 0
  header : Nat := 0
  layer : Nat := 0
  valid : Bool := true
  deriving DecidableEq, Repr, Inhabited

/-- Decoded samples in one row of a plane: plane 0 is luma, plane 1 the interleaved Cb and Cr; of 4:2:2, plane 0 holds all samples in the
order of format 5 (R131). -/
structure DecRun where
  plane : Nat := 0
  row : Nat := 0
  col : Nat := 0
  vals : List Nat := []
  deriving DecidableEq, Repr, Inhabited

/-- What the first row of a picture tells of it: RTP timestamp, NOW40 at the arrival of its first packet, size after cropping,
bit depth, chroma format (0 4:0:0, 1 4:2:0, 2 4:2:2), unit size in lines, picture order count, tile columns and rows, matrix_coefficients,
video_full_range_flag, whether it is a field picture, an MBAFF frame or uses FMO or ASO, whether its profile or level is none that R191 lists for the
codec, its stream's reference depth (R192), its coded size where that is larger than the cropped one (R194), whether the codec outputs it, whether a
later picture references it, whether its access unit has arrived whole (R219), the slots that the DPB holds, and the payload of a row-age SEI message. -/
structure DecHead where
  rtp : Nat := 0
  arrival : Nat := 0
  w : Nat := 0
  h : Nat := 0
  depth : Nat := 8
  chroma : Nat := 1
  unit : Nat := 16
  poc : Int := 0
  tiles : Nat × Nat := (1, 1)
  matrix : Option Nat := none
  full : Bool := false
  excluded : Bool := false
  foreign : Bool := false
  dpb : Nat := 0
  coded : Nat × Nat := (0, 0)
  output : Bool := true
  later : Bool := true
  whole : Bool := true
  refs : List Nat := []
  sei : Option (List Byte) := none
  deriving DecidableEq, Repr, Inhabited

/-- A row's decoding as the pipe finds it: the head when it begins a picture, VID cycles spent, units decoded when the budget is
reached, the picture order counts of the references missing, the error classes met (0 SYNTAX, 1 DATA_LOST, 4 POISON), the NAL units in
order, the units, the samples decoded, and whether the bytes read of the access unit are used up. -/
structure DecRow where
  head : Option DecHead := none
  cycles : Nat := 0
  reached : Nat := 0
  missing : List Int := []
  errors : List Nat := []
  nals : List DecNal := []
  units : List DecUnit := []
  samples : List DecRun := []
  dry : Bool := false
  deriving DecidableEq, Repr, Inhabited

/-- How the encode pipe predicts one unit of a row (R235): the blocks of the reference that it reads, each moved by its motion vector, or none of an
intra-coded unit; whether a prediction mode of it reads a sample right of the unit. -/
structure EncUnit where
  inter : List RefBlock := []
  right : Bool := false
  deriving DecidableEq, Repr, Inhabited

/-- What the parameter sets and slice headers of a stream say (R226, R227, R238): the profile, as R226 codes it; ten times the level; filtering across
slices; temporal motion vector prediction; CABAC; tiles; WPP; matrix_coefficients; video_full_range_flag; disable_deblocking_filter_idc of a coded row;
the same, or slice_deblocking_filter_disabled_flag, of a skip row; SAO in a skip row. -/
structure EncStream where
  profile : Nat := 0
  level : Nat := 51
  across : Bool := false
  tmvp : Bool := false
  cabac : Bool := true
  tiles : Bool := false
  wpp : Bool := false
  matrix : Nat := 1
  full : Bool := false
  deblock : Nat := 2
  deblockSkip : Nat := 1
  saoSkip : Bool := false
  deriving DecidableEq, Repr, Inhabited

/-- A row as the encode pipe codes it. With the first row of a picture: the contents of the parameter sets (VPS, SPS and PPS, or SPS and PPS),
what they say, and the bits of each row's slice header. Then, each behind its NAL unit header, the row's slice at the QP that rate control
chose and as a skip row; how its units are predicted; the samples reconstructed; whether a read of the reference or of the source came back
poisoned. -/
structure EncCode where
  sets : List (List Byte) := []
  stream : EncStream := {}
  heads : List Nat := []
  coded : List Byte := []
  skip : List Byte := []
  units : List EncUnit := []
  recon : List DecRun := []
  poisonRef : Bool := false
  poisonSrc : Bool := false
  deriving DecidableEq, Repr, Inhabited


/-- What Lysman firmware measured over a pressure window (R419): for each requester class of the interference table its share of the
bandwidth in 1/1000 and its mean added read latency in ns; the total bandwidth in 10^6 bytes/s; busy time of the decode and encode pipes
in 1/1000; the moves that would minimise the highest busy time, as session and pipe (R422, rung 1). -/
structure PolMeasure where
  mem : List (Nat × Nat) := []
  total : Nat := 0
  decBusy : List Nat := []
  encBusy : List Nat := []
  deriving DecidableEq, Repr, Inhabited
/-- What start-up finds in the fuses, the board table and the images, whose layouts the specification does not give (R296, R334, R493,
R496, R509, R530): the start voltage in mV, grade, die ID and key hash; what the first read of an image item shows altered (item 2 × slot
+ 0 board table or 1 firmware, offset, bits changed); the 16-byte record of each lane listed; the log chip's size and the HIGH ring's
in MiB; PAIR_PRESENT and DUAL_INPUT; the strip's drive and sense masks; the MAC address of each packet port; the snapshot lists and
what selects them. -/
structure StartFacts where
  startMv : Nat := 750
  grade : Nat := 0
  dieId : Nat := 0
  keyHash : List Byte := []
  altered : List (Nat × Nat × Nat) := []
  lanes : List (Nat × List Byte) := []
  logMib : Nat := 0
  highMib : Nat := 0
  present : Bool := false
  dual : Bool := false
  drv : Nat := 0
  sns : Nat := 0
  macs : List Nat := []
  lists : List (Nat × List Nat) := []
  detLists : List (Nat × Nat) := []
  typeLists : List (Nat × Nat) := []
  deriving DecidableEq, Repr, Inhabited

/-- A pointer mismatch: the entries that the reset of the queue loses, and what the side that detects it sees of the pointers (R22), in Gray code of `bits` bits: the two local copies of its own pointer, the
two synchronised copies of the other side's, and for how many consecutive cycles of its clock those two have differed. -/
structure PointerCopies where
  reader : Bool := false
  lost : Nat := 0
  bits : Nat := 4
  own0 : Nat := 0
  own1 : Nat := 0
  syn0 : Nat := 0
  syn1 : Nat := 0
  apart : Nat := 0
  deriving DecidableEq, Repr, Inhabited

/-- The data of a host write, and whether the write waits at its memory channel (R39). -/
structure HostData where
  bytes : List Byte := []
  held : Bool := false
  deriving DecidableEq, Repr, Inhabited

/-- What an access meets at its memory channel: of a read, the ECC outcome of each block (R34); whether it waits there (R39). -/
structure MemMet where
  ecc : List (Fin 4) := []
  held : Bool := false
  deriving DecidableEq, Repr, Inhabited

/-- The length of a read of the debug master and the ECC outcome of each block it reads (R34). -/
structure DebugRead where
  len : Nat := 0
  ecc : List (Fin 4) := []
  deriving DecidableEq, Repr, Inhabited

/-- The fill of a port's receive buffer before a frame, and the forward error correction codewords corrected and uncorrectable since the
frame before it (R272). -/
structure PortIntake where
  level : Nat := 0
  corrected : Nat := 0
  uncorrectable : Nat := 0
  deriving DecidableEq, Repr, Inhabited

/-- A pipe's read of the ingest queue of a session (R261): the item whole, or only begun (R262). -/
structure PipeRead where
  session : Fin 128 := 0
  whole : Bool := true
  deriving DecidableEq, Repr, Inhabited

/-- Accesses of a Firebreak unit, checked under earlier rules, that have completed at memory (R442). -/
structure BarrierStep where
  unit : Fin 28 := 0
  finished : Nat := 0
  deriving DecidableEq, Repr, Inhabited

/-- The commands. -/
inductive Instr where
  /-- QUEUE_POINTER_MISMATCH (R23): A dual-clock queue detects a pointer mismatch; it is reset, entries are discarded and the owning unit recovers with the effect of its kind. -/
  | queuePointerMismatch (dt : Nat) (kind : Fin 16) (index : Fin 64) (copies : PointerCopies)
  /-- QUEUE_RESUME (R23): A reset dual-clock queue accepts entries again, within 64 cycles of the slower clock after detection. -/
  | queueResume (dt : Nat) (kind : Fin 16) (index : Fin 64)
  /-- QUEUE_FAULT_CLASS (R24): After 1,024 clean entries or 10 ms, a queue reset is classed TRANSIENT; a further mismatch within that span makes it LASTING and takes the function out of service. -/
  | queueFaultClass (dt : Nat) (kind : Fin 16) (index : Fin 64) (entries : Nat)
  /-- HOST_UNPOPULATED_ACCESS (R28): A host access to unpopulated BAR0 or BAR2 space reads zero or is dropped and is recorded as an access error. -/
  | hostUnpopulatedAccess (dt : Nat) (bar2 write : Bool) (addr : Nat)
  /-- HOST_BAR2_WRITE (R437): A host BAR2 write is checked by FBK_HOST and the scan-lock windows and is performed or dropped. -/
  | hostBar2Write (dt : Nat) (addr : Nat) (data : HostData)
  /-- HOST_BAR2_READ (R561): A host BAR2 read is checked by FBK_HOST regions and returns device memory or zero. -/
  | hostBar2Read (dt : Nat) (addr : Nat) (len : Nat) (met : MemMet)
  /-- ENGINE_MEMORY_ACCESS (R437): An engine or Ranger access is checked on its first byte by its Firebreak unit and served by memory at its urgency. -/
  | engineMemoryAccess (dt : Nat) (unit : Fin 28) (write : Bool) (addr : Nat) (data : List Byte) (len : Nat) (met : MemMet)
  /-- DEBUG_ACCESS (R446): A debug-master access is checked against FBK_DBG and every locked region. -/
  | debugAccess (dt : Nat) (write : Bool) (addr : Nat) (data : List Byte) (read : DebugRead)
  /-- SCRUB_BLOCK_VISIT (R35): The scrubber reads one 64-byte block and writes back corrected data unless a requester wrote it meanwhile. -/
  | scrubBlockVisit (dt : Nat) (ecc : List (Fin 4))
  /-- HBM_POWER_DOWN_ENTRY (R36): A channel idle for 256 MEM cycles with MEM_TOL_MIN at least 80 ns enters power-down. -/
  | hbmPowerDownEntry (dt : Nat) (channel : Fin 64)
  /-- HBM_SELF_REFRESH_ENTRY (R36): A stack idle for 10 µs with MEM_TOL_MIN at least 4 µs enters self-refresh. -/
  | hbmSelfRefreshEntry (dt : Nat) (stack : Fin 2)
  /-- URGENCY_PROMOTION (R39): A level-3 memory request that has waited 2 µs is served at level 2. -/
  | urgencyPromotion (dt : Nat)
  /-- REG_READ_LOW_HALF (R7): A read of the low half of a 64-bit register pair captures the high half in a shadow. -/
  | regReadLowHalf (dt : Nat) (addr : Nat) (size : Nat)
  /-- REG_WRITE (R8): A register write without its own row acts by its field type: RW set, W1C clear, counters cleared, others ignored. -/
  | regWrite (dt : Nat) (addr : Nat) (size : Nat) (value : Nat)
  /-- MEM_SCRUB_CTRL_WRITE (R37): A write to MEM_SCRUB_CTRL sets the scrub period, clamped to 1 to 168 hours, and EN. -/
  | memScrubCtrlWrite (dt : Nat) (value : Word)
  /-- LDG_CRING_PROD_WRITE (R50): A write to a confirm ring's producer index is accepted or ignored with ERR and a LDG_RING_FAULT notice. -/
  | ldgCringProdWrite (dt : Nat) (ring : Fin 64) (value : Word)
  /-- HOST_CONFIRM_RECORD (R54): The ledger engine reads one host confirm record, checks it in order and applies or rejects it. -/
  | hostConfirmRecord (dt : Nat) (ring : Fin 64) (poisoned : Bool)
  /-- ENGINE_CONFIRM (R54): A confirmation from a decode pipe, capture input or encode loop-back reaches the ledger engine and is applied by steps 6 to 10. -/
  | engineConfirm (dt : Nat) (poisoned : Bool)
  /-- WHEEL_SLOT_SCAN (R58): When NOW40 enters slot s, the engine scans the slot, refiling, staling or making candidates of its cells. -/
  | wheelSlotScan (dt : Nat) (poisoned : List Nat)
  /-- WHEEL_SLOT_EXPIRY (R59): At a slot's expiry every candidate becomes STALE, its windfall entry is installed and its bitmap bits are set. -/
  | wheelSlotExpiry (dt : Nat)
  /-- SWEEPER_CELL_VISIT (R65): The sweeper visits one cell and applies the wrap guard, wheel backstop, bitmap check and filing check. -/
  | sweeperCellVisit (dt : Nat) (poisoned : Bool)
  /-- SWEEPER_LAP_END (R66): At the end of a sweeper lap LDG_SWEEP_LAPS increments and wheel and bitmap faults of the previous lap are classed. -/
  | sweeperLapEnd (dt : Nat)
  /-- LDG_SVC_READ (R74): LDG_SVC_CMD GO with WRITE 0 reads the cell into LDG_SVC_DATA, ordered with the cell's events. -/
  | ldgSvcRead (dt : Nat) (cell : Fin 1048576) (poisoned : Bool)
  /-- LDG_SVC_WRITE (R74): LDG_SVC_CMD GO with WRITE 1 writes the cell through the ledger engine, refused or adjusted as stated. -/
  | ldgSvcWrite (dt : Nat) (cell : Fin 1048576)
  /-- LDG_CELL_ALLOC (R76): Allocates COUNT contiguous host cells in the sender's partition. -/
  | ldgCellAlloc (dt : Nat) (m : Fin 8)
  /-- LDG_CELL_FREE (R76): Frees a range of cells, making them VOID and incrementing GEN. -/
  | ldgCellFree (dt : Nat) (m : Fin 8)
  /-- LDG_CELL_SET (R76): Changes LIMIT, CLASS, LATCH_EN or STAND_MASK of a range without changing GEN and clears DAMAGED. -/
  | ldgCellSet (dt : Nat) (m : Fin 8)
  /-- LDG_CELL_FORCE (R47): Sets a range of cells STALE or VOID. -/
  | ldgCellForce (dt : Nat) (m : Fin 8)
  /-- LDG_CELL_QUERY (R76): Returns NOW40 and the images of a range of cells. -/
  | ldgCellQuery (dt : Nat) (m : Fin 8)
  /-- LDG_STICKY_RELEASE (R48): Clears STICKY on every cell of a range. -/
  | ldgStickyRelease (dt : Nat) (m : Fin 8)
  /-- LDG_RING_OPEN (R49): Opens the lowest-numbered closed confirm ring for the sender's partition. -/
  | ldgRingOpen (dt : Nat) (m : Fin 8)
  /-- LDG_RING_CLOSE (R51): Closes a confirm ring after consuming every record up to the current PROD. -/
  | ldgRingClose (dt : Nat) (m : Fin 8)
  /-- LDG_NONLIVE_LIST (R68): Lists non-LIVE allocated cells of the partition from START. -/
  | ldgNonliveList (dt : Nat) (m : Fin 8)
  /-- LDG_NOTIFY_CFG (R77): Sets the stale-batch period and SAFETY_ONLY for the partition, raising the batch in progress. -/
  | ldgNotifyCfg (dt : Nat) (m : Fin 8)
  /-- LDG_STALE_BATCH (R77): At the end of a notify period with at least one transition to STALE, the stale-batch notice is raised. -/
  | ldgStaleBatch (dt : Nat) (part : Fin 4096)
  /-- LINE_SAMPLE_POINT (R87): 1.0 µs before a line, the gate reads bitmap bits, windfall entries, overrides and dispute rectangles for the line's spans. -/
  | lineSamplePoint (dt : Nat) (output : Fin 32) (y : Nat) (late : Bool) (ecc : List (Nat × Nat))
  /-- GATE_SVC_WRITE (R91): A service-mode write to a GATE_ register is stored adjusted to R91 or refused for FORCE_VOID held by R25. -/
  | gateSvcWrite (dt : Nat) (addr : Nat) (value : Word)
  /-- GATE_BIND_SET (R102): Stages cell bindings inside one layer, taking effect at the output's next commit. -/
  | gateBindSet (dt : Nat) (m : Fin 8)
  /-- GATE_BIND_CLEAR (R102): Stages removal of every binding of a layer. -/
  | gateBindClear (dt : Nat) (m : Fin 8)
  /-- GATE_SPAN_QUERY (R102): Returns entries of an output's active or staged span set. -/
  | gateSpanQuery (dt : Nat) (m : Fin 8)
  /-- GATE_TREAT_CFG (R91): Sets the treatment colours and alphas, refused when R91 is broken. -/
  | gateTreatCfg (dt : Nat) (m : Fin 8)
  /-- GATE_OUTPUT_CFG (R89): Sets one output's sampling, pulse mark and clearing-number settings. -/
  | gateOutputCfg (dt : Nat) (m : Fin 8)
  /-- STAND_CFG (R107): Sets a stand's phase, applied to its outputs by R110. -/
  | standCfg (dt : Nat) (m : Fin 8)
  /-- OUT_ENABLE (R113): Enables an output, which starts at the first grid instant at least two frame periods later. -/
  | outEnable (dt : Nat) (m : Fin 8)
  /-- OUT_DISABLE (R114): Requests an output drain. -/
  | outDisable (dt : Nat) (m : Fin 8)
  /-- OUT_SET (R125): Changes CLASS, PRIORITY or LATCH_LINE of a running output from its next frame start. -/
  | outSet (dt : Nat) (m : Fin 8)
  /-- OUT_QUERY (R125): Returns an output's control image, frame counter, frame start, tolerance and underrun figures. -/
  | outQuery (dt : Nat) (m : Fin 8)
  /-- FRAME_START (R109): An output starts a frame on its stand grid; F increments and FRAME_START is sent when TX is 1. -/
  | frameStart (dt : Nat) (output : Fin 32)
  /-- LINE_START (R105): An active line begins at the gate; its pixels are composed, treated, tapped and sent. -/
  | lineStart (dt : Nat) (output : Fin 32) (y : Nat) (gaps : List (Nat × Nat)) (poison : List Nat) (pool : Nat)
  /-- FRAME_END (R120): At the end of a frame's active area, underrun counts are judged and a frame with more than 8 underrun lines is classed. -/
  | frameEnd (dt : Nat) (output : Fin 32)
  /-- OUT_DRAIN_COMPLETE (R114): An output's drain completes; buffers are released, the output enters OFF and the OUT_DISABLE response is sent. -/
  | outDrainComplete (dt : Nat) (output : Fin 32)
  /-- OUT_DRAIN_TIMEOUT (R115): An output drain that exceeds its timeout resets the output, which enters OFF with the RESET flag. -/
  | outDrainTimeout (dt : Nat) (output : Fin 32)
  /-- CNP_OUT_LATCH_WRITE (R123): A service-mode write of the latch line is stored clamped to V active to V total − 3 from the next frame start. -/
  | cnpOutLatchWrite (dt : Nat) (output : Fin 32) (value : Word)
  /-- CNP_FSTART_NS_READ (R122): A read of CNP_OUT_FSTART_NS captures both second registers in shadows. -/
  | cnpFstartNsRead (dt : Nat) (output : Fin 32)
  /-- CNP_CRING_PROD_WRITE (R151): A commit ring doorbell write is accepted or ignored; accepted commits get their target frame. -/
  | cnpCringProdWrite (dt : Nat) (output : Fin 32) (value : Word)
  /-- LATCH_LINE (R156): At an output's latch line the commit engine reads fences, applies candidates, swaps windows, buffers and spans and raises notices. -/
  | latchLine (dt : Nat) (output : Fin 32)
  /-- CNP_LAYER_SVC_WRITE (R140): A service-mode write to layer fields takes effect at the next latch line, checked and clipped by the hardware. -/
  | cnpLayerSvcWrite (dt : Nat) (addr : Nat) (value : Word)
  /-- CNP_BUF_SET (R142): Writes a buffer record and increments its generation. -/
  | cnpBufSet (dt : Nat) (m : Fin 8)
  /-- CNP_BUF_CLEAR (R142): Empties a buffer record and increments its generation. -/
  | cnpBufClear (dt : Nat) (m : Fin 8)
  /-- CNP_LAYOUT_PREPARE (R147): Builds and admits a new stage for an output. -/
  | cnpLayoutPrepare (dt : Nat) (m : Fin 8)
  /-- CNP_CRING_OPEN (R148): Opens an output's commit ring. -/
  | cnpCringOpen (dt : Nat) (m : Fin 8)
  /-- CNP_CRING_CLOSE (R160): Closes an output's commit ring after commits below PROD complete. -/
  | cnpCringClose (dt : Nat) (m : Fin 8)
  /-- LOOKOUT_FRAME_POST (R165): Lookout posts the frame's signatures and region verdicts within 20 µs after its last active pixel. -/
  | lookoutFramePost (dt : Nat) (output : Fin 32)
  /-- RETURN_SIG_RECEIVED (R183): A RETURN_SIG message is compared with the history entry of its tag, giving MATCH or MISMATCH. -/
  | returnSigReceived (dt : Nat) (output : Fin 32) (body : List Byte)
  /-- LKO_REGION_SVC_WRITE (R169): A service-mode write to the region window is stored adjusted. -/
  | lkoRegionSvcWrite (dt : Nat) (addr : Nat) (value : Word)
  /-- LKO_REGION_SET (R170): Writes up to 100 Lookout region entries. -/
  | lkoRegionSet (dt : Nat) (m : Fin 8)
  /-- LKO_REGION_CLEAR (R188): Sets KIND 0 on a range of regions, releasing their holds. -/
  | lkoRegionClear (dt : Nat) (m : Fin 8)
  /-- LKO_REF_SET (R189): Sets MATCH_REF references, immediately or from the next commit. -/
  | lkoRefSet (dt : Nat) (m : Fin 8)
  /-- LKO_REGION_QUERY (R188): Returns up to 240 region entries. -/
  | lkoRegionQuery (dt : Nat) (m : Fin 8)
  /-- DEC_SESSION_OPEN (R195): Opens and places a decode session with its cells and memory. -/
  | decSessionOpen (dt : Nat) (m : Fin 8)
  /-- DEC_SESSION_CLOSE (R220): Requests a decode session drain and close. -/
  | decSessionClose (dt : Nat) (m : Fin 8)
  /-- DEC_SESSION_PARAMS (R197): Supplies parameter sets out of band to a session. -/
  | decSessionParams (dt : Nat) (m : Fin 8)
  /-- DEC_SESSION_ANCHOR (R205): Sets a session's RTP-to-PTP anchor. -/
  | decSessionAnchor (dt : Nat) (m : Fin 8)
  /-- DEC_SESSION_QUERY (R224): Returns a session's registers and anchor. -/
  | decSessionQuery (dt : Nat) (m : Fin 8)
  /-- DEC_PIPE_CTRL (R221): Drains a decode pipe or returns it to service. -/
  | decPipeCtrl (dt : Nat) (m : Fin 8)
  /-- DEC_ROW_DECODE (R194): A pipe decodes one row of a session within its cycle budget, concealing what it cannot decode. -/
  | decRowDecode (dt : Nat) (session : Fin 128) (row : DecRow)
  /-- DEC_PICTURE_COMPLETE (R202): A picture becomes complete and the session confirms its cells with the capture stamp. -/
  | decPictureComplete (dt : Nat) (session : Fin 128) (index : Nat)
  /-- DEC_PICTURE_TIMEOUT (R211): No packet for two picture periods ends the picture and conceals the rest as DATA_LOST. -/
  | decPictureTimeout (dt : Nat) (session : Fin 128)
  /-- DEC_RATE_WINDOW_END (R196): At the end of a 10 ms window a session over its allotment is counted OVERRATE. -/
  | decRateWindowEnd (dt : Nat) (session : Fin 128)
  /-- DEC_DRAIN_COMPLETE (R220): A decode session drain completes; cells and memory are freed and the response is sent. -/
  | decDrainComplete (dt : Nat) (session : Fin 128)
  /-- DEC_DRAIN_TIMEOUT (R220): A decode drain past its timeout resets the pipe for the session, confirming RECOVER. -/
  | decDrainTimeout (dt : Nat) (session : Fin 128)
  /-- ENC_SESSION_OPEN (R232): Opens and places an encode session. -/
  | encSessionOpen (dt : Nat) (m : Fin 8)
  /-- ENC_SESSION_CLOSE (R246): Requests an encode session drain and close. -/
  | encSessionClose (dt : Nat) (m : Fin 8)
  /-- ENC_SESSION_SET (R237): Changes KBPS, QP limits or DQP_ROW from the next picture. -/
  | encSessionSet (dt : Nat) (m : Fin 8)
  /-- ENC_REFRESH (R236): Restarts the Coppice cycle at the next picture. -/
  | encRefresh (dt : Nat) (m : Fin 8)
  /-- ENC_SESSION_QUERY (R249): Returns an encode session's registers. -/
  | encSessionQuery (dt : Nat) (m : Fin 8)
  /-- ENC_PIPE_CTRL (R246): Drains an encode pipe or returns it to service. -/
  | encPipeCtrl (dt : Nat) (m : Fin 8)
  /-- ENC_ROW_CODE (R238): Once its source lines are written, a pipe codes one row under rate control, recoding it as skip when over budget. -/
  | encRowCode (dt : Nat) (session : Fin 32) (row : EncCode)
  /-- ENC_PICTURE_DONE (R241): When a picture's last chunk is handed out, the loop-back cell is confirmed. -/
  | encPictureDone (dt : Nat) (session : Fin 32)
  /-- ENC_SES_RING_CONS_WRITE (R242): A host write of the encoder ring consumer index is accepted or ignored with ERR. -/
  | encSesRingConsWrite (dt : Nat) (session : Fin 32) (value : Word)
  /-- ENC_DRAIN_COMPLETE (R246): An encode session drain completes and the session closes. -/
  | encDrainComplete (dt : Nat) (session : Fin 32)
  /-- ENC_DRAIN_TIMEOUT (R246): An encode drain past its timeout discards the picture in flight and resets. -/
  | encDrainTimeout (dt : Nat) (session : Fin 32)
  /-- ETH_FRAME_RECEIVED (R252): A received Ethernet frame is checked and classified to PTP, firmware, an ingest queue or a drop counter. -/
  | ethFrameReceived (dt : Nat) (port : Fin 2) (bytes : List Byte) (intake : PortIntake)
  /-- PFC_RENEW (R265): Every 500 µs a still-held class is paused again. -/
  | pfcRenew (dt : Nat) (port : Fin 2) (cls : Fin 8)
  /-- PFC_PAUSE_TIMEOUT (R267): A class paused for more than 50 ms has its queued frames discarded. -/
  | pfcPauseTimeout (dt : Nat) (port : Fin 2) (cls : Fin 8)
  /-- QUEUE_SET_MARK (R261): The pipe sets a mark at RD, failing as MARK_LOST without a free slot. -/
  | queueSetMark (dt : Nat) (session : Fin 128)
  /-- QUEUE_REWIND (R261): The pipe moves RD to a valid mark, failing on a cancelled mark. -/
  | queueRewind (dt : Nat) (session : Fin 128) (mark : Fin 4)
  /-- QUEUE_RELEASE (R261): The pipe frees a mark slot and TAIL is recomputed. -/
  | queueRelease (dt : Nat) (session : Fin 128) (mark : Fin 4)
  /-- QUEUE_READ (R261): The pipe reads the item at RD or finds the queue empty at once. -/
  | queueRead (dt : Nat) (read : PipeRead)
  /-- PORT_LINK_CHANGE (R251): A port's link goes up on block lock or down on its loss, raising PKT_LINK. -/
  | portLinkChange (dt : Nat) (port : Fin 2) (up : Bool)
  /-- TX_SENDER_REPORT (R269): Every SR_MS a transmit flow sends an RTCP sender report, withheld while untrusted. -/
  | txSenderReport (dt : Nat) (session : Fin 32)
  /-- PKT_QDIAG_GO (R272): PKT_QDIAG_CTRL GO copies the item header at RD into the diagnostic registers. -/
  | pktQdiagGo (dt : Nat) (value : Word)
  /-- PKT_Q_WMARK_WRITE (R272): A service write of the watermarks is stored adjusted to R264. -/
  | pktQWmarkWrite (dt : Nat) (session : Fin 128) (value : Word)
  /-- PKT_PORT_CFG (R273): Sets a port's addresses and PFC mask. -/
  | pktPortCfg (dt : Nat) (m : Fin 8)
  /-- PKT_FLOW_SET (R254): Sets or removes a decode session's flow filter. -/
  | pktFlowSet (dt : Nat) (m : Fin 8)
  /-- PKT_FLOW_KEY (R258): Installs an SRTP key for a flow from FROM_INDEX. -/
  | pktFlowKey (dt : Nat) (m : Fin 8)
  /-- PKT_TX_FLOW_SET (R268): Sets an encode session's transmit flow. -/
  | pktTxFlowSet (dt : Nat) (m : Fin 8)
  /-- PKT_QUEUE_READ (R273): Copies an item of an ingest queue without moving RD, waiting for one when needed. -/
  | pktQueueRead (dt : Nat) (m : Fin 8)
  /-- PKT_QUEUE_READ_TIMEOUT (R273): A PKT_QUEUE_READ that finds no item within TIMEOUT_MS completes with TIMEOUT. -/
  | pktQueueReadTimeout (dt : Nat) (session : Fin 128)
  /-- PKT_PORT_QUERY (R273): Returns a port's registers. -/
  | pktPortQuery (dt : Nat) (m : Fin 8)
  /-- PTP_MEASUREMENT (R282): The servo takes an offset measurement and moves its state or rate. -/
  | ptpMeasurement (dt : Nat) (port : Fin 2) (master gm : Nat) (t1 t2 t3 t4 : Int)
  /-- MASTER_LOSS (R279): Missing Announce or Sync messages declare the master lost. -/
  | masterLoss (dt : Nat)
  /-- HOLDOVER_EXPIRY (R282): HOLDOVER_S elapsing in HOLDOVER takes the servo to UNTRUSTED. -/
  | holdoverExpiry (dt : Nat)
  /-- TIM_TXQ_HEAD_POP (R281): A Ranger read of TIM_TXQ_HEAD pops the transmit-timestamp queue. -/
  | timTxqHeadPop (dt : Nat)
  /-- TIM_NS_READ (R291): A read of a TIM_ _NS register captures its second registers in shadows. -/
  | timNsRead (dt : Nat) (reg : Fin 3)
  /-- PPS_OUT_RISE (R288): PPS_OUT rises as the local PTP nanoseconds pass zero, gated by TRUSTED. -/
  | ppsOutRise (dt : Nat)
  /-- PPS_OUT_FALL (R288): PPS_OUT falls after WIDTH_US. -/
  | ppsOutFall (dt : Nat)
  /-- PPS_IN_EDGE (R289): A PPS_IN rising edge is captured and checked against the whole second. -/
  | ppsInEdge (dt : Nat)
  /-- TIM_CFG (R292): Sets the PTP domain, ports, transport, PCP, thresholds and VLAN. -/
  | timCfg (dt : Nat) (m : Fin 8)
  /-- TIM_RE_EPOCH (R285): Grants a step permit. -/
  | timReEpoch (dt : Nat) (m : Fin 8)
  /-- TIM_PPS_CFG (R288): Sets the 1PPS output and input check. -/
  | timPpsCfg (dt : Nat) (m : Fin 8)
  /-- TIM_QUERY (R292): Returns the time unit's status registers. -/
  | timQuery (dt : Nat) (m : Fin 8)
  /-- LANE_POWER_UP_DONE (R313): 400 µs after power-up a lane enters DETECT. -/
  | lanePowerUpDone (dt : Nat) (lane : Fin 52)
  /-- DETECT_PROBE (R313): A receiver-detection probe every 1 ms moves the lane to TRAIN when the termination is found. -/
  | detectProbe (dt : Nat) (lane : Fin 52) (found : Bool)
  /-- LANE_TRAIN_TIMEOUT (R313): 2.5 ms in TRAIN returns the lane to DETECT. -/
  | laneTrainTimeout (dt : Nat) (lane : Fin 52)
  /-- LANE_CAPS_TIMEOUT (R313): 1.0 ms in CAPS returns the lane to DETECT. -/
  | laneCapsTimeout (dt : Nat) (lane : Fin 52)
  /-- KLN_BLOCK_RECEIVED (R299): A 66-bit block is received, checked and handled as data or an ordered set, moving lock and lane state. -/
  | klnBlockReceived (dt : Nat) (lane : Fin 54) (sync : Fin 4) (bytes : List Byte) (fill : Fin 17) (offset : Int)
  /-- KLN_FLIT_RECEIVED (R308): A flit is accepted and acknowledged, NAKed or discarded, and its payload delivered. -/
  | klnFlitReceived (dt : Nat) (lane : Fin 52) (bytes : List Byte) (spoilt : Bool)
  /-- ACK_NAK_RECEIVED (R309): An ACK frees replay buffer entries; a NAK starts a replay. -/
  | ackNakReceived (dt : Nat) (lane : Fin 52) (nak : Bool) (seq : Fin 65536)
  /-- REPLAY_TIMEOUT (R309): 4.0 µs without ACK or NAK replays from the oldest outstanding flit. -/
  | replayTimeout (dt : Nat) (lane : Fin 52)
  /-- LANE_SIGNAL_LOSS (R313): No valid sync header for 10 µs returns an ACTIVE lane to DETECT. -/
  | laneSignalLoss (dt : Nat) (lane : Fin 52)
  /-- STATUS_MSG_RECEIVED (R320): A STATUS message updates the lane's partner flags. -/
  | statusMsgReceived (dt : Nat) (lane : Fin 52) (body : List Byte)
  /-- HOTPLUG_MSG_RECEIVED (R320): A HOTPLUG message records the sink change. -/
  | hotplugMsgReceived (dt : Nat) (lane : Fin 52) (body : List Byte)
  /-- PARTNER_SILENT_TIMEOUT (R320): 300 ms without STATUS sets PARTNER_SILENT. -/
  | partnerSilentTimeout (dt : Nat) (lane : Fin 52)
  /-- DEVICE_STATUS_SEND (R320): Every 100 ms the device sends DEVICE_STATUS on each lane. -/
  | deviceStatusSend (dt : Nat) (lane : Fin 48)
  /-- CAP_PICTURE_COMPLETE (R325): A capture picture's last line is written; it becomes newest and the input confirms its cell. -/
  | capPictureComplete (dt : Nat) (input : Fin 16)
  /-- CAP_DRAIN_COMPLETE (R327): A capture input drain completes and the input goes OFF. -/
  | capDrainComplete (dt : Nat) (input : Fin 16)
  /-- CAP_DRAIN_TIMEOUT (R327): A capture drain past its timeout discards the picture and resets the input. -/
  | capDrainTimeout (dt : Nat) (input : Fin 16)
  /-- KLN_LANE_CTRL (R331): Takes a lane down, brings it up or retrains it. -/
  | klnLaneCtrl (dt : Nat) (m : Fin 8)
  /-- KLN_LANE_QUERY (R331): Returns a lane's registers. -/
  | klnLaneQuery (dt : Nat) (m : Fin 8)
  /-- CAP_ENABLE (R326): Enables a capture input with its cell and memory. -/
  | capEnable (dt : Nat) (m : Fin 8)
  /-- CAP_DISABLE (R327): Requests a capture input drain. -/
  | capDisable (dt : Nat) (m : Fin 8)
  /-- CAP_QUERY (R331): Returns a capture input's registers. -/
  | capQuery (dt : Nat) (m : Fin 8)
  /-- HB_PIN_TOGGLE (R338): PAIR_HB_OUT changes level at every 50,000 ns of the age clock. -/
  | hbPinToggle (dt : Nat)
  /-- HEARTBEAT_SEND (R338): A HEARTBEAT message is sent every 100 µs on each ACTIVE pair lane. -/
  | heartbeatSend (dt : Nat)
  /-- HB_PIN_EDGE (R340): An edge on PAIR_HB_IN keeps the pin path alive and paces the junior's rate. -/
  | hbPinEdge (dt : Nat) (level : Bool)
  /-- HEARTBEAT_RECEIVED (R350): A HEARTBEAT updates the partner's role and the age and PTP offset measurement and control. -/
  | heartbeatReceived (dt : Nat) (lane : Fin 4) (body : List Byte)
  /-- PARTNER_LOST (R340): Both heartbeat paths silent for T_loss declare the partner lost and change the role. -/
  | partnerLost (dt : Nat)
  /-- PAIR_LINK_LOST (R354): The link path falling silent while the pin path lives makes the standby BLIND_STANDBY. -/
  | pairLinkLost (dt : Nat)
  /-- FINDING_TIMEOUT (R337): No partner heartbeat for 2.0 s in FINDING makes the device SOLO. -/
  | findingTimeout (dt : Nat)
  /-- PAIR_LCS_RECEIVED (R344): The standby executes a forwarded LCS command and compares the result. -/
  | pairLcsReceived (dt : Nat) (pseq : Word) (body : List Byte)
  /-- PAIR_HOST_WRITE_RECEIVED (R344): The standby applies or drops a forwarded host write through FBK_PAIR. -/
  | pairHostWriteReceived (dt : Nat) (pseq : Word) (body : List Byte)
  /-- PAIR_DOORBELL_RECEIVED (R344): The standby applies a forwarded ring doorbell. -/
  | pairDoorbellReceived (dt : Nat) (pseq : Word) (body : List Byte)
  /-- PAIR_LATCH_RECEIVED (R347): The standby applies the active's latch decision, late latches being flagged. -/
  | pairLatchReceived (dt : Nat) (pseq : Word) (body : List Byte)
  /-- PAIR_SIGREC_RECEIVED (R356): A partner signature record is matched and the output's frame is compared. -/
  | pairSigrecReceived (dt : Nat) (body : List Byte)
  /-- PAIR_DISPUTE_RECEIVED (R359): A DISPUTE message sets or removes dispute rectangles from its named frame. -/
  | pairDisputeReceived (dt : Nat) (pseq : Word) (body : List Byte)
  /-- PAIR_ROLE_RECEIVED (R365): A ROLE message for handover, retake or role report is acted on. -/
  | pairRoleReceived (dt : Nat) (pseq : Word) (body : List Byte)
  /-- PAIR_XFER_RECEIVED (R352): A state-transfer block is written on the joiner through FBK_PAIR. -/
  | pairXferReceived (dt : Nat) (pseq : Word) (body : List Byte) (settings : Option Machine.Settings)
  /-- PAIR_RETX_RECEIVED (R342): The sender retransmits the requested PSEQ range. -/
  | pairRetxReceived (dt : Nat) (body : List Byte)
  /-- PAIR_TIME_RECEIVED (R351): The standby applies a forwarded PTP step or rate. -/
  | pairTimeReceived (dt : Nat) (pseq : Word) (body : List Byte)
  /-- PAIR_GAP_TIMEOUT (R342): An ordered-message gap unfilled for 100 µs sends RETX. -/
  | pairGapTimeout (dt : Nat)
  /-- JOIN_CUTOVER (R352): After the transfer, the joiner adopts outputs, spans and disputes at a latch line and becomes STANDBY. -/
  | joinCutover (dt : Nat)
  /-- EGRESS_BRINGUP_TIMEOUT (R362): An egress lane not ACTIVE within 8 ms of OUT_OWN fails the takeover. -/
  | egressBringupTimeout (dt : Nat)
  /-- FORCE_VOID_HOLD_RELEASE (R362): An output held FORCE_VOID is released after its lane has been ACTIVE for 1 s. -/
  | forceVoidHoldRelease (dt : Nat) (output : Fin 32)
  /-- SEL_STATUS_CHANGE (R366): SEL_STATUS changes level and starts or stops the yield count. -/
  | selStatusChange (dt : Nat) (level : Bool)
  /-- YIELD (R366): SEL_STATUS low for T_YIELD makes the device deassert OUT_OWN and become ISOLATED. -/
  | yield (dt : Nat)
  /-- ILK_WAIT_EXPIRY (R367): ILK_IN_N high for 20 ms after partner loss lets the device drive its claim. -/
  | ilkWaitExpiry (dt : Nat)
  /-- ILK_SAMPLE (R367): 1 ms after claiming, ILK_IN_N is sampled to assert OUT_OWN or retry. -/
  | ilkSample (dt : Nat)
  /-- SWITCHOVER_INSTANT (R365): At the handover instant the active deasserts OUT_OWN and the standby takes over. -/
  | switchoverInstant (dt : Nat)
  /-- PAIR_CFG (R370): Sets T_loss, HOT_EGRESS and DISPUTE_MARK. -/
  | pairCfg (dt : Nat) (m : Fin 8)
  /-- PAIR_SWITCHOVER (R365): Hands over to the standby, or with FORCE takes over from BLIND_STANDBY. -/
  | pairSwitchover (dt : Nat) (m : Fin 8)
  /-- PAIR_REJOIN (R370): Returns an ISOLATED device to FINDING and join. -/
  | pairRejoin (dt : Nat) (m : Fin 8)
  /-- PAIR_QUERY (R370): Returns the pair registers. -/
  | pairQuery (dt : Nat) (m : Fin 8)
  /-- MBX_DOORBELL (R375): A doorbell write with GO posts the message or is ignored with DB_ERR. -/
  | mbxDoorbell (dt : Nat) (m : Fin 8) (go irq : Bool)
  /-- MBX_DONE_CLEAR (R375): A write of 1 to DONE returns the mailbox to IDLE. -/
  | mbxDoneClear (dt : Nat) (m : Fin 8)
  /-- MBX_AREA_WRITE (R375): A host write to a message area is performed, or dropped with WR_DROP while POSTED or BUSY. -/
  | mbxAreaWrite (dt : Nat) (m : Fin 8) (off : Nat) (data : List Byte)
  /-- MBX_NRING_CONS_WRITE (R382): A notification ring CONS write is accepted or ignored with ERR. -/
  | mbxNringConsWrite (dt : Nat) (ring : Fin 8) (value : Word)
  /-- MBX_NRING_LEVEL_WRITE (R384): A write of LEVEL is stored clamped and takes effect at the next PROD advance. -/
  | mbxNringLevelWrite (dt : Nat) (ring : Fin 8) (value : Word)
  /-- NOTICE_BACKLOG_WRITE (R383): When ring space returns, the overflow record, backlog and new notices are written. -/
  | noticeBacklogWrite (dt : Nat) (ring : Fin 8)
  /-- NOTICE_COALESCE_EXPIRY (R564): At the end of a 10 ms coalescing window with folded occurrences, one notice is raised. -/
  | noticeCoalesceExpiry (dt : Nat)
  /-- FIRMWARE_STOP (R386): Ranger stops; READY clears and posted and busy mailboxes are completed by the hardware. -/
  | firmwareStop (dt : Nat) (cause : Nat) (part : Fin 3)
  /-- FIRMWARE_READY (R386): Lysman firmware reports ready; READY is set and vector 0 is requested. -/
  | firmwareReady (dt : Nat)
  /-- RESTART_CLASS_EXPIRY (R388): 10 s after a lockstep or watchdog restart without another, the restart is TRANSIENT. -/
  | restartClassExpiry (dt : Nat)
  /-- PCIE_FUNCTION_RESET (R389): An FLR or PCIE_PERST_N resets the host port, returns mailboxes to IDLE and closes notification rings. -/
  | pcieFunctionReset (dt : Nat) (perst : Bool)
  /-- MBX_NRING_OPEN (R380): Opens a notification ring in host memory. -/
  | mbxNringOpen (dt : Nat) (m : Fin 8)
  /-- MBX_NRING_CLOSE (R380): Closes a notification ring, discarding unwritten notices. -/
  | mbxNringClose (dt : Nat) (m : Fin 8)
  /-- SYS_IDENTIFY (R410): Returns identification of the device and firmware. -/
  | sysIdentify (dt : Nat) (m : Fin 8)
  /-- SYS_HEALTH (R410): Returns fault counts, role, temperature, power and readiness. -/
  | sysHealth (dt : Nat) (m : Fin 8)
  /-- SYS_SERVICE (R411): Leaves, enters or renews service mode, or sets the service lock. -/
  | sysService (dt : Nat) (m : Fin 8)
  /-- SERVICE_TIMEOUT (R411): Service mode ends TIMEOUT_S after its last entry or renewal. -/
  | serviceTimeout (dt : Nat)
  /-- SYS_FW_RESTART (R410): Orders a firmware restart with cause 7. -/
  | sysFwRestart (dt : Nat) (m : Fin 8)
  /-- SYS_PART_CREATE (R398): Creates a partition with quotas. -/
  | sysPartCreate (dt : Nat) (m : Fin 8)
  /-- SYS_PART_GRANT (R399): Adds or removes a memory grant of a partition. -/
  | sysPartGrant (dt : Nat) (m : Fin 8)
  /-- SYS_PART_DESTROY (R397): Destroys a partition that holds nothing. -/
  | sysPartDestroy (dt : Nat) (m : Fin 8)
  /-- SYS_PART_QUERY (R410): Returns a partition's quotas, use and grants. -/
  | sysPartQuery (dt : Nat) (m : Fin 8)
  /-- SYS_MBX_BIND (R378): Binds a mailbox to a partition. -/
  | sysMbxBind (dt : Nat) (m : Fin 8)
  /-- POL_WINDOW_END (R423): At the end of each 100 ms window pressures are evaluated and rungs applied or released. -/
  | polWindowEnd (dt : Nat) (measure : PolMeasure)
  /-- POL_CFG (R432): Sets the enabled rungs, thermal margin, windows and encoder cap. -/
  | polCfg (dt : Nat) (m : Fin 8)
  /-- POL_QUERY (R432): Returns rungs in force, pressures and parked sessions. -/
  | polQuery (dt : Nat) (m : Fin 8)
  /-- POL_MEASURE (R432): Returns the measurements of the last window. -/
  | polMeasure (dt : Nat) (m : Fin 8)
  /-- FBK_BARRIER_GO (R441): A barrier write makes a unit's staged rules active and clears DONE. -/
  | fbkBarrierGo (dt : Nat) (unit : Fin 28) (inFlight : Fin 65536) (byRanger : Bool)
  /-- FBK_BARRIER_COMPLETE (R442): DONE becomes 1 when every access checked under the old rules has completed. -/
  | fbkBarrierComplete (dt : Nat) (step : BarrierStep)
  /-- FBK_REGION_WRITE (R436): A write to a staged region is stored adjusted, or ignored for a locked region. -/
  | fbkRegionWrite (dt : Nat) (unit : Fin 28) (region : Fin 48) (word : Fin 3) (value : Word) (byRanger : Bool)
  /-- FBK_QUERY (R453): Returns a Firebreak unit's registers and active regions. -/
  | fbkQuery (dt : Nat) (m : Fin 8)
  /-- WATCHDOG_EXPIRY (R464): A Ranger watchdog expiry restarts Lysman firmware with its cause. -/
  | watchdogExpiry (dt : Nat) (unit : Fin 3)
  /-- LOCKSTEP_MISMATCH (R465): A Ranger S core mismatch halts both cores and restarts firmware with cause 4. -/
  | lockstepMismatch (dt : Nat)
  /-- TEMP_SAMPLE (R466): Every 1 ms the sensors are sampled, moving TEMP_ALERT_N and thermal pressure. -/
  | tempSample (dt : Nat) (readings : List Int)
  /-- HLT_INJ_ARM_WRITE (R475): A write of the arming key advances, completes or cancels the arming sequence. -/
  | hltInjArmWrite (dt : Nat) (value : Word)
  /-- INJ_ARM_EXPIRY (R475): ARMED clears 1 s after arming, or a gap over 1 ms cancels the sequence. -/
  | injArmExpiry (dt : Nat)
  /-- HLT_INJ_GO (R476): GO while armed checks the selection and sets PENDING, or refuses with a cause. -/
  | hltInjGo (dt : Nat) (value : Word)
  /-- INJECTION_EXPIRY (R476): A pending injection without a first occasion within 1 s is cancelled with EXPIRED. -/
  | injectionExpiry (dt : Nat)
  /-- CVU_GO (R471): GO starts a CVU scan of LEN bytes from ADDR. -/
  | cvuGo (dt : Nat) (unit : Fin 4) (host : Bool) (value : Word)
  /-- CVU_ABORT (R471): ABORT stops a CVU scan after the current block. -/
  | cvuAbort (dt : Nat) (unit : Fin 4) (host : Bool) (value : Word)
  /-- CVU_RESET (R468): RESET loads INIT into RUN. -/
  | cvuReset (dt : Nat) (unit : Fin 4) (host : Bool) (value : Word)
  /-- CVU_DATA_WRITE (R470): A write to CVU_DATA feeds bytes into the CRC. -/
  | cvuDataWrite (dt : Nat) (unit : Fin 4) (host : Bool) (words : List Word)
  /-- CVU_RUN_WRITE (R472): A write to CVU_RUN_LO commits a saved RUN value. -/
  | cvuRunWrite (dt : Nat) (unit : Fin 4) (host : Bool) (lo : Word) (hi : Option Word)
  /-- CVU_SCAN_COMPLETE (R471): A CVU scan ends complete, poisoned, denied or aborted. -/
  | cvuScanComplete (dt : Nat) (unit : Fin 4) (done : Nat) (poison : Option Nat)
  /-- HLT_QUERY (R483): Returns the collector registers and log. -/
  | hltQuery (dt : Nat) (m : Fin 8)
  /-- HLT_ACK (R461): Clears LASTING_PEND. -/
  | hltAck (dt : Nat) (m : Fin 8)
  /-- HLT_INJECT (R483): Arms and performs an injection on the sender's behalf. -/
  | hltInject (dt : Nat) (m : Fin 8)
  /-- CVU_CHECK (R483): Runs one CRC scan on CVU2 or CVU3. -/
  | cvuCheck (dt : Nat) (m : Fin 8)
  /-- BLZ_RECORD_COMPOSE (R489): Blaze composes one record from the oldest queue entry into the volatile buffer. -/
  | blzRecordCompose (dt : Nat)
  /-- BLZ_FLUSH_START (R495): A flush starts on volume, age, severity, order, power failure or command. -/
  | blzFlushStart (dt : Nat)
  /-- BLZ_FLUSH_DONE (R495): A flush has written every unflushed record to the persistent log. -/
  | blzFlushDone (dt : Nat)
  /-- BLZ_XSPI_TIMEOUT (R499): An xSPI transfer without DQS within 100 ns is retried once, or stops flushing. -/
  | blzXspiTimeout (dt : Nat) (addr : Nat) (again : Bool)
  /-- BLZ_QUERY (R505): Returns the BLZ_ registers. -/
  | blzQuery (dt : Nat) (m : Fin 8)
  /-- BLZ_READ (R501): Returns whole records in SEQ order with verdicts. -/
  | blzRead (dt : Nat) (m : Fin 8)
  /-- BLZ_FLUSH (R505): Flushes the buffer and responds when nothing is unflushed. -/
  | blzFlush (dt : Nat) (m : Fin 8)
  /-- BLZ_LIST_SET (R493): Sets a snapshot list and its triggers. -/
  | blzListSet (dt : Nat) (m : Fin 8)
  /-- BLZ_MARK (R505): Adds a host mark trigger. -/
  | blzMark (dt : Nat) (m : Fin 8)
  /-- BLZ_LOG_CLEAR (R505): Uncommits every record of both rings in service mode. -/
  | blzLogClear (dt : Nat) (m : Fin 8)
  /-- RESET_ASSERT (R507): RESET_N low abandons whatever is in progress. -/
  | resetAssert (dt : Nat)
  /-- RESET_RELEASE (R509): RESET_N release samples the straps and begins a cold start. -/
  | resetRelease (dt : Nat) (bootSrc : Fin 4) (side ilk dbgEn : Bool)
  /-- WARM_N_ASSERT (R513): WARM_N low begins a warm start unless refused. -/
  | warmNAssert (dt : Nat)
  /-- WARM_START_BEGIN (R514): A warm start ordered by SYS_WARM_START begins after its response. -/
  | warmStartBegin (dt : Nat)
  /-- START_STEP_DONE (R509): A start-up step completes and the next step begins. -/
  | startStepDone (dt : Nat) (facts : StartFacts)
  /-- PWR_FAIL_ASSERT (R522): PWR_FAIL_N assertion enters POWER_FAIL, stops heartbeats and starts the Blaze power-fail flush. -/
  | pwrFailAssert (dt : Nat)
  /-- PWR_FAIL_RECOVER (R522): PWR_FAIL_N high for 10 ms after the flush gives a warm start. -/
  | pwrFailRecover (dt : Nat)
  /-- POWER_STATE_ENTRY_DONE (R520): Entry into RETENTION or DEEP completes. -/
  | powerStateEntryDone (dt : Nat)
  /-- SYS_WAKE_WRITE (R521): A write of 0x5A57 to SYS_WAKE wakes the device from RETENTION. -/
  | sysWakeWrite (dt : Nat) (value : Word)
  /-- SYS_START_QUERY (R524): Returns the start and power registers. -/
  | sysStartQuery (dt : Nat) (m : Fin 8)
  /-- SYS_WARM_START (R513): Orders a warm start. -/
  | sysWarmStart (dt : Nat) (m : Fin 8)
  /-- SYS_IMAGE_QUERY (R524): Returns verdicts and headers of the four image items. -/
  | sysImageQuery (dt : Nat) (m : Fin 8)
  /-- SYS_IMAGE_WRITE (R524): Writes a board table or firmware image into a slot of the boot flash. -/
  | sysImageWrite (dt : Nat) (m : Fin 8)
  /-- SYS_IMAGE_WRITE_DONE (R524): An image write finishes with its read-back verdict. -/
  | sysImageWriteDone (dt : Nat) (failed : Bool) (altered : List (Nat × Nat × Nat))
  /-- SYS_POWER (R520): Enters RETENTION or DEEP. -/
  | sysPower (dt : Nat) (m : Fin 8)
  /-- STRIP_SCAN (R529): The strip scans its nodes and applies the per-node baseline and touch rules. -/
  | stripScan (dt : Nat) (cm : List Nat)
  /-- STRIP_CFG (R537): Sets the strip's scan, thresholds, timing and wake settings. -/
  | stripCfg (dt : Nat) (m : Fin 8)
  /-- STRIP_CONTROL_SET (R533): Defines or removes a strip control. -/
  | stripControlSet (dt : Nat) (m : Fin 8)
  /-- STRIP_REBASELINE (R531): Repeats baselining for selected nodes. -/
  | stripRebaseline (dt : Nat) (m : Fin 8)
  /-- STRIP_QUERY (R537): Returns the strip registers. -/
  | stripQuery (dt : Nat) (m : Fin 8)
  /-- AVS_SETPOINT_UPDATE (R548): Every 100 ms the VDD_CORE set point is updated over AVSBus. -/
  | avsSetpointUpdate (dt : Nat) (up : Bool) (tries : List Bool)
  /-- AVS_READBACK (R549): Every 100 ms VOUT and IOUT are read back and the power estimate updated. -/
  | avsReadback (dt : Nat) (vout iout power : Nat) (tries : List Bool)
  /-- AVS_RETRY (R550): After a failed AVSBus transaction, a new attempt is made every 1 s. -/
  | avsRetry (dt : Nat) (tries : List Bool)
  /-- ILK_IN_CHANGE (R367): The partner's interlock claim on ILK_IN_N changes level, restarting or ending the 20 ms and 1 ms high-level waits of interlock takeover and switchover. -/
  | ilkInChange (dt : Nat) (low : Bool)
  /-- PFC_RX_PAUSE_EXPIRY (R267): The pause time named by a received PFC frame runs out and the port resumes sending frames of that class. -/
  | pfcRxPauseExpiry (dt : Nat) (port : Fin 2) (cls : Fin 8)
  /-- DELAY_REQ_SEND (R281): At its logMinDelayReqInterval the servo sends a PTP event message, whose transmit timestamp is pushed into the 16-entry queue or dropped with TXQ_OVF. -/
  | delayReqSend (dt : Nat) (message : List Byte)
  /-- PWR_FAIL_DEASSERT (R522): PWR_FAIL_N returns high, starting the 10 ms count after which the device leaves POWER_FAIL by a warm start. -/
  | pwrFailDeassert (dt : Nat)
  /-- PCIE_PERST_RELEASE (R507): PCIE_PERST_N is deasserted and the host port becomes enumerable within 100 ms once step 2 is complete. -/
  | pciePerstRelease (dt : Nat)
  deriving DecidableEq, Repr

end Sys2Proof
end

