-- ==== Sys2Proof/Decode.lean ====
section
/-! DEFINITION. The rows of spec/opcode_table.json give no bits: no word spells a command, and commands reach the block as the
constructors of Instr. -/

namespace Sys2Proof

/-- The command that a word spells by the table's bits. No row of the table has any. DESIGN CHOICE, safe (log 3). -/
def decodeTableWord (_nbits _w : Nat) : Option Instr := none

end Sys2Proof
end

