-- ==== Sys2Proof/Machine/Bits.lean ====
section
/-! DEFINITION. Bit fields, byte order and serial-number arithmetic (spec/00_scope.md), and sparse tables: lists of
(key, value) pairs in rising key order that list no entry equal to the table's default. -/

namespace Sys2Proof.Machine

/-! ### Bit fields of a natural number -/

/-- Bits `hi` down to `lo` of `x`. -/
def bitsAt (x hi lo : Nat) : Nat := x / 2 ^ lo % 2 ^ (hi + 1 - lo)

/-- Bit `i` of `x`. -/
def bitAt (x i : Nat) : Bool := x / 2 ^ i % 2 == 1

/-- `x` with bits `hi` down to `lo` replaced by the low bits of `v`. -/
def withBits (x hi lo v : Nat) : Nat :=
  x - bitsAt x hi lo * 2 ^ lo + v % 2 ^ (hi + 1 - lo) * 2 ^ lo

/-- 1 for true, 0 for false. -/
def ofBool (b : Bool) : Nat := if b then 1 else 0

/-- The mask with the bits of `l` set, each once. -/
def maskOf (l : List Nat) : Nat := l.foldl (fun a i => if bitAt a i then a else a + 2 ^ i) 0

/-- The positions of the bits set in `x` below `n`, lowest first. -/
def bitList (n x : Nat) : List Nat := (List.range n).filter (bitAt x)

/-- The number of bits set in `x` below `n`. -/
def popCount (n x : Nat) : Nat := (bitList n x).length

/-- Bitwise exclusive or, over 64 bits. -/
def xor64 (a b : Nat) : Nat := ((BitVec.ofNat 64 a) ^^^ (BitVec.ofNat 64 b)).toNat

/-- A counter that saturates at 0xFFFF_FFFF. -/
def satAdd32 (a n : Nat) : Nat := min (a + n) 0xFFFFFFFF

/-- Addition that wraps at `2^n`. -/
def wrapAdd (n a b : Nat) : Nat := (a + b) % 2 ^ n

/-- Subtraction that wraps at `2^n`. -/
def wrapSub (n a b : Nat) : Nat := (a + 2 ^ n - b % 2 ^ n) % 2 ^ n

/-- R13: `a` is newer than `b` as `n`-bit sequence values. -/
def newer (n a b : Nat) : Bool :=
  let d := wrapSub n a b
  1 ≤ d && d < 2 ^ (n - 1)

/-- The integer an `n`-bit two's complement number stands for. -/
def toInt (n x : Nat) : Int := if x % 2 ^ n < 2 ^ (n - 1) then (x % 2 ^ n : Nat) else ((x % 2 ^ n : Nat) : Int) - 2 ^ n

/-- The `n`-bit two's complement image of an integer. -/
def ofInt (n : Nat) (i : Int) : Nat := (i % (2 ^ n : Int)).toNat

/-- Division rounded up. -/
def ceilDiv (a b : Nat) : Nat := (a + b - 1) / b

/-- Division rounded to the nearest integer, halves up. -/
def roundDiv (a b : Nat) : Nat := (2 * a + b) / (2 * b)

/-- `a` reduced into the range `lo` to `hi`. -/
def clampTo (lo hi a : Nat) : Nat := if a < lo then lo else if hi < a then hi else a

/-- Whether `a` lies in `lo` to `hi`, both included (R5). -/
def within (lo hi a : Nat) : Bool := lo ≤ a && a ≤ hi

/-! ### Bytes (R12) -/

/-- The `n` bytes of `v`, least significant first. -/
def leBytes : Nat → Nat → List Byte
  | 0, _ => []
  | n + 1, v => BitVec.ofNat 8 v :: leBytes n (v / 256)

/-- The number that bytes spell, least significant first. -/
def leNat : List Byte → Nat
  | [] => 0
  | b :: t => b.toNat + 256 * leNat t

/-- The number that bytes spell, most significant first (network order). -/
def beNat (l : List Byte) : Nat := l.foldl (fun a b => a * 256 + b.toNat) 0

/-- The `n` bytes of `v`, most significant first. -/
def beBytes (n v : Nat) : List Byte := (leBytes n v).reverse

/-- The little-endian number of `n` bytes at `off` in `l`; bytes beyond the end count as zero. -/
def fieldAt (l : List Byte) (off n : Nat) : Nat := leNat ((l.drop off).take n)

/-- The big-endian number of `n` bytes at `off` in `l`. -/
def fieldBe (l : List Byte) (off n : Nat) : Nat := beNat ((l.drop off).take n)

/-- `n` zero bytes. -/
def zeros (n : Nat) : List Byte := List.replicate n 0

/-- `l` padded with zero bytes to `n` bytes, or cut to them. -/
def padTo (n : Nat) (l : List Byte) : List Byte := l.take n ++ zeros (n - l.length)

/-- Bytes laid out field by field: pairs of a size and a value, packed in order. -/
def pack (l : List (Nat × Nat)) : List Byte := l.flatMap fun p => leBytes p.1 p.2

/-- `l` with its bytes from `off` replaced by `b`. -/
def spliceAt (l : List Byte) (off : Nat) (b : List Byte) : List Byte :=
  l.take off ++ b ++ l.drop (off + b.length)

/-! ### Sparse tables -/

/-- The entry of key `k` in a sparse list, if it lists one. -/
def sparseFind {α : Type} : List (Nat × α) → Nat → Option α
  | [], _ => none
  | (j, v) :: t, k => if j = k then some v else sparseFind t k

/-- The value at `k`; `d` where the list has no entry. -/
def sparseGet {α : Type} (d : α) (l : List (Nat × α)) (k : Nat) : α := (sparseFind l k).getD d

/-- The list with key `k` removed. -/
def sparseDel {α : Type} : List (Nat × α) → Nat → List (Nat × α)
  | [], _ => []
  | (j, v) :: t, k => if j = k then sparseDel t k else (j, v) :: sparseDel t k

/-- The list with `v` entered at `k`, in rising order. -/
def sparseIns {α : Type} : List (Nat × α) → Nat → α → List (Nat × α)
  | [], k, v => [(k, v)]
  | (j, w) :: t, k, v =>
    if k < j then (k, v) :: (j, w) :: t
    else if j = k then (k, v) :: t
    else (j, w) :: sparseIns t k v

/-- The list with the value at `k` set to `v`, where an unlisted key reads as `d`: writing `d` removes the entry. -/
def sparsePut {α : Type} [DecidableEq α] (d : α) (l : List (Nat × α)) (k : Nat) (v : α) : List (Nat × α) :=
  if v = d then sparseDel l k else sparseIns l k v

/-- The keys of a sparse list rise strictly. -/
def sparseRising {α : Type} : List (Nat × α) → Bool
  | [] => true
  | [_] => true
  | (j, _) :: (k, w) :: t => j < k && sparseRising ((k, w) :: t)

/-- The canonical form: keys strictly rising, no entry equal to the default. -/
def sparseWf {α : Type} [DecidableEq α] (d : α) (l : List (Nat × α)) : Bool :=
  sparseRising l && l.all fun p => p.2 ≠ d

/-- The values at keys `from`, `from+1`, … of a sparse list, `n` of them. -/
def sparseRange {α : Type} (d : α) (l : List (Nat × α)) (start n : Nat) : List α :=
  (List.range n).map fun i => sparseGet d l (start + i)

/-- Values written at keys `start`, `start+1`, …. -/
def sparsePutRange {α : Type} [DecidableEq α] (d : α) (l : List (Nat × α)) (start : Nat) (vs : List α) : List (Nat × α) :=
  (vs.zipIdx).foldl (fun m p => sparsePut d m (start + p.2) p.1) l

end Sys2Proof.Machine
end

