-- ==== Sys2Proof/Machine/Crc.lean ====
section
/-! DEFINITION. The check codes: CRC-32C (R163), the CRCs of the Kiene link (R302, R307), bit by bit as the rules give
them. -/

namespace Sys2Proof.Machine

open Sys2Proof

/-- Bitwise exclusive or of natural numbers. -/
def xorNat (a b : Nat) : Nat := Nat.xor a b

/-- `n` steps of a reflected CRC with reversed polynomial `poly`. -/
def crcSteps (poly : Nat) : Nat → Nat → Nat
  | 0, c => c
  | n + 1, c => crcSteps poly n (if c % 2 == 1 then xorNat (c / 2) poly else c / 2)

/-- One byte into a reflected CRC. -/
def crcByte (poly c b : Nat) : Nat := crcSteps poly 8 (xorNat c b)

/-- The reversed polynomial of CRC-32C, 0x1EDC_6F41 (R163). -/
def poly32c : Nat := 0x82F63B78

/-- A pixel word enters CRC-32C, least significant byte first (R164). -/
def crcPixel (c p : Nat) : Nat :=
  crcByte poly32c (crcByte poly32c (crcByte poly32c (crcByte poly32c c (p % 256)) (p / 256 % 256)) (p / 65536 % 256))
    (p / 16777216 % 256)

/-- The final value (R163). -/
def crcFinal (c : Nat) : Nat := xorNat c 0xFFFFFFFF

/-- CRC-32C of bytes (R163). -/
def crc32c (l : List Byte) : Nat := crcFinal (l.foldl (fun c b => crcByte poly32c c b.toNat) 0xFFFFFFFF)

/-- CRC-32 of bytes: reflected, polynomial 0x04C1_1DB7, initial value and final XOR 0xFFFF_FFFF (R307). -/
def crc32 (l : List Byte) : Nat := crcFinal (l.foldl (fun c b => crcByte 0xEDB88320 c b.toNat) 0xFFFFFFFF)

/-- `n` steps of CRC-8 with polynomial 0x07, most significant bit first. -/
def crc8Steps : Nat → Nat → Nat
  | 0, c => c
  | n + 1, c => crc8Steps n (if 128 ≤ c then xorNat (c * 2 % 256) 7 else c * 2)

/-- CRC-8 of bytes: polynomial 0x07, initial value 0, no reflection, no final XOR (R302). -/
def crc8 (l : List Byte) : Nat := l.foldl (fun c b => crc8Steps 8 (xorNat c b.toNat)) 0

/-! ### The check-value units' parametric CRC (R468, R469) -/

/-- `w` bits of `v` in reverse order. -/
def reflectBits : Nat → Nat → Nat
  | 0, _ => 0
  | w + 1, v => v % 2 * 2 ^ w + reflectBits w (v / 2)

/-- A parametric CRC: width, polynomial, initial value, input and output reflection, final XOR. -/
structure CrcModel where
  w : Nat := 32
  poly : Nat := 0
  init : Nat := 0
  refin : Bool := false
  refout : Bool := false
  xorout : Nat := 0
  deriving DecidableEq, Repr, Inhabited

/-- The fixed set by FIXED_IDX; 4 to 7 act as 0. -/
def fixedCrc (i : Nat) : CrcModel :=
  let c := { w := 32, poly := 0x1EDC6F41, init := 0xFFFFFFFF, refin := true, refout := true, xorout := 0xFFFFFFFF }
  if i == 1 then { c with poly := 0x04C11DB7 }
  else if i == 2 then { w := 8, poly := 0x07 }
  else if i == 3 then { w := 64, poly := 0x42F0E1EBA9EA3693, init := 2 ^ 64 - 1, refin := true, refout := true, xorout := 2 ^ 64 - 1 }
  else c

/-- One bit of the shift register: toward the low end with REFIN, else toward the high end. -/
def CrcModel.bit (m : CrcModel) (r : Nat) : Nat :=
  if m.refin then (if r % 2 == 1 then xorNat (r / 2) (reflectBits m.w m.poly) else r / 2)
  else (if bitAt r (m.w - 1) then xorNat (2 * r % 2 ^ m.w) m.poly else 2 * r % 2 ^ m.w)

def CrcModel.bits (m : CrcModel) : Nat → Nat → Nat
  | 0, r => r
  | k + 1, r => m.bits k (m.bit r)

/-- One byte fed. -/
def CrcModel.feed (m : CrcModel) (r : Nat) (b : Byte) : Nat :=
  m.bits 8 (xorNat r (if m.refin then b.toNat else b.toNat * 2 ^ (m.w - 8)))

/-- RESULT of a shift register's contents (R468). -/
def CrcModel.result (m : CrcModel) (r : Nat) : Nat := xorNat (if m.refin == m.refout then r else reflectBits m.w r) m.xorout

end Sys2Proof.Machine
end

