-- ==== Sys2Proof/Config.lean ====
section
/-! DEFINITION. What the specification leaves open: free values, each an opaque constant without a body, so that no proof
can rest on one; and the figures of one implementation that no rule fixes. -/

namespace Sys2Proof.Config

/-- R93: row `row` of glyph `g` at size `size` in the glyph store, which Lysman firmware loads from its image; the spec
gives no masks. -/
opaque glyphRow (g size row : Nat) : Nat

/-- R119: the pixel an output repeats on a line of which it has delivered none yet; `n` numbers the occasion. -/
opaque lostPixel (n : Nat) : Nat

/-- R133: whether the converted component of YCbCr sample (`y`, `cb`, `cr`) is rounded up, for matrix `m` and component
`c`; the spec states no rounding. -/
opaque roundUp (m c y cb cr : Nat) : Bool

/-- R133: whether a chroma sample interpolated from `a` and `b` is rounded up; the spec states no rounding. -/
opaque chromaUp (a b : Nat) : Bool

/-- R138: whether the coefficient of tap `k` of SHARP6 at phase `phase`, where the exact one falls between two figures of its fraction bits, is
the upper of them; fixed in silicon and not given. -/
opaque filterCoefUp (phase k : Nat) : Bool

/-- R138: the weight, less one, that the Gaussian of SOFT6 gives a source pixel `d` 64ths of a pixel away; its width is not given. -/
opaque softWeight (d : Nat) : Nat

/-- R138: the fraction bits of the coefficients of SHARP6, not given. -/
opaque filterBits : Nat

/-- R138: whether a filtered component, whose exact value is `num` over the product of its two unities, is rounded up; the spec states no
rounding. -/
opaque filterUp (filter phaseX phaseY : Nat) (num : Int) : Bool

/-- R257: what SRTP or SRTCP by RFC 7714 makes of a packet received: its payload when it authenticates under `key` and
`salt` (each as a little-endian number) at the 48-bit index `index`, none otherwise. The cipher is not the spec's own text. -/
opaque srtpOpen (key salt index : Nat) (packet : List (BitVec 8)) : Option (List (BitVec 8))

/-- R257: the protected form of a packet sent, by RFC 7714. -/
opaque srtpSeal (key salt index : Nat) (packet : List (BitVec 8)) : List (BitVec 8)

/-- R228: the rounding of the encode tap: whether component `c` (0 Y, 1 Cb, 2 Cr) of the decimated, converted colour sum
`num`/`den` is rounded up; the spec states no rounding. -/
opaque tapUp (c num den : Nat) : Bool

/-- R253: what of `level` units is left in port `p`'s receive buffer after `dt` ticks in which its frames are written to device memory; the spec states
no rate. DESIGN CHOICE, safe (log 71). -/
opaque rxLeft (p level dt : Nat) : Nat

/-- R282: the rate the servo writes for a measurement while LOCKED, in 2^-32 ns per tick; `n` numbers the measurement. The
spec states no control law. -/
opaque servoRate (n : Nat) : Int

/-- R350: the rate a junior writes to hold its age clock to the senior's; `n` numbers the occasion. The spec states no
control law. -/
opaque ageRate (n : Nat) : Int

/-- R351: the rate the pair subsystem of a standby writes to hold its PTP clock to the active's. -/
opaque pairRate (n : Nat) : Int

/-- R486: the event code of a Blaze TYPE 4 trigger, for 0 cold start complete, 1 warm start complete, 2 role change, 3 firmware
restart complete; the spec gives no codes. -/
opaque eventCode (kind : Nat) : Nat

/-- R491: the 14 bytes of event data of a TYPE 4 record; the spec does not say what they are. -/
opaque eventData (n : Nat) : List (BitVec 8)

/-- R210, R224: whether an identifier or syntax element value of a parameter set lies outside the ranges of the codec standard of a PROFILE, or
its tiles are more than 20 columns or 22 rows; the spec does not restate the standards' syntax. -/
opaque setOutOfRange (profile : Nat) (nal : List (BitVec 8)) : Bool

/-- R511, R516, R517: SHA-384, by its standard. -/
opaque sha384 (l : List (BitVec 8)) : List (BitVec 8)

/-- R516, R517: whether an ECDSA P-384 signature over a digest verifies with a key, by its standard. -/
opaque signed (key sig digest : List (BitVec 8)) : Bool

/-- R517 check 5: whether every record of a board table's payload is within its limits; the spec does not give the payload's
layout. -/
opaque boardOk (payload : List (BitVec 8)) : Bool

/-- R533: the quotient 0 / 0 in the POSITION of a slider or wheel that is still touched (R529 order 5) while no delta of it is positive;
the spec states no result. -/
opaque stripQuotient : Int

/-- R352: the bytes of the transfer blocks that carry the settings; the spec gives no layout. -/
opaque settingsBytes : Nat → List (BitVec 8)

/-- R525: a byte of the flash item whose programming failed; the spec states no contents. -/
opaque flashByte : Nat → Nat → BitVec 8

end Sys2Proof.Config
end

