-- ==== Sys2Proof/Machine/Regs.lean ====
section
/-! DEFINITION. The register map of the YZ7840: the BAR0 offset of every register and the place of every field, as the
register tables of spec/01 to spec/21 give them (R29, R30 and each chapter), the reset values, and which bits the host
may write (R8 with each chapter's register rules). An array of registers takes its index, or its two indices, as arguments. -/

namespace Sys2Proof.Machine

/-- A field: the BAR0 offset of its register and its highest and lowest bit. -/
structure Fld where
  addr : Nat
  hi : Nat
  lo : Nat
  deriving DecidableEq, Repr

namespace Reg


/-! ### spec/01_architecture -/

def SYS_ID : Nat := 0x000000
def SYS_ID_PART : Fld := ⟨SYS_ID, 31, 16⟩
def SYS_ID_STEP_LETTER : Fld := ⟨SYS_ID, 15, 8⟩
def SYS_ID_STEP_NUM : Fld := ⟨SYS_ID, 7, 0⟩
def SYS_GRADE : Nat := 0x000004
def SYS_GRADE_GRADE : Fld := ⟨SYS_GRADE, 0, 0⟩
def SYS_ACC_ERR_STAT : Nat := 0x000010
def SYS_ACC_ERR_STAT_VALID : Fld := ⟨SYS_ACC_ERR_STAT, 31, 31⟩
def SYS_ACC_ERR_STAT_OVERFLOW : Fld := ⟨SYS_ACC_ERR_STAT, 30, 30⟩
def SYS_ACC_ERR_STAT_KIND : Fld := ⟨SYS_ACC_ERR_STAT, 1, 0⟩
def SYS_ACC_ERR_ADDR_LO : Nat := 0x000014
def SYS_ACC_ERR_ADDR_HI : Nat := 0x000018
def SYS_ACC_ERR_ADDR_HI_ADDR : Fld := ⟨SYS_ACC_ERR_ADDR_HI, 15, 0⟩
def MEM_STATUS : Nat := 0x500000
def MEM_STATUS_PD1 : Fld := ⟨MEM_STATUS, 5, 4⟩
def MEM_STATUS_PD0 : Fld := ⟨MEM_STATUS, 3, 2⟩
def MEM_STATUS_READY1 : Fld := ⟨MEM_STATUS, 1, 1⟩
def MEM_STATUS_READY0 : Fld := ⟨MEM_STATUS, 0, 0⟩
def MEM_TOL_MIN : Nat := 0x500004
def MEM_TOL_MIN_TOL_NS : Fld := ⟨MEM_TOL_MIN, 15, 0⟩
def MEM_SCRUB_CTRL : Nat := 0x500008
def MEM_SCRUB_CTRL_PERIOD_H : Fld := ⟨MEM_SCRUB_CTRL, 8, 1⟩
def MEM_SCRUB_CTRL_EN : Fld := ⟨MEM_SCRUB_CTRL, 0, 0⟩
def MEM_SCRUB_POS_LO : Nat := 0x500010
def MEM_SCRUB_POS_LO_POS : Fld := ⟨MEM_SCRUB_POS_LO, 31, 6⟩
def MEM_SCRUB_POS_HI : Nat := 0x500014
def MEM_SCRUB_POS_HI_POS : Fld := ⟨MEM_SCRUB_POS_HI, 15, 0⟩
def MEM_ECC_CORR : Nat := 0x500018
def MEM_ECC_UNCORR : Nat := 0x50001C
def MEM_ECC_LAST_LO : Nat := 0x500020
def MEM_ECC_LAST_LO_ADDR : Fld := ⟨MEM_ECC_LAST_LO, 31, 6⟩
def MEM_ECC_LAST_HI : Nat := 0x500024
def MEM_ECC_LAST_HI_VALID : Fld := ⟨MEM_ECC_LAST_HI, 31, 31⟩
def MEM_ECC_LAST_HI_ADDR : Fld := ⟨MEM_ECC_LAST_HI, 15, 0⟩

/-! ### spec/02_ring_ledger -/

def LDG_STATUS : Nat := 0x200000
def LDG_STATUS_READY : Fld := ⟨LDG_STATUS, 31, 31⟩
def LDG_STATUS_SVC : Fld := ⟨LDG_STATUS, 30, 30⟩
def LDG_STATUS_SLOT_NOW : Fld := ⟨LDG_STATUS, 11, 0⟩
def LDG_NONLIVE : Nat := 0x200004
def LDG_NONLIVE_COUNT : Fld := ⟨LDG_NONLIVE, 20, 0⟩
def LDG_WINDFALL : Nat := 0x200008
def LDG_WINDFALL_OVF : Fld := ⟨LDG_WINDFALL, 31, 31⟩
def LDG_WINDFALL_USED : Fld := ⟨LDG_WINDFALL, 13, 0⟩
def LDG_SWEEP_POS : Nat := 0x20000C
def LDG_SWEEP_POS_CELL : Fld := ⟨LDG_SWEEP_POS, 19, 0⟩
def LDG_SWEEP_LAPS : Nat := 0x200010
def LDG_CELLS_BASE_LO : Nat := 0x200018
def LDG_CELLS_BASE_HI : Nat := 0x20001C
def LDG_CELLS_BASE_HI_ADDR : Fld := ⟨LDG_CELLS_BASE_HI, 15, 0⟩
def LDG_WHEEL_BASE_LO : Nat := 0x200020
def LDG_WHEEL_BASE_HI : Nat := 0x200024
def LDG_WHEEL_BASE_HI_ADDR : Fld := ⟨LDG_WHEEL_BASE_HI, 15, 0⟩
def LDG_CNT_OLDER : Nat := 0x200048
def LDG_CNT_FUTURE : Nat := 0x20004C
def LDG_CNT_CLAMPED : Nat := 0x200050
def LDG_CNT_GEN : Nat := 0x200054
def LDG_CNT_OWNER : Nat := 0x200058
def LDG_CNT_UNALLOC : Nat := 0x20005C
def LDG_CNT_EPOCH : Nat := 0x200060
def LDG_CNT_FORMAT : Nat := 0x200064
def LDG_CNT_FALLBACK : Nat := 0x200068
def LDG_CNT_STALE_EVT : Nat := 0x20006C
def LDG_CNT_SWEEP_CAUGHT : Nat := 0x200070
def LDG_CNT_SWEEP_AGED : Nat := 0x200074
def LDG_CNT_POISON : Nat := 0x200078
def LDG_CNT_BITFIX : Nat := 0x20007C
def LDG_SVC_CMD : Nat := 0x200100
def LDG_SVC_CMD_GO : Fld := ⟨LDG_SVC_CMD, 31, 31⟩
def LDG_SVC_CMD_WRITE : Fld := ⟨LDG_SVC_CMD, 30, 30⟩
def LDG_SVC_CMD_CELL : Fld := ⟨LDG_SVC_CMD, 19, 0⟩
def LDG_SVC_STAT : Nat := 0x200104
def LDG_SVC_STAT_BUSY : Fld := ⟨LDG_SVC_STAT, 31, 31⟩
def LDG_SVC_STAT_DENIED : Fld := ⟨LDG_SVC_STAT, 1, 1⟩
def LDG_SVC_STAT_ADJUSTED : Fld := ⟨LDG_SVC_STAT, 0, 0⟩
def LDG_SVC_DATA (n : Nat) : Nat := 0x200110 + 0x4 * n
def LDG_CRING_BASE_LO (n : Nat) : Nat := 0x201000 + 0x20 * n
def LDG_CRING_BASE_HI (n : Nat) : Nat := 0x201004 + 0x20 * n
def LDG_CRING_BASE_HI_ADDR (n : Nat) : Fld := ⟨(LDG_CRING_BASE_HI n), 15, 0⟩
def LDG_CRING_CFG (n : Nat) : Nat := 0x201008 + 0x20 * n
def LDG_CRING_CFG_OPEN (n : Nat) : Fld := ⟨(LDG_CRING_CFG n), 31, 31⟩
def LDG_CRING_CFG_PARTITION (n : Nat) : Fld := ⟨(LDG_CRING_CFG n), 27, 16⟩
def LDG_CRING_CFG_LOG2_SIZE (n : Nat) : Fld := ⟨(LDG_CRING_CFG n), 4, 0⟩
def LDG_CRING_TRANSIT (n : Nat) : Nat := 0x20100C + 0x20 * n
def LDG_CRING_TRANSIT_AGE_UNITS (n : Nat) : Fld := ⟨(LDG_CRING_TRANSIT n), 23, 0⟩
def LDG_CRING_PROD (n : Nat) : Nat := 0x201010 + 0x20 * n
def LDG_CRING_CONS (n : Nat) : Nat := 0x201014 + 0x20 * n
def LDG_CRING_STAT (n : Nat) : Nat := 0x201018 + 0x20 * n
def LDG_CRING_STAT_ERR (n : Nat) : Fld := ⟨(LDG_CRING_STAT n), 31, 31⟩
def LDG_CRING_STAT_FBK (n : Nat) : Fld := ⟨(LDG_CRING_STAT n), 30, 30⟩
def LDG_CRING_REJ (n : Nat) : Nat := 0x20101C + 0x20 * n

/-! ### spec/03_scan_gate -/

def GATE_STATUS : Nat := 0x180000
def GATE_STATUS_READY : Fld := ⟨GATE_STATUS, 31, 31⟩
def GATE_STATUS_SVC : Fld := ⟨GATE_STATUS, 30, 30⟩
def GATE_STATUS_ALL_STALE : Fld := ⟨GATE_STATUS, 7, 0⟩
def GATE_HATCH_A_COL : Nat := 0x180010
def GATE_HATCH_A_COL_RED : Fld := ⟨GATE_HATCH_A_COL, 29, 20⟩
def GATE_HATCH_A_COL_GREEN : Fld := ⟨GATE_HATCH_A_COL, 19, 10⟩
def GATE_HATCH_A_COL_BLUE : Fld := ⟨GATE_HATCH_A_COL, 9, 0⟩
def GATE_HATCH_B_COL : Nat := 0x180014
def GATE_HATCH_B_COL_RED : Fld := ⟨GATE_HATCH_B_COL, 29, 20⟩
def GATE_HATCH_B_COL_GREEN : Fld := ⟨GATE_HATCH_B_COL, 19, 10⟩
def GATE_HATCH_B_COL_BLUE : Fld := ⟨GATE_HATCH_B_COL, 9, 0⟩
def GATE_BADGE_PLATE_COL : Nat := 0x18001C
def GATE_BADGE_PLATE_COL_RED : Fld := ⟨GATE_BADGE_PLATE_COL, 29, 20⟩
def GATE_BADGE_PLATE_COL_GREEN : Fld := ⟨GATE_BADGE_PLATE_COL, 19, 10⟩
def GATE_BADGE_PLATE_COL_BLUE : Fld := ⟨GATE_BADGE_PLATE_COL, 9, 0⟩
def GATE_BADGE_GLYPH_COL : Nat := 0x180020
def GATE_BADGE_GLYPH_COL_RED : Fld := ⟨GATE_BADGE_GLYPH_COL, 29, 20⟩
def GATE_BADGE_GLYPH_COL_GREEN : Fld := ⟨GATE_BADGE_GLYPH_COL, 19, 10⟩
def GATE_BADGE_GLYPH_COL_BLUE : Fld := ⟨GATE_BADGE_GLYPH_COL, 9, 0⟩
def GATE_LATTICE_COL : Nat := 0x180024
def GATE_LATTICE_COL_RED : Fld := ⟨GATE_LATTICE_COL, 29, 20⟩
def GATE_LATTICE_COL_GREEN : Fld := ⟨GATE_LATTICE_COL, 19, 10⟩
def GATE_LATTICE_COL_BLUE : Fld := ⟨GATE_LATTICE_COL, 9, 0⟩
def GATE_CLEAR_COL : Nat := 0x180028
def GATE_CLEAR_COL_RED : Fld := ⟨GATE_CLEAR_COL, 29, 20⟩
def GATE_CLEAR_COL_GREEN : Fld := ⟨GATE_CLEAR_COL, 19, 10⟩
def GATE_CLEAR_COL_BLUE : Fld := ⟨GATE_CLEAR_COL, 9, 0⟩
def GATE_CLEAR_GLYPH_COL : Nat := 0x18002C
def GATE_CLEAR_GLYPH_COL_RED : Fld := ⟨GATE_CLEAR_GLYPH_COL, 29, 20⟩
def GATE_CLEAR_GLYPH_COL_GREEN : Fld := ⟨GATE_CLEAR_GLYPH_COL, 19, 10⟩
def GATE_CLEAR_GLYPH_COL_BLUE : Fld := ⟨GATE_CLEAR_GLYPH_COL, 9, 0⟩
def GATE_PULSE_COL0 : Nat := 0x180030
def GATE_PULSE_COL0_RED : Fld := ⟨GATE_PULSE_COL0, 29, 20⟩
def GATE_PULSE_COL0_GREEN : Fld := ⟨GATE_PULSE_COL0, 19, 10⟩
def GATE_PULSE_COL0_BLUE : Fld := ⟨GATE_PULSE_COL0, 9, 0⟩
def GATE_PULSE_COL1 : Nat := 0x180034
def GATE_PULSE_COL1_RED : Fld := ⟨GATE_PULSE_COL1, 29, 20⟩
def GATE_PULSE_COL1_GREEN : Fld := ⟨GATE_PULSE_COL1, 19, 10⟩
def GATE_PULSE_COL1_BLUE : Fld := ⟨GATE_PULSE_COL1, 9, 0⟩
def GATE_PULSE_MARK_COL : Nat := 0x180038
def GATE_PULSE_MARK_COL_RED : Fld := ⟨GATE_PULSE_MARK_COL, 29, 20⟩
def GATE_PULSE_MARK_COL_GREEN : Fld := ⟨GATE_PULSE_MARK_COL, 19, 10⟩
def GATE_PULSE_MARK_COL_BLUE : Fld := ⟨GATE_PULSE_MARK_COL, 9, 0⟩
def GATE_HATCH_ALPHA : Nat := 0x180018
def GATE_HATCH_ALPHA_ALPHA_A : Fld := ⟨GATE_HATCH_ALPHA, 15, 8⟩
def GATE_HATCH_ALPHA_ALPHA_B : Fld := ⟨GATE_HATCH_ALPHA, 7, 0⟩
def GATE_SVC_STAT : Nat := 0x180040
def GATE_SVC_STAT_DENIED : Fld := ⟨GATE_SVC_STAT, 1, 1⟩
def GATE_SVC_STAT_ADJUSTED : Fld := ⟨GATE_SVC_STAT, 0, 0⟩
def GATE_OUT_CFG (n : Nat) : Nat := 0x181000 + 0x100 * n
def GATE_OUT_CFG_FORCE_VOID (n : Nat) : Fld := ⟨(GATE_OUT_CFG n), 31, 31⟩
def GATE_OUT_CFG_CLEAR_NUM (n : Nat) : Fld := ⟨(GATE_OUT_CFG n), 12, 12⟩
def GATE_OUT_CFG_PULSE_CORNER (n : Nat) : Fld := ⟨(GATE_OUT_CFG n), 11, 10⟩
def GATE_OUT_CFG_PULSE_EN (n : Nat) : Fld := ⟨(GATE_OUT_CFG n), 9, 9⟩
def GATE_OUT_CFG_SAMPLE (n : Nat) : Fld := ⟨(GATE_OUT_CFG n), 8, 8⟩
def GATE_OUT_CFG_PULSE_INSET (n : Nat) : Fld := ⟨(GATE_OUT_CFG n), 7, 0⟩
def GATE_OUT_STAT (n : Nat) : Nat := 0x181004 + 0x100 * n
def GATE_OUT_STAT_SPAN_LATE (n : Nat) : Fld := ⟨(GATE_OUT_STAT n), 31, 31⟩
def GATE_OUT_STAT_SPAN_OVF (n : Nat) : Fld := ⟨(GATE_OUT_STAT n), 30, 30⟩
def GATE_OUT_STAT_DEPTH_OVF (n : Nat) : Fld := ⟨(GATE_OUT_STAT n), 29, 29⟩
def GATE_OUT_STAT_SPAN_ORDER (n : Nat) : Fld := ⟨(GATE_OUT_STAT n), 28, 28⟩
def GATE_OUT_STAT_SPAN_FMT (n : Nat) : Fld := ⟨(GATE_OUT_STAT n), 27, 27⟩
def GATE_OUT_STAT_SET (n : Nat) : Fld := ⟨(GATE_OUT_STAT n), 16, 16⟩
def GATE_OUT_STAT_COUNT (n : Nat) : Fld := ⟨(GATE_OUT_STAT n), 14, 0⟩
def GATE_OUT_SPAN_BASE_LO (n : Nat) : Nat := 0x181008 + 0x100 * n
def GATE_OUT_SPAN_BASE_HI (n : Nat) : Nat := 0x18100C + 0x100 * n
def GATE_OUT_SPAN_BASE_HI_ADDR (n : Nat) : Fld := ⟨(GATE_OUT_SPAN_BASE_HI n), 15, 0⟩
def GATE_OUT_STAGE (n : Nat) : Nat := 0x181010 + 0x100 * n
def GATE_OUT_STAGE_ARM (n : Nat) : Fld := ⟨(GATE_OUT_STAGE n), 31, 31⟩
def GATE_OUT_STAGE_COUNT (n : Nat) : Fld := ⟨(GATE_OUT_STAGE n), 14, 0⟩
def GATE_OUT_DISP_X (n : Nat) (k : Nat) : Nat := 0x181080 + 0x100 * n + 0x8 * k
def GATE_OUT_DISP_X_END (n : Nat) (k : Nat) : Fld := ⟨(GATE_OUT_DISP_X n k), 31, 16⟩
def GATE_OUT_DISP_X_START (n : Nat) (k : Nat) : Fld := ⟨(GATE_OUT_DISP_X n k), 15, 0⟩
def GATE_OUT_DISP_Y (n : Nat) (k : Nat) : Nat := 0x181084 + 0x100 * n + 0x8 * k
def GATE_OUT_DISP_Y_END (n : Nat) (k : Nat) : Fld := ⟨(GATE_OUT_DISP_Y n k), 31, 16⟩
def GATE_OUT_DISP_Y_START (n : Nat) (k : Nat) : Fld := ⟨(GATE_OUT_DISP_Y n k), 15, 0⟩

/-! ### spec/04_outputs_and_timing -/

def CNP_OUT_CTRL (n : Nat) : Nat := 0x100000 + 0x1000 * n
def CNP_OUT_CTRL_EN (n : Nat) : Fld := ⟨(CNP_OUT_CTRL n), 31, 31⟩
def CNP_OUT_CTRL_STATE (n : Nat) : Fld := ⟨(CNP_OUT_CTRL n), 30, 28⟩
def CNP_OUT_CTRL_TX (n : Nat) : Fld := ⟨(CNP_OUT_CTRL n), 27, 27⟩
def CNP_OUT_CTRL_SVC (n : Nat) : Fld := ⟨(CNP_OUT_CTRL n), 26, 26⟩
def CNP_OUT_CTRL_CLASS (n : Nat) : Fld := ⟨(CNP_OUT_CTRL n), 25, 25⟩
def CNP_OUT_CTRL_STAND (n : Nat) : Fld := ⟨(CNP_OUT_CTRL n), 20, 18⟩
def CNP_OUT_CTRL_MODE (n : Nat) : Fld := ⟨(CNP_OUT_CTRL n), 12, 8⟩
def CNP_OUT_CTRL_PRIORITY (n : Nat) : Fld := ⟨(CNP_OUT_CTRL n), 7, 0⟩
def CNP_OUT_OWNER (n : Nat) : Nat := 0x100004 + 0x1000 * n
def CNP_OUT_OWNER_PARTITION (n : Nat) : Fld := ⟨(CNP_OUT_OWNER n), 11, 0⟩
def CNP_OUT_LATCH (n : Nat) : Nat := 0x100008 + 0x1000 * n
def CNP_OUT_LATCH_LATCH_LINE (n : Nat) : Fld := ⟨(CNP_OUT_LATCH n), 11, 0⟩
def CNP_OUT_PHASE (n : Nat) : Nat := 0x10000C + 0x1000 * n
def CNP_OUT_FRAME (n : Nat) : Nat := 0x100010 + 0x1000 * n
def CNP_OUT_LINE (n : Nat) : Nat := 0x100014 + 0x1000 * n
def CNP_OUT_LINE_VBLANK (n : Nat) : Fld := ⟨(CNP_OUT_LINE n), 31, 31⟩
def CNP_OUT_LINE_LINE (n : Nat) : Fld := ⟨(CNP_OUT_LINE n), 11, 0⟩
def CNP_OUT_FSTART_NS (n : Nat) : Nat := 0x100018 + 0x1000 * n
def CNP_OUT_FSTART_SEC_LO (n : Nat) : Nat := 0x10001C + 0x1000 * n
def CNP_OUT_FSTART_SEC_HI (n : Nat) : Nat := 0x100020 + 0x1000 * n
def CNP_OUT_FSTART_SEC_HI_SEC (n : Nat) : Fld := ⟨(CNP_OUT_FSTART_SEC_HI n), 15, 0⟩
def CNP_OUT_TOL (n : Nat) : Nat := 0x100024 + 0x1000 * n
def CNP_OUT_TOL_TOL_NS (n : Nat) : Fld := ⟨(CNP_OUT_TOL n), 15, 0⟩
def CNP_OUT_POOL (n : Nat) : Nat := 0x100028 + 0x1000 * n
def CNP_OUT_POOL_MIN_LAST (n : Nat) : Fld := ⟨(CNP_OUT_POOL n), 26, 16⟩
def CNP_OUT_POOL_LEVEL (n : Nat) : Fld := ⟨(CNP_OUT_POOL n), 10, 0⟩
def CNP_OUT_STAT (n : Nat) : Nat := 0x10002C + 0x1000 * n
def CNP_OUT_STAT_UR_FAULT (n : Nat) : Fld := ⟨(CNP_OUT_STAT n), 31, 31⟩
def CNP_OUT_STAT_UR_LASTING (n : Nat) : Fld := ⟨(CNP_OUT_STAT n), 30, 30⟩
def CNP_OUT_STAT_REPHASE (n : Nat) : Fld := ⟨(CNP_OUT_STAT n), 29, 29⟩
def CNP_OUT_STAT_ADJUSTED (n : Nat) : Fld := ⟨(CNP_OUT_STAT n), 28, 28⟩
def CNP_OUT_STAT_DRAIN_RESET (n : Nat) : Fld := ⟨(CNP_OUT_STAT n), 27, 27⟩

/-! ### spec/05_layers_and_commits -/

def CNP_CRING_BASE_LO (n : Nat) : Nat := 0x100100 + 0x1000 * n
def CNP_CRING_BASE_HI (n : Nat) : Nat := 0x100104 + 0x1000 * n
def CNP_CRING_BASE_HI_ADDR (n : Nat) : Fld := ⟨(CNP_CRING_BASE_HI n), 15, 0⟩
def CNP_CRING_CFG (n : Nat) : Nat := 0x100108 + 0x1000 * n
def CNP_CRING_CFG_OPEN (n : Nat) : Fld := ⟨(CNP_CRING_CFG n), 31, 31⟩
def CNP_CRING_CFG_LOG2_SIZE (n : Nat) : Fld := ⟨(CNP_CRING_CFG n), 3, 0⟩
def CNP_CRING_PROD (n : Nat) : Nat := 0x10010C + 0x1000 * n
def CNP_CRING_CONS (n : Nat) : Nat := 0x100110 + 0x1000 * n
def CNP_CRING_STAT (n : Nat) : Nat := 0x100114 + 0x1000 * n
def CNP_CRING_STAT_ERR (n : Nat) : Fld := ⟨(CNP_CRING_STAT n), 31, 31⟩
def CNP_CRING_STAT_FBK (n : Nat) : Fld := ⟨(CNP_CRING_STAT n), 30, 30⟩
def CNP_CRING_STAT_WAITING (n : Nat) : Fld := ⟨(CNP_CRING_STAT n), 29, 29⟩
def CNP_STAGE (n : Nat) : Nat := 0x100118 + 0x1000 * n
def CNP_STAGE_READY (n : Nat) : Fld := ⟨(CNP_STAGE n), 31, 31⟩
def CNP_STAGE_SEQ (n : Nat) : Fld := ⟨(CNP_STAGE n), 15, 0⟩
def CNP_COMMIT_LAST (n : Nat) : Nat := 0x10011C + 0x1000 * n
def CNP_BG_COL (n : Nat) : Nat := 0x100120 + 0x1000 * n
def CNP_BG_COL_RGB (n : Nat) : Fld := ⟨(CNP_BG_COL n), 29, 0⟩
def CNP_LAYER_CFG (n : Nat) (k : Nat) : Nat := 0x100200 + 0x1000 * n + 0x40 * k
def CNP_LAYER_CFG_EN (n : Nat) (k : Nat) : Fld := ⟨(CNP_LAYER_CFG n k), 31, 31⟩
def CNP_LAYER_CFG_OPAQUE (n : Nat) (k : Nat) : Fld := ⟨(CNP_LAYER_CFG n k), 30, 30⟩
def CNP_LAYER_CFG_STATIC (n : Nat) (k : Nat) : Fld := ⟨(CNP_LAYER_CFG n k), 29, 29⟩
def CNP_LAYER_CFG_PREMULT (n : Nat) (k : Nat) : Fld := ⟨(CNP_LAYER_CFG n k), 28, 28⟩
def CNP_LAYER_CFG_IGNORE_ALPHA (n : Nat) (k : Nat) : Fld := ⟨(CNP_LAYER_CFG n k), 27, 27⟩
def CNP_LAYER_CFG_HALF_RATE (n : Nat) (k : Nat) : Fld := ⟨(CNP_LAYER_CFG n k), 26, 26⟩
def CNP_LAYER_CFG_SOURCE (n : Nat) (k : Nat) : Fld := ⟨(CNP_LAYER_CFG n k), 25, 24⟩
def CNP_LAYER_CFG_FORMAT (n : Nat) (k : Nat) : Fld := ⟨(CNP_LAYER_CFG n k), 23, 21⟩
def CNP_LAYER_CFG_FILTER (n : Nat) (k : Nat) : Fld := ⟨(CNP_LAYER_CFG n k), 20, 18⟩
def CNP_LAYER_CFG_SCALERS (n : Nat) (k : Nat) : Fld := ⟨(CNP_LAYER_CFG n k), 17, 16⟩
def CNP_LAYER_CFG_SCALER_IDX (n : Nat) (k : Nat) : Fld := ⟨(CNP_LAYER_CFG n k), 15, 12⟩
def CNP_LAYER_CFG_MATRIX (n : Nat) (k : Nat) : Fld := ⟨(CNP_LAYER_CFG n k), 11, 10⟩
def CNP_LAYER_CFG_FULL_RANGE (n : Nat) (k : Nat) : Fld := ⟨(CNP_LAYER_CFG n k), 9, 9⟩
def CNP_LAYER_CFG_PLANE_ALPHA (n : Nat) (k : Nat) : Fld := ⟨(CNP_LAYER_CFG n k), 7, 0⟩
def CNP_LAYER_SRC_XY (n : Nat) (k : Nat) : Nat := 0x100204 + 0x1000 * n + 0x40 * k
def CNP_LAYER_SRC_XY_Y (n : Nat) (k : Nat) : Fld := ⟨(CNP_LAYER_SRC_XY n k), 31, 16⟩
def CNP_LAYER_SRC_XY_X (n : Nat) (k : Nat) : Fld := ⟨(CNP_LAYER_SRC_XY n k), 15, 0⟩
def CNP_LAYER_SRC_WH (n : Nat) (k : Nat) : Nat := 0x100208 + 0x1000 * n + 0x40 * k
def CNP_LAYER_SRC_WH_Y (n : Nat) (k : Nat) : Fld := ⟨(CNP_LAYER_SRC_WH n k), 31, 16⟩
def CNP_LAYER_SRC_WH_X (n : Nat) (k : Nat) : Fld := ⟨(CNP_LAYER_SRC_WH n k), 15, 0⟩
def CNP_LAYER_DST_XY (n : Nat) (k : Nat) : Nat := 0x10020C + 0x1000 * n + 0x40 * k
def CNP_LAYER_DST_XY_Y (n : Nat) (k : Nat) : Fld := ⟨(CNP_LAYER_DST_XY n k), 31, 16⟩
def CNP_LAYER_DST_XY_X (n : Nat) (k : Nat) : Fld := ⟨(CNP_LAYER_DST_XY n k), 15, 0⟩
def CNP_LAYER_DST_WH (n : Nat) (k : Nat) : Nat := 0x100210 + 0x1000 * n + 0x40 * k
def CNP_LAYER_DST_WH_Y (n : Nat) (k : Nat) : Fld := ⟨(CNP_LAYER_DST_WH n k), 31, 16⟩
def CNP_LAYER_DST_WH_X (n : Nat) (k : Nat) : Fld := ⟨(CNP_LAYER_DST_WH n k), 15, 0⟩
def CNP_LAYER_BUF (n : Nat) (k : Nat) : Nat := 0x100214 + 0x1000 * n + 0x40 * k
def CNP_LAYER_BUF_GEN (n : Nat) (k : Nat) : Fld := ⟨(CNP_LAYER_BUF n k), 31, 16⟩
def CNP_LAYER_BUF_ID (n : Nat) (k : Nat) : Fld := ⟨(CNP_LAYER_BUF n k), 15, 0⟩
def CNP_LAYER_CELL (n : Nat) (k : Nat) : Nat := 0x100218 + 0x1000 * n + 0x40 * k
def CNP_LAYER_CELL_CELL (n : Nat) (k : Nat) : Fld := ⟨(CNP_LAYER_CELL n k), 19, 0⟩
def CNP_LAYER_STAT (n : Nat) (k : Nat) : Nat := 0x10021C + 0x1000 * n + 0x40 * k
def CNP_LAYER_STAT_TORN (n : Nat) (k : Nat) : Fld := ⟨(CNP_LAYER_STAT n k), 31, 31⟩
def CNP_LAYER_STAT_TORN_HOLD (n : Nat) (k : Nat) : Fld := ⟨(CNP_LAYER_STAT n k), 30, 30⟩
def CNP_LAYER_STAT_LAYER_CLIP (n : Nat) (k : Nat) : Fld := ⟨(CNP_LAYER_STAT n k), 29, 29⟩
def CNP_LAYER_STAT_SVC_ALTERED (n : Nat) (k : Nat) : Fld := ⟨(CNP_LAYER_STAT n k), 28, 28⟩
def CNP_LAYER_STAT_FETCH_MBPS (n : Nat) (k : Nat) : Fld := ⟨(CNP_LAYER_STAT n k), 15, 0⟩
def CNP_LAYER_BOX_XY (n : Nat) (k : Nat) : Nat := 0x100220 + 0x1000 * n + 0x40 * k
def CNP_LAYER_BOX_XY_Y (n : Nat) (k : Nat) : Fld := ⟨(CNP_LAYER_BOX_XY n k), 31, 16⟩
def CNP_LAYER_BOX_XY_X (n : Nat) (k : Nat) : Fld := ⟨(CNP_LAYER_BOX_XY n k), 15, 0⟩
def CNP_LAYER_BOX_WH (n : Nat) (k : Nat) : Nat := 0x100224 + 0x1000 * n + 0x40 * k
def CNP_LAYER_BOX_WH_Y (n : Nat) (k : Nat) : Fld := ⟨(CNP_LAYER_BOX_WH n k), 31, 16⟩
def CNP_LAYER_BOX_WH_X (n : Nat) (k : Nat) : Fld := ⟨(CNP_LAYER_BOX_WH n k), 15, 0⟩

/-! ### spec/06_lookout -/

def LKO_STATUS : Nat := 0x280000
def LKO_STATUS_READY : Fld := ⟨LKO_STATUS, 31, 31⟩
def LKO_STATUS_SVC : Fld := ⟨LKO_STATUS, 30, 30⟩
def LKO_SVC_STAT : Nat := 0x280004
def LKO_SVC_STAT_DENIED : Fld := ⟨LKO_SVC_STAT, 1, 1⟩
def LKO_SVC_STAT_ADJUSTED : Fld := ⟨LKO_SVC_STAT, 0, 0⟩
def LKO_STAT : Nat := 0x280008
def LKO_STAT_LINE_OVF : Fld := ⟨LKO_STAT, 31, 31⟩
def LKO_CNT_FROZEN : Nat := 0x280020
def LKO_CNT_INCONS : Nat := 0x280024
def LKO_CNT_HOLD_FAIL : Nat := 0x280028
def LKO_CNT_REF_FAIL : Nat := 0x28002C
def LKO_CNT_LINE_OVF : Nat := 0x280030
def LKO_CNT_ECC : Nat := 0x280034
def LKO_OUT_SIG_F (n : Nat) : Nat := 0x281000 + 0x100 * n
def LKO_OUT_FRAME_SIG (n : Nat) : Nat := 0x281004 + 0x100 * n
def LKO_OUT_FRAME_PRE (n : Nat) : Nat := 0x281008 + 0x100 * n
def LKO_OUT_RET_STAT (n : Nat) : Nat := 0x28100C + 0x100 * n
def LKO_OUT_RET_STAT_CAPABLE (n : Nat) : Fld := ⟨(LKO_OUT_RET_STAT n), 31, 31⟩
def LKO_OUT_RET_STAT_CHECKING (n : Nat) : Fld := ⟨(LKO_OUT_RET_STAT n), 30, 30⟩
def LKO_OUT_RET_STAT_MISMATCH (n : Nat) : Fld := ⟨(LKO_OUT_RET_STAT n), 29, 29⟩
def LKO_OUT_RET_STAT_MISSING (n : Nat) : Fld := ⟨(LKO_OUT_RET_STAT n), 28, 28⟩
def LKO_OUT_RET_STAT_LASTING (n : Nat) : Fld := ⟨(LKO_OUT_RET_STAT n), 27, 27⟩
def LKO_OUT_RET_STAT_RESULT (n : Nat) : Fld := ⟨(LKO_OUT_RET_STAT n), 26, 24⟩
def LKO_OUT_RET_STAT_FRAME_BAD (n : Nat) : Fld := ⟨(LKO_OUT_RET_STAT n), 16, 16⟩
def LKO_OUT_RET_STAT_STRIPE_BAD (n : Nat) : Fld := ⟨(LKO_OUT_RET_STAT n), 15, 0⟩
def LKO_OUT_RET_TAG (n : Nat) : Nat := 0x281010 + 0x100 * n
def LKO_OUT_RET_TAG_TAG (n : Nat) : Fld := ⟨(LKO_OUT_RET_TAG n), 15, 0⟩
def LKO_OUT_RET_SIG (n : Nat) : Nat := 0x281014 + 0x100 * n
def LKO_OUT_REGIONS (n : Nat) : Nat := 0x281018 + 0x100 * n
def LKO_OUT_REGIONS_COUNT (n : Nat) : Fld := ⟨(LKO_OUT_REGIONS n), 11, 0⟩
def LKO_OUT_CNT_RET_MATCH (n : Nat) : Nat := 0x281020 + 0x100 * n
def LKO_OUT_CNT_RET_MISMATCH (n : Nat) : Nat := 0x281024 + 0x100 * n
def LKO_OUT_CNT_RET_MISSING (n : Nat) : Nat := 0x281028 + 0x100 * n
def LKO_OUT_CNT_SELF_DIFF (n : Nat) : Nat := 0x28102C + 0x100 * n
def LKO_OUT_STRIPE_SIG (n : Nat) (k : Nat) : Nat := 0x281040 + 0x100 * n + 0x4 * k

/-! ### spec/07_decode_pool -/

def DEC_STATUS : Nat := 0x300000
def DEC_STATUS_READY : Fld := ⟨DEC_STATUS, 31, 31⟩
def DEC_STATUS_OPEN : Fld := ⟨DEC_STATUS, 15, 8⟩
def DEC_STATUS_PIPE_EN : Fld := ⟨DEC_STATUS, 7, 0⟩
def DEC_PIPE_STAT (n : Nat) : Nat := 0x300100 + 0x20 * n
def DEC_PIPE_STAT_EN (n : Nat) : Fld := ⟨(DEC_PIPE_STAT n), 31, 31⟩
def DEC_PIPE_STAT_DRAINING (n : Nat) : Fld := ⟨(DEC_PIPE_STAT n), 30, 30⟩
def DEC_PIPE_STAT_FAULTED (n : Nat) : Fld := ⟨(DEC_PIPE_STAT n), 29, 29⟩
def DEC_PIPE_STAT_SESSIONS (n : Nat) : Fld := ⟨(DEC_PIPE_STAT n), 17, 10⟩
def DEC_PIPE_STAT_BUSY (n : Nat) : Fld := ⟨(DEC_PIPE_STAT n), 9, 0⟩
def DEC_PIPE_ALLOT (n : Nat) : Nat := 0x300104 + 0x20 * n
def DEC_PIPE_ALLOT_MBPS (n : Nat) : Fld := ⟨(DEC_PIPE_ALLOT n), 31, 16⟩
def DEC_PIPE_ALLOT_MPIX (n : Nat) : Fld := ⟨(DEC_PIPE_ALLOT n), 15, 0⟩
def DEC_PIPE_CNT_ROWS (n : Nat) : Nat := 0x300108 + 0x20 * n
def DEC_PIPE_CNT_OVERRUN (n : Nat) : Nat := 0x30010C + 0x20 * n
def DEC_PIPE_CNT_FBK (n : Nat) : Nat := 0x300110 + 0x20 * n
def DEC_PIPE_CNT_RESET (n : Nat) : Nat := 0x300114 + 0x20 * n
def DEC_SES_CTRL (n : Nat) : Nat := 0x301000 + 0x40 * n
def DEC_SES_CTRL_OPEN (n : Nat) : Fld := ⟨(DEC_SES_CTRL n), 31, 31⟩
def DEC_SES_CTRL_STATE (n : Nat) : Fld := ⟨(DEC_SES_CTRL n), 30, 28⟩
def DEC_SES_CTRL_PROFILE (n : Nat) : Fld := ⟨(DEC_SES_CTRL n), 27, 24⟩
def DEC_SES_CTRL_ROW_CELLS (n : Nat) : Fld := ⟨(DEC_SES_CTRL n), 23, 23⟩
def DEC_SES_CTRL_ROW_AGE (n : Nat) : Fld := ⟨(DEC_SES_CTRL n), 22, 22⟩
def DEC_SES_CTRL_FALLBACK (n : Nat) : Fld := ⟨(DEC_SES_CTRL n), 21, 21⟩
def DEC_SES_CTRL_RECOVERING (n : Nat) : Fld := ⟨(DEC_SES_CTRL n), 20, 20⟩
def DEC_SES_CTRL_VOID (n : Nat) : Fld := ⟨(DEC_SES_CTRL n), 19, 19⟩
def DEC_SES_CTRL_PIPE (n : Nat) : Fld := ⟨(DEC_SES_CTRL n), 18, 16⟩
def DEC_SES_CTRL_PARTITION (n : Nat) : Fld := ⟨(DEC_SES_CTRL n), 11, 0⟩
def DEC_SES_CELL (n : Nat) : Nat := 0x301004 + 0x40 * n
def DEC_SES_CELL_CELL (n : Nat) : Fld := ⟨(DEC_SES_CELL n), 19, 0⟩
def DEC_SES_ROWCELLS (n : Nat) : Nat := 0x301008 + 0x40 * n
def DEC_SES_ROWCELLS_COUNT (n : Nat) : Fld := ⟨(DEC_SES_ROWCELLS n), 27, 20⟩
def DEC_SES_ROWCELLS_FIRST (n : Nat) : Fld := ⟨(DEC_SES_ROWCELLS n), 19, 0⟩
def DEC_SES_PICS (n : Nat) : Nat := 0x30100C + 0x40 * n
def DEC_SES_STAMP_LO (n : Nat) : Nat := 0x301010 + 0x40 * n
def DEC_SES_STAMP_HI (n : Nat) : Nat := 0x301014 + 0x40 * n
def DEC_SES_STAMP_HI_T (n : Nat) : Fld := ⟨(DEC_SES_STAMP_HI n), 7, 0⟩
def DEC_SES_UNCLEAN (n : Nat) : Nat := 0x301018 + 0x40 * n
def DEC_SES_UNCLEAN_UNITS (n : Nat) : Fld := ⟨(DEC_SES_UNCLEAN n), 15, 0⟩
def DEC_SES_STAT (n : Nat) : Nat := 0x30101C + 0x40 * n
def DEC_SES_STAT_SYNTAX (n : Nat) : Fld := ⟨(DEC_SES_STAT n), 31, 31⟩
def DEC_SES_STAT_DATA_LOST (n : Nat) : Fld := ⟨(DEC_SES_STAT n), 30, 30⟩
def DEC_SES_STAT_REF_MISSING (n : Nat) : Fld := ⟨(DEC_SES_STAT n), 29, 29⟩
def DEC_SES_STAT_ROW_OVERRUN (n : Nat) : Fld := ⟨(DEC_SES_STAT n), 28, 28⟩
def DEC_SES_STAT_UNSUPPORTED (n : Nat) : Fld := ⟨(DEC_SES_STAT n), 27, 27⟩
def DEC_SES_STAT_POISON (n : Nat) : Fld := ⟨(DEC_SES_STAT n), 26, 26⟩
def DEC_SES_STAT_MARK_LOST (n : Nat) : Fld := ⟨(DEC_SES_STAT n), 25, 25⟩
def DEC_SES_STAT_OVERRATE (n : Nat) : Fld := ⟨(DEC_SES_STAT n), 24, 24⟩
def DEC_SES_STAT_ANCHOR_JUMP (n : Nat) : Fld := ⟨(DEC_SES_STAT n), 23, 23⟩
def DEC_SES_STAT_DRAIN_RESET (n : Nat) : Fld := ⟨(DEC_SES_STAT n), 22, 22⟩
def DEC_SES_CNT_CONCEAL (n : Nat) : Nat := 0x301020 + 0x40 * n
def DEC_SES_CNT_OVERRUN (n : Nat) : Nat := 0x301024 + 0x40 * n
def DEC_SES_CNT_ERR (n : Nat) : Nat := 0x301028 + 0x40 * n
def DEC_SES_CNT_OVERRATE (n : Nat) : Nat := 0x30102C + 0x40 * n

/-! ### spec/08_encode_pool -/

def ENC_STATUS : Nat := 0x380000
def ENC_STATUS_READY : Fld := ⟨ENC_STATUS, 31, 31⟩
def ENC_STATUS_OPEN : Fld := ⟨ENC_STATUS, 13, 8⟩
def ENC_STATUS_PIPE_EN : Fld := ⟨ENC_STATUS, 3, 0⟩
def ENC_PIPE_STAT (n : Nat) : Nat := 0x380100 + 0x20 * n
def ENC_PIPE_STAT_EN (n : Nat) : Fld := ⟨(ENC_PIPE_STAT n), 31, 31⟩
def ENC_PIPE_STAT_DRAINING (n : Nat) : Fld := ⟨(ENC_PIPE_STAT n), 30, 30⟩
def ENC_PIPE_STAT_FAULTED (n : Nat) : Fld := ⟨(ENC_PIPE_STAT n), 29, 29⟩
def ENC_PIPE_STAT_SESSIONS (n : Nat) : Fld := ⟨(ENC_PIPE_STAT n), 15, 10⟩
def ENC_PIPE_STAT_BUSY (n : Nat) : Fld := ⟨(ENC_PIPE_STAT n), 9, 0⟩
def ENC_PIPE_ALLOT (n : Nat) : Nat := 0x380104 + 0x20 * n
def ENC_PIPE_ALLOT_MBPS (n : Nat) : Fld := ⟨(ENC_PIPE_ALLOT n), 31, 16⟩
def ENC_PIPE_ALLOT_MPIX (n : Nat) : Fld := ⟨(ENC_PIPE_ALLOT n), 15, 0⟩
def ENC_PIPE_CNT_ROWS (n : Nat) : Nat := 0x380108 + 0x20 * n
def ENC_PIPE_CNT_SKIP (n : Nat) : Nat := 0x38010C + 0x20 * n
def ENC_PIPE_CNT_FBK (n : Nat) : Nat := 0x380110 + 0x20 * n
def ENC_PIPE_CNT_RESET (n : Nat) : Nat := 0x380114 + 0x20 * n
def ENC_SES_CTRL (n : Nat) : Nat := 0x381000 + 0x80 * n
def ENC_SES_CTRL_OPEN (n : Nat) : Fld := ⟨(ENC_SES_CTRL n), 31, 31⟩
def ENC_SES_CTRL_STATE (n : Nat) : Fld := ⟨(ENC_SES_CTRL n), 30, 28⟩
def ENC_SES_CTRL_CODEC (n : Nat) : Fld := ⟨(ENC_SES_CTRL n), 27, 26⟩
def ENC_SES_CTRL_LATENCY (n : Nat) : Fld := ⟨(ENC_SES_CTRL n), 25, 25⟩
def ENC_SES_CTRL_DEST (n : Nat) : Fld := ⟨(ENC_SES_CTRL n), 24, 24⟩
def ENC_SES_CTRL_ROW_AGE_SEI (n : Nat) : Fld := ⟨(ENC_SES_CTRL n), 23, 23⟩
def ENC_SES_CTRL_EXHAUSTED (n : Nat) : Fld := ⟨(ENC_SES_CTRL n), 22, 22⟩
def ENC_SES_CTRL_CARRIED (n : Nat) : Fld := ⟨(ENC_SES_CTRL n), 21, 21⟩
def ENC_SES_CTRL_PIPE (n : Nat) : Fld := ⟨(ENC_SES_CTRL n), 19, 18⟩
def ENC_SES_CTRL_OUTPUT (n : Nat) : Fld := ⟨(ENC_SES_CTRL n), 17, 13⟩
def ENC_SES_CTRL_PARTITION (n : Nat) : Fld := ⟨(ENC_SES_CTRL n), 11, 0⟩
def ENC_SES_CELL (n : Nat) : Nat := 0x381004 + 0x80 * n
def ENC_SES_CELL_CELL (n : Nat) : Fld := ⟨(ENC_SES_CELL n), 19, 0⟩
def ENC_SES_SIZE (n : Nat) : Nat := 0x381008 + 0x80 * n
def ENC_SES_SIZE_HEIGHT (n : Nat) : Fld := ⟨(ENC_SES_SIZE n), 31, 16⟩
def ENC_SES_SIZE_WIDTH (n : Nat) : Fld := ⟨(ENC_SES_SIZE n), 15, 0⟩
def ENC_SES_KBPS (n : Nat) : Nat := 0x38100C + 0x80 * n
def ENC_SES_KBPS_KBPS (n : Nat) : Fld := ⟨(ENC_SES_KBPS n), 17, 0⟩
def ENC_SES_PICS (n : Nat) : Nat := 0x381010 + 0x80 * n
def ENC_SES_QP (n : Nat) : Nat := 0x381014 + 0x80 * n
def ENC_SES_QP_QP_AVG (n : Nat) : Fld := ⟨(ENC_SES_QP n), 23, 16⟩
def ENC_SES_QP_REFRESH_POS (n : Nat) : Fld := ⟨(ENC_SES_QP n), 15, 0⟩
def ENC_SES_DEBT (n : Nat) : Nat := 0x381018 + 0x80 * n
def ENC_SES_STAT (n : Nat) : Nat := 0x38101C + 0x80 * n
def ENC_SES_STAT_EXHAUST (n : Nat) : Fld := ⟨(ENC_SES_STAT n), 31, 31⟩
def ENC_SES_STAT_SKIP (n : Nat) : Fld := ⟨(ENC_SES_STAT n), 30, 30⟩
def ENC_SES_STAT_BORROW (n : Nat) : Fld := ⟨(ENC_SES_STAT n), 29, 29⟩
def ENC_SES_STAT_DROP (n : Nat) : Fld := ⟨(ENC_SES_STAT n), 28, 28⟩
def ENC_SES_STAT_RING_FULL (n : Nat) : Fld := ⟨(ENC_SES_STAT n), 27, 27⟩
def ENC_SES_STAT_RESTART (n : Nat) : Fld := ⟨(ENC_SES_STAT n), 26, 26⟩
def ENC_SES_STAT_LATE (n : Nat) : Fld := ⟨(ENC_SES_STAT n), 25, 25⟩
def ENC_SES_STAT_DRAIN_RESET (n : Nat) : Fld := ⟨(ENC_SES_STAT n), 24, 24⟩
def ENC_SES_STAT_POISON (n : Nat) : Fld := ⟨(ENC_SES_STAT n), 23, 23⟩
def ENC_SES_CNT_SKIP (n : Nat) : Nat := 0x381020 + 0x80 * n
def ENC_SES_CNT_DROP (n : Nat) : Nat := 0x381024 + 0x80 * n
def ENC_SES_CNT_LATE (n : Nat) : Nat := 0x381028 + 0x80 * n
def ENC_SES_CNT_BORROW (n : Nat) : Nat := 0x38102C + 0x80 * n
def ENC_SES_RING_BASE_LO (n : Nat) : Nat := 0x381030 + 0x80 * n
def ENC_SES_RING_BASE_HI (n : Nat) : Nat := 0x381034 + 0x80 * n
def ENC_SES_RING_BASE_HI_ADDR (n : Nat) : Fld := ⟨(ENC_SES_RING_BASE_HI n), 15, 0⟩
def ENC_SES_RING_PROD (n : Nat) : Nat := 0x381038 + 0x80 * n
def ENC_SES_RING_CONS (n : Nat) : Nat := 0x38103C + 0x80 * n
def ENC_SES_RING_CFG (n : Nat) : Nat := 0x381040 + 0x80 * n
def ENC_SES_RING_CFG_OPEN (n : Nat) : Fld := ⟨(ENC_SES_RING_CFG n), 31, 31⟩
def ENC_SES_RING_CFG_LOG2_SIZE (n : Nat) : Fld := ⟨(ENC_SES_RING_CFG n), 4, 0⟩
def ENC_SES_RING_STAT (n : Nat) : Nat := 0x381044 + 0x80 * n
def ENC_SES_RING_STAT_ERR (n : Nat) : Fld := ⟨(ENC_SES_RING_STAT n), 31, 31⟩
def ENC_SES_RING_STAT_FBK (n : Nat) : Fld := ⟨(ENC_SES_RING_STAT n), 30, 30⟩

/-! ### spec/09_packet_ports -/

def PKT_STATUS : Nat := 0x400000
def PKT_STATUS_READY : Fld := ⟨PKT_STATUS, 31, 31⟩
def PKT_STATUS_SVC : Fld := ⟨PKT_STATUS, 30, 30⟩
def PKT_STATUS_LINK1 : Fld := ⟨PKT_STATUS, 1, 1⟩
def PKT_STATUS_LINK0 : Fld := ⟨PKT_STATUS, 0, 0⟩
def PKT_SVC_STAT : Nat := 0x400004
def PKT_SVC_STAT_DENIED : Fld := ⟨PKT_SVC_STAT, 1, 1⟩
def PKT_SVC_STAT_ADJUSTED : Fld := ⟨PKT_SVC_STAT, 0, 0⟩
def PKT_QDIAG_CTRL : Nat := 0x400010
def PKT_QDIAG_CTRL_GO : Fld := ⟨PKT_QDIAG_CTRL, 31, 31⟩
def PKT_QDIAG_CTRL_VALID : Fld := ⟨PKT_QDIAG_CTRL, 30, 30⟩
def PKT_QDIAG_CTRL_SESSION : Fld := ⟨PKT_QDIAG_CTRL, 6, 0⟩
def PKT_PORT_STAT (n : Nat) : Nat := 0x400100 + 0x80 * n
def PKT_PORT_STAT_LINK (n : Nat) : Fld := ⟨(PKT_PORT_STAT n), 31, 31⟩
def PKT_PORT_STAT_RSFEC (n : Nat) : Fld := ⟨(PKT_PORT_STAT n), 30, 30⟩
def PKT_PORT_STAT_HOLD_PIN (n : Nat) : Fld := ⟨(PKT_PORT_STAT n), 29, 29⟩
def PKT_PORT_STAT_RX_OVF (n : Nat) : Fld := ⟨(PKT_PORT_STAT n), 28, 28⟩
def PKT_PORT_STAT_AUTH (n : Nat) : Fld := ⟨(PKT_PORT_STAT n), 27, 27⟩
def PKT_PORT_STAT_TX_LOSS (n : Nat) : Fld := ⟨(PKT_PORT_STAT n), 26, 26⟩
def PKT_PORT_STAT_PFC_RX (n : Nat) : Fld := ⟨(PKT_PORT_STAT n), 23, 16⟩
def PKT_PORT_STAT_PFC_TX (n : Nat) : Fld := ⟨(PKT_PORT_STAT n), 15, 8⟩
def PKT_PORT_STAT_PFC_MASK (n : Nat) : Fld := ⟨(PKT_PORT_STAT n), 7, 0⟩
def PKT_PORT_RXBUF (n : Nat) : Nat := 0x400104 + 0x80 * n
def PKT_PORT_RXBUF_LEVEL (n : Nat) : Fld := ⟨(PKT_PORT_RXBUF n), 12, 0⟩
def PKT_PORT_MAC_LO (n : Nat) : Nat := 0x400108 + 0x80 * n
def PKT_PORT_MAC_HI (n : Nat) : Nat := 0x40010C + 0x80 * n
def PKT_PORT_MAC_HI_MAC (n : Nat) : Fld := ⟨(PKT_PORT_MAC_HI n), 15, 0⟩
def PKT_PORT_CNT_RX_FRAMES (n : Nat) : Nat := 0x400120 + 0x80 * n
def PKT_PORT_CNT_NOMATCH (n : Nat) : Nat := 0x400124 + 0x80 * n
def PKT_PORT_CNT_BAD (n : Nat) : Nat := 0x400128 + 0x80 * n
def PKT_PORT_CNT_DROP (n : Nat) : Nat := 0x40012C + 0x80 * n
def PKT_PORT_CNT_AUTH (n : Nat) : Nat := 0x400130 + 0x80 * n
def PKT_PORT_CNT_PAUSE (n : Nat) : Nat := 0x400134 + 0x80 * n
def PKT_PORT_CNT_CTRL_DROP (n : Nat) : Nat := 0x400138 + 0x80 * n
def PKT_PORT_CNT_TX_FRAMES (n : Nat) : Nat := 0x40013C + 0x80 * n
def PKT_PORT_CNT_TX_LOSS (n : Nat) : Nat := 0x400140 + 0x80 * n
def PKT_PORT_CNT_PFC_TX (n : Nat) : Nat := 0x400144 + 0x80 * n
def PKT_PORT_CNT_PFC_RX (n : Nat) : Nat := 0x400148 + 0x80 * n
def PKT_PORT_CNT_FEC_CORR (n : Nat) : Nat := 0x40014C + 0x80 * n
def PKT_PORT_CNT_FEC_UNCORR (n : Nat) : Nat := 0x400150 + 0x80 * n
def PKT_Q_CTRL (n : Nat) : Nat := 0x401000 + 0x40 * n
def PKT_Q_CTRL_OPEN (n : Nat) : Fld := ⟨(PKT_Q_CTRL n), 31, 31⟩
def PKT_Q_CTRL_HELD (n : Nat) : Fld := ⟨(PKT_Q_CTRL n), 30, 30⟩
def PKT_Q_CTRL_FILTER (n : Nat) : Fld := ⟨(PKT_Q_CTRL n), 29, 29⟩
def PKT_Q_CTRL_PORTS (n : Nat) : Fld := ⟨(PKT_Q_CTRL n), 28, 27⟩
def PKT_Q_CTRL_PCP (n : Nat) : Fld := ⟨(PKT_Q_CTRL n), 26, 24⟩
def PKT_Q_CTRL_PFC_EN (n : Nat) : Fld := ⟨(PKT_Q_CTRL n), 23, 23⟩
def PKT_Q_CTRL_HOLD_PIN (n : Nat) : Fld := ⟨(PKT_Q_CTRL n), 22, 22⟩
def PKT_Q_CTRL_SRTP (n : Nat) : Fld := ⟨(PKT_Q_CTRL n), 21, 21⟩
def PKT_Q_CTRL_RTCP_MUX (n : Nat) : Fld := ⟨(PKT_Q_CTRL n), 20, 20⟩
def PKT_Q_CTRL_MARK_VALID (n : Nat) : Fld := ⟨(PKT_Q_CTRL n), 19, 16⟩
def PKT_Q_CTRL_LOG2_SIZE (n : Nat) : Fld := ⟨(PKT_Q_CTRL n), 4, 0⟩
def PKT_Q_WR (n : Nat) : Nat := 0x401004 + 0x40 * n
def PKT_Q_RD (n : Nat) : Nat := 0x401008 + 0x40 * n
def PKT_Q_TAIL (n : Nat) : Nat := 0x40100C + 0x40 * n
def PKT_Q_MARK (n : Nat) (k : Nat) : Nat := 0x401010 + 0x40 * n + 0x4 * k
def PKT_Q_WMARK (n : Nat) : Nat := 0x401020 + 0x40 * n
def PKT_Q_WMARK_HIGH (n : Nat) : Fld := ⟨(PKT_Q_WMARK n), 25, 16⟩
def PKT_Q_WMARK_LOW (n : Nat) : Fld := ⟨(PKT_Q_WMARK n), 9, 0⟩
def PKT_Q_FILL (n : Nat) : Nat := 0x401024 + 0x40 * n
def PKT_Q_STAT (n : Nat) : Nat := 0x401028 + 0x40 * n
def PKT_Q_STAT_LOST (n : Nat) : Fld := ⟨(PKT_Q_STAT n), 31, 31⟩
def PKT_Q_STAT_MARK_LOST (n : Nat) : Fld := ⟨(PKT_Q_STAT n), 30, 30⟩
def PKT_Q_STAT_REJECT (n : Nat) : Fld := ⟨(PKT_Q_STAT n), 29, 29⟩
def PKT_Q_CNT_ITEMS (n : Nat) : Nat := 0x40102C + 0x40 * n
def PKT_Q_CNT_LOST (n : Nat) : Nat := 0x401030 + 0x40 * n
def PKT_Q_CNT_MARK_LOST (n : Nat) : Nat := 0x401034 + 0x40 * n
def PKT_Q_CNT_HOLD (n : Nat) : Nat := 0x401038 + 0x40 * n
def PKT_Q_CNT_REJECT (n : Nat) : Nat := 0x40103C + 0x40 * n
def PKT_TX_CTRL (n : Nat) : Nat := 0x403000 + 0x10 * n
def PKT_TX_CTRL_OPEN (n : Nat) : Fld := ⟨(PKT_TX_CTRL n), 31, 31⟩
def PKT_TX_CTRL_SRTP (n : Nat) : Fld := ⟨(PKT_TX_CTRL n), 30, 30⟩
def PKT_TX_CTRL_PORT (n : Nat) : Fld := ⟨(PKT_TX_CTRL n), 29, 29⟩
def PKT_TX_CTRL_SENDING (n : Nat) : Fld := ⟨(PKT_TX_CTRL n), 28, 28⟩
def PKT_TX_CTRL_SEQ (n : Nat) : Fld := ⟨(PKT_TX_CTRL n), 15, 0⟩
def PKT_TX_ROC (n : Nat) : Nat := 0x403004 + 0x10 * n
def PKT_TX_CNT_PKTS (n : Nat) : Nat := 0x403008 + 0x10 * n
def PKT_TX_CNT_LOSS (n : Nat) : Nat := 0x40300C + 0x10 * n

/-! ### spec/10_time_unit -/

def TIM_STATUS : Nat := 0x030000
def TIM_STATUS_READY : Fld := ⟨TIM_STATUS, 31, 31⟩
def TIM_STATUS_TRUSTED : Fld := ⟨TIM_STATUS, 30, 30⟩
def TIM_STATUS_PERMIT : Fld := ⟨TIM_STATUS, 29, 29⟩
def TIM_STATUS_STATE : Fld := ⟨TIM_STATUS, 28, 26⟩
def TIM_STATUS_PORT : Fld := ⟨TIM_STATUS, 25, 25⟩
def TIM_STATUS_MASTER : Fld := ⟨TIM_STATUS, 24, 24⟩
def TIM_STATUS_DOMAIN : Fld := ⟨TIM_STATUS, 23, 16⟩
def TIM_STATUS_EPOCH : Fld := ⟨TIM_STATUS, 15, 0⟩
def TIM_PTP_NS : Nat := 0x030004
def TIM_PTP_SEC_LO : Nat := 0x030008
def TIM_PTP_SEC_HI : Nat := 0x03000C
def TIM_PTP_SEC_HI_SEC : Fld := ⟨TIM_PTP_SEC_HI, 15, 0⟩
def TIM_AGE_LO : Nat := 0x030010
def TIM_AGE_HI : Nat := 0x030014
def TIM_PTP_ADJ : Nat := 0x030018
def TIM_AGE_ADJ : Nat := 0x03001C
def TIM_STEP_LO : Nat := 0x030020
def TIM_STEP_HI : Nat := 0x030024
def TIM_STEP_THRESH : Nat := 0x030028
def TIM_STEP_THRESH_NS : Fld := ⟨TIM_STEP_THRESH, 29, 0⟩
def TIM_HOLDOVER : Nat := 0x03002C
def TIM_HOLDOVER_SEC : Fld := ⟨TIM_HOLDOVER, 11, 0⟩
def TIM_OFFSET : Nat := 0x030030
def TIM_MEAN_DELAY : Nat := 0x030034
def TIM_GM_ID_LO : Nat := 0x030038
def TIM_GM_ID_HI : Nat := 0x03003C
def TIM_PPS_CTRL : Nat := 0x030040
def TIM_PPS_CTRL_EN : Fld := ⟨TIM_PPS_CTRL, 31, 31⟩
def TIM_PPS_CTRL_GATE : Fld := ⟨TIM_PPS_CTRL, 30, 30⟩
def TIM_PPS_CTRL_WIDTH_US : Fld := ⟨TIM_PPS_CTRL, 18, 0⟩
def TIM_PPSIN_NS : Nat := 0x030044
def TIM_PPSIN_SEC_LO : Nat := 0x030048
def TIM_PPSIN_SEC_HI : Nat := 0x03004C
def TIM_PPSIN_SEC_HI_NEW : Fld := ⟨TIM_PPSIN_SEC_HI, 31, 31⟩
def TIM_PPSIN_SEC_HI_SEC : Fld := ⟨TIM_PPSIN_SEC_HI, 15, 0⟩
def TIM_TXQ_HEAD : Nat := 0x030050
def TIM_TXQ_HEAD_VALID : Fld := ⟨TIM_TXQ_HEAD, 31, 31⟩
def TIM_TXQ_HEAD_PORT : Fld := ⟨TIM_TXQ_HEAD, 30, 30⟩
def TIM_TXQ_HEAD_MSGTYPE : Fld := ⟨TIM_TXQ_HEAD, 29, 26⟩
def TIM_TXQ_HEAD_SEQ_ID : Fld := ⟨TIM_TXQ_HEAD, 15, 0⟩
def TIM_TXQ_NS : Nat := 0x030054
def TIM_TXQ_SEC_LO : Nat := 0x030058
def TIM_TXQ_SEC_HI : Nat := 0x03005C
def TIM_TXQ_SEC_HI_SEC : Fld := ⟨TIM_TXQ_SEC_HI, 15, 0⟩
def TIM_TXQ_LEVEL : Nat := 0x030060
def TIM_TXQ_LEVEL_LEVEL : Fld := ⟨TIM_TXQ_LEVEL, 4, 0⟩
def TIM_AGE_ALIGN_LO : Nat := 0x030068
def TIM_AGE_ALIGN_HI : Nat := 0x03006C
def TIM_CNT_STEP : Nat := 0x030080
def TIM_CNT_STEP_DENIED : Nat := 0x030084
def TIM_CNT_UNTRUSTED : Nat := 0x030088
def TIM_CNT_TXQ_OVF : Nat := 0x03008C
def TIM_CNT_OUTLIER : Nat := 0x030090
def TIM_CNT_CONV_OLD : Nat := 0x030094
def TIM_STAT : Nat := 0x0300A0
def TIM_STAT_STEPPED : Fld := ⟨TIM_STAT, 31, 31⟩
def TIM_STAT_UNTRUSTED : Fld := ⟨TIM_STAT, 30, 30⟩
def TIM_STAT_TXQ_OVF : Fld := ⟨TIM_STAT, 29, 29⟩
def TIM_STAT_PPS_DIFF : Fld := ⟨TIM_STAT, 28, 28⟩
def TIM_STAT_ALIGN_REFUSED : Fld := ⟨TIM_STAT, 27, 27⟩
def TIM_STAT_ADJUSTED : Fld := ⟨TIM_STAT, 26, 26⟩

/-! ### spec/11_kiene_link -/

def KLN_STAT (n : Nat) : Nat := 0x480000 + 0x400 * n
def KLN_STAT_POWERED (n : Nat) : Fld := ⟨(KLN_STAT n), 31, 31⟩
def KLN_STAT_STATE (n : Nat) : Fld := ⟨(KLN_STAT n), 30, 28⟩
def KLN_STAT_PRESENT (n : Nat) : Fld := ⟨(KLN_STAT n), 27, 27⟩
def KLN_STAT_BLOCK_LOCK (n : Nat) : Fld := ⟨(KLN_STAT n), 26, 26⟩
def KLN_STAT_SCR_SYNC (n : Nat) : Fld := ⟨(KLN_STAT n), 25, 25⟩
def KLN_STAT_TX (n : Nat) : Fld := ⟨(KLN_STAT n), 24, 24⟩
def KLN_STAT_MODE_UNSUPP (n : Nat) : Fld := ⟨(KLN_STAT n), 23, 23⟩
def KLN_STAT_PARTNER_SILENT (n : Nat) : Fld := ⟨(KLN_STAT n), 22, 22⟩
def KLN_STAT_SINK_PRESENT (n : Nat) : Fld := ⟨(KLN_STAT n), 21, 21⟩
def KLN_STAT_HOLDING (n : Nat) : Fld := ⟨(KLN_STAT n), 20, 20⟩
def KLN_STAT_HOTPLUG (n : Nat) : Fld := ⟨(KLN_STAT n), 19, 19⟩
def KLN_STAT_CAUSE (n : Nat) : Fld := ⟨(KLN_STAT n), 15, 12⟩
def KLN_EQ0 (n : Nat) : Nat := 0x480004 + 0x400 * n
def KLN_EQ1 (n : Nat) : Nat := 0x480008 + 0x400 * n
def KLN_LAT (n : Nat) : Nat := 0x48000C + 0x400 * n
def KLN_LAT_LAT_RX_PS (n : Nat) : Fld := ⟨(KLN_LAT n), 31, 16⟩
def KLN_LAT_LAT_TX_PS (n : Nat) : Fld := ⟨(KLN_LAT n), 15, 0⟩
def KLN_OFFSET (n : Nat) : Nat := 0x480010 + 0x400 * n
def KLN_OFFSET_FROZEN (n : Nat) : Fld := ⟨(KLN_OFFSET n), 8, 8⟩
def KLN_OFFSET_VALUE (n : Nat) : Fld := ⟨(KLN_OFFSET n), 7, 0⟩
def KLN_ELASTIC (n : Nat) : Nat := 0x480014 + 0x400 * n
def KLN_ELASTIC_FILL (n : Nat) : Fld := ⟨(KLN_ELASTIC n), 4, 0⟩
def KLN_REPLAY (n : Nat) : Nat := 0x480018 + 0x400 * n
def KLN_REPLAY_OUTSTANDING (n : Nat) : Fld := ⟨(KLN_REPLAY n), 20, 16⟩
def KLN_REPLAY_TX_SEQ (n : Nat) : Fld := ⟨(KLN_REPLAY n), 15, 0⟩
def KLN_RX_SEQ (n : Nat) : Nat := 0x48001C + 0x400 * n
def KLN_RX_SEQ_EXPECTED (n : Nat) : Fld := ⟨(KLN_RX_SEQ n), 15, 0⟩
def KLN_PCAP_LO (n : Nat) (k : Nat) : Nat := 0x480020 + 0x400 * n + 0x8 * k
def KLN_PCAP_HI (n : Nat) (k : Nat) : Nat := 0x480024 + 0x400 * n + 0x8 * k
def KLN_PCAP_HI_WORD (n : Nat) (k : Nat) : Fld := ⟨(KLN_PCAP_HI n k), 7, 0⟩
def KLN_LCAP_LO (n : Nat) (k : Nat) : Nat := 0x480040 + 0x400 * n + 0x8 * k
def KLN_LCAP_HI (n : Nat) (k : Nat) : Nat := 0x480044 + 0x400 * n + 0x8 * k
def KLN_LCAP_HI_WORD (n : Nat) (k : Nat) : Fld := ⟨(KLN_LCAP_HI n k), 7, 0⟩
def KLN_EVT (n : Nat) : Nat := 0x480060 + 0x400 * n
def KLN_EVT_CRC_ERR (n : Nat) : Fld := ⟨(KLN_EVT n), 31, 31⟩
def KLN_EVT_REPLAY_LASTING (n : Nat) : Fld := ⟨(KLN_EVT n), 30, 30⟩
def KLN_EVT_EB_SLIP (n : Nat) : Fld := ⟨(KLN_EVT n), 29, 29⟩
def KLN_EVT_OS_BAD (n : Nat) : Fld := ⟨(KLN_EVT n), 28, 28⟩
def KLN_EVT_LOCK_LOST (n : Nat) : Fld := ⟨(KLN_EVT n), 27, 27⟩
def KLN_EVT_BRINGUP_FAIL (n : Nat) : Fld := ⟨(KLN_EVT n), 26, 26⟩
def KLN_CNT_CRC (n : Nat) : Nat := 0x480080 + 0x400 * n
def KLN_CNT_REPLAY (n : Nat) : Nat := 0x480084 + 0x400 * n
def KLN_CNT_REPLAY_LASTING (n : Nat) : Nat := 0x480088 + 0x400 * n
def KLN_CNT_TIMEOUT (n : Nat) : Nat := 0x48008C + 0x400 * n
def KLN_CNT_SYNC_BAD (n : Nat) : Nat := 0x480090 + 0x400 * n
def KLN_CNT_OS_BAD (n : Nat) : Nat := 0x480094 + 0x400 * n
def KLN_CNT_SKIP_ADD (n : Nat) : Nat := 0x480098 + 0x400 * n
def KLN_CNT_SKIP_DEL (n : Nat) : Nat := 0x48009C + 0x400 * n
def KLN_CNT_EB_SLIP (n : Nat) : Nat := 0x4800A0 + 0x400 * n
def KLN_CNT_LOCK_LOST (n : Nat) : Nat := 0x4800A4 + 0x400 * n
def KLN_CNT_BRINGUP (n : Nat) : Nat := 0x4800A8 + 0x400 * n
def KLN_CNT_FLITS_TX (n : Nat) : Nat := 0x4800AC + 0x400 * n
def KLN_CNT_FLITS_RX (n : Nat) : Nat := 0x4800B0 + 0x400 * n
def KLN_CNT_LINE_CUT (n : Nat) : Nat := 0x4800B4 + 0x400 * n
def KLN_CAP_CTRL (n : Nat) : Nat := 0x480200 + 0x400 * n
def KLN_CAP_CTRL_EN (n : Nat) : Fld := ⟨(KLN_CAP_CTRL n), 31, 31⟩
def KLN_CAP_CTRL_STATE (n : Nat) : Fld := ⟨(KLN_CAP_CTRL n), 30, 28⟩
def KLN_CAP_CTRL_FORMAT (n : Nat) : Fld := ⟨(KLN_CAP_CTRL n), 27, 27⟩
def KLN_CAP_CTRL_TIME_MODE (n : Nat) : Fld := ⟨(KLN_CAP_CTRL n), 26, 26⟩
def KLN_CAP_CTRL_FALLBACK (n : Nat) : Fld := ⟨(KLN_CAP_CTRL n), 25, 25⟩
def KLN_CAP_CTRL_CLASS (n : Nat) : Fld := ⟨(KLN_CAP_CTRL n), 24, 24⟩
def KLN_CAP_CTRL_MAX_VIEWS (n : Nat) : Fld := ⟨(KLN_CAP_CTRL n), 23, 18⟩
def KLN_CAP_CTRL_PARTITION (n : Nat) : Fld := ⟨(KLN_CAP_CTRL n), 11, 0⟩
def KLN_CAP_CELL (n : Nat) : Nat := 0x480204 + 0x400 * n
def KLN_CAP_CELL_CELL (n : Nat) : Fld := ⟨(KLN_CAP_CELL n), 19, 0⟩
def KLN_CAP_SIZE (n : Nat) : Nat := 0x480208 + 0x400 * n
def KLN_CAP_SIZE_HEIGHT (n : Nat) : Fld := ⟨(KLN_CAP_SIZE n), 31, 16⟩
def KLN_CAP_SIZE_WIDTH (n : Nat) : Fld := ⟨(KLN_CAP_SIZE n), 15, 0⟩
def KLN_CAP_PICS (n : Nat) : Nat := 0x48020C + 0x400 * n
def KLN_CAP_STAMP_LO (n : Nat) : Nat := 0x480210 + 0x400 * n
def KLN_CAP_STAMP_HI (n : Nat) : Nat := 0x480214 + 0x400 * n
def KLN_CAP_STAMP_HI_T (n : Nat) : Fld := ⟨(KLN_CAP_STAMP_HI n), 7, 0⟩
def KLN_CAP_STAT (n : Nat) : Nat := 0x480218 + 0x400 * n
def KLN_CAP_STAT_TORN (n : Nat) : Fld := ⟨(KLN_CAP_STAT n), 31, 31⟩
def KLN_CAP_STAT_OVERSIZE (n : Nat) : Fld := ⟨(KLN_CAP_STAT n), 30, 30⟩
def KLN_CAP_STAT_FORMAT_ERR (n : Nat) : Fld := ⟨(KLN_CAP_STAT n), 29, 29⟩
def KLN_CAP_STAT_DRAIN_RESET (n : Nat) : Fld := ⟨(KLN_CAP_STAT n), 28, 28⟩
def KLN_CAP_CNT_TORN (n : Nat) : Nat := 0x480220 + 0x400 * n
def KLN_CAP_CNT_OVERSIZE (n : Nat) : Nat := 0x480224 + 0x400 * n

/-! ### spec/12_pair_operation -/

def PAIR_STATUS : Nat := 0x080000
def PAIR_STATUS_READY : Fld := ⟨PAIR_STATUS, 31, 31⟩
def PAIR_STATUS_PRESENT : Fld := ⟨PAIR_STATUS, 30, 30⟩
def PAIR_STATUS_SIDE : Fld := ⟨PAIR_STATUS, 29, 29⟩
def PAIR_STATUS_ILK : Fld := ⟨PAIR_STATUS, 28, 28⟩
def PAIR_STATUS_DUAL_INPUT : Fld := ⟨PAIR_STATUS, 27, 27⟩
def PAIR_STATUS_ROLE : Fld := ⟨PAIR_STATUS, 26, 24⟩
def PAIR_STATUS_PHASE : Fld := ⟨PAIR_STATUS, 23, 21⟩
def PAIR_STATUS_CROSSCHECK : Fld := ⟨PAIR_STATUS, 20, 20⟩
def PAIR_STATUS_HOT_EGRESS : Fld := ⟨PAIR_STATUS, 19, 19⟩
def PAIR_STATUS_DISPUTE_MARK : Fld := ⟨PAIR_STATUS, 18, 18⟩
def PAIR_STATUS_PARTNER_RESTARTING : Fld := ⟨PAIR_STATUS, 17, 17⟩
def PAIR_STATUS_CAUSE : Fld := ⟨PAIR_STATUS, 16, 13⟩
def PAIR_PINS : Nat := 0x080004
def PAIR_PINS_OUT_OWN : Fld := ⟨PAIR_PINS, 7, 7⟩
def PAIR_PINS_SEL_STATUS : Fld := ⟨PAIR_PINS, 6, 6⟩
def PAIR_PINS_HB_OUT : Fld := ⟨PAIR_PINS, 5, 5⟩
def PAIR_PINS_HB_IN : Fld := ⟨PAIR_PINS, 4, 4⟩
def PAIR_PINS_ILK_OUT : Fld := ⟨PAIR_PINS, 3, 3⟩
def PAIR_PINS_ILK_IN : Fld := ⟨PAIR_PINS, 2, 2⟩
def PAIR_PINS_PIN_ALIVE : Fld := ⟨PAIR_PINS, 1, 1⟩
def PAIR_PINS_LINK_ALIVE : Fld := ⟨PAIR_PINS, 0, 0⟩
def PAIR_LINK : Nat := 0x080008
def PAIR_LINK_LANES : Fld := ⟨PAIR_LINK, 3, 0⟩
def PAIR_HB_AGE : Nat := 0x08000C
def PAIR_HB_AGE_PIN_US : Fld := ⟨PAIR_HB_AGE, 31, 16⟩
def PAIR_HB_AGE_LINK_US : Fld := ⟨PAIR_HB_AGE, 15, 0⟩
def PAIR_TLOSS : Nat := 0x080010
def PAIR_TLOSS_US : Fld := ⟨PAIR_TLOSS, 16, 0⟩
def PAIR_AGE_OFS : Nat := 0x080014
def PAIR_PTP_OFS : Nat := 0x080018
def PAIR_MIRROR : Nat := 0x08001C
def PAIR_MIRROR_THROTTLE : Fld := ⟨PAIR_MIRROR, 31, 31⟩
def PAIR_MIRROR_LEVEL_KIB : Fld := ⟨PAIR_MIRROR, 14, 0⟩
def PAIR_PSEQ_TX : Nat := 0x080020
def PAIR_PSEQ_RX : Nat := 0x080024
def PAIR_EVT : Nat := 0x080028
def PAIR_EVT_TAKEOVER : Fld := ⟨PAIR_EVT, 31, 31⟩
def PAIR_EVT_YIELD : Fld := ⟨PAIR_EVT, 30, 30⟩
def PAIR_EVT_DUAL : Fld := ⟨PAIR_EVT, 29, 29⟩
def PAIR_EVT_LINK_LOST : Fld := ⟨PAIR_EVT, 28, 28⟩
def PAIR_EVT_RESYNC : Fld := ⟨PAIR_EVT, 27, 27⟩
def PAIR_EVT_EGRESS_FAIL : Fld := ⟨PAIR_EVT, 26, 26⟩
def PAIR_EVT_DISAGREE_LASTING : Fld := ⟨PAIR_EVT, 25, 25⟩
def PAIR_EVT_DIVERGE : Fld := ⟨PAIR_EVT, 24, 24⟩
def PAIR_EVT_AGE_AHEAD : Fld := ⟨PAIR_EVT, 23, 23⟩
def PAIR_CNT_TAKEOVER : Nat := 0x080040
def PAIR_CNT_YIELD : Nat := 0x080044
def PAIR_CNT_PIN_GAP : Nat := 0x080048
def PAIR_CNT_LINK_GAP : Nat := 0x08004C
def PAIR_CNT_RESYNC : Nat := 0x080050
def PAIR_CNT_DISAGREE_T : Nat := 0x080054
def PAIR_CNT_DISAGREE_L : Nat := 0x080058
def PAIR_CNT_LATE_LATCH : Nat := 0x08005C
def PAIR_CNT_PIC_SKEW : Nat := 0x080060
def PAIR_CNT_REC_MISSING : Nat := 0x080064
def PAIR_CNT_HOST_DROP : Nat := 0x080068
def PAIR_CNT_RETX : Nat := 0x08006C
def PAIR_OUT_CMP (n : Nat) : Nat := 0x081000 + 0x10 * n
def PAIR_OUT_CMP_RESULT (n : Nat) : Fld := ⟨(PAIR_OUT_CMP n), 31, 30⟩
def PAIR_OUT_CMP_EXCL (n : Nat) : Fld := ⟨(PAIR_OUT_CMP n), 29, 27⟩
def PAIR_OUT_CMP_ATTRIB (n : Nat) : Fld := ⟨(PAIR_OUT_CMP n), 26, 25⟩
def PAIR_OUT_CMP_CONVERGED (n : Nat) : Fld := ⟨(PAIR_OUT_CMP n), 24, 24⟩
def PAIR_OUT_CMP_RUN (n : Nat) : Fld := ⟨(PAIR_OUT_CMP n), 23, 16⟩
def PAIR_OUT_CMP_DISPUTES (n : Nat) : Fld := ⟨(PAIR_OUT_CMP n), 4, 0⟩
def PAIR_OUT_F (n : Nat) : Nat := 0x081004 + 0x10 * n
def PAIR_OUT_REGION (n : Nat) : Nat := 0x081008 + 0x10 * n
def PAIR_OUT_REGION_VALID (n : Nat) : Fld := ⟨(PAIR_OUT_REGION n), 31, 31⟩
def PAIR_OUT_REGION_REGION (n : Nat) : Fld := ⟨(PAIR_OUT_REGION n), 13, 0⟩

/-! ### spec/13_ranger_mailboxes -/

def MBX_STATUS : Nat := 0x010000
def MBX_STATUS_READY : Fld := ⟨MBX_STATUS, 31, 31⟩
def MBX_STATUS_RESTARTING : Fld := ⟨MBX_STATUS, 30, 30⟩
def MBX_STATUS_RECOVERY : Fld := ⟨MBX_STATUS, 29, 29⟩
def MBX_STATUS_RESTARTS : Fld := ⟨MBX_STATUS, 15, 0⟩
def MBX_FW_VER : Nat := 0x010004
def MBX_FW_VER_MAJOR : Fld := ⟨MBX_FW_VER, 31, 24⟩
def MBX_FW_VER_MINOR : Fld := ⟨MBX_FW_VER, 23, 16⟩
def MBX_FW_VER_BUILD : Fld := ⟨MBX_FW_VER, 15, 0⟩
def MBX_RESTART_CAUSE : Nat := 0x010008
def MBX_RESTART_CAUSE_CAUSE : Fld := ⟨MBX_RESTART_CAUSE, 7, 0⟩
def MBX_DB (n : Nat) : Nat := 0x010100 + 0x10 * n
def MBX_DB_GO (n : Nat) : Fld := ⟨(MBX_DB n), 31, 31⟩
def MBX_DB_IRQ (n : Nat) : Fld := ⟨(MBX_DB n), 0, 0⟩
def MBX_CMPL (n : Nat) : Nat := 0x010104 + 0x10 * n
def MBX_CMPL_DONE (n : Nat) : Fld := ⟨(MBX_CMPL n), 31, 31⟩
def MBX_CMPL_WR_DROP (n : Nat) : Fld := ⟨(MBX_CMPL n), 30, 30⟩
def MBX_CMPL_DB_ERR (n : Nat) : Fld := ⟨(MBX_CMPL n), 29, 29⟩
def MBX_CMPL_HW (n : Nat) : Fld := ⟨(MBX_CMPL n), 28, 28⟩
def MBX_CMPL_STATE (n : Nat) : Fld := ⟨(MBX_CMPL n), 25, 24⟩
def MBX_CMPL_TAG (n : Nat) : Fld := ⟨(MBX_CMPL n), 15, 0⟩
def MBX_BIND (n : Nat) : Nat := 0x010108 + 0x10 * n
def MBX_BIND_PARTITION (n : Nat) : Fld := ⟨(MBX_BIND n), 11, 0⟩
def MBX_NRING_BASE_LO (n : Nat) : Nat := 0x010200 + 0x20 * n
def MBX_NRING_BASE_HI (n : Nat) : Nat := 0x010204 + 0x20 * n
def MBX_NRING_CFG (n : Nat) : Nat := 0x010208 + 0x20 * n
def MBX_NRING_CFG_OPEN (n : Nat) : Fld := ⟨(MBX_NRING_CFG n), 31, 31⟩
def MBX_NRING_CFG_DEV_OWNER (n : Nat) : Fld := ⟨(MBX_NRING_CFG n), 30, 30⟩
def MBX_NRING_CFG_PARTITION (n : Nat) : Fld := ⟨(MBX_NRING_CFG n), 16, 5⟩
def MBX_NRING_CFG_LOG2_SIZE (n : Nat) : Fld := ⟨(MBX_NRING_CFG n), 4, 0⟩
def MBX_NRING_PROD (n : Nat) : Nat := 0x01020C + 0x20 * n
def MBX_NRING_CONS (n : Nat) : Nat := 0x010210 + 0x20 * n
def MBX_NRING_LEVEL (n : Nat) : Nat := 0x010214 + 0x20 * n
def MBX_NRING_LEVEL_BYTES (n : Nat) : Fld := ⟨(MBX_NRING_LEVEL n), 24, 0⟩
def MBX_NRING_STAT (n : Nat) : Nat := 0x010218 + 0x20 * n
def MBX_NRING_STAT_ERR (n : Nat) : Fld := ⟨(MBX_NRING_STAT n), 31, 31⟩
def MBX_NRING_STAT_LOST (n : Nat) : Fld := ⟨(MBX_NRING_STAT n), 30, 30⟩
def MBX_NRING_STAT_OVERFLOW (n : Nat) : Fld := ⟨(MBX_NRING_STAT n), 29, 29⟩
def MBX_NRING_STAT_BACKLOG (n : Nat) : Fld := ⟨(MBX_NRING_STAT n), 12, 0⟩
def MBX_NRING_CNT_DROP (n : Nat) : Nat := 0x01021C + 0x20 * n

/-! ### spec/14_command_set -/

def SYS_SVC : Nat := 0x000020
def SYS_SVC_ACTIVE : Fld := ⟨SYS_SVC, 31, 31⟩
def SYS_SVC_LOCK : Fld := ⟨SYS_SVC, 30, 30⟩
def SYS_SVC_REMAIN_S : Fld := ⟨SYS_SVC, 11, 0⟩

/-! ### spec/16_firebreak -/

def FBK_STATUS : Nat := 0x040000
def FBK_STATUS_READY : Fld := ⟨FBK_STATUS, 31, 31⟩
def FBK_STATUS_VIOL : Fld := ⟨FBK_STATUS, 27, 0⟩
def FBK_BARRIER (n : Nat) : Nat := 0x041000 + 0x400 * n
def FBK_BARRIER_GO (n : Nat) : Fld := ⟨(FBK_BARRIER n), 0, 0⟩
def FBK_BARRIER_DONE (n : Nat) : Nat := 0x041004 + 0x400 * n
def FBK_BARRIER_DONE_OLD_PENDING (n : Nat) : Fld := ⟨(FBK_BARRIER_DONE n), 23, 8⟩
def FBK_BARRIER_DONE_DONE (n : Nat) : Fld := ⟨(FBK_BARRIER_DONE n), 0, 0⟩
def FBK_UNIT_STAT (n : Nat) : Nat := 0x041008 + 0x400 * n
def FBK_UNIT_STAT_ADJUSTED (n : Nat) : Fld := ⟨(FBK_UNIT_STAT n), 31, 31⟩
def FBK_UNIT_STAT_LOCKED (n : Nat) : Fld := ⟨(FBK_UNIT_STAT n), 5, 0⟩
def FBK_VIOL_STAT (n : Nat) : Nat := 0x041040 + 0x400 * n
def FBK_VIOL_STAT_VALID (n : Nat) : Fld := ⟨(FBK_VIOL_STAT n), 31, 31⟩
def FBK_VIOL_STAT_OVERFLOW (n : Nat) : Fld := ⟨(FBK_VIOL_STAT n), 30, 30⟩
def FBK_VIOL_STAT_DBG_DENIED (n : Nat) : Fld := ⟨(FBK_VIOL_STAT n), 29, 29⟩
def FBK_VIOL_STAT_WRITE (n : Nat) : Fld := ⟨(FBK_VIOL_STAT n), 28, 28⟩
def FBK_VIOL_STAT_CAUSE (n : Nat) : Fld := ⟨(FBK_VIOL_STAT n), 27, 25⟩
def FBK_VIOL_STAT_LENGTH (n : Nat) : Fld := ⟨(FBK_VIOL_STAT n), 11, 0⟩
def FBK_VIOL_ADDR_LO (n : Nat) : Nat := 0x041044 + 0x400 * n
def FBK_VIOL_ADDR_HI (n : Nat) : Nat := 0x041048 + 0x400 * n
def FBK_VIOL_ADDR_HI_ADDR (n : Nat) : Fld := ⟨(FBK_VIOL_ADDR_HI n), 15, 0⟩
def FBK_VIOL_CNT (n : Nat) : Nat := 0x04104C + 0x400 * n
def FBK_HOST_SCANLOCK_CNT (n : Nat) : Nat := 0x041050 + 0x400 * n
def FBK_REG_BASE_LO (n : Nat) (k : Nat) : Nat := 0x041100 + 0x400 * n + 0x10 * k
def FBK_REG_BASE_LO_BASE (n : Nat) (k : Nat) : Fld := ⟨(FBK_REG_BASE_LO n k), 31, 8⟩
def FBK_REG_BASE_HI (n : Nat) (k : Nat) : Nat := 0x041104 + 0x400 * n + 0x10 * k
def FBK_REG_BASE_HI_BASE (n : Nat) (k : Nat) : Fld := ⟨(FBK_REG_BASE_HI n k), 15, 0⟩
def FBK_REG_CFG (n : Nat) (k : Nat) : Nat := 0x041108 + 0x400 * n + 0x10 * k
def FBK_REG_CFG_EN (n : Nat) (k : Nat) : Fld := ⟨(FBK_REG_CFG n k), 31, 31⟩
def FBK_REG_CFG_R (n : Nat) (k : Nat) : Fld := ⟨(FBK_REG_CFG n k), 30, 30⟩
def FBK_REG_CFG_W (n : Nat) (k : Nat) : Fld := ⟨(FBK_REG_CFG n k), 29, 29⟩
def FBK_REG_CFG_LOCK (n : Nat) (k : Nat) : Fld := ⟨(FBK_REG_CFG n k), 28, 28⟩
def FBK_REG_CFG_LOG2_SIZE (n : Nat) (k : Nat) : Fld := ⟨(FBK_REG_CFG n k), 5, 0⟩
def FBK_WIN_BASE_LO (n : Nat) : Nat := 0x048000 + 0x10 * n
def FBK_WIN_BASE_LO_BASE (n : Nat) : Fld := ⟨(FBK_WIN_BASE_LO n), 31, 12⟩
def FBK_WIN_BASE_HI (n : Nat) : Nat := 0x048004 + 0x10 * n
def FBK_WIN_BASE_HI_BASE (n : Nat) : Fld := ⟨(FBK_WIN_BASE_HI n), 15, 0⟩
def FBK_WIN_CFG (n : Nat) : Nat := 0x048008 + 0x10 * n
def FBK_WIN_CFG_ARMED (n : Nat) : Fld := ⟨(FBK_WIN_CFG n), 31, 31⟩
def FBK_WIN_CFG_OUTPUT (n : Nat) : Fld := ⟨(FBK_WIN_CFG n), 21, 17⟩
def FBK_WIN_CFG_SLOT (n : Nat) : Fld := ⟨(FBK_WIN_CFG n), 16, 14⟩
def FBK_WIN_CFG_PLANE (n : Nat) : Fld := ⟨(FBK_WIN_CFG n), 13, 13⟩
def FBK_WIN_CFG_LOG2_SIZE (n : Nat) : Fld := ⟨(FBK_WIN_CFG n), 5, 0⟩
def FBK_WIN_HITS (n : Nat) : Nat := 0x04800C + 0x10 * n

/-! ### spec/17_faults_checks_injection -/

def HLT_STATUS : Nat := 0x020000
def HLT_STATUS_READY : Fld := ⟨HLT_STATUS, 31, 31⟩
def HLT_STATUS_FATAL : Fld := ⟨HLT_STATUS, 30, 30⟩
def HLT_STATUS_LASTING_PEND : Fld := ⟨HLT_STATUS, 29, 29⟩
def HLT_STATUS_FAULT_N : Fld := ⟨HLT_STATUS, 28, 28⟩
def HLT_STATUS_FATAL_CAUSE : Fld := ⟨HLT_STATUS, 7, 0⟩
def HLT_CTRL : Nat := 0x020004
def HLT_CTRL_FAULTN_LASTING : Fld := ⟨HLT_CTRL, 2, 2⟩
def HLT_CTRL_IRQ_CLASS : Fld := ⟨HLT_CTRL, 1, 0⟩
def HLT_CNT_CORRECTED : Nat := 0x020010
def HLT_CNT_TRANSIENT : Nat := 0x020014
def HLT_CNT_LASTING : Nat := 0x020018
def HLT_CNT_FATAL : Nat := 0x02001C
def HLT_LOG_PROD : Nat := 0x020020
def HLT_WDG : Nat := 0x020030
def HLT_WDG_EXP_S : Fld := ⟨HLT_WDG, 31, 31⟩
def HLT_WDG_EXP_A0 : Fld := ⟨HLT_WDG, 30, 30⟩
def HLT_WDG_EXP_A1 : Fld := ⟨HLT_WDG, 29, 29⟩
def HLT_LOCKSTEP_CNT : Nat := 0x020034
def HLT_SRAM_CNT : Nat := 0x020038
def HLT_TEMP (n : Nat) : Nat := 0x020040 + 0x4 * n
def HLT_TEMP_TEMP (n : Nat) : Fld := ⟨(HLT_TEMP n), 15, 0⟩
def HLT_TEMP_MAX : Nat := 0x020060
def HLT_TEMP_MAX_PEAK : Fld := ⟨HLT_TEMP_MAX, 31, 16⟩
def HLT_TEMP_MAX_TEMP : Fld := ⟨HLT_TEMP_MAX, 15, 0⟩
def HLT_INJ_ARM : Nat := 0x020100
def HLT_INJ_ARM_KEY : Fld := ⟨HLT_INJ_ARM, 15, 0⟩
def HLT_INJ_SEL : Nat := 0x020104
def HLT_INJ_SEL_DET : Fld := ⟨HLT_INJ_SEL, 31, 24⟩
def HLT_INJ_SEL_INSTANCE : Fld := ⟨HLT_INJ_SEL, 15, 0⟩
def HLT_INJ_PARAM : Nat := 0x020108
def HLT_INJ_ADDR_LO : Nat := 0x02010C
def HLT_INJ_ADDR_LO_ADDR : Fld := ⟨HLT_INJ_ADDR_LO, 31, 6⟩
def HLT_INJ_ADDR_HI : Nat := 0x020110
def HLT_INJ_ADDR_HI_ADDR : Fld := ⟨HLT_INJ_ADDR_HI, 15, 0⟩
def HLT_INJ_CTRL : Nat := 0x020114
def HLT_INJ_CTRL_GO : Fld := ⟨HLT_INJ_CTRL, 31, 31⟩
def HLT_INJ_STAT : Nat := 0x020118
def HLT_INJ_STAT_ARMED : Fld := ⟨HLT_INJ_STAT, 31, 31⟩
def HLT_INJ_STAT_PENDING : Fld := ⟨HLT_INJ_STAT, 30, 30⟩
def HLT_INJ_STAT_DONE : Fld := ⟨HLT_INJ_STAT, 29, 29⟩
def HLT_INJ_STAT_EXPIRED : Fld := ⟨HLT_INJ_STAT, 28, 28⟩
def HLT_INJ_STAT_REFUSED : Fld := ⟨HLT_INJ_STAT, 27, 27⟩
def HLT_INJ_STAT_CAUSE : Fld := ⟨HLT_INJ_STAT, 26, 24⟩
def HLT_INJ_CNT : Nat := 0x02011C
def CVU_CTRL (n : Nat) : Nat := 0x050000 + 0x100 * n
def CVU_CTRL_BUSY (n : Nat) : Fld := ⟨(CVU_CTRL n), 31, 31⟩
def CVU_CTRL_GO (n : Nat) : Fld := ⟨(CVU_CTRL n), 30, 30⟩
def CVU_CTRL_ABORT (n : Nat) : Fld := ⟨(CVU_CTRL n), 29, 29⟩
def CVU_CTRL_RESET (n : Nat) : Fld := ⟨(CVU_CTRL n), 28, 28⟩
def CVU_CTRL_DONE (n : Nat) : Fld := ⟨(CVU_CTRL n), 27, 27⟩
def CVU_CTRL_ERR (n : Nat) : Fld := ⟨(CVU_CTRL n), 26, 26⟩
def CVU_CTRL_STATUS (n : Nat) : Fld := ⟨(CVU_CTRL n), 25, 24⟩
def CVU_CTRL_CONFIG (n : Nat) : Fld := ⟨(CVU_CTRL n), 23, 23⟩
def CVU_CTRL_REFIN (n : Nat) : Fld := ⟨(CVU_CTRL n), 22, 22⟩
def CVU_CTRL_REFOUT (n : Nat) : Fld := ⟨(CVU_CTRL n), 21, 21⟩
def CVU_CTRL_WIDTH (n : Nat) : Fld := ⟨(CVU_CTRL n), 20, 19⟩
def CVU_CTRL_FIXED_IDX (n : Nat) : Fld := ⟨(CVU_CTRL n), 18, 16⟩
def CVU_CTRL_USE_FIXED (n : Nat) : Fld := ⟨(CVU_CTRL n), 15, 15⟩
def CVU_CTRL_FEED_BYTES (n : Nat) : Fld := ⟨(CVU_CTRL n), 11, 10⟩
def CVU_POLY_LO (n : Nat) : Nat := 0x050004 + 0x100 * n
def CVU_POLY_HI (n : Nat) : Nat := 0x050008 + 0x100 * n
def CVU_INIT_LO (n : Nat) : Nat := 0x05000C + 0x100 * n
def CVU_INIT_HI (n : Nat) : Nat := 0x050010 + 0x100 * n
def CVU_XOROUT_LO (n : Nat) : Nat := 0x050014 + 0x100 * n
def CVU_XOROUT_HI (n : Nat) : Nat := 0x050018 + 0x100 * n
def CVU_RUN_LO (n : Nat) : Nat := 0x05001C + 0x100 * n
def CVU_RUN_HI (n : Nat) : Nat := 0x050020 + 0x100 * n
def CVU_RESULT_LO (n : Nat) : Nat := 0x050024 + 0x100 * n
def CVU_RESULT_HI (n : Nat) : Nat := 0x050028 + 0x100 * n
def CVU_DATA (n : Nat) : Nat := 0x050030 + 0x100 * n
def CVU_DATA_ALIAS (n : Nat) : Nat := 0x050034 + 0x100 * n
def CVU_ADDR_LO (n : Nat) : Nat := 0x050038 + 0x100 * n
def CVU_ADDR_HI (n : Nat) : Nat := 0x05003C + 0x100 * n
def CVU_ADDR_HI_ADDR (n : Nat) : Fld := ⟨(CVU_ADDR_HI n), 15, 0⟩
def CVU_LEN_LO (n : Nat) : Nat := 0x050040 + 0x100 * n
def CVU_LEN_HI (n : Nat) : Nat := 0x050044 + 0x100 * n
def CVU_LEN_HI_LEN (n : Nat) : Fld := ⟨(CVU_LEN_HI n), 4, 0⟩
def CVU_POS_LO (n : Nat) : Nat := 0x050048 + 0x100 * n
def CVU_POS_HI (n : Nat) : Nat := 0x05004C + 0x100 * n
def CVU_POS_HI_POS (n : Nat) : Fld := ⟨(CVU_POS_HI n), 15, 0⟩

/-! ### spec/18_blaze_recorder -/

def BLZ_STATUS : Nat := 0x060000
def BLZ_STATUS_READY : Fld := ⟨BLZ_STATUS, 31, 31⟩
def BLZ_STATUS_FLUSHING : Fld := ⟨BLZ_STATUS, 30, 30⟩
def BLZ_STATUS_PF : Fld := ⟨BLZ_STATUS, 29, 29⟩
def BLZ_STATUS_PF_DONE : Fld := ⟨BLZ_STATUS, 28, 28⟩
def BLZ_STATUS_XSPI_STOP : Fld := ⟨BLZ_STATUS, 27, 27⟩
def BLZ_STATUS_QUEUE : Fld := ⟨BLZ_STATUS, 6, 0⟩
def BLZ_SEQ_NEXT : Nat := 0x060004
def BLZ_BUF_HEAD : Nat := 0x060008
def BLZ_BUF_HEAD_OFFSET : Fld := ⟨BLZ_BUF_HEAD, 17, 0⟩
def BLZ_BUF_FLUSH : Nat := 0x06000C
def BLZ_BUF_FLUSH_OFFSET : Fld := ⟨BLZ_BUF_FLUSH, 17, 0⟩
def BLZ_BUF_UNFLUSHED : Nat := 0x060010
def BLZ_BUF_UNFLUSHED_BYTES : Fld := ⟨BLZ_BUF_UNFLUSHED, 18, 0⟩
def BLZ_LOG_CFG : Nat := 0x060014
def BLZ_LOG_CFG_SIZE_MIB : Fld := ⟨BLZ_LOG_CFG, 31, 16⟩
def BLZ_LOG_CFG_HIGH_MIB : Fld := ⟨BLZ_LOG_CFG, 15, 0⟩
def BLZ_LOG_HEAD_LOW : Nat := 0x060018
def BLZ_LOG_HEAD_HIGH : Nat := 0x06001C
def BLZ_STAT : Nat := 0x060020
def BLZ_STAT_DROP : Fld := ⟨BLZ_STAT, 31, 31⟩
def BLZ_STAT_OVERWRITE : Fld := ⟨BLZ_STAT, 30, 30⟩
def BLZ_STAT_XSPI_ERR : Fld := ⟨BLZ_STAT, 29, 29⟩
def BLZ_STAT_UNCOMMITTED : Fld := ⟨BLZ_STAT, 28, 28⟩
def BLZ_STAT_CHECK_DAMAGED : Fld := ⟨BLZ_STAT, 27, 27⟩
def BLZ_STAT_CORRUPT : Fld := ⟨BLZ_STAT, 26, 26⟩
def BLZ_CNT_RECORDS : Nat := 0x060040
def BLZ_CNT_COALESCED : Nat := 0x060044
def BLZ_CNT_DROP : Nat := 0x060048
def BLZ_CNT_OVERWRITE : Nat := 0x06004C
def BLZ_CNT_XSPI_RETRY : Nat := 0x060050
def BLZ_CNT_UNCOMMITTED : Nat := 0x060054
def BLZ_CNT_CHECK_DAMAGED : Nat := 0x060058
def BLZ_CNT_CORRUPT : Nat := 0x06005C

/-! ### spec/19_startup -/

def SYS_STRAPS : Nat := 0x000040
def SYS_STRAPS_DBG_EN : Fld := ⟨SYS_STRAPS, 7, 7⟩
def SYS_STRAPS_ILK_MODE : Fld := ⟨SYS_STRAPS, 6, 6⟩
def SYS_STRAPS_PAIR_SIDE : Fld := ⟨SYS_STRAPS, 5, 5⟩
def SYS_STRAPS_BOOT_SRC : Fld := ⟨SYS_STRAPS, 1, 0⟩
def SYS_START_STAT : Nat := 0x000044
def SYS_START_STAT_COLD_DONE : Fld := ⟨SYS_START_STAT, 31, 31⟩
def SYS_START_STAT_RECOVERY : Fld := ⟨SYS_START_STAT, 30, 30⟩
def SYS_START_STAT_FALLBACK : Fld := ⟨SYS_START_STAT, 29, 29⟩
def SYS_START_STAT_WARM_REFUSED : Fld := ⟨SYS_START_STAT, 28, 28⟩
def SYS_START_STAT_CAUSE : Fld := ⟨SYS_START_STAT, 27, 24⟩
def SYS_START_STAT_STEP : Fld := ⟨SYS_START_STAT, 23, 20⟩
def SYS_START_STAT_SLOT : Fld := ⟨SYS_START_STAT, 7, 0⟩
def SYS_IMG_STAT : Nat := 0x000048
def SYS_IMG_STAT_FW1 : Fld := ⟨SYS_IMG_STAT, 15, 12⟩
def SYS_IMG_STAT_BT1 : Fld := ⟨SYS_IMG_STAT, 11, 8⟩
def SYS_IMG_STAT_FW0 : Fld := ⟨SYS_IMG_STAT, 7, 4⟩
def SYS_IMG_STAT_BT0 : Fld := ⟨SYS_IMG_STAT, 3, 0⟩
def SYS_START_MS : Nat := 0x00004C
def SYS_START_MS_MS : Fld := ⟨SYS_START_MS, 15, 0⟩
def SYS_PWR : Nat := 0x000050
def SYS_PWR_WAKE_SRC : Fld := ⟨SYS_PWR, 7, 4⟩
def SYS_PWR_STATE : Fld := ⟨SYS_PWR, 2, 0⟩
def SYS_WAKE : Nat := 0x000054
def SYS_WAKE_KEY : Fld := ⟨SYS_WAKE, 15, 0⟩
def SYS_CNT_WARM : Nat := 0x000058

/-! ### spec/20_control_strip -/

def STRIP_STATUS : Nat := 0x070000
def STRIP_STATUS_READY : Fld := ⟨STRIP_STATUS, 31, 31⟩
def STRIP_STATUS_STOPPED : Fld := ⟨STRIP_STATUS, 30, 30⟩
def STRIP_STATUS_OFF : Fld := ⟨STRIP_STATUS, 29, 29⟩
def STRIP_STATUS_TOUCHED : Fld := ⟨STRIP_STATUS, 15, 0⟩
def STRIP_SCAN : Nat := 0x070004
def STRIP_SCAN_PULSES : Fld := ⟨STRIP_SCAN, 26, 16⟩
def STRIP_SCAN_PERIOD_MS : Fld := ⟨STRIP_SCAN, 15, 8⟩
def STRIP_SCAN_TRACK_SCANS : Fld := ⟨STRIP_SCAN, 7, 0⟩
def STRIP_THRESH : Nat := 0x070008
def STRIP_THRESH_TOUCH : Fld := ⟨STRIP_THRESH, 31, 24⟩
def STRIP_THRESH_HYST : Fld := ⟨STRIP_THRESH, 23, 16⟩
def STRIP_THRESH_ANTI : Fld := ⟨STRIP_THRESH, 15, 8⟩
def STRIP_THRESH_DRIFT : Fld := ⟨STRIP_THRESH, 7, 0⟩
def STRIP_TIMING : Nat := 0x07000C
def STRIP_TIMING_MAX_ON_S : Fld := ⟨STRIP_TIMING, 31, 20⟩
def STRIP_TIMING_DEBOUNCE : Fld := ⟨STRIP_TIMING, 19, 16⟩
def STRIP_TIMING_ANTI_SCANS : Fld := ⟨STRIP_TIMING, 15, 12⟩
def STRIP_WAKE_CFG : Nat := 0x070010
def STRIP_WAKE_CFG_CONTROL : Fld := ⟨STRIP_WAKE_CFG, 19, 16⟩
def STRIP_WAKE_CFG_GESTURE : Fld := ⟨STRIP_WAKE_CFG, 15, 15⟩
def STRIP_WAKE_CFG_EN : Fld := ⟨STRIP_WAKE_CFG, 14, 14⟩
def STRIP_WAKE_CFG_WAKE_MS : Fld := ⟨STRIP_WAKE_CFG, 12, 0⟩
def STRIP_EVT : Nat := 0x070014
def STRIP_EVT_STUCK : Fld := ⟨STRIP_EVT, 31, 31⟩
def STRIP_EVT_ANTI : Fld := ⟨STRIP_EVT, 30, 30⟩
def STRIP_EVT_WAKE : Fld := ⟨STRIP_EVT, 29, 29⟩
def STRIP_CNT_STUCK : Nat := 0x070020
def STRIP_CNT_ANTI : Nat := 0x070024
def STRIP_CNT_SCANS : Nat := 0x070028
def STRIP_CTL_CFG (n : Nat) : Nat := 0x070100 + 0x8 * n
def STRIP_CTL_CFG_KIND (n : Nat) : Fld := ⟨(STRIP_CTL_CFG n), 31, 30⟩
def STRIP_CTL_CFG_COUNT (n : Nat) : Fld := ⟨(STRIP_CTL_CFG n), 29, 26⟩
def STRIP_CTL_CFG_FIRST (n : Nat) : Fld := ⟨(STRIP_CTL_CFG n), 7, 0⟩
def STRIP_CTL_STATE (n : Nat) : Nat := 0x070104 + 0x8 * n
def STRIP_CTL_STATE_TOUCHED (n : Nat) : Fld := ⟨(STRIP_CTL_STATE n), 31, 31⟩
def STRIP_CTL_STATE_POSITION (n : Nat) : Fld := ⟨(STRIP_CTL_STATE n), 15, 0⟩
def STRIP_NODE_LIST (n : Nat) : Nat := 0x070200 + 0x4 * n
def STRIP_NODE_VAL (n : Nat) : Nat := 0x070400 + 0x8 * n
def STRIP_NODE_VAL_BASELINE (n : Nat) : Fld := ⟨(STRIP_NODE_VAL n), 31, 16⟩
def STRIP_NODE_VAL_RAW (n : Nat) : Fld := ⟨(STRIP_NODE_VAL n), 15, 0⟩
def STRIP_NODE_STAT (n : Nat) : Nat := 0x070404 + 0x8 * n
def STRIP_NODE_STAT_TOUCHED (n : Nat) : Fld := ⟨(STRIP_NODE_STAT n), 31, 31⟩
def STRIP_NODE_STAT_STUCK (n : Nat) : Fld := ⟨(STRIP_NODE_STAT n), 30, 30⟩
def STRIP_NODE_STAT_DELTA (n : Nat) : Fld := ⟨(STRIP_NODE_STAT n), 15, 0⟩

/-! ### spec/21_pins_power_package -/

def SYS_AVS_STAT : Nat := 0x000060
def SYS_AVS_STAT_READY : Fld := ⟨SYS_AVS_STAT, 31, 31⟩
def SYS_AVS_STAT_FAIL : Fld := ⟨SYS_AVS_STAT, 30, 30⟩
def SYS_AVS_STAT_FAIL_EVT : Fld := ⟨SYS_AVS_STAT, 29, 29⟩
def SYS_AVS_STAT_SETPOINT_MV : Fld := ⟨SYS_AVS_STAT, 15, 0⟩
def SYS_AVS_VOUT : Nat := 0x000064
def SYS_AVS_VOUT_IOUT : Fld := ⟨SYS_AVS_VOUT, 31, 16⟩
def SYS_AVS_VOUT_VOUT_MV : Fld := ⟨SYS_AVS_VOUT, 15, 0⟩
def SYS_PWR_EST : Nat := 0x000068
def SYS_PWR_EST_POWER : Fld := ⟨SYS_PWR_EST, 15, 0⟩
def SYS_CNT_AVS_RETRY : Nat := 0x00006C

/-! ### spec/02_ring_ledger -/

def LDG_CNT_ACCEPT_LO : Nat := 0x200040
def LDG_CNT_ACCEPT_HI : Nat := 0x200044

/-! ### spec/03_scan_gate -/

def GATE_OUT_CNT_LATE (n : Nat) : Nat := 0x181020 + 0x100 * n
def GATE_OUT_CNT_BADGE_OMIT (n : Nat) : Nat := 0x181024 + 0x100 * n
def GATE_OUT_CNT_DEPTH (n : Nat) : Nat := 0x181028 + 0x100 * n
def GATE_OUT_TREAT_PIX (n : Nat) : Nat := 0x18102C + 0x100 * n

/-! ### spec/04_outputs_and_timing -/

def CNP_OUT_CNT_UR_LINES (n : Nat) : Nat := 0x100030 + 0x1000 * n
def CNP_OUT_CNT_UR_FRAMES (n : Nat) : Nat := 0x100034 + 0x1000 * n
def CNP_OUT_CNT_REPHASE (n : Nat) : Nat := 0x100038 + 0x1000 * n
def CNP_OUT_UR_LAST (n : Nat) : Nat := 0x10003C + 0x1000 * n
def CNP_OUT_UR_LAST_LINES (n : Nat) : Fld := ⟨(CNP_OUT_UR_LAST n), 11, 0⟩

/-! ### spec/05_layers_and_commits -/

def CNP_CNT_COMMITS (n : Nat) : Nat := 0x100140 + 0x1000 * n
def CNP_CNT_DEFER (n : Nat) : Nat := 0x100144 + 0x1000 * n
def CNP_CNT_FENCE_WAIT (n : Nat) : Nat := 0x100148 + 0x1000 * n
def CNP_CNT_DROPPED (n : Nat) : Nat := 0x10014C + 0x1000 * n
def CNP_CNT_TORN (n : Nat) : Nat := 0x100150 + 0x1000 * n
def CNP_CNT_SCANLOCK (n : Nat) : Nat := 0x100154 + 0x1000 * n

/-! ### spec/09_packet_ports -/

def PKT_QDIAG_DATA (n : Nat) : Nat := 0x400020 + 0x4 * n

/-! ### spec/17_faults_checks_injection -/

def HLT_LOG (n : Nat) : Nat := 0x021000 + 0x4 * n

end Reg

/-- One row of a register map: `count1 × count2` registers from `base`, `stride1` and `stride2` bytes apart, and a value. -/
structure RegRow where
  base : Nat
  stride1 : Nat
  count1 : Nat
  stride2 : Nat
  count2 : Nat
  val : Nat
  deriving DecidableEq, Repr

/-- Whether the row covers BAR0 offset `a`. -/
def RegRow.covers (r : RegRow) (a : Nat) : Bool :=
  r.base ≤ a && (let d := a - r.base
    d / r.stride1 < r.count1 && (d % r.stride1) / r.stride2 < r.count2 && (d % r.stride1) % r.stride2 == 0)

/-- The value of the first row that covers `a`; 0 where none does. -/
def RegRow.look : List RegRow → Nat → Nat
  | [], _ => 0
  | r :: t, a => if r.covers a then r.val else RegRow.look t a

/-- FBK_RGS regions 0 and 1 at cold start (R449): Ranger SRAM and the Blaze buffer, R and W. -/
def resetsRgs : List RegRow :=
  [⟨0x041904, 0x1000000, 1, 0x4, 1, 0xFE⟩,
   ⟨0x041908, 0x1000000, 1, 0x4, 1, 0xE0000016⟩,
   ⟨0x041910, 0x1000000, 1, 0x4, 1, 0x01000000⟩,
   ⟨0x041914, 0x1000000, 1, 0x4, 1, 0xFE⟩,
   ⟨0x041918, 0x1000000, 1, 0x4, 1, 0xE0000012⟩]

/-- Reset values other than 0 (SYS_ block). -/
def resetsSys : List RegRow :=
  [⟨0x000000, 0x1000000, 1, 0x4, 1, 0x78400B00⟩,
   ⟨0x000044, 0x1000000, 1, 0x4, 1, 0x11000FF⟩]

/-- Reset values other than 0 (MEM_ block). -/
def resetsMem : List RegRow :=
  [⟨0x500004, 0x1000000, 1, 0x4, 1, 0xFFFF⟩,
   ⟨0x500008, 0x1000000, 1, 0x4, 1, 0x31⟩]

/-- Reset values other than 0 (GATE_ block). -/
def resetsGate : List RegRow :=
  [⟨0x180014, 0x1000000, 1, 0x4, 1, 0x3FFB0000⟩,
   ⟨0x180020, 0x1000000, 1, 0x4, 1, 0x3FFFFFFF⟩,
   ⟨0x180024, 0x1000000, 1, 0x4, 1, 0xFFFFF⟩,
   ⟨0x180028, 0x1000000, 1, 0x4, 1, 0x4010140⟩,
   ⟨0x18002C, 0x1000000, 1, 0x4, 1, 0x3FFFFFFF⟩,
   ⟨0x180034, 0x1000000, 1, 0x4, 1, 0x3FFFFFFF⟩,
   ⟨0x180038, 0x1000000, 1, 0x4, 1, 0x3FF00000⟩,
   ⟨0x180018, 0x1000000, 1, 0x4, 1, 0xC0C0⟩,
   ⟨0x181000, 0x100, 32, 0x1000000, 1, 0x1000⟩]

/-- Reset values other than 0 (CNP_ block). -/
def resetsCnp : List RegRow :=
  [⟨0x100024, 0x1000, 32, 0x1000000, 1, 0xFFFF⟩,
   ⟨0x100200, 0x1000, 32, 0x40, 8, 0xFF⟩]

/-- Reset values other than 0 (PKT_ block). -/
def resetsPkt : List RegRow :=
  [⟨0x401020, 0x40, 128, 0x1000000, 1, 0x3000200⟩]

/-- Reset values other than 0 (TIM_ block). -/
def resetsTim : List RegRow :=
  [⟨0x030000, 0x1000000, 1, 0x4, 1, 0x20000000⟩,
   ⟨0x030028, 0x1000000, 1, 0x4, 1, 0xF4240⟩,
   ⟨0x03002C, 0x1000000, 1, 0x4, 1, 0x3C⟩,
   ⟨0x030040, 0x1000000, 1, 0x4, 1, 0x40002710⟩]

/-- Reset values other than 0 (KLN_ block). -/
def resetsKln : List RegRow :=
  [⟨0x480010, 0x400, 54, 0x1000000, 1, 0x100⟩]

/-- Reset values other than 0 (PAIR_ block). -/
def resetsPair : List RegRow :=
  [⟨0x080000, 0x1000000, 1, 0x4, 1, 0x3040000⟩,
   ⟨0x08000C, 0x1000000, 1, 0x4, 1, 0xFFFFFFFF⟩,
   ⟨0x080010, 0x1000000, 1, 0x4, 1, 0x2EE0⟩]

/-- Reset values other than 0 (MBX_ block). -/
def resetsMbx : List RegRow :=
  [⟨0x010214, 0x20, 8, 0x1000000, 1, 0x1⟩]

/-- Reset values other than 0 (FBK_ block). -/
def resetsFbk : List RegRow :=
  [⟨0x041004, 0x400, 28, 0x1000000, 1, 0x1⟩,
   ⟨0x041108, 0x400, 28, 0x10, 16, 0x8⟩,
   ⟨0x041208, 0x1000000, 1, 0x10, 32, 0x8⟩]

/-- Reset values other than 0 (HLT_ block). -/
def resetsHlt : List RegRow :=
  [⟨0x020004, 0x1000000, 1, 0x4, 1, 0x6⟩]

/-- Reset values other than 0 (CVU_ block). -/
def resetsCvu : List RegRow :=
  [⟨0x050000, 0x100, 4, 0x1000000, 1, 0x708000⟩,
   ⟨0x050004, 0x100, 4, 0x1000000, 1, 0x1EDC6F41⟩,
   ⟨0x05000C, 0x100, 4, 0x1000000, 1, 0xFFFFFFFF⟩,
   ⟨0x050014, 0x100, 4, 0x1000000, 1, 0xFFFFFFFF⟩]

/-- Reset values other than 0 (STRIP_ block). -/
def resetsStrip : List RegRow :=
  [⟨0x070004, 0x1000000, 1, 0x4, 1, 0x1000A32⟩,
   ⟨0x070008, 0x1000000, 1, 0x4, 1, 0x64193228⟩,
   ⟨0x07000C, 0x1000000, 1, 0x4, 1, 0x1E24000⟩,
   ⟨0x070010, 0x1000000, 1, 0x4, 1, 0x3E8⟩]

/-- The Reset column of the register at BAR0 offset `a` (R8); a field whose reset is a strap, a fuse, a pin or the board table
counts as 0 here and is shown by the register's live view. -/
def resetWord (a : Nat) : Nat :=
  if a < 0x010000 then RegRow.look (resetsSys) a
  else if a < 0x020000 then RegRow.look (resetsMbx) a
  else if a < 0x030000 then RegRow.look (resetsHlt) a
  else if a < 0x040000 then RegRow.look (resetsTim) a
  else if a < 0x050000 then RegRow.look (resetsRgs ++ resetsFbk) a
  else if a < 0x060000 then RegRow.look (resetsCvu) a
  else if a < 0x080000 then RegRow.look (resetsStrip) a
  else if a < 0x090000 then RegRow.look (resetsPair) a
  else if a < 0x120000 then RegRow.look (resetsCnp) a
  else if a < 0x200000 then RegRow.look (resetsGate) a
  else if a < 0x480000 then RegRow.look (resetsPkt) a
  else if a < 0x490000 then RegRow.look (resetsKln) a
  else if a < 0x580000 then RegRow.look (resetsMem) a
  else 0

/-- W1C bits (SYS_ block). -/
def w1csSys : List RegRow :=
  [⟨0x000010, 0x1000000, 1, 0x4, 1, 0xC0000000⟩,
   ⟨0x000044, 0x1000000, 1, 0x4, 1, 0x10000000⟩,
   ⟨0x000060, 0x1000000, 1, 0x4, 1, 0x20000000⟩]

/-- W1C bits (MEM_ block). -/
def w1csMem : List RegRow :=
  [⟨0x500024, 0x1000000, 1, 0x4, 1, 0x80000000⟩]

/-- W1C bits (LDG_ block). -/
def w1csLdg : List RegRow :=
  [⟨0x200008, 0x1000000, 1, 0x4, 1, 0x80000000⟩,
   ⟨0x200104, 0x1000000, 1, 0x4, 1, 0x3⟩,
   ⟨0x201018, 0x20, 64, 0x1000000, 1, 0xC0000000⟩]

/-- W1C bits (GATE_ block). -/
def w1csGate : List RegRow :=
  [⟨0x180040, 0x1000000, 1, 0x4, 1, 0x3⟩,
   ⟨0x181004, 0x100, 32, 0x1000000, 1, 0xF8000000⟩]

/-- W1C bits (CNP_ block). -/
def w1csCnp : List RegRow :=
  [⟨0x10002C, 0x1000, 32, 0x1000000, 1, 0xF8000000⟩,
   ⟨0x100114, 0x1000, 32, 0x1000000, 1, 0xC0000000⟩,
   ⟨0x10021C, 0x1000, 32, 0x40, 8, 0xA0000000⟩]

/-- W1C bits (LKO_ block). -/
def w1csLko : List RegRow :=
  [⟨0x280004, 0x1000000, 1, 0x4, 1, 0x3⟩,
   ⟨0x280008, 0x1000000, 1, 0x4, 1, 0x80000000⟩,
   ⟨0x28100C, 0x100, 32, 0x1000000, 1, 0x38000000⟩]

/-- W1C bits (DEC_ block). -/
def w1csDec : List RegRow :=
  [⟨0x30101C, 0x40, 128, 0x1000000, 1, 0xFFC00000⟩]

/-- W1C bits (ENC_ block). -/
def w1csEnc : List RegRow :=
  [⟨0x38101C, 0x80, 32, 0x1000000, 1, 0xFF800000⟩,
   ⟨0x381044, 0x80, 32, 0x1000000, 1, 0xC0000000⟩]

/-- W1C bits (PKT_ block). -/
def w1csPkt : List RegRow :=
  [⟨0x400004, 0x1000000, 1, 0x4, 1, 0x3⟩,
   ⟨0x400100, 0x80, 2, 0x1000000, 1, 0x1C000000⟩,
   ⟨0x401028, 0x40, 128, 0x1000000, 1, 0xE0000000⟩]

/-- W1C bits (TIM_ block). -/
def w1csTim : List RegRow :=
  [⟨0x03004C, 0x1000000, 1, 0x4, 1, 0x80000000⟩,
   ⟨0x0300A0, 0x1000000, 1, 0x4, 1, 0xFC000000⟩]

/-- W1C bits (KLN_ block). -/
def w1csKln : List RegRow :=
  [⟨0x480060, 0x400, 52, 0x1000000, 1, 0xFC000000⟩,
   ⟨0x488218, 0x400, 16, 0x1000000, 1, 0xF0000000⟩]

/-- W1C bits (PAIR_ block). -/
def w1csPair : List RegRow :=
  [⟨0x080028, 0x1000000, 1, 0x4, 1, 0xFF800000⟩]

/-- W1C bits (MBX_ block). -/
def w1csMbx : List RegRow :=
  [⟨0x010104, 0x10, 8, 0x1000000, 1, 0xE0000000⟩,
   ⟨0x010218, 0x20, 8, 0x1000000, 1, 0xE0000000⟩]

/-- W1C bits (FBK_ block). -/
def w1csFbk : List RegRow :=
  [⟨0x041008, 0x400, 28, 0x1000000, 1, 0x80000000⟩,
   ⟨0x041040, 0x400, 28, 0x1000000, 1, 0xE0000000⟩]

/-- W1C bits (HLT_ block). -/
def w1csHlt : List RegRow :=
  [⟨0x020000, 0x1000000, 1, 0x4, 1, 0x20000000⟩,
   ⟨0x020030, 0x1000000, 1, 0x4, 1, 0xE0000000⟩,
   ⟨0x020118, 0x1000000, 1, 0x4, 1, 0x38000000⟩]

/-- W1C bits (CVU_ block). -/
def w1csCvu : List RegRow :=
  [⟨0x050000, 0x100, 4, 0x1000000, 1, 0xC000000⟩]

/-- W1C bits (BLZ_ block). -/
def w1csBlz : List RegRow :=
  [⟨0x060020, 0x1000000, 1, 0x4, 1, 0xFC000000⟩]

/-- W1C bits (STRIP_ block). -/
def w1csStrip : List RegRow :=
  [⟨0x070014, 0x1000000, 1, 0x4, 1, 0xE0000000⟩]

/-- The W1C bits of the register at `a`. -/
def w1cMask (a : Nat) : Nat :=
  if a < 0x010000 then RegRow.look (w1csSys) a
  else if a < 0x020000 then RegRow.look (w1csMbx) a
  else if a < 0x030000 then RegRow.look (w1csHlt) a
  else if a < 0x040000 then RegRow.look (w1csTim) a
  else if a < 0x050000 then RegRow.look (w1csFbk) a
  else if a < 0x060000 then RegRow.look (w1csCvu) a
  else if a < 0x070000 then RegRow.look (w1csBlz) a
  else if a < 0x080000 then RegRow.look (w1csStrip) a
  else if a < 0x090000 then RegRow.look (w1csPair) a
  else if a < 0x120000 then RegRow.look (w1csCnp) a
  else if a < 0x200000 then RegRow.look (w1csGate) a
  else if a < 0x280000 then RegRow.look (w1csLdg) a
  else if a < 0x300000 then RegRow.look (w1csLko) a
  else if a < 0x380000 then RegRow.look (w1csDec) a
  else if a < 0x400000 then RegRow.look (w1csEnc) a
  else if a < 0x480000 then RegRow.look (w1csPkt) a
  else if a < 0x490000 then RegRow.look (w1csKln) a
  else if a < 0x580000 then RegRow.look (w1csMem) a
  else 0

/-- Bits the host may set at any time (MEM_ block). -/
def rwsMem : List RegRow :=
  [⟨0x500018, 0x1000000, 1, 0x4, 1, 0xFFFFFFFF⟩,
   ⟨0x50001C, 0x1000000, 1, 0x4, 1, 0xFFFFFFFF⟩]

/-- Bits the host may set at any time (LDG_ block). -/
def rwsLdg : List RegRow :=
  [⟨0x200040, 0x1000000, 1, 0x4, 1, 0xFFFFFFFF⟩,
   ⟨0x200044, 0x1000000, 1, 0x4, 1, 0xFFFFFFFF⟩,
   ⟨0x200048, 0x1000000, 1, 0x4, 1, 0xFFFFFFFF⟩,
   ⟨0x20004C, 0x1000000, 1, 0x4, 1, 0xFFFFFFFF⟩,
   ⟨0x200050, 0x1000000, 1, 0x4, 1, 0xFFFFFFFF⟩,
   ⟨0x200054, 0x1000000, 1, 0x4, 1, 0xFFFFFFFF⟩,
   ⟨0x200058, 0x1000000, 1, 0x4, 1, 0xFFFFFFFF⟩,
   ⟨0x20005C, 0x1000000, 1, 0x4, 1, 0xFFFFFFFF⟩,
   ⟨0x200060, 0x1000000, 1, 0x4, 1, 0xFFFFFFFF⟩,
   ⟨0x200064, 0x1000000, 1, 0x4, 1, 0xFFFFFFFF⟩,
   ⟨0x200068, 0x1000000, 1, 0x4, 1, 0xFFFFFFFF⟩,
   ⟨0x20006C, 0x1000000, 1, 0x4, 1, 0xFFFFFFFF⟩,
   ⟨0x200070, 0x1000000, 1, 0x4, 1, 0xFFFFFFFF⟩,
   ⟨0x200074, 0x1000000, 1, 0x4, 1, 0xFFFFFFFF⟩,
   ⟨0x200078, 0x1000000, 1, 0x4, 1, 0xFFFFFFFF⟩,
   ⟨0x20007C, 0x1000000, 1, 0x4, 1, 0xFFFFFFFF⟩,
   ⟨0x200100, 0x1000000, 1, 0x4, 1, 0x400FFFFF⟩,
   ⟨0x200110, 0x4, 4, 0x1000000, 1, 0xFFFFFFFF⟩,
   ⟨0x201010, 0x20, 64, 0x1000000, 1, 0xFFFFFFFF⟩,
   ⟨0x20101C, 0x20, 64, 0x1000000, 1, 0xFFFFFFFF⟩]

/-- Bits the host may set at any time (CNP_ block). -/
def rwsCnp : List RegRow :=
  [⟨0x10010C, 0x1000, 32, 0x1000000, 1, 0xFFFFFFFF⟩,
   ⟨0x100030, 0x1000, 32, 0x1000000, 1, 0xFFFFFFFF⟩,
   ⟨0x100034, 0x1000, 32, 0x1000000, 1, 0xFFFFFFFF⟩,
   ⟨0x100038, 0x1000, 32, 0x1000000, 1, 0xFFFFFFFF⟩,
   ⟨0x100140, 0x1000, 32, 0x1000000, 1, 0xFFFFFFFF⟩,
   ⟨0x100144, 0x1000, 32, 0x1000000, 1, 0xFFFFFFFF⟩,
   ⟨0x100148, 0x1000, 32, 0x1000000, 1, 0xFFFFFFFF⟩,
   ⟨0x10014C, 0x1000, 32, 0x1000000, 1, 0xFFFFFFFF⟩,
   ⟨0x100150, 0x1000, 32, 0x1000000, 1, 0xFFFFFFFF⟩,
   ⟨0x100154, 0x1000, 32, 0x1000000, 1, 0xFFFFFFFF⟩]

/-- Bits the host may set at any time (LKO_ block). -/
def rwsLko : List RegRow :=
  [⟨0x280020, 0x1000000, 1, 0x4, 1, 0xFFFFFFFF⟩,
   ⟨0x280024, 0x1000000, 1, 0x4, 1, 0xFFFFFFFF⟩,
   ⟨0x280028, 0x1000000, 1, 0x4, 1, 0xFFFFFFFF⟩,
   ⟨0x28002C, 0x1000000, 1, 0x4, 1, 0xFFFFFFFF⟩,
   ⟨0x280030, 0x1000000, 1, 0x4, 1, 0xFFFFFFFF⟩,
   ⟨0x280034, 0x1000000, 1, 0x4, 1, 0xFFFFFFFF⟩,
   ⟨0x281020, 0x100, 32, 0x1000000, 1, 0xFFFFFFFF⟩,
   ⟨0x281024, 0x100, 32, 0x1000000, 1, 0xFFFFFFFF⟩,
   ⟨0x281028, 0x100, 32, 0x1000000, 1, 0xFFFFFFFF⟩,
   ⟨0x28102C, 0x100, 32, 0x1000000, 1, 0xFFFFFFFF⟩]

/-- Bits the host may set at any time (DEC_ block). -/
def rwsDec : List RegRow :=
  [⟨0x300108, 0x20, 8, 0x1000000, 1, 0xFFFFFFFF⟩,
   ⟨0x30010C, 0x20, 8, 0x1000000, 1, 0xFFFFFFFF⟩,
   ⟨0x300110, 0x20, 8, 0x1000000, 1, 0xFFFFFFFF⟩,
   ⟨0x300114, 0x20, 8, 0x1000000, 1, 0xFFFFFFFF⟩,
   ⟨0x301020, 0x40, 128, 0x1000000, 1, 0xFFFFFFFF⟩,
   ⟨0x301024, 0x40, 128, 0x1000000, 1, 0xFFFFFFFF⟩,
   ⟨0x301028, 0x40, 128, 0x1000000, 1, 0xFFFFFFFF⟩,
   ⟨0x30102C, 0x40, 128, 0x1000000, 1, 0xFFFFFFFF⟩]

/-- Bits the host may set at any time (ENC_ block). -/
def rwsEnc : List RegRow :=
  [⟨0x380108, 0x20, 4, 0x1000000, 1, 0xFFFFFFFF⟩,
   ⟨0x38010C, 0x20, 4, 0x1000000, 1, 0xFFFFFFFF⟩,
   ⟨0x380110, 0x20, 4, 0x1000000, 1, 0xFFFFFFFF⟩,
   ⟨0x380114, 0x20, 4, 0x1000000, 1, 0xFFFFFFFF⟩,
   ⟨0x381020, 0x80, 32, 0x1000000, 1, 0xFFFFFFFF⟩,
   ⟨0x381024, 0x80, 32, 0x1000000, 1, 0xFFFFFFFF⟩,
   ⟨0x381028, 0x80, 32, 0x1000000, 1, 0xFFFFFFFF⟩,
   ⟨0x38102C, 0x80, 32, 0x1000000, 1, 0xFFFFFFFF⟩,
   ⟨0x38103C, 0x80, 32, 0x1000000, 1, 0xFFFFFFFF⟩]

/-- Bits the host may set at any time (PKT_ block). -/
def rwsPkt : List RegRow :=
  [⟨0x400010, 0x1000000, 1, 0x4, 1, 0x7F⟩,
   ⟨0x400120, 0x80, 2, 0x1000000, 1, 0xFFFFFFFF⟩,
   ⟨0x400124, 0x80, 2, 0x1000000, 1, 0xFFFFFFFF⟩,
   ⟨0x400128, 0x80, 2, 0x1000000, 1, 0xFFFFFFFF⟩,
   ⟨0x40012C, 0x80, 2, 0x1000000, 1, 0xFFFFFFFF⟩,
   ⟨0x400130, 0x80, 2, 0x1000000, 1, 0xFFFFFFFF⟩,
   ⟨0x400134, 0x80, 2, 0x1000000, 1, 0xFFFFFFFF⟩,
   ⟨0x400138, 0x80, 2, 0x1000000, 1, 0xFFFFFFFF⟩,
   ⟨0x40013C, 0x80, 2, 0x1000000, 1, 0xFFFFFFFF⟩,
   ⟨0x400140, 0x80, 2, 0x1000000, 1, 0xFFFFFFFF⟩,
   ⟨0x400144, 0x80, 2, 0x1000000, 1, 0xFFFFFFFF⟩,
   ⟨0x400148, 0x80, 2, 0x1000000, 1, 0xFFFFFFFF⟩,
   ⟨0x40014C, 0x80, 2, 0x1000000, 1, 0xFFFFFFFF⟩,
   ⟨0x400150, 0x80, 2, 0x1000000, 1, 0xFFFFFFFF⟩,
   ⟨0x40102C, 0x40, 128, 0x1000000, 1, 0xFFFFFFFF⟩,
   ⟨0x401030, 0x40, 128, 0x1000000, 1, 0xFFFFFFFF⟩,
   ⟨0x401034, 0x40, 128, 0x1000000, 1, 0xFFFFFFFF⟩,
   ⟨0x401038, 0x40, 128, 0x1000000, 1, 0xFFFFFFFF⟩,
   ⟨0x40103C, 0x40, 128, 0x1000000, 1, 0xFFFFFFFF⟩,
   ⟨0x403008, 0x10, 32, 0x1000000, 1, 0xFFFFFFFF⟩,
   ⟨0x40300C, 0x10, 32, 0x1000000, 1, 0xFFFFFFFF⟩]

/-- Bits the host may set at any time (TIM_ block). -/
def rwsTim : List RegRow :=
  [⟨0x030080, 0x1000000, 1, 0x4, 1, 0xFFFFFFFF⟩,
   ⟨0x030084, 0x1000000, 1, 0x4, 1, 0xFFFFFFFF⟩,
   ⟨0x030088, 0x1000000, 1, 0x4, 1, 0xFFFFFFFF⟩,
   ⟨0x03008C, 0x1000000, 1, 0x4, 1, 0xFFFFFFFF⟩,
   ⟨0x030090, 0x1000000, 1, 0x4, 1, 0xFFFFFFFF⟩,
   ⟨0x030094, 0x1000000, 1, 0x4, 1, 0xFFFFFFFF⟩]

/-- Bits the host may set at any time (KLN_ block). -/
def rwsKln : List RegRow :=
  [⟨0x480080, 0x400, 52, 0x1000000, 1, 0xFFFFFFFF⟩,
   ⟨0x480084, 0x400, 52, 0x1000000, 1, 0xFFFFFFFF⟩,
   ⟨0x480088, 0x400, 52, 0x1000000, 1, 0xFFFFFFFF⟩,
   ⟨0x48008C, 0x400, 52, 0x1000000, 1, 0xFFFFFFFF⟩,
   ⟨0x480090, 0x400, 54, 0x1000000, 1, 0xFFFFFFFF⟩,
   ⟨0x480094, 0x400, 52, 0x1000000, 1, 0xFFFFFFFF⟩,
   ⟨0x480098, 0x400, 52, 0x1000000, 1, 0xFFFFFFFF⟩,
   ⟨0x48009C, 0x400, 52, 0x1000000, 1, 0xFFFFFFFF⟩,
   ⟨0x4800A0, 0x400, 52, 0x1000000, 1, 0xFFFFFFFF⟩,
   ⟨0x4800A4, 0x400, 52, 0x1000000, 1, 0xFFFFFFFF⟩,
   ⟨0x4800A8, 0x400, 52, 0x1000000, 1, 0xFFFFFFFF⟩,
   ⟨0x4800AC, 0x400, 52, 0x1000000, 1, 0xFFFFFFFF⟩,
   ⟨0x4800B0, 0x400, 52, 0x1000000, 1, 0xFFFFFFFF⟩,
   ⟨0x4800B4, 0x400, 52, 0x1000000, 1, 0xFFFFFFFF⟩,
   ⟨0x488220, 0x400, 16, 0x1000000, 1, 0xFFFFFFFF⟩,
   ⟨0x488224, 0x400, 16, 0x1000000, 1, 0xFFFFFFFF⟩]

/-- Bits the host may set at any time (PAIR_ block). -/
def rwsPair : List RegRow :=
  [⟨0x080040, 0x1000000, 1, 0x4, 1, 0xFFFFFFFF⟩,
   ⟨0x080044, 0x1000000, 1, 0x4, 1, 0xFFFFFFFF⟩,
   ⟨0x080048, 0x1000000, 1, 0x4, 1, 0xFFFFFFFF⟩,
   ⟨0x08004C, 0x1000000, 1, 0x4, 1, 0xFFFFFFFF⟩,
   ⟨0x080050, 0x1000000, 1, 0x4, 1, 0xFFFFFFFF⟩,
   ⟨0x080054, 0x1000000, 1, 0x4, 1, 0xFFFFFFFF⟩,
   ⟨0x080058, 0x1000000, 1, 0x4, 1, 0xFFFFFFFF⟩,
   ⟨0x08005C, 0x1000000, 1, 0x4, 1, 0xFFFFFFFF⟩,
   ⟨0x080060, 0x1000000, 1, 0x4, 1, 0xFFFFFFFF⟩,
   ⟨0x080064, 0x1000000, 1, 0x4, 1, 0xFFFFFFFF⟩,
   ⟨0x080068, 0x1000000, 1, 0x4, 1, 0xFFFFFFFF⟩,
   ⟨0x08006C, 0x1000000, 1, 0x4, 1, 0xFFFFFFFF⟩]

/-- Bits the host may set at any time (MBX_ block). -/
def rwsMbx : List RegRow :=
  [⟨0x010210, 0x20, 8, 0x1000000, 1, 0xFFFFFFFF⟩,
   ⟨0x010214, 0x20, 8, 0x1000000, 1, 0x1FFFFFF⟩,
   ⟨0x01021C, 0x20, 8, 0x1000000, 1, 0xFFFFFFFF⟩]

/-- Bits the host may set at any time (FBK_ block). -/
def rwsFbk : List RegRow :=
  [⟨0x04104C, 0x400, 28, 0x1000000, 1, 0xFFFFFFFF⟩,
   ⟨0x041050, 0x400, 28, 0x1000000, 1, 0xFFFFFFFF⟩,
   ⟨0x04800C, 0x10, 512, 0x1000000, 1, 0xFFFFFFFF⟩]

/-- Bits the host may set at any time (HLT_ block). -/
def rwsHlt : List RegRow :=
  [⟨0x020004, 0x1000000, 1, 0x4, 1, 0x7⟩,
   ⟨0x020104, 0x1000000, 1, 0x4, 1, 0xFF00FFFF⟩,
   ⟨0x020108, 0x1000000, 1, 0x4, 1, 0xFFFFFFFF⟩,
   ⟨0x02010C, 0x1000000, 1, 0x4, 1, 0xFFFFFFC0⟩,
   ⟨0x020110, 0x1000000, 1, 0x4, 1, 0xFFFF⟩,
   ⟨0x02011C, 0x1000000, 1, 0x4, 1, 0xFFFFFFFF⟩]

/-- Bits the host may set at any time (CVU_ block). -/
def rwsCvu : List RegRow :=
  [⟨0x050000, 0x100, 4, 0x1000000, 1, 0x7F8C00⟩,
   ⟨0x050004, 0x100, 4, 0x1000000, 1, 0xFFFFFFFF⟩,
   ⟨0x050008, 0x100, 4, 0x1000000, 1, 0xFFFFFFFF⟩,
   ⟨0x05000C, 0x100, 4, 0x1000000, 1, 0xFFFFFFFF⟩,
   ⟨0x050010, 0x100, 4, 0x1000000, 1, 0xFFFFFFFF⟩,
   ⟨0x050014, 0x100, 4, 0x1000000, 1, 0xFFFFFFFF⟩,
   ⟨0x050018, 0x100, 4, 0x1000000, 1, 0xFFFFFFFF⟩,
   ⟨0x05001C, 0x100, 4, 0x1000000, 1, 0xFFFFFFFF⟩,
   ⟨0x050020, 0x100, 4, 0x1000000, 1, 0xFFFFFFFF⟩,
   ⟨0x050038, 0x100, 4, 0x1000000, 1, 0xFFFFFFFF⟩,
   ⟨0x05003C, 0x100, 4, 0x1000000, 1, 0xFFFF⟩,
   ⟨0x050040, 0x100, 4, 0x1000000, 1, 0xFFFFFFFF⟩,
   ⟨0x050044, 0x100, 4, 0x1000000, 1, 0x1F⟩]

/-- Bits the host may set at any time (BLZ_ block). -/
def rwsBlz : List RegRow :=
  [⟨0x060040, 0x1000000, 1, 0x4, 1, 0xFFFFFFFF⟩,
   ⟨0x060044, 0x1000000, 1, 0x4, 1, 0xFFFFFFFF⟩,
   ⟨0x060048, 0x1000000, 1, 0x4, 1, 0xFFFFFFFF⟩,
   ⟨0x06004C, 0x1000000, 1, 0x4, 1, 0xFFFFFFFF⟩,
   ⟨0x060050, 0x1000000, 1, 0x4, 1, 0xFFFFFFFF⟩,
   ⟨0x060054, 0x1000000, 1, 0x4, 1, 0xFFFFFFFF⟩,
   ⟨0x060058, 0x1000000, 1, 0x4, 1, 0xFFFFFFFF⟩,
   ⟨0x06005C, 0x1000000, 1, 0x4, 1, 0xFFFFFFFF⟩]

/-- Bits the host may set at any time (STRIP_ block). -/
def rwsStrip : List RegRow :=
  [⟨0x070020, 0x1000000, 1, 0x4, 1, 0xFFFFFFFF⟩,
   ⟨0x070024, 0x1000000, 1, 0x4, 1, 0xFFFFFFFF⟩,
   ⟨0x070028, 0x1000000, 1, 0x4, 1, 0xFFFFFFFF⟩]

/-- Bits the host may set at any time (SYS_ block). -/
def rwsSys : List RegRow :=
  [⟨0x00006C, 0x1000000, 1, 0x4, 1, 0xFFFFFFFF⟩]

/-- Bits the host may set at any time (GATE_ block). -/
def rwsGate : List RegRow :=
  [⟨0x181020, 0x100, 32, 0x1000000, 1, 0xFFFFFFFF⟩,
   ⟨0x181024, 0x100, 32, 0x1000000, 1, 0xFFFFFFFF⟩,
   ⟨0x181028, 0x100, 32, 0x1000000, 1, 0xFFFFFFFF⟩]

/-- The bits of the register at `a` that a host write sets (type RW; and RWS in HLT_CTRL and the CVU_ registers, R481, R482). DEDUCED, unsafe (log 22). -/
def rwMask (a : Nat) : Nat :=
  if a < 0x010000 then RegRow.look (rwsSys) a
  else if a < 0x020000 then RegRow.look (rwsMbx) a
  else if a < 0x030000 then RegRow.look (rwsHlt) a
  else if a < 0x040000 then RegRow.look (rwsTim) a
  else if a < 0x050000 then RegRow.look (rwsFbk) a
  else if a < 0x060000 then RegRow.look (rwsCvu) a
  else if a < 0x070000 then RegRow.look (rwsBlz) a
  else if a < 0x080000 then RegRow.look (rwsStrip) a
  else if a < 0x090000 then RegRow.look (rwsPair) a
  else if a < 0x120000 then RegRow.look (rwsCnp) a
  else if a < 0x200000 then RegRow.look (rwsGate) a
  else if a < 0x280000 then RegRow.look (rwsLdg) a
  else if a < 0x300000 then RegRow.look (rwsLko) a
  else if a < 0x380000 then RegRow.look (rwsDec) a
  else if a < 0x400000 then RegRow.look (rwsEnc) a
  else if a < 0x480000 then RegRow.look (rwsPkt) a
  else if a < 0x490000 then RegRow.look (rwsKln) a
  else if a < 0x580000 then RegRow.look (rwsMem) a
  else 0

/-- WO bits (LDG_ block). -/
def wosLdg : List RegRow :=
  [⟨0x200100, 0x1000000, 1, 0x4, 1, 0x80000000⟩]

/-- WO bits (PKT_ block). -/
def wosPkt : List RegRow :=
  [⟨0x400010, 0x1000000, 1, 0x4, 1, 0x80000000⟩]

/-- WO bits (MBX_ block). -/
def wosMbx : List RegRow :=
  [⟨0x010100, 0x10, 8, 0x1000000, 1, 0x80000001⟩]

/-- WO bits (FBK_ block). -/
def wosFbk : List RegRow :=
  [⟨0x041000, 0x400, 28, 0x1000000, 1, 0x1⟩]

/-- WO bits (HLT_ block). -/
def wosHlt : List RegRow :=
  [⟨0x020100, 0x1000000, 1, 0x4, 1, 0xFFFF⟩,
   ⟨0x020114, 0x1000000, 1, 0x4, 1, 0x80000000⟩]

/-- WO bits (CVU_ block). -/
def wosCvu : List RegRow :=
  [⟨0x050000, 0x100, 4, 0x1000000, 1, 0x70000000⟩,
   ⟨0x050030, 0x100, 4, 0x1000000, 1, 0xFFFFFFFF⟩,
   ⟨0x050034, 0x100, 4, 0x1000000, 1, 0xFFFFFFFF⟩]

/-- WO bits (SYS_ block). -/
def wosSys : List RegRow :=
  [⟨0x000054, 0x1000000, 1, 0x4, 1, 0xFFFF⟩]

/-- The WO bits of the register at `a`; they read zero (R8). -/
def woMask (a : Nat) : Nat :=
  if a < 0x010000 then RegRow.look (wosSys) a
  else if a < 0x020000 then RegRow.look (wosMbx) a
  else if a < 0x030000 then RegRow.look (wosHlt) a
  else if a < 0x050000 then RegRow.look (wosFbk) a
  else if a < 0x060000 then RegRow.look (wosCvu) a
  else if a < 0x280000 then RegRow.look (wosLdg) a
  else if a < 0x480000 then RegRow.look (wosPkt) a
  else 0

/-- Low halves of 64-bit pairs (SYS_ block). -/
def pairsSys : List RegRow :=
  [⟨0x000014, 0x1000000, 1, 0x4, 1, 0x1⟩]

/-- Low halves of 64-bit pairs (MEM_ block). -/
def pairsMem : List RegRow :=
  [⟨0x500010, 0x1000000, 1, 0x4, 1, 0x1⟩,
   ⟨0x500020, 0x1000000, 1, 0x4, 1, 0x1⟩]

/-- Low halves of 64-bit pairs (LDG_ block). -/
def pairsLdg : List RegRow :=
  [⟨0x200018, 0x1000000, 1, 0x4, 1, 0x1⟩,
   ⟨0x200020, 0x1000000, 1, 0x4, 1, 0x1⟩,
   ⟨0x201000, 0x20, 64, 0x1000000, 1, 0x1⟩,
   ⟨0x200040, 0x1000000, 1, 0x4, 1, 0x1⟩]

/-- Low halves of 64-bit pairs (GATE_ block). -/
def pairsGate : List RegRow :=
  [⟨0x181008, 0x100, 32, 0x1000000, 1, 0x1⟩]

/-- Low halves of 64-bit pairs (CNP_ block). -/
def pairsCnp : List RegRow :=
  [⟨0x100100, 0x1000, 32, 0x1000000, 1, 0x1⟩]

/-- Low halves of 64-bit pairs (DEC_ block). -/
def pairsDec : List RegRow :=
  [⟨0x301010, 0x40, 128, 0x1000000, 1, 0x1⟩]

/-- Low halves of 64-bit pairs (ENC_ block). -/
def pairsEnc : List RegRow :=
  [⟨0x381030, 0x80, 32, 0x1000000, 1, 0x1⟩]

/-- Low halves of 64-bit pairs (PKT_ block). -/
def pairsPkt : List RegRow :=
  [⟨0x400108, 0x80, 2, 0x1000000, 1, 0x1⟩]

/-- Low halves of 64-bit pairs (TIM_ block). -/
def pairsTim : List RegRow :=
  [⟨0x030010, 0x1000000, 1, 0x4, 1, 0x1⟩,
   ⟨0x030020, 0x1000000, 1, 0x4, 1, 0x1⟩,
   ⟨0x030038, 0x1000000, 1, 0x4, 1, 0x1⟩,
   ⟨0x030068, 0x1000000, 1, 0x4, 1, 0x1⟩]

/-- Low halves of 64-bit pairs (KLN_ block). -/
def pairsKln : List RegRow :=
  [⟨0x480020, 0x400, 54, 0x8, 4, 0x1⟩,
   ⟨0x480040, 0x400, 54, 0x8, 4, 0x1⟩,
   ⟨0x480210, 0x400, 54, 0x1000000, 1, 0x1⟩]

/-- Low halves of 64-bit pairs (MBX_ block). -/
def pairsMbx : List RegRow :=
  [⟨0x010200, 0x20, 8, 0x1000000, 1, 0x1⟩]

/-- Low halves of 64-bit pairs (FBK_ block). -/
def pairsFbk : List RegRow :=
  [⟨0x041044, 0x400, 28, 0x1000000, 1, 0x1⟩,
   ⟨0x041100, 0x400, 28, 0x10, 48, 0x1⟩,
   ⟨0x048000, 0x10, 512, 0x1000000, 1, 0x1⟩]

/-- Low halves of 64-bit pairs (HLT_ block). -/
def pairsHlt : List RegRow :=
  [⟨0x02010C, 0x1000000, 1, 0x4, 1, 0x1⟩]

/-- Low halves of 64-bit pairs (CVU_ block). -/
def pairsCvu : List RegRow :=
  [⟨0x050004, 0x100, 4, 0x1000000, 1, 0x1⟩,
   ⟨0x05000C, 0x100, 4, 0x1000000, 1, 0x1⟩,
   ⟨0x050014, 0x100, 4, 0x1000000, 1, 0x1⟩,
   ⟨0x05001C, 0x100, 4, 0x1000000, 1, 0x1⟩,
   ⟨0x050024, 0x100, 4, 0x1000000, 1, 0x1⟩,
   ⟨0x050038, 0x100, 4, 0x1000000, 1, 0x1⟩,
   ⟨0x050040, 0x100, 4, 0x1000000, 1, 0x1⟩,
   ⟨0x050048, 0x100, 4, 0x1000000, 1, 0x1⟩]

/-- 1 where `a` is the low half of a 64-bit register pair (R7). -/
def isPairLow (a : Nat) : Nat :=
  if a < 0x010000 then RegRow.look (pairsSys) a
  else if a < 0x020000 then RegRow.look (pairsMbx) a
  else if a < 0x030000 then RegRow.look (pairsHlt) a
  else if a < 0x040000 then RegRow.look (pairsTim) a
  else if a < 0x050000 then RegRow.look (pairsFbk) a
  else if a < 0x060000 then RegRow.look (pairsCvu) a
  else if a < 0x120000 then RegRow.look (pairsCnp) a
  else if a < 0x200000 then RegRow.look (pairsGate) a
  else if a < 0x280000 then RegRow.look (pairsLdg) a
  else if a < 0x380000 then RegRow.look (pairsDec) a
  else if a < 0x400000 then RegRow.look (pairsEnc) a
  else if a < 0x480000 then RegRow.look (pairsPkt) a
  else if a < 0x490000 then RegRow.look (pairsKln) a
  else if a < 0x580000 then RegRow.look (pairsMem) a
  else 0

end Sys2Proof.Machine
end

