-- ==== Sys2Proof/Machine/State.lean ====
section
/-! DEFINITION. The state of the YZ7840 as the specification gives it, as plain data, with its value after cold reset:
the register file (a sparse table of the registers whose value differs from its reset value), memories, and for every
block what it holds beside its registers. The default value of each structure is its state after reset. -/

namespace Sys2Proof.Machine

open Sys2Proof

/-! ### What the block sends (the model's own: what the last command sent out) -/

/-- Something the device sends outside during a command: an Ethernet frame; an ordered set or a flit of a Kiene lane; the pixels of an
output's line as they leave the gate; an Uncorrectable Internal Error signalled through AER, and a host read completed with Completer Abort
(R25). -/
inductive Emission where
  | frame (port : Nat) (bytes : List Byte)
  | order (lane : Nat) (set : List Byte)
  | flit (lane : Nat) (bytes : List Byte)
  | pixels (output y : Nat) (line : List Nat)
  | aerInternal
  | completerAbort (addr : Nat)
  deriving DecidableEq, Repr

/-- Why a command stops the model. -/
inductive Fault where
  /-- Raised by a register access that R439 forbids: the spec gives it no effect. Safe. -/
  | badAccess
  deriving DecidableEq, Repr

/-- Why a command has no meaning here. -/
inductive Refusal where
  /-- Raised by `exec` for a command the model does not have yet. Safe. -/
  | notModelled (mnemonic : String)
  deriving DecidableEq, Repr

/-! ### The whole -/

/-- The block. DESIGN CHOICE, unsafe (log 4). DESIGN CHOICE, safe (log 9). -/
structure State where
  pending : List Instr := []
  tick : Nat := 0
  fresh : Nat := 0
  readData : Nat := 0
  readPoison : Bool := false
  raised : List (Nat × Nat) := []
  hbm : HbmSt := {}
  shadows : List (Nat × Nat) := []
  regs : List (Nat × Word) := []
  mem : List Host.Cell := []
  hostMem : List Host.Cell := []
  clk : ClockSt := {}
  msix : List (Nat × Nat) := []
  pcie : PcieSt := {}
  mboxes : List (Nat × MailboxSt) := []
  arrivals : List Nat := []
  area : List Host.Cell := []
  nrings : List (Nat × NringSt) := []
  coalesce : List Coalesce := []
  parts : List (Nat × Partition) := []
  grants : List Grant := []
  ranger : RangerSt := {}
  fbk : FbkSt := {}
  hlt : HltSt := {}
  cvu : List (Nat × CvuSt) := []
  blz : BlzSt := {}
  time : TimeSt := {}
  ldg : LedgerSt := {}
  pair : PairSt := {}
  lanes : List (Nat × LaneSt) := []
  caps : List (Nat × CapSt) := []
  outs : List (Nat × OutSt) := []
  stands : List (Nat × Nat) := []
  gate : List (Nat × GateOut) := []
  commits : List (Nat × CommitSt) := []
  groups : List Group := []
  pools : List (Nat × PicPool) := []
  lko : List (Nat × LookOut) := []
  regions : List (Nat × RegionSt) := []
  pol : PolSt := {}
  dcqs : List (Nat × DcqSt) := []
  strip : StripSt := {}
  sys : SysSt := {}
  flash : List Host.Cell := []
  queues : List (Nat × QueueSt) := []
  ports : List (Nat × PortSt) := []
  decs : List (Nat × DecSes) := []
  decPipes : List (Nat × PipeSt) := []
  encs : List (Nat × EncSes) := []
  encPipes : List (Nat × PipeSt) := []
  fwPool : List (Nat × Nat) := [(0x600000000, 0x10000000)]
  emitted : List Emission := []
  deriving DecidableEq, Repr

/-- The device right after cold reset. DESIGN CHOICE, unsafe (log 4). -/
def State.reset : State := {}

end Sys2Proof.Machine
end

