-- ==== Sys2Proof/Machine/Ops.lean ====
section
/-! DEFINITION. The named operations every meaning is written with: registers, time, memory, notices, MSI-X vectors, the
fault collector, Blaze's trigger queue, injection occasions, Firebreak's check, and the answer of a mailbox. -/

namespace Sys2Proof.Machine

open Sys2Proof

/-! ### Registers (R6, R8) -/

/-- The value stored for the register at BAR0 offset `a`. -/
def State.rd (s : State) (a : Nat) : Nat :=
  match sparseFind s.regs a with
  | some w => w.toNat
  | none => resetWord a

/-- The register at `a` set to `v`. -/
def State.wr (s : State) (a v : Nat) : State :=
  { s with regs := sparsePut (BitVec.ofNat 32 (resetWord a)) s.regs a (BitVec.ofNat 32 v) }

/-- A field of a register. -/
def State.fld (s : State) (f : Fld) : Nat := bitsAt (s.rd f.addr) f.hi f.lo

/-- A field set by hardware or firmware. -/
def State.setFld (s : State) (f : Fld) (v : Nat) : State :=
  s.wr f.addr (withBits (s.rd f.addr) f.hi f.lo v)

/-- A W1C bit set by hardware. That it was set is kept until time passes, so that a write of 1 in the same tick does not clear it (R9). -/
def State.raise (s : State) (f : Fld) : State := { s.setFld f 1 with raised := s.raised.insert (f.addr, f.lo) }

/-- A W1C bit cleared by a write of 1, unless hardware set it in the same tick (R9). -/
def State.w1c (s : State) (f : Fld) : State := if s.raised.contains (f.addr, f.lo) then s else s.setFld f 0

/-- The W1C bits of the register at `a` that hardware set in this tick. -/
def State.raisedBits (s : State) (a : Nat) : Nat :=
  ((s.raised.filter fun p => p.1 == a).map Prod.snd).dedup.foldl (fun m b => m + 2 ^ b) 0

/-- Whether a one-bit field is 1. -/
def State.isSet (s : State) (f : Fld) : Bool := s.fld f == 1

/-- A saturating counter incremented by `n`. -/
def State.bump (s : State) (a : Nat) (n : Nat := 1) : State := s.wr a (satAdd32 (s.rd a) n)

/-- A wrapping counter incremented by `n`. -/
def State.bumpWrap (s : State) (a : Nat) (n : Nat := 1) : State := s.wr a (wrapAdd 32 (s.rd a) n)

/-- A 64-bit quantity in two registers, the low half at `lo` (R7). -/
def State.rd64 (s : State) (lo hi : Nat) : Nat := s.rd lo + 2 ^ 32 * s.rd hi

/-- The two registers of a 64-bit quantity. -/
def State.wr64 (s : State) (lo hi v : Nat) : State := (s.wr lo (v % 2 ^ 32)).wr hi (v / 2 ^ 32 % 2 ^ 32)

/-- The bytes of `n` registers from offset `a`, an image as the query commands return it. -/
def State.regImage (s : State) (view : State → Nat → Nat) (a n : Nat) : List Byte :=
  (List.range n).flatMap fun i => leBytes 4 (view s (a + 4 * i))

/-! ### Time. One tick is one period of the TIM clock, 2 ns (R275, R276). -/

def ticksPerUs : Nat := 500
def ticksPerMs : Nat := 500000
def ticksPerS : Nat := 500000000

/-- The age clock in ns (R276), a 64-bit counter. -/
def State.ageNs (s : State) : Nat := s.clk.age / 2 ^ 32 % 2 ^ 64

/-- The consumers of the age clock, in the order of R21: one time-distribution queue each. -/
def ageSys : Nat := 0
def ageCmp : Nat := 1
def ageVid : Nat := 2
def ageMem : Nat := 3
def ageCtl : Nat := 4
def ageLane : Nat := 5
def ageAon : Nat := 6

/-- The copy of the age clock that a consumer sees: in steps of 32 ns, at most 64 ns behind the TIM counter, and held for a while by a reset of
its queue (R21, R25). DESIGN CHOICE, safe (log 171). DEDUCED, unsafe (log 221). -/
def State.ageOf (s : State) (k : Nat) : Nat :=
  match sparseFind s.clk.held k with
  | some (v, till) => if s.tick < till then v else (s.ageNs - min (sparseGet 0 s.clk.lag k) 32) / 32 * 32
  | none => (s.ageNs - min (sparseGet 0 s.clk.lag k) 32) / 32 * 32

/-- NOW40 as a consumer sees it: bits 49:10 of its copy of the age clock, in age units (R4, R40). -/
def State.nowOf (s : State) (k : Nat) : Nat := s.ageOf k / 1024 % 2 ^ 40

/-- NOW40 in the SYS domain. -/
def State.now40 (s : State) : Nat := s.nowOf ageSys

/-- The 2^-32 ns the age clock gains at each tick: 2 ns and the rate adjustment (R276, R277). -/
def State.agePeriod (s : State) : Nat := (2 * 2 ^ 32 + toInt 32 (s.rd Reg.TIM_AGE_ADJ)).toNat

/-- The 2^-32 ns the PTP clock gains at each tick (R275, R277). -/
def State.ptpPeriod (s : State) : Nat := (2 * 2 ^ 32 + toInt 32 (s.rd Reg.TIM_PTP_ADJ)).toNat

/-- The PTP clock in whole ns (R275). -/
def State.ptpNs (s : State) : Nat := s.clk.ptp / 2 ^ 32

/-- `dt` ticks pass: both clocks advance by their periods, and what the last command sent out is gone. DESIGN CHOICE, unsafe (log 2). -/
def State.elapse (s : State) (dt : Nat) : State :=
  { s with
    tick := s.tick + dt
    clk := { s.clk with
      age := (s.clk.age + dt * s.agePeriod) % 2 ^ 96
      ptp := (s.clk.ptp + dt * s.ptpPeriod) % (2 ^ 48 * 10 ^ 9 * 2 ^ 32) }
    emitted := []
    raised := if dt == 0 then s.raised else [] }

/-- Whether `n` ticks have passed since tick `t`. -/
def State.since (s : State) (t n : Nat) : Bool := t + n ≤ s.tick

/-- The next free value's number: the counter the free values of Config are applied to. DESIGN CHOICE, safe (log 9, 10). -/
def State.nextFree (s : State) : State := { s with fresh := s.fresh + 1 }

/-! ### Device memory and host memory -/

/-- Whether internal address `a` lies in device memory (R26). -/
def inDeviceMem (a : Nat) : Bool := a < 0xC00000000

/-- Whether internal address `a` lies in Ranger SRAM, the Blaze buffer or device memory (R26). -/
def inMemory (a : Nat) : Bool :=
  inDeviceMem a || within 0xFE00000000 0xFE003FFFFF a || within 0xFE01000000 0xFE0103FFFF a

/-- The byte stored at internal address `a`. DESIGN CHOICE, unsafe (log 5). -/
def State.memByte (s : State) (a : Nat) : Byte := sparseGet 0 s.mem a

/-- The `n` bytes stored from `a`. -/
def State.memBytes (s : State) (a n : Nat) : List Byte := sparseRange 0 s.mem a n

/-- The little-endian number of `n` bytes stored at `a`. -/
def State.memNat (s : State) (a n : Nat) : Nat := leNat (s.memBytes a n)

/-- A write of the `n` bytes from `a` cancels the scrubber's write-back of their blocks (R35), and new check bits replace those of the blocks it
covers whole. DESIGN CHOICE, unsafe (log 29). -/
def HbmSt.written (h : HbmSt) (a n : Nat) : HbmSt :=
  { h with
    writeBack := h.writeBack.filter fun b => !(b < a + n && a < b + 64)
    errors := h.errors.filter fun p => !(a ≤ p.1 && p.1 + 8 ≤ a + n) }

/-- Bytes stored from `a`. -/
def State.memWrite (s : State) (a : Nat) (b : List Byte) : State :=
  { s with mem := sparsePutRange 0 s.mem a b, hbm := s.hbm.written a b.length }

/-- Bytes written by the device to host memory at bus address `a`. -/
def State.hostWrite (s : State) (a : Nat) (b : List Byte) : State := { s with hostMem := sparsePutRange 0 s.hostMem a b }

/-- Something the device sends to the outside during this command. DESIGN CHOICE, safe (log 9). -/
def State.emit (s : State) (e : Emission) : State := { s with emitted := s.emitted ++ [e] }

/-! ### MSI-X vectors (R385) -/

/-- Vector `v` is requested (R385); of a masked vector the pending bit is set. DESIGN CHOICE, unsafe (log 234). -/
def State.msixRequest (s : State) (v : Nat) : State :=
  { s with
    msix := sparsePut 0 s.msix v (sparseGet 0 s.msix v + 1)
    pcie := if s.pcie.unmasked.contains v then s.pcie else { s.pcie with pending := v :: s.pcie.pending.filter (· != v) } }

/-! ### Notices (R380 to R384, R415, R563, R564) -/

/-- The kinds that are never coalesced and go to the backlog when a ring lacks space (R383). DEDUCED, unsafe (log 105). -/
def neverCoalesced (kind : Nat) : Bool :=
  [0x0102, 0x0411, 0x0412, 0x0902, 0x0B01, 0x0D01, 0x1101, 0x1102, 0x1103].contains kind

/-- R563: whether a notice is raised by hardware; the kinds Ranger A1 composes are written with FLAGS[HW] clear. -/
def hwNotice (kind : Nat) (payload : List Byte) : Bool :=
  if kind == 0x0508 then fieldAt payload 3 1 == 2
  else !([0x0102, 0x0103, 0x1101, 0x1102, 0x1103, 0x0901, 0x0B04, 0x0D01, 0x0D02, 0x0D03,
          0x1201, 0x1202, 0x1203].contains kind)

/-- Payload fields that count events, as (offset, size): they cover every occurrence folded in (R564). -/
def countFields (kind : Nat) : List (Nat × Nat) :=
  if kind == 0x0101 then [(12, 4)]
  else if kind == 0x0201 then [(0, 4)]
  else if kind == 0x0203 then [(4, 4)]
  else if kind == 0x0402 || kind == 0x0704 then [(2, 2)]
  else if kind == 0x0414 then [(4, 4)]
  else if kind == 0x0602 then [(8, 4)]
  else if kind == 0x0605 || kind == 0x0706 then [(3, 1)]
  else if kind == 0x0802 then [(4, 4), (8, 4)]
  else if kind == 0x0804 then [(4, 4)]
  else if kind == 0x0805 then [(4, 4)]
  else if kind == 0x0903 then [(0, 4)]
  else if kind == 0x0A05 then [(4, 4)]
  else if kind == 0x0E01 then [(12, 4)]
  else if kind == 0x0E02 then [(12, 4)]
  else if kind == 0x1001 then [(0, 4), (4, 4)]
  else []

/-- The last occurrence's payload with its count fields covering the earlier ones as well (R564). -/
def mergePayload (kind : Nat) (old new : List Byte) : List Byte :=
  (countFields kind).foldl (fun p f =>
    spliceAt p f.1 (leBytes f.2 (min (fieldAt old f.1 f.2 + fieldAt new f.1 f.2) (2 ^ (8 * f.2) - 1)))) new

/-- The ring's size in bytes, 2^k. -/
def State.nringSize (s : State) (n : Nat) : Nat := 2 ^ s.fld (Reg.MBX_NRING_CFG_LOG2_SIZE n)

/-- The fill of ring `n` (R382). -/
def State.nringFill (s : State) (n : Nat) : Nat :=
  wrapSub 32 (s.rd (Reg.MBX_NRING_PROD n)) (s.rd (Reg.MBX_NRING_CONS n))

/-- The host bus address of ring `n`. -/
def State.nringBase (s : State) (n : Nat) : Nat :=
  s.rd64 (Reg.MBX_NRING_BASE_LO n) (Reg.MBX_NRING_BASE_HI n)

def State.nring (s : State) (n : Nat) : NringSt := sparseGet {} s.nrings n
def State.setNring (s : State) (n : Nat) (r : NringSt) : State := { s with nrings := sparsePut {} s.nrings n r }

/-- PROD of ring `n` advances by `bytes`; the vector is requested exactly when the fill passes from below LEVEL to LEVEL
or above (R384). -/
def State.nringAdvance (s : State) (n bytes : Nat) : State :=
  let before := s.nringFill n
  let s1 := s.wr (Reg.MBX_NRING_PROD n) (wrapAdd 32 (s.rd (Reg.MBX_NRING_PROD n)) bytes)
  let level := s.fld (Reg.MBX_NRING_LEVEL_BYTES n)
  if before < level && level ≤ before + bytes then s1.msixRequest (9 + n) else s1

/-- One record's bytes: header and payload, zero-padded to a multiple of 64 (R381). -/
def recordBytes (size kind seq stamp part flags coalesced : Nat) (payload : List Byte) : List Byte :=
  padTo size (pack [(2, size), (2, kind), (4, seq), (8, stamp), (2, part), (2, flags), (4, min coalesced 0xFFFFFFFF),
    (2, payload.length), (6, 0)] ++ payload)

/-- The size of a record with `n` payload bytes. -/
def recordSize (n : Nat) : Nat := max 64 (ceilDiv (32 + n) 64 * 64)

/-- The pad record a record of `size` bytes needs before it: the bytes left to the ring's end when it does not fit there. -/
def State.nringPad (s : State) (n size : Nat) : Nat :=
  let left := s.nringSize n - s.rd (Reg.MBX_NRING_PROD n) % s.nringSize n
  if size ≤ left then 0 else left

/-- Whether the free space of ring `n` holds a record of `size` bytes with any pad record it needs (R383). -/
def State.nringFits (s : State) (n size : Nat) : Bool :=
  s.nringPad n size + size + s.nringFill n ≤ s.nringSize n

/-- A record placed at PROD, its SEQ taken, PROD advanced. -/
def State.nringPlace (s : State) (n size kind stamp part flags coalesced : Nat) (payload : List Byte) : State :=
  let r := s.nring n
  let at_ := s.nringBase n + s.rd (Reg.MBX_NRING_PROD n) % s.nringSize n
  let s1 := s.hostWrite at_ (recordBytes size kind r.seq stamp part flags coalesced payload)
  (s1.setNring n { r with seq := wrapAdd 32 r.seq 1 }).nringAdvance n size

/-- A record written, after the pad record it needs (R381). -/
def State.nringWrite (s : State) (n kind stamp part flags coalesced : Nat) (payload : List Byte) : State :=
  let size := recordSize payload.length
  let pad := s.nringPad n size
  let s1 := if pad == 0 then s
    else s.nringPlace n pad 0 (s.nowOf ageCtl) (s.fld (Reg.MBX_NRING_CFG_PARTITION n)) 1 0 []
  s1.nringPlace n size kind stamp part flags coalesced payload

/-- The occurrences of a kind and object left unwritten on ring `n`. -/
def unwrittenOf (l : List Unwritten) (kind obj : Nat) : Nat :=
  (l.filter fun u => u.kind == kind && u.obj == obj).foldl (fun a u => a + u.count) 0

/-- The payload of the next notice of a kind and object on a ring, its count fields covering the notices left unwritten as well (R564). -/
def withUnwritten (l : List Unwritten) (kind obj : Nat) (payload : List Byte) : List Byte :=
  match l.find? fun u => u.kind == kind && u.obj == obj with
  | some u => mergePayload kind u.payload payload
  | none => payload

/-- One more notice of a kind and object left unwritten, standing for `c` occurrences. -/
def addUnwritten (l : List Unwritten) (kind obj c : Nat) (payload : List Byte) : List Unwritten :=
  { kind := kind, obj := obj, count := unwrittenOf l kind obj + c, payload := withUnwritten l kind obj payload } ::
    l.filter fun u => !(u.kind == kind && u.obj == obj)

/-- A notice that finds no space on ring `n` (R383): a rate-limited one is counted, a never-coalesced one goes to the
backlog, or is dropped when the backlog is full. -/
def State.nringLeave (s : State) (n : Nat) (x : Notice) (never : Bool) : State :=
  let r := s.nring n
  if !never then
    (s.setNring n { r with unwritten := addUnwritten r.unwritten x.kind x.obj (1 + x.coalesced) x.payload, ovfLimited := r.ovfLimited + 1 })
      |>.raise (Reg.MBX_NRING_STAT_OVERFLOW n)
  else if r.backlog.length < 4096 then
    ((s.setNring n { r with backlog := r.backlog ++ [x] }).raise (Reg.MBX_NRING_STAT_OVERFLOW n))
      |>.setFld (Reg.MBX_NRING_STAT_BACKLOG n) (r.backlog.length + 1)
  else
    (((s.setNring n { r with ovfDropped := r.ovfDropped + 1 }).raise (Reg.MBX_NRING_STAT_LOST n)).raise (Reg.MBX_NRING_STAT_OVERFLOW n))
      |>.bump (Reg.MBX_NRING_CNT_DROP n)

/-- Whether ring `n` still owes an overflow record or backlog. -/
def State.nringOwes (s : State) (n : Nat) : Bool :=
  let r := s.nring n
  r.ovfLimited != 0 || r.ovfDropped != 0 || !r.backlog.isEmpty

/-- The backlog of ring `n`, oldest first, as far as the space goes. -/
def State.nringDrain (s : State) (n : Nat) : Nat → State
  | 0 => s
  | k + 1 =>
    match (s.nring n).backlog with
    | [] => s
    | x :: t =>
      if s.nringFits n (recordSize x.payload.length) then
        let r := s.nring n
        let s1 := (s.setNring n { r with backlog := t }).setFld (Reg.MBX_NRING_STAT_BACKLOG n) t.length
        State.nringDrain (s1.nringWrite n x.kind x.stamp x.part (ofBool x.hw) x.coalesced x.payload) n k
      else s

/-- When space returns: one overflow record, if anything was left unwritten, then the backlog (R383). -/
def State.nringCatchUp (s : State) (n : Nat) : State :=
  let r := s.nring n
  if !s.isSet (Reg.MBX_NRING_CFG_OPEN n) then s
  else if r.ovfLimited == 0 && r.ovfDropped == 0 then
    s.nringDrain n r.backlog.length
  else if s.nringFits n 64 then
    let s1 := (s.setNring n { r with ovfLimited := 0, ovfDropped := 0 }).nringWrite n 0xFFFF (s.nowOf ageCtl)
      (s.fld (Reg.MBX_NRING_CFG_PARTITION n)) 1 0 (pack [(4, r.ovfLimited), (4, r.ovfDropped)])
    s1.nringDrain n r.backlog.length
  else s

/-- A notice handed to ring `n`: after anything the ring owes, with the unwritten occurrences of its kind and object in
COALESCED, or left unwritten when space lacks. HLT_FAULT repeats COALESCED in its payload (R484). -/
def State.nringTake (s : State) (n : Nat) (x : Notice) (never : Bool) : State :=
  let s0 := if s.nringOwes n then s.nringCatchUp n else s
  let size := recordSize x.payload.length
  if !s0.nringOwes n && s0.nringFits n size then
    let r := s0.nring n
    let c := x.coalesced + unwrittenOf r.unwritten x.kind x.obj
    let s1 := s0.setNring n { r with unwritten := r.unwritten.filter fun u => !(u.kind == x.kind && u.obj == x.obj) }
    let y := withUnwritten r.unwritten x.kind x.obj x.payload
    let p := if x.kind == 0x0F01 then spliceAt y 16 (leBytes 4 (min c 0xFFFFFFFF)) else y
    s1.nringWrite n x.kind x.stamp x.part (ofBool x.hw) c p
  else s0.nringLeave n x never

/-- The PARTITION a notice carries on ring `n`, if the ring receives it (R380): the ring's own partition where it is
addressed, 0 where the ring is the device owner's, 0xFFFF for every partition. DEDUCED, unsafe (log 138). -/
def State.nringAddressed (s : State) (n : Nat) (dests : List Nat) : Option Nat :=
  let p := s.fld (Reg.MBX_NRING_CFG_PARTITION n)
  if !s.isSet (Reg.MBX_NRING_CFG_OPEN n) then none
  else if dests.contains 0xFFFF then some 0xFFFF
  else if p != 0 && dests.contains p then some p
  else if dests.contains 0 && s.isSet (Reg.MBX_NRING_CFG_DEV_OWNER n) then some 0
  else none

/-- A notice written to every ring that receives it, once each; discarded where none does (R380). -/
def State.deliver (s : State) (kind obj : Nat) (dests : List Nat) (payload : List Byte) (coalesced : Nat)
    (never : Bool) : State :=
  (List.range 8).foldl (fun t n =>
    match s.nringAddressed n dests with
    | none => t
    | some p => t.nringTake n { kind := kind, obj := obj, stamp := s.nowOf ageCtl, part := p, hw := hwNotice kind payload,
                                coalesced := coalesced, payload := payload } never) s

/-- The windows that a window of 10 ms becomes when an occurrence for the partitions `dests` comes: for those of its partitions that are among
them the occurrence is folded in, and the others keep their window as it is. -/
def Coalesce.fold (c : Coalesce) (dests : List Nat) (payload : List Byte) : List Coalesce :=
  let hit := c.dests.filter dests.contains
  let miss := c.dests.filter fun d => !dests.contains d
  if hit.isEmpty then [c]
  else
    (if miss.isEmpty then [] else [{ c with dests := miss }]) ++
      [{ c with dests := hit, folded := c.folded + 1
                payload := if c.folded == 0 then payload else mergePayload c.kind c.payload payload }]

/-- A notice raised for object `obj`: at once when its kind is never coalesced, or for those partitions for which no notice of its kind and
object was raised in the last 10 ms, and folded into the next one for the others (R77, R564). DEDUCED, unsafe (log 105). -/
def State.raiseNotice (s : State) (kind obj : Nat) (dests : List Nat) (payload : List Byte) (never : Bool := false) : State :=
  if never || neverCoalesced kind then s.deliver kind obj dests payload 0 true
  else
    let mine (c : Coalesce) : Bool := c.kind == kind && c.obj == obj
    let live := (s.coalesce.filter fun c => mine c && !(c.folded == 0 && c.endTick ≤ s.tick))
    let now := dests.dedup.filter fun d => !live.any fun c => c.dests.contains d
    let s1 : State := { s with coalesce :=
      (if now.isEmpty then [] else [{ kind := kind, obj := obj, endTick := s.tick + 10 * ticksPerMs, dests := now }]) ++
        (live.flatMap fun c => c.fold dests payload) ++ s.coalesce.filter fun c => !mine c }
    if now.isEmpty then s1 else s1.deliver kind obj now payload 0 false

/-- Whether Ranger A1 composes notices now: it runs and is not halted. DEDUCED, unsafe (log 110). -/
def State.composes (s : State) : Bool := s.isSet Reg.MBX_STATUS_READY && !s.hlt.unitHalted.contains 2

/-- A notice raised for object `obj`. One of a kind that Ranger A1 composes waits until it runs again; those of the hardware go on (R563). DEDUCED, unsafe (log 211). -/
def State.notice (s : State) (kind obj : Nat) (dests : List Nat) (payload : List Byte) (never : Bool := false) : State :=
  if s.composes || hwNotice kind payload then s.raiseNotice kind obj dests payload never
  else { s with ranger := { s.ranger with untold := s.ranger.untold ++ [{ kind := kind, obj := obj, dests := dests, payload := payload }] } }

/-- The notices that waited for Ranger A1. DEDUCED, unsafe (log 211). -/
def State.tellUntold (s : State) : State :=
  s.ranger.untold.foldl (fun t x => t.notice x.kind x.obj x.dests x.payload) { s with ranger := { s.ranger with untold := [] } }

/-- The occurrences that Ranger A1 had folded into a notice not yet raised are lost with it; the next notice of their kind and object carries them
in COALESCED (R386 step 4). DEDUCED, unsafe (log 211). -/
def State.loseFolded (s : State) : State :=
  let lost (c : Coalesce) : Bool := c.folded != 0 && !hwNotice c.kind c.payload
  let s1 := (s.coalesce.filter lost).foldl (fun t c => (List.range 8).foldl (fun u n =>
    if (u.nringAddressed n c.dests).isSome then
      u.setNring n { u.nring n with unwritten := addUnwritten (u.nring n).unwritten c.kind c.obj c.folded c.payload }
    else u) t) s
  { s1 with coalesce := s1.coalesce.map fun c => if lost c then { c with folded := 0 } else c }

/-! ### Blaze's trigger queue (R486 to R488) -/

/-- Entries free in the trigger queue. -/
def State.blzFree (s : State) : Nat := 64 - s.blz.queue.length

/-- A trigger reaches Blaze (R487, R488): it coalesces with a queued entry of its TYPE and SOURCE, unless TYPE 3 or
FATAL; else it is admitted by its severity, or dropped and counted. After a power failure only severity 3 is admitted. -/
def State.blzTrigger (s : State) (type source severity : Nat) (detail : List Byte) (fatal : Bool := false) : State :=
  let coalesces := type != 3 && !fatal && s.blz.queue.any fun e => e.type == type && e.source == source && !e.fatal
  if coalesces && !s.isSet Reg.BLZ_STATUS_PF then
    let hit (e : BlzEntry) : BlzEntry :=
      if e.type == type && e.source == source && !e.fatal then { e with suppressed := min (e.suppressed + 1) 65535 } else e
    ({ s with blz := { s.blz with queue := s.blz.queue.map hit } }).bump Reg.BLZ_CNT_COALESCED
  else
    let need := if severity ≤ 1 then 16 else if severity == 2 then 4 else 1
    if need ≤ s.blzFree && (!s.isSet Reg.BLZ_STATUS_PF || severity == 3) then
      let e : BlzEntry := { type := type, source := source, severity := severity, stamp := s.nowOf ageCtl, detail := padTo 16 detail, fatal := fatal }
      ({ s with blz := { s.blz with queue := s.blz.queue ++ [e] } }).setFld Reg.BLZ_STATUS_QUEUE (s.blz.queue.length + 1)
    else
      let s1 := (({ s with blz := { s.blz with dropped := s.blz.dropped + 1 } }).bump Reg.BLZ_CNT_DROP).raise Reg.BLZ_STAT_DROP
      s1.notice 0x1001 0 [0] (pack [(4, 1), (4, 0)])

/-! ### The fault collector (R456 to R462, R565, R566) -/

/-- One log entry (R460). -/
def logEntry (stamp det cls inst flags detail : Nat) : List Byte :=
  pack [(8, stamp), (1, det), (1, cls), (2, inst), (1, flags), (1, 0), (2, detail)]

/-- The class counter of a fault class. -/
def classCounter (cls : Nat) : Nat := Reg.HLT_CNT_CORRECTED + 4 * cls

/-- The collector logs one event with its final class: log entry, class counter, LASTING_PEND, vector 17 by IRQ_CLASS
(R462), a Blaze trigger (R486) and HLT_FAULT, never coalesced when FATAL or INJECTED (R484). -/
def State.logFault (s : State) (det cls inst : Nat) (injected : Bool := false) (detail : Nat := 0) : State :=
  let i := s.rd Reg.HLT_LOG_PROD
  let e := logEntry s.now40 det cls inst (ofBool injected) detail
  let slot := 4 * (i % 64)
  let s1 := (((s.wr (Reg.HLT_LOG slot) (fieldAt e 0 4)).wr (Reg.HLT_LOG (slot + 1)) (fieldAt e 4 4)).wr
    (Reg.HLT_LOG (slot + 2)) (fieldAt e 8 4)).wr (Reg.HLT_LOG (slot + 3)) (fieldAt e 12 4)
  let s2 := (s1.bumpWrap Reg.HLT_LOG_PROD).bump (classCounter cls)
  let s3 := if cls == 2 then s2.raise Reg.HLT_STATUS_LASTING_PEND else s2
  let s4 := if s3.fld Reg.HLT_CTRL_IRQ_CLASS ≤ cls then s3.msixRequest 17 else s3
  let s5 := s4.blzTrigger 1 (det * 2 ^ 24 + cls * 2 ^ 16 + inst) (if cls ≤ 1 then 1 else cls) e (cls == 3)
  s5.notice 0x0F01 ((det * 65536 + inst) * 4 + cls) [0] (e ++ leBytes 4 0) (cls == 3 || injected)

/-- The run of failures of a detector instance. -/
def State.run (s : State) (det inst : Nat) : FaultRun := sparseGet {} s.hlt.runs (det * 65536 + inst)

def State.setRun (s : State) (det inst : Nat) (r : FaultRun) : State :=
  { s with hlt := { s.hlt with runs := sparsePut {} s.hlt.runs (det * 65536 + inst) r } }

/-- A failed attempt of a detector instance (R566): the second one in a run is a LASTING event. The answer says whether
this attempt is the one that decides LASTING. `word` is kept from the first failure. -/
def State.detFail (s : State) (det inst : Nat) (injected : Bool := false) (word : Nat := 0) : Bool × State :=
  let r := s.run det inst
  if r.count == 0 then (false, s.setRun det inst { count := 1, injected := injected, first := word })
  else if r.count == 1 then (true, (s.setRun det inst { r with count := 2 }).logFault det 2 inst r.injected)
  else (false, s)

/-- A successful attempt (R566): a run that stops after its first failure is one TRANSIENT event. The answer says
whether that is so. -/
def State.detPass (s : State) (det inst : Nat) : Bool × State :=
  let r := s.run det inst
  if r.count == 1 then (true, (s.setRun det inst {}).logFault det 1 inst r.injected)
  else (false, s.setRun det inst {})

/-! ### Dual-clock queues (R22 to R25) -/

/-- Queue `q`: the kind code × 256 + the instance (R23). -/
def State.dcq (s : State) (q : Nat) : DcqSt := sparseGet {} s.dcqs q
def State.setDcq (s : State) (q : Nat) (x : DcqSt) : State := { s with dcqs := sparsePut {} s.dcqs q x }

/-- 64 cycles of the slower clock of queue `i` of a kind, in ticks (R18, R23, R25). -/
def queueBound (kind i : Nat) : Nat :=
  match kind with
  | 0x01 => 32
  | 0x07 => 79
  | 0x0B => 320
  | 0x0E => if i == ageLane then 80 else if i == ageAon then 4000 else 64
  | 0x0F => 4000
  | _ => if within 0x03 0x06 kind then 80 else 40

/-- Whether queue `i` of a kind accepts entries (R23, R24). -/
def State.queueTakes (s : State) (kind i : Nat) : Bool :=
  let x := s.dcq (kind * 256 + i)
  !x.lasting && (x.at_ == 0 || x.resumed || x.at_ + queueBound kind i ≤ s.tick + 1)

/-! ### Injection occasions (R476 to R479) -/

/-- A detector's check asks whether an injection meets it here (R476): the pending injection's first occasion, within 1 s, performs it
(PENDING clears, DONE is set, HLT_INJ_CNT counts), and a performed one's further occasions follow up to PARAM's count.
The answer is the injection's PARAM, if one strikes. `count` is the number of occasions PARAM names. -/
def State.injTake (s : State) (det inst : Nat) (count : Nat → Nat := fun p => p) : Option Nat × State :=
  match s.hlt.further.find? fun j => j.det == det && j.inst == inst with
  | some j =>
    let rest := s.hlt.further.filter fun k => !(k.det == det && k.inst == inst)
    let more := if j.since ≤ 1 then rest else { j with since := j.since - 1 } :: rest
    (some j.param, { s with hlt := { s.hlt with further := more } })
  | none =>
    match s.hlt.pendingInj with
    | some j =>
      if j.det == det && j.inst == inst && s.tick < j.since + ticksPerS then
        let left := count j.param - 1
        let s1 := { s with hlt := { s.hlt with
          pendingInj := none
          further := if left == 0 then s.hlt.further else { j with since := left } :: s.hlt.further } }
        (some j.param, ((s1.setFld Reg.HLT_INJ_STAT_PENDING 0).raise Reg.HLT_INJ_STAT_DONE).bump Reg.HLT_INJ_CNT)
      else (none, s)
    | none => (none, s)

/-! ### Firebreak's check (R436 to R438, R450, R451) -/

def fbkHost : Nat := 0
def fbkDbg : Nat := 1
def fbkRgs : Nat := 2
def fbkA0 : Nat := 3
def fbkDec (p : Nat) : Nat := 5 + p
def fbkEnc (p : Nat) : Nat := 13 + p
def fbkCap : Nat := 17
def fbkPkt : Nat := 18
def fbkCnp : Nat := 19
def fbkLdg : Nat := 20
def fbkLko : Nat := 21
def fbkBlz : Nat := 22
def fbkCvu (n : Nat) : Nat := 23 + n
def fbkPair : Nat := 27

/-- The size exponent of a region. -/
def FbkRegion.log2 (r : FbkRegion) : Nat := bitsAt r.cfg 5 0

/-- Whether an enabled region covers an address (R436). -/
def FbkRegion.covers (r : FbkRegion) (a : Nat) : Bool := bitAt r.cfg 31 && a / 2 ^ r.log2 == r.base / 2 ^ r.log2

/-- Whether a region grants reads (bit 30) or writes (bit 29). -/
def FbkRegion.grants (r : FbkRegion) (write : Bool) : Bool := bitAt r.cfg (if write then 29 else 30)

/-- The active regions of unit `u`. -/
def State.fbkRegions (s : State) (u : Nat) : List FbkRegion :=
  (s.fbk.active.filter fun p => p.1 / 64 == u).map Prod.snd

/-- Whether a locked active region of any unit covers an address (R446). -/
def State.fbkLocked (s : State) (a : Nat) : Bool :=
  s.fbk.active.any fun p => bitAt p.2.cfg 28 && p.2.covers a

/-- R437 for the general regions: none when the access is allowed, else the CAUSE of the denial. -/
def State.fbkDenies (s : State) (u a : Nat) (write : Bool) : Option Nat :=
  if !inMemory a then some 3
  else
    let l := (s.fbkRegions u).filter fun r => r.covers a
    if l.any fun r => r.grants write then none
    else if l.isEmpty then some 0 else some 1

/-- A denial counted and captured (R450). -/
def State.fbkCapture (s : State) (u a : Nat) (write : Bool) (len cause : Nat) : State :=
  let s1 := s.bump (Reg.FBK_VIOL_CNT u)
  if s1.isSet (Reg.FBK_VIOL_STAT_VALID u) then s1.raise (Reg.FBK_VIOL_STAT_OVERFLOW u)
  else
    ((((((s1.raise (Reg.FBK_VIOL_STAT_VALID u)).setFld (Reg.FBK_VIOL_STAT_WRITE u) (ofBool write)).setFld
      (Reg.FBK_VIOL_STAT_CAUSE u) cause).setFld (Reg.FBK_VIOL_STAT_LENGTH u) (len - 1)).wr
      (Reg.FBK_VIOL_ADDR_LO u) (a % 2 ^ 32)).setFld (Reg.FBK_VIOL_ADDR_HI_ADDR u) (a / 2 ^ 32))

/-- The payload of FBK_VIOLATION (R455). -/
def violPayload (u cause : Nat) (write : Bool) (cls a : Nat) : List Byte :=
  pack [(1, u), (1, cause), (1, ofBool write), (1, cls), (8, a), (4, 1)]

/-- A violation of an engine or of Ranger (R451): the first one waits to be classed; a second within 10 ms of it is a
LASTING fault, which the answer reports; later ones of the run only count (R566). DEDUCED, unsafe (log 32, 120). -/
def State.fbkViolate (s : State) (u a : Nat) (write : Bool) (len cause : Nat) (injected : Bool := false) : Bool × State :=
  let s1 := s.fbkCapture u a write len cause
  let r := s1.run 0x10 u
  let last := sparseGet 0 s1.fbk.lastViol u
  let s2 := { s1 with fbk := { s1.fbk with lastViol := sparsePut 0 s1.fbk.lastViol u (s1.tick + 1) } }
  if r.count != 0 && s.tick + 1 < last + 10 * ticksPerMs then
    if r.count == 1 then
      (true, ((s2.setRun 0x10 u { r with count := 2 }).logFault 0x10 2 u r.injected).notice 0x0E01 u [0]
        (violPayload u cause write 2 a))
    else (false, s2)
  else (false, s2.setRun 0x10 u { count := 1, injected := injected, first := a * 16 + cause * 2 + ofBool write })

/-- The runs of violations that 10 ms have ended: a run of one violation is TRANSIENT (R451, R566). DEDUCED, unsafe (log 120). -/
def State.fbkSettle (s : State) : State :=
  s.fbk.lastViol.foldl (fun t p =>
    if p.2 + 10 * ticksPerMs ≤ t.tick + 1 then
      let r := t.run 0x10 p.1
      let t1 := { t.setRun 0x10 p.1 {} with fbk := { t.fbk with lastViol := sparsePut 0 t.fbk.lastViol p.1 0 } }
      if r.count == 1 then
        (t1.logFault 0x10 1 p.1 r.injected).notice 0x0E01 p.1 [0]
          (violPayload p.1 (r.first / 2 % 8) (r.first % 2 == 1) 1 (r.first / 16))
      else t1
    else t) s

/-- The error that the check bits of the 64-bit word at `a` show, kept until it is corrected or overwritten. -/
def State.keepError (s : State) (a e : Nat) : State :=
  { s with hbm := { s.hbm with errors := sparsePut 0 s.hbm.errors (a / 8 * 8) e } }

/-- The scrubber's write-back of the block's corrected words, unless a requester wrote the block meanwhile (R35). -/
def State.writeBackDone (s : State) : State :=
  match s.hbm.writeBack with
  | none => s
  | some a => { s with hbm := { s.hbm with
      writeBack := none
      errors := s.hbm.errors.filter fun p => !(p.1 / 64 == a / 64 && p.2 == 1) } }

/-- The queues with a register block. -/
def allQueues : List Nat := List.range 128

/-- Whether queue `n` is HELD and names port `p`. -/
def State.heldOn (s : State) (p n : Nat) : Bool :=
  s.isSet (Reg.PKT_Q_CTRL_HELD n) && bitAt (s.fld (Reg.PKT_Q_CTRL_PORTS n)) p

/-- Whether a HELD queue drives FLOW_HOLD[p] high (R266). -/
def State.queueHolds (s : State) (p : Nat) : Bool := allQueues.any fun n => s.heldOn p n && s.isSet (Reg.PKT_Q_CTRL_HOLD_PIN n)

/-- Port `p`'s receive buffer drains as its frames are written to device memory (R253), and FLOW_HOLD[p] falls below 50 % where no queue holds it
(R266). DESIGN CHOICE, safe (log 71). -/
def State.rxDrain (s : State) (p dt : Nat) : State :=
  let v := s.fld (Reg.PKT_PORT_RXBUF_LEVEL p)
  if v == 0 then s
  else
    let w := min v (Config.rxLeft p v dt)
    let t := s.setFld (Reg.PKT_PORT_RXBUF_LEVEL p) w
    if w < 2048 && !s.queueHolds p then t.setFld (Reg.PKT_PORT_STAT_HOLD_PIN p) 0 else t

/-- What a command does before its own effect: its time passes, and violation runs that have ended are classed. DESIGN CHOICE, unsafe (log 2). -/
def State.pass (s : State) (dt : Nat) : State :=
  (if dt == 0 then s.elapse dt else (((s.elapse dt).writeBackDone).rxDrain 0 dt).rxDrain 1 dt).fbkSettle

/-- An engine's access checked on its first byte (R437): allowed, or counted as a violation with data zero or the write
dropped (R438). The answer says whether it was allowed and whether the unit's violation is now LASTING. -/
def State.fbkCheck (s : State) (u a : Nat) (write : Bool) (len : Nat) : Bool × Bool × State :=
  let (inj, s0) := s.injTake 0x10 u
  match inj, s0.fbkDenies u a write with
  | none, none => (true, false, s0)
  | none, some c => let (l, t) := s0.fbkViolate u a write len c
                    (false, l, t)
  | some _, _ => let (l, t) := s0.fbkViolate u a write len 1 true
                 (false, l, t)

end Sys2Proof.Machine
end

