-- ==== Sys2Proof/Machine/Cells.lean ====
section
/-! DEFINITION. The ledger's cells as data, their images in device memory, and memory as other masters see it (spec/02_ring_ledger.md). -/

namespace Sys2Proof.Machine

open Sys2Proof

/-! ### Cells (R44 to R46) -/

def csLive : Nat := 0
def csStale : Nat := 1
def csRecovering : Nat := 2
def csVoid : Nat := 3

/-- The number of cells (R5). -/
def cellCount : Nat := 1048576

def State.cell (s : State) (n : Nat) : Cell := sparseGet {} s.ldg.cells n


/-- The effective state (R45, R46): VOID while unallocated, STALE while STICKY is set, otherwise STATE. DEDUCED, unsafe (log 140). -/
def Cell.eff (c : Cell) : Nat := if c.ownerKind == 0 then csVoid else if c.sticky then csStale else c.state

/-- The 16-byte image of a cell (R44); an unallocated cell shows STATE VOID (R46). DEDUCED, unsafe (log 140). -/
def Cell.image (c : Cell) : List Byte :=
  leBytes 8 (c.confirmedAt % 2 ^ 40 + c.limit % 2 ^ 24 * 2 ^ 40) ++
  leBytes 8 ((if c.ownerKind == 0 then csVoid else c.state % 4) + ofBool c.sticky * 2 ^ 2 + ofBool c.latchEn * 2 ^ 3 + c.cls % 2 * 2 ^ 4 + ofBool c.aged * 2 ^ 5 +
    ofBool c.damaged * 2 ^ 6 + ofBool c.filed * 2 ^ 7 + c.gen % 256 * 2 ^ 8 + c.partition % 4096 * 2 ^ 16 +
    c.standMask % 256 * 2 ^ 28 + c.slot % 4096 * 2 ^ 36 + c.ownerKind % 8 * 2 ^ 48)

/-- The cell an image spells (R44), reserved bits left out. -/
def cellOfImage (b : List Byte) : Cell :=
  let conf := fieldAt b 0 8
  let st := fieldAt b 8 8
  { confirmedAt := bitsAt conf 39 0, limit := bitsAt conf 63 40, ownerKind := bitsAt st 50 48, slot := bitsAt st 47 36,
    standMask := bitsAt st 35 28, partition := bitsAt st 27 16, gen := bitsAt st 15 8, filed := bitAt st 7,
    damaged := bitAt st 6, aged := bitAt st 5, cls := bitsAt st 4 4, latchEn := bitAt st 3, sticky := bitAt st 2,
    state := bitsAt st 1 0 }

/-! ### The cell array in device memory (R44) -/

/-- Where the cell array lies. -/
def State.cellsBase (s : State) : Nat := s.rd64 Reg.LDG_CELLS_BASE_LO Reg.LDG_CELLS_BASE_HI

/-- The cell stored: its two words in device memory are written whole (R44). -/
def State.putCell (s : State) (n : Nat) (c : Cell) : State :=
  { s with
    ldg := { s.ldg with cells := sparsePut {} s.ldg.cells n c }
    hbm := if s.cellsBase == 0 then s.hbm else s.hbm.written (s.cellsBase + 16 * n) 16 }

/-- Whether internal address `a` lies in the cell array, which the ledger alone writes. DESIGN CHOICE, unsafe (log 139). -/
def State.inCells (s : State) (a : Nat) : Bool := s.cellsBase != 0 && s.cellsBase ≤ a && a < s.cellsBase + 16 * cellCount

/-- The byte another master reads at `a`: in the cell array, of the image of the cell that lies there. DESIGN CHOICE, unsafe (log 139). -/
def State.viewByte (s : State) (a : Nat) : Byte :=
  if s.inCells a then (s.cell ((a - s.cellsBase) / 16)).image.getD ((a - s.cellsBase) % 16) 0 else s.memByte a

/-- The `n` bytes another master reads from `a`. DESIGN CHOICE, unsafe (log 139). -/
def State.viewBytes (s : State) (a n : Nat) : List Byte :=
  if s.cellsBase != 0 && s.cellsBase < a + n && a < s.cellsBase + 16 * cellCount then
    (List.range n).map fun i => s.viewByte (a + i)
  else s.memBytes a n

/-- The little-endian number of the `n` bytes another master reads from `a`. -/
def State.viewNat (s : State) (a n : Nat) : Nat := leNat (s.viewBytes a n)

end Sys2Proof.Machine
end

