-- ==== Sys2Proof/Machine/Fabric.lean ====
section
/-! DEFINITION. Device memory as the fabric and the controllers see it (spec/01_architecture.md): stacks and channels, power-down, error
correction, urgency, and the accesses of a master split and checked by its Firebreak unit (spec/16_firebreak.md). -/

namespace Sys2Proof.Machine

open Sys2Proof

/-! ### Stacks and channels (R32, R36) -/

/-- The stack of an address (R32), and its fields. -/
def stackOf (a : Nat) : Nat := a / 1024 % 2
def pdField (k : Nat) : Fld := if k == 0 then Reg.MEM_STATUS_PD0 else Reg.MEM_STATUS_PD1
def memReadyField (k : Nat) : Fld := if k == 0 then Reg.MEM_STATUS_READY0 else Reg.MEM_STATUS_READY1

/-- The channel and pseudo-channel of an address within its stack (R32): bits 15:11 XOR bits 20:16. -/
def selectionOf (a : Nat) : Nat := Nat.xor (a / 2 ^ 11 % 32) (a / 2 ^ 16 % 32)

/-- The memory channel of an address, numbered as the queues of R25 are: the stack, then the selection. DESIGN CHOICE, unsafe (log 179). -/
def channelOf (a : Nat) : Nat := stackOf a * 32 + selectionOf a

/-- The channels that the `n` bytes from `a` lie in. -/
def channelsOf (a n : Nat) : List Nat :=
  ((List.range ((a + n + 1023) / 1024 - a / 1024)).map fun i => channelOf ((a / 1024 + i) * 1024)).dedup

/-- The PD field of stack `k` for the channels in power-down: 1 while any is, 0 otherwise. -/
def State.showDown (s : State) (k : Nat) : State := s.setFld (pdField k) (ofBool (s.hbm.down.any fun c => c / 32 == k))

/-- An access occupies its channels: they leave power-down, and its stack leaves self-refresh (R36). DESIGN CHOICE, unsafe (log 27). -/
def State.touch (s : State) (a n : Nat) : State :=
  if !inDeviceMem a then s
  else
    let l := channelsOf a n
    let s1 : State := { s with hbm := { s.hbm with
      used := l.foldl (fun u c => sparsePut 0 u c (s.tick + 1)) s.hbm.used
      down := s.hbm.down.filter fun c => !l.contains c } }
    [0, 1].foldl (fun t k =>
      if l.any (fun c => c / 32 == k) && t.isSet (memReadyField k) && t.fld (pdField k) != 0 then t.showDown k else t) s1

/-- Whether a channel has had no access for `n` ticks. -/
def State.idleFor (s : State) (c n : Nat) : Bool :=
  sparseGet 0 s.hbm.used c == 0 || sparseGet 0 s.hbm.used c + n ≤ s.tick + 1

/-- Whether every channel of stack `k` has had no access for `n` ticks. -/
def State.stackIdle (s : State) (k n : Nat) : Bool := (List.range 32).all fun c => s.idleFor (32 * k + c) n

/-! ### Error correction (R33, R34) -/

/-- The parameter of an injection of detector `det` for the 64-byte block of `a`, if one strikes this read. DESIGN CHOICE, unsafe (log 29). -/
def State.blockInjection (s : State) (det a : Nat) : Option Nat × State :=
  let here (j : Injection) : Bool := j.det == det && j.addr / 64 == a / 64
  if s.hlt.pendingInj.any here || s.hlt.further.any here then s.injTake det 0 (fun _ => 1) else (none, s)

/-- An error met in a read of the block of `a`, counted, captured and reported: `e` 0 none, 1 corrected, 2 an uncorrectable error whose re-read
is good, 3 one whose re-read fails as well. -/
def State.eccFound (s : State) (a e : Nat) (injected : Bool) : State :=
  if e == 0 then s
  else if e == 1 then (s.bump Reg.MEM_ECC_CORR).logFault 1 0 0 injected
  else if e == 2 then (s.bump Reg.MEM_ECC_UNCORR).logFault 2 1 0 injected
  else
    let b := a / 64 * 64
    let s1 := (((s.bump Reg.MEM_ECC_UNCORR).wr Reg.MEM_ECC_LAST_LO (b % 2 ^ 32)).setFld Reg.MEM_ECC_LAST_HI_ADDR (b / 2 ^ 32)).raise
      Reg.MEM_ECC_LAST_HI_VALID
    s1.logFault 2 2 0 injected

/-- What the read of a 64-bit word meets: what its check bits showed already, and what befalls it, or this read of it, now. -/
def State.wordError (s : State) (w met : Nat) : Nat := max met (sparseGet 0 s.hbm.errors w)

/-- A read of the 64-byte block of `a`, each 64-bit word by its own check bits (R33): `met` says what has befallen each word, or this read of it,
beside what the check bits showed already. An injected error is one event with the block's own errors of its kind (R477). The answer lists the words whose
data is poisoned. DESIGN CHOICE, unsafe (log 29). -/
def State.eccBlock (s : State) (a : Nat) (met : List Nat) : List Nat × State :=
  let b := a / 64 * 64
  let (i1, s1) := s.blockInjection 1 b
  let (i2, s2) := s1.blockInjection 2 b
  let words := (List.range 8).map fun k => (b + 8 * k, s.wordError (b + 8 * k) (met.getD k 0))
  let s3 := (List.range 8).foldl (fun t k =>
    if met.getD k 0 == 1 || met.getD k 0 == 3 then t.keepError (b + 8 * k) (s.wordError (b + 8 * k) (met.getD k 0)) else t) s2
  let struck (w : Nat) : Bool := i1.any fun k => b + 8 * k == w
  let own := words.map fun w => (w.1, if struck w.1 then max 1 w.2 else w.2)
  match i2 with
  | none => ((own.filter fun w => w.2 == 3).map Prod.fst, own.foldl (fun t w => t.eccFound b w.2 (struck w.1)) s3)
  | some p =>
    let e := own.foldl (fun m w => max m w.2) (if p == 2 then 3 else 2)
    (if e == 3 then words.map Prod.fst else [],
     ((own.filter fun w => w.2 == 1).foldl (fun t w => t.eccFound b 1 (struck w.1)) s3).eccFound b e true)

/-- Nothing is wrong with any word of device memory, and no injected error is pending. -/
def State.eccQuiet (s : State) (ecc : List Nat) : Bool :=
  s.hbm.errors.isEmpty && s.hlt.pendingInj.isNone && s.hlt.further.isEmpty && ecc.all (· == 0)

/-- A read of `n` bytes from `a`, block by block (R17): `ecc` says what the read of each 64-bit word meets, from the first word of the first
block on. The answer says whether any of the data is poisoned. -/
def State.eccSpan (s : State) (a n : Nat) (ecc : List Nat) : Bool × State :=
  if !inDeviceMem a || s.eccQuiet ecc then (false, s)
  else
    (List.range ((a + n + 63) / 64 - a / 64)).foldl (fun p i =>
      let (bad, t) := p.2.eccBlock ((a / 64 + i) * 64) (ecc.drop (8 * i))
      (p.1 || bad.any (fun w => w < a + n && a < w + 8), t)) (false, s)

/-! ### Fenced channels (R25) -/

/-- Whether the byte at `a` lies on a channel that is fenced off. -/
def State.fencedAt (s : State) (a : Nat) : Bool := inDeviceMem a && s.hbm.fenced.contains (channelOf a)

/-- No memory channel of a span is fenced. -/
def State.spanOpen (s : State) (a n : Nat) : Bool := !inDeviceMem a || (channelsOf a n).all fun c => !s.hbm.fenced.contains c

/-- The `n` bytes from `a` cut where the channel may change: at every 1 KiB boundary (R32). -/
def channelPieces (a n : Nat) : List (Nat × Nat) :=
  (List.range ((a + n + 1023) / 1024 - a / 1024)).map fun i =>
    let from_ := max a ((a / 1024 + i) * 1024)
    (from_, min (a + n) ((a / 1024 + i + 1) * 1024) - from_)

/-- Bytes stored by the channels they lie on; a channel that is fenced off takes none (R25). DESIGN CHOICE, unsafe (log 179). -/
def State.storeMem (s : State) (a : Nat) (b : List Byte) : State :=
  let t := s.touch a b.length
  if s.spanOpen a b.length then t.memWrite a b
  else (channelPieces a b.length).foldl (fun u p => if u.fencedAt p.1 then u else u.memWrite p.1 ((b.drop (p.1 - a)).take p.2)) t

/-- What a read of `n` bytes from `a` meets: whether data comes poisoned, for an error of its words (R34) or from a channel that is fenced off (R25). -/
def State.meetRead (s : State) (a n : Nat) (ecc : List Nat) : Bool × State :=
  let t := s.touch a n
  if s.spanOpen a n then t.eccSpan a n ecc
  else (channelPieces a n).foldl (fun p x =>
    if p.2.fencedAt x.1 then (true, p.2)
    else
      let (bad, u) := p.2.eccSpan x.1 x.2 (ecc.drop (8 * (x.1 / 64 - a / 64)))
      (p.1 || bad, u)) (false, t)

/-- Bytes read from the channels they lie on: the bytes, whether data came poisoned. A channel that is fenced off gives zeros, poisoned. DESIGN
CHOICE, unsafe (log 179). DESIGN CHOICE, unsafe (log 179). -/
def State.loadMem (s : State) (a n : Nat) (ecc : List Nat) : List Byte × Bool × State :=
  let (bad, t) := s.meetRead a n ecc
  (if s.spanOpen a n then t.viewBytes a n
   else (channelPieces a n).flatMap fun p => if t.fencedAt p.1 then zeros p.2 else t.viewBytes p.1 p.2, bad, t)

/-! ### Requests that wait at the channels (R17, R39) -/

/-- The bytes that a request concerns. -/
def MemReq.size (r : MemReq) : Nat := if r.write then r.data.length else r.len

/-- Two requests concern one aligned 64-byte block. -/
def MemReq.sharesBlock (r q : MemReq) : Bool := r.addr / 64 * 64 < q.addr + q.size && q.addr / 64 * 64 < r.addr + r.size

/-- Two requests go to one memory channel. -/
def MemReq.sharesChannel (r q : MemReq) : Bool :=
  let l := channelsOf q.addr q.size
  (channelsOf r.addr r.size).any fun c => l.contains c

/-- The requests of unit `u` that wait at the channels and were checked under rules no longer in force (R442). -/
def State.oldWaiting (s : State) (u : Nat) : Nat := (s.hbm.waiting.filter fun r => r.unit == u && r.old).length

/-- A request served by its memory channels. A read answers with the data, marked where it is poisoned. -/
def State.serveReq (s : State) (r : MemReq) : State :=
  if r.write then s.storeMem r.addr r.data
  else
    let (b, bad, u) := s.loadMem r.addr r.len r.ecc
    { u with readData := leNat b, readPoison := bad }

/-- Requests, the newest first, each raised to the urgency of the later ones (`k` and those before it) that share a block with it: accesses to a
block are performed in the order of their arrival (R17). DESIGN CHOICE, unsafe (log 179). -/
def raiseShared : List MemReq → List MemReq → List MemReq
  | [], _ => []
  | r :: l, k =>
    let x := { r with level := k.foldl (fun m q => if r.sharesBlock q then min m q.level else m) r.level }
    x :: raiseShared l (x :: k)

/-- Whether the numbered request `p` is served before `q`: at a channel of both, by level, then by arrival (R39). -/
def goesFirst (p q : MemReq × Nat) : Bool :=
  (p.1.level < q.1.level || (p.1.level == q.1.level && p.2 < q.2)) && p.1.sharesChannel q.1

/-- The requests of `l` that `sel` names and all that are served before one of them. -/
def dueWith (l : List (MemReq × Nat)) (sel : MemReq × Nat → Bool) : Nat → List (MemReq × Nat)
  | 0 => l.filter sel
  | f + 1 =>
    let k := dueWith l sel f
    l.filter fun p => k.contains p || k.any fun q => goesFirst p q

/-- The waiting requests that `sel` names served, with all that come before one of them: by level, then by arrival (R39). -/
def State.serveDue (s : State) (sel : MemReq × Nat → Bool) : State :=
  let l := s.hbm.waiting.zipIdx
  let k := dueWith l sel l.length
  ([1, 2, 3].flatMap fun v => k.filter fun p => p.1.level == v).foldl (fun t p => t.serveReq p.1)
    { s with hbm := { s.hbm with waiting := (l.filter fun p => !k.contains p).map Prod.fst } }

/-- The waiting requests once `r` has arrived behind them. -/
def State.raisedFor (s : State) (r : MemReq) : State :=
  { s with hbm := { s.hbm with waiting := (raiseShared s.hbm.waiting.reverse [r]).reverse } }

/-- A request reaches its channels and is about to be served: those that come before it are served first. -/
def State.arrive (s : State) (r : MemReq) : State :=
  if s.hbm.waiting.isEmpty then s
  else (s.raisedFor r).serveDue fun p => goesFirst p (r, s.hbm.waiting.length)

/-! ### Urgency (R39) -/

/-- The urgency level of a unit's requests: fills of a scan pool that is low 1; other fills, ledger, Lookout, Blaze and Ranger 2; the rest 3.
DESIGN CHOICE, unsafe (log 28). -/
def urgency (u : Nat) (low : Bool) : Nat :=
  if low then 1
  else if u == fbkCnp || u == fbkLdg || u == fbkLko || u == fbkBlz || within 2 4 u then 2
  else 3

/-- Whether the scan pool of output `n` holds less than a quarter of its capacity. DESIGN CHOICE, unsafe (log 28). -/
def State.poolLow (s : State) (n : Nat) : Bool := (sparseGet {} s.outs n).poolMin < 384

/-- A request that Firebreak allowed reaches its channels: it is served, after those that come before it, or it waits. `low`: it fills a low scan
pool. DESIGN CHOICE, unsafe (log 179). -/
def State.askMem (s : State) (u a : Nat) (write : Bool) (data : List Byte) (len : Nat) (ecc : List Nat) (held low : Bool) : State :=
  let r : MemReq := { unit := u, addr := a, write := write, data := data, len := len, ecc := ecc, level := urgency u low, since := s.tick }
  if !inDeviceMem a then s.serveReq r
  else
    let l := channelsOf a r.size
    if held || l.any (fun c => !s.queueTakes 0x0A c && !s.hbm.fenced.contains c) then
      let t := s.raisedFor r
      { t with hbm := { t.hbm with waiting := t.hbm.waiting ++ [r] } }
    else (s.arrive r).serveReq r

/-! ### Accesses of the engines (R16, R437 to R439) -/

/-- An access cut where it would cross a 4 KiB boundary, as every master cuts it (R439). -/
def accessPieces (a n : Nat) : List (Nat × Nat) :=
  (List.range ((a + n + 4095) / 4096 - a / 4096)).map fun i =>
    let from_ := max a ((a / 4096 + i) * 4096)
    (from_, min (a + n) ((a / 4096 + i + 1) * 4096) - from_)

/-- An engine's own request, as the waiting ones are compared with it. -/
def engineReq (u level a n : Nat) : MemReq := { unit := u, addr := a, len := n, level := level }

/-- Bytes written by a unit's master: each access is checked on its first byte, and a denied one is dropped. The answer says whether all were
allowed, and whether a violation became LASTING. DESIGN CHOICE, unsafe (log 179). -/
def State.unitStore (s : State) (u a : Nat) (b : List Byte) : Bool × Bool × State :=
  (accessPieces a b.length).foldl (fun p x =>
    let (ok, l, t) := p.2.2.fbkCheck u x.1 true x.2
    (p.1 && ok, p.2.1 || l,
      if ok then (t.arrive (engineReq u (urgency u false) x.1 x.2)).storeMem x.1 ((b.drop (x.1 - a)).take x.2) else t)) (true, false, s)

/-- Bytes read by a unit's master at an urgency level: each access is checked on its first byte, and a denied one returns zero (R438). `ecc` says
what the read of each 64-bit word meets. The answer gives the bytes, whether all accesses were allowed, whether a violation became LASTING, and whether data came
poisoned (R34). DESIGN CHOICE, unsafe (log 179). -/
def State.loadAt (s : State) (u level a n : Nat) (ecc : List Nat) : List Byte × Bool × Bool × Bool × State :=
  (accessPieces a n).foldl (fun p x =>
    let (ok, l, t) := p.2.2.2.2.fbkCheck u x.1 false x.2
    if ok then
      let (b, bad, t1) := (t.arrive (engineReq u level x.1 x.2)).loadMem x.1 x.2 (ecc.drop (8 * (x.1 / 64 - a / 64)))
      (p.1 ++ b, p.2.1, p.2.2.1, p.2.2.2.1 || bad, t1)
    else (p.1 ++ zeros x.2, false, p.2.2.1 || l, p.2.2.2.1, t)) ([], true, false, false, s)

/-- Bytes read by a unit's master, at the urgency of its requests. -/
def State.unitLoad (s : State) (u a n : Nat) : List Byte × Bool × Bool × Bool × State := s.loadAt u (urgency u false) a n []

/-- A LASTING violation of a Ranger unit halts its core (R463). -/
def State.haltUnit (s : State) (u : Nat) : State :=
  if within 2 4 u then { s with hlt := { s.hlt with unitHalted := (u - 2) :: s.hlt.unitHalted } } else s

/-- Bytes read from memory by the firmware that runs commands, on Ranger A0; poisoned bytes are taken as read. DESIGN CHOICE, unsafe (log 217). -/
def State.fwRead (s : State) (a n : Nat) : List Byte × State :=
  let (b, _, l, _, t) := s.unitLoad fbkA0 a n
  (b, if l then t.haltUnit fbkA0 else t)

/-- Bytes written to memory by the firmware that runs commands. DESIGN CHOICE, unsafe (log 217). -/
def State.fwWrite (s : State) (a : Nat) (b : List Byte) : State :=
  let (_, l, t) := s.unitStore fbkA0 a b
  if l then t.haltUnit fbkA0 else t

/-- Bytes read by FBK_CNP to fill the scan pool of output `n` (R39). -/
def State.fillLoad (s : State) (n a len : Nat) : List Byte × Bool × Bool × Bool × State := s.loadAt fbkCnp (urgency fbkCnp (s.poolLow n)) a len []

end Sys2Proof.Machine
end

