-- ==== Sys2Proof/Machine/Links.lean ====
section
/-! DEFINITION. The sending side of the Kiene link (R301, R302, R305, R307, R309) and of the pair link's messages (R341, R342).
Flits and ordered sets are emitted as they enter the lane; the coding of blocks, SKIP and IDLE is not shown. -/

namespace Sys2Proof.Machine

open Sys2Proof

def State.lane (s : State) (i : Nat) : LaneSt := sparseGet {} s.lanes i
def State.setLane (s : State) (i : Nat) (x : LaneSt) : State := { s with lanes := sparsePut {} s.lanes i x }
def State.cap (s : State) (i : Nat) : CapSt := sparseGet {} s.caps i
def State.setCap (s : State) (i : Nat) (x : CapSt) : State := { s with caps := sparsePut {} s.caps i x }

/-- The KLN_ index of capture input i and of pair lane k (R294). -/
def capLane (i : Nat) : Nat := 32 + i
def pairLane (k : Nat) : Nat := 48 + k

/-- KLN_STAT[STATE] ACTIVE (R313). -/
def lsActive : Nat := 4

def State.laneActive (s : State) (i : Nat) : Bool := s.fld (Reg.KLN_STAT_STATE i) == lsActive

/-! ### Ordered sets and flits -/

/-- An ordered set (R301): the type byte, bytes 1 to 6, the CRC-8. -/
def orderSet (type : Nat) (b : List Byte) : List Byte :=
  let l := leBytes 1 type ++ padTo 6 b
  l ++ leBytes 1 (crc8 l)

/-- The bytes of a flit (R305, R307), with REPLAY set or clear. -/
def Flit.bytes (f : Flit) (replay : Bool) : List Byte :=
  let l := padTo 2044 (pack [(2, f.seq), (1, f.type), (1, ofBool f.last + 2 * ofBool replay), (2, f.payload.length), (2, f.tag), (2, f.line),
    (2, f.first), (2, f.pixels), (2, 0)] ++ f.payload)
  l ++ leBytes 4 (crc32 l)

/-- The replay buffer of lane `i`, with OUTSTANDING following. -/
def State.setReplay (s : State) (i : Nat) (l : List Flit) : State :=
  (s.setLane i { s.lane i with out := l }).setFld (Reg.KLN_REPLAY_OUTSTANDING i) l.length

/-- The time of a flit on a lane (R312), in ticks. DEDUCED, unsafe (log 86). -/
def flitTicks : Nat := 330

/-- A new flit takes the next SEQ and is sent, behind those still on the lane. DEDUCED, unsafe (log 86). -/
def State.transmit (s : State) (i : Nat) (f : Flit) : State :=
  let seq := s.fld (Reg.KLN_REPLAY_TX_SEQ i)
  let x := s.lane i
  let g := { f with seq := seq, sentAt := max s.tick x.freeAt + flitTicks }
  ((((s.setLane i { x with freeAt := g.sentAt }).setReplay i (x.out ++ [g])).setFld (Reg.KLN_REPLAY_TX_SEQ i) (wrapAdd 16 seq 1)).bumpWrap
    (Reg.KLN_CNT_FLITS_TX i)).emit (.flit i (g.bytes false))

/-- Whether the queue that lane `i` sends through accepts entries: egress transmit or pair link (R23, R25). -/
def State.txTakes (s : State) (i : Nat) : Bool :=
  if i < 32 then s.queueTakes 0x03 i else if i < 48 then true else s.queueTakes 0x06 (2 * (i - 48) + 1)

/-- Whether the queue that lane `i` receives into accepts entries: back-channel, capture or pair link (R23, R25). -/
def State.rxTakes (s : State) (i : Nat) : Bool :=
  if i < 32 then s.queueTakes 0x04 i else if i < 48 then s.queueTakes 0x05 (i - 32) else s.queueTakes 0x06 (2 * (i - 48))

/-- A flit handed to an ACTIVE lane whose queue accepts entries: sent while fewer than 16 are outstanding (R309), else queued. -/
def State.sendFlit (s : State) (i : Nat) (f : Flit) : State :=
  if !s.laneActive i || !s.txTakes i then s
  else if (s.lane i).out.length < 16 && (s.lane i).queue.isEmpty then s.transmit i f
  else s.setLane i { s.lane i with queue := (s.lane i).queue ++ [f] }

/-- Queued flits follow as the replay buffer has room. DESIGN CHOICE, unsafe (log 91). -/
def State.pumpLane (s : State) (i : Nat) : Nat → State
  | 0 => s
  | n + 1 =>
    match (s.lane i).queue with
    | [] => s
    | f :: t => if (s.lane i).out.length < 16 then ((s.setLane i { s.lane i with queue := t }).transmit i f).pumpLane i n else s

/-- A MSG flit with one message (R320). DESIGN CHOICE, unsafe (log 91). -/
def State.sendMsg (s : State) (i type : Nat) (body : List Byte) : State :=
  s.sendFlit i { type := 2, payload := pack [(1, type), (1, body.length)] ++ body }

/-! ### Pair messages (R341, R342, R346) -/

/-- The pair lanes that are ACTIVE. -/
def State.pairLanes (s : State) : List Nat := (List.range 4).filter fun k => s.laneActive (pairLane k)

/-- A message with its header. -/
def PairMsg.bytes (m : PairMsg) (flags : Nat) : List Byte := pack [(4, m.pseq), (1, m.type), (1, flags), (2, m.body.length)] ++ m.body

/-- The fill of the forwarding queue and THROTTLE (R346): set past 75 % of 16 MiB, cleared below 50 %. -/
def State.settleThrottle (s : State) : State :=
  let n := (List.range 4).foldl (fun a k => (s.lane (pairLane k)).queue.foldl (fun b f => b + f.payload.length) a) 0
  let kib := min 16384 (ceilDiv n 1024)
  let s1 := s.setFld Reg.PAIR_MIRROR_LEVEL_KIB kib
  if s.fld Reg.PAIR_STATUS_ROLE != 1 then s1.setFld Reg.PAIR_MIRROR_THROTTLE 0
  else if 12288 < kib then s1.setFld Reg.PAIR_MIRROR_THROTTLE 1
  else if kib < 8192 then s1.setFld Reg.PAIR_MIRROR_THROTTLE 0
  else s1

/-- A message leaves on one ACTIVE pair lane, chosen by turn. DESIGN CHOICE, unsafe (log 94). -/
def State.pairFlit (s : State) (m : PairMsg) (flags : Nat) : State :=
  let l := s.pairLanes
  if l.isEmpty then s
  else (s.sendFlit (pairLane (l.getD (m.pseq % l.length) 0)) { type := 3, payload := m.bytes flags }).settleThrottle

/-- The newest messages of a log, 16 MiB at most (R342). -/
def trimLog (room : Nat) : List PairMsg → List PairMsg
  | [] => []
  | m :: t => if 8 + m.body.length ≤ room then m :: trimLog (room - (8 + m.body.length)) t else []

/-- An ordered message: it takes the next PSEQ, is kept for retransmission, and is sent. The log lists the newest first. -/
def State.pairOrdered (s : State) (type : Nat) (body : List Byte) : State :=
  let q := s.rd Reg.PAIR_PSEQ_TX
  let m : PairMsg := { pseq := q, type := type, body := body }
  ({ s with pair := { s.pair with log := trimLog (2 ^ 24) (m :: s.pair.log) } }.wr Reg.PAIR_PSEQ_TX (wrapAdd 32 q 1)).pairFlit m 0

/-- Forwarded by R343: an ordered message while forwarding runs. -/
def State.pairSend (s : State) (type : Nat) (body : List Byte) : State := if s.pair.mirroring then s.pairOrdered type body else s

/-- An unordered message. -/
def State.pairLoose (s : State) (type : Nat) (body : List Byte) : State := s.pairFlit { pseq := 0, type := type, body := body } 0

end Sys2Proof.Machine
end

