-- ==== Sys2Proof/Machine/Lcs.lean ====
section
/-! DEFINITION. The Lysman command set (spec/14_command_set.md) and the mailboxes' states (spec/13_ranger_mailboxes.md):
the opcode map, the checks of a posted message's header, the answer of a command, the order of a command's own checks. -/

namespace Sys2Proof.Machine

open Sys2Proof

/-- The kind of a command (R406). -/
inductive LcsKind where
  | f | q | l
  deriving DecidableEq, Repr

/-- A row of the opcode map (R407): opcode, kind, whether it is in the recovery subset (R409), the message length its
layout gives when no count field enters it, and for a layout with a variable part the offset, size and unit of the count. -/
structure LcsRow where
  op : Nat
  kind : LcsKind
  recovery : Bool
  fixed : Nat
  countOff : Nat := 0
  countSize : Nat := 0
  unit : Nat := 0
  deriving DecidableEq, Repr

def lcsRowsSys : List LcsRow := [
  ⟨0x0101, .q, true, 16, 0, 0, 0⟩, ⟨0x0102, .q, true, 16, 0, 0, 0⟩, ⟨0x0103, .l, false, 24, 0, 0, 0⟩,
  ⟨0x0104, .l, true, 20, 0, 0, 0⟩, ⟨0x0105, .f, false, 24, 0, 0, 0⟩, ⟨0x0106, .f, false, 32, 0, 0, 0⟩,
  ⟨0x0107, .f, false, 20, 0, 0, 0⟩, ⟨0x0108, .q, false, 20, 0, 0, 0⟩, ⟨0x0109, .l, false, 20, 0, 0, 0⟩]

def lcsRowsLdgGate : List LcsRow := [
  ⟨0x0201, .f, false, 28, 0, 0, 0⟩, ⟨0x0202, .f, false, 24, 0, 0, 0⟩, ⟨0x0203, .f, false, 36, 0, 0, 0⟩,
  ⟨0x0204, .f, false, 28, 0, 0, 0⟩, ⟨0x0205, .q, false, 24, 0, 0, 0⟩, ⟨0x0206, .f, false, 24, 0, 0, 0⟩,
  ⟨0x0207, .f, false, 32, 0, 0, 0⟩, ⟨0x0208, .f, false, 20, 0, 0, 0⟩, ⟨0x0209, .q, false, 24, 0, 0, 0⟩,
  ⟨0x020A, .f, false, 20, 0, 0, 0⟩, ⟨0x0301, .f, false, 24, 20, 2, 16⟩, ⟨0x0302, .f, false, 20, 0, 0, 0⟩,
  ⟨0x0303, .q, false, 28, 0, 0, 0⟩, ⟨0x0304, .f, false, 64, 0, 0, 0⟩, ⟨0x0305, .f, false, 24, 0, 0, 0⟩]

def lcsRowsOut : List LcsRow := [
  ⟨0x0401, .f, false, 24, 0, 0, 0⟩, ⟨0x0402, .f, false, 28, 0, 0, 0⟩, ⟨0x0403, .f, false, 20, 0, 0, 0⟩,
  ⟨0x0404, .f, false, 24, 0, 0, 0⟩, ⟨0x0405, .q, false, 20, 0, 0, 0⟩, ⟨0x0411, .f, false, 48, 0, 0, 0⟩,
  ⟨0x0412, .f, false, 20, 0, 0, 0⟩, ⟨0x0413, .f, false, 416, 0, 0, 0⟩, ⟨0x0414, .f, false, 32, 0, 0, 0⟩,
  ⟨0x0415, .f, false, 20, 0, 0, 0⟩]

def lcsRowsLkoDec : List LcsRow := [
  ⟨0x0501, .f, false, 32, 16, 4, 28⟩, ⟨0x0502, .f, false, 24, 0, 0, 0⟩, ⟨0x0503, .f, false, 32, 16, 4, 12⟩,
  ⟨0x0504, .q, false, 24, 0, 0, 0⟩, ⟨0x0601, .f, false, 48, 0, 0, 0⟩, ⟨0x0602, .f, false, 20, 0, 0, 0⟩,
  ⟨0x0603, .f, false, 20, 18, 2, 1⟩, ⟨0x0604, .f, false, 32, 0, 0, 0⟩, ⟨0x0605, .q, false, 20, 0, 0, 0⟩,
  ⟨0x0606, .f, false, 20, 0, 0, 0⟩]

def lcsRowsEncPkt : List LcsRow := [
  ⟨0x0701, .f, false, 56, 0, 0, 0⟩, ⟨0x0702, .f, false, 20, 0, 0, 0⟩, ⟨0x0703, .f, false, 28, 0, 0, 0⟩,
  ⟨0x0704, .f, false, 20, 0, 0, 0⟩, ⟨0x0705, .q, false, 20, 0, 0, 0⟩, ⟨0x0706, .f, false, 20, 0, 0, 0⟩,
  ⟨0x0801, .f, false, 20, 17, 1, 20⟩, ⟨0x0802, .f, false, 68, 0, 0, 0⟩, ⟨0x0803, .f, false, 56, 0, 0, 0⟩,
  ⟨0x0804, .f, false, 80, 0, 0, 0⟩, ⟨0x0805, .q, false, 24, 0, 0, 0⟩, ⟨0x0806, .q, false, 20, 0, 0, 0⟩]

def lcsRowsTimLink : List LcsRow := [
  ⟨0x0901, .f, false, 28, 0, 0, 0⟩, ⟨0x0902, .f, false, 20, 0, 0, 0⟩, ⟨0x0903, .f, false, 28, 0, 0, 0⟩,
  ⟨0x0904, .q, false, 20, 0, 0, 0⟩, ⟨0x0A01, .f, false, 20, 0, 0, 0⟩, ⟨0x0A02, .q, false, 20, 0, 0, 0⟩,
  ⟨0x0A03, .f, false, 32, 0, 0, 0⟩, ⟨0x0A04, .f, false, 20, 0, 0, 0⟩, ⟨0x0A05, .q, false, 20, 0, 0, 0⟩,
  ⟨0x0B01, .f, false, 24, 0, 0, 0⟩, ⟨0x0B02, .l, false, 20, 0, 0, 0⟩, ⟨0x0B03, .l, false, 20, 0, 0, 0⟩,
  ⟨0x0B04, .q, false, 20, 0, 0, 0⟩]

def lcsRowsRing : List LcsRow := [
  ⟨0x0C01, .l, false, 32, 0, 0, 0⟩, ⟨0x0C02, .l, false, 20, 0, 0, 0⟩, ⟨0x0D01, .f, false, 24, 0, 0, 0⟩,
  ⟨0x0D02, .q, false, 16, 0, 0, 0⟩, ⟨0x0D03, .q, false, 16, 0, 0, 0⟩, ⟨0x0E01, .q, true, 20, 0, 0, 0⟩,
  ⟨0x0F01, .q, true, 16, 0, 0, 0⟩, ⟨0x0F02, .l, true, 20, 0, 0, 0⟩, ⟨0x0F03, .l, true, 32, 0, 0, 0⟩,
  ⟨0x0F04, .l, true, 64, 0, 0, 0⟩]

def lcsRowsBlz : List LcsRow := [
  ⟨0x1001, .q, true, 16, 0, 0, 0⟩, ⟨0x1002, .q, true, 28, 0, 0, 0⟩, ⟨0x1003, .l, true, 20, 0, 0, 0⟩,
  ⟨0x1004, .l, false, 28, 17, 1, 8⟩, ⟨0x1005, .l, false, 32, 0, 0, 0⟩, ⟨0x1006, .l, false, 20, 0, 0, 0⟩]

def lcsRowsStart : List LcsRow := [
  ⟨0x1101, .q, true, 16, 0, 0, 0⟩, ⟨0x1102, .l, true, 20, 0, 0, 0⟩, ⟨0x1103, .q, true, 16, 0, 0, 0⟩,
  ⟨0x1104, .l, true, 32, 0, 0, 0⟩, ⟨0x1105, .l, false, 20, 0, 0, 0⟩, ⟨0x1201, .l, false, 32, 0, 0, 0⟩,
  ⟨0x1202, .l, false, 32, 0, 0, 0⟩, ⟨0x1203, .l, false, 36, 0, 0, 0⟩, ⟨0x1204, .q, false, 16, 0, 0, 0⟩]

/-- The opcode map (R407, and the chapters that give the commands of the last six ranges). -/
def lcsMap : List LcsRow :=
  lcsRowsSys ++ lcsRowsLdgGate ++ lcsRowsOut ++ lcsRowsLkoDec ++ lcsRowsEncPkt ++ lcsRowsTimLink ++ lcsRowsRing ++ lcsRowsBlz ++ lcsRowsStart

/-- A mailbox's state codes (R375). -/
def mbIdle : Nat := 0
def mbPosted : Nat := 1
def mbBusy : Nat := 2
def mbDone : Nat := 3

def State.mbState (s : State) (m : Nat) : Nat := s.fld (Reg.MBX_CMPL_STATE m)
def State.mbox (s : State) (m : Nat) : MailboxSt := sparseGet {} s.mboxes m
def State.setMbox (s : State) (m : Nat) (b : MailboxSt) : State := { s with mboxes := sparsePut {} s.mboxes m b }

/-- `n` bytes of the message area of mailbox `m` from offset `off` (R375, R376). DESIGN CHOICE, unsafe (log 5). -/
def State.areaBytes (s : State) (m off n : Nat) : List Byte := sparseRange 0 s.area (4096 * m + off) n

/-- Bytes written into the message area of mailbox `m` from offset 0. -/
def State.areaWrite (s : State) (m : Nat) (b : List Byte) : State :=
  { s with area := sparsePutRange 0 s.area (4096 * m) b }

/-- A response header (R392). -/
def respHeader (op tag len flags part status detail : Nat) : List Byte :=
  pack [(2, op), (2, tag), (2, len), (2, flags), (2, part), (2, status), (2, detail), (2, 0)]

/-- The response written into the area, then DONE and TAG set, and vector 1 + m requested when the doorbell asked for it
(R376, R377, R392). `hw` marks a response written by the mailbox hardware (R379, R386). -/
def State.complete (s : State) (m : Nat) (hw : Bool) (more : Bool) (status detail : Nat) (body : List Byte) : State :=
  let h := s.areaBytes m 0 16
  let resp := respHeader (fieldAt h 0 2) (fieldAt h 2 2) (16 + body.length) (ofBool hw + 2 * ofBool more) (fieldAt h 8 2)
    status detail ++ body
  let s1 := ((((s.areaWrite m resp).raise (Reg.MBX_CMPL_DONE m)).setFld (Reg.MBX_CMPL_HW m) (ofBool hw)).setFld
    (Reg.MBX_CMPL_STATE m) mbDone).setFld (Reg.MBX_CMPL_TAG m) (fieldAt h 2 2)
  if (s.mbox m).irq then s1.msixRequest (1 + m) else s1

/-! ### Status codes (R394) -/

def stOk : Nat := 0
def stInvalid : Nat := 1
def stPartition : Nat := 2
def stNoSpace : Nat := 3
def stBudget : Nat := 4
def stBusy : Nat := 5
def stRange : Nat := 6
def stTimeout : Nat := 7
def stRole : Nat := 8
def stAborted : Nat := 9
def stFormat : Nat := 10
def stUnknown : Nat := 11
def stRecovery : Nat := 12
def stLocked : Nat := 13

/-- DETAIL where no field is at fault (R392). -/
def noField : Nat := 0xFFFF

/-! ### The header checks of a posted message (R393) -/

/-- The device's role (R336). -/
def State.role (s : State) : Nat := s.fld Reg.PAIR_STATUS_ROLE

/-- Roles in which a state-changing command is accepted (R345): SOLO and ACTIVE. -/
def State.drives (s : State) : Bool := s.role == 0 || s.role == 1

/-- The length a row's layout gives for the message in mailbox `m` (R391). -/
def LcsRow.length (r : LcsRow) (msg : List Byte) : Nat := r.fixed + r.unit * fieldAt msg r.countOff r.countSize

/-- R393 steps 2 to 7 on the message in mailbox `m`: the status and DETAIL of the first check that fails. -/
def State.headerCheck (s : State) (m : Nat) : Option (Nat × Nat) :=
  let h := s.areaBytes m 0 16
  let len := fieldAt h 4 2
  if !within 16 4096 len then some (stFormat, 4)
  else if fieldAt h 6 2 != 0 then some (stFormat, 6)
  else if fieldAt h 10 6 != 0 then some (stFormat, 10)
  else if fieldAt h 8 2 == 0 || fieldAt h 8 2 != s.fld (Reg.MBX_BIND_PARTITION m) then some (stPartition, noField)
  else match lcsMap.find? fun r => r.op == fieldAt h 0 2 with
    | none => some (stUnknown, noField)
    | some r =>
      if s.isSet Reg.MBX_STATUS_RECOVERY && !r.recovery then some (stRecovery, noField)
      else if len < r.fixed || len != r.length (s.areaBytes m 0 len) then some (stFormat, 4)
      else if (r.kind == .f || (r.op == 0x0B02 && !bitAt (fieldAt (s.areaBytes m 16 1) 0 1) 0)) && !s.drives then some (stRole, noField)
      else none

/-! ### A command's answer -/

/-- What a command's own part sees: the mailbox, the sending partition, the whole message. -/
structure Req where
  mbx : Nat
  part : Nat
  msg : List Byte
  serial : Nat

def Req.u8 (r : Req) (o : Nat) : Nat := fieldAt r.msg o 1
def Req.u16 (r : Req) (o : Nat) : Nat := fieldAt r.msg o 2
def Req.u32 (r : Req) (o : Nat) : Nat := fieldAt r.msg o 4
def Req.u64 (r : Req) (o : Nat) : Nat := fieldAt r.msg o 8
def Req.bytes (r : Req) (o n : Nat) : List Byte := (r.msg.drop o).take n
def Req.waiter (r : Req) : Waiter := ⟨r.mbx, r.serial⟩

/-- How a command ends: performed with a response body (with MORE when it was cut, R405), refused with a status and
DETAIL, refused with a body of its own, or waiting in BUSY. -/
inductive Resp where
  | ok (body : List Byte)
  | more (body : List Byte)
  | err (status detail : Nat)
  | fail (status detail : Nat) (body : List Byte)
  | wait

/-- The place of a status in the order of R393 step 8. DEDUCED, unsafe (log 189). -/
def checkRank (st : Nat) : Nat :=
  if st == stRange then 0 else if st == stPartition then 1 else if st == stInvalid then 2 else if st == stLocked then 3
  else if st == stBusy then 4 else if st == stNoSpace then 5 else 6

/-- The check that fails first in the order of R393 step 8: by its status, and among those of one status by its place in the list. DEDUCED, unsafe (log 189). -/
def firstBad : List (Bool × Nat × Nat) → Option (Nat × Nat)
  | [] => none
  | (b, st, d) :: t =>
    match firstBad t with
    | none => if b then some (st, d) else none
    | some x => if b && checkRank st ≤ checkRank x.1 then some (st, d) else some x

/-- A command refused by its first failing check, and otherwise performed. -/
def State.refuseOr (s : State) (l : List (Bool × Nat × Nat)) (k : State × Resp) : State × Resp :=
  match firstBad l with
  | some (st, d) => (s, .err st d)
  | none => k

/-- A forwarded command in parts of at most 2,000 bytes: each part is its whole length, its offset and its bytes. DESIGN CHOICE, unsafe (log 93). -/
def State.sendParts (s : State) (whole : List Byte) : State :=
  (List.range (ceilDiv whole.length 2000)).foldl (fun t i =>
    t.pairSend 0x02 (pack [(2, whole.length), (2, 2000 * i)] ++ (whole.drop (2000 * i)).take 2000)) s

/-- An accepted command of kind F is forwarded after its response, with that response (R343, R406): the message, the status and
the response body. -/
def State.forwardLcs (s : State) (msg : List Byte) (status : Nat) (body : List Byte) : State :=
  s.sendParts (leBytes 2 msg.length ++ msg ++ leBytes 2 status ++ body)

/-! ### Roles (R336, R337) and mirror divergence (R344) -/

/-- A firmware event reaches Blaze (R486, TYPE 4): `kind` names it for its code, `low` are bits [15:0] of SOURCE. DESIGN CHOICE, safe (log 19). -/
def State.blzEvent (s : State) (kind low : Nat) : State :=
  let code := Config.eventCode kind % 65536
  s.nextFree.blzTrigger 4 (code * 65536 + low) 0 (leBytes 2 code ++ padTo 14 (Config.eventData s.fresh))

/-- ROLE, PHASE and CAUSE set; PAIR_ROLE is raised where ROLE or PHASE changes, and a role change reaches Blaze (R486). -/
def State.setRole (s : State) (role phase cause : Nat) (blind : Bool := false) : State :=
  let old := s.role
  let changed := old != role || s.fld Reg.PAIR_STATUS_PHASE != phase
  let s1 := (s.setFld Reg.PAIR_STATUS_ROLE role).setFld Reg.PAIR_STATUS_PHASE phase
  let s2 := if old == role then s1 else (s1.setFld Reg.PAIR_STATUS_CAUSE cause).blzEvent 2 role
  if changed then s2.notice 0x0B01 0 [0] (pack [(1, old), (1, role), (1, phase), (1, cause), (1, ofBool blind), (3, 0)]) true else s2

/-- What a standby held of the mirror is dropped. -/
def State.dropMirror (s : State) : State :=
  { s with pair := { s.pair with held := [], gapAt := none, lcsWait := [], waits := [], gather := [], aligned := false } }.setFld
    Reg.PAIR_STATUS_CROSSCHECK 0

/-- A mirror divergence: the standby becomes BLIND_STANDBY and resynchronises. -/
def State.diverge (s : State) : State :=
  if s.role == 2 then ((s.raise Reg.PAIR_EVT_DIVERGE).dropMirror).setRole 3 4 13 else s

/-- The mailbox number of a command that the standby executes for the pair link. -/
def mirrorMbx : Nat := 256

/-- A forwarded command that waited has ended on the standby: its status and body must equal the active's. -/
def State.mirrorEnd (s : State) (serial status : Nat) (body : List Byte) : State :=
  match s.pair.waits.find? fun x => x.1 == serial with
  | none => s
  | some (_, st, b) =>
    let t := { s with pair := { s.pair with waits := s.pair.waits.filter fun x => x.1 != serial } }
    if st == status && b == body then t else t.diverge

/-! ### The order of queued commands (R418) -/

def regionBase (r : Nat) : Nat := 0x800000 + 32 * r

def ctrlOut (c : Nat) : Nat := bitsAt c 4 0

def State.cmt (s : State) (n : Nat) : CommitSt := sparseGet {} s.commits n
def State.layer (s : State) (n k : Nat) : LayerSt := sparseGet {} (s.cmt n).layers k

/-- The outputs on which a committed layer shows a source. DEDUCED, unsafe (log 197). -/
def State.shownOn (s : State) (source id : Nat) : List Nat :=
  (List.range 32).filter fun n => (List.range 8).any fun k =>
    s.isSet (Reg.CNP_LAYER_CFG_EN n k) && s.fld (Reg.CNP_LAYER_CFG_SOURCE n k) == source && (s.layer n k).stage.id == id

/-- The outputs that the work of a command in mailbox `m` concerns (R418): those it names, and those that the session, region, lane or input it names
stands for; none where it concerns no output more than another. DEDUCED, unsafe (log 197). -/
def State.workOutputs (s : State) (m : Nat) : List Nat :=
  let u (o n : Nat) : Nat := fieldAt (s.areaBytes m o n) 0 n
  let op := u 0 2
  let regions (l : List Nat) : List Nat := l.map fun r => ctrlOut (s.rd (regionBase (r % 16384)))
  let coded (n : Nat) : List Nat := [s.fld (Reg.ENC_SES_CTRL_OUTPUT (n % 32))]
  let on (open_ pipe : Nat → Fld) (count p : Nat) : List Nat := (List.range count).filter fun n => s.isSet (open_ n) && s.fld (pipe n) == p
  if [0x0301, 0x0302, 0x0303, 0x0305, 0x0402, 0x0403, 0x0404, 0x0405, 0x0411, 0x0412, 0x0413, 0x0414, 0x0415, 0x0701].contains op then
    [u 16 1 % 32]
  else if op == 0x0401 then (List.range 32).filter fun n => s.fld (Reg.CNP_OUT_CTRL_STATE n) != 0 && s.fld (Reg.CNP_OUT_CTRL_STAND n) == u 16 1
  else if [0x0702, 0x0703, 0x0704, 0x0705, 0x0804].contains op then coded (u 16 2)
  else if op == 0x0706 then (on Reg.ENC_SES_CTRL_OPEN Reg.ENC_SES_CTRL_PIPE 32 (u 16 1)).flatMap coded
  else if [0x0602, 0x0603, 0x0604, 0x0605, 0x0802, 0x0805].contains op then s.shownOn 1 (u 16 2)
  else if op == 0x0606 then (on Reg.DEC_SES_CTRL_OPEN Reg.DEC_SES_CTRL_PIPE 128 (u 16 1)).flatMap fun n => s.shownOn 1 n
  else if op == 0x0803 then if u 16 2 < 0x8000 then s.shownOn 1 (u 16 2) else coded (u 16 2)
  else if op == 0x0A01 || op == 0x0A02 then
    let lane := u 16 1
    if lane < 32 then [lane] else if lane < 48 then s.shownOn 2 (lane - 32) else []
  else if op == 0x0A03 || op == 0x0A04 || op == 0x0A05 then s.shownOn 2 (u 16 1)
  else if op == 0x0501 then (List.range (min (u 16 4) 100)).map fun i => ctrlOut (u (36 + 28 * i) 4)
  else if op == 0x0502 then regions ((List.range (min (u 20 4) 16384)).map fun i => u 16 4 + i)
  else if op == 0x0503 then regions ((List.range (min (u 16 4) 200)).map fun i => u (32 + 12 * i) 4)
  else if op == 0x0504 then regions ((List.range (min (u 20 4) 240)).map fun i => u 16 4 + i)
  else []

/-- The class of the message in mailbox `m` as queued work: safety where it concerns a safety-class output, standard where it concerns
others only, none where it concerns no output. OUT_ENABLE has the class that it gives its output. DEDUCED, unsafe (log 197). -/
def State.workClass (s : State) (m : Nat) : Option Bool :=
  match s.workOutputs m with
  | [] => none
  | l =>
    if fieldAt (s.areaBytes m 0 2) 0 2 == 0x0402 then some (fieldAt (s.areaBytes m 19 1) 0 1 == 1)
    else some (l.any fun n => s.isSet (Reg.CNP_OUT_CTRL_CLASS n))

/-- Whether the message posted in mailbox `a` goes before the one in `b`: safety class before standard, each class in order of arrival. DEDUCED, unsafe (log 197). -/
def State.goesBefore (s : State) (a b : Nat) : Bool :=
  a != b && s.mbState a == mbPosted &&
    match s.workClass a, s.workClass b with
    | some x, some y => if x == y then s.arrivals.idxOf a < s.arrivals.idxOf b else x
    | _, _ => false

/-- Whether no posted message goes before the one in mailbox `m`. -/
def State.workNext (s : State) (m : Nat) : Bool := (List.range 8).all fun a => !s.goesBefore a m

/-- Whether the message in mailbox `m` is posted with opcode `op` while Lysman firmware is ready and neither Ranger S nor A0 is halted (R372, R463),
with no posted message that goes before it (R418): it is then this command's turn. DEDUCED, unsafe (log 110, 197). -/
def State.turnOf (s : State) (m op : Nat) : Bool :=
  s.mbState m == mbPosted && s.isSet Reg.MBX_STATUS_READY && !s.hlt.unitHalted.contains 0 && !s.hlt.unitHalted.contains 1 && fieldAt (s.areaBytes m 0 2) 0 2 == op && s.workNext m

/-- Whether the command is performed at its turn: its message still passes the header checks, whose outcome a change of role, of a binding or of mode may
have turned since its doorbell (R393, R406). DEDUCED, unsafe (log 110, 197). -/
def State.takesUp (s : State) (m op : Nat) : Bool := s.turnOf m op && (s.headerCheck m).isNone

/-- The request in mailbox `m`. DESIGN CHOICE, unsafe (log 28). -/
def State.request (s : State) (m : Nat) : Req :=
  let len := fieldAt (s.areaBytes m 4 2) 0 2
  { mbx := m, part := fieldAt (s.areaBytes m 8 2) 0 2, msg := s.areaBytes m 0 len, serial := (s.mbox m).serial }

/-- Lysman firmware takes up the message in mailbox `m`, which carries opcode `op`, and answers it by `f` (R376, R393
step 8). A refused command changes nothing. A mailbox that does not hold this command is left alone. -/
def State.lcs (s : State) (m op : Nat) (f : Req → State → State × Resp) : State :=
  if s.takesUp m op then
    let r := s.request m
    let kindF := (lcsMap.find? fun x => x.op == op).any fun x => x.kind == .f
    match f r s with
    | (t, .ok b) => let u := t.complete m false false stOk noField b
                    if kindF then u.forwardLcs r.msg stOk b else u
    | (t, .more b) => t.complete m false true stOk noField b
    | (_, .err st d) => s.complete m false false st d []
    | (t, .fail st d b) => t.complete m false false st d b
    | (t, .wait) => t.setFld (Reg.MBX_CMPL_STATE m) mbBusy
  else match s.headerCheck m with
    | some (st, d) => if s.turnOf m op then s.complete m false false st d [] else s
    | none => s

/-- The answer of a command that waited (R404): written when its mailbox still carries that message. An accepted command
of kind F is then forwarded (R343). -/
def State.answer (s : State) (w : Option Waiter) (status : Nat) (body : List Byte) : State :=
  match w with
  | none => s
  | some w =>
    if w.mbx == mirrorMbx then s.mirrorEnd w.serial status body
    else if s.mbState w.mbx == mbBusy && (s.mbox w.mbx).serial == w.serial then
      let r := s.request w.mbx
      let op := fieldAt r.msg 0 2
      let kindF := (lcsMap.find? fun x => x.op == op).any fun x => x.kind == .f
      let t := s.complete w.mbx false false status noField body
      if kindF && status == stOk then t.forwardLcs r.msg status body else t
    else s

end Sys2Proof.Machine
end

