-- ==== Sys2Proof/Machine/TimeOps.lean ====
section
/-! DEFINITION. The time unit's clocks, rates and conversions (spec/10_time_unit.md). -/

namespace Sys2Proof.Machine

open Sys2Proof

/-- R277: the limit of either rate adjustment, ±500 ppm. -/
def adjLimit : Int := 4294967

/-- A rate adjustment clamped to the limit. -/
def clampAdj (v : Int) : Int := if v < -adjLimit then -adjLimit else if adjLimit < v then adjLimit else v

/-- TIM_STATUS[TRUSTED]; TIME_UNTRUSTED holds while it is 0 (R282). -/
def State.trusted (s : State) : Bool := s.isSet Reg.TIM_STATUS_TRUSTED

/-- The time epoch (R283). -/
def State.epoch (s : State) : Nat := s.fld Reg.TIM_STATUS_EPOCH

/-- The sample pair of this tick (R286). -/
def State.convPair (s : State) : ConvPair :=
  { p := s.ptpNs, a := s.clk.age / 2 ^ 32, ageAdj := toInt 32 (s.rd Reg.TIM_AGE_ADJ), ptpAdj := toInt 32 (s.rd Reg.TIM_PTP_ADJ) }

/-- A new pair is taken; of 16 the oldest is dropped (R286). -/
def State.takePair (s : State) : State :=
  let h := s.time.history ++ [s.convPair]
  { s with time := { s.time with history := h.drop (h.length - 16) } }

/-- A step or an alignment leaves one pair, the one taken at it (R286). -/
def State.resetHistory (s : State) : State := { s with time := { s.time with history := [s.convPair] } }

/-- A rate write (R277): clamped, with ADJUSTED where it was; a changed rate takes a new pair. -/
def State.setPtpAdj (s : State) (v : Int) : State :=
  let w := ofInt 32 (clampAdj v)
  let s1 := if v == clampAdj v then s else s.raise Reg.TIM_STAT_ADJUSTED
  if s.rd Reg.TIM_PTP_ADJ == w then s1 else (s1.wr Reg.TIM_PTP_ADJ w).takePair

/-- A write of the age clock's rate (R277). -/
def State.setAgeAdj (s : State) (v : Int) : State :=
  let w := ofInt 32 (clampAdj v)
  let s1 := if v == clampAdj v then s else s.raise Reg.TIM_STAT_ADJUSTED
  if s.rd Reg.TIM_AGE_ADJ == w then s1 else (s1.wr Reg.TIM_AGE_ADJ w).takePair

/-- R287: the 48-bit seconds nearest the current PTP seconds whose low 32 bits are `sec`; a tie takes the earlier. -/
def State.nearSec (s : State) (sec : Nat) : Int :=
  let now := s.ptpNs / 10 ^ 9
  let d := wrapSub 32 sec (now % 2 ^ 32)
  if d < 2 ^ 31 then (now : Int) + d else (now : Int) + d - 2 ^ 32

/-- The latest pair at or before `p`; the oldest where none is (R287). -/
def pairFor (h : List ConvPair) (p : Int) : ConvPair :=
  match (h.reverse.find? fun x => (x.p : Int) ≤ p) with
  | some x => x
  | none => h.headD {}

/-- The age in ns a PTP time in ns maps to (R287), before it is judged negative or not. -/
def State.convAge (s : State) (p : Int) : Int :=
  let x := pairFor s.time.history p
  (x.a : Int) + ((p - x.p) * (2 * 2 ^ 32 + x.ageAdj)) / (2 * 2 ^ 32 + x.ptpAdj)

/-- A PTP time in ns converted to age units (R287); none where it is older than the age clock itself. -/
def State.convPtp (s : State) (p : Int) : Option Nat :=
  let a := s.convAge p
  if a < 0 then none else some (a.toNat / 1024 % 2 ^ 40)

/-- A PTP64 value (low 32 bits of the seconds, nanoseconds) as a PTP time in ns (R287, R395). -/
def State.ptp64 (s : State) (sec ns : Nat) : Int := s.nearSec sec * 10 ^ 9 + ns

/-- The PTP64 image of a PTP time in ns (R395): ns in the low word, the low 32 bits of the seconds above. -/
def toPtp64 (ns : Nat) : Nat := ns % 10 ^ 9 + (ns / 10 ^ 9 % 2 ^ 32) * 2 ^ 32

/-- The PTP clock set to `ns` with no fraction change. -/
def State.setPtpNs (s : State) (ns : Nat) : State :=
  { s with clk := { s.clk with ptp := ns * 2 ^ 32 + s.clk.ptp % 2 ^ 32 } }

/-- The timestamp of an entry in the _NS and seconds registers. -/
def State.putTxStamp (s : State) (x : TxStamp) : State :=
  ((s.wr Reg.TIM_TXQ_NS (x.ptp % 10 ^ 9)).wr Reg.TIM_TXQ_SEC_LO (x.ptp / 10 ^ 9 % 2 ^ 32)).setFld Reg.TIM_TXQ_SEC_HI_SEC (x.ptp / 10 ^ 9 / 2 ^ 32)

end Sys2Proof.Machine
end

