-- ==== Sys2Proof/Machine/Ledger.lean ====
section
/-! DEFINITION. The Ring ledger's engine (spec/02_ring_ledger.md): cells, deadlines, the windfall table and the stale
bitmap, the ring wheel, confirmations. -/

namespace Sys2Proof.Machine

open Sys2Proof

/-! ### Deadlines (R42, R43) -/

/-- The deadline in age units. -/
def Cell.deadline (c : Cell) : Nat := (c.confirmedAt + c.limit * 1024) % 2 ^ 40

/-- Whether a deadline has passed at `now` (R43). -/
def passed (now d : Nat) : Bool := wrapSub 40 now d < 2 ^ 39

/-- Whether a deadline passed more than `n` age units ago. -/
def passedBy (now d n : Nat) : Bool := passed now d && n < wrapSub 40 now d

/-- The current slot's number (R57): NOW40 in slots of 1,024 age units. -/
def State.slotNow (s : State) : Nat := s.now40 / 1024

/-! ### Windfall table and stale bitmap (R61 to R64) -/

/-- The capacity of the windfall table. -/
def windfallMax : Nat := 8192

/-- Bit of cell `n` in replica `r`. -/
def State.staleBit (s : State) (r n : Nat) : Bool := sparseGet true s.ldg.bitmap (r * cellCount + n)

/-- One replica's bit set to `b`. -/
def State.putStaleBit (s : State) (r n : Nat) (b : Bool) : State :=
  { s with ldg := { s.ldg with bitmap := sparsePut true s.ldg.bitmap (r * cellCount + n) b } }

/-- The bit of cell `n` in all four replicas (R61). -/
def State.putStaleBits (s : State) (n : Nat) (b : Bool) : State :=
  (((s.putStaleBit 0 n b).putStaleBit 1 n b).putStaleBit 2 n b).putStaleBit 3 n b

/-- The windfall entry of a cell, if it has one. -/
def State.windfallOf (s : State) (n : Nat) : Option Windfall := s.ldg.windfall.find? fun e => e.cell == n

/-- An entry put among the waiting cells in order of lapse (R64). -/
def insertByLapse : List Windfall → Windfall → List Windfall
  | [], e => [e]
  | x :: t, e => if e.lapse < x.lapse then e :: x :: t else x :: insertByLapse t e

/-- A cell left without an entry waits for one; OVF is set and raises LDG_WINDFALL_FULL when it becomes set (R64, R77). -/
def State.windfallWait (s : State) (e : Windfall) : State :=
  let s1 := { s with ldg := { s.ldg with waiting := insertByLapse s.ldg.waiting e } }
  if s1.isSet Reg.LDG_WINDFALL_OVF then s1.raise Reg.LDG_WINDFALL_OVF
  else (s1.raise Reg.LDG_WINDFALL_OVF).notice 0x0203 0 [0]
    (pack [(2, s1.ldg.windfall.length), (2, 0), (4, s1.ldg.waiting.length)])

/-- A new entry installed; when the table is full, R64: a safety-class cell evicts the standard-class entry installed
most recently, every other cell waits. -/
def State.windfallInstall (s : State) (e : Windfall) : State :=
  if s.ldg.windfall.length < windfallMax then { s with ldg := { s.ldg with windfall := s.ldg.windfall ++ [e] } }
  else if (s.cell e.cell).cls == 1 then
    match s.ldg.windfall.reverse.find? fun x => (s.cell x.cell).cls == 0 with
    | some v =>
      ({ s with ldg := { s.ldg with windfall := s.ldg.windfall.filter (fun (x : Windfall) => x.cell != v.cell) ++ [e] } }).windfallWait v
    | none => s.windfallWait e
  else s.windfallWait e

/-- Cells that wait gain entries as entries become free: safety class first, each class in order of lapse (R64). -/
def State.windfallPromote (s : State) : Nat → State
  | 0 => s
  | k + 1 =>
    if windfallMax ≤ s.ldg.windfall.length then s
    else
      let pick := match s.ldg.waiting.find? fun e => (s.cell e.cell).cls == 1 with
        | some e => some e
        | none => s.ldg.waiting.head?
      match pick with
      | none => s
      | some e =>
        State.windfallPromote { s with ldg := { s.ldg with
          waiting := s.ldg.waiting.filter fun x => x.cell != e.cell
          windfall := s.ldg.windfall ++ [e] } } k

/-- A cell's entry removed, from the table or from those that wait. -/
def State.windfallRemove (s : State) (n : Nat) : State :=
  ({ s with ldg := { s.ldg with
      windfall := s.ldg.windfall.filter fun e => e.cell != n
      waiting := s.ldg.waiting.filter fun e => e.cell != n } }).windfallPromote 1

/-- What the entry of a cell holds after an event took it from `old` to `new` (R62): while STICKY holds since before the
event, the basis stays as it was at the lapse and only SATURATED follows AGED (R65 step 1). -/
def windfallNext (e : Windfall) (old new : Cell) : Windfall :=
  if old.sticky && new.sticky then { e with saturated := e.saturated || new.aged }
  else { e with confirmedAt := new.confirmedAt, saturated := new.aged, state := new.eff }

/-- The table after the cell went from `old` to `new` with a non-LIVE effective state: its entry follows, or is installed. -/
def State.windfallFollow (s : State) (n : Nat) (old new : Cell) : State :=
  if s.ldg.windfall.any fun e => e.cell == n then
    { s with ldg := { s.ldg with windfall := s.ldg.windfall.map fun e => if e.cell == n then windfallNext e old new else e } }
  else if s.ldg.waiting.any fun e => e.cell == n then
    { s with ldg := { s.ldg with waiting := s.ldg.waiting.map fun e => if e.cell == n then windfallNext e old new else e } }
  else s.windfallInstall { cell := n, confirmedAt := new.confirmedAt, saturated := new.aged, state := new.eff, lapse := s.tick }

/-! ### Stale batches (R76, R77) -/

def State.notifyOf (s : State) (p : Nat) : NotifySt := sparseGet {} s.ldg.notify p
def State.setNotify (s : State) (p : Nat) (x : NotifySt) : State :=
  { s with ldg := { s.ldg with notify := sparsePut {} s.ldg.notify p x } }

/-- The end of the notify period that the present tick lies in. -/
def NotifySt.periodEnd (x : NotifySt) (tick : Nat) : Nat :=
  x.base + ((tick - x.base) / (x.periodMs * ticksPerMs) + 1) * (x.periodMs * ticksPerMs)

/-- The batch raised, if it holds a transition (R77). -/
def State.raiseBatch (s : State) (p : Nat) : State :=
  let x := s.notifyOf p
  if x.total == 0 then s
  else (s.setNotify p { x with total := 0, cells := [] }).notice 0x0201 0 [p]
    (pack [(4, x.total), (2, x.cells.length), (2, 0)] ++ x.cells.flatMap (leBytes 4))

/-- A notify period of partition `p` ends: its batch is raised if one is due (R77). -/
def State.staleBatch (s : State) (p : Nat) : State :=
  let x := s.notifyOf p
  if x.total != 0 && x.endTick ≤ s.tick then s.raiseBatch p else s

/-- A transition to STALE gathered into the partition's batch; a batch whose period has ended is raised first. -/
def State.gatherStale (s0 : State) (n : Nat) (c : Cell) : State :=
  let s := s0.staleBatch c.partition
  let x := s.notifyOf c.partition
  if x.periodMs == 0 || (x.safetyOnly && c.cls == 0) then s
  else s.setNotify c.partition
    { x with
      endTick := if x.total == 0 then x.periodEnd s.tick else x.endTick
      total := x.total + 1
      cells := if x.cells.length < 60 then x.cells ++ [n] else x.cells }

/-! ### One event on one cell (R47) -/

/-- The cell `n` goes to `new`; bitmap, windfall table, counters and the stale batch follow its effective state. DESIGN CHOICE, unsafe (log 173). -/
def State.settleCell (s : State) (n : Nat) (new : Cell) : State :=
  let old := s.cell n
  let s1 := s.putCell n new
  if new.ownerKind == 0 then (s1.windfallRemove n).putStaleBits n true
  else if new.eff == csLive then (s1.putStaleBits n false).windfallRemove n
  else
    let s2 := (s1.windfallFollow n old new).putStaleBits n true
    if new.eff == csStale && !(old.ownerKind != 0 && old.eff == csStale) then
      (s2.bump Reg.LDG_CNT_STALE_EVT).gatherStale n new
    else s2

/-- Deadline expiry by the wheel or the sweeper (R47, R48): VOID stays VOID, every other state becomes STALE, and a
LATCH_EN cell that lapses from LIVE or RECOVERING sets STICKY. FILED is cleared. -/
def Cell.lapse (c : Cell) : Cell :=
  if c.state == csVoid then { c with filed := false }
  else { c with state := csStale, filed := false,
                sticky := c.sticky || (c.latchEn && (c.state == csLive || c.state == csRecovering)) }

/-! ### The ring wheel (R57 to R59) -/

/-- The cell appended to the list of slot number `slot`; SLOT takes its wheel index. -/
def State.appendSlot (s : State) (n slot : Nat) : State :=
  let i := slot % 4096
  let s1 := s.settleCell n { s.cell n with filed := true, slot := i }
  { s1 with ldg := { s1.ldg with wheel := sparsePut [] s1.ldg.wheel i (sparseGet [] s1.ldg.wheel i ++ [n]) } }

/-- Candidacy cancelled. -/
def State.dropCandidate (s : State) (n : Nat) : State :=
  { s with ldg := { s.ldg with candidates := s.ldg.candidates.filter fun x => x != n } }

/-- The slot number a deadline files in: its own, at most 4,095 after the current one (R57). -/
def State.slotFor (s : State) (d : Nat) : Nat :=
  let ahead := wrapSub 30 (d / 1024) s.slotNow
  (s.slotNow + min ahead 4095) % 2 ^ 30

/-- R57: the cell is filed by its deadline. One whose deadline has passed is set STALE at once, with FILED 0 and R48
applied; a candidate of the current slot is cancelled and filed again, or stays a candidate; a filed cell stays. -/
def State.fileCell (s : State) (n : Nat) : State :=
  let c := s.cell n
  if passed s.now40 c.deadline then (s.settleCell n c.lapse).dropCandidate n
  else if s.ldg.candidates.contains n then
    if c.deadline / 1024 == s.ldg.scanned then
      let s1 := s.dropCandidate n
      { s1 with ldg := { s1.ldg with candidates := s1.ldg.candidates ++ [n] } }
    else (s.dropCandidate n).appendSlot n (s.slotFor c.deadline)
  else if c.filed then s
  else s.appendSlot n (s.slotFor c.deadline)

/-- R58 on one entry of the slot being scanned. A deadline that equals NOW40 is still ahead of the scan, as in the examples of R60 and
of the wrap guard. DESIGN CHOICE, unsafe (log 41). DEDUCED, unsafe (log 141). -/
def State.scanEntry (s : State) (n slot : Nat) : State :=
  let c := s.cell n
  if !c.filed || c.slot != slot % 4096 then s
  else if c.state != csLive && c.state != csRecovering then s.settleCell n { c with filed := false }
  else if passedBy s.now40 c.deadline 0 then s.settleCell n c.lapse
  else if c.deadline / 1024 != slot then
    (s.putCell n { c with filed := false }).appendSlot n (s.slotFor c.deadline)
  else if s.ldg.candidates.contains n then s
  else { s with ldg := { s.ldg with candidates := s.ldg.candidates ++ [n] } }

/-- R71: a poisoned read of a cell rebuilds it STALE, AGED and DAMAGED with GEN 0, the other fields from the allocation
map, with its windfall entry and its bits, and LDG_CELL_DAMAGED. A cell that is not allocated is rebuilt without an entry, and its effective
state stays VOID (R46, R63); cell 0 is always LIVE (R41). DESIGN CHOICE, unsafe (log 174). -/
def State.rebuildCell (s : State) (n : Nat) : State :=
  let c := s.cell n
  if c.ownerKind == 6 then s
  else
    ((s.settleCell n { c with state := csStale, aged := true, damaged := true, gen := 0, filed := false }).bump
      Reg.LDG_CNT_POISON).notice 0x0205 0 [0, c.partition] (pack [(4, n), (1, c.ownerKind), (3, 0)])

/-- Whether FBK_LDG lets the ledger engine read and write cell `n` (R16, R437). Before the array has its place no access is checked. DESIGN CHOICE, unsafe (log 177). -/
def State.cellAllowed (s : State) (n : Nat) : Bool × State :=
  if s.cellsBase == 0 then (true, s)
  else
    let (r, _, t) := s.fbkCheck fbkLdg (s.cellsBase + 16 * n) false 16
    if !r then (false, t)
    else
      let (w, _, u) := t.fbkCheck fbkLdg (s.cellsBase + 16 * n) true 16
      (w, u)

/-- The ledger engine reads cell `n` for an event on it (R16, R17, R33, R34, R71): whether its Firebreak unit allows the event, and the state after
a rebuild where the read came poisoned; the read meets what befalls the cell's first word. DESIGN CHOICE, unsafe (log 177). -/
def State.cellRead (s : State) (n : Nat) (poisoned : Bool) : Bool × State :=
  let (ok, s1) := s.cellAllowed n
  if !ok then (false, s1)
  else
    let a := s.cellsBase + 16 * n
    let met := List.replicate (a % 64 / 8) 0 ++ [if poisoned then 3 else 0]
    let (bad, s2) := (s1.arrive (engineReq fbkLdg (urgency fbkLdg false) a 16)).meetRead a 16 met
    (true, if bad then s2.rebuildCell n else s2)

/-- An event on cell `n`: the cell is read, and `f` is made unless the ledger's Firebreak unit denies the access. -/
def State.onCell (s : State) (n : Nat) (f : State → State) : State :=
  let (ok, t) := s.cellRead n false
  if ok then f t else t

/-! ### Confirmations (R53 to R55) -/

/-- A 64-bit counter in two registers incremented; it saturates (R73). -/
def State.bump64 (s : State) (lo hi : Nat) : State := s.wr64 lo hi (min (s.rd64 lo hi + 1) (2 ^ 64 - 1))

/-- R54 step 8: T not newer than NOW40 passes; up to 64 age units ahead is clamped to NOW40; more fails. The second
part says whether it was clamped. -/
def acceptTime (now t : Nat) : Option (Nat × Bool) :=
  let e := wrapSub 40 t now
  if e == 0 || 2 ^ 39 ≤ e then some (t, false)
  else if e ≤ 64 then some (now, true)
  else none

/-- R54 step 9: CONFIRMED_AT not newer than T; of an AGED cell, T less than 2^39 age units old. -/
def notOlder (now : Nat) (c : Cell) (t : Nat) : Bool :=
  if c.aged then wrapSub 40 now t < 2 ^ 39 else !newer 40 c.confirmedAt t

/-- An accepted VOID (R47, R48): STATE VOID, STICKY cleared. -/
def State.applyVoid (s : State) (n : Nat) : State :=
  (s.settleCell n { s.cell n with state := csVoid, sticky := false }).bump64 Reg.LDG_CNT_ACCEPT_LO Reg.LDG_CNT_ACCEPT_HI

/-- R54 step 10: CONFIRMED_AT = T, AGED 0, the new STATE by R47, the cell filed by R57. DEDUCED, unsafe (log 34). -/
def State.applyConfirm (s : State) (n action t : Nat) : State :=
  let c := s.cell n
  let c1 := { c with confirmedAt := t, aged := false }
  let s0 := s.bump64 Reg.LDG_CNT_ACCEPT_LO Reg.LDG_CNT_ACCEPT_HI
  if passed s.now40 c1.deadline then (s0.settleCell n { c1.lapse with state := csStale }).dropCandidate n
  else (s0.settleCell n { c1 with state := if action == 1 then csRecovering else csLive }).fileCell n

/-- Steps 6 to 10 of R54, for host records and engine confirmations alike: none where all pass and the confirmation is
applied, else the counter of the check that failed. -/
def State.confirmFrom (s : State) (n action kind : Nat) (stamp : Option Nat) (epochOk : Bool) (transit : Nat) :
    Option Nat × State :=
  if kind == 1 && !epochOk then (some Reg.LDG_CNT_EPOCH, s)
  else
    let (t, s1) : Option Nat × State :=
      if kind == 2 then (some s.now40, s)
      else if kind == 1 && !s.trusted then (some (wrapSub 40 s.now40 transit), s.bump Reg.LDG_CNT_FALLBACK)
      else if kind == 1 && stamp.isNone then (none, s.bump Reg.TIM_CNT_CONV_OLD)
      else (stamp, s)
    match t with
    | none => (some Reg.LDG_CNT_OLDER, s1)
    | some t =>
      match acceptTime s1.now40 t with
      | none => (some Reg.LDG_CNT_FUTURE, s1)
      | some (t', clamped) =>
        if !notOlder s1.now40 (s1.cell n) t' then (some Reg.LDG_CNT_OLDER, s1)
        else (none, (if clamped then s1.bump Reg.LDG_CNT_CLAMPED else s1).applyConfirm n action t')

/-- The checks of a host confirm record (R53, R54) for ring `r`: the counter of the first that fails, or none and the
record applied. `poisoned` says that the cell's read came back poisoned (R71). -/
def State.hostConfirm (s : State) (r : Nat) (rec : List Byte) (poisoned : Bool) : Option Nat × State :=
  let w := fieldAt rec 0 4
  let n := bitsAt w 19 0
  let action := fieldAt rec 4 1
  let kind := fieldAt rec 5 1
  let time := fieldAt rec 8 8
  let (ok, s) := s.cellRead n poisoned
  let c := if ok then s.cell n else {}
  if 2 < action || 2 < kind || bitsAt w 31 28 != 0 || (kind == 0 && bitsAt time 63 40 != 0) ||
      (kind == 1 && 10 ^ 9 ≤ bitsAt time 31 0) then (some Reg.LDG_CNT_FORMAT, s)
  else if c.ownerKind == 0 then (some Reg.LDG_CNT_UNALLOC, s)
  else if c.ownerKind != 1 || c.partition != s.fld (Reg.LDG_CRING_CFG_PARTITION r) then (some Reg.LDG_CNT_OWNER, s)
  else if c.damaged || bitsAt w 27 20 != c.gen then (some Reg.LDG_CNT_GEN, s)
  else if action == 2 then (none, s.applyVoid n)
  else
    let stamp := if kind == 0 then some (bitsAt time 39 0)
      else s.convPtp (s.ptp64 (bitsAt time 63 32) (bitsAt time 31 0))
    s.confirmFrom n action kind stamp (fieldAt rec 6 2 == s.epoch) (s.fld (Reg.LDG_CRING_TRANSIT_AGE_UNITS r))

/-- A confirmation by an engine reaches the ledger engine (R54, R55): the cell must still be one that an engine owns and
not DAMAGED. DESIGN CHOICE, unsafe (log 172). -/
def State.engineConfirm (s : State) (e : EngineConf) (poisoned : Bool) : State :=
  let (ok, s) := s.cellRead e.cell poisoned
  let c := if ok then s.cell e.cell else {}
  if c.ownerKind < 2 || 5 < c.ownerKind then s.bump Reg.LDG_CNT_UNALLOC
  else if c.damaged then s.bump Reg.LDG_CNT_GEN
  else if e.action == 2 then s.applyVoid e.cell
  else
    let stamp := if e.timeKind == 1 then s.convPtp e.time else some e.time
    match s.confirmFrom e.cell e.action e.timeKind stamp (e.epoch == s.epoch) e.transit with
    | (none, t) => t
    | (some k, t) => t.bump k

/-- A confirmation handed to the ledger engine by an engine of the device. -/
def State.sendConfirm (s : State) (e : EngineConf) : State :=
  { s with ldg := { s.ldg with conf := s.ldg.conf ++ [e] } }

/-! ### Confirm rings (R49 to R51) -/

/-- LDG_RING_FAULT (R77). -/
def State.ringFault (s : State) (r cause prod : Nat) : State :=
  let p := s.fld (Reg.LDG_CRING_CFG_PARTITION r)
  s.notice 0x0202 0 [p] (pack [(1, r), (1, cause), (2, 0), (4, prod), (4, s.rd (Reg.LDG_CRING_CONS r))])

/-- Ring `r` closes when its records up to the closing mark are consumed, and the waiting command is answered (R76). -/
def State.ringCloseIfDone (s : State) (r : Nat) : State :=
  match sparseFind s.ldg.closing r with
  | none => s
  | some c =>
    if s.rd (Reg.LDG_CRING_CONS r) == c.prod then
      (({ s with ldg := { s.ldg with closing := sparseDel s.ldg.closing r } }).setFld (Reg.LDG_CRING_CFG_OPEN r) 0).answer
        c.waiter stOk []
    else s

/-- Whether ring `r` holds a record to consume: open, CONS not at PROD nor at the closing mark. -/
def State.ringHolds (s : State) (r : Nat) : Bool :=
  s.isSet (Reg.LDG_CRING_CFG_OPEN r) && s.rd (Reg.LDG_CRING_CONS r) !=
    (match sparseFind s.ldg.closing r with
     | some c => c.prod
     | none => s.rd (Reg.LDG_CRING_PROD r))

/-- The internal address of the record at CONS (R49). -/
def State.ringRecord (s : State) (r : Nat) : Nat :=
  s.rd64 (Reg.LDG_CRING_BASE_LO r) (Reg.LDG_CRING_BASE_HI r) +
    16 * (s.rd (Reg.LDG_CRING_CONS r) % 2 ^ s.fld (Reg.LDG_CRING_CFG_LOG2_SIZE r))

/-- One host record of ring `r` read through FBK_LDG, checked, and applied or rejected; CONS advances (R51, R54). DESIGN CHOICE, unsafe (log 222). -/
def State.consumeRecord (s : State) (r : Nat) (poisoned : Bool) : State :=
  let a := s.ringRecord r
  let (rec, ok, _, _, s1) := s.unitLoad fbkLdg a 16
  let s2 := if ok then
      match s1.hostConfirm r rec poisoned with
      | (none, t) => t
      | (some k, t) => (t.bump k).bump (Reg.LDG_CRING_REJ r)
    else
      let t := ((s1.raise (Reg.LDG_CRING_STAT_FBK r)).bump Reg.LDG_CNT_FORMAT).bump (Reg.LDG_CRING_REJ r)
      if s1.isSet (Reg.LDG_CRING_STAT_FBK r) then t else t.ringFault r 2 (s1.rd (Reg.LDG_CRING_PROD r))
  (s2.wr (Reg.LDG_CRING_CONS r) (wrapAdd 32 (s2.rd (Reg.LDG_CRING_CONS r)) 1)).ringCloseIfDone r

/-! ### The sweeper (R65, R66) -/

/-- LDG_SWEEP_CATCH for cell `n`, kind 0 a wheel miss, 1 a bitmap fix (R77). -/
def State.sweepCatch (s : State) (n kind cls : Nat) : State :=
  let p := (s.cell n).partition
  s.notice 0x0204 0 [0, p] (pack [(4, n), (1, kind), (1, cls), (2, 0)])

/-- R65 step 1, the wrap guard. -/
def State.sweepWrap (s : State) (n : Nat) : State :=
  let c := s.cell n
  if !c.aged && 2 ^ 39 ≤ wrapSub 40 s.now40 c.confirmedAt then
    ((s.settleCell n { c.lapse with aged := true, filed := c.filed }).dropCandidate n).bump Reg.LDG_CNT_SWEEP_AGED
  else s

/-- R65 step 2, the wheel backstop. -/
def State.sweepWheel (s : State) (n : Nat) : State :=
  let c := s.cell n
  if (c.state == csLive || c.state == csRecovering) && passedBy s.now40 c.deadline 2048 then
    let s1 := ((s.settleCell n c.lapse).dropCandidate n).bump Reg.LDG_CNT_SWEEP_CAUGHT
    { s1 with ldg := { s1.ldg with wheelFault := s1.ldg.wheelFault.or (some n) } }
  else s

/-- R65 step 3 on one replica: a bit that should be 1 is set, one that should be 0 is cleared only when the deadline lies
at least 2,048 age units ahead. DESIGN CHOICE, unsafe (log 175). -/
def State.sweepBit (s : State) (n r : Nat) : State :=
  let c := s.cell n
  let want := c.eff != csLive
  if s.staleBit r n == want then s
  else if !want && !(n == 0 || (!passed s.now40 c.deadline && 2048 ≤ wrapSub 40 c.deadline s.now40)) then s
  else
    let s1 := (s.putStaleBit r n want).bump Reg.LDG_CNT_BITFIX
    { s1 with ldg := { s1.ldg with bitFault :=
        if (sparseFind s1.ldg.bitFault r).isSome then s1.ldg.bitFault else sparseIns s1.ldg.bitFault r n } }

/-- R65 step 4, the filing check. -/
def State.sweepFile (s : State) (n : Nat) : State :=
  let c := s.cell n
  if (c.state == csLive || c.state == csRecovering) && !c.filed && c.ownerKind != 6 then s.fileCell n else s

/-- The sweeper's visit of cell `n` (R65); an unallocated cell is passed over, and the static cell has no age. -/
def State.sweepCell (s : State) (n : Nat) (poisoned : Bool) : State :=
  let (ok, s) := s.cellRead n poisoned
  let c := s.cell n
  if !ok || c.ownerKind == 0 then s
  else
    let s1 := if c.ownerKind == 6 then s else (s.sweepWrap n).sweepWheel n
    ((((s1.sweepBit n 0).sweepBit n 1).sweepBit n 2).sweepBit n 3).sweepFile n

/-- A detector's lap ends (R66, R566): the run of failing laps is classed, and LDG_SWEEP_CATCH raised for the first
cell of a fault that is classed now. -/
def State.lapClass (s : State) (det inst kind : Nat) (caught : Option Nat) : State :=
  let first := (s.run det inst).first
  match caught with
  | some n => let (inj, s0) := s.injTake det inst
              let (l, t) := s0.detFail det inst inj.isSome n
              if l then t.sweepCatch first kind 2 else t
  | none => let (l, t) := s.detPass det inst
            if l then t.sweepCatch first kind 1 else t

/-! ### Allocation (R67, R76) -/

/-- The cells that may not be allocated now, in rising order: those allocated, and those freed for which no complete
sweeper lap has passed (R67). -/
def State.takenCells (s : State) : List Nat :=
  (s.ldg.cells.filter fun p =>
    p.2.ownerKind != 0 || s.ldg.laps < sparseGet 0 s.ldg.freed p.1).map Prod.fst

/-- The lowest start of `count` free numbers from `start` to below `stop`, past the taken numbers. DESIGN CHOICE, unsafe (log 33). -/
def findRun (taken : List Nat) (start count stop : Nat) : Option Nat :=
  match taken with
  | [] => if start + count ≤ stop then some start else none
  | t :: r =>
    if t < start then findRun r start count stop
    else if start + count ≤ t then (if start + count ≤ stop then some start else none)
    else findRun r (t + 1) count stop

/-- Where a run of `count` new cells goes: host cells from 4,096 upward, then below; engine cells from 1 upward. DESIGN CHOICE, unsafe (log 33). -/
def State.placeCells (s : State) (host : Bool) (count : Nat) : Option Nat :=
  if host then (findRun s.takenCells 4096 count cellCount).or (findRun s.takenCells 1 count 4096)
  else findRun s.takenCells 1 count cellCount

/-- One cell allocated: VOID, CONFIRMED_AT 0, GEN one above its last value (R67, R76). -/
def State.allocCell (s : State) (n : Nat) (kind part limit cls : Nat) (latch : Bool) (mask : Nat) : State :=
  s.onCell n fun t => t.settleCell n { ownerKind := kind, partition := part, limit := limit, cls := cls, latchEn := latch, standMask := mask,
                                       gen := ((t.cell n).gen + 1) % 256, state := csVoid }

/-- `count` cells allocated from `first`. -/
def State.allocCells (s : State) (first count kind part limit cls : Nat) (latch : Bool) (mask : Nat) : State :=
  (List.range count).foldl (fun t i => t.allocCell (first + i) kind part limit cls latch mask) s

/-- One cell freed (R67, R76): OWNER_KIND 0, STATE VOID, STICKY 0, DAMAGED 0 (R71), GEN one more, allocatable again after the first
complete lap that begins after the free. DEDUCED, unsafe (log 140). -/
def State.freeCell (s : State) (n : Nat) : State :=
  s.onCell n fun t =>
    let c := t.cell n
    let s1 := (t.settleCell n { c with ownerKind := 0, state := csVoid, sticky := false, damaged := false, gen := (c.gen + 1) % 256 }).dropCandidate n
    let wait := if s1.fld Reg.LDG_SWEEP_POS_CELL == 0 && !s1.ldg.lapDue then 1 else 2
    { s1 with ldg := { s1.ldg with freed := sparseIns s1.ldg.freed n (s1.ldg.laps + wait) } }

/-- `count` cells freed from `first`. -/
def State.freeCells (s : State) (first count : Nat) : State :=
  (List.range count).foldl (fun t i => t.freeCell (first + i)) s

end Sys2Proof.Machine
end

