-- ==== Sys2Proof/Machine/Scan.lean ====
section
/-! DEFINITION. Modes, stands and scan-out timing (spec/04_outputs_and_timing.md): the mode table, the grid of frame
starts, rephase, and the helpers every output command uses. -/

namespace Sys2Proof.Machine

open Sys2Proof

/-! ### Standard modes (R104) -/

/-- A row of the mode table: active size, pixel clock in kHz, totals, cadence code, and the porch figures that travel as
mode information (R105). -/
structure Mode where
  w : Nat
  h : Nat
  pclk : Nat
  hTotal : Nat
  hFront : Nat
  hSync : Nat
  vTotal : Nat
  vFront : Nat
  vSync : Nat
  cadence : Nat
  deriving DecidableEq, Repr, Inhabited

def modesLow : List Mode := [
  ⟨1280, 720, 74250, 1980, 440, 40, 750, 5, 5, 2⟩, ⟨1280, 720, 74250, 1650, 110, 40, 750, 5, 5, 1⟩,
  ⟨1280, 800, 71000, 1440, 48, 32, 823, 3, 6, 6⟩, ⟨1280, 1024, 108000, 1688, 48, 112, 1066, 1, 3, 7⟩,
  ⟨1366, 768, 85500, 1792, 70, 143, 798, 3, 3, 8⟩, ⟨1440, 900, 88750, 1600, 48, 32, 926, 3, 6, 9⟩,
  ⟨1600, 1200, 162000, 2160, 64, 192, 1250, 1, 3, 1⟩, ⟨1680, 1050, 119000, 1840, 48, 32, 1080, 3, 6, 10⟩,
  ⟨1920, 1080, 74250, 2750, 638, 44, 1125, 4, 5, 5⟩, ⟨1920, 1080, 74250, 2640, 528, 44, 1125, 4, 5, 4⟩,
  ⟨1920, 1080, 74250, 2200, 88, 44, 1125, 4, 5, 3⟩, ⟨1920, 1080, 148500, 2640, 528, 44, 1125, 4, 5, 2⟩]

def modesHigh : List Mode := [
  ⟨1920, 1080, 148500, 2200, 88, 44, 1125, 4, 5, 1⟩, ⟨1920, 1080, 138500, 2080, 48, 32, 1111, 3, 5, 11⟩,
  ⟨1920, 1200, 154000, 2080, 48, 32, 1235, 3, 6, 12⟩, ⟨2560, 1080, 198000, 3000, 248, 44, 1100, 4, 5, 1⟩,
  ⟨2560, 1440, 241500, 2720, 48, 32, 1481, 3, 5, 13⟩, ⟨2560, 1600, 268500, 2720, 48, 32, 1646, 3, 6, 14⟩,
  ⟨3840, 2160, 297000, 5500, 1276, 88, 2250, 8, 10, 5⟩, ⟨3840, 2160, 297000, 5280, 1056, 88, 2250, 8, 10, 4⟩,
  ⟨3840, 2160, 297000, 4400, 176, 88, 2250, 8, 10, 3⟩, ⟨3840, 2160, 594000, 5280, 1056, 88, 2250, 8, 10, 2⟩,
  ⟨3840, 2160, 594000, 4400, 176, 88, 2250, 8, 10, 1⟩, ⟨3840, 2160, 533250, 4000, 48, 32, 2222, 3, 5, 15⟩]

/-- The mode of an index. -/
def modeOf (i : Nat) : Mode := if i < 12 then modesLow.getD i default else modesHigh.getD (i - 12) default

/-- The frame period's numerator over `pclk`, in ns (R106). -/
def Mode.pNum (m : Mode) : Nat := m.hTotal * m.vTotal * 1000000

/-- The frame period in ns, rounded up. -/
def Mode.pCeil (m : Mode) : Nat := ceilDiv m.pNum m.pclk

/-- A phase reduced modulo the frame period (R107); the remainder of a period that is a fraction is taken in whole ns, rounded down. DESIGN CHOICE, unsafe (log 185). -/
def Mode.reduce (m : Mode) (phase : Nat) : Nat := (phase * m.pclk % m.pNum) / m.pclk

/-! ### The grid (R108) -/

/-- Ceiling division of integers by a positive natural. -/
def ceilDivInt (a : Int) (b : Nat) : Int := -((-a) / (b : Int))

/-- Grid instant `k` of a time base, in ns of local PTP time. -/
def gridAt (m : Mode) (phase k : Int) : Int := phase + (k * m.pNum) / (m.pclk : Int)

/-- The first grid instant at or after time `t`. -/
def gridIndex (m : Mode) (phase t : Int) : Int := ceilDivInt ((t - phase) * m.pclk) m.pNum

/-- When line `y` of the frame that starts at `t` begins. -/
def lineAt (m : Mode) (t : Int) (y : Nat) : Int := t + (y * m.hTotal * 1000000 / m.pclk : Nat)

/-- When the active area of the frame that starts at `t` ends. DEDUCED, unsafe (log 49). -/
def activeEnd (m : Mode) (t : Int) : Int := t + (((m.h - 1) * m.hTotal + m.w) * 1000000 / m.pclk : Nat)

/-! ### Outputs -/

def State.out (s : State) (n : Nat) : OutSt := sparseGet {} s.outs n
def State.setOut (s : State) (n : Nat) (o : OutSt) : State := { s with outs := sparsePut {} s.outs n o }
def State.gateOut (s : State) (n : Nat) : GateOut := sparseGet {} s.gate n
def State.setGate (s : State) (n : Nat) (g : GateOut) : State := { s with gate := sparsePut {} s.gate n g }
def State.setCmt (s : State) (n : Nat) (c : CommitSt) : State := { s with commits := sparsePut {} s.commits n c }
def State.look (s : State) (n : Nat) : LookOut := sparseGet {} s.lko n
def State.setLook (s : State) (n : Nat) (l : LookOut) : State := { s with lko := sparsePut {} s.lko n l }

/-- STATE codes of CNP_OUT_CTRL (R112). -/
def osOff : Nat := 0
def osStarting : Nat := 1
def osRunning : Nat := 2
def osDraining : Nat := 3
def osResetting : Nat := 4

def State.outState (s : State) (n : Nat) : Nat := s.fld (Reg.CNP_OUT_CTRL_STATE n)
def State.mode (s : State) (n : Nat) : Mode := modeOf (s.fld (Reg.CNP_OUT_CTRL_MODE n))
def State.stand (s : State) (n : Nat) : Nat := s.fld (Reg.CNP_OUT_CTRL_STAND n)
def State.owner (s : State) (n : Nat) : Nat := s.fld (Reg.CNP_OUT_OWNER_PARTITION n)
def State.frameNo (s : State) (n : Nat) : Nat := s.rd (Reg.CNP_OUT_FRAME n)

/-- The output's state changed: EN is 1 in every state but OFF. -/
def State.setOutState (s : State) (n v : Nat) : State :=
  (s.setFld (Reg.CNP_OUT_CTRL_STATE n) v).setFld (Reg.CNP_OUT_CTRL_EN n) (if v == osOff then 0 else 1)

/-- Whether the output scans frames. -/
def State.scanning (s : State) (n : Nat) : Bool := s.outState n == osRunning || s.outState n == osDraining

/-- The start of the current frame, and of the next one, in local PTP ns. -/
def State.frameStart (s : State) (n : Nat) : Int := gridAt (s.mode n) (s.out n).base (s.out n).k
def State.nextStart (s : State) (n : Nat) : Int := gridAt (s.mode n) (s.out n).nextBase (s.out n).nextK

/-- The end of the current frame on its own time base. -/
def State.frameEnd (s : State) (n : Nat) : Int := gridAt (s.mode n) (s.out n).base ((s.out n).k + 1)

/-- Whether line `y` of the current frame has begun (R108). DEDUCED, unsafe (log 49). -/
def State.lineBegun (s : State) (n y : Nat) : Bool := lineAt (s.mode n) (s.frameStart n) y ≤ (s.ptpNs : Int)

/-- The current line as CNP_OUT_LINE shows it: (VBLANK, LINE), added blanking counted on from V total − 1 as V total − 1. -/
def State.currentLine (s : State) (n : Nat) : Bool × Nat :=
  let m := s.mode n
  let y := (((s.ptpNs : Int) - s.frameStart n) * m.pclk / (m.hTotal * 1000000 : Nat)).toNat
  (m.h ≤ y, min y (m.vTotal - 1))

/-- A stand's phase in ns (R107). -/
def State.standPhase (s : State) (k : Nat) : Nat := sparseGet 0 s.stands k

/-- The outputs of a stand that are enabled. -/
def State.standOutputs (s : State) (k : Nat) : List Nat :=
  (List.range 32).filter fun n => s.outState n != osOff && s.stand n == k

/-- The stand's phase set, and shown by its enabled outputs. -/
def State.setStandPhase (s : State) (k phase : Nat) : State :=
  (s.standOutputs k).foldl (fun t n => t.wr (Reg.CNP_OUT_PHASE n) phase)
    { s with stands := sparsePut 0 s.stands k phase }

/-! ### Rephase (R110) -/

/-- The next frame of a running output moves to the first grid instant of the stand's time base at or after the end of
its current frame. -/
def State.schedule (s : State) (n cause : Nat) : State :=
  let o := s.out n
  let m := s.mode n
  let e := s.frameEnd n
  let phase : Int := s.standPhase (s.stand n)
  let k := gridIndex m phase e
  let added := (gridAt m phase k - e).toNat
  s.setOut n { o with nextBase := phase, nextK := k, rephase := some (cause, added), later := none }

/-- The first frame of a starting output, at least two frame periods after its OUT_ENABLE was accepted (R113). -/
def State.scheduleFirst (s : State) (n : Nat) : State :=
  let o := s.out n
  let phase : Int := s.standPhase (s.stand n)
  s.setOut n { o with nextBase := phase, nextK := gridIndex (s.mode n) phase o.notBefore }

/-- One output meets a step of the PTP clock by `delta` ns (its times move with it) or a change of its stand's phase
(`delta` 0). A change during the added blanking of an earlier rephase waits for the end of the frame that follows. An output disabled in
STARTING has no frame to move. -/
def State.rephaseOutput (s : State) (n cause : Nat) (delta : Int) : State :=
  let o := s.out n
  let o1 := { o with base := o.base + delta, notBefore := o.notBefore + delta }
  if o.noFrame then s
  else if s.outState n == osStarting then (s.setOut n o1).scheduleFirst n
  else if s.scanning n then
    let inAdded := o.rephase.isSome && s.frameEnd n + delta ≤ s.ptpNs
    if inAdded then s.setOut n { o1 with nextBase := o.nextBase + delta, later := some cause }
    else (s.setOut n o1).schedule n cause
  else s

/-- A step of the local PTP clock by `delta` ns (the clock already reads the new time) rephases every output. -/
def State.rephaseAll (s : State) (cause : Nat) (delta : Int) : State :=
  (List.range 32).foldl (fun t n => t.rephaseOutput n cause delta) s

/-! ### Tolerance (R117, R36) -/

/-- The minimum tolerance of the running outputs, in ns; 0xFFFF when none is running (R36). -/
def State.minTol (s : State) : Nat :=
  (List.range 32).foldl (fun a n => if s.outState n == osOff then a else min a (s.fld (Reg.CNP_OUT_TOL_TOL_NS n))) 0xFFFF

/-- After a tolerance changed: MEM_TOL_MIN follows, and each stack leaves a power-down state whose exit latency exceeds
half the new minimum. -/
def State.tolChanged (s : State) : State :=
  let t := s.minTol
  let s1 := s.setFld Reg.MEM_TOL_MIN_TOL_NS t
  let leave (u : State) (k : Nat) : State :=
    if (u.fld (pdField k) == 1 && t < 80) || (u.fld (pdField k) == 2 && t < 4000) then
      ({ u with hbm := { u.hbm with down := u.hbm.down.filter fun c => c / 32 != k } }).showDown k
    else u
  leave (leave s1 0) 1

/-- A tolerance reported by output `n`. DESIGN CHOICE, unsafe (log 27). -/
def State.setTol (s : State) (n v : Nat) : State := (s.setFld (Reg.CNP_OUT_TOL_TOL_NS n) v).tolChanged

/-! ### Frame starts in registers, notices -/

/-- The last frame start's local PTP time (R122). DEDUCED, unsafe (log 50). -/
def State.putFstart (s : State) (n : Nat) (t : Int) : State :=
  let ns := t.toNat
  ((s.wr (Reg.CNP_OUT_FSTART_NS n) (ns % 10 ^ 9)).wr (Reg.CNP_OUT_FSTART_SEC_LO n) (ns / 10 ^ 9 % 2 ^ 32)).setFld
    (Reg.CNP_OUT_FSTART_SEC_HI_SEC n) (ns / 10 ^ 9 / 2 ^ 32)

/-- OUT_STATE (R126): flags bit 0 RESET, bit 1 NO_FRAME. -/
def State.outNotice (s : State) (n flags f : Nat) : State :=
  s.notice 0x0401 n [0, s.owner n] (pack [(1, n), (1, s.outState n), (1, flags), (1, 0), (4, f)])

end Sys2Proof.Machine
end

