-- ==== Sys2Proof/Machine/Pixels.lean ====
section
/-! DEFINITION. The composed picture (spec/05_layers_and_commits.md): pixel formats, colour conversion, scaling, blending. A
colour is a 30-bit word, red 29:20, green 19:10, blue 9:0. -/

namespace Sys2Proof.Machine

open Sys2Proof

/-- A 30-bit colour from its 10-bit components. -/
def rgb (r g b : Nat) : Nat := r % 1024 * 2 ^ 20 + g % 1024 * 2 ^ 10 + b % 1024

def redOf (c : Nat) : Nat := c / 2 ^ 20 % 1024
def greenOf (c : Nat) : Nat := c / 2 ^ 10 % 1024
def blueOf (c : Nat) : Nat := c % 1024

/-- An 8-bit component as 10 bits (R133). -/
def widen8 (c : Nat) : Nat := c * 4 + c / 64

/-- A converted pixel: colour and 8-bit alpha. -/
structure Px where
  col : Nat := 0
  alpha : Nat := 255
  deriving DecidableEq, Repr, Inhabited

/-! ### Colour conversion (R133) -/

/-- Kr and Kb × 10,000 of a matrix code: BT.601, BT.709, BT.2020 non-constant luminance. PRESUMED, unsafe (log 13). -/
def matrixK (m : Nat) : Nat × Nat := if m == 0 then (2990, 1140) else if m == 1 then (2126, 722) else (2627, 593)

/-- A quotient clamped to 0 to 1,023, its rounding left free. PRESUMED, unsafe (log 13). -/
def clampDiv (num : Int) (den : Nat) (up : Bool) : Nat :=
  let q := num / (den : Int)
  let v := if up && num % (den : Int) != 0 then q + 1 else q
  if v < 0 then 0 else min v.toNat 1023

/-- YCbCr (10 bits each) to RGB by matrix `m`, limited range unless `full`. PRESUMED, unsafe (log 13). -/
def yuvToRgb (m : Nat) (full : Bool) (y cb cr : Nat) : Nat :=
  let (kr, kb) := matrixK m
  let kg : Nat := 10000 - kr - kb
  let yn : Int := if full then y else (y : Int) - 64
  let yd : Nat := if full then 1023 else 876
  let cd : Nat := if full then 1023 else 896
  let bn : Int := (cb : Int) - 512
  let rn : Int := (cr : Int) - 512
  let up (c : Nat) : Bool := Config.roundUp (m + 4 * ofBool full) c y cb cr
  let r := clampDiv (1023 * (yn * cd * 10000 + rn * yd * (2 * (10000 - kr)))) (yd * cd * 10000) (up 0)
  let b := clampDiv (1023 * (yn * cd * 10000 + bn * yd * (2 * (10000 - kb)))) (yd * cd * 10000) (up 2)
  let g := clampDiv (1023 * (yn * cd * 10000 * kg - bn * yd * (2 * kb * (10000 - kb)) - rn * yd * (2 * kr * (10000 - kr))))
    (yd * cd * 10000 * kg) (up 1)
  rgb r g b

/-- An interpolated chroma sample from a weighted sum over 8; its rounding is left free. DEDUCED, unsafe (log 14). -/
def chroma8 (num : Nat) : Nat := num / 8 + (if num % 8 != 0 && Config.chromaUp (num / 8) (num % 8) then 1 else 0)

/-! ### Pixel formats (R130, R131) -/

/-- The bytes Canopy reads: a byte of memory by address. -/
abbrev Reader := Nat → Nat

def rd16 (rd : Reader) (a : Nat) : Nat := rd a + 256 * rd (a + 1)
def rd32 (rd : Reader) (a : Nat) : Nat := rd16 rd a + 65536 * rd16 rd (a + 2)

/-- An ARGB8888 word. -/
def argb8 (w : Nat) : Px :=
  { col := rgb (widen8 (w / 65536 % 256)) (widen8 (w / 256 % 256)) (widen8 (w % 256)), alpha := w / 16777216 % 256 }

/-- The 2-bit alpha of ARGB2101010 expanded (R130). -/
def alpha2 (a : Nat) : Nat := 85 * (a % 4)

/-- Chroma sample `j` of row `i` of plane 1 of a 4:2:0 picture: `c` 0 for Cb, 1 for Cr, as 10 bits. -/
def chroma420 (rd : Reader) (p : Pic) (i j c : Nat) : Nat :=
  if p.fmt == 3 then widen8 (rd (p.p1 + i * p.s1 + 2 * j + c))
  else rd16 rd (p.p1 + i * p.s1 + 4 * j + 2 * c) / 64

/-- Chroma of pixel (x, y) of a 4:2:0 picture at full resolution: on the even luma column, midway between two rows. -/
def chromaAt420 (rd : Reader) (p : Pic) (x y c : Nat) : Nat :=
  let j := x / 2
  let j2 := if x % 2 == 0 then j else min (j + 1) (p.w / 2 - 1)
  let i := y / 2
  let i2 := if y % 2 == 0 then i - 1 else min (i + 1) (p.h / 2 - 1)
  chroma8 (3 * (chroma420 rd p i j c + chroma420 rd p i j2 c) + chroma420 rd p i2 j c + chroma420 rd p i2 j2 c)

/-- The k-th 10-bit sample of a format 5 group of 16 bytes. -/
def sample422 (rd : Reader) (a k : Nat) : Nat := rd32 rd (a + 4 * (k / 3)) / 2 ^ (10 * (k % 3)) % 1024

/-- Luma of pixel x of a format 5 row at `a`; samples lie Cb0 Y0 Cr0 Y1 Cb2 Y2 Cr2 Y3 Cb4 Y4 Cr4 Y5. -/
def luma422 (rd : Reader) (a x : Nat) : Nat := sample422 rd (a + 16 * (x / 6)) (2 * (x % 6) + 1)

/-- Chroma of pixel pair j of a format 5 row. -/
def chroma422 (rd : Reader) (a j c : Nat) : Nat := sample422 rd (a + 16 * (j / 3)) (4 * (j % 3) + 2 * c)

/-- Chroma of pixel x of a format 5 row at full resolution. -/
def chromaAt422 (rd : Reader) (p : Pic) (a x c : Nat) : Nat :=
  let j := x / 2
  let j2 := if x % 2 == 0 then j else min (j + 1) (p.w / 2 - 1)
  chroma8 (4 * (chroma422 rd a j c + chroma422 rd a j2 c))

/-- Pixel (x, y) of a picture, converted (R133); `col` is the colour of an A8 layer, `m` and `full` its colour settings. -/
def pixelOf (rd : Reader) (p : Pic) (m : Nat) (full : Bool) (col x y : Nat) : Px :=
  let row := p.p0 + y * p.s0
  if p.fmt == 0 then argb8 (rd32 rd (row + 4 * x))
  else if p.fmt == 1 then
    let w := rd32 rd (row + 4 * x)
    { col := w % 2 ^ 30, alpha := alpha2 (w / 2 ^ 30) }
  else if p.fmt == 2 then
    { col := rgb (widen8 (rd (row + 3 * x + 2))) (widen8 (rd (row + 3 * x + 1))) (widen8 (rd (row + 3 * x))) }
  else if p.fmt == 3 then
    { col := yuvToRgb m full (widen8 (rd (row + x))) (chromaAt420 rd p x y 0) (chromaAt420 rd p x y 1) }
  else if p.fmt == 4 then
    { col := yuvToRgb m full (rd16 rd (row + 2 * x) / 64) (chromaAt420 rd p x y 0) (chromaAt420 rd p x y 1) }
  else if p.fmt == 5 then
    { col := yuvToRgb m full (luma422 rd row x) (chromaAt422 rd p row x 0) (chromaAt422 rd p row x 1) }
  else if p.fmt == 6 then { col := col % 2 ^ 30, alpha := rd (row + x) }
  else argb8 (rd32 rd (p.p1 + 4 * rd (row + x)))

/-- Whether a format carries alpha (R130). -/
def hasAlpha (fmt : Nat) : Bool := fmt == 0 || fmt == 1 || fmt == 6 || fmt == 7

/-- The bytes of one row of plane 0 (R131, R132). -/
def rowBytes (fmt w : Nat) : Nat :=
  if fmt ≤ 1 then 4 * w else if fmt == 2 then 3 * w else if fmt == 3 then w else if fmt == 4 then 2 * w
  else if fmt == 5 then ceilDiv w 6 * 16 else w

/-- Whether a format has a second plane. -/
def twoPlanes (fmt : Nat) : Bool := fmt == 3 || fmt == 4

/-! ### Scaling (R137 to R139) -/

/-- Taps of a filter (R138). DESIGN CHOICE, safe (log 15). -/
def filterTaps (f : Nat) : Nat := if f == 0 then 1 else if f == 1 then 2 else if f == 2 then 4 else 6

/-- sin(π m / 192) for m up to 192, in units of 2^-40, by its series to the thirteenth power. -/
def sine192 (m : Nat) : Int :=
  let one : Int := 2 ^ 40
  let x : Int := ((min m (192 - m) * 3454217652358 / 192 : Nat) : Int)
  let x2 := x * x / one
  x * ([156, 110, 72, 42, 20, 6].foldl (fun t d => one - x2 * t / (one * d)) one) / one

/-- How far tap `k` of a six-tap set lies from the position at a phase, in 64ths of a pixel. -/
def tapDistance (phase k : Nat) : Nat := (((64 * k : Nat) : Int) - 128 - phase).natAbs

/-- The six weights of the three-lobe Lanczos kernel at a phase, up to a common factor: sinc(d) sinc(d / 3) at each tap's distance d, whose
sin(π d) is the same for all taps but for its sign. -/
def lanczosWeights (phase : Nat) : List Int :=
  if phase == 0 then [0, 0, 1, 0, 0, 0]
  else (List.range 6).map fun k =>
    let a := tapDistance phase k
    let w := sine192 a * 2 ^ 20 / ((a * a : Nat) : Int)
    if a / 64 % 2 == 0 then w else -w

/-- The coefficients of a filter set at a phase of 64 and the unity they sum to (R138): BILINEAR and the Catmull-Rom cubic exactly; SHARP6 the
Lanczos kernel in the silicon's fraction bits, tap 2 what the others leave of unity; SOFT6 falling with a weight of the distance that is free. DESIGN CHOICE, safe (log 15). -/
def filterRow (f phase : Nat) : List Int × Nat :=
  let p : Int := phase
  if f == 0 then ([1], 1)
  else if f == 1 then ([64 - p, p], 64)
  else if f == 2 then
    ([128 * p * p - p * p * p - 4096 * p, 3 * p * p * p - 320 * p * p + 524288, 256 * p * p + 4096 * p - 3 * p * p * p,
      p * p * p - 64 * p * p], 524288)
  else if f == 3 then
    let w := lanczosWeights phase
    let sum := w.foldl (fun a b => a + b) 0
    let u : Nat := 2 ^ Config.filterBits
    let c (k : Nat) : Int :=
      let x := w.getD k 0 * (u : Int)
      if x % sum != 0 && Config.filterCoefUp phase k then x / sum + 1 else x / sum
    ([c 0, c 1, (u : Int) - (c 0 + c 1 + c 3 + c 4 + c 5), c 3, c 4, c 5], u)
  else
    let w := (List.range 6).map fun k => Config.softWeight (tapDistance phase k) + 1
    (w.map fun x => (x : Int), w.foldl (fun a b => a + b) 0)

/-- A weighted sum. -/
def weigh (c v : List Int) : Int := (List.zipWith (fun a b => a * b) c v).foldl (fun a b => a + b) 0

/-- One component filtered over rows of samples, horizontally first and then vertically (R138, R139), clamped to `most`. DESIGN CHOICE, safe
(log 15). DESIGN CHOICE, safe (log 15). -/
def filtered (f phaseX phaseY most : Nat) (rows : List (List Nat)) : Nat :=
  let (cx, ux) := filterRow f phaseX
  let (cy, uy) := filterRow f phaseY
  let num := weigh cy (rows.map fun r => weigh cx (r.map fun v => (v : Int)))
  let q := num / ((ux * uy : Nat) : Int)
  let v := if Config.filterUp f phaseX phaseY num && num % ((ux * uy : Nat) : Int) != 0 then q + 1 else q
  if v < 0 then 0 else min v.toNat most

/-- The source position of destination pixel `i` in 64ths of a source pixel, from the crop's edge (R137); quantised to
the nearest, halves up. DEDUCED, unsafe (log 14). -/
def sourcePos (i cw ow : Nat) : Int := (((2 * i + 1) * cw * 64 + ow : Nat) : Int) / ((2 * ow : Nat) : Int) - 32

/-- The source indices under the taps at a position, clamped to the crop of `cw` pixels. DEDUCED, unsafe (log 14). -/
def tapIndices (f : Nat) (pos : Int) (cw : Nat) : List Nat :=
  let t := filterTaps f
  let clampI (v : Int) : Nat := if v < 0 then 0 else min v.toNat (cw - 1)
  if t == 1 then [clampI ((pos + 32) / 64)]
  else (List.range t).map fun k => clampI (pos / 64 - (t / 2 : Nat) + 1 + k)

/-- One layer as Canopy scans it: flags, filter, scalers in use, colour settings, geometry, its box when it is
service-altered, its picture. -/
structure LayerView where
  en : Bool := false
  opq : Bool := false
  premult : Bool := false
  ign : Bool := false
  filter : Nat := 0
  scalers : Nat := 0
  alpha : Nat := 255
  matrix : Nat := 0
  full : Bool := false
  crop : Rect := {}
  dst : Rect := {}
  box : Option Rect := none
  pic : Option Pic := none
  col : Nat := 0
  deriving DecidableEq, Repr, Inhabited

/-- Whether a rectangle includes a point. -/
def Rect.has (r : Rect) (x y : Nat) : Bool := r.x ≤ x && x < r.x + r.w && r.y ≤ y && y < r.y + r.h

/-- Whether the layer is scaled (R137). -/
def LayerView.scaled (v : LayerView) : Bool := v.dst.w != v.crop.w || v.dst.h != v.crop.h

/-- A source pixel of the layer at crop coordinates; none beyond the picture (R567). DESIGN CHOICE, unsafe (log 226). -/
def LayerView.source (v : LayerView) (rd : Reader) (i j : Nat) : Option Px :=
  match v.pic with
  | none => none
  | some p => if v.crop.x + i < p.w && v.crop.y + j < p.h
              then some (pixelOf rd p v.matrix v.full v.col (v.crop.x + i) (v.crop.y + j)) else none

/-- A scaled pixel: nearest takes the source pixel, the polyphase filters act on the stored components and the alpha. DESIGN CHOICE, safe (log 15). -/
def LayerView.filteredPx (v : LayerView) (rd : Reader) (px py : Int) : Option Px :=
  let nx := ((px + 32) / 64).toNat
  let ny := ((py + 32) / 64).toNat
  match v.source rd nx ny with
  | none => none
  | some p0 =>
    if v.filter == 0 then some p0
    else
      let w := match v.pic with
        | some p => min v.crop.w (p.w - v.crop.x)
        | none => v.crop.w
      let h := match v.pic with
        | some p => min v.crop.h (p.h - v.crop.y)
        | none => v.crop.h
      let rows := (tapIndices v.filter py h).map fun j => (tapIndices v.filter px w).map fun i => (v.source rd i j).getD {}
      let c (most : Nat) (f : Px → Nat) : Nat := filtered v.filter (px % 64).toNat (py % 64).toNat most (rows.map fun r => r.map f)
      some { col := rgb (c 1023 fun p => redOf p.col) (c 1023 fun p => greenOf p.col) (c 1023 fun p => blueOf p.col)
             alpha := c 255 fun p => p.alpha }

/-- What the layer contributes at (x, y): nothing outside its destination; the clearing colour, opaque, where R140 or R567
fills (`none` inside); else a converted pixel. -/
def LayerView.at (v : LayerView) (rd : Reader) (x y : Nat) : Option (Option Px) :=
  if !v.en || !v.dst.has x y then none
  else if (match v.box with
    | some b => !b.has x y
    | none => false) then some none
  else
    let i := x - v.dst.x
    let j := y - v.dst.y
    if v.scalers == 1 && 2560 ≤ i then some none
    else if !v.scaled then some (v.source rd i j)
    else if v.scalers == 0 then (if i < v.crop.w && j < v.crop.h then some (v.source rd i j) else some none)
    else some (v.filteredPx rd (sourcePos i v.crop.w v.dst.w) (sourcePos j v.crop.h v.dst.h))

/-- One component blended over what lies below (R134). -/
def blend1 (premult : Bool) (a planeAlpha c below : Nat) : Nat :=
  min 1023 (if premult then (c * planeAlpha + (255 - a) * below + 127) / 255 else (a * c + (255 - a) * below + 127) / 255)

/-- A layer pixel blended over `below` (R134). -/
def LayerView.blend (v : LayerView) (p : Px) (below : Nat) : Nat :=
  let hasA := match v.pic with
    | some q => hasAlpha q.fmt
    | none => false
  let alpha8 := if !hasA || v.ign || v.opq then 255 else p.alpha
  let a := (alpha8 * v.alpha + 127) / 255
  let f (c : Nat → Nat) : Nat := blend1 v.premult a v.alpha (c p.col) (c below)
  rgb (f redOf) (f greenOf) (f blueOf)

/-- Whether a pixel is culled under layers higher in the stack: an opaque one covers it (R136). -/
def culled (above : List LayerView) (x y : Nat) : Bool := above.any fun v => v.en && v.opq && v.dst.has x y

/-- The layers that are not culled at a pixel: the topmost opaque one that covers it and those above (R136). -/
def unculled (x y : Nat) : List (LayerView × Reader) → List (LayerView × Reader)
  | [] => []
  | v :: t => if culled (t.map fun u => u.1) x y then unculled x y t else v :: t

/-- The composed pixel at (x, y): layers blended from slot 0 upward over the background (R134); culled pixels are never blended (R136). -/
def composePixel (layers : List (LayerView × Reader)) (bg clear x y : Nat) : Nat :=
  (unculled x y layers).foldl (fun below v =>
    match v.1.at v.2 x y with
    | none => below
    | some none => clear
    | some (some p) => v.1.blend p below) bg

end Sys2Proof.Machine
end

