-- ==== Sys2Proof/Machine/Gate.lean ====
section
/-! DEFINITION. The scan gate (spec/03_scan_gate.md): span sets, sampling, the merge rule, treatments. -/

namespace Sys2Proof.Machine

open Sys2Proof

/-! ### Span entries (R80) -/

/-- The entry 16 bytes spell; non-zero reserved bits act as FORCE_VOID (R82). -/
def spanOf (b : List Byte) : SpanEnt :=
  let w := fieldAt b 0 4
  let bad := bitsAt w 31 30 != 0 || fieldAt b 12 4 != 0
  { cell := bitsAt w 19 0, layer := bitsAt w 22 20, opq := bitAt w 23, corner := bitsAt w 25 24, size := bitsAt w 27 26,
    noBadge := bitAt w 28, forced := bitAt w 29 || bad, x0 := fieldAt b 4 2, x1 := fieldAt b 6 2, y0 := fieldAt b 8 2,
    y1 := fieldAt b 10 2, bad := bad }

/-- The 16 bytes of an entry. -/
def SpanEnt.bytes (e : SpanEnt) : List Byte :=
  pack [(4, e.cell % 2 ^ 20 + e.layer % 8 * 2 ^ 20 + ofBool e.opq * 2 ^ 23 + e.corner % 4 * 2 ^ 24 + e.size % 4 * 2 ^ 26 +
    ofBool e.noBadge * 2 ^ 28 + ofBool e.forced * 2 ^ 29), (2, e.x0), (2, e.x1), (2, e.y0), (2, e.y1), (4, 0)]

/-- The internal address of span set `k` of output `n`. -/
def State.spanBase (s : State) (n k : Nat) : Nat :=
  s.rd (Reg.GATE_OUT_SPAN_BASE_LO n) + 2 ^ 32 * s.fld (Reg.GATE_OUT_SPAN_BASE_HI_ADDR n) + 0x40000 * k

def State.activeSet (s : State) (n : Nat) : Nat := s.fld (Reg.GATE_OUT_STAT_SET n)
def State.activeCount (s : State) (n : Nat) : Nat := s.fld (Reg.GATE_OUT_STAT_COUNT n)
def State.stagedCount (s : State) (n : Nat) : Nat := s.fld (Reg.GATE_OUT_STAGE_COUNT n)

/-- The first `count` entries of a span set, with their numbers, as the firmware reads them. -/
def State.spanSet (s : State) (n k count : Nat) : List (Nat × SpanEnt) × State :=
  let (b, t) := s.fwRead (s.spanBase n k) (16 * count)
  ((List.range count).map fun i => (i, spanOf ((b.drop (16 * i)).take 16)), t)

/-- Entries written by the firmware from the start of a span set. -/
def State.writeSpans (s : State) (n k : Nat) (l : List SpanEnt) : State := s.fwWrite (s.spanBase n k) (l.flatMap SpanEnt.bytes)

/-- Entry `i` of the active set, read by the gate as a fill of its output (R16, R82). A poisoned entry acts as one with FORCE_VOID. DESIGN CHOICE,
unsafe (log 187). -/
def State.fetchSpan (s : State) (n i : Nat) : SpanEnt × State :=
  let (b, _, _, poisoned, t) := s.fillLoad n (s.spanBase n (s.activeSet n) + 16 * i) 16
  let e := spanOf b
  ({ e with forced := e.forced || poisoned }, t)

/-- The entries from number `i` whose Y0 does not lie below line `y` (R82); `k` bounds how many. DESIGN CHOICE, unsafe (log 187). -/
def State.loadFrom (s : State) (n y i : Nat) : Nat → List (Nat × SpanEnt) × State
  | 0 => ([], s)
  | k + 1 =>
    let (e, t) := s.fetchSpan n i
    if y < e.y0 then ([], t)
    else
      let (l, u) := State.loadFrom t n y (i + 1) k
      ((i, e) :: l, u)

/-- The active list brought up to line `y`; at line 0 the gate also reads the whole set, for what its texts and the whole-layer override need (R86,
R92). DESIGN CHOICE, unsafe (log 187). -/
def State.loadLine (s : State) (n y : Nat) : State :=
  let have_ := (s.gateOut n).loaded
  let (l, t) := s.loadFrom n y have_.length (s.activeCount n - have_.length)
  let u := t.setGate n { t.gateOut n with loaded := have_ ++ l }
  if y == 0 then
    let (all, v) := (List.range (u.activeCount n)).foldl (fun (p : List (Nat × SpanEnt) × State) i =>
      let (e, w) := p.2.fetchSpan n i
      (p.1 ++ [(i, e)], w)) ([], u)
    v.setGate n { v.gateOut n with whole := all }
  else u

/-- Whether an entry has a lower Y0 than the one before it (R82). -/
def disordered : List (Nat × SpanEnt) → Bool
  | a :: b :: t => b.2.y0 < a.2.y0 || disordered (b :: t)
  | _ => false

/-! ### Severity (R85) -/

/-- VOID, STALE, RECOVERING, LIVE from most to least severe. -/
def severity (st : Nat) : Nat := if st == csVoid then 3 else if st == csStale then 2 else if st == csRecovering then 1 else 0

def LineSpan.eff (p : LineSpan) : Nat := if p.forced then csVoid else p.state

/-- Whether `a` is chosen over `b`: more severe, then the higher layer, then the later entry. -/
def LineSpan.beats (a b : LineSpan) : Bool :=
  let sa := severity a.eff
  let sb := severity b.eff
  sb < sa || (sa == sb && (b.layer < a.layer || (a.layer == b.layer && b.idx ≤ a.idx)))

/-- The most severe of a list. -/
def worst : List LineSpan → Option LineSpan
  | [] => none
  | p :: t => match worst t with
    | none => some p
    | some q => if p.beats q then some p else some q

/-- The chosen span among those that cover a pixel (R85). -/
def chosen (l : List LineSpan) : Option LineSpan :=
  let top := l.foldl (fun a p => if p.opq then max a p.layer else a) 0
  worst (l.filter fun p => top ≤ p.layer)

/-! ### Sampling (R86 to R88) -/

/-- A cell's state as the gate reads it through the replica of slice `n / 4`, with its age basis. -/
def State.gateState (s : State) (n cell : Nat) : Nat × Option (Nat × Bool) :=
  if !s.staleBit (n / 8) cell then (csLive, none)
  else match s.windfallOf cell with
    | some e => (e.state, some (e.confirmedAt, e.saturated))
    | none => (csVoid, none)

/-- Whether the TORN override of a layer is held, by Canopy's checks or by Lookout's FREEZE_HOLD (R157, R176). -/
def State.tornHeld (s : State) (n k : Nat) : Bool := s.isSet (Reg.CNP_LAYER_STAT_TORN_HOLD n k)

/-- Whether R25 treats every span of the output's slice as STALE. -/
def State.allStale (s : State) (n : Nat) : Bool := bitAt (s.fld Reg.GATE_STATUS_ALL_STALE) (n / 4)

/-- A span entry sampled, clipped to the active area, with the TORN and ALL_STALE overrides. -/
def State.sampleSpan (s : State) (n : Nat) (m : Mode) (i : Nat) (e : SpanEnt) : LineSpan :=
  let (st, basis) := s.gateState n e.cell
  let lapsed := (s.tornHeld n e.layer || s.allStale n) && (st == csLive || st == csRecovering)
  { idx := i, layer := e.layer, opq := e.opq, corner := e.corner, size := e.size, noBadge := e.noBadge, forced := e.forced,
    x0 := min e.x0 m.w, x1 := min e.x1 m.w, y0 := min e.y0 m.h, y1 := min e.y1 m.h,
    state := if lapsed then csStale else st, basis := if lapsed then none else basis }

/-- The whole-layer override of a service-altered layer (R86, R140): every span of it takes the most severe one's state. -/
def State.alteredState (s : State) (n : Nat) (m : Mode) (p : LineSpan) : LineSpan :=
  if s.isSet (Reg.CNP_LAYER_STAT_SVC_ALTERED n p.layer) then
    let all := (s.gateOut n).whole.filter fun e => e.2.layer == p.layer
    match worst (all.map fun e => s.sampleSpan n m e.1 e.2) with
    | some q => { p with state := q.eff, basis := q.basis }
    | none => p
  else p

/-- A span's state on a line: read at this line's sample point, or in frame-coherent mode held from its first line. -/
def holdState (g : GateOut) (frameMode : Bool) (p : LineSpan) : LineSpan :=
  if frameMode then
    match sparseFind g.held p.idx with
    | some v => { p with state := v.1, basis := v.2 }
    | none => p
  else p

/-! ### Badge text (R92) -/

/-- The decimal digits of a number, at least one. -/
def digits (n : Nat) : List Nat := if n < 10 then [n] else if n < 100 then [n / 10, n % 10] else [n / 100 % 10, n / 10 % 10, n % 10]

/-- The glyph codes of a badge: s 10, m 11, h 12, + 13, ? 14. -/
def badgeText (now : Nat) (basis : Option (Nat × Bool)) : List Nat :=
  match basis with
  | none => [14, 14]
  | some (conf, sat) =>
    let a := wrapSub 40 now conf * 1024 / 10 ^ 9
    if sat || 360000 ≤ a then [9, 9, 12, 13]
    else if 3600 ≤ a then digits (a / 3600) ++ [12]
    else if 60 ≤ a then digits (a / 60) ++ [11]
    else digits a ++ [10]

/-- The text a STALE span shows in this frame: the one latched for it (R92), "??" without an age basis. -/
def GateOut.text (g : GateOut) (p : LineSpan) : List Nat :=
  if p.basis.isNone then [14, 14] else (sparseFind g.texts p.idx).getD (badgeText g.latch.now p.basis)

/-- Texts added for spans that have an age basis and none yet, at the age `now`. DESIGN CHOICE, unsafe (log 186). -/
def addTexts (now : Nat) (l : List LineSpan) (texts : List (Nat × List Nat)) : List (Nat × List Nat) :=
  l.foldl (fun a p => if p.basis.isSome && (sparseFind a p.idx).isNone then sparseIns a p.idx (badgeText now p.basis) else a) texts

/-! ### Glyphs and plates (R93, R94, R96) -/

def glyphW (size : Nat) : Nat := if size == 0 then 8 else if size == 1 then 12 else if size == 2 then 16 else 24
def glyphH (size : Nat) : Nat := if size == 0 then 12 else if size == 1 then 18 else if size == 2 then 24 else 36
def plateW (size : Nat) : Nat := 4 * glyphW size + 7
def plateH (size : Nat) : Nat := glyphH size + 4

/-- A row of glyph `g`'s mask: glyph 15 is blank (R93). DESIGN CHOICE, safe (log 11). -/
def glyphMask (g size row : Nat) : Nat := if g == 15 then 0 else Config.glyphRow g size row

/-- Whether glyph `g` has its mask set at column `x`, row `y`. DESIGN CHOICE, safe (log 11). -/
def glyphBit (g size x y : Nat) : Bool := bitAt (glyphMask g size y) x

/-- The largest badge size from `size` down whose plate fits a w × h span. -/
def fitSize (w h : Nat) : Nat → Option Nat
  | 0 => if plateW 0 ≤ w && plateH 0 ≤ h then some 0 else none
  | k + 1 => if plateW (k + 1) ≤ w && plateH (k + 1) ≤ h then some (k + 1) else fitSize w h k

/-- The badge size a span shows, none where it is omitted (R94). -/
def LineSpan.badge (p : LineSpan) : Option Nat := if p.noBadge then none else fitSize (p.x1 - p.x0) (p.y1 - p.y0) p.size

/-- Top-left corner of a plate in a span (R93). -/
def plateAt (corner size x0 x1 y0 y1 : Nat) : Nat × Nat :=
  (if corner == 0 || corner == 2 then x0 else x1 - plateW size, if corner ≤ 1 then y0 else y1 - plateH size)

/-- The badge pixel at (x, y), for a plate at `b`: glyph or plate colour, none outside the plate. -/
def badgePixel (text : List Nat) (size : Nat) (b : Nat × Nat) (plate glyph x y : Nat) : Option Nat :=
  let w := glyphW size
  if b.1 ≤ x && x < b.1 + plateW size && b.2 ≤ y && y < b.2 + plateH size then
    let u := x - b.1
    let v := y - b.2
    if u < 2 || v < 2 || glyphH size ≤ v - 2 then some plate
    else
      let k := (u - 2) / (w + 1)
      let c := (u - 2) % (w + 1)
      if k < 4 && c < w && glyphBit (text.getD k 15) size c (v - 2) then some glyph else some plate
  else none

/-- The largest glyph size at which a number of `n` digits fits a w × h area (R96). -/
def numberSize (n w h : Nat) : Nat → Option Nat
  | 0 => if n * glyphW 0 + n - 1 ≤ w && glyphH 0 ≤ h then some 0 else none
  | k + 1 => if n * glyphW (k + 1) + n - 1 ≤ w && glyphH (k + 1) ≤ h then some (k + 1) else numberSize n w h k

/-- Whether (x, y) is a glyph pixel of the output number centred in an area (R96). -/
def numberPixel (num x0 y0 w h x y : Nat) : Bool :=
  let ds := digits num
  match numberSize ds.length w h 3 with
  | none => false
  | some sz =>
    let gw := glyphW sz
    let bx := x0 + (w - (ds.length * gw + ds.length - 1)) / 2
    let bY := y0 + (h - glyphH sz) / 2
    if bx ≤ x && bY ≤ y && y < bY + glyphH sz then
      let k := (x - bx) / (gw + 1)
      let c := (x - bx) % (gw + 1)
      k < ds.length && c < gw && glyphBit (ds.getD k 15) sz c (y - bY)
    else false

/-! ### Treatments (R90 to R98) -/

def FrameLatch.col (l : FrameLatch) (k : Nat) : Nat := l.cols.getD k 0

/-- One component under the hatch. -/
def hatch1 (a c i : Nat) : Nat := (a * c + (255 - a) * i + 127) / 255

/-- The deadwood hatch (R90). -/
def hatch (l : FrameLatch) (x y i : Nat) : Nat :=
  let first := (x + y) % 12 < 6
  let c := if first then l.col 0 else l.col 1
  let a := if first then l.alphaA else l.alphaB
  rgb (hatch1 a (redOf c) (redOf i)) (hatch1 a (greenOf c) (greenOf i)) (hatch1 a (blueOf c) (blueOf i))

/-- The clearing pattern in an area (R96). -/
def clearing (l : FrameLatch) (num x0 y0 w h x y : Nat) : Nat :=
  if bitAt l.cfg 12 && numberPixel num x0 y0 w h x y then l.col 6 else l.col 5

/-- Items 2 and 3 of R79 on a pixel: the new colour, if the chosen span's treatment paints it. -/
def treatPixel (g : GateOut) (n : Nat) (p : LineSpan) (x y i : Nat) : Option Nat :=
  let l := g.latch
  if p.eff == csVoid then some (clearing l n p.x0 p.y0 (p.x1 - p.x0) (p.y1 - p.y0) x y)
  else if p.eff == csStale then
    match p.badge with
    | none => some (hatch l x y i)
    | some sz =>
      some ((badgePixel (g.text p) sz (plateAt p.corner sz p.x0 p.x1 p.y0 p.y1) (l.col 2) (l.col 3) x y).getD (hatch l x y i))
  else if p.eff == csRecovering then (if x % 16 < 2 && y % 16 < 2 then some (l.col 4) else none)
  else none

/-- A dispute rectangle over the result of items 1 to 3 (R97). -/
def disputePixel (l : FrameLatch) (d : Nat × Nat × Nat × Nat) (x y i : Nat) : Option Nat :=
  let (x0, x1, y0, y1) := d
  if x0 ≤ x && x < x1 && y0 ≤ y && y < y1 then
    match fitSize (x1 - x0) (y1 - y0) 3 with
    | none => some (hatch l x y i)
    | some sz => some ((badgePixel [14, 14] sz (x0, y0) (l.col 2) (l.col 3) x y).getD (hatch l x y i))
  else none

/-- The pulse mark's pixel, none outside the mark (R98). -/
def pulsePixel (l : FrameLatch) (m : Mode) (f x y : Nat) : Option Nat :=
  if !bitAt l.cfg 9 then none
  else
    let inset := bitsAt l.cfg 7 0
    let corner := bitsAt l.cfg 11 10
    let x0 := if corner == 0 || corner == 2 then inset else m.w - inset - 16
    let y0 := if corner ≤ 1 then inset else m.h - inset - 16
    if x0 ≤ x && x < x0 + 16 && y0 ≤ y && y < y0 + 16 then
      let i := (x - x0) / 4
      let j := (y - y0) / 4
      if 4 * j + i == f % 16 then some (l.col 9)
      else if (i + j + f) % 2 == 1 then some (l.col 8) else some (l.col 7)
    else none

/-- What the gate makes of a pixel (R79): its colour, whether an item from 2 to 6 painted it, the entry whose badge is
omitted there, whether more than 16 spans cover it. -/
structure GatePx where
  col : Nat := 0
  painted : Bool := false
  omits : Option Nat := none
  deep : Bool := false
  deriving DecidableEq, Repr, Inhabited

/-- R79 items 2 to 6 at pixel (x, y) whose composed colour is `i`, on output `n` in frame `f`. A line or run of pixels cleared by R82 takes the
clearing colour alone; where dispute rectangles overlap, the one with the highest index decides the pixel. DESIGN CHOICE, unsafe (log 181, 182, 183). -/
def gatePixel (g : GateOut) (m : Mode) (n f x y i : Nat) : GatePx :=
  let l := g.latch
  let cover := g.spans.filter fun p => p.x0 ≤ x && x < p.x1
  let deep := 16 < cover.length
  let pick := chosen cover
  let t := if g.lineVoid || deep then some (l.col 5)
    else match pick with
      | none => none
      | some p => treatPixel g n p x y i
  let omits := if g.lineVoid || deep then none
    else match pick with
      | some p => if p.eff == csStale && p.badge.isNone then some p.idx else none
      | none => none
  let c1 := t.getD i
  let d := (g.disputes.filterMap fun d => disputePixel l d x y c1).getLast?
  let c2 := d.getD c1
  let v := if l.void then some (clearing l n 0 0 m.w m.h x y) else none
  let c3 := v.getD c2
  let q := pulsePixel l m f x y
  { col := q.getD c3, painted := t.isSome || d.isSome || v.isSome || q.isSome, omits := omits,
    deep := deep && !g.lineVoid }

/-- The number of maximal runs of true. -/
def runsOf : List Bool → Bool → Nat
  | [], _ => 0
  | b :: t, prev => (if b && !prev then 1 else 0) + runsOf t b

/-! ### Span faults (R82, R103) -/

/-- A GATE_OUT_STAT condition met in this frame. DEDUCED, unsafe (log 45, 48). -/
def State.gateFault (s : State) (n bit : Nat) : State :=
  let a := Reg.GATE_OUT_STAT n
  let g := s.gateOut n
  let wasSet := bitAt (s.rd a) bit
  let s1 := s.raise ⟨a, bit, bit⟩
  let s2 := if wasSet then s1
    else s1.notice 0x0301 (n * 32 + bit) [0, s.owner n]
      (pack [(1, n), (1, bit), (2, 0), (4, s.rd (Reg.GATE_OUT_CNT_LATE n))])
  if g.faultNow.contains bit then s2
  else
    let s3 := s2.setGate n { s2.gateOut n with faultNow := bit :: g.faultNow }
    let key := n * 32 + bit
    let r := s3.run 0x18 key
    if r.count != 0 && s3.tick ≤ r.first + 10 * ticksPerMs then
      if r.count == 1 then (s3.setRun 0x18 key { r with count := 2 }).logFault 0x18 2 n r.injected bit else s3
    else s3.setRun 0x18 key { count := 1, first := s3.tick }

end Sys2Proof.Machine
end

