-- ==== Sys2Proof/Machine/Lookout.lean ====
section
/-! DEFINITION. The Lookout signature monitor (spec/06_lookout.md): the region table, signatures, verdicts, return
signatures; and whether an output's frames are being sent (R318). -/

namespace Sys2Proof.Machine

open Sys2Proof

/-! ### Sending (R318) -/

/-- Word `k` of the partner of KLN lane `i` (R315). -/
def State.partnerWord (s : State) (i k : Nat) : Nat := s.rd (Reg.KLN_PCAP_LO i k) + 2 ^ 32 * s.rd (Reg.KLN_PCAP_HI i k)

/-- The conditions of R318 under which TX is 1. -/
def State.mayTx (s : State) (n : Nat) : Bool :=
  s.scanning n && s.laneActive n && bitAt (s.partnerWord n 2) (s.fld (Reg.CNP_OUT_CTRL_MODE n)) && s.drives

/-- TX written in both registers that show it. -/
def State.putTx (s : State) (n v : Nat) : State :=
  (s.setFld (Reg.CNP_OUT_CTRL_TX n) v).setFld (Reg.KLN_STAT_TX n) v

def State.txOn (s : State) (n : Nat) : Bool := s.isSet (Reg.CNP_OUT_CTRL_TX n)

/-- TX falls as soon as a condition fails; it rises only at a frame start. -/
def State.settleTx (s : State) (n : Nat) : State := if s.txOn n && !s.mayTx n then s.putTx n 0 else s

/-! ### The region table (R166) -/


def State.region (s : State) (r : Nat) : RegionSt := sparseGet {} s.regions r
def State.setRegion (s : State) (r : Nat) (x : RegionSt) : State := { s with regions := sparsePut {} s.regions r x }

def State.rgCtrl (s : State) (r : Nat) : Nat := s.rd (regionBase r)
def State.rgState (s : State) (r : Nat) : Nat := s.rd (regionBase r + 28)
def State.rgSig (s : State) (r : Nat) : Nat := s.rd (regionBase r + 24)
def State.rgRef (s : State) (r : Nat) : Nat := s.rd (regionBase r + 16)
def State.rgCell (s : State) (r : Nat) : Nat := s.rd (regionBase r + 12) % 2 ^ 20

/-- EDGES of a region: X0, X1, Y0, Y1. -/
def State.rgEdges (s : State) (r : Nat) : Nat × Nat × Nat × Nat :=
  let x := s.rd (regionBase r + 4)
  let y := s.rd (regionBase r + 8)
  (x % 65536, x / 65536, y % 65536, y / 65536)

/-- A bit or field of STATE written. -/
def State.rgSet (s : State) (r hi lo v : Nat) : State := s.wr (regionBase r + 28) (withBits (s.rgState r) hi lo v)

def ctrlKind (c : Nat) : Nat := bitsAt c 10 8
def ctrlEn (c : Nat) : Bool := bitAt c 11 && within 1 4 (ctrlKind c)
def ctrlPair (c : Nat) : Bool := bitAt c 12
def ctrlMark (c : Nat) : Bool := bitAt c 13
def ctrlArm (c : Nat) : Bool := bitAt c 14
def ctrlSlot (c : Nat) : Nat := bitsAt c 18 16
def ctrlFreeze (c : Nat) : Nat := bitsAt c 31 24

/-- Regions whose CTRL is not zero, lowest number first. -/
def State.regionList (s : State) : List Nat :=
  (s.regs.filter fun p => 0x800000 ≤ p.1 && p.1 < 0x880000 && p.1 % 32 == 0).map fun p => (p.1 - 0x800000) / 32

/-- The enabled regions of an output. -/
def State.enabledOn (s : State) (n : Nat) : List Nat :=
  s.regionList.filter fun r => ctrlEn (s.rgCtrl r) && ctrlOut (s.rgCtrl r) == n

/-- LKO_REGION_DISABLED (R190): 0 pulse mark, 1 layer change, 2 ECC, 3 mode change. -/
def State.regionGone (s : State) (r cause : Nat) : State :=
  s.notice 0x0508 r [0, (s.region r).owner] (pack [(2, r), (1, ctrlOut (s.rgCtrl r)), (1, cause)])

/-! ### Releases of the TORN override and forced states (R176, R177) -/

/-- The override of a layer follows its two holders. -/
def State.tornFollow (s : State) (n k : Nat) : State :=
  let l := sparseGet ({} : LayerSt) (s.cmt n).layers k
  s.setFld (Reg.CNP_LAYER_STAT_TORN_HOLD n k) (ofBool (l.tornHold || l.freezeHold))

def State.setLayer (s : State) (n k : Nat) (l : LayerSt) : State :=
  s.setCmt n { s.cmt n with layers := sparsePut {} (s.cmt n).layers k l }

/-- FREEZE_HOLD of a layer: held while any region of the output on its slot holds it. DEDUCED, unsafe (log 151). -/
def State.freezeFollow (s : State) (n k : Nat) : State :=
  let held := s.regionList.any fun r => ctrlOut (s.rgCtrl r) == n && ctrlSlot (s.rgCtrl r) == k && bitAt (s.rgState r) 15
  (s.setLayer n k { s.layer n k with freezeHold := held }).tornFollow n k

/-- A region rewritten during a frame: its image serves the frame to the end (R168), but its working state and its stamps, which belonged to the entry
before, are gone. -/
def State.dropRun (s : State) (r : Nat) : State :=
  (List.range 32).foldl (fun t n =>
    let l := t.look n
    if (l.runs.any fun x => x.num == r) || (l.stamps.any fun x => x.1 == r) || l.nextStamps.any (fun x => x.1 == r) then
      t.setLook n { l with
        runs := l.runs.map fun x => if x.num == r then { x with rewritten := true } else x
        stamps := l.stamps.filter fun x => x.1 != r
        nextStamps := l.nextStamps.filter fun x => x.1 != r }
    else t) s

/-- A rewrite that changes CTRL, the rectangle, CELL or SLOT clears the working state, RUN and STATE bits [15:12] (R168), and with
them what the region holds; the region's run of INCONSISTENT frames ends with it. A region on an OFF output has verdict NONE (R171). DEDUCED, unsafe (log 151). -/
def State.clearRegion (s : State) (r : Nat) : State :=
  let s1 := ((s.dropRun r).setRegion r { s.region r with prev := none, pipe := false }).rgSet r 15 12 0
  let s2 := if s.outState (ctrlOut (s.rgCtrl r)) == osOff then s1.rgSet r 11 8 0 else s1
  ((s2.rgSet r 7 0 0).setRun 0x1A r {}).freezeFollow (ctrlOut (s.rgCtrl r)) (ctrlSlot (s.rgCtrl r))

/-- R47, R176: region `r` forces its cell STALE, with the effect of LDG_CELL_FORCE on an allocated cell other than the static one; the region
remembers what it changed. DESIGN CHOICE, unsafe (log 194). -/
def State.forceStale (s : State) (r n : Nat) : State :=
  if (s.cell n).ownerKind == 0 || (s.cell n).ownerKind == 6 then s
  else s.onCell n fun t =>
    let c := t.cell n
    (t.settleCell n { c with state := csStale }).setRegion r
      { t.region r with forced := if c.state == csStale then (t.region r).forced else some (n, c.state, c.confirmedAt) }

/-- R188: the forced state that a region holds is released: a cell that no confirmation has reached since returns to the STATE it had, unless its
deadline has passed. DESIGN CHOICE, unsafe (log 194). -/
def State.releaseForced (s : State) (r : Nat) : State :=
  match (s.region r).forced with
  | none => s
  | some (n, st, at_) =>
    (s.setRegion r { s.region r with forced := none }).onCell n fun t =>
      let c := t.cell n
      if c.ownerKind == 0 || c.state != csStale || c.confirmedAt != at_ || passed t.now40 c.deadline then t
      else (t.settleCell n { c with state := st }).fileCell n

/-- LKO_FROZEN (R190). -/
def State.frozenNotice (s : State) (r f action : Nat) (pipe cleared : Bool) : State :=
  s.notice 0x0501 r [0, (s.region r).owner]
    (pack [(2, r), (1, ctrlOut (s.rgCtrl r)), (1, ofBool pipe + 2 * ofBool cleared), (4, f), (1, s.rgState r % 256),
      (1, action), (2, 0)])

/-- FROZEN, FROZEN_PIPE and FREEZE_HOLD clear (R177). -/
def State.thaw (s : State) (r f : Nat) : State :=
  let st := s.rgState r
  if !bitAt st 12 then s
  else
    let c := s.rgCtrl r
    let s1 := ((s.rgSet r 13 12 0).rgSet r 15 15 0).rgSet r 7 0 0
    let s2 := s1.setRegion r { s1.region r with pipe := false }
    (s2.freezeFollow (ctrlOut c) (ctrlSlot c)).frozenNotice r f (if bitAt st 13 then 1 else if ctrlMark c then 2 else 0)
      (bitAt st 13) true

/-- FROZEN is set (R176): the action by FROZEN_PIPE and MARK, counter, notice. -/
def State.freeze (s : State) (r f : Nat) (pipe : Bool) : State :=
  let c := s.rgCtrl r
  let n := ctrlOut c
  let s1 := ((s.rgSet r 12 12 1).rgSet r 13 13 (ofBool pipe)).bump Reg.LKO_CNT_FROZEN
  let s2 := if pipe then ((s1.rgSet r 15 15 1).freezeFollow n (ctrlSlot c)).logFault 0x17 2 (8 * n + ctrlSlot c)
    else if ctrlMark c then s1.forceStale r (s.rgCell r) else s1
  s2.frozenNotice r f (if pipe then 1 else if ctrlMark c then 2 else 0) pipe false

/-! ### Latching and accumulating (R168, R172, R173, R162 to R164) -/

/-- An entry's image for a frame. -/
def State.runOf (s : State) (m : Mode) (r : Nat) : RegionRun :=
  let (x0, x1, y0, y1) := s.rgEdges r
  { num := r, ctrl := s.rgCtrl r, x0 := min x0 m.w, x1 := min x1 m.w, y0 := min y0 m.h, y1 := min y1 m.h, cell := s.rgCell r,
    ref := s.rgRef r, refF := s.rd (regionBase r + 20) }

/-- The read of region `r`'s entry with its ECC outcome: 0 good, 1 corrected, 2 uncorrectable (R173). -/
def State.readEntry (s : State) (m : Mode) (r ecc : Nat) : Option RegionRun × State :=
  let (inj, s0) := s.injTake 0x07 r (fun p => if p == 0 then 1 else p)
  let ecc := match inj with
    | some p => if p == 0 then 1 else 2
    | none => ecc
  let run := s0.runOf m r
  if ecc == 0 then (some run, (s0.detPass 0x07 r).2)
  else if ecc == 1 then (some run, ((s0.bump Reg.LKO_CNT_ECC).detPass 0x07 r).2)
  else
    let (lasting, s1) := (s0.bump Reg.LKO_CNT_ECC).detFail 0x07 r inj.isSome
    let s2 := if lasting then ((s1.wr (regionBase r) (withBits (s1.rgCtrl r) 10 8 0)).clearRegion r).regionGone r 2 else s1
    (some { run with valid := false }, s2)

/-- The table read for a frame at the sample point of line 0 (R168); `ecc` gives the outcome of each read that was not good. -/
def State.latchRegions (s : State) (n : Nat) (ecc : List (Nat × Nat)) : State :=
  let m := s.mode n
  let l := s.look n
  let prevT := (l.runs.filter fun r => r.treated).map fun r => r.num
  let (runs, s1) := (s.enabledOn n).foldl (fun (acc : List RegionRun × State) r =>
    match acc.2.readEntry m r (((ecc.find? fun p => p.1 == r).map Prod.snd).getD 0) with
    | (some x, t) => (acc.1 ++ [x], t)
    | (none, t) => (acc.1, t)) ([], s)
  s1.setLook n { s1.look n with runs := runs, prevTreated := prevT, frameA := 0xFFFFFFFF, frameB := 0xFFFFFFFF,
                                stripes := List.replicate 16 0xFFFFFFFF, treated := false, urLines := [] }

/-- The pixels of columns x0 to x1 − 1 of a line into a CRC. -/
def crcLine (c : Nat) (px : List Nat) (x0 x1 : Nat) : Nat := ((px.take x1).drop x0).foldl crcPixel c

/-- Whether a stripe covers line `y` (R164). -/
def inStripe (vActive k y : Nat) : Bool := k * vActive / 16 ≤ y && y < (k + 1) * vActive / 16

/-- One line of composed pixels `a`, gate output `b` and painted marks `t` enters the signatures. -/
def State.lookLine (s : State) (n y : Nat) (a b : List Nat) (t : List Bool) : State :=
  let l := s.look n
  let m := s.mode n
  let cover := (l.runs.filter fun r => r.x0 < r.x1 && r.y0 ≤ y && y < r.y1).map fun r => r.num
  let late := cover.drop 128
  let upd (r : RegionRun) : RegionRun :=
    if r.y0 ≤ y && y < r.y1 then
      { r with
        crcA := crcLine r.crcA a r.x0 r.x1
        crcB := crcLine r.crcB b r.x0 r.x1
        treated := r.treated || ((t.take r.x1).drop r.x0).any id
        overload := r.overload || late.contains r.num }
    else r
  let s1 := s.setLook n { l with
    runs := l.runs.map upd
    frameA := crcLine l.frameA a 0 m.w
    frameB := crcLine l.frameB b 0 m.w
    stripes := l.stripes.mapIdx fun k c => if inStripe m.h k y then crcLine c b 0 m.w else c
    treated := l.treated || t.any id }
  if late.isEmpty then s1 else s1.raise Reg.LKO_STAT_LINE_OVF

/-! ### Verdicts (R167, R174 to R180) -/

/-- The picture and cell stamps of a region as they are now (R175). DESIGN CHOICE, unsafe (log 230). -/
def State.stampsNow (s : State) (n : Nat) (r : RegionRun) : Nat × Nat :=
  let c := (s.cell r.cell).confirmedAt
  let k := ctrlSlot r.ctrl
  match (s.layer n k).pic with
  | some p => if s.fld (Reg.CNP_LAYER_CFG_SOURCE n k) == 0 then (c, c) else (p.stamp, c)
  | none => (c, c)

/-- The stamps of a region for this frame: as read at the latch line before it, or now. DESIGN CHOICE, unsafe (log 231). -/
def State.stampsOf (s : State) (n : Nat) (r : RegionRun) : Nat × Nat := (sparseFind (s.look n).stamps r.num).getD (s.stampsNow n r)

/-- A layer's destination rectangle. -/
def State.layerDst (s : State) (n k : Nat) : Rect :=
  { x := s.fld (Reg.CNP_LAYER_DST_XY_X n k), y := s.fld (Reg.CNP_LAYER_DST_XY_Y n k)
    w := s.fld (Reg.CNP_LAYER_DST_WH_X n k), h := s.fld (Reg.CNP_LAYER_DST_WH_Y n k) }

/-- Whether a rectangle and a region share a pixel. -/
def Rect.meets (d : Rect) (r : RegionRun) : Bool :=
  d.x < r.x1 && r.x0 < d.x + d.w && d.y < r.y1 && r.y0 < d.y + d.h

/-- Whether a region is skipped in this frame (R174). -/
def State.skips (s : State) (n : Nat) (r : RegionRun) : Bool :=
  let l := s.look n
  ctrlKind r.ctrl != 1 &&
    (r.treated || l.prevTreated.contains r.num || (l.urLines.any fun y => r.y0 ≤ y && y < r.y1) || l.restaged ||
      l.flipped.any fun k => k == ctrlSlot r.ctrl && s.fld (Reg.CNP_LAYER_CFG_SOURCE n k) == 0 ||
        (k != ctrlSlot r.ctrl && s.fld (Reg.CNP_LAYER_CFG_SOURCE n k) != 0 && (s.layerDst n k).meets r))

/-- Verdict and RUN written into STATE. DESIGN CHOICE, unsafe (log 191). -/
def State.rgVerdict (s : State) (r verdict run : Nat) : State := (s.rgSet r 11 8 verdict).rgSet r 7 0 run

/-- An evaluation's verdict, RUN and F written into STATE (R166). DESIGN CHOICE, unsafe (log 191). -/
def State.rgPost (s : State) (r verdict run f : Nat) : State := (s.rgVerdict r verdict run).rgSet r 31 16 (f % 65536)

/-- LKO_INCONSISTENT (R178, R190). -/
def State.inconsNotice (s : State) (r n f src cls : Nat) (dests : List Nat) : State :=
  s.notice 0x0502 r dests (pack [(2, r), (1, n), (1, src), (4, f), (1, cls), (3, 0)])

/-- The classing of INCONSISTENT frames (R178): a device fault for SOURCE 1 and 2, the host's own doing for SOURCE 0. -/
def State.inconsistent (s : State) (n r f src : Nat) (bad injected : Bool) : State :=
  let own := (s.region r).owner
  if src == 0 then (if bad then s.inconsNotice r n f 0 0xFF [own] else s)
  else
    let first := (s.run 0x1A r).first
    if bad then
      let (l, t) := s.detFail 0x1A r injected f
      if l then t.inconsNotice r n first src 2 [0, own] else t
    else
      let (l, t) := s.detPass 0x1A r
      if l then t.inconsNotice r n first src 1 [0, own] else t

/-- The freeze logic of a MUST_CHANGE region (R175): verdict and RUN. DESIGN CHOICE, unsafe (log 232). -/
def State.mustChange (s : State) (n f : Nat) (r : RegionRun) (changed pAdv cAdv injected : Bool) : State :=
  let src := s.fld (Reg.CNP_LAYER_CFG_SOURCE n (ctrlSlot r.ctrl))
  let run := s.rgState r.num % 256
  let setPipe (u : State) (b : Bool) : State := u.setRegion r.num { u.region r.num with pipe := b }
  if pAdv then
    ((setPipe (s.rgPost r.num (if changed then 2 else 3) 0 f) false).inconsistent n r.num f src false false)
  else if changed then
    ((setPipe (s.rgPost r.num 5 0 f) false).bump Reg.LKO_CNT_INCONS).inconsistent n r.num f src true injected
  else
    let pipe := (s.region r.num).pipe || cAdv
    let s1 := ((setPipe (s.rgPost r.num 4 (min (run + 1) 255) f) pipe).inconsistent n r.num f src false false)
    if ctrlFreeze r.ctrl ≤ run + 1 && !bitAt (s1.rgState r.num) 12 then s1.freeze r.num f pipe else s1

/-- A comparison with a reference (R179, R180): MATCH, or MISMATCH that becomes LASTING at its second frame in a row. -/
def State.compareRef (s : State) (n f : Nat) (r : RegionRun) (sig ref : Nat) (hold : Bool) : State :=
  let run := s.rgState r.num % 256
  if sig == ref then (s.rgPost r.num 6 0 f).rgSet r.num 14 14 0
  else
    let s1 := s.rgPost r.num 7 (min (run + 1) 255) f
    if run + 1 == 2 then
      let s2 := (s1.rgSet r.num 14 14 1).bump (if hold then Reg.LKO_CNT_HOLD_FAIL else Reg.LKO_CNT_REF_FAIL)
      let s3 := s2.notice (if hold then 0x0503 else 0x0504) r.num [0, (s.region r.num).owner]
        (pack [(2, r.num), (1, n), (1, 0), (4, f), (4, sig), (4, ref)])
      if ctrlMark r.ctrl then s3.forceStale r.num r.cell else s3
    else s1

/-- The verdict of a region that has a baseline and is evaluated in this frame (R174 to R180). -/
def State.verdictOf (s : State) (n f : Nat) (r : RegionRun) (sig : Nat) (changed pAdv cAdv injected : Bool) : State :=
  let run := s.rgState r.num % 256
  if ctrlKind r.ctrl == 1 then s.rgPost r.num 10 run f
  else if s.skips n r then s.rgPost r.num 1 run f
  else if ctrlKind r.ctrl == 2 then s.mustChange n f r changed pAdv cAdv injected
  else if ctrlKind r.ctrl == 3 then
    if ctrlArm r.ctrl then
      (((s.wr (regionBase r.num + 16) sig).wr (regionBase r.num + 20) f).wr (regionBase r.num)
        (withBits (s.rgCtrl r.num) 14 14 0)).rgPost r.num 8 0 f
    else s.compareRef n f r sig r.ref true
  else if newer 32 r.refF f then s.rgPost r.num 8 run f
  else s.compareRef n f r sig r.ref false

/-- One region of a frame judged by its image: no evaluation where R167 gives NONE, OVERLOAD, which ends its run, or a verdict; the release
of R177 follows the stamps alone. DEDUCED, unsafe (log 149, 150). DESIGN CHOICE, unsafe (log 191, 192). -/
def State.judge (s : State) (n f : Nat) (r : RegionRun) : State :=
  let sig := crcFinal r.crcB
  let x := s.region r.num
  if (s.look n).discard || !r.valid || r.rewritten || s.outState n != osRunning || r.x1 ≤ r.x0 || r.y1 ≤ r.y0 then s.rgVerdict r.num 0 (s.rgState r.num % 256)
  else
    let (p, c) := s.stampsOf n r
    let must := ctrlKind r.ctrl == 2
    let (inj, s0) := if must && x.prev.isSome && !r.overload then s.injTake 0x1A r.num else (none, s)
    let pAdv := inj.isNone && (x.prev.any fun o => newer 40 p o.2.1)
    let cAdv := x.prev.any fun o => newer 40 c o.2.2
    let changed := x.prev.any fun o => o.1 != sig
    let s2 :=
      if r.overload then
        (s0.rgVerdict r.num 9 0).setRegion r.num { s0.region r.num with prev := x.prev.map fun o => (o.1, p, c), pipe := false }
      else
        let s1 := s0.setRegion r.num { s0.region r.num with prev := some (sig, p, c) }
        if x.prev.isNone then s1.rgVerdict r.num 0 (s.rgState r.num % 256)
        else (s1.wr (regionBase r.num + 24) sig).verdictOf n f r sig changed pAdv cAdv inj.isSome
    if must && pAdv then s2.thaw r.num f else s2

/-! ### Self-check (R181) -/

/-- LKO_SELF_DIFF's class decided for output `n`. -/
def State.selfNotice (s : State) (n f region cls : Nat) : State :=
  s.notice 0x0505 n [0, s.owner n] (pack [(1, n), (1, cls), (2, region), (4, f)])

/-- The runs of output `n`'s comparisons: they stand beside those of the detectors, numbered by the region, 0xFFFF for the whole frame. -/
def selfRuns (n : Nat) : Nat := 0x100 + n

/-- One comparison of an output classed (R181, R566): `r` the region, 0xFFFF the whole frame. The answer says whether it is LASTING now. -/
def State.selfClass (s : State) (n f r : Nat) (differs injected : Bool) : Bool × State :=
  let x := s.run (selfRuns n) r
  if differs then
    if x.count == 0 then (false, s.setRun (selfRuns n) r { count := 1, injected := injected, first := f })
    else if x.count == 1 then
      (true, ((s.setRun (selfRuns n) r { x with count := 2 }).logFault 0x0A 2 n x.injected).selfNotice n x.first r 2)
    else (false, s)
  else
    let t := s.setRun (selfRuns n) r {}
    (false, if x.count == 1 then (t.logFault 0x0A 1 n x.injected).selfNotice n x.first r 1 else t)

/-- The comparisons of taps A and B that a frame allows: of each untreated region, and of the whole frame where no pixel was treated. The answer
says whether one of them differed, and whether one is LASTING now. -/
def State.selfCheck (s : State) (n f : Nat) : Bool × Bool × State :=
  let l := s.look n
  let (inj, s0) := if l.treated then (none, s) else s.injTake 0x0A n
  let frameA := if inj.isSome then xorNat l.frameA 1 else l.frameA
  let made := (if l.treated then [] else [(0xFFFF, frameA != l.frameB)]) ++
    (l.runs.filter fun r => r.valid && !r.treated && r.x0 < r.x1 && r.y0 < r.y1).map fun r => (r.num, r.crcA != r.crcB)
  let diff := made.any fun c => c.2
  let s1 := if diff then s0.bump (Reg.LKO_OUT_CNT_SELF_DIFF n) else s0
  let (lasting, t) := made.foldl (fun (a : Bool × State) c =>
    let (b, u) := a.2.selfClass n f c.1 c.2 (c.1 == 0xFFFF && inj.isSome)
    (a.1 || b, u)) (false, s1)
  (diff, lasting, t)

/-! ### Return signatures (R182 to R184) -/

/-- LKO_RETURN_MISMATCH and LKO_RETURN_MISSING of a frame: its tag, and the signatures that differed. -/
def State.returnNotice (s : State) (n tag bad cls : Nat) (missing : Bool) : State :=
  if missing then s.notice 0x0507 n [0, s.owner n] (pack [(1, n), (1, cls), (2, tag)])
  else s.notice 0x0506 n [0, s.owner n] (pack [(1, n), (1, cls), (2, tag), (2, bad / 2), (1, bad % 2), (1, 0)])

/-- The key of the run of MISSING results beside that of MISMATCH (R184: each makes its own run). -/
def missKey (n : Nat) : Nat := 0x100 + n

/-- A run of results ends: one of a single frame is TRANSIENT. Its first frame is kept as its tag and, above bit 16, what differed. -/
def State.returnRunEnd (s : State) (n : Nat) (missing : Bool) : State :=
  let key := if missing then missKey n else n
  let x := s.run 0x09 key
  let t := s.setRun 0x09 key {}
  if x.count == 1 then (t.logFault 0x09 1 n x.injected).returnNotice n (x.first % 65536) (x.first / 65536) 1 missing else t

/-- A frame's result classed (R184); EXCLUDED neither starts nor breaks a run. The answer says whether the fault is LASTING now. -/
def State.returnClass (s : State) (n : Nat) (e : SentFrame) : Bool × State :=
  if e.result == 4 then (false, s)
  else if e.result == 1 then (false, (s.returnRunEnd n false).returnRunEnd n true)
  else
    let missing := e.result == 3
    let key := if missing then missKey n else n
    let s1 := s.returnRunEnd n (!missing)
    let x := s1.run 0x09 key
    if x.count == 0 then (false, s1.setRun 0x09 key { count := 1, injected := e.injected, first := e.tag + 65536 * e.bad })
    else if x.count == 1 then
      (true, (((s1.setRun 0x09 key { x with count := 2 }).logFault 0x09 2 n x.injected).raise
        (Reg.LKO_OUT_RET_STAT_LASTING n)).returnNotice n (x.first % 65536) (x.first / 65536) 2 missing)
    else (false, s1)

/-- The results of the history classed in the order of their frames, up to the first frame that has none yet. DEDUCED, unsafe (log 195). -/
def State.classReturns (s : State) (n : Nat) : Bool × State :=
  let done := (s.look n).history.takeWhile fun e => e.result != 0
  let s1 := s.setLook n { s.look n with history := (s.look n).history.map fun e => if done.any (fun d => d.f == e.f) then { e with classed := true } else e }
  (done.filter fun e => !e.classed).foldl (fun (a : Bool × State) e =>
    let (l, t) := a.2.returnClass n e
    (a.1 || l, t)) (false, s1)

/-- The registers and counters that show a result (R183, R187). -/
def State.showResult (s : State) (n tag result : Nat) : State :=
  let s1 := ((s.setFld (Reg.LKO_OUT_RET_STAT_RESULT n) result).setFld (Reg.LKO_OUT_RET_TAG_TAG n) tag).setFld
    (Reg.LKO_OUT_RET_STAT_CHECKING n) (ofBool (result != 4))
  if result == 1 then s1.bump (Reg.LKO_OUT_CNT_RET_MATCH n)
  else if result == 2 then (s1.bump (Reg.LKO_OUT_CNT_RET_MISMATCH n)).raise (Reg.LKO_OUT_RET_STAT_MISMATCH n)
  else if result == 3 then (s1.bump (Reg.LKO_OUT_CNT_RET_MISSING n)).raise (Reg.LKO_OUT_RET_STAT_MISSING n)
  else s1

/-- Frame `f` of the history has its result: shown, and classed when the frames before it have theirs. The answer says whether a return fault is
LASTING now. -/
def State.returnResult (s : State) (n f result bad : Nat) (injected : Bool) : Bool × State :=
  let l := s.look n
  let s1 := s.setLook n { l with history := l.history.map fun e =>
    if e.f == f then { e with result := result, bad := bad, injected := injected } else e }
  (s1.showResult n (f % 65536) result).classReturns n

end Sys2Proof.Machine
end

