-- ==== Sys2Proof/Machine/Pictures.lean ====
section
/-! DEFINITION. Pictures of decode sessions and capture inputs as the display path sees them (R128, R129, R198, R322):
the newest complete picture, which layers hold a slot, which slot a new picture is written into. -/

namespace Sys2Proof.Machine

open Sys2Proof

/-- The key of a source's pool: SOURCE 1 a decode session, SOURCE 2 a capture input (R128). -/
def poolKey (source id : Nat) : Nat := source * 256 + id

def State.pool (s : State) (source id : Nat) : PicPool := sparseGet {} s.pools (poolKey source id)
def State.setPool (s : State) (source id : Nat) (p : PicPool) : State :=
  { s with pools := sparsePut {} s.pools (poolKey source id) p }

def PicPool.slot (p : PicPool) (i : Nat) : PicSlot := sparseGet {} p.slots i
def PicPool.setSlot (p : PicPool) (i : Nat) (x : PicSlot) : PicPool := { p with slots := sparseIns p.slots i x }

/-- The newest complete picture of a source, with its slot. -/
def State.newestPic (s : State) (source id : Nat) : Option Pic :=
  (s.pool source id).newest.map fun i => { ((s.pool source id).slot i).pic with slot := i }

/-- The layer `key` (output × 8 + slot) holds slot `i` of a source. -/
def State.holdPic (s : State) (source id i key : Nat) : State :=
  let p := s.pool source id
  s.setPool source id (p.setSlot i { p.slot i with held := key :: (p.slot i).held })

/-- The layer `key` holds slot `i` no longer. -/
def State.dropPic (s : State) (source id i key : Nat) : State :=
  let p := s.pool source id
  s.setPool source id (p.setSlot i { p.slot i with held := (p.slot i).held.filter fun x => x != key })

/-- The generation kept for a slot (R157). -/
def State.picGen (s : State) (source id i : Nat) : Nat := ((s.pool source id).slot i).pic.gen

/-- The lowest slot of `count` that no layer holds, that does not hold the newest complete picture and that is not among
`busy` (R198, R322). -/
def PicPool.freeSlot (p : PicPool) (count : Nat) (busy : List Nat) : Option Nat :=
  (List.range count).find? fun i => (p.slot i).held.isEmpty && p.newest != some i && !busy.contains i

/-- The partition a cell counts for (R40, R201): its own, or for an engine's cell the one it was opened for. -/
def State.cellPart (s : State) (n : Nat) : Nat :=
  let c := s.cell n
  if c.ownerKind == 1 then c.partition else sparseGet 0 s.ldg.lent n

end Sys2Proof.Machine
end

