-- ==== Sys2Proof/Machine/Layers.lean ====
section
/-! DEFINITION. Layers, stages and commits (spec/05_layers_and_commits.md): admission, spans of a layout, scan-lock windows,
the commit engine. -/

namespace Sys2Proof.Machine

open Sys2Proof

/-! ### Scan-lock windows (R144, R444) -/

/-- The smallest exponent from 12 up whose aligned range contains `base` to `stop` − 1. -/
def windowLog2 (base stop : Nat) : Nat → Nat → Nat
  | 0, l => l
  | k + 1, l => if base / 2 ^ l == (stop - 1) / 2 ^ l then l else windowLog2 base stop k (l + 1)

/-- The lowest-numbered window that is not armed. -/
def State.freeWindow (s : State) : Nat := ((List.range 512).find? fun w => !s.isSet (Reg.FBK_WIN_CFG_ARMED w)).getD 511

/-- A window armed for bytes `base` to `base` + `size` − 1 of plane `plane` of a layer's picture. -/
def State.armWindow (s : State) (n k plane base size : Nat) : State :=
  let l := windowLog2 base (base + size) 24 12
  let w := s.freeWindow
  let b := base / 2 ^ l * 2 ^ l
  let s1 := (s.wr (Reg.FBK_WIN_BASE_LO w) (b % 2 ^ 32)).wr (Reg.FBK_WIN_BASE_HI w) (b / 2 ^ 32)
  (((((s1.wr (Reg.FBK_WIN_CFG w) 0).setFld (Reg.FBK_WIN_CFG_OUTPUT w) n).setFld (Reg.FBK_WIN_CFG_SLOT w) k).setFld
    (Reg.FBK_WIN_CFG_PLANE w) plane).setFld (Reg.FBK_WIN_CFG_LOG2_SIZE w) l).setFld (Reg.FBK_WIN_CFG_ARMED w) 1

/-- The armed windows of a layer. -/
def State.layerWindows (s : State) (n k : Nat) : List Nat :=
  (List.range 512).filter fun w => s.isSet (Reg.FBK_WIN_CFG_ARMED w) && s.fld (Reg.FBK_WIN_CFG_OUTPUT w) == n &&
    s.fld (Reg.FBK_WIN_CFG_SLOT w) == k

/-- The layer's windows disarmed. -/
def State.disarmLayer (s : State) (n k : Nat) : State :=
  (s.layerWindows n k).foldl (fun t w => t.setFld (Reg.FBK_WIN_CFG_ARMED w) 0) s

/-- The planes of a picture as (plane, base, size): plane 0, plane 1 of the two-plane formats, the palette of I8. -/
def Pic.planes (p : Pic) : List (Nat × Nat × Nat) :=
  (0, p.p0, p.s0 * p.h) ::
    (if twoPlanes p.fmt then [(1, p.p1, p.s1 * ceilDiv p.h 2)] else if p.fmt == 7 then [(1, p.p1, 1024)] else [])

/-- Windows armed for every plane of the picture a layer takes. -/
def State.armLayer (s : State) (n k : Nat) (p : Pic) : State :=
  p.planes.foldl (fun t q => t.armWindow n k q.1 q.2.1 q.2.2) s

/-! ### Fetch and tolerance (R116, R136, R141, R567) -/

/-- Columns of an interval list not covered by one more rectangle's columns. -/
def cutInterval (l : List (Nat × Nat)) (a b : Nat) : List (Nat × Nat) :=
  l.flatMap fun i => (if i.1 < min i.2 a then [(i.1, min i.2 a)] else []) ++ (if max i.1 b < i.2 then [(max i.1 b, i.2)] else [])

/-- The columns of a stage slot's destination on line `y` that no opaque slot above covers. -/
def visibleOn (above : List StageSlot) (q : StageSlot) (y : Nat) (lim : Nat × Nat := (65536, 65536)) : List (Nat × Nat) :=
  if q.dst.y ≤ y && y < min (q.dst.y + q.dst.h) lim.2 && q.dst.x < lim.1 then
    above.foldl (fun l v => if v.en && v.opq && v.dst.y ≤ y && y < v.dst.y + v.dst.h
      then cutInterval l v.dst.x (v.dst.x + v.dst.w) else l) [(q.dst.x, min (q.dst.x + q.dst.w) lim.1)]
  else []

/-- 64-byte blocks that byte ranges in rising order touch, each counted once; `next` is the first block not yet counted. -/
def blocksOf : List (Nat × Nat) → Nat → Nat
  | [], _ => 0
  | (a, b) :: t, next =>
    let lo := max (a / 64) next
    let hi := ceilDiv b 64
    (hi - lo) + blocksOf t (max hi next)

/-- The byte range of plane 0 that source columns a to b − 1 read. -/
def plane0Range (fmt w a b : Nat) : Nat × Nat :=
  if fmt == 5 then
    let e := b - 1
    let j := if e % 2 == 0 then e / 2 else min (e / 2 + 1) (w / 2 - 1)
    (a / 6 * 16 + (4 * (a / 2 % 3)) / 3 * 4, max (e / 6 * 16 + ((2 * (e % 6) + 1) / 3 + 1) * 4) (j / 3 * 16 + ((4 * (j % 3) + 2) / 3 + 1) * 4))
  else (rowBytes fmt a, rowBytes fmt b)

/-- The byte range of plane 1 that source columns a to b − 1 read. -/
def plane1Range (fmt w a b : Nat) : Nat × Nat :=
  let e := b - 1
  let j := if e % 2 == 0 then e / 2 else min (e / 2 + 1) (w / 2 - 1)
  if fmt == 3 then (2 * (a / 2), 2 * (j + 1)) else (4 * (a / 2), 4 * (j + 1))

/-- Interval lists merged: sorted by start. -/
def insertInterval (i : Nat × Nat) : List (Nat × Nat) → List (Nat × Nat)
  | [] => [i]
  | j :: t => if i.1 ≤ j.1 then i :: j :: t else j :: insertInterval i t

def mergeIntervals (l : List (Nat × Nat)) : List (Nat × Nat) := l.foldl (fun a i => insertInterval i a) []

def StageSlot.scaled (q : StageSlot) : Bool := q.dst.w != q.crop.w || q.dst.h != q.crop.h

/-- Whether a slot is fetched as a scaled layer: every block of every cropped row (R136). -/
def StageSlot.rescaled (q : StageSlot) : Bool := q.scaled && q.scalers != 0

/-- The columns and rows of a slot's crop that its picture has (R140, R567). -/
def StageSlot.cropW (q : StageSlot) : Nat := min q.crop.w (q.srcW - q.crop.x)
def StageSlot.cropH (q : StageSlot) : Nat := min q.crop.h (q.srcH - q.crop.y)

/-- The source columns of an unscaled slot that show on line `y` of the output. -/
def sourceCols (above : List StageSlot) (q : StageSlot) (y : Nat) (lim : Nat × Nat := (65536, 65536)) : List (Nat × Nat) :=
  (visibleOn above q y lim).filterMap fun i =>
    let a := i.1 - q.dst.x + q.crop.x
    let b := min (i.2 - q.dst.x + q.crop.x) (q.crop.x + q.cropW)
    if a < b then some (a, b) else none

/-- Whether a pixel of the slot is not culled. -/
def anyVisible (above : List StageSlot) (q : StageSlot) (lim : Nat × Nat := (65536, 65536)) : Bool :=
  (List.range q.dst.h).any fun j => !(visibleOn above q (q.dst.y + j) lim).isEmpty

/-- The bytes fetched per frame for one enabled slot (R136): visible blocks of an unscaled layer, every cropped row of a
scaled one unless it is wholly culled, and the palette. DEDUCED, unsafe (log 206). -/
def slotFetch (above : List StageSlot) (q : StageSlot) (lim : Nat × Nat := (65536, 65536)) : Nat :=
  let pal := if q.fmt == 7 then 1024 else 0
  if !anyVisible above q lim then 0
  else if q.rescaled then
    let p0 := plane0Range q.fmt q.srcW q.crop.x (q.crop.x + q.cropW)
    let p1 := plane1Range q.fmt q.srcW q.crop.x (q.crop.x + q.cropW)
    let rows1 := ceilDiv (q.crop.y + q.cropH) 2 - q.crop.y / 2
    64 * (q.cropH * blocksOf [p0] 0 + if twoPlanes q.fmt then rows1 * blocksOf [p1] 0 else 0) + pal
  else
    let lum := (List.range (min q.dst.h q.cropH)).foldl (fun a j =>
      a + blocksOf ((sourceCols above q (q.dst.y + j) lim).map fun i => plane0Range q.fmt q.srcW i.1 i.2) 0) 0
    let chr := if !twoPlanes q.fmt then 0
      else (List.range (q.srcH / 2)).foldl (fun a i =>
        let ys := [2 * i - 1, 2 * i, 2 * i + 1, 2 * i + 2].filter fun y =>
          q.crop.y ≤ y && y < q.crop.y + q.cropH && (i != 0 || y ≤ 2)
        a + blocksOf (mergeIntervals (ys.flatMap fun y =>
          (sourceCols above q (y - q.crop.y + q.dst.y) lim).map fun v => plane1Range q.fmt q.srcW v.1 v.2)) 0) 0
    64 * (lum + chr) + pal

/-- Whole 64-byte blocks of a row at `base` that hold a byte range. -/
def blockRead (base : Nat) (r : Nat × Nat) : Nat × Nat := (base + r.1 / 64 * 64, ceilDiv r.2 64 * 64 - r.1 / 64 * 64)

/-- What Canopy reads of a picture for line `y` of the output, as addresses and lengths (R136): the visible blocks of the row of an unscaled
layer; of a scaled one the cropped rows under the taps and those that no line before has needed, the last line fetching all that are left; with the chroma rows
that their pixels take part of. DEDUCED, unsafe (log 206). -/
def lineReads (above : List StageSlot) (q : StageSlot) (p : Pic) (y : Nat) (lim : Nat × Nat := (65536, 65536)) : List (Nat × Nat) :=
  if !(q.dst.y ≤ y && y < q.dst.y + q.dst.h) || !anyVisible above q lim then []
  else
    let j := y - q.dst.y
    let taps (i : Nat) : List Nat := tapIndices q.filter (sourcePos i q.crop.h q.dst.h) q.cropH
    let past := if j == 0 then 0 else (taps (j - 1)).foldl max 0 + 1
    let until_ := if y + 1 == min (q.dst.y + q.dst.h) lim.2 then q.cropH else (taps j).foldl max 0 + 1
    let rows := if q.rescaled then ((taps j) ++ (List.range (until_ - past)).map fun i => past + i).eraseDups
      else if j < q.cropH then [j] else []
    let cols := if q.rescaled then [(q.crop.x, q.crop.x + q.cropW)] else sourceCols above q y lim
    rows.flatMap fun r =>
      let v := q.crop.y + r
      let i := v / 2
      let near := [i, if v % 2 == 0 then i - 1 else min (i + 1) (p.h / 2 - 1)].eraseDups
      cols.flatMap fun c =>
        blockRead (p.p0 + v * p.s0) (plane0Range p.fmt p.w c.1 c.2) ::
          if twoPlanes p.fmt then near.map fun k => blockRead (p.p1 + k * p.s1) (plane1Range p.fmt p.w c.1 c.2) else []

/-- The fetch of a layout: bytes per frame over the enabled slots. -/
def layoutFetch : List StageSlot → Nat
  | [] => 0
  | q :: t => (if q.en then slotFetch t q else 0) + layoutFetch t

/-- Bytes per pixel of a format in sixths, over its planes (R116). -/
def bppSixths (fmt : Nat) : Nat :=
  if fmt ≤ 1 then 24 else if fmt == 2 then 18 else if fmt == 3 then 9 else if fmt == 4 then 18 else if fmt == 5 then 16 else 6

/-- A slot's rate r as a fraction (R116). -/
def slotRate (q : StageSlot) : Nat × Nat :=
  (bppSixths q.fmt * max q.dst.w q.crop.w * max q.dst.h q.crop.h, 6 * q.dst.w * q.dst.h)

def addFrac (a b : Nat × Nat) : Nat × Nat :=
  let n := a.1 * b.2 + b.1 * a.2
  let d := a.2 * b.2
  let g := Nat.gcd n d
  if g == 0 then (n, d) else (n / g, d / g)

/-- The sum of the rates of the slots that count on line `y`. -/
def rateOn (y : Nat) : List StageSlot → Nat × Nat
  | [] => (0, 1)
  | q :: t => if q.en && !(visibleOn t q y).isEmpty then addFrac (slotRate q) (rateOn y t) else rateOn y t

/-- The largest b over the active lines: it changes only where a destination begins or ends. -/
def worstRate (m : Mode) (l : List StageSlot) : Nat × Nat :=
  let ys := 0 :: ((l.filter fun q => q.en).flatMap fun q => [q.dst.y, q.dst.y + q.dst.h]).filter fun y => y < m.h
  ys.foldl (fun a y => let b := rateOn y l
                       if a.1 * b.2 < b.1 * a.2 then b else a) (0, 1)

/-- The tolerance of a layout in ns (R116); 0xFFFF for one that fetches nothing. -/
def layoutTolNs (m : Mode) (l : List StageSlot) : Nat :=
  let b := worstRate m l
  if b.1 == 0 then 0xFFFF
  else
    let n := 98304 * b.2 / b.1
    ((n - 1) / m.w * m.hTotal + (n - 1) % m.w + 1) * 1000000 / m.pclk

/-- The tolerance of a layout as CNP_OUT_TOL holds it: 0xFFFF at most. DEDUCED, unsafe (log 147). -/
def layoutTol (m : Mode) (l : List StageSlot) : Nat := min 0xFFFF (layoutTolNs m l)

/-- A fetch in units of 10^6 bytes/s, rounded up. -/
def fetchMbps (m : Mode) (bytes : Nat) : Nat := ceilDiv (bytes * 1000 * m.pclk) m.pNum

/-- Whether a fetch keeps the 12.0 GB/s of R38. -/
def fetchFits (m : Mode) (bytes : Nat) : Bool := bytes * m.pclk ≤ 12 * m.pNum

/-! ### Scalers (R139) -/

/-- Scalers a slot needs. -/
def StageSlot.need (q : StageSlot) : Nat := if !q.en || !q.scaled then 0 else if q.dst.w ≤ 2560 then 1 else 2

/-- Scaler numbers taken from `i`, `c` of them. -/
def scalerSet (i c : Nat) : List Nat := (List.range c).map fun k => i + k

/-- The scalers the other outputs of the slice hold, in their layers and in their ready stages. -/
def State.othersScalers (s : State) (n : Nat) : List Nat :=
  ((List.range 4).map fun j => n / 4 * 4 + j).flatMap fun m =>
    if m == n then []
    else (List.range 8).flatMap (fun k =>
        if s.isSet (Reg.CNP_LAYER_CFG_EN m k) then
          scalerSet (s.fld (Reg.CNP_LAYER_CFG_SCALER_IDX m k)) (s.fld (Reg.CNP_LAYER_CFG_SCALERS m k)) else []) ++
      (match (s.cmt m).stage with
       | some g => g.slots.flatMap fun q => if q.en then scalerSet q.scalerIdx q.scalers else []
       | none => [])

/-- The lowest start of `c` free scalers. -/
def findScalers (used : List Nat) (c : Nat) : Option Nat :=
  (List.range (17 - c)).find? fun i => (scalerSet i c).all fun k => !used.contains k

/-- Scalers for the slots of a stage, from slot 0 up: a layer that needs as many as in the stage before keeps its own. -/
def allotScalers (used : List Nat) : List StageSlot → List StageSlot → Option (List StageSlot)
  | [], _ => some []
  | q :: t, old =>
    let o := old.headD {}
    let c := q.need
    let keep := o.en && o.scalers == c && c != 0
    let pick := if c == 0 then some 0 else if keep then some o.scalerIdx else findScalers used c
    match pick with
    | none => none
    | some i =>
      match allotScalers (scalerSet i c ++ used) t old.tail with
      | none => none
      | some r => some ({ q with scalers := c, scalerIdx := i } :: r)

/-- Scalers that kept slots hold already, so that no other slot takes them. -/
def keptScalers : List StageSlot → List StageSlot → List Nat
  | [], _ => []
  | q :: t, old =>
    let o := old.headD {}
    (if o.en && o.scalers == q.need && q.need != 0 then scalerSet o.scalerIdx o.scalers else []) ++ keptScalers t old.tail

/-- The slots of the stage built before this one, or of the layers shown. -/
def State.lastSlots (s : State) (n : Nat) : List StageSlot :=
  match (s.cmt n).stage with
  | some g => g.slots
  | none => (List.range 8).map fun k => (s.layer n k).stage

/-! ### Spans of a layout (R83, R203) -/

/-- A rounding of an integer fraction downward, upward. -/
def floorMul (d : Int) (o c : Nat) : Int := (d * o) / (c : Int)
def ceilMul (d : Int) (o c : Nat) : Int := ceilDivInt (d * o) c

/-- ceil((T / 2) × max(1, o / c)), T / 2 taken as a real number. DESIGN CHOICE, unsafe (log 180). -/
def reachOf (t o c : Nat) : Nat := if o == c then 0 else if c < o then ceilDiv (t * o) (2 * c) else ceilDiv t 2

/-- Clip of an output coordinate. -/
def clipTo (v : Int) (lo hi : Nat) : Nat := if v < lo then lo else if (hi : Int) < v then hi else v.toNat

/-- R83: the output rectangle of a source rectangle [x0, x1) × [y0, y1) of a slot, as (X0, X1, Y0, Y1). -/
def mapRect (m : Mode) (q : StageSlot) (x0 x1 y0 y1 : Nat) : Nat × Nat × Nat × Nat :=
  let subX := q.source != 0 || q.fmt == 3 || q.fmt == 4 || q.fmt == 5
  let subY := q.source == 1 || (q.source == 0 && (q.fmt == 3 || q.fmt == 4))
  let x0 := if subX then x0 / 2 * 2 else x0
  let x1 := if subX then (x1 + 1) / 2 * 2 else x1
  let y0 := if subY then y0 / 2 * 2 else y0
  let y1 := if subY then (y1 + 1) / 2 * 2 else y1
  let t := filterTaps q.filter
  let rx := reachOf t q.dst.w q.crop.w
  let ry := reachOf t q.dst.h q.crop.h
  let d (a c : Nat) : Int := (a : Int) - c
  let cx (v : Int) : Nat := min (clipTo v q.dst.x (q.dst.x + q.dst.w)) m.w
  let cy (v : Int) : Nat := min (clipTo v q.dst.y (q.dst.y + q.dst.h)) m.h
  (cx (q.dst.x + floorMul (d x0 q.crop.x) q.dst.w q.crop.w - rx), cx (q.dst.x + ceilMul (d x1 q.crop.x) q.dst.w q.crop.w + rx),
   cy (q.dst.y + floorMul (d y0 q.crop.y) q.dst.h q.crop.h - ry), cy (q.dst.y + ceilMul (d y1 q.crop.y) q.dst.h q.crop.h + ry))

/-- Whether a cell's STAND_MASK has the output's stand. -/
def State.standOk (s : State) (n cell : Nat) : Bool := cell == 0 || bitAt (s.cell cell).standMask (s.stand n)

/-- An entry of slot `k` for a cell and rectangle; `flags` is laid out as the FLAGS byte of a binding. -/
def State.spanFor (s : State) (n k : Nat) (q : StageSlot) (cell flags : Nat) (void : Bool) (r : Nat × Nat × Nat × Nat) : SpanEnt :=
  { cell := cell, layer := k, opq := q.opq, corner := bitsAt flags 2 1, size := bitsAt flags 4 3, noBadge := bitAt flags 0,
    forced := void || !s.standOk n cell, x0 := r.1, x1 := r.2.1, y0 := r.2.2.1, y1 := r.2.2.2 }

/-- The spans of one enabled slot: the layer's own, one for each row cell of its session, one for each binding. -/
def State.slotSpans (s : State) (n k : Nat) (m : Mode) (q : StageSlot) : List SpanEnt :=
  if !q.en then []
  else
    let own := s.spanFor n k q q.cell 0 q.void (q.dst.x, q.dst.x + q.dst.w, q.dst.y, q.dst.y + q.dst.h)
    let p := s.pool q.source q.id
    let rows := if q.source == 1 then (List.range (min p.rows (ceilDiv p.h p.rowH))).map fun r =>
        s.spanFor n k q (p.rowCell + r) (if p.cls == 0 then 1 else 2) false
          (mapRect m q 0 p.w (r * p.rowH) (min ((r + 1) * p.rowH) p.h)) else []
    let bound := q.binds.map fun b =>
      s.spanFor n k q b.cell b.flags b.void (mapRect m q b.rect.x (b.rect.x + b.rect.w) b.rect.y (b.rect.y + b.rect.h))
    own :: (rows ++ bound)

/-- An entry inserted behind those of equal Y0. -/
def insertSpan (e : SpanEnt) : List SpanEnt → List SpanEnt
  | [] => [e]
  | x :: t => if e.y0 < x.y0 then e :: x :: t else x :: insertSpan e t

/-- The span set of a layout, in ascending Y0. -/
def State.layoutSpans (s : State) (n : Nat) (m : Mode) (l : List StageSlot) : List SpanEnt :=
  ((l.mapIdx fun k q => s.slotSpans n k m q).flatten).foldl (fun a e => insertSpan e a) []

/-- Whether at most 256 spans include any line and at most 16 cover any pixel (R81). -/
def spanLimits (l : List SpanEnt) : Bool :=
  l.all fun e =>
    let line := l.filter fun x => x.y0 ≤ e.y0 && e.y0 < x.y1
    line.length ≤ 256 && line.all fun x => (line.filter fun z => z.x0 ≤ x.x0 && x.x0 < z.x1).length ≤ 16

/-- The most spans output `k` has now or will have when its ready stage is applied. DESIGN CHOICE, unsafe (log 188). -/
def State.spansOf (s : State) (k : Nat) : Nat :=
  max (s.activeCount k) (if s.isSet (Reg.CNP_STAGE_READY k) && (s.cmt k).applied != (s.cmt k).seq then s.stagedCount k else 0)

/-- Whether the device keeps 262,144 spans in the active and in the staged sets with `count` staged on output `n`, whichever of the ready
stages are committed (R81). DESIGN CHOICE, unsafe (log 188). -/
def State.spanRoom (s : State) (n count : Nat) : Bool :=
  count ≤ 16384 &&
    (List.range 32).foldl (fun a k => a + if k == n then max (s.activeCount n) count else s.spansOf k) 0 ≤ 262144

/-! ### Building a stage (R147) -/

/-- The checks of a layout's spans, fetch and tolerance (R81, R141). DESIGN CHOICE, unsafe (log 55). -/
def State.admissionChecks (s : State) (n : Nat) (m : Mode) (l : List StageSlot) : List (Bool × Nat × Nat) :=
  let spans := s.layoutSpans n m l
  [(!spanLimits spans, stInvalid, noField), (!s.spanRoom n spans.length, stNoSpace, noField),
    (!fetchFits m (layoutFetch l) || layoutTol m l < 4000, stBudget, noField)]

/-- What refuses a layout; none where it is admitted. -/
def State.admission (s : State) (n : Nat) (m : Mode) (l : List StageSlot) : Option (Nat × Nat) := firstBad (s.admissionChecks n m l)

/-- The next STAGE_SEQ; 0 is never used. -/
def nextSeq (q : Nat) : Nat := if q == 0xFFFF then 1 else q + 1

/-- A stage built: the staged span set written, SEQ and then READY set. -/
def State.buildStage (s : State) (n : Nat) (slots : List StageSlot) : State :=
  let m := s.mode n
  let l := slots.map fun q => { q with rowH := (s.pool q.source q.id).rowH }
  let spans := s.layoutSpans n m l
  let c := s.cmt n
  let q := nextSeq c.seq
  let s1 := (s.writeSpans n (1 - s.activeSet n) spans).wr (Reg.GATE_OUT_STAGE n) spans.length
  let s2 := s1.setCmt n { c with stage := some { slots := l, tol := layoutTol m l }, seq := q }
  let g := s2.gateOut n
  ((s2.setGate n { g with restage := g.restage.filter fun e => e / 65536 == s.activeSet n }).setFld (Reg.CNP_STAGE_SEQ n) q).setFld
    (Reg.CNP_STAGE_READY n) 1

/-! ### Restaging (R84) -/

/-- Entries of both span sets of an output that `hit` names are to be forced VOID at its next latch line; the stage's and the
shown layout's slots and bindings keep `keep`. -/
def State.restageOutput (s : State) (n : Nat) (hit : Nat → Bool) (keep : Bool) : State :=
  let g := s.gateOut n
  let a := s.activeSet n
  let (shown, s) := s.spanSet n a (s.activeCount n)
  let (staged, s) := s.spanSet n (1 - a) (s.stagedCount n)
  let marks (k : Nat) (l : List (Nat × SpanEnt)) : List Nat := l.filterMap fun e => if hit e.2.cell then some (k * 65536 + e.1) else none
  let new := marks a shown ++ marks (1 - a) staged
  let s1 := s.setGate n { g with restage := g.restage ++ new.filter fun e => !g.restage.contains e }
  let fixB (b : Binding) : Binding := if hit b.cell then { b with void := true } else b
  let fixS (q : StageSlot) : StageSlot :=
    { q with void := q.void || (q.source == 0 && hit q.cell), binds := q.binds.map fixB }
  if !keep then s1
  else
    let c := s1.cmt n
    s1.setCmt n { c with
      stage := c.stage.map fun g => { g with slots := g.slots.map fixS }
      layers := c.layers.map fun p => (p.1, { p.2 with stage := fixS p.2.stage }) }

/-- The outputs in the order in which Ranger S does work queued for them at once: safety class before standard (R418). DEDUCED, unsafe (log 197). -/
def State.workOrder (s : State) : List Nat :=
  (List.range 32).filter (fun n => s.isSet (Reg.CNP_OUT_CTRL_CLASS n)) ++ (List.range 32).filter fun n => !s.isSet (Reg.CNP_OUT_CTRL_CLASS n)

/-- R84 for freed cells `first` to `first` + `count` − 1. -/
def State.restageFreed (s : State) (first count : Nat) : State :=
  s.workOrder.foldl (fun t n => t.restageOutput n (fun c => first ≤ c && c < first + count) true) s

/-- R84 for cells whose STAND_MASK lost stands: outputs of a lost stand restage. -/
def State.restageStands (s : State) (first count lost : Nat) : State :=
  s.workOrder.foldl (fun t n =>
    if t.outState n != osOff && bitAt lost (t.stand n) then t.restageOutput n (fun c => first ≤ c && c < first + count) false else t) s

/-- The restaged entries take effect at the latch line. -/
def State.applyRestage (s : State) (n : Nat) : State :=
  (s.gateOut n).restage.foldl (fun t e =>
    let a := t.spanBase n (e / 65536) + 16 * (e % 65536)
    let (b, u) := t.fwRead a 16
    u.fwWrite a { spanOf b with forced := true }.bytes) (s.setGate n { s.gateOut n with restage := [] })

/-! ### Commit descriptors (R148 to R150) -/

/-- The descriptor 128 bytes spell; `bad` where R150 gives FORMAT. DESIGN CHOICE, unsafe (log 229). -/
def descOf (b : List Byte) : Desc :=
  let flags := fieldAt b 1 1
  let fc := fieldAt b 3 1
  let group := bitAt flags 1
  let tag := fieldAt b 6 1
  let count := fieldAt b 7 1
  let fence (i : Nat) : Fence := { addr := fieldAt b (48 + 16 * i) 8, value := fieldAt b (56 + 16 * i) 4, mask := fieldAt b (60 + 16 * i) 1 }
  let fs := (List.range (min fc 4)).map fence
  { flip := fieldAt b 0 1, partial_ := bitAt flags 0, group := group, timeout := fieldAt b 2 1, stage := fieldAt b 4 2, tag := tag,
    count := count, user := fieldAt b 8 8,
    bufs := (List.range 8).map fun i => (fieldAt b (16 + 4 * i) 2, fieldAt b (18 + 4 * i) 2),
    fences := fs,
    bad := 4 ≤ flags || 4 < fc || (group && (tag == 0 || !within 2 8 count)) || (!group && (tag != 0 || count != 0)) ||
      fieldAt b 112 8 != 0 || fieldAt b 120 8 != 0 ||
      ((List.range (min fc 4)).any fun i => fieldAt b (61 + 16 * i) 3 != 0) ||
      fs.any fun f => f.addr % 4 != 0 || !inDeviceMem f.addr }

/-- The internal address of descriptor `i` of output `n`'s ring. -/
def State.descAddr (s : State) (n i : Nat) : Nat :=
  s.rd (Reg.CNP_CRING_BASE_LO n) + 2 ^ 32 * s.fld (Reg.CNP_CRING_BASE_HI_ADDR n) +
    128 * (i % 2 ^ s.fld (Reg.CNP_CRING_CFG_LOG2_SIZE n))

/-- CNP_CRING_FAULT when ERR or FBK becomes set (R161). -/
def State.cringFault (s : State) (n cause prod : Nat) : State :=
  s.notice 0x0415 n [0, s.owner n]
    (pack [(1, n), (1, cause), (2, 0), (4, prod), (4, s.rd (Reg.CNP_CRING_CONS n))])

/-- A denied descriptor or fence read (R153). -/
def State.cringDenied (s : State) (n : Nat) : State :=
  let t := s.raise (Reg.CNP_CRING_STAT_FBK n)
  if s.isSet (Reg.CNP_CRING_STAT_FBK n) then t else t.cringFault n 2 (s.rd (Reg.CNP_CRING_PROD n))

/-- A descriptor read through FBK_CNP; a denied read gives zeros (R438). DESIGN CHOICE, unsafe (log 218). -/
def State.readDesc (s : State) (n i : Nat) : Desc × State :=
  let (b, ok, _, _, s1) := s.unitLoad fbkCnp (s.descAddr n i) 128
  (descOf b, if ok then s1 else s1.cringDenied n)

/-- Which fences of a commit are unsatisfied, each read once (R153): their LAYER_MASKs. DESIGN CHOICE, unsafe (log 218). -/
def State.readFences (s : State) (n : Nat) (l : List Fence) : List Nat × State :=
  l.foldl (fun (acc : List Nat × State) f =>
    let (b, ok, _, _, u) := acc.2.unitLoad fbkCnp f.addr 4
    let t := if ok then u else u.cringDenied n
    let w := leNat b
    if ok && (w == f.value || newer 32 w f.value) then (acc.1, t) else (acc.1 ++ [f.mask], t)) ([], s)

/-! ### Checking a commit (R150) -/

def cmPartial : Nat := 32
def cmFenceTimeout : Nat := 33
def cmGroupTimeout : Nat := 34
def cmBufUnreg : Nat := 35
def cmBufGen : Nat := 36
def cmBufClass : Nat := 37
def cmStageStale : Nat := 38

def State.buf (s : State) (n id : Nat) : BufRec := sparseGet {} (s.cmt n).bufs id

/-- Enable, SOURCE and buffer class of a slot as (enabled, source, format, width, height): of the stage where one applies,
else of the layout in use. -/
def State.slotClass (s : State) (n k : Nat) (staged : Bool) : Bool × Nat × Nat × Nat × Nat :=
  let q := if staged then
      match (s.cmt n).stage with
      | some g => g.slots.getD k {}
      | none => {}
    else (s.layer n k).stage
  (q.en, q.source, q.fmt, q.srcW, q.srcH)

/-- Whether the stage a descriptor names is the one that is READY. -/
def State.stageReady (s : State) (n : Nat) (d : Desc) : Bool :=
  s.isSet (Reg.CNP_STAGE_READY n) && s.fld (Reg.CNP_STAGE_SEQ n) == d.stage

/-- Whether a slot keeps the buffer it shows when a stage applies: it stays enabled with the same SOURCE, SOURCE_ID and, for
a host layer, class (R147). DEDUCED, unsafe (log 56). -/
def sameSource (a b : StageSlot) : Bool :=
  a.en && b.en && a.source == b.source && a.id == b.id && (a.source != 0 || (a.fmt == b.fmt && a.srcW == b.srcW && a.srcH == b.srcH))

/-- The slots that would take the buffer they were staged with if a commit applied the ready stage: enabled host slots that do not keep their
source and that the commit does not flip. DEDUCED, unsafe (log 56). -/
def State.stagedBuffers (s : State) (n : Nat) (d : Desc) : List StageSlot :=
  match (s.cmt n).stage with
  | none => []
  | some g => (g.slots.mapIdx fun k q => (k, q)).filterMap fun p =>
      if p.2.en && p.2.source == 0 && !bitAt d.flip p.1 && !sameSource (s.layer n p.1).stage p.2 then some p.2 else none

/-- The status of the first check of R150 a descriptor fails, in the table's order; `staged` says that a stage already applies at
this latch line. Flips are checked against the stage's classes where a stage applies, and so is a buffer that a slot was staged with (R142). DEDUCED, unsafe (log 143). DESIGN CHOICE, unsafe (log 228). -/
def State.checkCommit (s : State) (n : Nat) (d : Desc) (staged : Bool) : Option Nat :=
  let ready := d.stage != 0 && s.stageReady n d
  let st := ready || staged
  let bad (f : Nat → Bool) : Bool := (bitList 8 d.flip).any f
  let rec_ (k : Nat) : BufRec := s.buf n (d.bufs.getD k (0, 0)).1
  let own := if ready && !staged then s.stagedBuffers n d else []
  if d.bad then some stFormat
  else if bad (fun k => !(rec_ k).present || !(s.slotClass n k st).1 || (s.slotClass n k st).2.1 != 0) ||
    own.any fun q => !(s.buf n q.id).present then some cmBufUnreg
  else if bad (fun k => (rec_ k).gen != (d.bufs.getD k (0, 0)).2) then some cmBufGen
  else if bad (fun k => (s.slotClass n k st).2.2 != ((rec_ k).pic.fmt, (rec_ k).pic.w, (rec_ k).pic.h)) ||
    own.any fun q => (q.fmt, q.srcW, q.srcH) != ((s.buf n q.id).pic.fmt, (s.buf n q.id).pic.w, (s.buf n q.id).pic.h) then some cmBufClass
  else if d.stage != 0 && !s.stageReady n d then some cmStageStale
  else none

/-- A commit decided at a latch line: its descriptor, status (0 or PARTIAL when applied), kept slots. -/
structure Decision where
  desc : Desc := {}
  status : Nat := 0
  kept : Nat := 0
  deriving DecidableEq, Repr, Inhabited

/-- What the commits of one latch line show: the buffer each slot takes, and the SEQ of the stage applied, 0 for none (R347). -/
structure LatchPlan where
  bufs : List (Option (Nat × Nat)) := []
  stage : Nat := 0
  deriving DecidableEq, Repr, Inhabited

def Decision.applied (d : Decision) : Bool := d.status == 0 || d.status == cmPartial

/-! ### Groups (R155) -/

/-- The descriptors of a ring from CONS to below PROD, by index. -/
def State.ringIndices (s : State) (n : Nat) : List Nat :=
  let c := s.rd (Reg.CNP_CRING_CONS n)
  let p := match (s.cmt n).closing with
    | some x => x.1
    | none => s.rd (Reg.CNP_CRING_PROD n)
  (List.range (min (wrapSub 32 p c) 1024)).map fun i => wrapAdd 32 c i

/-- The descriptor at index `i` of a ring, as the engine read it. -/
def State.peekDesc (s : State) (n i : Nat) : Desc := (sparseFind (s.cmt n).descs i).getD {}

/-- The frame a PROD write counts for on an output (R151): the next frame before the latch line has started, else the one
after. DEDUCED, unsafe (log 144). -/
def State.targetNow (s : State) (n : Nat) : Option Nat :=
  if !s.scanning n then none
  else
    let y := lineAt (s.mode n) (s.frameStart n) (s.out n).latch
    some (wrapAdd 32 (s.frameNo n) (if (s.ptpNs : Int) < y && !(s.out n).latched then 1 else 2))

/-- The first element that satisfies `p` replaced. -/
def replaceFirst {α : Type} (p : α → Bool) (f : α → α) : List α → List α
  | [] => []
  | x :: t => if p x then f x :: t else x :: replaceFirst p f t

/-- The target of a group whose members are all there: the first frame that every member can still reach. -/
def State.groupTarget (s : State) (members : List (Nat × Nat)) : Option Nat :=
  (members.filterMap fun m => s.targetNow m.1).foldl (fun a f => match a with
    | none => some f
    | some b => if newer 32 f b then some f else some b) none

/-- Descriptor `i` of output `n` joins the first group of its stand and tag that lacks a member on that output, or founds one; the last member
completes it. DEDUCED, unsafe (log 148, 204). -/
def State.joinGroup (s : State) (n i : Nat) (d : Desc) : State :=
  let stand := s.stand n
  let lacks (g : Group) : Bool := g.stand == stand && g.tag == d.tag && g.count == d.count && g.members.length < g.count && !g.dropped &&
    !g.members.any fun m => m.1 == n
  let join (g : Group) : Group :=
    let l := g.members ++ [(n, i)]
    { g with members := l, target := if l.length == g.count then s.groupTarget l else none }
  if s.groups.any lacks then { s with groups := replaceFirst lacks join s.groups }
  else { s with groups := s.groups ++ [join { stand := stand, tag := d.tag, count := d.count, firstF := s.frameNo n }] }

/-- The descriptors that a PROD write adds, from index `old` on: the engine reads each, and group members join their groups. DEDUCED, unsafe (log 148). -/
def State.groupBell (s : State) (n old : Nat) : State :=
  ((List.range (min (wrapSub 32 (s.rd (Reg.CNP_CRING_PROD n)) old) 1024)).map fun k => wrapAdd 32 old k).foldl (fun t i =>
    let (d, u) := t.readDesc n i
    let v := u.setCmt n { u.cmt n with descs := sparseIns (u.cmt n).descs i d }
    if d.group && !d.bad then v.joinGroup n i d else v) s

/-- The descriptors below CONS forgotten. -/
def State.dropDescs (s : State) (n : Nat) : State :=
  s.setCmt n { s.cmt n with descs := (s.cmt n).descs.filter fun p => (s.ringIndices n).contains p.1 }

/-- Whether descriptor `i` of output `n` is a member of a group. -/
def Group.has (g : Group) (n i : Nat) : Bool := g.members.contains (n, i)

/-- The group of a descriptor. -/
def State.groupOf (s : State) (n i : Nat) : Option Group := s.groups.find? fun g => g.has n i

/-- A group's record replaced: groups differ in their members. -/
def State.putGroup (s : State) (g : Group) : State := { s with groups := s.groups.map fun y => if y.members == g.members then g else y }

/-! ### Deciding at a latch line (R151 to R155) -/

/-- The target frame of descriptor `i`. -/
def CommitSt.targetOf (c : CommitSt) (i : Nat) : Option Nat :=
  match c.bells.find? fun b => newer 32 b.prod i with
  | some b => b.target
  | none => none

/-- The latch lines from the one of descriptor `i`'s target frame to the one before frame `f` (R154). DEDUCED, unsafe (log 144). -/
def CommitSt.waitedFor (c : CommitSt) (i f : Nat) : Nat :=
  match c.targetOf i with
  | some t => wrapSub 32 f t
  | none => c.waited

/-- A commit written while the output showed no frame counts for the frame after the first latch line that sees it. DEDUCED, unsafe (log 144). -/
def State.seeBells (s : State) (n f : Nat) : State :=
  let c := s.cmt n
  s.setCmt n { c with bells := c.bells.map fun b => { b with target := b.target.or (some f) } }

/-- The LAYER_MASKs of the fences of a commit that are unsatisfied now: foresight of what its own latch line will find, no access. DEDUCED, unsafe (log 59). -/
def State.openFences (s : State) (d : Desc) : List Nat :=
  (d.fences.filter fun f =>
    let w := s.memNat f.addr 4
    (s.fbkDenies fbkCnp f.addr false).isSome || !(w == f.value || newer 32 w f.value)).map fun f => f.mask

/-- Whether descriptor `j` of output `n` will not hold its ring up at the latch line before frame `f`. DEDUCED, unsafe (log 59). -/
def State.movesOn (s : State) (n j f : Nat) : Bool :=
  let d := s.peekDesc n j
  let c := s.cmt n
  if (c.targetOf j).any fun t => newer 32 t f then false
  else if (s.checkCommit n d false).isSome then true
  else if d.group then (s.groupOf n j).any fun g => g.dropped || match g.decision with
    | some (df, yes) => df == f && yes
    | none => g.members.length == g.count && !newer 32 (g.target.getD f) f && g.members.all fun m => (s.openFences (s.peekDesc m.1 m.2)).isEmpty
  else
    let u := s.openFences d
    u.isEmpty || (d.partial_ && u.all fun k => k != 0) || (d.timeout != 0 && d.timeout ≤ c.waitedFor j f)

/-- Whether nothing before descriptor `i` holds its ring up at the latch line before frame `f` (R152). DEDUCED, unsafe (log 59, 204). -/
def State.aheadClear (s : State) (n i f : Nat) : Bool :=
  let l := (s.ringIndices n).takeWhile fun j => j != i
  l.length < 16 && l.all fun j => s.movesOn n j f

/-- The fences of all members are read: all satisfied, and no member held up in its ring, applies the group; else it waits or,
having waited longer than the smallest TIMEOUT_FR of its members, is dropped. DEDUCED, unsafe (log 59, 204). -/
def State.decideGroup (s : State) (g : Group) (t f : Nat) : State :=
  let members := g.members.map fun m => (m, s.peekDesc m.1 m.2)
  let (bad, s1) := members.foldl (fun (acc : Bool × State) m =>
    let (u, t) := acc.2.readFences m.1.1 m.2.fences
    (acc.1 || !u.isEmpty || !s.aheadClear m.1.1 m.1.2 f, t)) (false, s)
  let limits := (members.map fun m => m.2.timeout).filter fun x => x != 0
  let late := !limits.isEmpty && limits.foldl min 255 ≤ wrapSub 32 f t
  if !bad then s1.putGroup { g with decision := some (f, true) }
  else if late then s1.putGroup { g with dropped := true }
  else s1.putGroup { g with decision := some (f, false) }

/-- At the start of output `n`'s latch line before frame `f`: the groups with a member in its ring whose target frame has come and for which no latch
line of the frame has decided yet are decided, so that the earliest member's latch line decides for all (R155). -/
def State.decideGroups (s : State) (n f : Nat) : State :=
  (s.ringIndices n).foldl (fun t i => match t.groupOf n i with
    | none => t
    | some g =>
      let x := g.target.getD f
      if g.dropped || g.members.length < g.count || newer 32 x f || g.decision.any (fun d => d.2 || d.1 == f) then t
      else t.decideGroup { g with target := some x } x f) s

/-- What becomes of descriptor `i`, a group member at the head of output `n`'s ring, at the latch line before frame `f`: 0 it waits, 1 it
applies, 2 it is dropped. The earliest member's latch line decides for all. DEDUCED, unsafe (log 59, 148). -/
def State.groupVerdict (s : State) (n f i : Nat) : Nat × State :=
  match s.groupOf n i with
  | none => (if 8 ≤ (s.cmt n).waitedFor i f then 2 else 0, s)
  | some g =>
    if g.dropped then (2, s)
    else if g.members.length < g.count then
      if 8 ≤ wrapSub 32 (wrapSub 32 f 1) g.firstF then (2, s.putGroup { g with dropped := true }) else (0, s)
    else if newer 32 (g.target.getD f) f then (0, s)
    else (if g.decision.any fun d => d.2 then 1 else 0, s)

/-- A group is forgotten when every member is done with and no further one can join. -/
def Group.over (g : Group) : Bool := g.members.length ≤ g.finished.length && (g.count ≤ g.members.length || g.dropped)

/-- Descriptor `i` of output `n` is done with. -/
def State.groupDone (s : State) (n i : Nat) : State :=
  { s with groups := (s.groups.map fun g => if g.has n i then { g with finished := n :: g.finished } else g).filter fun g => !g.over }

/-- The members of an output whose commits are cancelled: their groups cannot be applied whole any more. DEDUCED, unsafe (log 148, 204). -/
def State.groupsCancel (s : State) (n : Nat) : State :=
  { s with groups := (s.groups.map fun g =>
      if g.members.any (fun m => m.1 == n) && !g.finished.contains n then { g with dropped := true, finished := n :: g.finished }
      else g).filter fun g => !g.over }

/-- The engine's decisions at the latch line before frame `f`, in ring order; the second part counts the commits that move
on, the third says whether the oldest candidate waits. `left` bounds the commits looked at, `room` those applied. -/
def State.decideFrom (s : State) (n f : Nat) (staged : Bool) (room : Nat) : Nat → List Nat → List Decision × Nat × Bool × State
  | 0, _ => ([], 0, false, s)
  | _ + 1, [] => ([], 0, false, s)
  | left + 1, i :: rest =>
    let c := s.cmt n
    if (match c.targetOf i with
        | some t => newer 32 t f
        | none => false) then ([], 0, false, s)
    else if room == 0 then
      let more := (i :: rest).filter fun j => match c.targetOf j with
        | some t => !newer 32 t f
        | none => true
      ([], more.length, false, s)
    else
      let d := s.peekDesc n i
      let go (x : Decision) (t : State) (cost : Nat) : List Decision × Nat × Bool × State :=
        let t1 := t.setCmt n { t.cmt n with waited := 0 }
        let (l, k, w, u) := State.decideFrom t1 n f (staged || (x.applied && d.stage != 0)) (room - cost) left rest
        (x :: l, k, w, u)
      let wait (t : State) : List Decision × Nat × Bool × State :=
        ([], 0, true, (t.setCmt n { t.cmt n with waited := (t.cmt n).waited + 1 }).bump (Reg.CNP_CNT_FENCE_WAIT n))
      match s.checkCommit n d staged with
      | some st => go { desc := d, status := st } s 0
      | none =>
        if d.group then
          match s.groupVerdict n f i with
          | (1, t) => go { desc := d } t 1
          | (2, t) => go { desc := d, status := cmGroupTimeout } t 0
          | (_, t) => wait t
        else
          let (u, s2) := s.readFences n d.fences
          if u.isEmpty then go { desc := d } s2 1
          else if d.partial_ && u.all fun k => k != 0 then
            let kept := maskOf ((bitList 8 d.flip).filter fun k => u.any fun m => bitAt m k)
            go { desc := d, status := cmPartial, kept := kept } s2 1
          else if d.timeout != 0 && d.timeout ≤ c.waitedFor i f then go { desc := d, status := cmFenceTimeout } s2 0
          else wait s2

/-! ### Applying (R146, R156) -/

/-- CNP_RELEASE (R161). -/
def State.releaseNotice (s : State) (n k id gen lastF : Nat) (notShown : Bool) : State :=
  s.notice 0x0412 n [s.owner n] (pack [(1, n), (1, k), (1, ofBool notShown), (1, 0), (2, id), (2, gen), (4, lastF)])

/-- CNP_FLIP_DONE (R161). -/
def State.flipNotice (s : State) (n f : Nat) (d : Decision) : State :=
  s.notice 0x0411 n [s.owner n] (pack [(1, n), (1, d.kept), (2, d.status), (4, f), (8, d.desc.user)])

/-- The buffer or picture a layer shows is given up: windows disarmed, a held picture released, and CNP_RELEASE for a host
buffer with the last frame that showed it. DEDUCED, unsafe (log 57). -/
def State.giveUp (s : State) (n k f : Nat) : State :=
  let l := s.layer n k
  match l.pic with
  | none => s
  | some p =>
    let src := s.fld (Reg.CNP_LAYER_CFG_SOURCE n k)
    let id := s.fld (Reg.CNP_LAYER_BUF_ID n k)
    let s1 := (s.disarmLayer n k).setLayer n k { l with pic := none }
    if src == 0 then s1.releaseNotice n k id (s.fld (Reg.CNP_LAYER_BUF_GEN n k)) f false
    else s1.dropPic src id p.slot (8 * n + k)

/-- The layer counts as changed for Lookout at this latch line. -/
def State.noteFlip (s : State) (n k : Nat) : State :=
  let g := s.look n
  s.setLook n { g with nextFlipped := if g.nextFlipped.contains k then g.nextFlipped else k :: g.nextFlipped }

/-- The colour settings of a decode or capture layer are those of its picture (R133). -/
def State.showStream (s : State) (n k : Nat) (p : Pic) : State :=
  ((s.setFld (Reg.CNP_LAYER_CFG_FORMAT n k) p.fmt).setFld (Reg.CNP_LAYER_CFG_MATRIX n k) p.matrix).setFld
    (Reg.CNP_LAYER_CFG_FULL_RANGE n k) (ofBool p.full)

/-- A layer takes a picture: windows armed, CNP_LAYER_BUF and the colour settings written, the layer counted as changed for
Lookout. -/
def State.takePic (s : State) (n k id : Nat) (p : Pic) : State :=
  let l := s.layer n k
  let s1 := (s.armLayer n k p).setLayer n k { l with pic := some p }
  let s2 := (s1.setFld (Reg.CNP_LAYER_BUF_ID n k) id).setFld (Reg.CNP_LAYER_BUF_GEN n k) p.gen
  let s3 := if s.fld (Reg.CNP_LAYER_CFG_SOURCE n k) == 0 then s2
    else (s2.showStream n k p).holdPic (s.fld (Reg.CNP_LAYER_CFG_SOURCE n k)) id p.slot (8 * n + k)
  s3.noteFlip n k

/-- Whether a layer shows host buffer `id` at generation `gen`. -/
def State.shows (s : State) (n k id gen : Nat) : Bool :=
  (s.layer n k).pic.isSome && s.fld (Reg.CNP_LAYER_CFG_SOURCE n k) == 0 && s.fld (Reg.CNP_LAYER_BUF_ID n k) == id &&
    s.fld (Reg.CNP_LAYER_BUF_GEN n k) == gen

/-- A commit puts a buffer on a layer; one that it shows already stays, with no release (R146). DEDUCED, unsafe (log 205). -/
def State.putBuffer (s : State) (n k f id gen : Nat) : State :=
  if s.shows n k id gen then s.noteFlip n k else (s.giveUp n k f).takePic n k id { (s.buf n id).pic with gen := gen }

/-- The layer registers of a slot written from a stage; its box is its destination, empty when it is disabled (R140). -/
def State.writeSlot (s : State) (n k : Nat) (q : StageSlot) : State :=
  let b (f : Nat → Nat → Fld) (v : Nat) (t : State) : State := t.setFld (f n k) v
  let s1 := b Reg.CNP_LAYER_CFG_EN (ofBool q.en) (b Reg.CNP_LAYER_CFG_OPAQUE (ofBool q.opq) (b Reg.CNP_LAYER_CFG_STATIC (ofBool q.static)
    (b Reg.CNP_LAYER_CFG_PREMULT (ofBool q.premult) (b Reg.CNP_LAYER_CFG_IGNORE_ALPHA (ofBool q.ignoreAlpha)
    (b Reg.CNP_LAYER_CFG_SOURCE q.source (b Reg.CNP_LAYER_CFG_FORMAT q.fmt (b Reg.CNP_LAYER_CFG_FILTER q.filter
    (b Reg.CNP_LAYER_CFG_SCALERS q.scalers (b Reg.CNP_LAYER_CFG_SCALER_IDX q.scalerIdx (b Reg.CNP_LAYER_CFG_MATRIX q.matrix
    (b Reg.CNP_LAYER_CFG_FULL_RANGE (ofBool q.full) (b Reg.CNP_LAYER_CFG_PLANE_ALPHA q.alpha s))))))))))))
  let xy (x y : Nat) : Nat := x + y * 65536
  let s2 := (((s1.wr (Reg.CNP_LAYER_SRC_XY n k) (xy q.crop.x q.crop.y)).wr (Reg.CNP_LAYER_SRC_WH n k) (xy q.crop.w q.crop.h)).wr
    (Reg.CNP_LAYER_DST_XY n k) (xy q.dst.x q.dst.y)).wr (Reg.CNP_LAYER_DST_WH n k) (xy q.dst.w q.dst.h)
  let s3 := (s2.wr (Reg.CNP_LAYER_BOX_XY n k) (if q.en then xy q.dst.x q.dst.y else 0)).wr (Reg.CNP_LAYER_BOX_WH n k)
    (if q.en then xy q.dst.w q.dst.h else 0)
  let s4 := (s3.wr (Reg.CNP_LAYER_CELL n k) q.cell).setFld (Reg.CNP_LAYER_STAT_SVC_ALTERED n k) 0
  s4.setLayer n k { s4.layer n k with stage := q, col := q.col }

/-- R170: when a layer is disabled or its source changes, the MUST_CHANGE regions that name its slot lose EN. -/
def State.dropRegions (s : State) (n k : Nat) : State :=
  ((s.enabledOn n).filter fun r => ctrlKind (s.rgCtrl r) == 2 && ctrlSlot (s.rgCtrl r) == k).foldl (fun t r =>
    ((t.wr (regionBase r) (withBits (t.rgCtrl r) 11 11 0)).clearRegion r).regionGone r 1) s

/-- One slot of a stage takes effect at the latch line of frame `f`; a slot that no longer shows what it showed gives it up. `take` is the buffer
the commits of this latch line leave on it. DEDUCED, unsafe (log 56, 205). -/
def State.applySlot (s : State) (n k f : Nat) (q : StageSlot) (take : Option (Nat × Nat)) : State :=
  let old := (s.layer n k).stage
  let keep := sameSource old q || take.any fun b => s.shows n k b.1 b.2
  let s1 := if keep then s else s.giveUp n k f
  let s2 := s1.writeSlot n k q
  let s3 := match (s2.layer n k).pic with
    | some p => if q.source == 0 then s2 else s2.showStream n k p
    | none => s2
  if old.en && (!q.en || old.source != q.source || old.id != q.id) then s3.dropRegions n k else s3

/-- The tolerance of a newly applied stage (R117): a lower one at once, a higher one a latch line later. -/
def State.stageTol (s : State) (n tol : Nat) : State :=
  if tol < s.fld (Reg.CNP_OUT_TOL_TOL_NS n) then (s.setOut n { s.out n with tolNext := none }).setTol n tol
  else s.setOut n { s.out n with tolNext := some tol }

/-- The staged span set becomes the active one (R156, GATE_OUT_STAGE). -/
def State.swapSpans (s : State) (n : Nat) : State :=
  ((s.setFld (Reg.GATE_OUT_STAT_SET n) (1 - s.activeSet n)).setFld (Reg.GATE_OUT_STAT_COUNT n) (s.stagedCount n)).setFld
    (Reg.GATE_OUT_STAGE_ARM n) 0

/-- A stage applied at the latch line of frame `f`; `plan` gives the buffer that the commits of this latch line leave on each slot. A stage named
again after it was applied swaps no span set. -/
def State.applyStage (s : State) (n f : Nat) (plan : List (Option (Nat × Nat))) : State :=
  match (s.cmt n).stage with
  | none => s
  | some g =>
    let s1 := (List.range 8).foldl (fun t k => t.applySlot n k f (g.slots.getD k {}) (plan.getD k none)) s
    let c := s1.cmt n
    let s1 := if c.applied == c.seq then s1 else (s1.setCmt n { c with applied := c.seq }).swapSpans n
    let s2 := s1.stageTol n g.tol
    let l := s2.look n
    s2.setLook n { l with nextRestaged := true }

/-- A reference that waits for a commit takes effect (R189). -/
def State.refsOnCommit (s : State) (n f : Nat) : State :=
  (s.regionList.filter fun r => ctrlOut (s.rgCtrl r) == n && (s.region r).onCommit.isSome).foldl (fun t r =>
    match (t.region r).onCommit with
    | none => t
    | some v => ((t.setRegion r { t.region r with onCommit := none }).wr (regionBase r + 16) v).wr (regionBase r + 20) f) s

/-- The buffers a decision names for slots it flips: (slot, id, GEN). -/
def Decision.flips (d : Decision) : List (Nat × Nat × Nat) :=
  (bitList 8 d.desc.flip).map fun k => (k, d.desc.bufs.getD k (0, 0))

/-- The buffer that slot `k` takes from the applied commits, in ring order (R152): the last flip that is not kept; a slot whose source an applied stage
changes takes the buffer it was staged with, unless a fence keeps its flip (R154): then it keeps the buffer it has, where the stage's class allows it, else none.
DEDUCED, unsafe (log 56). DEDUCED, unsafe (log 56, 205). -/
def State.slotPlan (s : State) (n k : Nat) (done : List Decision) : Option (Nat × Nat) :=
  let q := ((s.cmt n).stage.map fun g => g.slots.getD k {}).getD {}
  let l := s.layer n k
  let now := if l.pic.isSome && l.stage.source == 0 then some (s.fld (Reg.CNP_LAYER_BUF_ID n k), s.fld (Reg.CNP_LAYER_BUF_GEN n k)) else none
  (done.foldl (fun (a : StageSlot × Option (Nat × Nat)) d =>
    let kept := bitAt d.desc.flip k && bitAt d.kept k
    let b := if d.desc.stage == 0 || sameSource a.1 q then a
      else if kept then
        (q, if a.1.en && q.en && a.1.source == 0 && q.source == 0 && (a.1.fmt, a.1.srcW, a.1.srcH) == (q.fmt, q.srcW, q.srcH) then a.2.or now else none)
      else (q, if q.en && q.source == 0 then some (q.id, (s.buf n q.id).gen) else none)
    if bitAt d.desc.flip k && !kept then (b.1, some (d.desc.bufs.getD k (0, 0))) else b) (l.stage, none)).2

/-- The plan of the applied commits of one latch line. -/
def State.latchPlan (s : State) (n : Nat) (ds : List Decision) : LatchPlan :=
  let done := ds.filter Decision.applied
  { bufs := (List.range 8).map fun k => s.slotPlan n k done
    stage := ((done.filter fun d => d.desc.stage != 0).getLast?.map fun d => d.desc.stage).getD 0 }

/-- The decisions of a latch line performed (R156): windows and buffers, span set, layer registers, CONS, releases and
CNP_FLIP_DONE notices. `f` is the frame being scanned; the next frame shows the result. -/
def State.performCommits (s : State) (n f : Nat) (ds : List Decision) (lp : LatchPlan) : State :=
  let nf := wrapAdd 32 f 1
  let cons := s.rd (Reg.CNP_CRING_CONS n)
  let done := ds.filter Decision.applied
  let plan := lp.bufs
  let s1 := if lp.stage != 0 then s.applyStage n f plan else s
  let s2 := (List.range 8).foldl (fun t k => match plan.getD k none with
    | none => t
    | some (id, gen) => t.putBuffer n k f id gen) s1
  let hidden := ds.flatMap fun d => d.flips.filter fun p => !d.applied || bitAt d.kept p.1 || plan.getD p.1 none != some p.2
  let s3 := hidden.foldl (fun t p => t.releaseNotice n p.1 p.2.1 p.2.2 f true) s2
  let c := wrapAdd 32 cons ds.length
  let s4 := ((s3.wr (Reg.CNP_CRING_CONS n) c).bump (Reg.CNP_CNT_COMMITS n) done.length).bump (Reg.CNP_CNT_DROPPED n)
    (ds.length - done.length)
  let s5 := if done.isEmpty then s4 else (s4.wr (Reg.CNP_COMMIT_LAST n) nf).refsOnCommit n nf
  let anyLayer := (List.range 8).any fun k => s5.isSet (Reg.CNP_LAYER_CFG_EN n k)
  let x := s5.cmt n
  let s6 := s5.setCmt n { x with shown := x.shown || (!done.isEmpty && anyLayer), bells := x.bells.filter fun b => newer 32 b.prod c }
  (ds.mapIdx fun i d => (i, d)).foldl (fun t p => (t.groupDone n (wrapAdd 32 cons p.1)).flipNotice n nf p.2) (s6.dropDescs n)

/-- Whether confirmations of a decode session (kind 1) or a capture input (kind 2) wait for the ledger engine: until they are applied no layer takes
its new picture (R202, R325). -/
def State.confirmsWait (s : State) (kind id : Nat) : Bool :=
  let x := s.pool kind id
  s.ldg.conf.any fun e => e.cell == x.cell || (kind == 1 && x.rowCell ≤ e.cell && e.cell < x.rowCell + x.rows)

/-- Layers with SOURCE 1 or 2 take the newest picture (R129): not while an injection freezes the layer (R479), nor, with
HALF_RATE, at a latch line followed by an odd frame, nor before the picture's confirmations are applied (R202, R325). -/
def State.takeNewest (s : State) (n f : Nat) : State :=
  (List.range 8).foldl (fun t k =>
    let src := t.fld (Reg.CNP_LAYER_CFG_SOURCE n k)
    let id := (t.layer n k).stage.id
    if !t.isSet (Reg.CNP_LAYER_CFG_EN n k) || src == 0 then t
    else if t.isSet (Reg.CNP_LAYER_CFG_HALF_RATE n k) && wrapAdd 32 f 1 % 2 == 1 then t
    else if t.confirmsWait src id then t
    else
      let (inj, t1) := t.injTake 0x17 (8 * n + k)
      if inj.isSome then t1
      else match t1.newestPic src id with
        | none => t1
        | some p =>
          if (t1.layer n k).pic.any fun q => q.slot == p.slot && q.gen == p.gen then t1
          else (t1.giveUp n k f).takePic n k id p) s

/-! ### Rungs 2 and 4 on an output's layers (R422) -/

/-- Whether rung `r` of the degrade ladder is in force. -/
def State.rung (s : State) (r : Nat) : Bool := bitAt s.pol.rungs (r - 1)

/-- The FILTER that rung 2 gives a layer committed with `f`. -/
def lowerFilter (f : Nat) : Nat := if f == 3 || f == 4 then 2 else if f == 2 then 1 else f

/-- A layer's slot as its spans were last built for: the committed one, with rung 2's FILTER where that is in force. -/
def LayerSt.valid (l : LayerSt) : StageSlot := if l.eased then { l.stage with filter := lowerFilter l.stage.filter } else l.stage

/-- Rungs 2 and 4 applied or taken back on a standard-class output's layers at its latch line, the spans restaged by R83 with the new
tap count; they are restaged as well when a session shown has another row height than its row spans were built for (R203). DEDUCED, unsafe (log 60, 131). -/
def State.ladderLatch (s : State) (n : Nat) : State :=
  let std := s.fld (Reg.CNP_OUT_CTRL_CLASS n) == 0
  let fresh := (s.look n).nextRestaged
  let (changed, s1) := (List.range 8).foldl (fun (a : Bool × State) k =>
    let t := a.2
    let l := t.layer n k
    let q := l.stage
    let half := ofBool (t.rung 4 && std && q.en && q.source != 0)
    let e := t.rung 2 && std && q.en && q.scaled && 2 ≤ q.filter
    let t1 := t.setFld (Reg.CNP_LAYER_CFG_HALF_RATE n k) half
    let x := t.pool q.source q.id
    let rows := q.en && q.source == 1 && x.rows != 0 && q.rowH != x.rowH
    if e != l.eased || (e && fresh) || rows then
      let l1 := { l with eased := e, stage := if rows then { q with rowH := x.rowH } else q }
      (true, (t1.setLayer n k l1).setFld (Reg.CNP_LAYER_CFG_FILTER n k) l1.valid.filter)
    else (a.1, t1)) (false, s)
  if !changed then s1
  else
    let spans := s1.layoutSpans n (s1.mode n) ((List.range 8).map fun k => (s1.layer n k).valid)
    let s2 := (s1.writeSpans n (s1.activeSet n) spans).setFld (Reg.GATE_OUT_STAT_COUNT n) spans.length
    s2.setLook n { s2.look n with nextRestaged := true }

end Sys2Proof.Machine
end

