-- ==== Sys2Proof/Machine/Frames.lean ====
section
/-! DEFINITION. What happens along a frame (spec/03 to spec/06): the sample point of a line, the line, the end of the active
area, the Lookout post, the latch line, the frame start. Each operation tests whether its event is due in this state. -/

namespace Sys2Proof.Machine

open Sys2Proof

/-! ### The layers as Canopy scans them -/

/-- A rectangle from two registers, X and Y, W and H in their low and high halves. -/
def State.rectOf (s : State) (xy wh : Nat) : Rect :=
  { x := s.rd xy % 65536, y := s.rd xy / 65536, w := s.rd wh % 65536, h := s.rd wh / 65536 }

/-- Slot `k` as its registers have it, with its picture. -/
def State.layerView (s : State) (n k : Nat) : LayerView :=
  let l := s.layer n k
  let b (f : Nat → Nat → Fld) : Bool := s.isSet (f n k)
  { en := b Reg.CNP_LAYER_CFG_EN, opq := b Reg.CNP_LAYER_CFG_OPAQUE, premult := b Reg.CNP_LAYER_CFG_PREMULT,
    ign := b Reg.CNP_LAYER_CFG_IGNORE_ALPHA, filter := s.fld (Reg.CNP_LAYER_CFG_FILTER n k),
    scalers := s.fld (Reg.CNP_LAYER_CFG_SCALERS n k), alpha := s.fld (Reg.CNP_LAYER_CFG_PLANE_ALPHA n k),
    matrix := s.fld (Reg.CNP_LAYER_CFG_MATRIX n k), full := b Reg.CNP_LAYER_CFG_FULL_RANGE,
    crop := s.rectOf (Reg.CNP_LAYER_SRC_XY n k) (Reg.CNP_LAYER_SRC_WH n k),
    dst := s.rectOf (Reg.CNP_LAYER_DST_XY n k) (Reg.CNP_LAYER_DST_WH n k),
    box := if b Reg.CNP_LAYER_STAT_SVC_ALTERED then some (s.rectOf (Reg.CNP_LAYER_BOX_XY n k) (Reg.CNP_LAYER_BOX_WH n k)) else none,
    pic := l.pic, col := l.col }

/-- The slot's layout as its registers have it, for fetch counting and for the comparison of R140. -/
def State.liveSlot (s : State) (n k : Nat) : StageSlot :=
  let v := s.layerView n k
  let q := (s.layer n k).stage
  { q with en := v.en, opq := v.opq, premult := v.premult, ignoreAlpha := v.ign, filter := v.filter, alpha := v.alpha,
           crop := v.crop, dst := v.dst, scalers := v.scalers,
           fmt := (v.pic.map fun p => p.fmt).getD q.fmt, srcW := (v.pic.map fun p => p.w).getD q.srcW,
           srcH := (v.pic.map fun p => p.h).getD q.srcH }

/-- What Canopy fetches of slot `k` for line `y`, block by block through FBK_CNP (R16): a denied access reads zeros (R438). The palette of an I8
layer is fetched before the layer's first line and held for the frame (R136). The Bool says whether data came poisoned. DEDUCED, unsafe (log 206). -/
def State.layerReader (s : State) (n k y : Nat) (slots : List StageSlot) : Reader × Bool × State :=
  let q := slots.getD k {}
  let above := slots.drop (k + 1)
  let lim := ((s.mode n).w, (s.mode n).h)
  match (s.layer n k).pic with
  | none => (fun _ => 0, false, s)
  | some p =>
    if !q.en then (fun _ => 0, false, s)
    else
      let (badPal, s1) := if p.fmt == 7 && y == q.dst.y && anyVisible above q lim then
          let (b, _, _, bad, t) := s.fillLoad n p.p1 1024
          (bad, t.setLayer n k { t.layer n k with pal := b })
        else (false, s)
      let pieces := (lineReads above q p y lim).flatMap fun r => accessPieces r.1 r.2
      let (denied, bad, t) := pieces.foldl (fun (acc : List (Nat × Nat) × Bool × State) r =>
        let (_, ok, _, bad, u) := acc.2.2.fillLoad n r.1 r.2
        (if ok then acc.1 else r :: acc.1, acc.2.1 || bad, u)) ([], badPal, s1)
      let pal := (t.layer n k).pal
      (fun a =>
        if p.fmt == 7 && p.p1 ≤ a && a < p.p1 + 1024 then (pal.getD (a - p.p1) 0).toNat
        else if denied.any fun r => r.1 ≤ a && a < r.1 + r.2 then 0
        else (t.viewByte a).toNat, bad, t)

/-! ### Torn layers (R157) -/

/-- CNP_LAYER_TORN (R161). -/
def State.tornNotice (s : State) (n k cls : Nat) : State :=
  let l := s.layer n k
  s.notice 0x0413 n [0, s.owner n] (pack [(1, n), (1, k), (1, l.tornCheck), (1, cls), (4, l.tornF), (2, l.tornFirst), (2, 0)])

/-- A generation check of a layer mismatches in frame `f`: `check` 0 start, 1 end; `line` is the first line it treats. DEDUCED, unsafe (log 146). -/
def State.torn (s : State) (n k f check line : Nat) (injected : Bool) : State :=
  let l := s.layer n k
  if l.tornNow then s
  else
    let first := (s.run 0x0D (8 * n + k)).count == 0
    let l1 := { l with tornNow := true, tornHold := true,
                       tornF := if first then f else l.tornF
                       tornFirst := if first then line else l.tornFirst
                       tornCheck := if first then check else l.tornCheck }
    let s1 := ((s.setLayer n k l1).tornFollow n k).raise (Reg.CNP_LAYER_STAT_TORN n k)
    let (lasting, t) := (s1.bump (Reg.CNP_CNT_TORN n)).detFail 0x0D (8 * n + k) injected
    if lasting then t.tornNotice n k 2 else t

/-- Whether the generation taken with a layer's picture is no longer the record's or slot's. -/
def State.genDiffers (s : State) (n k : Nat) : Bool :=
  match (s.layer n k).pic with
  | none => false
  | some p =>
    let src := s.fld (Reg.CNP_LAYER_CFG_SOURCE n k)
    let id := s.fld (Reg.CNP_LAYER_BUF_ID n k)
    let now := if src == 0 then (s.buf n id).gen else s.picGen src id p.slot
    now != s.fld (Reg.CNP_LAYER_BUF_GEN n k)

/-- The enabled slots of an output. -/
def State.enabledSlots (s : State) (n : Nat) : List Nat := (List.range 8).filter fun k => s.isSet (Reg.CNP_LAYER_CFG_EN n k)

/-- The frame counter value of the frame whose line 0 is sampled next. -/
def State.nextF (s : State) (n : Nat) : Nat :=
  if s.outState n == osStarting then ((s.out n).nextK % (2 ^ 32 : Int)).toNat else wrapAdd 32 (s.frameNo n) 1

/-- The start check of every enabled layer, before its first fetch for a frame. -/
def State.startChecks (s : State) (n : Nat) : State :=
  (s.enabledSlots n).foldl (fun t k => if t.genDiffers n k then t.torn n k (s.nextF n) 0 0 false else t) s

/-- The end check of every enabled layer; a frame without a mismatch ends the run and the override. DEDUCED, unsafe (log 146). -/
def State.endChecks (s : State) (n : Nat) : State :=
  (s.enabledSlots n).foldl (fun t k =>
    let (inj, t0) := t.injTake 0x0D (8 * n + k)
    let t1 := if inj.isSome || t0.genDiffers n k then t0.torn n k (t0.frameNo n) 1 (t0.mode n).h inj.isSome else t0
    let l := t1.layer n k
    if l.tornNow then t1.setLayer n k { l with tornNow := false }
    else
      let (one, u) := t1.detPass 0x0D (8 * n + k)
      let u1 := if one then u.tornNotice n k 1 else u
      (u1.setLayer n k { u1.layer n k with tornHold := false }).tornFollow n k) s

/-! ### The sample point (R87 to R89) -/

/-- The colours of R101's table in order. -/
def State.gateColours (s : State) : List Nat :=
  [s.rd Reg.GATE_HATCH_A_COL, s.rd Reg.GATE_HATCH_B_COL, s.rd Reg.GATE_BADGE_PLATE_COL, s.rd Reg.GATE_BADGE_GLYPH_COL,
   s.rd Reg.GATE_LATTICE_COL, s.rd Reg.GATE_CLEAR_COL, s.rd Reg.GATE_CLEAR_GLYPH_COL, s.rd Reg.GATE_PULSE_COL0,
   s.rd Reg.GATE_PULSE_COL1, s.rd Reg.GATE_PULSE_MARK_COL]

/-- The settings of a frame latched at the sample point of line 0 (R89), the active list emptied. DEDUCED, unsafe (log 45). -/
def State.latchFrame (s : State) (n : Nat) : State :=
  let cfg := s.rd (Reg.GATE_OUT_CFG n)
  let g := s.gateOut n
  s.setGate n { g with
    latch := { now := s.nowOf ageCmp, cols := s.gateColours, alphaA := s.fld Reg.GATE_HATCH_ALPHA_ALPHA_A,
               alphaB := s.fld Reg.GATE_HATCH_ALPHA_ALPHA_B, cfg := cfg,
               void := bitAt cfg 31 || g.holds != 0 || !(s.cmt n).shown }
    loaded := [], held := [], texts := [], orderBad := false, omitted := [], treated := 0, faultNow := [] }

/-- The dispute rectangles in use: X0, X1, Y0, Y1 (R97). DESIGN CHOICE, unsafe (log 182). -/
def State.disputesOf (s : State) (n : Nat) : List (Nat × Nat × Nat × Nat) :=
  (List.range 16).filterMap fun k =>
    let x := s.rd (Reg.GATE_OUT_DISP_X n k)
    let y := s.rd (Reg.GATE_OUT_DISP_Y n k)
    if x % 65536 < x / 65536 && y % 65536 < y / 65536 then some (x % 65536, x / 65536, y % 65536, y / 65536) else none

/-- A span fault injected for the frame (R479, 0x18): the bit of GATE_OUT_STAT that the next line meets. -/
def State.spanInjection (s : State) (n y : Nat) : Option Nat × State :=
  if y == 0 then
    let (inj, t) := s.injTake 0x18 n (fun p => if bitAt p 8 then 2 else 1)
    (inj.map fun p => bitsAt p 4 0, t)
  else (none, s)

/-- The badge texts after line `y`'s sample point (R89, R92): at line 0 those of every span of the active set with an age basis; later
those of spans that have gone STALE with none, at that line's age. DESIGN CHOICE, unsafe (log 186). -/
def State.lineTexts (s : State) (n y : Nat) (spans : List LineSpan) : List (Nat × List Nat) :=
  let m := s.mode n
  let whole (e : Nat × SpanEnt) : LineSpan :=
    let p := s.alteredState n m (s.sampleSpan n m e.1 e.2)
    if p.basis.isSome then p else { p with basis := (s.gateState n e.2.cell).2 }
  let l := if y == 0 then (s.gateOut n).whole.map whole
    else spans.filter fun p => p.state == csStale
  addTexts (s.nowOf ageCmp) l (s.gateOut n).texts

/-- The spans of line `y` sampled: loading, overrides, frame-coherent mode, badge texts (R82, R86 to R89, R92). -/
def State.sampleSpans (s : State) (n y : Nat) (late : Bool) : State :=
  let m := s.mode n
  let (inj, s0) := (s.loadLine n y).spanInjection n y
  let g0 := s0.gateOut n
  let active := g0.loaded.filter fun e => y < min e.2.y1 m.h && e.2.x0 < min e.2.x1 m.w
  let order := g0.orderBad || disordered g0.loaded
  let spans := active.map fun e => holdState g0 (bitAt g0.latch.cfg 8) (s0.alteredState n m (s0.sampleSpan n m e.1 e.2))
  let held := if bitAt g0.latch.cfg 8 then spans.foldl (fun a p =>
    if (sparseFind a p.idx).isNone then sparseIns a p.idx (p.state, p.basis) else a) g0.held else g0.held
  let isLate := late || inj == some 31
  let ovf := 256 < active.length || inj == some 30
  let ord := order || inj == some 28
  let fmt := (g0.loaded.any fun e => e.2.bad) || inj == some 27
  let void := isLate || ovf || ord
  let s1 := s0.setGate n { g0 with
    spans := spans, texts := s0.lineTexts n y spans, held := held, orderBad := order, lineVoid := void, disputes := s0.disputesOf n }
  let s2 := if void then s1.bump (Reg.GATE_OUT_CNT_LATE n) else s1
  let f (b : Bool) (bit : Nat) (t : State) : State := if b then t.gateFault n bit else t
  f isLate 31 (f ovf 30 (f ord 28 (f fmt 27 (if inj == some 29 then s2.gateFault n 29 else s2))))

/-- Whether the sample point of line `y` is due (R87): lines come in order, each 1.0 microseconds before it begins, and line 0's comes before
the frame starts. DEDUCED, unsafe (log 49). -/
def State.sampleDue (s : State) (n y : Nat) : Bool :=
  let o := s.out n
  let st := s.outState n
  let now : Int := s.ptpNs + 1000
  y < (s.mode n).h && o.sampled == y &&
    (if y == 0 then (st == osStarting || (st == osRunning && o.ended && o.latched)) && decide (s.nextStart n ≤ now)
     else s.scanning n && !o.ended && o.line == y && decide (lineAt (s.mode n) (s.frameStart n) y ≤ now))

/-- The sample point of a line. `ecc` are the outcomes of Lookout table reads that were not good (R173). -/
def State.samplePoint (s : State) (n y : Nat) (late : Bool) (ecc : List (Nat × Nat)) : State :=
  if !s.sampleDue n y then s
  else
    let s1 := if y == 0 then ((s.startChecks n).latchFrame n).latchRegions n ecc else s
    let s2 := s1.sampleSpans n y late
    s2.setOut n { s2.out n with sampled := y + 1 }

/-! ### The line (R79, R105, R119) -/

/-- Columns without data repeat the last pixel delivered on the line. -/
def repeatLast (gap : Nat → Bool) (free : Nat) : List Nat → Nat → Option Nat → List Nat
  | [], _, _ => []
  | p :: t, x, last =>
    let v := if gap x then last.getD free else p
    v :: repeatLast gap free t (x + 1) (some v)

/-- Whether a line is due: its instant has come (R108), its sample point has passed and the lines before it have started. DEDUCED, unsafe (log 49). -/
def State.lineDue (s : State) (n y : Nat) : Bool :=
  let o := s.out n
  s.scanning n && !o.ended && o.line == y && o.sampled == y + 1 && y < (s.mode n).h && s.lineBegun n y

/-- Line `y` composed: pixels blended from the layers, then the last pixel repeated where data lacks. The answer also says whether it is
an underrun line, and which slots had a poisoned fetch. DESIGN CHOICE, safe (log 12). -/
def State.composeLine (s : State) (n y : Nat) (gaps : List (Nat × Nat)) : List Nat × Bool × List Nat × State :=
  let m := s.mode n
  let o := s.out n
  let (inj, s0) := if y == 0 then s.injTake 0x0C n (fun p => if bitAt p 16 then 2 else 1) else (none, s)
  let noFill := if y == 0 then (inj.map fun p => bitsAt p 11 0).getD 0 else o.noFill
  let slots := (List.range 8).map fun k => s0.liveSlot n k
  let (layers, poison, s1) := (List.range 8).foldl (fun (acc : List (LayerView × Reader) × List Nat × State) k =>
    let (r, bad, t) := acc.2.2.layerReader n k y slots
    (acc.1 ++ [(s0.layerView n k, r)], if bad then k :: acc.2.1 else acc.2.1, t)) ([], [], s0)
  let bg := s1.fld (Reg.CNP_BG_COL_RGB n)
  let clear := s1.rd Reg.GATE_CLEAR_COL
  let raw := (List.range m.w).map fun x => composePixel layers bg clear x y
  let gap (x : Nat) : Bool := (gaps.any fun g => g.1 ≤ x && x < g.2) || ((y < noFill || o.urLost) && x != 0)
  let under := (List.range m.w).any gap
  let s2 := (if under then s1.nextFree else s1).setOut n { s1.out n with noFill := noFill, urLost := false }
  (repeatLast gap (Config.lostPixel s1.fresh % 2 ^ 30) raw 0 none, under, poison, s2)

/-- An active line begins: composed, treated, tapped. `gaps` are column ranges the scan pool lacks, `poison` slots with a
poisoned fetch beside those that memory's errors poison, `pool` the pool fill in 64-byte units. The answer is the line's pixels as they leave the gate. DEDUCED, unsafe (log 48). DESIGN CHOICE, safe (log 51). DESIGN CHOICE, unsafe (log 183). -/
def State.lineStart (s : State) (n y : Nat) (gaps : List (Nat × Nat)) (poison : List Nat) (pool : Nat) : List Nat × State :=
  if !s.lineDue n y then ([], s)
  else
    let m := s.mode n
    let f := s.frameNo n
    let (comp, under, bad, s1) := s.composeLine n y gaps
    let g := s1.gateOut n
    let px := comp.mapIdx fun x i => gatePixel g m n f x y i
    let out := px.map fun p => p.col
    let painted := px.map fun p => p.painted
    let omits := (px.filterMap fun p => p.omits).foldl (fun a i => if a.contains i || g.omitted.contains i then a else i :: a) []
    let deepRuns := runsOf (px.map fun p => p.deep) false
    let s2 := s1.setGate n { g with omitted := omits ++ g.omitted, treated := g.treated + (painted.filter id).length }
    let s3 := (s2.bump (Reg.GATE_OUT_CNT_BADGE_OMIT n) omits.length).bump (Reg.GATE_OUT_CNT_DEPTH n) deepRuns
    let s4 := if deepRuns == 0 then s3 else s3.gateFault n 29
    let s5 := s4.lookLine n y comp out painted
    let s6 := if under then
        let l := s5.look n
        (s5.bump (Reg.CNP_OUT_CNT_UR_LINES n)).setLook n { l with urLines := y :: l.urLines }
      else s5
    let o := s6.out n
    let s7 := s6.setOut n { o with line := y + 1, urLines := if under then y :: o.urLines else o.urLines,
                                   poolMin := min o.poolMin pool }
    let s8 := (s7.setFld (Reg.CNP_OUT_POOL_LEVEL n) pool)
    let s9 := (poison ++ bad).foldl (fun t k => if t.isSet (Reg.CNP_LAYER_CFG_EN n k) then t.torn n k f 1 (y + 1) false else t) s8
    (out, s9)

/-! ### The end of the active area (R120, R103) -/

/-- OUT_UNDERRUN (R126). -/
def State.underrunNotice (s : State) (n cls lines f : Nat) : State :=
  s.notice 0x0402 n [0, s.owner n] (pack [(1, n), (1, cls), (2, lines), (4, f)])

/-- R120: a frame with more than 8 underrun lines, classed by the second-attempt rule. The answer says whether the fault
became LASTING now. -/
def State.judgeUnderrun (s : State) (n : Nat) : Bool × State :=
  let lines := (s.out n).urLines.length
  let f := s.frameNo n
  let r := s.run 0x0C n
  if 8 < lines then
    let s1 := (s.raise (Reg.CNP_OUT_STAT_UR_FAULT n)).bump (Reg.CNP_OUT_CNT_UR_FRAMES n)
    let (l, t) := s1.detFail 0x0C n ((s.out n).noFill != 0) (f * 65536 + lines)
    if l then (true, (t.raise (Reg.CNP_OUT_STAT_UR_LASTING n)).underrunNotice n 2 (r.first % 65536) (r.first / 65536))
    else (false, t)
  else
    let (one, t) := s.detPass 0x0C n
    (false, if one then t.underrunNotice n 1 (r.first % 65536) (r.first / 65536) else t)

/-- Fetch figures of the frame that ends, per layer (CNP_LAYER_STAT[FETCH_MBPS]). -/
def State.fetchFigures (s : State) (n : Nat) : State :=
  let m := s.mode n
  let slots := (List.range 8).map fun k => s.liveSlot n k
  (List.range 8).foldl (fun t k =>
    let q := slots.getD k {}
    t.setFld (Reg.CNP_LAYER_STAT_FETCH_MBPS n k)
      (if q.en && (s.layer n k).pic.isSome then min 65535 (fetchMbps m (slotFetch (slots.drop (k + 1)) q (m.w, m.h))) else 0)) s

/-- The active area of a frame has ended. The answer says whether its underrun is LASTING now. -/
def State.frameEndOps (s : State) (n : Nat) : Bool × State :=
  let o := s.out n
  let g := s.gateOut n
  let (lasting, s1) := (s.endChecks n).judgeUnderrun n
  let s2 := ((s1.fetchFigures n).setFld (Reg.CNP_OUT_POOL_MIN_LAST n) o.poolMin).wr (Reg.CNP_OUT_UR_LAST n) o.urLines.length
  let s3 := s2.wr (Reg.GATE_OUT_TREAT_PIX n) g.treated
  (lasting, s3.setOut n { s3.out n with ended := true, posted := false, sampled := 0, line := 0, urLines := [], poolMin := 1536 })

/-- Whether the end of the active area is due: every active line has started and the last one has left the gate. DEDUCED, unsafe (log 49). -/
def State.endDue (s : State) (n : Nat) : Bool :=
  s.scanning n && !(s.out n).ended && (s.out n).line == (s.mode n).h && decide (activeEnd (s.mode n) (s.frameStart n) ≤ (s.ptpNs : Int))

/-! ### The Lookout post (R165) -/

/-- The signatures of the frame shown in the LKO_OUT_ registers. -/
def State.postSigs (s : State) (n f : Nat) : State :=
  let l := s.look n
  let s1 := ((s.wr (Reg.LKO_OUT_SIG_F n) f).wr (Reg.LKO_OUT_FRAME_SIG n) (crcFinal l.frameB)).wr (Reg.LKO_OUT_FRAME_PRE n)
    (crcFinal l.frameA)
  (List.range 16).foldl (fun t k => t.wr (Reg.LKO_OUT_STRIPE_SIG n k) (crcFinal (l.stripes.getD k 0))) s1

/-- The frame enters the history of frames sent; its result is EXCLUDED where R183 says so, and where its signatures were discarded. The answer
says whether a return fault is LASTING now. DESIGN CHOICE, unsafe (log 190). -/
def State.pushSent (s : State) (n f : Nat) (lost : Bool) : Bool × State :=
  let l := s.look n
  let excl := lost || (s.out n).frameCut || !s.txOn n || !s.laneActive n || !s.isSet (Reg.LKO_OUT_RET_STAT_CAPABLE n) || l.retStopped
  let e : SentFrame := { tag := f % 65536, f := f, sigs := crcFinal l.frameB :: l.stripes.map crcFinal }
  let h := l.history ++ [e]
  let s1 := s.setLook n { l with history := h.drop (h.length - 4) }
  if excl then s1.returnResult n f 4 0 false else (false, s1)

/-- Whether Lookout's post is due. DEDUCED, unsafe (log 49). -/
def State.postDue (s : State) (n : Nat) : Bool := (s.out n).ended && !(s.out n).posted && s.scanning n

/-- Lookout posts the frame: verdicts, self-check, signatures. A slice whose results are discarded or whose Lookout has stopped posts verdict NONE
and no signature (R25, R165). The answer is the self-check flag of the pair record (R185), whether a self-check is LASTING now, and whether a
return fault is. DESIGN CHOICE, unsafe (log 190). -/
def State.lookoutPost (s : State) (n : Nat) : Bool × Bool × Bool × State :=
  let f := s.frameNo n
  let l := s.look n
  let lost := l.discard || l.stopped || !s.queueTakes 0x0C (n / 4)
  let overl := !lost && l.runs.any fun r => r.overload
  let s1 := l.runs.foldl (fun t r => if lost then t.rgVerdict r.num 0 (t.rgState r.num % 256) else t.judge n f r) s
  let s2 := if overl then s1.bump Reg.LKO_CNT_LINE_OVF else s1
  let (diff, gate, s3) := if lost then (false, false, s2) else s2.selfCheck n f
  let (ret, s4) := (if lost then s3 else s3.postSigs n f).pushSent n f lost
  (diff, gate, ret, (s4.setLook n { s4.look n with discard := lost }).setOut n { s4.out n with posted := true })

/-! ### The latch line (R156, R140) -/

/-- Whether the latch line of the current frame is due: it has begun. DEDUCED, unsafe (log 49). -/
def State.latchDue (s : State) (n : Nat) : Bool :=
  s.outState n == osRunning && (s.out n).ended && !(s.out n).latched && s.lineBegun n (s.out n).latch

/-- Whether a layer's registers differ from a validated slot in EN, crop, destination, SCALERS or FILTER (R140). -/
def LayerView.differs (v : LayerView) (q : StageSlot) : Bool :=
  v.en != q.en || v.crop != q.crop || v.dst != q.dst || v.scalers != q.scalers || v.filter != q.filter

/-- Whether a rectangle clipped to the active area reaches outside a box. -/
def Rect.leaves (d b : Rect) (m : Mode) : Bool :=
  let x1 := min (d.x + d.w) m.w
  let y1 := min (d.y + d.h) m.h
  d.x < x1 && d.y < y1 && !(b.x ≤ d.x && b.y ≤ d.y && x1 ≤ b.x + b.w && y1 ≤ b.y + b.h)

/-- The checks of R140 on a layer that a service write configured, and whether it is service-altered. DESIGN CHOICE, unsafe (log 227). -/
def State.serviceChecks (s : State) (n k : Nat) : State :=
  let v := s.layerView n k
  let q := (s.layer n k).valid
  let idx := s.fld (Reg.CNP_LAYER_CFG_SCALER_IDX n k)
  if !v.differs q && idx == q.scalerIdx then s.setFld (Reg.CNP_LAYER_STAT_SVC_ALTERED n k) 0
  else
    let mine := scalerSet idx v.scalers
    let taken := ((List.range 4).map fun j => n / 4 * 4 + j).any fun m => (List.range 8).any fun j =>
      !(m == n && j == k) && s.isSet (Reg.CNP_LAYER_CFG_EN m j) &&
        (scalerSet (s.fld (Reg.CNP_LAYER_CFG_SCALER_IDX m j)) (s.fld (Reg.CNP_LAYER_CFG_SCALERS m j))).any fun x => mine.contains x
    let s1 := if v.en && taken then
      (s.setFld (Reg.CNP_LAYER_CFG_SCALERS n k) 0).raise (Reg.CNP_OUT_STAT_ADJUSTED n) else s
    let s2 := if 4 < v.filter then
      (s1.setFld (Reg.CNP_LAYER_CFG_FILTER n k) 1).raise (Reg.CNP_OUT_STAT_ADJUSTED n) else s1
    let w := s2.layerView n k
    let altered := w.differs q
    let s3 := s2.setFld (Reg.CNP_LAYER_STAT_SVC_ALTERED n k) (ofBool altered)
    let box := s3.rectOf (Reg.CNP_LAYER_BOX_XY n k) (Reg.CNP_LAYER_BOX_WH n k)
    let clip := w.en && ((w.scaled && w.scalers == 0) || (w.scalers == 1 && 2560 < w.dst.w) ||
      (altered && w.dst.leaves box (s.mode n)))
    if clip then s3.raise (Reg.CNP_LAYER_STAT_LAYER_CLIP n k) else s3

/-- What Lookout reads at the latch line before a frame (R175): picture and cell stamps of each enabled region. -/
def State.readStamps (s : State) (n : Nat) : State :=
  let l := s.look n
  let stamps := (s.enabledOn n).map fun r => (r, s.stampsNow n { num := r, ctrl := s.rgCtrl r, cell := s.rgCell r })
  s.setLook n { l with nextStamps := stamps }

/-- The CNP_CRING_CLOSE that waits is answered when the commits up to its mark are done (R160). -/
def State.cringCloseIfDone (s : State) (n : Nat) : State :=
  match (s.cmt n).closing with
  | none => s
  | some (p, w) =>
    if s.rd (Reg.CNP_CRING_CONS n) == p then
      ((s.setCmt n { s.cmt n with closing := none }).setFld (Reg.CNP_CRING_CFG_OPEN n) 0).answer (some w) stOk []
    else s

/-- The tolerance that waited a frame (R117). -/
def State.raiseTol (s : State) (n : Nat) : State :=
  match (s.out n).tolNext with
  | none => s
  | some v => (s.setOut n { s.out n with tolNext := none }).setTol n v

/-- The service-writable fields of a slot restored from its validated stage (R411). -/
def State.restoreSlot (s : State) (n k : Nat) : State :=
  let q := (s.layer n k).valid
  let b (f : Nat → Nat → Fld) (v : Nat) (t : State) : State := t.setFld (f n k) v
  let s1 := b Reg.CNP_LAYER_CFG_EN (ofBool q.en) (b Reg.CNP_LAYER_CFG_OPAQUE (ofBool q.opq) (b Reg.CNP_LAYER_CFG_PREMULT (ofBool q.premult)
    (b Reg.CNP_LAYER_CFG_IGNORE_ALPHA (ofBool q.ignoreAlpha) (b Reg.CNP_LAYER_CFG_FILTER q.filter (b Reg.CNP_LAYER_CFG_SCALERS q.scalers
    (b Reg.CNP_LAYER_CFG_SCALER_IDX q.scalerIdx (b Reg.CNP_LAYER_CFG_PLANE_ALPHA q.alpha s)))))))
  let xy (x y : Nat) : Nat := x + y * 65536
  (((s1.wr (Reg.CNP_LAYER_SRC_XY n k) (xy q.crop.x q.crop.y)).wr (Reg.CNP_LAYER_SRC_WH n k) (xy q.crop.w q.crop.h)).wr
    (Reg.CNP_LAYER_DST_XY n k) (xy q.dst.x q.dst.y)).wr (Reg.CNP_LAYER_DST_WH n k) (xy q.dst.w q.dst.h)

/-- Service writes that waited for the latch line take effect (a slot that one disables loses its MUST_CHANGE regions, R170), and the end of service mode restores layer fields and
GATE_OUT_STAGE from the validated stage (R140, R411). -/
def State.latchService (s : State) (n : Nat) : State :=
  let c := s.cmt n
  let s1 := c.svc.foldl (fun t p => t.wr p.1 p.2) (s.setCmt n { c with svc := [], restore := false })
  let s2 := if !c.restore then s1
    else
      let u := (List.range 8).foldl (fun t k => t.restoreSlot n k) s1
      match c.stage with
      | some g => u.wr (Reg.GATE_OUT_STAGE n) (s.layoutSpans n (s.mode n) g.slots).length
      | none => u.wr (Reg.GATE_OUT_STAGE n) 0
  (List.range 8).foldl (fun t k =>
    if s.isSet (Reg.CNP_LAYER_CFG_EN n k) && !t.isSet (Reg.CNP_LAYER_CFG_EN n k) then t.dropRegions n k else t) s2

/-- What a latch line does before the commits: the TOL raised, service writes, the spans of an armed stage, restaged lines. -/
def State.latchPrep (s : State) (n : Nat) : State :=
  let l := s.look n
  let s0 := ((s.setLook n { l with nextFlipped := [], nextRestaged := false }).raiseTol n).latchService n
  (if s0.isSet (Reg.GATE_OUT_STAGE_ARM n) then s0.swapSpans n else s0).applyRestage n

/-- The latch line of a prepared output: the commits of `work` with their plans in order, the pictures that `take` takes, the checks
of R140. -/
def State.latchWith (s : State) (n f : Nat) (work : List (List Decision × LatchPlan)) (deferred : Nat) (waiting : Bool) (take : State → State) : State :=
  let s1 := work.foldl (fun t w => t.performCommits n f w.1 w.2) s
  let s2 := take (s1.ladderLatch n)
  let s3 := (List.range 8).foldl (fun t k => t.serviceChecks n k) s2
  let s4 := ((s3.bump (Reg.CNP_CNT_DEFER n) deferred).setFld (Reg.CNP_CRING_STAT_WAITING n) (ofBool waiting)).readStamps n
  (s4.setOut n { s4.out n with latched := true }).cringCloseIfDone n

/-- The engine's own decisions at the latch line of the current frame. -/
def State.decideLatch (s : State) (n : Nat) : List Decision × Nat × Bool × State :=
  let f := wrapAdd 32 (s.frameNo n) 1
  ((s.seeBells n f).decideGroups n f).decideFrom n f false 16 1024 (s.ringIndices n)

/-! ### The frame start (R108 to R110, R113) -/

/-- Whether the next frame's start is due: its instant has come, line 0 is sampled, the frame before it is done with. DEDUCED, unsafe (log 49). -/
def State.startDue (s : State) (n : Nat) : Bool :=
  let o := s.out n
  (s.outState n == osStarting || (s.outState n == osRunning && o.ended && o.posted && o.latched)) &&
    o.sampled == 1 && s.nextStart n ≤ s.ptpNs

/-- Settings of OUT_SET take effect (R125). -/
def State.applyOutSet (s : State) (n : Nat) : State :=
  let o := s.out n
  let s1 := if bitAt o.setWhich 0 then s.setFld (Reg.CNP_OUT_CTRL_CLASS n) o.setClass else s
  let s2 := if bitAt o.setWhich 1 then s1.setFld (Reg.CNP_OUT_CTRL_PRIORITY n) o.setPrio else s1
  let s3 := if bitAt o.setWhich 2 then s2.setFld (Reg.CNP_OUT_LATCH_LATCH_LINE n) o.setLatch else s2
  s3.setOut n { o with setWhich := 0 }

/-- STAND_REPHASE (R126). -/
def State.rephaseNotice (s : State) (n cause added : Nat) : State :=
  let k := s.stand n
  s.notice 0x0403 k [0, s.owner n] (pack [(1, k), (1, cause), (2, 0), (4, added)])

/-- At the start of frame `f`, every frame of the history but the two before it that has no return is MISSING (R183). The answer says whether that
is LASTING now. DEDUCED, unsafe (log 195). -/
def State.missingReturn (s : State) (n f : Nat) : Bool × State :=
  let due := (s.look n).history.filter fun e => e.result == 0 && e.f != wrapSub 32 f 1 && e.f != wrapSub 32 f 2
  due.foldl (fun (a : Bool × State) e =>
    let (l, t) := a.2.returnResult n e.f 3 0 false
    (a.1 || l, t)) (false, s)

/-- A frame starts. The answer says whether a return fault became LASTING. -/
def State.frameStartOps (s : State) (n : Nat) : Bool × State :=
  let o := s.out n
  let first := s.outState n == osStarting
  let start := s.nextStart n
  let f := if first then (o.nextK % (2 ^ 32 : Int)).toNat else wrapAdd 32 (s.frameNo n) 1
  let l := s.look n
  let s1 := (s.setLook n { l with flipped := l.nextFlipped, restaged := l.nextRestaged, nextFlipped := [], nextRestaged := false,
                                  stamps := l.nextStamps, nextStamps := [] }).setOut n
    { o with base := o.nextBase, k := o.nextK, nextK := o.nextK + 1, rephase := none, line := 0, ended := false, latched := false,
             frameCut := false }
  let s2 := ((s1.wr (Reg.CNP_OUT_FRAME n) f).putFstart n start).applyOutSet n
  let s3 := s2.setOut n { s2.out n with latch := s2.fld (Reg.CNP_OUT_LATCH_LATCH_LINE n) }
  let s4 := if first then s3.setOutState n osRunning else s3
  let s5 := match o.rephase with
    | none => s4
    | some (cause, added) =>
      if first then s4
      else ((s4.raise (Reg.CNP_OUT_STAT_REPHASE n)).bump (Reg.CNP_OUT_CNT_REPHASE n)).rephaseNotice n cause added
  let s6 := match o.later with
    | none => s5
    | some cause => s5.schedule n cause
  let s7 := if first then s6.outNotice n 0 f else s6
  let tx := s7.txOn n
  let s8 := if tx then s7.settleTx n else if s7.mayTx n then s7.putTx n 1 else s7
  s8.missingReturn n f

/-! ### Leaving the screen (R114, R115) -/

/-- Commits not yet taken up are cancelled and their buffers released (R114 step 1). DEDUCED, unsafe (log 57, 145). -/
def State.cancelCommits (s : State) (n : Nat) : State :=
  let f := s.frameNo n
  let s1 := (s.ringIndices n).foldl (fun t i =>
    let d : Decision := { desc := t.peekDesc n i }
    d.flips.foldl (fun u p => u.releaseNotice n p.1 p.2.1 p.2.2 f true) t) s
  let c := wrapAdd 32 (s.rd (Reg.CNP_CRING_CONS n)) (s.ringIndices n).length
  ((((s1.wr (Reg.CNP_CRING_CONS n) c).setCmt n { s1.cmt n with bells := [], waited := 0 }).groupsCancel n).dropDescs n).cringCloseIfDone n

/-- The enabled regions of an output that leaves the screen have verdict NONE (R171). -/
def State.regionsNone (s : State) (n : Nat) : State := (s.enabledOn n).foldl (fun t r => t.rgSet r 11 8 0) s

/-- The output enters OFF: releases, tolerance withdrawn, slots disabled, stage, staged span set and bindings discarded, the
response of OUT_DISABLE and OUT_STATE. `flags` bit 0 RESET, bit 1 NO_FRAME. DEDUCED, unsafe (log 145). -/
def State.outOff (s : State) (n reset : Nat) : State :=
  let o := s.out n
  let flags := reset + 2 * ofBool o.noFrame
  let lastF := if o.noFrame then wrapSub 32 ((o.nextK % (2 ^ 32 : Int)).toNat) 1 else s.frameNo n
  let s1 := (List.range 8).foldl (fun t k => t.giveUp n k lastF) s
  let s2 := (List.range 8).foldl (fun t k => (t.writeSlot n k {}).setLayer n k {}) s1
  let s3 := (s2.setOutState n osOff).setTol n 0xFFFF
  let c := s3.cmt n
  let s4 := ((s3.setCmt n { c with stage := none, shown := false, layers := [] }).setFld (Reg.CNP_STAGE_READY n) 0).wr
    (Reg.GATE_OUT_STAGE n) 0
  let s5 := (s4.setFld (Reg.GATE_OUT_STAT_COUNT n) 0).settleTx n
  let s6 := s5.setGate n { s5.gateOut n with restage := [], spans := [] }
  let s7 := ((s6.setOut n {}).setLook n { s6.look n with runs := [] }).regionsNone n
  let s8 := if reset == 1 then (s7.raise (Reg.CNP_OUT_STAT_DRAIN_RESET n)).logFault 0x19 1 n o.stuckInj else s7
  (s8.outNotice n flags lastF).answer o.waiter stOk (pack [(4, flags), (4, lastF)])

end Sys2Proof.Machine
end

