-- ==== Sys2Proof/Machine/Views.lean ====
section
/-! DEFINITION. What a read of a register returns: the stored value, or, for a register that shows a running quantity, the
value computed from the state (R6, R8 and the register tables of each chapter); the shadows of 64-bit pairs (R7, R122, R291). -/

namespace Sys2Proof.Machine

open Sys2Proof

/-- 32 bits of bitmap replica 0 from cell `n` up (R61, R75). -/
def State.bitmapWord (s : State) (n : Nat) : Nat := maskOf ((List.range 32).filter fun i => s.staleBit 0 (n + i))

/-- A row word of the glyph store at offset `o` of the view: glyph o / 0x180, sizes 0 to 3 at +0, +48, +120, +216 (R101). DESIGN CHOICE, safe (log 11). -/
def glyphWord (o : Nat) : Nat :=
  let g := o / 0x180
  let r := o % 0x180
  if r < 48 then glyphMask g 0 (r / 4) % 2 ^ 32
  else if r < 120 then glyphMask g 1 ((r - 48) / 4) % 2 ^ 32
  else if r < 216 then glyphMask g 2 ((r - 120) / 4) % 2 ^ 32
  else if r < 360 then glyphMask g 3 ((r - 216) / 4) % 2 ^ 32
  else 0

/-- Registers of the ledger block that show a running quantity. -/
def State.viewLdg (s : State) (a : Nat) : Nat :=
  if a == Reg.LDG_STATUS then withBits (s.rd a) 11 0 s.slotNow
  else if a == Reg.LDG_NONLIVE then (s.ldg.cells.filter fun p => p.2.ownerKind != 0 && p.2.eff != csLive).length
  else if a == Reg.LDG_WINDFALL then withBits (s.rd a) 13 0 s.ldg.windfall.length
  else if within 0x240000 0x25FFFF a then s.bitmapWord ((a - 0x240000) * 8)
  else s.rd a

/-- CNP_OUT_LINE: the current line while the output scans, 0 otherwise; a layer field shows a service write at once. -/
def State.viewCnp (s : State) (a : Nat) : Nat :=
  let n := (a - 0x100000) / 0x1000
  if a == Reg.CNP_OUT_LINE n && s.scanning n then
    let (b, y) := s.currentLine n
    ofBool b * 2 ^ 31 + y
  else (sparseFind (s.cmt n).svc a).getD (s.rd a)

/-- LKO_OUT_REGIONS counts the enabled regions of its output. -/
def State.viewLko (s : State) (a : Nat) : Nat :=
  let n := (a - 0x281000) / 0x100
  if 0x281000 ≤ a && n < 32 && a == Reg.LKO_OUT_REGIONS n then (s.enabledOn n).length else s.rd a

/-- The remaining seconds of service mode, rounded up (R413). -/
def State.remainS (s : State) : Nat :=
  if s.isSet Reg.SYS_SVC_ACTIVE then ceilDiv (s.ranger.svcEnd - s.tick) ticksPerS else 0

/-- The clocks as TIM_ registers show them. -/
def State.viewTim (s : State) (a : Nat) : Nat :=
  let age := s.ageNs
  let ptp := s.ptpNs
  if a == Reg.TIM_AGE_LO then age % 2 ^ 32
  else if a == Reg.TIM_AGE_HI then age / 2 ^ 32
  else if a == Reg.TIM_PTP_NS then ptp % 10 ^ 9
  else if a == Reg.TIM_PTP_SEC_LO then ptp / 10 ^ 9 % 2 ^ 32
  else if a == Reg.TIM_PTP_SEC_HI then ptp / 10 ^ 9 / 2 ^ 32
  else s.rd a

/-- Own capability word `k` of lane `i` (R315). -/
def State.ownWord (s : State) (i k : Nat) : Nat :=
  let side := if 48 ≤ i then s.fld Reg.PAIR_STATUS_SIDE * 2 ^ 19 else 0
  if k == 0 then 1 + (if i < 32 then 0x81 else if i < 48 then 0x82 else 3) * 2 ^ 8 + 0x59E1 * 2 ^ 16
  else if k == 1 then 0x7840 + side
  else if k == 2 then (if i < 32 then 1 else if i < 48 then 3 else 0) * 2 ^ 32
  else 0

/-- The own capability words of a lane's block (R315); the other registers as stored. -/
def State.viewKln (s : State) (a : Nat) : Nat :=
  let i := (a - 0x480000) / 0x400
  let o := (a - 0x480000) % 0x400
  if i < 52 && within 0x40 0x5C o then
    let w := s.ownWord i ((o - 0x40) / 8)
    if o % 8 == 0 then w % 2 ^ 32 else w / 2 ^ 32
  else s.rd a

/-- Microseconds since a tick, saturating at 0xFFFF; 0xFFFF where there was none (PAIR_HB_AGE). -/
def State.usSince (s : State) (t : Option Nat) : Nat :=
  match t with
  | none => 0xFFFF
  | some t => min 0xFFFF ((s.tick - t) / ticksPerUs)

/-- The heartbeat ages and whether the two paths are alive, as the PAIR_ registers show them (R340). -/
def State.viewPair (s : State) (a : Nat) : Nat :=
  let alive (t : Option Nat) : Nat := match t with
    | none => 0
    | some t => ofBool (s.tick < t + s.fld Reg.PAIR_TLOSS_US * ticksPerUs)
  if a == Reg.PAIR_HB_AGE then s.usSince s.pair.pinAt * 65536 + s.usSince s.pair.linkAt
  else if a == Reg.PAIR_PINS then s.rd a / 4 * 4 + alive s.pair.pinAt * 2 + alive s.pair.linkAt
  else s.rd a

/-- FAULT_N is driven low by a FATAL fault, or by LASTING_PEND where HLT_CTRL says so (R461). -/
def State.faultN (s : State) : Bool :=
  !s.sys.deep && !s.sys.resetLow && (s.isSet Reg.HLT_STATUS_FATAL || (s.isSet Reg.HLT_STATUS_LASTING_PEND && s.isSet Reg.HLT_CTRL_FAULTN_LASTING))

def State.viewHlt (s : State) (a : Nat) : Nat :=
  if a == Reg.HLT_STATUS then withBits (s.rd a) 28 28 (ofBool s.faultN) else s.rd a

/-- FBK_STATUS shows the units with a captured violation, FBK_UNIT_STAT the locked regions (R453). -/
def State.viewFbk (s : State) (a : Nat) : Nat :=
  if a == Reg.FBK_STATUS then withBits (s.rd a) 27 0 (maskOf ((List.range 28).filter fun u => s.isSet (Reg.FBK_VIOL_STAT_VALID u)))
  else if within 0x041000 0x047FFF a && a % 0x400 == 8 then
    let u := (a - 0x041000) / 0x400
    withBits (s.rd a) 5 0 ((List.range (if u == 0 then 48 else 16)).filter fun k => bitAt (s.rd (Reg.FBK_REG_CFG u k)) 28).length
  else if within 0x041000 0x047FFF a && a % 0x400 == 4 then
    let u := (a - 0x041000) / 0x400
    withBits (s.rd a) 23 8 (min 65535 (bitsAt (s.rd a) 23 8 + s.oldWaiting u))
  else s.rd a

/-- Whether check-value unit `u` uses its configurable settings (R469). -/
def State.cvuConfig (s : State) (u : Nat) : Bool :=
  !s.isSet (Reg.CVU_CTRL_USE_FIXED u) && s.isSet Reg.MBX_STATUS_READY && !s.isSet Reg.MBX_STATUS_RECOVERY

/-- The CRC that check-value unit `u` computes (R468, R469). -/
def State.cvuModel (s : State) (u : Nat) : CrcModel :=
  if s.cvuConfig u then
    let w := 8 * 2 ^ s.fld (Reg.CVU_CTRL_WIDTH u)
    { w := w, poly := s.rd64 (Reg.CVU_POLY_LO u) (Reg.CVU_POLY_HI u) % 2 ^ w, init := s.rd64 (Reg.CVU_INIT_LO u) (Reg.CVU_INIT_HI u) % 2 ^ w,
      refin := s.isSet (Reg.CVU_CTRL_REFIN u), refout := s.isSet (Reg.CVU_CTRL_REFOUT u),
      xorout := s.rd64 (Reg.CVU_XOROUT_LO u) (Reg.CVU_XOROUT_HI u) % 2 ^ w }
  else fixedCrc (s.fld (Reg.CVU_CTRL_FIXED_IDX u))

/-- RUN and RESULT of a unit. -/
def State.cvuRun (s : State) (u : Nat) : Nat := s.rd64 (Reg.CVU_RUN_LO u) (Reg.CVU_RUN_HI u)
def State.cvuResult (s : State) (u : Nat) : Nat :=
  let m := s.cvuModel u
  m.result (s.cvuRun u % 2 ^ m.w)

/-- CVU_CTRL[CONFIG] and CVU_RESULT follow the settings in use. -/
def State.viewCvu (s : State) (a : Nat) : Nat :=
  let u := (a - 0x050000) / 0x100
  if 3 < u then s.rd a
  else if a == Reg.CVU_CTRL u then withBits (s.rd a) 23 23 (ofBool (s.cvuConfig u))
  else if a == Reg.CVU_RESULT_LO u then s.cvuResult u % 2 ^ 32
  else if a == Reg.CVU_RESULT_HI u then s.cvuResult u / 2 ^ 32
  else s.rd a

/-- What a read of the register at BAR0 offset `a` returns. -/
def State.view (s : State) (a : Nat) : Nat :=
  if a < 0x200000 then
    if within 0x030000 0x03FFFF a then s.viewTim a
    else if within 0x020000 0x02FFFF a then s.viewHlt a
    else if within 0x040000 0x04FFFF a then s.viewFbk a
    else if within 0x050000 0x05FFFF a then s.viewCvu a
    else if within 0x080000 0x08FFFF a then s.viewPair a
    else if within 0x100000 0x11FFFF a then s.viewCnp a
    else if within 0x018000 0x01FFFF a then leNat (sparseRange 0 s.area (a - 0x018000) 4)
    else if within 0x1C0000 0x1C17FF a then glyphWord (a - 0x1C0000)
    else if a == Reg.SYS_SVC then withBits (s.rd a) 11 0 s.remainS
    else s.rd a
  else if a < 0x280000 then s.viewLdg a
  else if a < 0x300000 then s.viewLko a
  else if within 0x480000 0x48D7FF a then s.viewKln a
  else s.rd a

/-- The registers whose values a read of the register at `a` captures in shadows: the high half of a pair, both seconds
registers of a time of day. -/
def shadowsOf (a : Nat) : List Nat :=
  if (List.range 32).any (fun n => a == Reg.CNP_OUT_FSTART_NS n) || [Reg.TIM_PTP_NS, Reg.TIM_PPSIN_NS, Reg.TIM_TXQ_NS].contains a
    then [a + 4, a + 8]
  else if isPairLow a == 1 then [a + 4] else []

/-- Whether BAR0 reads of the register at `a` are served: in RETENTION only those of the SYS_, MBX_ and HLT_ blocks (R520); none while
the host port is off or stopped (R25, R507, R519). -/
def State.servesBar0 (s : State) (a : Nat) : Bool :=
  !s.sys.hostStopped && !s.sys.deep && !s.sys.perstLow && !s.sys.resetLow && (s.fld Reg.SYS_PWR_STATE != 2 || a < 0x030000)

/-- A read of the register at `a`: the shadow held for it, which it uses up, or its value; and the shadows it captures. A host read
of TIM_TXQ_HEAD leaves the head in its queue with its timestamp in TIM_TXQ_NS (R281). DEDUCED, unsafe (log 80). -/
def State.readReg (s : State) (a : Nat) : State :=
  if !s.servesBar0 a then { s with readData := 0 }
  else
  let v := (sparseFind s.shadows a).getD (s.view a)
  let s0 := match s.time.txq with
    | x :: _ => if a == Reg.TIM_TXQ_HEAD then s.putTxStamp x else s
    | [] => s
  let s1 := { s0 with readData := v, shadows := sparseDel s.shadows a }
  { s1 with shadows := (shadowsOf a).foldl (fun l b => sparseIns l b (s.view b)) s1.shadows }

end Sys2Proof.Machine
end

