-- ==== Sys2Proof/Machine/Blaze.lean ====
section
/-! DEFINITION. The Blaze event recorder (spec/18_blaze_recorder.md): snapshot, record, volatile buffer, flush to the persistent
log, the judgement of a record read back. The buffer's bytes stand in memory at their internal address (R26). -/

namespace Sys2Proof.Machine

open Sys2Proof

def blzBase : Nat := 0xFE01000000
def blzBytes : Nat := 262144

def State.setBlz (s : State) (b : BlzSt) : State := { s with blz := b }

/-! ### Snapshots (R489, R491, R493) -/

/-- The snapshot list a trigger selects. -/
def State.blzListOf (s : State) (e : BlzEntry) : Option Nat :=
  if e.type == 1 then sparseFind s.blz.detList (e.source / 2 ^ 24) else sparseFind s.blz.typeList e.type

/-- Fields of a block descriptor. -/
def blkAddr (d : Nat) : Nat := d % 2 ^ 48
def blkWords (d : Nat) : Nat := d / 2 ^ 48 % 2 ^ 8
def blkMem (d : Nat) : Bool := bitAt d 63

/-- One block of a snapshot: its descriptor and data. Registers are read by Blaze's own path and without side effects; memory only
through FBK_BLZ. -/
def State.snapBlock (s : State) (d : Nat) : List Byte × State :=
  let n := blkWords d
  if blkMem d then
    let (b, ok, _, _, t) := s.unitLoad fbkBlz (blkAddr d) (4 * n)
    if ok then (leBytes 8 d ++ b, t) else (leBytes 8 (d + 2 ^ 62) ++ zeros (4 * n), t)
  else (leBytes 8 d ++ s.regImage State.view (blkAddr d) n, s)

/-- The blocks of a list in order. -/
def State.snapshot (s : State) : List Nat → List Byte × State
  | [] => ([], s)
  | d :: t =>
    let (b, s1) := s.snapBlock d
    let (r, s2) := s1.snapshot t
    (b ++ r, s2)

/-! ### Records (R490 to R492) -/

/-- The whole bytes of a committed record. -/
def blzRecord (e : BlzEntry) (seq dropped snap : Nat) (list : Option Nat) (blocks : Nat) (data : List Byte) : List Byte :=
  let size := max 128 (ceilDiv (80 + data.length) 64 * 64)
  let payload := padTo (size - 48) (pack [(8, snap), (1, list.getD 0xFF), (1, blocks), (6, 0)] ++ padTo 16 e.detail ++ data)
  let crc := crc32c payload
  pack [(2, 0xB7A2), (1, 0x5A), (1, e.severity), (4, seq), (2, size), (2, e.type), (4, e.source), (8, e.stamp), (4, crc), (2, e.suppressed),
    (2, min dropped 65535)] ++ payload ++ pack [(4, crc), (4, seq), (2, 0x2A7B), (6, 0)]

/-! ### The volatile buffer (R494) -/

/-- Where a record of `size` bytes goes in a ring of `n` bytes whose head is at `p`: it never wraps. -/
def ringPlace (n p size : Nat) : Nat := if n < p + size then 0 else p

/-- Whether a record lies in part in `size` bytes from `p`. -/
def BlzRecord.meets (r : BlzRecord) (p size : Nat) : Bool := r.offset < p + size && p < r.offset + r.size

/-- The registers that show the buffer follow. -/
def State.blzFigures (s : State) : State :=
  let l := s.blz.records.filter fun r => !r.flushed
  let first := match l with
    | [] => s.fld Reg.BLZ_BUF_HEAD_OFFSET
    | r :: _ => r.offset
  ((s.setFld Reg.BLZ_BUF_FLUSH_OFFSET first).setFld Reg.BLZ_BUF_UNFLUSHED_BYTES (l.foldl (fun a r => a + r.size) 0)).setFld
    Reg.BLZ_STATUS_QUEUE s.blz.queue.length

/-- Drops counted and reported (R487, R494, R506). -/
def State.blzDropped (s : State) (dropped overwritten : Nat) : State :=
  let s1 := if dropped == 0 then s else ((s.setBlz { s.blz with dropped := s.blz.dropped + dropped }).bump Reg.BLZ_CNT_DROP dropped).raise
    Reg.BLZ_STAT_DROP
  let s2 := if overwritten == 0 then s1 else (s1.bump Reg.BLZ_CNT_OVERWRITE overwritten).raise Reg.BLZ_STAT_OVERWRITE
  if dropped == 0 && overwritten == 0 then s2 else s2.notice 0x1001 0 [0] (pack [(4, dropped), (4, overwritten)])

/-- The BLZ_MARK commands of a mark's partition are answered (R505): the SEQ assigned, or NO_SPACE. -/
def State.blzAnswerMarks (s : State) (e : BlzEntry) (seq : Option Nat) : State :=
  if e.type != 5 then s
  else
    let l := s.blz.marks.filter fun x => x.1 == e.source
    l.foldl (fun t x => match seq with
      | some q => t.answer (some x.2) stOk (leBytes 4 q)
      | none => t.answer (some x.2) stNoSpace []) (s.setBlz { s.blz with marks := s.blz.marks.filter fun x => x.1 != e.source })

/-- The record of an entry written into the buffer, unless it is of severity 0 or 1, carries no DROPPED, and unflushed records hold the
space (R487, R494). DEDUCED, unsafe (log 125). -/
def State.blzWrite (s : State) (e : BlzEntry) (bytes : List Byte) : State :=
  let size := bytes.length
  let p := ringPlace blzBytes (s.fld Reg.BLZ_BUF_HEAD_OFFSET) size
  let lost := (s.blz.records.filter fun r => !r.flushed && r.meets p size).length
  if lost != 0 && e.severity ≤ 1 && s.blz.dropped == 0 then ((s.blzDropped 1 0).blzAnswerMarks e none).blzFigures
  else
    let seq := s.rd Reg.BLZ_SEQ_NEXT
    let r : BlzRecord := { offset := p, seq := seq, size := size, severity := e.severity, doneAt := s.tick, flushed := false }
    let s1 := (s.memWrite (blzBase + p) bytes).setBlz { s.blz with
      records := (s.blz.records.filter fun x => !x.meets p size) ++ [r]
      dropped := 0 }
    let s2 := ((s1.setFld Reg.BLZ_BUF_HEAD_OFFSET ((p + size) % blzBytes)).bumpWrap Reg.BLZ_SEQ_NEXT).bumpWrap Reg.BLZ_CNT_RECORDS
    ((s2.blzDropped 0 lost).blzAnswerMarks e (some seq)).blzFigures

/-- One record composed from the oldest entry (R489). DEDUCED, unsafe (log 125). -/
def State.blzCompose (s : State) : State :=
  match s.blz.queue with
  | [] => s
  | e :: t =>
    let list := s.blzListOf e
    let blocks := match list with
      | some k => sparseGet [] s.blz.lists k
      | none => []
    let s0 := s.setBlz { s.blz with queue := t }
    let (data, s1) := s0.snapshot blocks
    s1.blzWrite e (blzRecord e (s.rd Reg.BLZ_SEQ_NEXT) s.blz.dropped (s.nowOf ageCtl) list blocks.length data)

/-! ### The flush and the persistent log (R495 to R499) -/

/-- The first byte and the size of the LOW or HIGH ring on the chip (R496). -/
def State.blzRing (s : State) (high : Bool) : Nat × Nat :=
  let all := s.fld Reg.BLZ_LOG_CFG_SIZE_MIB * 1048576
  let top := s.fld Reg.BLZ_LOG_CFG_HIGH_MIB * 1048576
  if high then (all - top, top) else (0, all - top)

/-- Whether a flush may run: the log is scanned, and no xSPI failure stopped it. -/
def State.blzMayFlush (s : State) : Bool := s.isSet Reg.BLZ_STATUS_READY && !s.isSet Reg.BLZ_STATUS_XSPI_STOP

/-- Whether one of the reasons of R495 holds. -/
def State.blzDue (s : State) : Bool :=
  let l := s.blz.records.filter fun r => !r.flushed
  let bytes := l.foldl (fun a r => a + r.size) 0
  4096 ≤ bytes || (l.any fun r => 2 ≤ r.severity || s.since r.doneAt (10 * ticksPerMs)) || s.blz.pfFlush || !s.blz.flushWaiters.isEmpty

/-- COMMIT of every older record whose header lies in the place of a new one becomes 0x00 (R497). DEDUCED, unsafe (log 127). -/
def State.blzUncommit (s : State) (l : List BlzRecord) : State :=
  { s with blz := { s.blz with chip := l.foldl (fun c r => sparsePut 0 c (r.offset + 2) 0) s.blz.chip } }

/-- One record written to its ring of the chip. DEDUCED, unsafe (log 169). -/
def State.blzPersist (s : State) (r : BlzRecord) : State :=
  let high := 2 ≤ r.severity
  let (base, size) := s.blzRing high
  let head := s.rd (if high then Reg.BLZ_LOG_HEAD_HIGH else Reg.BLZ_LOG_HEAD_LOW)
  let p := base + ringPlace size (head - base) r.size
  let old := if high then s.blz.high else s.blz.low
  let gone (x : BlzRecord) : Bool := p ≤ x.offset && x.offset < p + r.size
  let s1 := s.blzUncommit (old.filter gone)
  let kept := (old.filter fun x => !gone x) ++ [{ r with offset := p, flushed := true }]
  let chip := sparsePutRange 0 s1.blz.chip p (s.memBytes (blzBase + r.offset) r.size)
  let b := { s1.blz with chip := chip, high := if high then kept else s1.blz.high, low := if high then s1.blz.low else kept }
  (s1.setBlz b).wr (if high then Reg.BLZ_LOG_HEAD_HIGH else Reg.BLZ_LOG_HEAD_LOW) (if p + r.size == base + size then base else p + r.size)

/-- Every unflushed record written, in SEQ order; the commands that wait are answered (R495, R505). A power-fail or FATAL flush is done
when nothing is queued either (R500). -/
def State.blzFlushAll (s : State) : State :=
  let l := s.blz.records.filter fun r => !r.flushed
  let s1 := l.foldl (fun t r => t.blzPersist r) s
  let l1 := s1.blz.flushWaiters
  let pf := s1.blz.pfFlush && s1.blz.queue.isEmpty
  let s2 := s1.setBlz { s1.blz with
    records := s1.blz.records.map fun r => { r with flushed := true }
    flushWaiters := []
    pfFlush := s1.blz.pfFlush && !pf }
  let s3 := (s2.setFld Reg.BLZ_STATUS_FLUSHING 0).blzFigures
  l1.foldl (fun t w => t.answer (some w.1) stOk []) (if pf then s3.setFld Reg.BLZ_STATUS_PF_DONE 1 else s3)

/-- A flush begins, where one may and is due. DEDUCED, unsafe (log 126). -/
def State.blzStart (s : State) : State :=
  if s.blzMayFlush && s.blzDue && !s.isSet Reg.BLZ_STATUS_FLUSHING then s.setFld Reg.BLZ_STATUS_FLUSHING 1 else s

/-- A flush ordered by the collector (R459) or by a power failure (R500). -/
def State.blzOrder (s : State) : State := (s.setBlz { s.blz with pfFlush := true }).blzStart

/-- Power failure (R500): queued entries of severity 0 to 2 are discarded and counted; the TYPE 3 trigger is queued ahead of all but
severity 3. -/
def State.blzPowerFail (s : State) : State :=
  let gone := s.blz.queue.filter fun e => e.severity < 3
  let kept := s.blz.queue.filter fun e => 3 ≤ e.severity
  let s1 := s.setBlz { s.blz with queue := kept }
  let s2 := if gone.isEmpty then s1 else s1.blzDropped gone.length 0
  let s3 := gone.foldl (fun t e => t.blzAnswerMarks e none) s2
  let e : BlzEntry := { type := 3, source := 0, severity := 3, stamp := s.nowOf ageCtl, detail := zeros 16 }
  ((s3.setBlz { s3.blz with queue := s3.blz.queue ++ [e] }).setFld Reg.BLZ_STATUS_PF 1).blzFigures.blzOrder

/-! ### Read-back (R501, R502) -/

/-- What the two copies of a record's check value and its payload say: the value computed, H and T. DEDUCED, unsafe (log 127). -/
def copiesOf (b : List Byte) : Nat × Nat × Nat :=
  let n := b.length
  (crc32c ((b.drop 32).take (n - 48)), fieldAt b 24 4, fieldAt b (n - 16) 4)

/-- The copies with the alteration an injection makes (R479, 0x14): 1 H, 2 T, 3 and 4 both. -/
def altered (p : Nat) (x : Nat × Nat × Nat) : Nat × Nat × Nat :=
  let f (v : Nat) : Nat := if v % 2 == 0 then v + 1 else v - 1
  (x.1, if p == 1 || 3 ≤ p then f x.2.1 else x.2.1, if 2 ≤ p then f x.2.2 else x.2.2)

/-- The verdict of a two-copy check (R473) on the copies of the first read and of the re-read: 0 good, 1 good on the re-read, 2 check
damaged, 3 corrupt. -/
def judgeCopies (a b : Nat × Nat × Nat) : Nat :=
  let good (x : Nat × Nat × Nat) : Bool := x.1 == x.2.1 && x.1 == x.2.2
  if good a then 0 else if good b then 1 else if (b.1 == b.2.1) != (b.1 == b.2.2) then 2 else 3

/-- A record read back and judged; each verdict other than good is reported (R502). -/
def State.blzJudge (s : State) (bytes : List Byte) (seq source : Nat) : Nat × State :=
  let (inj, s1) := s.injTake 0x14 0 (fun _ => 1)
  let real := copiesOf bytes
  let v := match inj with
    | some p => judgeCopies (altered p real) (if p == 4 then altered p real else real)
    | none => judgeCopies real real
  let i := inj.isSome
  if v == 1 then (v, s1.logFault 0x14 1 0 i)
  else if v == 2 then (v, ((s1.logFault 0x14 0 0 i).raise Reg.BLZ_STAT_CHECK_DAMAGED).bump Reg.BLZ_CNT_CHECK_DAMAGED)
  else if v == 3 then
    (v, (((s1.logFault 0x14 2 0 i).raise Reg.BLZ_STAT_CORRUPT).bump Reg.BLZ_CNT_CORRUPT).notice 0x1003 0 [0]
      (pack [(4, seq), (1, v), (1, source), (2, 0)]))
  else (v, s1)

/-! ### The scan at cold start (R498) -/

/-- The record whose header stands at chip position `a`, if one is present there (R492). -/
def State.blzAt (s : State) (a : Nat) : Option BlzRecord :=
  let h := sparseRange 0 s.blz.chip a 32
  let n := fieldAt h 8 2
  if fieldAt h 0 2 == 0xB7A2 && fieldAt h 2 1 == 0x5A && within 128 4032 n && n % 64 == 0 then
    let t := sparseRange 0 s.blz.chip (a + n - 16) 16
    if fieldAt t 8 2 == 0x2A7B && fieldAt t 4 4 == fieldAt h 4 4 then
      some { offset := a, seq := fieldAt h 4 4, size := n, severity := fieldAt h 3 1, doneAt := 0, flushed := true }
    else none
  else none

/-- The records present in a ring of the chip, oldest first, and the headers of writes cut short. -/
def State.blzScanRing (s : State) (high : Bool) : List BlzRecord × Nat :=
  let (base, size) := s.blzRing high
  let heads := (s.blz.chip.filter fun c => c.1 % 64 == 0 && base ≤ c.1 && c.1 < base + size).map Prod.fst
  let found := heads.filterMap fun a => s.blzAt a
  let cut := heads.filter fun a => fieldAt (sparseRange 0 s.blz.chip a 4) 0 2 == 0xB7A2 && sparseGet 0 s.blz.chip (a + 2) == 0 &&
    !found.any fun r => r.offset < a && a < r.offset + r.size
  (found.insertionSort fun a b => newer 32 b.seq a.seq || a.seq == b.seq, cut.length)

/-- The head of a ring of `size` bytes after its newest record. DEDUCED, unsafe (log 169). -/
def headAfter (base size : Nat) (l : List BlzRecord) : Nat :=
  match l.getLast? with
  | some r => if r.offset + r.size == base + size then base else r.offset + r.size
  | none => base

/-- The newest SEQ of two rings. -/
def newestSeq (a b : List BlzRecord) : Option Nat :=
  match a.getLast?, b.getLast? with
  | some x, some y => some (if newer 32 x.seq y.seq then x.seq else y.seq)
  | some x, none => some x.seq
  | none, some y => some y.seq
  | none, none => none

/-- Both rings scanned; READY set (R498). -/
def State.blzScan (s : State) : State :=
  let (low, c0) := s.blzScanRing false
  let (high, c1) := s.blzScanRing true
  let s1 := s.setBlz { s.blz with low := low, high := high }
  let s2 := (s1.wr Reg.BLZ_LOG_HEAD_LOW (headAfter (s.blzRing false).1 (s.blzRing false).2 low)).wr Reg.BLZ_LOG_HEAD_HIGH (headAfter (s.blzRing true).1 (s.blzRing true).2 high)
  let s3 := match newestSeq low high with
    | some q => s2.wr Reg.BLZ_SEQ_NEXT (wrapAdd 32 q 1)
    | none => s2
  let s4 := if c0 + c1 == 0 then s3 else (s3.bump Reg.BLZ_CNT_UNCOMMITTED (c0 + c1)).raise Reg.BLZ_STAT_UNCOMMITTED
  if s.fld Reg.BLZ_LOG_CFG_SIZE_MIB == 0 then s else s4.setFld Reg.BLZ_STATUS_READY 1

end Sys2Proof.Machine
end

