-- ==== Sys2Proof/Machine/BlzCmds.lean ====
section
/-! DEFINITION. Blaze's events and the BLZ_ commands (spec/18_blaze_recorder.md). -/

namespace Sys2Proof.Machine

open Sys2Proof

/-- BLZ_RECORD_COMPOSE (R489): one record from the oldest queue entry. -/
def execBlzRecordCompose (dt : Nat) (s : State) : Host.Outcome State Fault Refusal := .next (s.pass dt).blzCompose

/-- BLZ_FLUSH_START (R495). A BLZ_FLUSH that an xSPI failure has held up for 1 s ends with TIMEOUT (R505). -/
def execBlzFlushStart (dt : Nat) (s : State) : Host.Outcome State Fault Refusal :=
  let s1 := s.pass dt
  let late (w : Waiter × Nat) : Bool := s1.isSet Reg.BLZ_STATUS_XSPI_STOP && s1.since w.2 ticksPerS
  let l := s1.blz.flushWaiters
  .next (if l.any late then (l.filter late).foldl (fun t w => t.answer (some w.1) stTimeout [])
      (s1.setBlz { s1.blz with flushWaiters := l.filter fun w => !late w })
    else s1.blzStart)

/-- BLZ_FLUSH_DONE (R495, R500). -/
def execBlzFlushDone (dt : Nat) (s : State) : Host.Outcome State Fault Refusal :=
  let s1 := s.pass dt
  .next (if s1.isSet Reg.BLZ_STATUS_FLUSHING then s1.blzFlushAll else s1)

/-- BLZ_XSPI_TIMEOUT (R499): a transfer at chip address `addr` got no DQS; `again` says whether the retry failed as well. -/
def execBlzXspiTimeout (dt addr : Nat) (again : Bool) (s : State) : Host.Outcome State Fault Refusal :=
  let s1 := s.pass dt
  .next (if !s1.isSet Reg.BLZ_STATUS_FLUSHING then s1
    else
      let s2 := s1.raise Reg.BLZ_STAT_XSPI_ERR
      if !again then s2.bump Reg.BLZ_CNT_XSPI_RETRY
      else ((s2.setFld Reg.BLZ_STATUS_FLUSHING 0).setFld Reg.BLZ_STATUS_XSPI_STOP 1).notice 0x1002 0 [0] (pack [(1, 1), (3, 0), (4, addr)]))

/-- BLZ_QUERY. -/
def cmdBlzQuery (_ : Req) (s : State) : State × Resp := (s, .ok (s.regImage State.view Reg.BLZ_STATUS 24))

/-- BLZ_QUERY, as R505 has it. -/
def execBlzQuery (dt : Nat) (m : Fin 8) (s : State) : Host.Outcome State Fault Refusal :=
  .next ((s.pass dt).lcs m.val 0x1001 cmdBlzQuery)

/-- Records with their bytes, judged one by one until `room` bytes are filled (R405, R502): the entries, how many, whether more remain. -/
def State.blzEntries (s : State) (source room : Nat) : List (BlzRecord × List Byte) → List Byte × Nat × Bool × State
  | [] => ([], 0, false, s)
  | (r, b) :: t =>
    let (v, s1) := s.blzJudge b r.seq source
    let out := if v == 3 then b.take 32 else b
    if room < 4 + out.length then ([], 0, true, s)
    else
      let e := leBytes 4 (v + out.length * 65536) ++ out
      let (l, n, more, s2) := s1.blzEntries source (room - e.length) t
      (e ++ l, n + 1, more, s2)

/-- The checks of BLZ_READ in the order of R393 step 8, each as (it fails, status, DETAIL). -/
def chkBlzRead (r : Req) (_s : State) : List (Bool × Nat × Nat) :=
  [(1 < r.u8 16, stInvalid, 16), (r.u8 17 != 0 || r.u16 18 != 0, stInvalid, 17), (!within 1 255 (r.u32 24), stInvalid, 24)]

/-- BLZ_READ (R501, R502): whole records in SEQ order. DEDUCED, unsafe (log 126). -/
def cmdBlzRead (r : Req) (s : State) : State × Resp :=
  let from_ := r.u32 20
  let all := if r.u8 16 == 0 then s.blz.records.map fun x => (x, s.memBytes (blzBase + x.offset) x.size)
    else (s.blz.low ++ s.blz.high).map fun x => (x, sparseRange 0 s.blz.chip x.offset x.size)
  let due := (all.filter fun x => x.1.seq == from_ || newer 32 x.1.seq from_).insertionSort fun a b => wrapSub 32 a.1.seq from_ ≤ wrapSub 32 b.1.seq from_
  s.refuseOr (chkBlzRead r s)
    (let (b, n, more, t) := s.blzEntries (r.u8 16) 4072 (due.take (r.u32 24))
     let next := match (due.take n).getLast? with
       | some x => wrapAdd 32 x.1.seq 1
       | none => from_
     let body := pack [(4, next), (4, n)] ++ b
     (t, if more then .more body else .ok body))

/-- BLZ_READ, as R501 has it. -/
def execBlzRead (dt : Nat) (m : Fin 8) (s : State) : Host.Outcome State Fault Refusal :=
  .next ((s.pass dt).lcs m.val 0x1002 cmdBlzRead)

/-- The checks of BLZ_FLUSH in the order of R393 step 8, each as (it fails, status, DETAIL). -/
def chkBlzFlush (r : Req) (_s : State) : List (Bool × Nat × Nat) :=
  [(r.part != 1, stPartition, noField), (r.u32 16 != 0, stInvalid, 16)]

/-- BLZ_FLUSH: answered when nothing is unflushed; it tries again after an xSPI failure (R499). DEDUCED, unsafe (log 169). -/
def cmdBlzFlush (r : Req) (s : State) : State × Resp :=
  s.refuseOr (chkBlzFlush r s)
    (if s.fld Reg.BLZ_BUF_UNFLUSHED_BYTES == 0 then (s, .ok [])
     else
       (((s.setFld Reg.BLZ_STATUS_XSPI_STOP 0).setBlz { s.blz with flushWaiters := s.blz.flushWaiters ++ [(r.waiter, s.tick)] }).blzStart, .wait))

/-- BLZ_FLUSH, as R505 has it. -/
def execBlzFlush (dt : Nat) (m : Fin 8) (s : State) : Host.Outcome State Fault Refusal :=
  .next ((s.pass dt).lcs m.val 0x1003 cmdBlzFlush)

/-- A block descriptor that R491 and R493 allow. -/
def blkOk (d : Nat) : Bool := within 1 64 (blkWords d) && d / 2 ^ 56 % 2 ^ 7 == 0 && blkAddr d % 4 == 0

/-- The checks of BLZ_LIST_SET in the order of R393 step 8, each as (it fails, status, DETAIL). -/
def chkBlzListSet (r : Req) (_s : State) : List (Bool × Nat × Nat) :=
  let k := r.u8 16
  let n := r.u8 17
  let ds := (List.range n).map fun i => r.u64 (28 + 8 * i)
  [(r.part != 1, stPartition, noField), (15 < k, stInvalid, 16), (32 < n, stInvalid, 17), (r.u16 18 != 0, stInvalid, 18),
    (r.u8 24 % 4 != 0 || 63 < r.u8 24, stInvalid, 24), (r.u8 25 != 0 || r.u16 26 != 0, stInvalid, 25),
    (!ds.all blkOk || 3952 < ds.foldl (fun a d => a + 8 + 4 * blkWords d) 0, stInvalid, 28)]

/-- BLZ_LIST_SET: the list's blocks; every trigger that a mask selects moves to it (R493, R505). -/
def cmdBlzListSet (r : Req) (s : State) : State × Resp :=
  let k := r.u8 16
  let n := r.u8 17
  let ds := (List.range n).map fun i => r.u64 (28 + 8 * i)
  s.refuseOr (chkBlzListSet r s)
    (let dets := (bitList 32 (r.u32 20)).foldl (fun l d => sparseIns l d k) s.blz.detList
     let types := (bitList 8 (r.u8 24)).foldl (fun l t => sparseIns l t k) s.blz.typeList
     (s.setBlz { s.blz with lists := sparsePut [] s.blz.lists k ds, detList := dets, typeList := types }, .ok []))

/-- BLZ_LIST_SET, as R493 has it. -/
def execBlzListSet (dt : Nat) (m : Fin 8) (s : State) : Host.Outcome State Fault Refusal :=
  .next ((s.pass dt).lcs m.val 0x1004 cmdBlzListSet)

/-- BLZ_MARK: a TYPE 5 trigger; the response comes when the record of its own or of the entry it coalesced with has its SEQ, or the
trigger is dropped. DEDUCED, unsafe (log 126, 169). -/
def cmdBlzMark (r : Req) (s : State) : State × Resp :=
  let t := s.blzTrigger 5 r.part 0 (r.bytes 16 16)
  let mine (u : State) : Nat := (u.blz.queue.filter fun e => e.type == 5 && e.source == r.part).length
  if mine t != 0 then
    (t.setBlz { t.blz with marks := t.blz.marks ++ [(r.part, r.waiter)] }, .wait)
  else (t, .fail stNoSpace noField [])

/-- BLZ_MARK, as R505 has it. -/
def execBlzMark (dt : Nat) (m : Fin 8) (s : State) : Host.Outcome State Fault Refusal :=
  .next ((s.pass dt).lcs m.val 0x1005 cmdBlzMark)

/-- The checks of BLZ_LOG_CLEAR in the order of R393 step 8, each as (it fails, status, DETAIL). -/
def chkBlzLogClear (r : Req) (s : State) : List (Bool × Nat × Nat) :=
  [(r.part != 1, stPartition, noField), (r.u16 16 != 0xB1C0, stInvalid, 16), (r.u16 18 != 0, stInvalid, 18),
    (!s.isSet Reg.SYS_SVC_ACTIVE, stLocked, noField)]

/-- BLZ_LOG_CLEAR: COMMIT 0x00 into every record of both rings. -/
def cmdBlzLogClear (r : Req) (s : State) : State × Resp :=
  s.refuseOr (chkBlzLogClear r s)
    (let t := s.blzUncommit (s.blz.low ++ s.blz.high)
     (t.setBlz { t.blz with low := [], high := [] }, .ok []))

/-- BLZ_LOG_CLEAR, as R505 has it. -/
def execBlzLogClear (dt : Nat) (m : Fin 8) (s : State) : Host.Outcome State Fault Refusal :=
  .next ((s.pass dt).lcs m.val 0x1006 cmdBlzLogClear)

end Sys2Proof.Machine
end

