-- ==== Sys2Proof/Machine/EncTap.lean ====
section
/-! DEFINITION. Encode sessions as their source output sees them (spec/08_encode_pool.md, R230, R231): states and the loss of the source. -/

namespace Sys2Proof.Machine

open Sys2Proof

def State.enc (s : State) (n : Nat) : EncSes := sparseGet {} s.encs n
def State.setEnc (s : State) (n : Nat) (d : EncSes) : State := { s with encs := sparsePut {} s.encs n d }

def esClosed : Nat := 0
def esWaitSource : Nat := 1
def esRunning : Nat := 2
def esDraining : Nat := 3
def esResetting : Nat := 4

def State.encState (s : State) (n : Nat) : Nat := s.fld (Reg.ENC_SES_CTRL_STATE n)
def State.encOwner (s : State) (n : Nat) : Nat := s.fld (Reg.ENC_SES_CTRL_PARTITION n)
def State.encOutput (s : State) (n : Nat) : Nat := s.fld (Reg.ENC_SES_CTRL_OUTPUT n)
def State.encW (s : State) (n : Nat) : Nat := s.fld (Reg.ENC_SES_SIZE_WIDTH n)
def State.encH (s : State) (n : Nat) : Nat := s.fld (Reg.ENC_SES_SIZE_HEIGHT n)
def State.openEncs (s : State) : List Nat := (List.range 32).filter fun n => s.isSet (Reg.ENC_SES_CTRL_OPEN n)

/-- ENC_SESSION_STATE (R250). -/
def State.encStateNotice (s : State) (n st : Nat) (wasReset : Bool) : State :=
  s.notice 0x0701 n [0, s.encOwner n] (pack [(1, n), (1, st), (1, ofBool wasReset), (1, 0)])

/-- A session enters a state; RUNNING and WAIT_SOURCE raise a notice. -/
def State.setEncState (s : State) (n st : Nat) : State :=
  let t := (s.setFld (Reg.ENC_SES_CTRL_STATE n) st).setFld (Reg.ENC_SES_CTRL_OPEN n) (ofBool (st != esClosed))
  if (st == esRunning || st == esWaitSource) && s.encState n != st then t.encStateNotice n st false else t

/-! ### The source is lost (R230) -/

/-- The source picture the tap writes now. -/
def EncSes.tapped (d : EncSes) : Option EncSrc := if d.tapping then d.sources.getLast? else none

/-- ENC_SOURCE (R250). -/
def State.encSourceNotice (s : State) (n cause : Nat) : State :=
  s.notice 0x0702 n [0, s.encOwner n] (pack [(1, n), (1, s.encOutput n), (1, cause), (1, 0)])

/-- A picture given up while it is coded: its chunk with ABORT is due where some of it is in the host ring, or where `always` says so (R244). DEDUCED,
unsafe (log 154). -/
def State.abortOwed (s : State) (n : Nat) (always : Bool) : State :=
  let d := s.enc n
  match d.cur with
  | some c => if s.fld (Reg.ENC_SES_CTRL_DEST n) == 1 && s.drives && (always || 0 < c.sent) then
      s.setEnc n { d with abortDue := some (d.abortDue.getD c.src) } else s
  | none => s

/-- A session whose picture in flight is given up. The first picture of a session is its IDR picture all the same: what comes after it is a P picture that
refers to it (R227). DEDUCED, unsafe (log 237). -/
def EncSes.giveUp (d : EncSes) : EncSes :=
  if d.cur.isSome && d.first then { d with cur := none, first := false, recSlot := 1 - d.recSlot } else { d with cur := none }

/-- At a picture boundary a session moves to the pipe that a placement gave it, once Lysman firmware is ready (R247). -/
def State.encBoundary (s : State) (n : Nat) : State :=
  let d := s.enc n
  match d.moveTo with
  | some p => if s.isSet Reg.MBX_STATUS_READY && d.cur.isNone && !d.pipeDrain then
      (s.setFld (Reg.ENC_SES_CTRL_PIPE n) p).setEnc n { d with moveTo := none } else s
  | none => s

/-- The source of a session is lost: WAIT_SOURCE; a picture not yet tapped whole goes, and is counted in ENC_SES_CNT_DROP (R248). -/
def State.encLose (s : State) (n cause : Nat) : State :=
  let d := s.enc n
  let given := d.cur.any fun (c : EncCur) => !c.src.whole
  let lost := (d.sources.filter fun x => !x.whole).length
  let s1 := if given then s.abortOwed n false else s
  let e := if given then (s1.enc n).giveUp else s1.enc n
  let t := (s1.setEnc n { e with tapping := false, lines := [], sources := d.sources.filter fun x => x.whole }).bump (Reg.ENC_SES_CNT_DROP n) lost
  ((t.encBoundary n).setEncState n esWaitSource).encSourceNotice n cause

/-- The output `out` leaves RUNNING: when it drains, or goes dark (R230). DEDUCED, unsafe (log 75). -/
def State.encSourceLost (s : State) (out : Nat) : State :=
  (s.openEncs.filter fun n => s.encOutput n == out && s.encState n == esRunning).foldl (fun t n => t.encLose n 0) s

/-- Whether the crop of a session lies in its output's active area. -/
def State.encFits (s : State) (n : Nat) : Bool :=
  let c := (s.enc n).crop
  let m := s.mode (s.encOutput n)
  c.x + c.w ≤ m.w && c.y + c.h ≤ m.h

/-- Output `out` has a new mode since `old`: a session whose crop it no longer holds waits for its source and says so (R230). -/
def State.encNewMode (s old : State) (out : Nat) : State :=
  (s.openEncs.filter fun n => s.encOutput n == out && s.encState n == esWaitSource && old.encFits n && !s.encFits n).foldl
    (fun t n => t.encSourceNotice n 1) s

end Sys2Proof.Machine
end

