-- ==== Sys2Proof/Machine/LedgerCmds.lean ====
section
/-! DEFINITION. The commands of the Ring ledger (spec/02_ring_ledger.md): confirm rings, the wheel, the sweeper, service
accesses, the LDG_ commands of the command set. -/

namespace Sys2Proof.Machine

open Sys2Proof

/-! ### Confirm rings (R50, R51, R54, R343, R345) -/

/-- A PROD write as R50 judges it, on the active and on the standby alike. On a closed or closing ring it is ignored. DEDUCED, unsafe (log 38). -/
def State.ringProd (s : State) (r v : Nat) : State :=
  let k := s.fld (Reg.LDG_CRING_CFG_LOG2_SIZE r)
  if !s.isSet (Reg.LDG_CRING_CFG_OPEN r) || (sparseFind s.ldg.closing r).isSome then s
  else if wrapSub 32 v (s.rd (Reg.LDG_CRING_CONS r)) ≤ 2 ^ k && wrapSub 32 v (s.rd (Reg.LDG_CRING_PROD r)) < 2 ^ 31 then
    s.wr (Reg.LDG_CRING_PROD r) v
  else
    let t := s.raise (Reg.LDG_CRING_STAT_ERR r)
    if s.isSet (Reg.LDG_CRING_STAT_ERR r) then t else t.ringFault r 1 v

/-- A host write to LDG_CRING_PROD: ignored in roles that do not drive (R345), forwarded while mirroring runs (R343). -/
def State.hostRingProd (s : State) (r v : Nat) : State :=
  if s.drives then (s.ringProd r v).pairSend 0x04 (pack [(4, Reg.LDG_CRING_PROD r), (4, v)]) else s

/-- LDG_CRING_PROD_WRITE, as R50 has it. -/
def execLdgCringProdWrite (dt : Nat) (ring : Fin 64) (value : Word) (s : State) : Host.Outcome State Fault Refusal :=
  .next ((s.pass dt).hostRingProd ring.val value.toNat)

/-- Whether the ledger engine, the ring wheel and the sweeper run: from step 9 of a start on, but in retention (R509, R520). -/
def State.ledgerRuns (s : State) : Bool := s.isSet Reg.LDG_STATUS_READY

/-- The ring that the ledger engine serves next (R51): the one whose turn it is, up to 16 records, then the next in order that holds records. DESIGN CHOICE, unsafe (log 178). -/
def State.servedRing (s : State) : Option Nat :=
  if s.ringHolds s.ldg.turn && s.ldg.taken < 16 then some s.ldg.turn
  else ((List.range 64).map fun i => (s.ldg.turn + 1 + i) % 64).find? s.ringHolds

/-- The turn after a record of ring `r` is taken. DESIGN CHOICE, unsafe (log 178). -/
def State.takeTurn (s : State) (r : Nat) : State :=
  { s with ldg := { s.ldg with turn := r, taken := if s.ldg.turn == r && s.ldg.taken < 16 then s.ldg.taken + 1 else 1 } }

/-- The ledger engine takes the next record of ring `r` where that is the ring it serves (R51, R54). -/
def State.hostRecord (s : State) (r : Nat) (poisoned : Bool) : State :=
  if s.ledgerRuns && s.servedRing == some r then (s.takeTurn r).consumeRecord r poisoned else s

/-- HOST_CONFIRM_RECORD, as R54 has it. -/
def execHostConfirmRecord (dt : Nat) (ring : Fin 64) (poisoned : Bool) (s : State) : Host.Outcome State Fault Refusal :=
  .next ((s.pass dt).hostRecord ring.val poisoned)

/-- The oldest engine confirmation in flight reaches the ledger engine (R54). -/
def State.takeConfirm (s : State) (poisoned : Bool) : State :=
  match s.ldg.conf with
  | [] => s
  | e :: t => if s.ledgerRuns then ({ s with ldg := { s.ldg with conf := t } }).engineConfirm e poisoned else s

/-- ENGINE_CONFIRM, as R54 has it. -/
def execEngineConfirm (dt : Nat) (poisoned : Bool) (s : State) : Host.Outcome State Fault Refusal :=
  .next ((s.pass dt).takeConfirm poisoned)

/-! ### The ring wheel (R57 to R59) -/

/-- The list of the slot being scanned, emptied entry by entry (R58); `poisoned` cells read poisoned (R71). DEDUCED, unsafe (log 40). -/
def State.scanSlot (s : State) (slot : Nat) (poisoned : List Nat) : State :=
  let l := sparseGet [] s.ldg.wheel (slot % 4096)
  let s1 := { s with ldg := { s.ldg with wheel := sparseDel s.ldg.wheel (slot % 4096) } }
  l.foldl (fun t n =>
    let (ok, u) := t.cellRead n (poisoned.contains n)
    if ok then u.scanEntry n slot else u) s1

/-- The scan of the current slot: entries of a slot entered already, or the next slot once the one before has expired. DEDUCED, unsafe (log 40). -/
def State.wheelScan (s : State) (poisoned : List Nat) : State :=
  if !s.ledgerRuns then s
  else if s.ldg.scanned == s.slotNow then s.scanSlot s.ldg.scanned poisoned
  else if !s.ldg.candidates.isEmpty then s
  else
    let slot := (s.ldg.scanned + 1) % 2 ^ 30
    ({ s with ldg := { s.ldg with scanned := slot } }).scanSlot slot poisoned

/-- WHEEL_SLOT_SCAN, as R58 has it. -/
def execWheelSlotScan (dt : Nat) (poisoned : List Nat) (s : State) : Host.Outcome State Fault Refusal :=
  .next ((s.pass dt).wheelScan poisoned)

/-- A candidate at its slot's expiry; an injection suppresses the next expiry of its cell (R59, R479). -/
def State.expireCell (s : State) (n : Nat) : State :=
  if s.ldg.suppressed.contains n then
    ({ s with ldg := { s.ldg with suppressed := s.ldg.suppressed.filter fun x => x != n } }).dropCandidate n
  else
    (s.onCell n fun t => t.settleCell n (t.cell n).lapse).dropCandidate n

/-- The expiry of the slot scanned last, once NOW40 has left it: entries appended after its scan are scanned first, then
every candidate lapses (R58, R59). DESIGN CHOICE, unsafe (log 41). -/
def State.wheelExpire (s : State) : State :=
  if s.ldg.scanned == s.slotNow || !s.ledgerRuns then s
  else
    let s1 := s.scanSlot s.ldg.scanned []
    s1.ldg.candidates.foldl (fun t n => t.expireCell n) s1

/-- WHEEL_SLOT_EXPIRY, as R59 has it. -/
def execWheelSlotExpiry (dt : Nat) (s : State) : Host.Outcome State Fault Refusal :=
  .next (s.pass dt).wheelExpire

/-! ### The sweeper (R65, R66) -/

/-- The sweeper visits the cell at LDG_SWEEP_POS and moves on; after the last cell the lap's end comes first. -/
def State.sweepVisit (s : State) (poisoned : Bool) : State :=
  if s.ldg.lapDue || !s.ledgerRuns then s
  else
    let n := s.fld Reg.LDG_SWEEP_POS_CELL
    let t := s.sweepCell n poisoned
    if n + 1 == cellCount then { t.setFld Reg.LDG_SWEEP_POS_CELL 0 with ldg := { t.ldg with lapDue := true } }
    else t.setFld Reg.LDG_SWEEP_POS_CELL (n + 1)

/-- SWEEPER_CELL_VISIT, as R65 has it. -/
def execSweeperCellVisit (dt : Nat) (poisoned : Bool) (s : State) : Host.Outcome State Fault Refusal :=
  .next ((s.pass dt).sweepVisit poisoned)

/-- The end of a lap: LAPS counts, and the lap's wheel and bitmap faults extend or end their runs (R66). -/
def State.sweepLapEnd (s : State) : State :=
  if !s.ldg.lapDue then s
  else
    let l := s.ldg
    let s1 := ({ s with ldg := { l with laps := l.laps + 1, lapDue := false, wheelFault := none, bitFault := [],
                                        freed := l.freed.filter (fun (p : Nat × Nat) => l.laps + 1 < p.2) } }).bumpWrap Reg.LDG_SWEEP_LAPS
    let s2 := s1.lapClass 0x0F 0 0 l.wheelFault
    (List.range 4).foldl (fun t r => t.lapClass 0x0E r 1 (sparseFind l.bitFault r)) s2

/-- SWEEPER_LAP_END, as R66 has it. -/
def execSweeperLapEnd (dt : Nat) (s : State) : Host.Outcome State Fault Refusal :=
  .next (s.pass dt).sweepLapEnd

/-! ### Service accesses (R74) -/

/-- The fields GO writes into LDG_SVC_CMD; GO itself reads zero. -/
def State.svcCmd (s : State) (write : Bool) (n : Nat) : State :=
  s.wr Reg.LDG_SVC_CMD (ofBool write * 2 ^ 30 + n)

/-- The cell read into LDG_SVC_DATA; without service mode the access is not made. DEDUCED, safe (log 36). -/
def State.svcRead (s : State) (n : Nat) (poisoned : Bool) : State :=
  let s1 := s.svcCmd false n
  if !s.isSet Reg.LDG_STATUS_SVC then s
  else
    let (ok, s2) := s1.cellRead n poisoned
    let b := if ok then (s2.cell n).image else zeros 16
    (List.range 4).foldl (fun t k => t.wr (Reg.LDG_SVC_DATA k) (fieldAt b (4 * k) 4)) s2

/-- LDG_SVC_READ, as R74 has it. -/
def execLdgSvcRead (dt : Nat) (cell : Fin 1048576) (poisoned : Bool) (s : State) : Host.Outcome State Fault Refusal :=
  .next ((s.pass dt).svcRead cell.val poisoned)

/-- The cell R74 stores for a written image: LIMIT at least 1, AGED recomputed, a lapsed LIVE or RECOVERING stored STALE. -/
def svcCell (now : Nat) (w : Cell) : Cell :=
  let c := { w with limit := if w.limit == 0 then 1 else w.limit, filed := false, slot := 0
                    aged := 2 ^ 39 ≤ wrapSub 40 now w.confirmedAt }
  if (c.state == csLive || c.state == csRecovering) && (c.aged || passed now c.deadline) then { c with state := csStale } else c

/-- Whether a service write is refused (R74). -/
def State.svcDenied (s : State) (n : Nat) (w : Cell) : Bool :=
  !s.isSet Reg.LDG_STATUS_SVC || n == 0 || 6 ≤ (s.cell n).ownerKind || 6 ≤ w.ownerKind

/-- LDG_SVC_DATA written into the cell, refused or adjusted as R74 says, and filed by R57; FILED and SLOT as written count as adjusted
where the engine stores others. DEDUCED, safe (log 36). DEDUCED, unsafe (log 140, 142). DESIGN CHOICE, unsafe (log 223). -/
def State.svcWrite (s : State) (n : Nat) : State :=
  let s1 := if s.isSet Reg.LDG_STATUS_SVC then s.svcCmd true n else s
  let b := (List.range 4).flatMap fun k => leBytes 4 (s1.rd (Reg.LDG_SVC_DATA k))
  let w := cellOfImage b
  if s1.svcDenied n w then s1.raise Reg.LDG_SVC_STAT_DENIED
  else s1.onCell n fun t =>
    let c := svcCell t.now40 w
    let s2 := (t.dropCandidate n).settleCell n c
    let s3 := if c.ownerKind != 0 && (c.state == csLive || c.state == csRecovering) then s2.fileCell n else s2
    let d := s3.cell n
    let adjusted := bitsAt (fieldAt b 8 8) 63 51 != 0 || c.limit != w.limit || c.aged != w.aged || c.state != w.state ||
      d.filed != w.filed || d.slot != w.slot
    if adjusted then s3.raise Reg.LDG_SVC_STAT_ADJUSTED else s3

/-- LDG_SVC_WRITE, as R74 has it. -/
def execLdgSvcWrite (dt : Nat) (cell : Fin 1048576) (s : State) : Host.Outcome State Fault Refusal :=
  .next ((s.pass dt).svcWrite cell.val)

/-! ### The commands (R76) -/

/-- The cells of a range that are allocated, by number. -/
def State.rangeCells (s : State) (first count : Nat) : List (Nat × Cell) :=
  s.ldg.cells.filter fun p => first ≤ p.1 && p.1 < first + count && p.2.ownerKind != 0

/-- The checks every command on a range of cells makes (R68, R201, R403): the range, the partition, that every cell is
allocated and not an engine's, unless the command may name such cells, and COUNT within 1 to `most`. DEDUCED, unsafe (log 37). -/
def State.rangeChecks (s : State) (part first count most : Nat) (engine unalloc read : Bool) : List (Bool × Nat × Nat) :=
  let l := s.rangeCells first count
  [(!within 1 (cellCount - 1) first, stRange, 16), (cellCount < first + count, stRange, 20),
   (!(read && part == 1) && l.any fun p => s.cellPart p.1 != part && (engine || p.2.ownerKind == 1), stPartition, noField),
   ((!unalloc && l.length < count) || (!engine && l.any fun p => p.2.ownerKind != 1), stInvalid, 16),
   (!within 1 most count, stInvalid, 20)]

/-- Limits of a cell's settings from offset `o` of LIMIT and `c` of CLASS, for the fields that `which` selects. -/
def cellLimits (r : Req) (o c which : Nat) : List (Bool × Nat × Nat) :=
  [(bitAt which 0 && !within 1 0xFFFFFF (r.u32 o), stInvalid, o), (bitAt which 1 && 1 < r.u8 c, stInvalid, c),
   (bitAt which 2 && 1 < r.u8 (c + 1), stInvalid, c + 1), (bitAt which 3 && r.u8 (c + 2) == 0, stInvalid, c + 2),
   (r.u8 (c + 3) != 0, stInvalid, c + 3)]

def State.partOf (s : State) (p : Nat) : Partition := sparseGet {} s.parts p

/-- The host cells a partition holds. -/
def State.hostCells (s : State) (p : Nat) : Nat :=
  (s.ldg.cells.filter fun x => x.2.ownerKind == 1 && x.2.partition == p).length

/-- Whether taking `more` of something brings a partition beyond its quota; partition 1 has none (R398). -/
def overQuota (p used more quota none_ : Nat) : Bool := p != 1 && quota != none_ && quota < used + more

/-- The checks of LDG_CELL_ALLOC in the order of R393 step 8, each as (it fails, status, DETAIL). -/
def chkLdgCellAlloc (r : Req) (s : State) : List (Bool × Nat × Nat) :=
  let count := r.u32 16
  let place := s.placeCells true count
  [(!within 1 2048 count, stInvalid, 16)] ++ cellLimits r 20 24 15 ++
    [(overQuota r.part (s.hostCells r.part) count (s.partOf r.part).cellQuota 0xFFFFFFFF, stNoSpace, noField),
    (place.isNone, stNoSpace, noField)]

/-- LDG_CELL_ALLOC. -/
def cmdLdgCellAlloc (r : Req) (s : State) : State × Resp :=
  let count := r.u32 16
  let place := s.placeCells true count
  s.refuseOr (chkLdgCellAlloc r s)
    (match place with
     | none => (s, .err stNoSpace noField)
     | some first =>
       let t := s.allocCells first count 1 r.part (r.u32 20) (r.u8 24) (r.u8 25 == 1) (r.u8 26)
       (t, .ok (pack [(4, first), (4, count)] ++ (List.range count).flatMap fun i => leBytes 1 (t.cell (first + i)).gen)))

/-- LDG_CELL_ALLOC, as R76 has it. -/
def execLdgCellAlloc (dt : Nat) (m : Fin 8) (s : State) : Host.Outcome State Fault Refusal :=
  .next ((s.pass dt).lcs m.val 0x0201 cmdLdgCellAlloc)

/-- The checks of LDG_CELL_FREE in the order of R393 step 8, each as (it fails, status, DETAIL). -/
def chkLdgCellFree (r : Req) (s : State) : List (Bool × Nat × Nat) :=
  let first := r.u32 16
  let count := r.u32 20
  s.rangeChecks r.part first count (cellCount - 1) false false false

/-- LDG_CELL_FREE: the cells freed, and every span bound to one restaged (R84). -/
def cmdLdgCellFree (r : Req) (s : State) : State × Resp :=
  let first := r.u32 16
  let count := r.u32 20
  s.refuseOr (chkLdgCellFree r s)
    ((s.freeCells first count).restageFreed first count, .ok [])

/-- LDG_CELL_FREE, as R76 has it. -/
def execLdgCellFree (dt : Nat) (m : Fin 8) (s : State) : Host.Outcome State Fault Refusal :=
  .next ((s.pass dt).lcs m.val 0x0202 cmdLdgCellFree)

/-- A cell filed anew: its old filing and candidacy end, and R57 files it by its deadline. A cell that does not age stays out of the wheel until its
next accepted confirmation files it. -/
def State.refileCell (s : State) (n : Nat) : State :=
  let c := s.cell n
  let s1 := (s.dropCandidate n).settleCell n { c with filed := false }
  if c.state == csLive || c.state == csRecovering then s1.fileCell n else s1

/-- The selected settings of one cell changed, DAMAGED cleared. DEDUCED, unsafe (log 35). -/
def State.setCell (s : State) (r : Req) (n : Nat) : State :=
  s.onCell n fun t =>
    let w := r.u32 24
    let c := t.cell n
    let s1 := t.settleCell n { c with
      damaged := false
      limit := if bitAt w 0 then r.u32 28 else c.limit
      cls := if bitAt w 1 then r.u8 32 else c.cls
      latchEn := if bitAt w 2 then r.u8 33 == 1 else c.latchEn
      standMask := if bitAt w 3 then r.u8 34 else c.standMask }
    if bitAt w 0 then s1.refileCell n else s1

/-- Stands that the cells of a range lose when their mask becomes `mask`. -/
def State.lostStands (s : State) (first count mask : Nat) : Nat :=
  maskOf ((List.range 8).filter fun k => !bitAt mask k && (s.rangeCells first count).any fun p => bitAt p.2.standMask k)

/-- The checks of LDG_CELL_SET in the order of R393 step 8, each as (it fails, status, DETAIL). -/
def chkLdgCellSet (r : Req) (s : State) : List (Bool × Nat × Nat) :=
  let first := r.u32 16
  let count := r.u32 20
  let w := r.u32 24
  s.rangeChecks r.part first count (cellCount - 1) false false false ++
    [(w == 0 || 16 ≤ w, stInvalid, 24)] ++ cellLimits r 28 32 w

/-- LDG_CELL_SET. -/
def cmdLdgCellSet (r : Req) (s : State) : State × Resp :=
  let first := r.u32 16
  let count := r.u32 20
  let w := r.u32 24
  s.refuseOr (chkLdgCellSet r s)
    (let t := (List.range count).foldl (fun t i => t.setCell r (first + i)) s
     let lost := if bitAt w 3 then s.lostStands first count (r.u8 34) else 0
     (if lost == 0 then t else t.restageStands first count lost, .ok []))

/-- LDG_CELL_SET, as R76 has it. -/
def execLdgCellSet (dt : Nat) (m : Fin 8) (s : State) : Host.Outcome State Fault Refusal :=
  .next ((s.pass dt).lcs m.val 0x0203 cmdLdgCellSet)

/-- LDG_CELL_FORCE on one cell (R47, R48). DEDUCED, unsafe (log 35). -/
def State.forceCell (s : State) (n st : Nat) : State :=
  s.onCell n fun t =>
    let c := t.cell n
    t.settleCell n (if st == csVoid then { c with state := csVoid, sticky := false } else { c with state := csStale })

/-- The checks of LDG_CELL_FORCE in the order of R393 step 8, each as (it fails, status, DETAIL). -/
def chkLdgCellForce (r : Req) (s : State) : List (Bool × Nat × Nat) :=
  let first := r.u32 16
  let count := r.u32 20
  s.rangeChecks r.part first count (cellCount - 1) true false false ++
    [(r.u8 24 != 1 && r.u8 24 != 3, stInvalid, 24), (r.u8 25 != 0 || r.u16 26 != 0, stInvalid, 25)]

/-- LDG_CELL_FORCE. -/
def cmdLdgCellForce (r : Req) (s : State) : State × Resp :=
  let first := r.u32 16
  let count := r.u32 20
  s.refuseOr (chkLdgCellForce r s)
    ((List.range count).foldl (fun t i => t.forceCell (first + i) (r.u8 24)) s, .ok [])

/-- LDG_CELL_FORCE, as R47 has it. -/
def execLdgCellForce (dt : Nat) (m : Fin 8) (s : State) : Host.Outcome State Fault Refusal :=
  .next ((s.pass dt).lcs m.val 0x0204 cmdLdgCellForce)

/-- The checks of LDG_CELL_QUERY in the order of R393 step 8, each as (it fails, status, DETAIL). -/
def chkLdgCellQuery (r : Req) (s : State) : List (Bool × Nat × Nat) :=
  let first := r.u32 16
  let count := r.u32 20
  s.rangeChecks r.part first count 240 true true true

/-- The images of a range of cells, each read by the ledger engine in order with the other events on its cell (R74, R16); a read that Firebreak
denies gives zeros (R438). -/
def State.cellImages (s : State) (first count : Nat) : List Byte × State :=
  (List.range count).foldl (fun p i =>
    let (ok, t) := p.2.cellRead (first + i) false
    (p.1 ++ (if ok then (t.cell (first + i)).image else zeros 16), t)) ([], s)

/-- LDG_CELL_QUERY. An unallocated cell's image shows OWNER_KIND 0 and STATE VOID. -/
def cmdLdgCellQuery (r : Req) (s : State) : State × Resp :=
  let first := r.u32 16
  let count := r.u32 20
  s.refuseOr (chkLdgCellQuery r s)
    (let (b, t) := s.cellImages first count
     (t, .ok (leBytes 8 s.now40 ++ b)))

/-- LDG_CELL_QUERY, as R76 has it. -/
def execLdgCellQuery (dt : Nat) (m : Fin 8) (s : State) : Host.Outcome State Fault Refusal :=
  .next ((s.pass dt).lcs m.val 0x0205 cmdLdgCellQuery)

/-- The checks of LDG_STICKY_RELEASE in the order of R393 step 8, each as (it fails, status, DETAIL). -/
def chkLdgStickyRelease (r : Req) (s : State) : List (Bool × Nat × Nat) :=
  let first := r.u32 16
  let count := r.u32 20
  s.rangeChecks r.part first count (cellCount - 1) false false false

/-- LDG_STICKY_RELEASE. -/
def cmdLdgStickyRelease (r : Req) (s : State) : State × Resp :=
  let first := r.u32 16
  let count := r.u32 20
  s.refuseOr (chkLdgStickyRelease r s)
    ((List.range count).foldl (fun t i =>
      t.onCell (first + i) fun u => u.settleCell (first + i) { u.cell (first + i) with sticky := false }) s, .ok [])

/-- LDG_STICKY_RELEASE, as R48 has it. -/
def execLdgStickyRelease (dt : Nat) (m : Fin 8) (s : State) : Host.Outcome State Fault Refusal :=
  .next ((s.pass dt).lcs m.val 0x0206 cmdLdgStickyRelease)

/-- Whether two address ranges share a byte. -/
def rangesMeet (a n b m : Nat) : Bool := a < b + m && b < a + n

/-- The whole of a range in device memory. -/
def rangeInDevice (a n : Nat) : Bool := inDeviceMem a && (n == 0 || inDeviceMem (a + n - 1))

/-- Whether one grant of partition `p` holds a range whole (R400). -/
def State.granted (s : State) (p a n : Nat) : Bool :=
  s.grants.any fun g => g.part == p && g.base ≤ a && a + n ≤ g.base + 2 ^ g.log2

/-- The checks of LDG_RING_OPEN in the order of R393 step 8, each as (it fails, status, DETAIL). DEDUCED, unsafe (log 39). -/
def chkLdgRingOpen (r : Req) (s : State) : List (Bool × Nat × Nat) :=
  let base := r.u64 16
  let k := r.u8 24
  let size := 16 * 2 ^ k
  let transit := r.u32 28
  let cells := s.rd64 Reg.LDG_CELLS_BASE_LO Reg.LDG_CELLS_BASE_HI
  let wheel := s.rd64 Reg.LDG_WHEEL_BASE_LO Reg.LDG_WHEEL_BASE_HI
  let free := (List.range 64).find? fun n => !s.isSet (Reg.LDG_CRING_CFG_OPEN n)
  let held := ((List.range 64).filter fun n =>
    s.isSet (Reg.LDG_CRING_CFG_OPEN n) && s.fld (Reg.LDG_CRING_CFG_PARTITION n) == r.part).length
  [(!rangeInDevice base size || base % size != 0 || rangesMeet base size cells (16 * 2 ^ 20) ||
    rangesMeet base size wheel (24 * 2 ^ 20) || !s.granted r.part base size, stInvalid, 16),
    (!within 6 16 k, stInvalid, 24), (r.u8 25 != 0 || r.u16 26 != 0, stInvalid, 25),
    (1048575 < transit && transit != 0xFFFFFFFF, stInvalid, 28),
    (overQuota r.part held 1 (s.partOf r.part).ringQuota 0xFF, stNoSpace, noField), (free.isNone, stNoSpace, noField)]

/-- LDG_RING_OPEN. -/
def cmdLdgRingOpen (r : Req) (s : State) : State × Resp :=
  let base := r.u64 16
  let k := r.u8 24
  let transit := r.u32 28
  let free := (List.range 64).find? fun n => !s.isSet (Reg.LDG_CRING_CFG_OPEN n)
  s.refuseOr (chkLdgRingOpen r s)
    (match free with
     | none => (s, .err stNoSpace noField)
     | some n =>
       let s1 := (((s.wr (Reg.LDG_CRING_BASE_LO n) (base % 2 ^ 32)).wr (Reg.LDG_CRING_BASE_HI n) (base / 2 ^ 32)).wr
         (Reg.LDG_CRING_CFG n) (2 ^ 31 + r.part * 2 ^ 16 + k)).wr (Reg.LDG_CRING_TRANSIT n) (if transit == 0xFFFFFFFF then 1024 else transit)
       ((s1.wr (Reg.LDG_CRING_PROD n) 0).wr (Reg.LDG_CRING_CONS n) 0, .ok (leBytes 4 n)))

/-- LDG_RING_OPEN, as R49 has it. -/
def execLdgRingOpen (dt : Nat) (m : Fin 8) (s : State) : Host.Outcome State Fault Refusal :=
  .next ((s.pass dt).lcs m.val 0x0207 cmdLdgRingOpen)

/-- The checks of LDG_RING_CLOSE in the order of R393 step 8, each as (it fails, status, DETAIL). -/
def chkLdgRingClose (r : Req) (s : State) : List (Bool × Nat × Nat) :=
  let n := r.u32 16
  let open_ := n < 64 && s.isSet (Reg.LDG_CRING_CFG_OPEN n)
  [(open_ && s.fld (Reg.LDG_CRING_CFG_PARTITION n) != r.part, stPartition, noField), (!open_, stInvalid, 16),
    ((sparseFind s.ldg.closing n).isSome, stBusy, noField)]

/-- LDG_RING_CLOSE: the ring consumes what lies below PROD now, then the response comes. -/
def cmdLdgRingClose (r : Req) (s : State) : State × Resp :=
  let n := r.u32 16
  let prod := s.rd (Reg.LDG_CRING_PROD n)
  s.refuseOr (chkLdgRingClose r s)
    (if s.rd (Reg.LDG_CRING_CONS n) == prod then (s.setFld (Reg.LDG_CRING_CFG_OPEN n) 0, .ok [])
     else ({ s with ldg := { s.ldg with closing := sparseIns s.ldg.closing n { prod := prod, waiter := some r.waiter } } }, .wait))

/-- LDG_RING_CLOSE, as R51 has it. -/
def execLdgRingClose (dt : Nat) (m : Fin 8) (s : State) : Host.Outcome State Fault Refusal :=
  .next ((s.pass dt).lcs m.val 0x0208 cmdLdgRingClose)

/-- One entry of LDG_NONLIVE_LIST. -/
def nonliveEntry (p : Nat × Cell) : Nat :=
  p.1 + p.2.eff * 2 ^ 20 + ofBool p.2.sticky * 2 ^ 22 + ofBool p.2.aged * 2 ^ 23

/-- The checks of LDG_NONLIVE_LIST in the order of R393 step 8, each as (it fails, status, DETAIL). DESIGN CHOICE, unsafe (log 176). -/
def chkLdgNonliveList (r : Req) (_s : State) : List (Bool × Nat × Nat) :=
  let start := r.u32 16
  let most := r.u32 20
  [(cellCount ≤ start, stRange, 16), (!within 1 960 most, stInvalid, 20)]

/-- LDG_NONLIVE_LIST. DESIGN CHOICE, unsafe (log 176). -/
def cmdLdgNonliveList (r : Req) (s : State) : State × Resp :=
  let start := r.u32 16
  let most := r.u32 20
  let all := s.ldg.cells.filter fun p => start ≤ p.1 && p.2.ownerKind != 0 && p.2.eff != csLive &&
    (r.part == 1 || (p.2.ownerKind == 1 && p.2.partition == r.part))
  let l := all.take most
  let next := if all.length ≤ most then 0xFFFFFFFF else (l.getLastD (0, {})).1 + 1
  s.refuseOr (chkLdgNonliveList r s)
    (s, .ok (pack [(4, next), (4, l.length)] ++ l.flatMap fun p => leBytes 4 (nonliveEntry p)))

/-- LDG_NONLIVE_LIST, as R68 has it. -/
def execLdgNonliveList (dt : Nat) (m : Fin 8) (s : State) : Host.Outcome State Fault Refusal :=
  .next ((s.pass dt).lcs m.val 0x0209 cmdLdgNonliveList)

/-- The checks of LDG_NOTIFY_CFG in the order of R393 step 8, each as (it fails, status, DETAIL). -/
def chkLdgNotifyCfg (r : Req) (_s : State) : List (Bool × Nat × Nat) :=
  let p := r.u16 16
  [(p != 0 && !within 10 1000 p, stInvalid, 16), (1 < r.u16 18, stInvalid, 18)]

/-- LDG_NOTIFY_CFG: the batch in progress is raised, new periods run from now. -/
def cmdLdgNotifyCfg (r : Req) (s : State) : State × Resp :=
  let p := r.u16 16
  s.refuseOr (chkLdgNotifyCfg r s)
    (let t := s.raiseBatch r.part
     (t.setNotify r.part { periodMs := p, safetyOnly := r.u16 18 == 1, base := t.tick }, .ok []))

/-- LDG_NOTIFY_CFG, as R77 has it. -/
def execLdgNotifyCfg (dt : Nat) (m : Fin 8) (s : State) : Host.Outcome State Fault Refusal :=
  .next ((s.pass dt).lcs m.val 0x020A cmdLdgNotifyCfg)

/-- LDG_STALE_BATCH, as R77 has it. -/
def execLdgStaleBatch (dt : Nat) (part : Fin 4096) (s : State) : Host.Outcome State Fault Refusal :=
  .next ((s.pass dt).staleBatch part.val)

end Sys2Proof.Machine
end

