-- ==== Sys2Proof/Machine/GateCmds.lean ====
section
/-! DEFINITION. The commands of the scan gate (spec/03_scan_gate.md): service writes, GATE_ commands. -/

namespace Sys2Proof.Machine

open Sys2Proof

/-! ### Service writes (R91, R101) -/

/-- The colour registers in table order. -/
def gateColourRegs : List Nat :=
  [Reg.GATE_HATCH_A_COL, Reg.GATE_HATCH_B_COL, Reg.GATE_BADGE_PLATE_COL, Reg.GATE_BADGE_GLYPH_COL, Reg.GATE_LATTICE_COL,
   Reg.GATE_CLEAR_COL, Reg.GATE_CLEAR_GLYPH_COL, Reg.GATE_PULSE_COL0, Reg.GATE_PULSE_COL1, Reg.GATE_PULSE_MARK_COL]

/-- The colours, by index in the table, that colour `k` must differ from (R91). DEDUCED, unsafe (log 42). -/
def mustDiffer (k : Nat) : List Nat :=
  if k == 0 then [1] else if k == 1 then [0] else if k == 2 then [3] else if k == 3 then [2] else if k == 5 then [6]
  else if k == 6 then [5] else if k == 7 then [8, 9] else if k == 8 then [7, 9] else if k == 9 then [7, 8] else []

/-- The bitwise complement within bits 29:0. -/
def complement30 (c : Nat) : Nat := 0x3FFFFFFF - c % 2 ^ 30

/-- The first of a written colour, its complement, red, green and blue that differs from every colour of `others`. DEDUCED, unsafe (log 42). -/
def adjustColour (c : Nat) (others : List Nat) : Nat :=
  ([c, complement30 c, 0x3FF00000, 0x000FFC00, 0x000003FF].find? fun x => !others.contains x).getD c

/-- A service write of colour register `k`. -/
def State.gateColourWrite (s : State) (k v : Nat) : State :=
  let c := v % 2 ^ 30
  let d := adjustColour c ((mustDiffer k).map fun j => s.rd (gateColourRegs.getD j 0))
  let s1 := s.wr (gateColourRegs.getD k 0) d
  if d == c then s1 else s1.raise Reg.GATE_SVC_STAT_ADJUSTED

/-- A service write of GATE_HATCH_ALPHA. -/
def State.gateAlphaWrite (s : State) (v : Nat) : State :=
  let a := max 128 (bitsAt v 15 8)
  let b := max 128 (bitsAt v 7 0)
  let s1 := s.wr Reg.GATE_HATCH_ALPHA (a * 256 + b)
  if a == bitsAt v 15 8 && b == bitsAt v 7 0 then s1 else s1.raise Reg.GATE_SVC_STAT_ADJUSTED

/-- A service write of FORCE_VOID: clearing it is refused while R25 holds the output in clearing. -/
def State.gateVoidWrite (s : State) (n v : Nat) : State :=
  if !bitAt v 31 && s.isSet (Reg.GATE_OUT_CFG_FORCE_VOID n) && bitAt (s.gateOut n).holds 0 then s.raise Reg.GATE_SVC_STAT_DENIED
  else s.setFld (Reg.GATE_OUT_CFG_FORCE_VOID n) (v / 2 ^ 31)

/-- A host write to a service-writable GATE_ register at BAR0 offset `a`; ignored outside service mode. -/
def State.gateSvcWrite (s : State) (a v : Nat) : State :=
  if !s.isSet Reg.GATE_STATUS_SVC then s
  else if gateColourRegs.contains a then s.gateColourWrite (gateColourRegs.idxOf a) v
  else if a == Reg.GATE_HATCH_ALPHA then s.gateAlphaWrite v
  else match (List.range 32).find? fun n => a == Reg.GATE_OUT_CFG n || a == Reg.GATE_OUT_STAGE n with
    | some n => if a == Reg.GATE_OUT_CFG n then s.gateVoidWrite n v
                else s.wr a (v / 2 ^ 31 % 2 * 2 ^ 31 + v % 2 ^ 15)
    | none => s

/-- GATE_SVC_WRITE, as R91 has it. -/
def execGateSvcWrite (dt : Nat) (addr : Nat) (value : Word) (s : State) : Host.Outcome State Fault Refusal :=
  .next ((s.pass dt).gateSvcWrite addr value.toNat)

/-! ### Bindings (R102, R147) -/

/-- The output a command names at offset 16, checked: it exists, and it belongs to the sender (R160). -/
def State.outputChecks (s : State) (r : Req) : List (Bool × Nat × Nat) :=
  let n := r.u8 16
  [(n < 32 && s.owner n != r.part, stPartition, noField), (31 < n, stInvalid, 16)]

/-- The output has a mode, so that a stage can be built for it. -/
def State.enabledCheck (s : State) (r : Req) : List (Bool × Nat × Nat) :=
  [(s.outState (r.u8 16) == osOff, stInvalid, 16)]

/-- The output is not draining or resetting (R403). DEDUCED, unsafe (log 164). -/
def State.busyCheck (s : State) (r : Req) : List (Bool × Nat × Nat) :=
  [(osDraining ≤ s.outState (r.u8 16), stBusy, noField)]

/-- The binding at offset `o` of a GATE_BIND_SET. -/
def bindAt (r : Req) (o : Nat) : Binding :=
  { rect := { x := r.u16 o, y := r.u16 (o + 2), w := r.u16 (o + 4), h := r.u16 (o + 6) }, cell := r.u32 (o + 8) % 2 ^ 20,
    flags := r.u8 (o + 12) }

/-- A CELLREF names an allocated cell other than cell 0 at its GEN (R40, R41). DEDUCED, unsafe (log 44). -/
def State.cellRefOk (s : State) (ref : Nat) : Bool :=
  let c := s.cell (ref % 2 ^ 20)
  ref < 2 ^ 28 && ref % 2 ^ 20 != 0 && c.ownerKind != 0 && c.gen == ref / 2 ^ 20

/-- A CELLREF names an allocated cell of another partition. DEDUCED, unsafe (log 44). -/
def State.cellForeign (s : State) (part ref : Nat) : Bool :=
  let n := ref % 2 ^ 20
  n != 0 && (s.cell n).ownerKind != 0 && s.cellPart n != part

/-- The INVALID checks of the binding at offset `o` inside a source of `w` × `h` pixels. DEDUCED, unsafe (log 44). -/
def State.bindChecks (s : State) (r : Req) (n w h o : Nat) : List (Bool × Nat × Nat) :=
  let b := bindAt r o
  let ref := r.u32 (o + 8)
  [(w ≤ b.rect.x, stInvalid, o), (h ≤ b.rect.y, stInvalid, o + 2), (b.rect.w == 0 || w < b.rect.x + b.rect.w, stInvalid, o + 4),
   (b.rect.h == 0 || h < b.rect.y + b.rect.h, stInvalid, o + 6),
   (!s.cellRefOk ref || !bitAt (s.cell b.cell).standMask (s.stand n), stInvalid, o + 8),
   (32 ≤ b.flags || (bitAt b.flags 0 && (s.cell b.cell).cls == 1), stInvalid, o + 12), (r.u8 (o + 13) != 0, stInvalid, o + 13),
   (r.u8 (o + 14) != 0, stInvalid, o + 14), (r.u8 (o + 15) != 0, stInvalid, o + 15)]

/-- A slot's bindings replaced in a layout. -/
def setBinds (l : List StageSlot) (k : Nat) (b : List Binding) : List StageSlot :=
  l.mapIdx fun i q => if i == k then { q with binds := b } else q

/-- The checks of a command that builds a stage, with those of its admission. -/
def State.admitAfter (s : State) (n : Nat) (l : List StageSlot) (checks : List (Bool × Nat × Nat)) : Option (Nat × Nat) :=
  firstBad (checks ++ s.admissionChecks n (s.mode n) l)

/-- The slots of the stage with the bindings that GATE_BIND_SET gives one of them. -/
def State.boundSlots (s : State) (r : Req) : List StageSlot :=
  let slots := s.lastSlots (r.u8 16)
  let offs := (List.range (r.u16 20)).map fun i => 24 + 16 * i
  setBinds slots (r.u8 17) ((if r.u8 18 == 0 then [] else (slots.getD (r.u8 17) {}).binds) ++ offs.map (bindAt r))

/-- The first failing check of GATE_BIND_SET, admission last. DESIGN CHOICE, unsafe (log 224). -/
def chkGateBindSet (r : Req) (s : State) : Option (Nat × Nat) :=
  let n := r.u8 16
  let k := r.u8 17
  let count := r.u16 20
  let offs := (List.range count).map fun i => 24 + 16 * i
  let q := (s.lastSlots n).getD k {}
  let checks := s.outputChecks r ++ [(offs.any fun o => s.cellForeign r.part (r.u32 (o + 8)), stPartition, noField)] ++
    s.enabledCheck r ++
    [(7 < k || !q.en, stInvalid, 17), (1 < r.u8 18, stInvalid, 18), (r.u8 19 != 0, stInvalid, 19),
     (254 < count || (count == 0 && r.u8 18 != 0), stInvalid, 20), (r.u16 22 != 0, stInvalid, 22)] ++
    (offs.flatMap fun o => s.bindChecks r n q.srcW q.srcH o) ++ s.busyCheck r
  s.admitAfter n (s.boundSlots r) checks

/-- GATE_BIND_SET. -/
def cmdGateBindSet (r : Req) (s : State) : State × Resp :=
  match chkGateBindSet r s with
  | some (st, d) => (s, .err st d)
  | none => (s.buildStage (r.u8 16) (s.boundSlots r), .ok [])

/-- GATE_BIND_SET, as R102 has it. -/
def execGateBindSet (dt : Nat) (m : Fin 8) (s : State) : Host.Outcome State Fault Refusal :=
  .next ((s.pass dt).lcs m.val 0x0301 cmdGateBindSet)

/-- The slots of the stage without the bindings of one of them. -/
def State.unboundSlots (s : State) (r : Req) : List StageSlot := setBinds (s.lastSlots (r.u8 16)) (r.u8 17) []

/-- The first failing check of GATE_BIND_CLEAR, admission last. -/
def chkGateBindClear (r : Req) (s : State) : Option (Nat × Nat) :=
  let k := r.u8 17
  let checks := s.outputChecks r ++ s.enabledCheck r ++
    [(7 < k || !((s.unboundSlots r).getD k {}).en, stInvalid, 17), (r.u16 18 != 0, stInvalid, 18)] ++
    s.busyCheck r
  s.admitAfter (r.u8 16) (s.unboundSlots r) checks

/-- GATE_BIND_CLEAR. -/
def cmdGateBindClear (r : Req) (s : State) : State × Resp :=
  match chkGateBindClear r s with
  | some (st, d) => (s, .err st d)
  | none => (s.buildStage (r.u8 16) (s.unboundSlots r), .ok [])

/-- GATE_BIND_CLEAR, as R102 has it. -/
def execGateBindClear (dt : Nat) (m : Fin 8) (s : State) : Host.Outcome State Fault Refusal :=
  .next ((s.pass dt).lcs m.val 0x0302 cmdGateBindClear)

/-- The checks of GATE_SPAN_QUERY in the order of R393 step 8, each as (it fails, status, DETAIL). DEDUCED, unsafe (log 43). -/
def chkGateSpanQuery (r : Req) (_s : State) : List (Bool × Nat × Nat) :=
  let n := r.u8 16
  [(31 < n, stInvalid, 16), (1 < r.u8 17, stInvalid, 17), (r.u16 18 != 0, stInvalid, 18),
    (!within 1 254 (r.u32 24), stInvalid, 24)]

/-- GATE_SPAN_QUERY. DESIGN CHOICE, unsafe (log 225). -/
def cmdGateSpanQuery (r : Req) (s : State) : State × Resp :=
  let n := r.u8 16
  let staged := r.u8 17 == 1
  let set := if staged then 1 - s.activeSet n else s.activeSet n
  let total := if staged then s.stagedCount n else s.activeCount n
  let first := r.u32 20
  let count := min (r.u32 24) (total - first)
  s.refuseOr (chkGateSpanQuery r s)
    (let (b, t) := s.fwRead (s.spanBase n set + 16 * first) (16 * count)
     (t, .ok (pack [(4, total), (4, count)] ++ b)))

/-- GATE_SPAN_QUERY, as R102 has it. -/
def execGateSpanQuery (dt : Nat) (m : Fin 8) (s : State) : Host.Outcome State Fault Refusal :=
  .next ((s.pass dt).lcs m.val 0x0303 cmdGateSpanQuery)

/-! ### Settings (R91, R102, R170) -/

/-- The checks of GATE_TREAT_CFG in the order of R393 step 8, each as (it fails, status, DETAIL). DESIGN CHOICE, unsafe (log 184). -/
def chkGateTreatCfg (r : Req) (s : State) : List (Bool × Nat × Nat) :=
  let which := r.u32 16
  let new (k : Nat) : Nat := if bitAt which k then r.u32 (20 + 4 * k) else s.rd (gateColourRegs.getD k 0)
  let bad (k : Nat) : Bool :=
    bitAt which k && (2 ^ 30 ≤ r.u32 (20 + 4 * k) || (mustDiffer k).any fun j => new j == new k)
  [(r.part != 1, stPartition, noField), (2 ^ 11 ≤ which, stInvalid, 16)] ++
    ((List.range 10).map fun k => (bad k, stInvalid, 20 + 4 * k)) ++
    [(bitAt which 10 && r.u8 60 < 128, stInvalid, 60), (bitAt which 10 && r.u8 61 < 128, stInvalid, 61),
    (r.u16 62 != 0, stInvalid, 62)]

/-- GATE_TREAT_CFG. -/
def cmdGateTreatCfg (r : Req) (s : State) : State × Resp :=
  let which := r.u32 16
  let new (k : Nat) : Nat := if bitAt which k then r.u32 (20 + 4 * k) else s.rd (gateColourRegs.getD k 0)
  s.refuseOr (chkGateTreatCfg r s)
    (let t := (List.range 10).foldl (fun t k => if bitAt which k then t.wr (gateColourRegs.getD k 0) (new k) else t) s
     (if bitAt which 10 then t.wr Reg.GATE_HATCH_ALPHA (r.u8 60 * 256 + r.u8 61) else t, .ok []))

/-- GATE_TREAT_CFG, as R91 has it. -/
def execGateTreatCfg (dt : Nat) (m : Fin 8) (s : State) : Host.Outcome State Fault Refusal :=
  .next ((s.pass dt).lcs m.val 0x0304 cmdGateTreatCfg)

/-- The pulse mark's rectangle on output `n`: X0, X1, Y0, Y1 (R98). -/
def State.pulseRect (s : State) (n : Nat) : Nat × Nat × Nat × Nat :=
  let m := s.mode n
  let inset := s.fld (Reg.GATE_OUT_CFG_PULSE_INSET n)
  let c := s.fld (Reg.GATE_OUT_CFG_PULSE_CORNER n)
  let x0 := if c == 0 || c == 2 then inset else m.w - inset - 16
  let y0 := if c ≤ 1 then inset else m.h - inset - 16
  (x0, x0 + 16, y0, y0 + 16)

/-- Whether the enabled pulse mark of an output overlaps a rectangle given by its edges. -/
def State.pulseMeets (s : State) (n : Nat) (e : Nat × Nat × Nat × Nat) : Bool :=
  let (x0, x1, y0, y1) := s.pulseRect n
  s.isSet (Reg.GATE_OUT_CFG_PULSE_EN n) && e.1 < x1 && x0 < e.2.1 && e.2.2.1 < y1 && y0 < e.2.2.2

/-- Regions of KIND 2, 3 or 4 under a newly placed pulse mark lose EN (R170). -/
def State.pulseDrops (s : State) (n : Nat) : State :=
  ((s.enabledOn n).filter fun r => 2 ≤ ctrlKind (s.rgCtrl r) && s.pulseMeets n (s.rgEdges r)).foldl (fun t r =>
    ((t.wr (regionBase r) (withBits (t.rgCtrl r) 11 11 0)).clearRegion r).regionGone r 0) s

/-- The checks of GATE_OUTPUT_CFG in the order of R393 step 8, each as (it fails, status, DETAIL). -/
def chkGateOutputCfg (r : Req) (s : State) : List (Bool × Nat × Nat) :=
  let n := r.u8 16
  [(r.part != 1, stPartition, noField), (31 < n, stInvalid, 16), (1 < r.u8 17, stInvalid, 17), (1 < r.u8 18, stInvalid, 18),
    (3 < r.u8 19, stInvalid, 19), (1 < r.u8 21, stInvalid, 21), (r.u16 22 != 0, stInvalid, 22)] ++ s.busyCheck r

/-- GATE_OUTPUT_CFG. Every inset up to 255 leaves the mark inside the smallest mode. -/
def cmdGateOutputCfg (r : Req) (s : State) : State × Resp :=
  let n := r.u8 16
  s.refuseOr (chkGateOutputCfg r s)
    (let s1 := (((s.setFld (Reg.GATE_OUT_CFG_SAMPLE n) (r.u8 17)).setFld (Reg.GATE_OUT_CFG_PULSE_EN n) (r.u8 18)).setFld
       (Reg.GATE_OUT_CFG_PULSE_CORNER n) (r.u8 19)).setFld (Reg.GATE_OUT_CFG_PULSE_INSET n) (r.u8 20)
     ((s1.setFld (Reg.GATE_OUT_CFG_CLEAR_NUM n) (r.u8 21)).pulseDrops n, .ok []))

/-- GATE_OUTPUT_CFG, as R89 has it. -/
def execGateOutputCfg (dt : Nat) (m : Fin 8) (s : State) : Host.Outcome State Fault Refusal :=
  .next ((s.pass dt).lcs m.val 0x0305 cmdGateOutputCfg)

end Sys2Proof.Machine
end

