-- ==== Sys2Proof/Machine/OutputCmds.lean ====
section
/-! DEFINITION. The commands of outputs and stands (spec/04_outputs_and_timing.md). The events of an output's frames stand
in Machine/ScanCmds.lean. -/

namespace Sys2Proof.Machine

open Sys2Proof

/-! ### STAND_CFG (R107, R110, R125) -/

/-- Whether a phase is below the frame period of a stand's mode, or below 10^9 for a stand without an enabled output. -/
def State.phaseFits (s : State) (k phase : Nat) : Bool :=
  match s.standOutputs k with
  | [] => phase < 10 ^ 9
  | n :: _ => phase * (s.mode n).pclk < (s.mode n).pNum

/-- A new phase applied to a stand: its running and starting outputs rephase. DEDUCED, unsafe (log 52). -/
def State.changePhase (s : State) (k phase : Nat) : State :=
  if s.standPhase k == phase then s
  else (s.standOutputs k).foldl (fun t n => t.rephaseOutput n 1 0) (s.setStandPhase k phase)

/-- The checks of STAND_CFG in the order of R393 step 8, each as (it fails, status, DETAIL). -/
def chkStandCfg (r : Req) (s : State) : List (Bool × Nat × Nat) :=
  let k := r.u8 16
  [(r.part != 1, stPartition, noField), (7 < k, stInvalid, 16), (r.u8 17 != 0 || r.u16 18 != 0, stInvalid, 17), (!s.phaseFits k (r.u32 20), stInvalid, 20)]

/-- STAND_CFG. -/
def cmdStandCfg (r : Req) (s : State) : State × Resp :=
  let k := r.u8 16
  s.refuseOr (chkStandCfg r s)
    (s.changePhase k (r.u32 20), .ok [])

/-- STAND_CFG, as R107 has it. -/
def execStandCfg (dt : Nat) (m : Fin 8) (s : State) : Host.Outcome State Fault Refusal :=
  .next ((s.pass dt).lcs m.val 0x0401 cmdStandCfg)

/-! ### OUT_ENABLE (R107, R113, R124, R125, R171, R353) -/

/-- The latch line a mode accepts (R123). -/
def Mode.latchOk (m : Mode) (y : Nat) : Bool := within m.h (m.vTotal - 3) y

/-- Whether every enabled output of a stand has the cadence code of mode `m`. -/
def State.cadenceOk (s : State) (k : Nat) (m : Mode) : Bool := (s.standOutputs k).all fun n => (s.mode n).cadence == m.cadence

/-- R171: at OUT_ENABLE every enabled region of the output is checked against the new mode and its working state cleared. -/
def State.checkRegions (s : State) (n : Nat) : State :=
  let m := s.mode n
  (s.enabledOn n).foldl (fun t r =>
    let (x0, x1, y0, y1) := t.rgEdges r
    let gone := m.w < x1 || m.h < y1 || m.w < x0 || m.h < y0 ||
      (2 ≤ ctrlKind (t.rgCtrl r) && t.pulseMeets n (t.rgEdges r))
    if gone then ((t.wr (regionBase r) (withBits (t.rgCtrl r) 11 11 0)).clearRegion r).regionGone r 3 else t.clearRegion r) s

/-- An output enabled: it waits for its first grid instant, two frame periods from now at the earliest. -/
def State.enableOutput (s : State) (n mode stand cls prio latch owner : Nat) : State :=
  let m := modeOf mode
  let s1 := if (s.standOutputs stand).isEmpty then s.setStandPhase stand (m.reduce (s.standPhase stand)) else s
  let s2 := ((((((s1.setFld (Reg.CNP_OUT_CTRL_MODE n) mode).setFld (Reg.CNP_OUT_CTRL_STAND n) stand).setFld (Reg.CNP_OUT_CTRL_CLASS n) cls).setFld
    (Reg.CNP_OUT_CTRL_PRIORITY n) prio).setFld (Reg.CNP_OUT_LATCH_LATCH_LINE n) latch).setFld (Reg.CNP_OUT_OWNER_PARTITION n) owner).wr
    (Reg.CNP_OUT_PHASE n) (s1.standPhase stand)
  let s3 := ((s2.setOutState n osStarting).setTol n 0xFFFF).setOut n { notBefore := (s2.ptpNs : Int) + ceilDiv (2 * m.pNum) m.pclk }
  let s4 := (s3.scheduleFirst n).setCmt n { s3.cmt n with shown := false, waited := 0 }
  ((s4.checkRegions n).setFld (Reg.PAIR_OUT_CMP_CONVERGED n) 0).encNewMode s n

/-- The checks of OUT_ENABLE in the order of R393 step 8, each as (it fails, status, DETAIL). -/
def chkOutEnable (r : Req) (s : State) : List (Bool × Nat × Nat) :=
  let n := r.u8 16
  let m := modeOf (r.u8 17)
  let latch := if r.u16 22 == 0xFFFF then m.h else r.u16 22
  let owner := r.u16 24
  [(r.part != 1, stPartition, noField), (31 < n || s.outState n != osOff, stInvalid, 16), (23 < r.u8 17, stInvalid, 17),
    (7 < r.u8 18 || !s.cadenceOk (r.u8 18) m, stInvalid, 18), (1 < r.u8 19, stInvalid, 19), (r.u8 21 != 0, stInvalid, 21),
    (!m.latchOk latch, stInvalid, 22), (!within 1 4095 owner || !(owner == 1 || (s.partOf owner).present), stInvalid, 24),
    (r.u16 26 != 0, stInvalid, 26)]

/-- OUT_ENABLE. -/
def cmdOutEnable (r : Req) (s : State) : State × Resp :=
  let n := r.u8 16
  let m := modeOf (r.u8 17)
  let latch := if r.u16 22 == 0xFFFF then m.h else r.u16 22
  let owner := r.u16 24
  s.refuseOr (chkOutEnable r s)
    (s.enableOutput n (r.u8 17) (r.u8 18) (r.u8 19) (r.u8 20) latch owner, .ok [])

/-- OUT_ENABLE, as R113 has it. -/
def execOutEnable (dt : Nat) (m : Fin 8) (s : State) : Host.Outcome State Fault Refusal :=
  .next ((s.pass dt).lcs m.val 0x0402 cmdOutEnable)

/-! ### OUT_DISABLE (R114, R125) -/

/-- An output begins to drain, which leaves the encode sessions it feeds without a source (R230); one in STARTING has no frame to scan. An injection may hold the drain up (R479, 0x19). DEDUCED, unsafe (log 52). -/
def State.disableOutput (s : State) (n ms : Nat) (w : Option Waiter) : State :=
  let (inj, s1) := s.injTake 0x19 n
  let o := s1.out n
  let idle := s1.outState n == osStarting
  let o1 := { o with waiter := w, drainAt := some (s.tick + ms * ticksPerMs), noFrame := idle, stuck := inj.isSome, stuckInj := inj.isSome
                     ended := o.ended || idle, posted := o.posted || idle, latched := o.latched || idle }
  ((((s1.setOut n o1).setOutState n osDraining).encSourceLost n)).cancelCommits n

/-- The checks of OUT_DISABLE in the order of R393 step 8, each as (it fails, status, DETAIL). -/
def chkOutDisable (r : Req) (s : State) : List (Bool × Nat × Nat) :=
  let n := r.u8 16
  [(r.part != 1, stPartition, noField), (31 < n || s.outState n == osOff, stInvalid, 16), (r.u8 17 != 0, stInvalid, 17),
    (1000 < r.u16 18, stInvalid, 18), (osDraining ≤ s.outState n, stBusy, noField)]

/-- OUT_DISABLE. -/
def cmdOutDisable (r : Req) (s : State) : State × Resp :=
  let n := r.u8 16
  s.refuseOr (chkOutDisable r s)
    (s.disableOutput n (if r.u16 18 == 0 then 50 else r.u16 18) (some r.waiter), .wait)

/-- OUT_DISABLE, as R114 has it. -/
def execOutDisable (dt : Nat) (m : Fin 8) (s : State) : Host.Outcome State Fault Refusal :=
  .next ((s.pass dt).lcs m.val 0x0403 cmdOutDisable)

/-! ### OUT_SET, OUT_QUERY (R124, R125) -/

/-- The checks of OUT_SET in the order of R393 step 8, each as (it fails, status, DETAIL). DEDUCED, unsafe (log 52). -/
def chkOutSet (r : Req) (s : State) : List (Bool × Nat × Nat) :=
  let n := r.u8 16
  let w := r.u8 17
  [(r.part != 1, stPartition, noField), (31 < n || s.outState n == osOff, stInvalid, 16), (w == 0 || 8 ≤ w, stInvalid, 17),
    (bitAt w 0 && 1 < r.u8 18, stInvalid, 18), (bitAt w 2 && !(s.mode n).latchOk (r.u16 20), stInvalid, 20),
    (r.u16 22 != 0, stInvalid, 22), (osDraining ≤ s.outState n, stBusy, noField)]

/-- OUT_SET: the settings wait for the next frame start. -/
def cmdOutSet (r : Req) (s : State) : State × Resp :=
  let n := r.u8 16
  let w := r.u8 17
  let o := s.out n
  s.refuseOr (chkOutSet r s)
    (s.setOut n { o with
       setWhich := maskOf (bitList 3 o.setWhich ++ bitList 3 w)
       setClass := if bitAt w 0 then r.u8 18 else o.setClass
       setPrio := if bitAt w 1 then r.u8 19 else o.setPrio
       setLatch := if bitAt w 2 then r.u16 20 else o.setLatch }, .ok [])

/-- OUT_SET, as R125 has it. -/
def execOutSet (dt : Nat) (m : Fin 8) (s : State) : Host.Outcome State Fault Refusal :=
  .next ((s.pass dt).lcs m.val 0x0404 cmdOutSet)

/-- The checks of OUT_QUERY in the order of R393 step 8, each as (it fails, status, DETAIL). -/
def chkOutQuery (r : Req) (s : State) : List (Bool × Nat × Nat) :=
  let n := r.u8 16
  [(n < 32 && r.part != 1 && s.owner n != r.part, stPartition, noField), (31 < n, stInvalid, 16), (r.u8 17 != 0 || r.u16 18 != 0, stInvalid, 17)]

/-- OUT_QUERY. -/
def cmdOutQuery (r : Req) (s : State) : State × Resp :=
  let n := r.u8 16
  s.refuseOr (chkOutQuery r s)
    (s, .ok (pack [(4, s.rd (Reg.CNP_OUT_CTRL n)), (4, s.frameNo n), (4, s.rd (Reg.CNP_OUT_FSTART_NS n)), (4, s.rd (Reg.CNP_OUT_FSTART_SEC_LO n)),
      (2, s.fld (Reg.CNP_OUT_TOL_TOL_NS n)), (2, s.fld (Reg.CNP_OUT_UR_LAST_LINES n)), (4, s.rd (Reg.CNP_OUT_CNT_UR_FRAMES n)),
      (4, s.rd (Reg.CNP_OUT_PHASE n))]))

/-- OUT_QUERY, as R125 has it. -/
def execOutQuery (dt : Nat) (m : Fin 8) (s : State) : Host.Outcome State Fault Refusal :=
  .next ((s.pass dt).lcs m.val 0x0405 cmdOutQuery)

/-! ### Register accesses with a row of their own (R122, R123) -/

/-- A host write of CNP_OUT_LATCH: in service mode and while EN is 1, stored within V active to V total − 3. -/
def State.latchWrite (s : State) (n v : Nat) : State :=
  if !s.isSet (Reg.CNP_OUT_CTRL_SVC n) || !s.isSet (Reg.CNP_OUT_CTRL_EN n) then s
  else
    let m := s.mode n
    let y := clampTo m.h (m.vTotal - 3) (bitsAt v 11 0)
    let t := s.setFld (Reg.CNP_OUT_LATCH_LATCH_LINE n) y
    if y == bitsAt v 11 0 then t else t.raise (Reg.CNP_OUT_STAT_ADJUSTED n)

/-- CNP_OUT_LATCH_WRITE, as R123 has it. -/
def execCnpOutLatchWrite (dt : Nat) (output : Fin 32) (value : Word) (s : State) : Host.Outcome State Fault Refusal :=
  .next ((s.pass dt).latchWrite output.val value.toNat)

/-- CNP_FSTART_NS_READ, as R122 has it. -/
def execCnpFstartNsRead (dt : Nat) (output : Fin 32) (s : State) : Host.Outcome State Fault Refusal :=
  .next ((s.pass dt).readReg (Reg.CNP_OUT_FSTART_NS output.val))

end Sys2Proof.Machine
end

