-- ==== Sys2Proof/Machine/LookoutCmds.lean ====
section
/-! DEFINITION. The commands of the Lookout signature monitor (spec/06_lookout.md) but for its frame post and return signatures. -/

namespace Sys2Proof.Machine

open Sys2Proof

/-! ### Service writes (R168, R169) -/

/-- CTRL as a service write stores it. -/
def ctrlAdjusted (v : Nat) : Nat :=
  let v1 := withBits (withBits (withBits v 7 5 0) 15 15 0) 23 19 0
  let v2 := if 4 < ctrlKind v1 then withBits v1 10 8 0 else v1
  if ctrlFreeze v2 < 2 then withBits v2 31 24 2 else v2

/-- Two edges as a service write stores them, clipped to `most`. -/
def edgesAdjusted (v most : Nat) : Nat := min (v % 65536) most + min (v / 65536) most * 65536

/-- What a service write of word `k` of region `r` stores. -/
def State.regionAdjusted (s : State) (r k v : Nat) : Nat :=
  let m := s.mode (ctrlOut (s.rgCtrl r))
  if k == 0 then ctrlAdjusted v
  else if k == 1 then edgesAdjusted v m.w
  else if k == 2 then edgesAdjusted v m.h
  else if k == 3 then v % 2 ^ 28
  else v

/-- A host write of the region window at BAR0 offset `a`, in service mode only: bytes 0 to 23 of an entry; one of bytes 24 to 31 is ignored and
counts as refused. DESIGN CHOICE, unsafe (log 193). -/
def State.regionSvcWrite (s : State) (a v : Nat) : State :=
  let r := (a - 0x800000) / 32
  let k := a % 32 / 4
  if !s.isSet Reg.LKO_STATUS_SVC || a % 4 != 0 || !within 0x800000 0x87FFFF a then s
  else if 5 < k then s.raise Reg.LKO_SVC_STAT_DENIED
  else
    let w := s.regionAdjusted r k v
    let s1 := if w == v then s else s.raise Reg.LKO_SVC_STAT_ADJUSTED
    if s.rd a == w then s1
    else
      let t := s1.wr a w
      if k < 4 then (t.clearRegion r).freezeFollow (ctrlOut (s.rgCtrl r)) (ctrlSlot (s.rgCtrl r)) else t

/-- LKO_REGION_SVC_WRITE, as R169 has it. -/
def execLkoRegionSvcWrite (dt : Nat) (addr : Nat) (value : Word) (s : State) : Host.Outcome State Fault Refusal :=
  .next ((s.pass dt).regionSvcWrite addr value.toNat)

/-! ### LKO_REGION_SET (R170, R188) -/

/-- A record of LKO_REGION_SET: the region and the six words of its entry. -/
structure RegionRec where
  num : Nat
  words : List Nat

def RegionRec.word (x : RegionRec) (k : Nat) : Nat := x.words.getD k 0
def RegionRec.ctrl (x : RegionRec) : Nat := x.word 0
def RegionRec.edges (x : RegionRec) : Nat × Nat × Nat × Nat :=
  (x.word 1 % 65536, x.word 1 / 65536, x.word 2 % 65536, x.word 2 / 65536)

def regionRec (r : Req) (o : Nat) : RegionRec :=
  { num := r.u32 o, words := (List.range 6).map fun k => r.u32 (o + 4 + 4 * k) }

/-- A region is enabled and belongs to another partition. -/
def State.regionForeign (s : State) (part num : Nat) : Bool := ctrlEn (s.rgCtrl num) && (s.region num).owner != part

/-- PARTITION causes of one record: a region of another partition, an output of another owner, a cell of another partition. -/
def State.regionPartition (s : State) (part : Nat) (x : RegionRec) : Bool :=
  (x.num < 16384 && s.regionForeign part x.num) || (part != 1 && s.owner (ctrlOut x.ctrl) != part)

/-- Whether CELL is the provenance of a slot's layer or of a binding inside it, in the latest layout of the output. -/
def State.regionCellOk (s : State) (part : Nat) (x : RegionRec) : Bool :=
  let n := ctrlOut x.ctrl
  let c := x.word 3 % 2 ^ 20
  let q := (s.lastSlots n).getD (ctrlSlot x.ctrl) {}
  let own := if q.source == 0 then q.cell else (s.pool q.source q.id).cell
  let rows := (s.pool q.source q.id)
  let row := q.source == 1 && rows.rowCell ≤ c && c < rows.rowCell + rows.rows
  (own == c || row || q.binds.any fun b => b.cell == c) && (c == 0 || s.cellPart c == part)

/-- The INVALID checks of the record at offset `o`. DEDUCED, unsafe (log 150). -/
def State.regionChecks (s : State) (part : Nat) (x : RegionRec) (o : Nat) : List (Bool × Nat × Nat) :=
  let c := x.ctrl
  let n := ctrlOut c
  let (x0, x1, y0, y1) := x.edges
  let m := s.mode n
  let slot := (s.lastSlots n).getD (ctrlSlot c) {}
  [(16383 < x.num, stInvalid, o), (ctrlAdjusted c != c || (ctrlKind c == 2 && !slot.en), stInvalid, o + 4),
   ((ctrlEn c && s.outState n == osOff) || x1 < x0 || m.w < x1 || (2 ≤ ctrlKind c && s.pulseMeets n x.edges), stInvalid, o + 8), (y1 < y0 || m.h < y1, stInvalid, o + 12),
   (2 ^ 28 ≤ x.word 3 || !s.regionCellOk part x, stInvalid, o + 16)]

/-- The enabled regions of an output as they would be after the records: number and lines. -/
def State.regionsAfter (s : State) (n : Nat) (l : List RegionRec) : List (Nat × Nat) :=
  let kept := (s.enabledOn n).filter fun r => !l.any fun x => x.num == r
  (kept.map fun r => ((s.rgEdges r).2.2.1, (s.rgEdges r).2.2.2)) ++
    (l.filter fun x => ctrlEn x.ctrl && ctrlOut x.ctrl == n).map fun x => (x.edges.2.2.1, x.edges.2.2.2)

/-- At most 2,048 enabled regions on an output and 128 on a line. -/
def regionLimits (l : List (Nat × Nat)) : Bool :=
  l.length ≤ 2048 && l.all fun e => (l.filter fun x => x.1 ≤ e.1 && e.1 < x.2).length ≤ 128

/-- One record written (R168): a changed CTRL, rectangle, CELL or SLOT clears the working state. -/
def State.regionWrite (s : State) (part : Nat) (x : RegionRec) : State :=
  let old := (List.range 4).map fun k => s.rd (regionBase x.num + 4 * k)
  let s0 := s.setRegion x.num { s.region x.num with owner := part, onCommit := none }
  let s1 := (List.range 6).foldl (fun t k => t.wr (regionBase x.num + 4 * k) (x.word k)) s0
  if old == x.words.take 4 then s1 else (s1.clearRegion x.num).freezeFollow (ctrlOut (old.getD 0 0)) (ctrlSlot (old.getD 0 0))

/-- The checks of LKO_REGION_SET in the order of R393 step 8, each as (it fails, status, DETAIL). DEDUCED, unsafe (log 164). -/
def chkLkoRegionSet (r : Req) (s : State) : List (Bool × Nat × Nat) :=
  let count := r.u32 16
  let offs := (List.range (min count 100)).map fun i => 32 + 28 * i
  let l := offs.map (regionRec r)
  let outs := (l.map fun x => ctrlOut x.ctrl).eraseDups
  [(l.any fun x => s.regionPartition r.part x, stPartition, noField), (!within 1 100 count, stInvalid, 16)] ++
    [((List.range 12).any fun i => r.u8 (20 + i) != 0, stInvalid, 20)] ++
    (offs.flatMap fun o => s.regionChecks r.part (regionRec r o) o) ++
    [(outs.any fun n => !regionLimits (s.regionsAfter n l), stInvalid, noField),
     (l.any fun x => ctrlEn x.ctrl && osDraining ≤ s.outState (ctrlOut x.ctrl), stBusy, noField)]

/-- LKO_REGION_SET. -/
def cmdLkoRegionSet (r : Req) (s : State) : State × Resp :=
  let count := r.u32 16
  let offs := (List.range (min count 100)).map fun i => 32 + 28 * i
  let l := offs.map (regionRec r)
  s.refuseOr (chkLkoRegionSet r s)
    (l.foldl (fun t x => t.regionWrite r.part x) s, .ok [])

/-- LKO_REGION_SET, as R170 has it. -/
def execLkoRegionSet (dt : Nat) (m : Fin 8) (s : State) : Host.Outcome State Fault Refusal :=
  .next ((s.pass dt).lcs m.val 0x0501 cmdLkoRegionSet)

/-! ### LKO_REGION_CLEAR (R177, R188) -/

/-- A region's KIND set to 0: what it holds is released. -/
def State.regionOff (s : State) (num : Nat) : State :=
  let s1 := s.thaw num (s.frameNo (ctrlOut (s.rgCtrl num)))
  ((s1.wr (regionBase num) (withBits (s1.rgCtrl num) 10 8 0)).clearRegion num).releaseForced num

/-- The checks of LKO_REGION_CLEAR in the order of R393 step 8, each as (it fails, status, DETAIL). -/
def chkLkoRegionClear (r : Req) (s : State) : List (Bool × Nat × Nat) :=
  let first := r.u32 16
  let count := r.u32 20
  let l := s.regionList.filter fun n => first ≤ n && n < first + count
  [(l.any fun n => s.regionForeign r.part n, stPartition, noField), (16383 < first, stInvalid, 16),
    (!within 1 16384 count || 16384 < first + count, stInvalid, 20)]

/-- LKO_REGION_CLEAR. -/
def cmdLkoRegionClear (r : Req) (s : State) : State × Resp :=
  let first := r.u32 16
  let count := r.u32 20
  let l := s.regionList.filter fun n => first ≤ n && n < first + count
  s.refuseOr (chkLkoRegionClear r s)
    (l.foldl (fun t n => t.regionOff n) s, .ok [])

/-- LKO_REGION_CLEAR, as R188 has it. -/
def execLkoRegionClear (dt : Nat) (m : Fin 8) (s : State) : Host.Outcome State Fault Refusal :=
  .next ((s.pass dt).lcs m.val 0x0502 cmdLkoRegionClear)

/-! ### LKO_REF_SET, LKO_REGION_QUERY (R13, R188, R189) -/

/-- The value whose low 31 bits are `v` nearest the frame counter `f` by R13: bit 31 makes `v` newer than `f` by less than
2^30 frames or older by at most 2^30. DEDUCED, unsafe (log 62). -/
def nearFrame (f v : Nat) : Nat :=
  let d := wrapSub 31 v f
  if d < 2 ^ 30 then wrapAdd 32 f d else wrapSub 32 (wrapAdd 32 f d) (2 ^ 31)

/-- One reference set, at once or from the next commit. DEDUCED, unsafe (log 62). -/
def State.refSet (s : State) (num ref when_ : Nat) : State :=
  if bitAt when_ 31 then s.setRegion num { s.region num with onCommit := some ref }
  else ((s.setRegion num { s.region num with onCommit := none }).wr (regionBase num + 16) ref).wr (regionBase num + 20)
    (nearFrame (s.frameNo (ctrlOut (s.rgCtrl num))) when_)

/-- The checks of LKO_REF_SET in the order of R393 step 8, each as (it fails, status, DETAIL). -/
def chkLkoRefSet (r : Req) (s : State) : List (Bool × Nat × Nat) :=
  let count := r.u32 16
  let offs := (List.range (min count 200)).map fun i => 32 + 12 * i
  [(offs.any fun o => r.u32 o < 16384 && s.regionForeign r.part (r.u32 o), stPartition, noField), (!within 1 200 count, stInvalid, 16)] ++
    [((List.range 12).any fun i => r.u8 (20 + i) != 0, stInvalid, 20)] ++
    (offs.flatMap fun o =>
    [(16383 < r.u32 o || ctrlKind (s.rgCtrl (r.u32 o)) != 4, stInvalid, o),
    (2 ^ 31 < r.u32 (o + 8), stInvalid, o + 8)])

/-- LKO_REF_SET. -/
def cmdLkoRefSet (r : Req) (s : State) : State × Resp :=
  let count := r.u32 16
  let offs := (List.range (min count 200)).map fun i => 32 + 12 * i
  s.refuseOr (chkLkoRefSet r s)
    (offs.foldl (fun t o => t.refSet (r.u32 o) (r.u32 (o + 4)) (r.u32 (o + 8))) s, .ok [])

/-- LKO_REF_SET, as R189 has it. -/
def execLkoRefSet (dt : Nat) (m : Fin 8) (s : State) : Host.Outcome State Fault Refusal :=
  .next ((s.pass dt).lcs m.val 0x0503 cmdLkoRefSet)

/-- The checks of LKO_REGION_QUERY in the order of R393 step 8, each as (it fails, status, DETAIL). -/
def chkLkoRegionQuery (r : Req) (s : State) : List (Bool × Nat × Nat) :=
  let first := r.u32 16
  let count := r.u32 20
  let l := s.regionList.filter fun n => first ≤ n && n < first + count
  [(l.any fun n => s.regionForeign r.part n, stPartition, noField), (16383 < first, stInvalid, 16),
    (!within 1 240 count || 16384 < first + count, stInvalid, 20)]

/-- LKO_REGION_QUERY. -/
def cmdLkoRegionQuery (r : Req) (s : State) : State × Resp :=
  let first := r.u32 16
  let count := r.u32 20
  let fits := min count 127
  let body := pack [(4, fits), (4, 0)] ++ (List.range fits).flatMap fun i => s.regImage State.rd (regionBase (first + i)) 8
  s.refuseOr (chkLkoRegionQuery r s)
    (s, if fits < count then .more body else .ok body)

/-- LKO_REGION_QUERY, as R188 has it. -/
def execLkoRegionQuery (dt : Nat) (m : Fin 8) (s : State) : Host.Outcome State Fault Refusal :=
  .next ((s.pass dt).lcs m.val 0x0504 cmdLkoRegionQuery)

end Sys2Proof.Machine
end

