-- ==== Sys2Proof/Machine/LayerCmds.lean ====
section
/-! DEFINITION. The commands of layers, commits and fences (spec/05_layers_and_commits.md) but for the latch line. -/

namespace Sys2Proof.Machine

open Sys2Proof

/-! ### The commit ring's doorbell (R148, R151, R345) -/

/-- A PROD write of output `n`'s commit ring, judged alike on the active and on the standby. DEDUCED, unsafe (log 38). -/
def State.commitProd (s : State) (n v : Nat) : State :=
  let k := s.fld (Reg.CNP_CRING_CFG_LOG2_SIZE n)
  if !s.isSet (Reg.CNP_CRING_CFG_OPEN n) || (s.cmt n).closing.isSome then s
  else if wrapSub 32 v (s.rd (Reg.CNP_CRING_CONS n)) ≤ 2 ^ k && wrapSub 32 v (s.rd (Reg.CNP_CRING_PROD n)) < 2 ^ 31 then
    let c := s.cmt n
    ((s.wr (Reg.CNP_CRING_PROD n) v).setCmt n { c with bells := c.bells ++ [{ prod := v, target := s.targetNow n }] }).groupBell n (s.rd (Reg.CNP_CRING_PROD n))
  else
    let t := s.raise (Reg.CNP_CRING_STAT_ERR n)
    if s.isSet (Reg.CNP_CRING_STAT_ERR n) then t else t.cringFault n 1 v

/-- A host write to CNP_CRING_PROD: ignored in roles that do not drive, forwarded while mirroring runs (R343, R345). -/
def State.hostCommitProd (s : State) (n v : Nat) : State :=
  if s.drives then (s.commitProd n v).pairSend 0x04 (pack [(4, Reg.CNP_CRING_PROD n), (4, v)]) else s

/-- CNP_CRING_PROD_WRITE, as R151 has it. -/
def execCnpCringProdWrite (dt : Nat) (output : Fin 32) (value : Word) (s : State) : Host.Outcome State Fault Refusal :=
  .next ((s.pass dt).hostCommitProd output.val value.toNat)

/-! ### Service writes of layer registers (R140, R159) -/

/-- The service-writable bits of an output's layer registers, by offset in its block. -/
def layerSvcMask (o : Nat) : Nat :=
  if o == 0x120 then 0x3FFFFFFF
  else if o < 0x200 || 0x400 ≤ o then 0
  else
    let r := o % 0x40
    if r == 0 then 0xD81FF0FF
    else if r == 4 || r == 8 || r == 12 || r == 16 then 0xFFFFFFFF
    else 0

/-- A host write to a service-writable layer register at BAR0 offset `a`: a layer field waits for the latch line. -/
def State.layerSvcWrite (s : State) (a v : Nat) : State :=
  let n := (a - 0x100000) / 0x1000
  let o := (a - 0x100000) % 0x1000
  let mask := layerSvcMask o
  if !within 0x100000 0x11FFFF a || !s.isSet (Reg.CNP_OUT_CTRL_SVC n) || mask == 0 then s
  else if o == 0x120 then s.wr a (v % 2 ^ 30)
  else
    let c := s.cmt n
    let old := BitVec.ofNat 32 (s.view a)
    let new := (old &&& ~~~(BitVec.ofNat 32 mask)) ||| (BitVec.ofNat 32 v &&& BitVec.ofNat 32 mask)
    s.setCmt n { c with svc := sparseIns c.svc a new.toNat }

/-- CNP_LAYER_SVC_WRITE, as R140 has it. -/
def execCnpLayerSvcWrite (dt : Nat) (addr : Nat) (value : Word) (s : State) : Host.Outcome State Fault Refusal :=
  .next ((s.pass dt).layerSvcWrite addr value.toNat)

/-! ### Buffers (R132, R142, R143, R160) -/

/-- Whether a committed layer or a pending commit of the output names a buffer (R143). -/
def State.bufBusy (s : State) (n id : Nat) : Bool :=
  ((List.range 8).any fun k =>
    let l := s.layer n k
    l.stage.en && l.stage.source == 0 && l.pic.isSome && s.fld (Reg.CNP_LAYER_BUF_ID n k) == id) ||
    (s.ringIndices n).any fun i =>
      let d := s.peekDesc n i
      (bitList 8 d.flip).any fun k => (d.bufs.getD k (0, 0)).1 == id

/-- The bytes of a row of plane 1. -/
def rowBytes1 (fmt w : Nat) : Nat := if fmt == 4 then 2 * w else w

/-- The INVALID checks of CNP_BUF_SET (R132, R400). -/
def State.bufChecks (s : State) (r : Req) : List (Bool × Nat × Nat) :=
  let f := r.u8 17
  let w := r.u16 20
  let h := r.u16 22
  let s0 := r.u32 32
  let s1 := r.u32 36
  let strideBad (st row : Nat) : Bool := st % 64 != 0 || st < row || 65536 < st
  let p1 := r.u64 40
  [(7 < f, stInvalid, 17), (1023 < r.u16 18, stInvalid, 18),
   (!within 1 4096 w || ((f == 3 || f == 4 || f == 5) && w % 2 != 0), stInvalid, 20),
   (!within 1 4096 h || (twoPlanes f && h % 2 != 0), stInvalid, 22),
   (r.u64 24 % 4096 != 0 || !s.granted r.part (r.u64 24) (s0 * h), stInvalid, 24),
   (strideBad s0 (rowBytes f w), stInvalid, 32), (if twoPlanes f then strideBad s1 (rowBytes1 f w) else s1 != 0, stInvalid, 36),
   (if twoPlanes f then p1 % 4096 != 0 || !s.granted r.part p1 (s1 * (h / 2))
    else if f == 7 then p1 % 1024 != 0 || !s.granted r.part p1 1024 else p1 != 0, stInvalid, 40)]

/-- The checks of CNP_BUF_SET in the order of R393 step 8, each as (it fails, status, DETAIL). -/
def chkCnpBufSet (r : Req) (s : State) : List (Bool × Nat × Nat) :=
  let n := r.u8 16
  let id := r.u16 18
  s.outputChecks r ++ s.bufChecks r ++ s.busyCheck r ++ [(s.bufBusy n id, stBusy, noField)]

/-- CNP_BUF_SET. -/
def cmdCnpBufSet (r : Req) (s : State) : State × Resp :=
  let n := r.u8 16
  let id := r.u16 18
  let g := ((s.buf n id).gen + 1) % 65536
  let c := s.cmt n
  let p : Pic := { fmt := r.u8 17, w := r.u16 20, h := r.u16 22, p0 := r.u64 24, s0 := r.u32 32, s1 := r.u32 36, p1 := r.u64 40 }
  s.refuseOr (chkCnpBufSet r s)
    (s.setCmt n { c with bufs := sparsePut {} c.bufs id { present := true, pic := p, gen := g } }, .ok (leBytes 4 g))

/-- CNP_BUF_SET, as R142 has it. -/
def execCnpBufSet (dt : Nat) (m : Fin 8) (s : State) : Host.Outcome State Fault Refusal :=
  .next ((s.pass dt).lcs m.val 0x0411 cmdCnpBufSet)

/-- The checks of CNP_BUF_CLEAR in the order of R393 step 8, each as (it fails, status, DETAIL). -/
def chkCnpBufClear (r : Req) (s : State) : List (Bool × Nat × Nat) :=
  let n := r.u8 16
  let id := r.u16 18
  s.outputChecks r ++ [(r.u8 17 != 0, stInvalid, 17), (1023 < id, stInvalid, 18)] ++ s.busyCheck r ++ [(s.bufBusy n id, stBusy, noField)]

/-- CNP_BUF_CLEAR. -/
def cmdCnpBufClear (r : Req) (s : State) : State × Resp :=
  let n := r.u8 16
  let id := r.u16 18
  let g := ((s.buf n id).gen + 1) % 65536
  let c := s.cmt n
  s.refuseOr (chkCnpBufClear r s)
    (s.setCmt n { c with bufs := sparsePut {} c.bufs id { gen := g } }, .ok (leBytes 4 g))

/-- CNP_BUF_CLEAR, as R142 has it. DEDUCED, unsafe (log 58). -/
def execCnpBufClear (dt : Nat) (m : Fin 8) (s : State) : Host.Outcome State Fault Refusal :=
  .next ((s.pass dt).lcs m.val 0x0412 cmdCnpBufClear)

/-! ### CNP_LAYOUT_PREPARE (R135, R137, R139, R141, R147, R160, R567) -/

/-- A RECT of four 2-byte fields at offset `o`. -/
def rectAt (r : Req) (o : Nat) : Rect := { x := r.u16 o, y := r.u16 (o + 2), w := r.u16 (o + 4), h := r.u16 (o + 6) }

/-- The slot entry at offset `o`, with what its source gives; a disabled slot is empty. -/
def State.slotAt (s : State) (r : Req) (n o : Nat) : StageSlot :=
  let f := r.u8 o
  let src := r.u8 (o + 1)
  let id := r.u16 (o + 2)
  let b := (s.buf n id).pic
  let p := s.pool src id
  let host := src == 0
  let yuv := host && within 3 5 b.fmt
  if !bitAt f 0 then {}
  else
    { en := true, opq := bitAt f 1, static := bitAt f 2, premult := bitAt f 3, ignoreAlpha := bitAt f 4, source := src, id := id,
      filter := r.u8 (o + 4), matrix := if yuv then r.u8 (o + 5) % 4 else 0, full := yuv && bitAt (r.u8 (o + 5)) 4,
      alpha := r.u8 (o + 6), cell := if host then r.u32 (o + 8) % 2 ^ 20 else p.cell, crop := rectAt r (o + 12),
      dst := rectAt r (o + 20), col := r.u32 (o + 28), fmt := if host then b.fmt else p.fmt, srcW := if host then b.w else p.w,
      srcH := if host then b.h else p.h }

/-- Whether the source of a slot exists and may be used: a registered buffer, or the sender's open session or input. -/
def State.sourceOk (s : State) (part n src id : Nat) : Bool :=
  if src == 0 then id < 1024 && (s.buf n id).present
  else
    let p := s.pool src id
    let row (i : Nat) : Bool := bitAt (s.cell (p.rowCell + i)).standMask (s.stand n)
    p.present && p.part == part && s.standOk n p.cell && (List.range p.rows).all row

/-- The provenance of a host slot: cell 0 with STATIC, else an allocated cell of the partition at its GEN whose STAND_MASK has
the output's stand (R40, R41, R84). -/
def State.hostCellOk (s : State) (part n ref : Nat) (static : Bool) : Bool :=
  if static then ref == 0 else s.cellRefOk ref && !s.cellForeign part ref && s.standOk n (ref % 2 ^ 20)

/-- R135: when OPAQUE is accepted. -/
def opaqueOk (q : StageSlot) : Bool :=
  q.alpha == 255 && q.fmt != 6 && (q.source != 0 || !hasAlpha q.fmt || q.ignoreAlpha)

/-- R137: a scale factor between 1/4 and 8. -/
def factorOk (o c : Nat) : Bool := c ≤ 4 * o && o ≤ 8 * c

/-- The INVALID checks of the slot entry at offset `o`. -/
def State.slotChecks (s : State) (r : Req) (n o : Nat) : List (Bool × Nat × Nat) :=
  let f := r.u8 o
  let q := s.slotAt r n o
  let m := s.mode n
  let bad (b : Bool) (d : Nat) : Bool × Nat × Nat := (b, stInvalid, o + d)
  if !bitAt f 0 then [bad (32 ≤ f) 0, bad (r.u8 (o + 7) != 0) 7]
  else
    [bad (32 ≤ f || (q.opq && !opaqueOk q) || (q.static && q.source != 0)) 0, bad (2 < q.source) 1,
     bad (!s.sourceOk r.part n q.source q.id) 2, bad (q.scaled && 4 < q.filter) 4,
     bad (q.source == 0 && within 3 5 q.fmt && (r.u8 (o + 5) % 4 == 3 || 32 ≤ r.u8 (o + 5) || bitsAt (r.u8 (o + 5)) 3 2 != 0)) 5,
     bad (r.u8 (o + 7) != 0) 7, bad (q.source == 0 && !s.hostCellOk r.part n (r.u32 (o + 8)) q.static) 8,
     bad (q.crop.w == 0 || q.crop.h == 0 || q.srcW < q.crop.x + q.crop.w || q.srcH < q.crop.y + q.crop.h) 12,
     bad (q.dst.w == 0 || q.dst.h == 0 || m.w < q.dst.x + q.dst.w || m.h < q.dst.y + q.dst.h ||
       (q.scaled && !(factorOk q.dst.w q.crop.w && factorOk q.dst.h q.crop.h))) 20,
     bad (2 ^ 30 ≤ q.col) 28]

/-- A prepared layout: bindings kept on the slots that keep their source. -/
def State.preparedSlots (s : State) (r : Req) (n : Nat) : List StageSlot :=
  let old := s.lastSlots n
  (List.range 8).map fun k =>
    let q := s.slotAt r n (32 + 48 * k)
    let o := old.getD k {}
    if sameSource o q then { q with binds := o.binds } else q

/-- R198: whether a layout of output `n` would make more layers show a session or an input than its MAX_VIEWS. Of another output that has a layout
ready beside the one it shows, the one with more such layers counts. -/
def State.viewsFull (s : State) (n : Nat) (slots : List StageSlot) : Bool :=
  slots.any fun q =>
    let views (l : List StageSlot) : Nat := (l.filter fun x => x.en && x.source == q.source && x.id == q.id).length
    let shown (m : Nat) : Nat := views ((List.range 8).map fun k => s.liveSlot m k)
    let others := ((List.range 32).filter fun m => m != n).foldl (fun a m => a + max (shown m) (views (s.lastSlots m))) 0
    q.en && q.source != 0 && decide ((s.pool q.source q.id).maxViews < views slots + others)

/-- The scalers of a prepared layout, where they suffice (R139). -/
def State.allotted (s : State) (n : Nat) (slots : List StageSlot) : Option (List StageSlot) :=
  let old := s.lastSlots n
  allotScalers (s.othersScalers n ++ keptScalers slots old) slots old

/-- A slot shows a session or an input that drains or is being reset (R403). DEDUCED, unsafe (log 164). -/
def State.slotDrains (s : State) (q : StageSlot) : Bool :=
  q.en && ((q.source == 1 && 3 ≤ s.fld (Reg.DEC_SES_CTRL_STATE q.id)) || (q.source == 2 && 3 ≤ s.fld (Reg.KLN_CAP_CTRL_STATE (32 + q.id))))

/-- The checks of CNP_LAYOUT_PREPARE in the order of R393 step 8, each as (it fails, status, DETAIL). -/
def chkCnpLayoutPrepare (r : Req) (s : State) : List (Bool × Nat × Nat) :=
  let n := r.u8 16
  let slots := s.preparedSlots r n
  s.outputChecks r ++ s.enabledCheck r ++ [((List.range 15).any fun i => r.u8 (17 + i) != 0, stInvalid, 17)] ++
    ((List.range 8).flatMap fun k => s.slotChecks r n (32 + 48 * k) ++
      [((List.range 16).any fun i => r.u8 (32 + 48 * k + 32 + i) != 0, stInvalid, 32 + 48 * k + 32)]) ++
    [(!spanLimits (s.layoutSpans n (s.mode n) slots), stInvalid, noField)] ++ s.busyCheck r ++
    [(slots.any s.slotDrains, stBusy, noField), (s.viewsFull n slots, stNoSpace, noField)]

/-- CNP_LAYOUT_PREPARE. -/
def cmdCnpLayoutPrepare (r : Req) (s : State) : State × Resp :=
  let n := r.u8 16
  let m := s.mode n
  s.refuseOr (chkCnpLayoutPrepare r s)
    (match s.allotted n (s.preparedSlots r n) with
     | none => (s, .err stNoSpace noField)
     | some l =>
       match s.admission n m l with
       | some (st, d) => (s, .err st d)
       | none =>
         let t := s.buildStage n l
         (t, .ok (pack [(2, t.fld (Reg.CNP_STAGE_SEQ n)), (1, l.foldl (fun a q => a + q.scalers) 0), (1, 0),
           (4, fetchMbps m (layoutFetch l)), (4, layoutTolNs m l)])))

/-- CNP_LAYOUT_PREPARE, as R147 has it. -/
def execCnpLayoutPrepare (dt : Nat) (m : Fin 8) (s : State) : Host.Outcome State Fault Refusal :=
  .next ((s.pass dt).lcs m.val 0x0413 cmdCnpLayoutPrepare)

/-! ### Opening and closing the commit ring (R148, R160) -/

/-- The checks of CNP_CRING_OPEN in the order of R393 step 8, each as (it fails, status, DETAIL). -/
def chkCnpCringOpen (r : Req) (s : State) : List (Bool × Nat × Nat) :=
  let n := r.u8 16
  let k := r.u8 17
  let base := r.u64 24
  let size := 128 * 2 ^ k
  s.outputChecks r ++ [(s.isSet (Reg.CNP_CRING_CFG_OPEN n), stInvalid, 16), (!within 4 10 k, stInvalid, 17)] ++
    [((List.range 6).any fun i => r.u8 (18 + i) != 0, stInvalid, 18)] ++
    [(!rangeInDevice base size || base % size != 0 || !s.granted r.part base size, stInvalid, 24)] ++ s.busyCheck r

/-- CNP_CRING_OPEN. -/
def cmdCnpCringOpen (r : Req) (s : State) : State × Resp :=
  let n := r.u8 16
  let k := r.u8 17
  let base := r.u64 24
  s.refuseOr (chkCnpCringOpen r s)
    (let s1 := ((s.wr (Reg.CNP_CRING_BASE_LO n) (base % 2 ^ 32)).wr (Reg.CNP_CRING_BASE_HI n) (base / 2 ^ 32)).wr
       (Reg.CNP_CRING_CFG n) (2 ^ 31 + k)
     (((s1.wr (Reg.CNP_CRING_PROD n) 0).wr (Reg.CNP_CRING_CONS n) 0).setCmt n { s1.cmt n with bells := [], waited := 0 }, .ok []))

/-- CNP_CRING_OPEN, as R148 has it. DEDUCED, unsafe (log 58). -/
def execCnpCringOpen (dt : Nat) (m : Fin 8) (s : State) : Host.Outcome State Fault Refusal :=
  .next ((s.pass dt).lcs m.val 0x0414 cmdCnpCringOpen)

/-- The checks of CNP_CRING_CLOSE in the order of R393 step 8, each as (it fails, status, DETAIL). -/
def chkCnpCringClose (r : Req) (s : State) : List (Bool × Nat × Nat) :=
  let n := r.u8 16
  let c := s.cmt n
  s.outputChecks r ++ [(!s.isSet (Reg.CNP_CRING_CFG_OPEN n), stInvalid, 16), (r.u8 17 != 0 || r.u16 18 != 0, stInvalid, 17), (c.closing.isSome, stBusy, noField)] ++ s.busyCheck r

/-- CNP_CRING_CLOSE: commits below PROD are handled first. -/
def cmdCnpCringClose (r : Req) (s : State) : State × Resp :=
  let n := r.u8 16
  let c := s.cmt n
  let prod := s.rd (Reg.CNP_CRING_PROD n)
  s.refuseOr (chkCnpCringClose r s)
    (if s.rd (Reg.CNP_CRING_CONS n) == prod then (s.setFld (Reg.CNP_CRING_CFG_OPEN n) 0, .ok [])
     else (s.setCmt n { c with closing := some (prod, r.waiter) }, .wait))

/-- CNP_CRING_CLOSE, as R160 has it. -/
def execCnpCringClose (dt : Nat) (m : Fin 8) (s : State) : Host.Outcome State Fault Refusal :=
  .next ((s.pass dt).lcs m.val 0x0415 cmdCnpCringClose)

end Sys2Proof.Machine
end

