-- ==== Sys2Proof/Machine/FwMem.lean ====
section
/-! DEFINITION. Memory of the firmware pool (R399), the loading of a pipe's regions (R199, R443), ranks (R417), placement of
sessions on pipes (R195, R232, R425). -/

namespace Sys2Proof.Machine

open Sys2Proof

/-! ### The firmware pool -/

/-- `a` rounded up to a multiple of `n`. -/
def alignUp (a n : Nat) : Nat := ceilDiv a n * n

/-- The least k from `lo` on with 2^k at least `n`. -/
def log2Up (lo n : Nat) : Nat := ((List.range 40).find? fun k => lo ≤ k && n ≤ 2 ^ k).getD 40

/-- The lowest aligned window of `size` bytes of the firmware pool that meets no entry of `used`, which rises. DESIGN CHOICE, unsafe (log 61). -/
def fitWindow (size : Nat) : Nat → List (Nat × Nat) → Option Nat
  | cur, [] => if cur + size ≤ 0xC00000000 then some cur else none
  | cur, (b, n) :: t => if cur + size ≤ b then some cur else fitWindow size (max cur (alignUp (b + n) size)) t

/-- Windows of 2^k bytes taken from the firmware pool, one for each size given; none when memory is lacking. DESIGN CHOICE, unsafe (log 61). -/
def State.takeMemory (s : State) : List Nat → Option (List Nat × State)
  | [] => some ([], s)
  | k :: t =>
    match fitWindow (2 ^ k) (alignUp 0x600000000 (2 ^ k)) s.fwPool with
    | none => none
    | some b =>
      match ({ s with fwPool := sparseIns s.fwPool b (2 ^ k) } : State).takeMemory t with
      | none => none
      | some (l, u) => some (b :: l, u)

/-- Windows given back. -/
def State.giveMemory (s : State) (l : List Nat) : State :=
  { s with fwPool := l.foldl (fun p b => sparseDel p b) s.fwPool }

/-! ### A pipe's regions (R199, R233, R443) -/

/-- CFG word of an enabled region. -/
def regionCfg (r w : Bool) (log2 : Nat) : Nat := 2 ^ 31 + ofBool r * 2 ^ 30 + ofBool w * 2 ^ 29 + log2

/-- Region `k` of unit `u` set, staged and active. A locked region keeps its fields (R446). -/
def State.setFbkRegion (s : State) (u k base cfg : Nat) : State :=
  if bitAt (s.rd (Reg.FBK_REG_CFG u k)) 28 then s
  else
    let t := ((s.wr (Reg.FBK_REG_BASE_LO u k) (base % 2 ^ 32)).wr (Reg.FBK_REG_BASE_HI u k) (base / 2 ^ 32)).wr (Reg.FBK_REG_CFG u k) cfg
    { t with fbk := { t.fbk with active := sparsePut {} t.fbk.active (u * 64 + k) { base := base, cfg := cfg } } }

/-- The general regions of a unit loaded from 0 on, each as base and CFG, with the barrier complete. DEDUCED, unsafe (log 113). -/
def State.loadRegions (s : State) (u : Nat) (l : List (Nat × Nat)) : State :=
  (l.mapIdx fun k x => (k, x)).foldl (fun t x => t.setFbkRegion u x.1 x.2.1 x.2.2) s

/-! ### Barriers (R441, R442) -/

/-- The number of general regions of unit `u` (R434). -/
def fbkCount (u : Nat) : Nat := if u == 0 then 48 else 16

/-- The staged region `k` of unit `u`. -/
def State.fbkStaged (s : State) (u k : Nat) : FbkRegion :=
  { base := s.rd64 (Reg.FBK_REG_BASE_LO u k) (Reg.FBK_REG_BASE_HI u k), cfg := s.rd (Reg.FBK_REG_CFG u k) }

/-- The staged set of unit `u` made active (R441). -/
def State.fbkActivate (s : State) (u : Nat) : State :=
  (List.range (fbkCount u)).foldl (fun t k =>
    { t with fbk := { t.fbk with active := sparsePut {} t.fbk.active (u * 64 + k) (s.fbkStaged u k) } }) s

/-- A barrier of unit `u` (R441, R442): the staged set becomes active, and `inFlight` further accesses checked under the earlier rules are under way
beside those that wait at the memory channels. -/
def State.fbkGo (s : State) (u inFlight : Nat) : State :=
  let t := s.fbkActivate u
  let t1 : State := { t with hbm := { t.hbm with waiting := t.hbm.waiting.map fun r => if r.unit == u then { r with old := true } else r } }
  (t1.setFld (Reg.FBK_BARRIER_DONE_DONE u) 0).setFld (Reg.FBK_BARRIER_DONE_OLD_PENDING u)
    (min 65535 (s.fld (Reg.FBK_BARRIER_DONE_OLD_PENDING u) + inFlight))

/-- Accesses of unit `u` checked under earlier rules complete (R442): DONE becomes 1 when none is left, in the fabric or waiting at a channel. -/
def State.fbkDone (s : State) (u finished : Nat) : State :=
  let left := s.fld (Reg.FBK_BARRIER_DONE_OLD_PENDING u) - finished
  let t := s.setFld (Reg.FBK_BARRIER_DONE_OLD_PENDING u) left
  if left == 0 && s.oldWaiting u == 0 then t.setFld (Reg.FBK_BARRIER_DONE_DONE u) 1 else t

/-- A barrier of unit `u` that Lysman firmware waits for before it treats memory as withdrawn: the accesses checked under the earlier rules complete
(R442). DEDUCED, unsafe (log 121). -/
def State.fbkAwait (s : State) (u : Nat) : State :=
  ((s.fbkGo u 0).serveDue fun p => p.1.unit == u).fbkDone u 65535

/-! ### Rank (R111, R417) -/

/-- The order of outputs (R111, with safety before standard): the lower, the higher ranked. -/
def State.outKey (s : State) (n : Nat) : Nat :=
  (if s.fld (Reg.CNP_OUT_CTRL_CLASS n) == 1 then 0 else 65536) + s.fld (Reg.CNP_OUT_CTRL_PRIORITY n) * 256 + n

/-- The rank key of a decode session or capture input: that of its highest output, or below every shown one; then its number. -/
def State.sourceKey (s : State) (source id : Nat) : Nat :=
  (((s.shownOn source id).map s.outKey).foldl min 0x100000) * 256 + id

/-! ### Placement on pipes -/

/-- A session as placement sees it: number, rank key, allotment in pixels per second as a fraction, bit rate in kbit/s, the
pipe it is on. -/
structure Slotted where
  id : Nat := 0
  key : Nat := 0
  num : Nat := 0
  den : Nat := 1
  kbps : Nat := 0
  pipe : Option Nat := none
  deriving DecidableEq, Repr, Inhabited

/-- The sum of the allotments of a list as a fraction. -/
def allotSum (l : List Slotted) : Nat × Nat := l.foldl (fun a x => (a.1 * x.den + x.num * a.2, a.2 * x.den)) (0, 1)

/-- Whether the sessions of a list fit on one pipe of `pix` pixels per second and `kbps`. -/
def pipeHolds (pix kbps : Nat) (l : List Slotted) : Bool :=
  let a := allotSum l
  a.1 ≤ pix * a.2 && l.foldl (fun n x => n + x.kbps) 0 ≤ kbps

/-- The lowest-numbered pipe of `pipes` on which `x` fits beside the sessions of `l`. -/
def findPipe (pix kbps : Nat) (pipes : List Nat) (l : List Slotted) (x : Slotted) : Option Nat :=
  pipes.find? fun p => pipeHolds pix kbps (x :: l.filter fun y => y.pipe == some p && y.id != x.id)

/-- `l` with session `id` on `pipe`. -/
def putOn (l : List Slotted) (id : Nat) (pipe : Option Nat) : List Slotted :=
  l.map fun x => if x.id == id then { x with pipe := pipe } else x

/-- The placed session of lowest rank. -/
def lowestPlaced (l : List Slotted) : Option Slotted :=
  (l.filter fun x => x.pipe.isSome).foldl (fun a x => match a with
    | none => some x
    | some y => if y.key < x.key then some x else a) none

/-- R425 for one session: the lowest-ranked placed sessions are parked, one at a time, until it fits on a pipe; only
lower-ranked ones give way. The second part lists those parked. -/
def placeOne (pix kbps : Nat) (pipes : List Nat) (x : Slotted) : Nat → List Slotted → List Nat → List Slotted × List Nat
  | 0, l, parked => (l, parked)
  | k + 1, l, parked =>
    match findPipe pix kbps pipes l x with
    | some p => (putOn l x.id (some p), parked)
    | none =>
      match lowestPlaced l with
      | some y => if x.key < y.key then placeOne pix kbps pipes x k (putOn l y.id none) (y.id :: parked) else (l, x.id :: parked)
      | none => (l, x.id :: parked)

/-- The sessions in rank order. -/
def byRank (l : List Slotted) : List Slotted := l.insertionSort fun a b => a.key ≤ b.key

/-- R425: the sessions `ids` placed again in rank order, then those parked in this decision placed where they still fit. -/
def replace (pix kbps : Nat) (pipes : List Nat) (ids : List Nat) (l : List Slotted) : List Slotted :=
  let start := l.map fun x => if ids.contains x.id then { x with pipe := none } else x
  let (l1, parked) := (byRank (l.filter fun x => ids.contains x.id)).foldl
    (fun (a : List Slotted × List Nat) x => placeOne pix kbps pipes x (l.length + 1) a.1 a.2) (start, [])
  (byRank (l1.filter fun x => parked.contains x.id)).foldl
    (fun a x => match findPipe pix kbps pipes a x with
      | some p => putOn a x.id (some p)
      | none => a) l1

/-- R426: the parked sessions placed where they fit, highest ranked first. DEDUCED, unsafe (log 65). -/
def resumeParked (pix kbps : Nat) (pipes : List Nat) (l : List Slotted) : List Slotted :=
  (byRank (l.filter fun x => x.pipe.isNone)).foldl
    (fun a x => match findPipe pix kbps pipes a x with
      | some p => putOn a x.id (some p)
      | none => a) l

/-- Whether the sessions of one pipe all fit on the others without parking any (R221): placed there in rank order. -/
def moveAll (pix kbps : Nat) (pipes : List Nat) (ids : List Nat) (l : List Slotted) : Option (List Slotted) :=
  let start := l.map fun x => if ids.contains x.id then { x with pipe := none } else x
  (byRank (l.filter fun x => ids.contains x.id)).foldl (fun a x => a.bind fun m =>
    (findPipe pix kbps pipes m x).map fun p => putOn m x.id (some p)) (some start)

end Sys2Proof.Machine
end

