-- ==== Sys2Proof/Machine/Ports.lean ====
section
/-! DEFINITION. The packet ports' transmit side, priority flow control and FLOW_HOLD (R251, R265 to R268), and the state of an
ingest queue that a session's drain touches (R260, R264). -/

namespace Sys2Proof.Machine

open Sys2Proof

def State.portSt (s : State) (p : Nat) : PortSt := sparseGet {} s.ports p
def State.setPort (s : State) (p : Nat) (x : PortSt) : State := { s with ports := sparsePut {} s.ports p x }
def State.queue (s : State) (n : Nat) : QueueSt := sparseGet {} s.queues n
def State.setQueue (s : State) (n : Nat) (q : QueueSt) : State := { s with queues := sparsePut {} s.queues n q }

/-- A port's link is up. -/
def State.linkUp (s : State) (p : Nat) : Bool := s.isSet (Reg.PKT_PORT_STAT_LINK p)

/-! ### Frames sent -/

/-- The port's MAC address, first byte first. -/
def State.portMac (s : State) (p : Nat) : List Byte :=
  beBytes 6 (s.rd (Reg.PKT_PORT_MAC_LO p) + 2 ^ 32 * s.fld (Reg.PKT_PORT_MAC_HI_MAC p))

/-- The frame check sequence of Ethernet over a frame's bytes. -/
def ethCrc (l : List Byte) : List Byte := leBytes 4 (crc32 l)

/-- A frame padded to 60 bytes with its FCS. -/
def ethSeal (l : List Byte) : List Byte :=
  let f := l ++ zeros (60 - l.length)
  f ++ ethCrc f

/-- A frame leaves port `p`. -/
def State.sendFrame (s : State) (p : Nat) (f : List Byte) : State :=
  (s.bumpWrap (Reg.PKT_PORT_CNT_TX_FRAMES p)).emit (.frame p f)

/-- A frame of the transmit buffer leaves; a packet of an encode session is counted (R272). -/
def State.sendTx (s : State) (p : Nat) (f : TxFrame) : State :=
  let t := s.sendFrame p f.bytes
  match f.session with
  | some n => t.bumpWrap (Reg.PKT_TX_CNT_PKTS n)
  | none => t

/-- Classes paused by the switch now. -/
def State.pausedClasses (s : State) (p : Nat) : List Nat :=
  ((s.portSt p).pausedTill.filter fun x => s.tick < x.2).map Prod.fst

/-- The bytes waiting in a port's transmit buffer. -/
def State.txFill (s : State) (p : Nat) : Nat := (s.portSt p).txq.foldl (fun a f => a + f.bytes.length) 0

/-- Frames of a port's transmit buffer whose class is not paused leave, in order (R267, R268). -/
def State.drainTx (s : State) (p : Nat) : State :=
  if !s.linkUp p then s
  else
    let x := s.portSt p
    let held (f : TxFrame) : Bool := (s.pausedClasses p).contains f.pcp
    (x.txq.filter fun f => !held f).foldl (fun t f => t.sendTx p f) (s.setPort p { x with txq := x.txq.filter held })

/-- Frames of encode sessions discarded before they left, in PKT_TX_CNT_LOSS. DEDUCED, safe (log 157). -/
def State.lostFrames (s : State) (l : List TxFrame) : State :=
  l.foldl (fun t f => match f.session with
    | some n => t.bump (Reg.PKT_TX_CNT_LOSS n)
    | none => t) s

/-- PKT_TX_LOSS (R274) with the loss counted and the status bit set. -/
def State.txLoss (s : State) (p session count : Nat) (owner : Nat) : State :=
  if count == 0 then s
  else
    let t := s.bump (Reg.PKT_PORT_CNT_TX_LOSS p) count
    if s.isSet (Reg.PKT_PORT_STAT_TX_LOSS p) then t
    else (t.raise (Reg.PKT_PORT_STAT_TX_LOSS p)).notice 0x0805 p [0, owner] (pack [(1, p), (1, session), (2, 0), (4, count)])

/-! ### Priority flow control (R265) -/

/-- A PFC frame of port `p` for class `c` with `quanta` of pause. -/
def State.pfcFrame (s : State) (p c quanta : Nat) : List Byte :=
  ethSeal (beBytes 6 0x0180C2000001 ++ s.portMac p ++ beBytes 2 0x8808 ++ beBytes 2 0x0101 ++ beBytes 2 (2 ^ c) ++
    ((List.range 8).flatMap fun i => beBytes 2 (if i == c then quanta else 0)))

/-- A PFC frame sent while the link is up, with the tick noted for the renewal. -/
def State.sendPfc (s : State) (p c quanta : Nat) : State :=
  if !s.linkUp p then s
  else
    let t := (s.bump (Reg.PKT_PORT_CNT_PFC_TX p)).emit (.frame p (s.pfcFrame p c quanta))
    let x := t.portSt p
    t.setPort p { x with pfcAt := if quanta == 0 then sparseDel x.pfcAt c else sparseIns x.pfcAt c t.tick }

/-- The classes that a HELD queue with PFC_EN pauses on port `p`. -/
def State.wantedPfc (s : State) (p : Nat) : Nat :=
  maskOf ((allQueues.filter fun n => s.heldOn p n && s.isSet (Reg.PKT_Q_CTRL_PFC_EN n)).map fun n => s.fld (Reg.PKT_Q_CTRL_PCP n))

/-- FLOW_HOLD[p] (R266): high with a HELD queue of HOLD_PIN or the receive buffer past 75 %, low when neither holds and the
buffer is below 50 %; low until the link first came up. -/
def State.wantedHold (s : State) (p : Nat) : Bool :=
  let level := s.fld (Reg.PKT_PORT_RXBUF_LEVEL p)
  (s.portSt p).everUp && (s.queueHolds p || 3072 < level || (s.isSet (Reg.PKT_PORT_STAT_HOLD_PIN p) && 2048 ≤ level))

/-- PFC and FLOW_HOLD of port `p` follow the queues. -/
def State.settlePort (s : State) (p : Nat) : State :=
  let want := s.wantedPfc p
  let have_ := s.fld (Reg.PKT_PORT_STAT_PFC_TX p)
  let s1 := if s.linkUp p then
      let on := (bitList 8 want).filter fun c => !bitAt have_ c
      let off := (bitList 8 have_).filter fun c => !bitAt want c
      (off.foldl (fun t c => t.sendPfc p c 0) (on.foldl (fun t c => t.sendPfc p c 0xFFFF) s)).setFld (Reg.PKT_PORT_STAT_PFC_TX p) want
    else s.setFld (Reg.PKT_PORT_STAT_PFC_TX p) 0
  s1.setFld (Reg.PKT_PORT_STAT_HOLD_PIN p) (ofBool (s1.wantedHold p))

/-- PFC and FLOW_HOLD of both ports follow the queues. -/
def State.settlePorts (s : State) : State := (s.settlePort 0).settlePort 1

/-! ### Queue pointers (R260, R264) -/

/-- The ring's size in bytes. -/
def State.qSize (s : State) (n : Nat) : Nat := 2 ^ s.fld (Reg.PKT_Q_CTRL_LOG2_SIZE n)

/-- The valid marks of a queue. -/
def State.qMarks (s : State) (n : Nat) : List Nat := bitList 4 (s.fld (Reg.PKT_Q_CTRL_MARK_VALID n))

/-- The fill. -/
def State.qFill (s : State) (n : Nat) : Nat := wrapSub 32 (s.rd (Reg.PKT_Q_WR n)) (s.rd (Reg.PKT_Q_TAIL n))

/-- The owner partition of a decode session. -/
def State.decOwner (s : State) (n : Nat) : Nat := s.fld (Reg.DEC_SES_CTRL_PARTITION n)

/-- HELD set or cleared, with its counter, its notice and what the ports make of it. -/
def State.setHeld (s : State) (n : Nat) (v : Bool) : State :=
  if s.isSet (Reg.PKT_Q_CTRL_HELD n) == v then s
  else
    let s1 := s.setFld (Reg.PKT_Q_CTRL_HELD n) (ofBool v)
    let s2 := if v then s1.bump (Reg.PKT_Q_CNT_HOLD n) else s1
    (s2.notice 0x0803 n [0, s.decOwner n] (pack [(2, n), (1, ofBool v), (1, 0), (4, s.qFill n)])).settlePorts

/-- TAIL recomputed as the oldest valid mark, or RD; HELD falls at LOW when TAIL advances. -/
def State.qRetail (s : State) (n : Nat) : State :=
  let wr := s.rd (Reg.PKT_Q_WR n)
  let far := fun c => wrapSub 32 wr c
  let tail := ((s.qMarks n).map fun m => s.rd (Reg.PKT_Q_MARK n m)).foldl (fun a c => if far a < far c then c else a)
    (s.rd (Reg.PKT_Q_RD n))
  let s1 := s.wr (Reg.PKT_Q_TAIL n) tail
  let s2 := s1.wr (Reg.PKT_Q_FILL n) (s1.qFill n)
  if tail != s.rd (Reg.PKT_Q_TAIL n) && s2.qFill n * 1024 ≤ s2.fld (Reg.PKT_Q_WMARK_LOW n) * s2.qSize n then s2.setHeld n false else s2

/-- A session's queue closed: its marks released, its filter gone, its block as at reset but for counters (R220 step 4). DEDUCED, unsafe (log 70). -/
def State.closeQueue (s : State) (n : Nat) : State :=
  let s1 := (s.setHeld n false).setQueue n {}
  let s2 := (s.queue n).waits.foldl (fun t w => t.answer (some w.waiter) stTimeout []) s1
  (List.range 9).foldl (fun t i => t.wr (Reg.PKT_Q_CTRL n + 4 * i) (resetWord (Reg.PKT_Q_CTRL n + 4 * i)))
    (s2.wr (Reg.PKT_Q_FILL n) 0)

/-- A queue opened for a session (R259, R264). -/
def State.openQueue (s : State) (n base log2 : Nat) : State :=
  (((List.range 9).foldl (fun t i => t.wr (Reg.PKT_Q_CTRL n + 4 * i) (resetWord (Reg.PKT_Q_CTRL n + 4 * i))) s).wr (Reg.PKT_Q_CTRL n)
    (2 ^ 31 + log2)).setQueue n { base := base }

end Sys2Proof.Machine
end

