-- ==== Sys2Proof/Machine/DecPool.lean ====
section
/-! DEFINITION. The decode pool (spec/07_decode_pool.md): placement, pictures in flight, concealment, clean maps, confirmation,
drain. What the codec standards make of a stream is an operand of the commands; Machine/DecCmds.lean holds those. -/

namespace Sys2Proof.Machine

open Sys2Proof

def State.dec (s : State) (n : Nat) : DecSes := sparseGet {} s.decs n
def State.setDec (s : State) (n : Nat) (d : DecSes) : State := { s with decs := sparsePut {} s.decs n d }
def State.decPipe (s : State) (p : Nat) : PipeSt := sparseGet {} s.decPipes p
def State.setDecPipe (s : State) (p : Nat) (x : PipeSt) : State := { s with decPipes := sparsePut {} s.decPipes p x }

/-! ### Session states (R197) -/

def dsClosed : Nat := 0
def dsWaitParams : Nat := 1
def dsRunning : Nat := 2
def dsDraining : Nat := 3
def dsResetting : Nat := 4

def State.decState (s : State) (n : Nat) : Nat := s.fld (Reg.DEC_SES_CTRL_STATE n)

/-- DEC_SESSION_STATE (R225). -/
def State.decStateNotice (s : State) (n st : Nat) (wasReset : Bool) : State :=
  s.notice 0x0601 n [0, s.decOwner n] (pack [(2, n), (1, st), (1, ofBool wasReset)])

/-- A session enters a state; RUNNING raises a notice. -/
def State.setDecState (s : State) (n st : Nat) : State :=
  let t := (s.setFld (Reg.DEC_SES_CTRL_STATE n) st).setFld (Reg.DEC_SES_CTRL_OPEN n) (ofBool (st != dsClosed))
  if st == dsRunning && s.decState n != dsRunning then t.decStateNotice n dsRunning false else t

/-- The open sessions. -/
def State.openDecs (s : State) : List Nat := (List.range 128).filter fun n => s.isSet (Reg.DEC_SES_CTRL_OPEN n)

/-! ### Marks of access units (R219, R261) -/

/-- MARK_VALID of mark `m`. -/
def State.setMarkValid (s : State) (n m : Nat) (v : Bool) : State :=
  s.setFld (Reg.PKT_Q_CTRL_MARK_VALID n) (withBits (s.fld (Reg.PKT_Q_CTRL_MARK_VALID n)) m m (ofBool v))

/-- A picture that no longer has mark `m`. DEDUCED, unsafe (log 200). -/
def DecPic.unmark (p : DecPic) (m : Nat) : DecPic := if p.mark == some m then { p with mark := none } else p

/-- No access unit of a session has mark `m` any longer. -/
def DecSes.unmark (d : DecSes) (m : Nat) : DecSes :=
  { d with cur := d.cur.map fun p => p.unmark m, out := d.out.map fun p => p.unmark m, ahead := if d.ahead == some m then none else d.ahead }

/-- Release: the mark slot is free and TAIL is recomputed. -/
def State.qRelease (s : State) (n m : Nat) : State :=
  if !s.isSet (Reg.PKT_Q_CTRL_OPEN n) then s
  else ((s.setDec n ((s.dec n).unmark m)).setMarkValid n m false).qRetail n

/-- The mark of a picture's access unit released. -/
def State.releasePic (s : State) (n : Nat) (p : DecPic) : State :=
  match p.mark with
  | some m => s.qRelease n m
  | none => s

/-- The mark of the picture in flight released. -/
def State.releaseCur (s : State) (n : Nat) : State :=
  match (s.dec n).cur with
  | some p => s.releasePic n p
  | none => s

/-! ### Placement (R195, R425, R426) -/

/-- The pipes in service. -/
def State.decPipesUp (s : State) : List Nat := (List.range 8).filter fun p => s.isSet (Reg.DEC_PIPE_STAT_EN p)

/-- A session as placement sees it, on the pipe it is to move to if it waits for its picture boundary; its allotment is in mHz pixels over 1000. -/
def State.decSlotted (s : State) (n : Nat) : Slotted :=
  let d := s.dec n
  { id := n, key := s.sourceKey 1 n, num := d.w * d.h * d.rateMhz, den := 1000, kbps := d.kbps,
    pipe := if d.parked then none else some (d.moveTo.getD (s.fld (Reg.DEC_SES_CTRL_PIPE n))) }

def State.decTable (s : State) : List Slotted := s.openDecs.map s.decSlotted

/-- A pipe takes at most 10^9 pixels/s and 1,000 Mbit/s (R195). -/
def decPix : Nat := 1000000000
def decKbps : Nat := 1000000

/-- The pipes' SESSIONS and ALLOT fields, and DEC_STATUS, follow the table. -/
def State.decFigures (s : State) : State :=
  let l := s.decTable
  let s1 := (List.range 8).foldl (fun t p =>
    let on := l.filter fun x => x.pipe == some p
    let a := allotSum on
    ((t.setFld (Reg.DEC_PIPE_STAT_SESSIONS p) on.length).setFld (Reg.DEC_PIPE_ALLOT_MBPS p)
      (ceilDiv (on.foldl (fun n x => n + x.kbps) 0) 1000)).setFld (Reg.DEC_PIPE_ALLOT_MPIX p) (ceilDiv a.1 (a.2 * 1000000))) s
  (s1.setFld Reg.DEC_STATUS_OPEN l.length).setFld Reg.DEC_STATUS_PIPE_EN (maskOf s.decPipesUp)

/-- POL_PARK (R433): KIND 0 decode, 1 encode; parked, or resumed on a pipe. -/
def State.parkNotice (s : State) (kind id pipe : Nat) (parked : Bool) : State :=
  s.notice 0x0D02 (kind * 256 + id) [0xFFFF] (pack [(2, id), (1, kind), (1, ofBool parked), (1, if parked then 0xFF else pipe), (3, 0)])

/-- A session onto pipe `p` (R195): at once between pictures, and at the next picture boundary while one is in flight on a pipe that still decodes it.
DEDUCED, unsafe (log 202). -/
def State.moveDec (s : State) (n p : Nat) : State :=
  let d := s.dec n
  let at_ := s.fld (Reg.DEC_SES_CTRL_PIPE n)
  if d.cur.isSome && at_ != p && (s.isSet (Reg.DEC_PIPE_STAT_EN at_) || d.pipeDrain) then s.setDec n { d with moveTo := some p }
  else (s.setFld (Reg.DEC_SES_CTRL_PIPE n) p).setDec n { d with moveTo := none }

/-- A decided placement applied (R425): sessions moved, parked or resumed. A resumed session's references are lost (R426). -/
def State.applyDecPlaces (s : State) (l : List Slotted) : State :=
  let s1 := l.foldl (fun t x =>
    let d := t.dec x.id
    match x.pipe with
    | none => if d.parked then t
      else ((t.releaseCur x.id).setDec x.id { (t.releaseCur x.id).dec x.id with parked := true, cur := none, moveTo := none }).parkNotice 0 x.id 0xFF true
    | some p =>
      if d.parked then ((t.setFld (Reg.DEC_SES_CTRL_PIPE x.id) p).setDec x.id
        { d with parked := false, cur := none, refs := [], kept := [], prev := none }).parkNotice 0 x.id p false
      else t.moveDec x.id p) s
  s1.decFigures

/-- A decision as it travels: KIND 0 a rung released, 1 applied, 2 a decode session parked, 3 an encode session parked, 4 a
decode pipe removed, 5 an encode pipe removed, 6 decode sessions placed, 7 encode sessions placed; the rung, session or pipe; the moves of rung 1, or
the placement, as (session, pipe), with 0xFFFF for a parked session. DESIGN CHOICE, unsafe (log 130). -/
def decisionMsg (kind n : Nat) (moves : List (Nat × Nat)) : List Byte :=
  pack [(2, 0x0DFF), (2, 0), (2, 22 + 4 * moves.length), (10, 0), (2, kind), (2, n), (2, moves.length)] ++
    moves.flatMap fun p => pack [(2, p.1), (2, p.2)]

/-- The device that decides sends its decision on. DESIGN CHOICE, unsafe (log 130). -/
def State.sendDecision (s : State) (kind n : Nat) (moves : List (Nat × Nat)) : State :=
  if s.role == 1 then s.forwardLcs (decisionMsg kind n moves) stOk [] else s

/-- A placement as a decision carries it. -/
def placementMoves (l : List Slotted) : List (Nat × Nat) := l.map fun x => (x.id, x.pipe.getD 0xFFFF)

/-- Whether Lysman firmware decides rungs, parking and fault responses here and now (R430, R431). -/
def State.decides (s : State) : Bool := s.isSet Reg.MBX_STATUS_READY && s.drives

/-- A placement of decode sessions decided, applied and sent on (R425, R430). -/
def State.decideDecs (s : State) (l : List Slotted) : State := (s.applyDecPlaces l).sendDecision 6 0 (placementMoves l)

/-- Capacity returned: parked sessions resume in rank order (R426), by the device that decides, once Lysman firmware is ready (R222, R430). -/
def State.resumeDecs (s : State) : State :=
  let l := resumeParked decPix decKbps s.decPipesUp s.decTable
  if !s.decides || l == s.decTable then s else s.decideDecs l

/-! ### Profiles (R191, R192) -/

/-- The bit depths and chroma formats (0 4:0:0, 1 4:2:0, 2 4:2:2) of a PROFILE. -/
def profileTakes (profile depth chroma : Nat) : Bool :=
  match profile with
  | 0 => depth == 8 && chroma == 1
  | 1 => (depth == 8 || depth == 10) && chroma == 1
  | 2 => within 8 10 depth && chroma ≤ 2
  | 3 => depth == 8 && chroma == 1
  | _ => depth == 8 && chroma ≤ 1

/-! ### Slots and planes (R193, R198) -/

/-- The slots of a session (R198). -/
def DecSes.slotCount (d : DecSes) : Nat := d.dpbMax + d.maxViews + 2

/-- Strides and plane offsets of a picture: plane 1's offset in the slot, stride 0, stride 1. -/
def planes (fmt w h : Nat) : Nat × Nat × Nat :=
  let s0 := alignUp (rowBytes fmt w) 64
  (alignUp (s0 * h) 4096, s0, if twoPlanes fmt then s0 else 0)

/-- The bytes of one slot for a picture of a format and size. -/
def slotBytes (fmt w h : Nat) : Nat :=
  let (p1, _, s1) := planes fmt w h
  p1 + alignUp (s1 * ceilDiv h 2) 4096

/-- The bytes of one slot of a session: the largest of the formats its profile can bring (R193, R567). -/
def decSlotBytes (profile w h : Nat) : Nat :=
  let base := max (slotBytes 3 w h) (if profile == 1 || profile == 2 then slotBytes 4 w h else 0)
  if profile == 2 then max base (slotBytes 5 w h) else base

/-- The format R567 counts for a session. -/
def decFormat (profile : Nat) : Nat := if profile == 1 || profile == 2 then 4 else 3

/-- R193: the stored format of a picture of a bit depth and chroma format (0 4:0:0, 1 4:2:0, 2 4:2:2). -/
def storedFormat (depth chroma : Nat) : Nat := if chroma == 2 then 5 else if depth ≤ 8 then 3 else 4

/-- R193: MATRIX of matrix_coefficients; none where the VUI is absent. -/
def matrixFor (coeff : Option Nat) (h : Nat) : Nat :=
  match coeff with
  | some 1 => 1
  | some 5 => 0
  | some 6 => 0
  | some 9 => 2
  | _ => if 720 ≤ h then 1 else 0

/-- The address of slot `i` of a session. -/
def State.slotBase (s : State) (n i : Nat) : Nat := (s.dec n).picBase + i * (s.pool 1 n).slotSize

/-- The picture in a slot, as Canopy scans it. -/
def State.scanPic (s : State) (n : Nat) (p : DecPic) (gen stamp tag : Nat) : Pic :=
  let (o1, s0, s1) := planes p.fmt p.w p.h
  let b := s.slotBase n p.slot
  { fmt := p.fmt, w := p.w, h := p.h, p0 := b, p1 := if s1 == 0 then 0 else b + o1, s0 := s0, s1 := s1, gen := gen,
    stamp := stamp, matrix := p.matrix, full := p.full, tag := tag, slot := p.slot }

/-! ### A pipe's accesses -/

/-- Before its first access for a session after a switch, a pipe loads PICTURES, META and QUEUE (R199, R443). -/
def State.loadDecPipe (s : State) (n : Nat) : State :=
  let p := s.fld (Reg.DEC_SES_CTRL_PIPE n)
  let x := s.decPipe p
  if x.loaded == some n then s
  else
    let d := s.dec n
    (s.loadRegions (fbkDec p) [(d.picBase, regionCfg true true d.picLog), (d.metaBase, regionCfg true true d.metaLog),
      (d.queueBase, regionCfg true false d.queueLog)]).setDecPipe p { x with loaded := some n }

/-- What a run of writes by a pipe came to: allowed so far, a violation that is LASTING. -/
structure WriteRun where
  ok : Bool := true
  lasting : Bool := false
  deriving DecidableEq, Repr, Inhabited

/-- Bytes written by unit `u` from address `a`; after a violation the pipe writes no more. -/
def State.unitWrite (s : State) (u a : Nat) (b : List Byte) (run : WriteRun) : WriteRun × State :=
  if !run.ok then (run, s)
  else
    let (ok, l, t) := s.unitStore u a b
    ({ ok := ok, lasting := run.lasting || l }, t)

/-! ### Concealment (R213) -/

/-- Units across and down. -/
def DecPic.cols (p : DecPic) : Nat := ceilDiv p.w p.unit
def DecPic.rows (p : DecPic) : Nat := ceilDiv p.h p.unit

/-- The mid-grey sample of a stored format (R213, R217). DESIGN CHOICE, unsafe (log 66). -/
def greyOf (fmt : Nat) : Nat := if fmt == 3 then 128 else 512

/-- A decoded sample as its format stores it: 10 bits in formats 4 and 5, so that 8-bit samples are shifted left by 2 (R193). -/
def DecPic.stored (p : DecPic) (v : Nat) : Nat := if p.fmt == 3 then v else v * 2 ^ (10 - p.depth)

/-- The offset in a slot of row `row` of a plane. -/
def DecPic.rowAt (p : DecPic) (plane row : Nat) : Nat :=
  let (o1, s0, s1) := planes p.fmt p.w p.h
  if plane == 0 then row * s0 else o1 + row * s1

/-- The bytes of `n` samples from `col` of a row, as an offset in the row and a count; format 5 holds three in a word (R131). -/
def sampleBytes (fmt col n : Nat) : Nat × Nat :=
  if fmt == 3 then (col, n) else if fmt == 4 then (2 * col, 2 * n) else (4 * (col / 3), 4 * (ceilDiv (col + n) 3 - col / 3))

/-- `n` samples of a row from sample `col` on, from the bytes that hold them. -/
def samplesIn (fmt col n : Nat) (b : List Byte) : List Nat :=
  (List.range n).map fun i =>
    if fmt == 3 then fieldAt b i 1
    else if fmt == 4 then fieldAt b (2 * i) 2 / 64
    else fieldAt b (4 * ((col + i) / 3 - col / 3)) 4 / 2 ^ (10 * ((col + i) % 3)) % 1024

/-- The bytes of samples put into a row from sample `col` on; `old` are the bytes there, of which format 5 keeps the words' other samples. -/
def samplesPut (fmt col : Nat) (vals : List Nat) (old : List Byte) : List Byte :=
  if fmt == 3 then vals.flatMap fun v => leBytes 1 v
  else if fmt == 4 then vals.flatMap fun v => leBytes 2 (v * 64)
  else
    let word (q : Nat) : Nat := (vals.mapIdx fun i v => (col + i, v)).foldl (fun w x =>
      if x.1 / 3 == col / 3 + q then withBits w (10 * (x.1 % 3) + 9) (10 * (x.1 % 3)) x.2 else w) (fieldAt old (4 * q) 4)
    (List.range (ceilDiv (col + vals.length) 3 - col / 3)).flatMap fun q => leBytes 4 (word q)

/-- Samples written by unit `u` into the slot at `b`. -/
def State.putRun (s : State) (u b : Nat) (p : DecPic) (r : DecRun) (run : WriteRun) : WriteRun × State :=
  let (o, n) := sampleBytes p.fmt r.col r.vals.length
  let a := b + p.rowAt r.plane r.row + o
  if p.fmt == 5 then
    let (old, ok, l, _, t) := s.unitLoad u a n
    t.unitWrite u a (samplesPut 5 r.col r.vals old) { ok := run.ok && ok, lasting := run.lasting || l }
  else s.unitWrite u a (samplesPut p.fmt r.col r.vals []) run

/-- Co-located samples of the slot at `from_` written by unit `u` into the slot at `b`; mid-grey where there is none (R213). -/
def State.copyRun (s : State) (u b : Nat) (from_ : Option Nat) (p : DecPic) (r : DecRun) (n : Nat) (run : WriteRun) : WriteRun × State :=
  match from_ with
  | none => s.putRun u b p { r with vals := List.replicate n (greyOf p.fmt) } run
  | some q =>
    let (o, k) := sampleBytes p.fmt r.col n
    let (old, ok, l, _, t) := s.unitLoad u (q + p.rowAt r.plane r.row + o) k
    t.putRun u b p { r with vals := samplesIn p.fmt r.col n old } { ok := run.ok && ok, lasting := run.lasting || l }

/-- The sample runs of unit `i` of a picture, each with its count. -/
def DecPic.unitRuns (p : DecPic) (i : Nat) : List (DecRun × Nat) :=
  let x := i % p.cols * p.unit
  let y := i / p.cols * p.unit
  let w := min p.unit (p.w - x)
  let h := min p.unit (p.h - y)
  if p.fmt == 5 then (List.range h).map fun j => ({ row := y + j, col := 2 * x }, 2 * w)
  else ((List.range h).map fun j => ({ row := y + j, col := x }, w)) ++
    ((List.range (ceilDiv h 2)).map fun j => ({ plane := 1, row := y / 2 + j, col := x }, 2 * ceilDiv w 2))

/-- The slot of the picture decoded immediately before, where it is of the same format and size. DESIGN CHOICE, unsafe (log 66). -/
def DecSes.before (d : DecSes) (p : DecPic) : Option Nat :=
  d.prev.filter fun q => (sparseFind d.kept q).any fun x => x.fmt == p.fmt && x.w == p.w && x.h == p.h

/-- Unit `i` concealed: the co-located samples of the picture decoded immediately before, or mid-grey. DESIGN CHOICE, unsafe (log 66). -/
def State.concealUnit (s : State) (n : Nat) (p : DecPic) (i : Nat) (run : WriteRun) : WriteRun × State :=
  let u := fbkDec (s.fld (Reg.DEC_SES_CTRL_PIPE n))
  let b := s.slotBase n p.slot
  let from_ := ((s.dec n).before p).map fun q => s.slotBase n q
  (p.unitRuns i).foldl (fun a x => a.2.copyRun u b from_ p x.1 x.2 a.1) (run, s)

/-! ### Errors (R212, R225) -/

def deSyntax : Nat := 0
def deDataLost : Nat := 1
def deRefMissing : Nat := 2
def deRowOverrun : Nat := 3
def dePoison : Nat := 4
def deUnsupported : Nat := 5
def dePipeFault : Nat := 6

/-- The DEC_SES_STAT field of an error class; PIPE_FAULT has none. -/
def decErrFld (n cls : Nat) : Option Fld :=
  [Reg.DEC_SES_STAT_SYNTAX n, Reg.DEC_SES_STAT_DATA_LOST n, Reg.DEC_SES_STAT_REF_MISSING n, Reg.DEC_SES_STAT_ROW_OVERRUN n,
   Reg.DEC_SES_STAT_POISON n, Reg.DEC_SES_STAT_UNSUPPORTED n][cls]?

/-- An error event of a session: counted, its bit set, DEC_ERROR raised when the bit becomes set. -/
def State.decError (s : State) (n cls conceal : Nat) : State :=
  let t := s.bump (Reg.DEC_SES_CNT_ERR n)
  match decErrFld n cls with
  | none => t
  | some f =>
    if s.isSet f then t.raise f
    else (t.raise f).notice 0x0602 n [0, s.decOwner n] (pack [(2, n), (1, cls), (1, t.fld (Reg.DEC_SES_CTRL_FALLBACK n)),
      (4, t.rd (Reg.DEC_SES_PICS n)), (4, conceal)])

/-- The sessions placed on pipe `p`. -/
def State.decsOn (s : State) (p : Nat) : List Nat := (s.decTable.filter fun x => x.pipe == some p).map fun x => x.id

/-- DEC_PIPE_FAULT (R225), to partition 0 and to the owners of the sessions `ids` of the pipe: CAUSE 0 Firebreak, 1 queue reset, 2 removal. DEDUCED, unsafe (log 67). -/
def State.decPipeNotice (s : State) (p cause cls moved : Nat) (ids : List Nat) : State :=
  s.notice 0x0605 p (0 :: ids.map fun n => s.decOwner n).dedup (pack [(1, p), (1, cause), (1, cls), (1, moved)])

/-! ### The picture in flight -/

/-- The clean map after in-loop filtering (R215): a unit stays clean while the neighbours its filters read are. -/
def finalMap (pre : List Bool) (filters : List (List Nat)) : List Bool :=
  (pre.zip filters).map fun x => x.1 && x.2.all fun i => pre.getD i false

/-- At a picture boundary a session moves to the pipe that a placement gave it (R195), once Lysman firmware is ready (R222). -/
def State.atBoundary (s : State) (n : Nat) : State :=
  let d := s.dec n
  match d.moveTo with
  | some p => if s.isSet Reg.MBX_STATUS_READY && d.cur.isNone && !d.pipeDrain then
      (s.setFld (Reg.DEC_SES_CTRL_PIPE n) p).setDec n { d with moveTo := none } else s
  | none => s

/-- The picture in flight ends: its clean map is final, all unclean where its row-age map is bad (R207), it waits to be output, and it is the
picture decoded last. The mark of one that is never output is released. DEDUCED, unsafe (log 200). -/
def State.endPicture (s : State) (n : Nat) : State :=
  let d := s.dec n
  match d.cur with
  | none => s
  | some p =>
    let q := { p with map := (finalMap p.pre p.filters).map fun b => b && !p.badMap }
    let t := s.setDec n { d with
      cur := none
      marker := false
      out := if q.output then d.out ++ [q] else d.out
      kept := if p.unsupported then d.kept else sparseIns d.kept p.slot q
      prev := if p.unsupported then d.prev else some p.slot }
    (if q.output then t else t.releasePic n q).atBoundary n

/-- The units not yet decoded are concealed and the picture ends (R211, R219, R212); `cls` is the class counted, and a violation of the concealment's own
writes counts PIPE_FAULT as well. The answer says what became of the writes. -/
def State.concealLeft (s : State) (n cls : Nat) (broken : Bool) : WriteRun × State :=
  let d := s.dec n
  match d.cur with
  | none => ({}, s)
  | some p =>
    let total := p.cols * p.rows
    let first := p.pre.length
    let left := total - first
    let (run, s1) := if p.unsupported then (({} : WriteRun), s)
      else (List.range left).foldl (fun a i => a.2.concealUnit n p (first + i) a.1) (({} : WriteRun), s)
    let fault := !run.ok && cls != dePipeFault
    let q := { p with pre := p.pre ++ List.replicate left false, filters := p.filters ++ List.replicate left [],
                      conceal := p.conceal + left, broken := p.broken || broken || fault }
    let s2 := ((s1.setDec n { s1.dec n with cur := some q }).bump (Reg.DEC_SES_CNT_CONCEAL n) left).decError n cls left
    (run, (if fault then s2.decError n dePipeFault 0 else s2).endPicture n)

/-- Every picture in flight on pipe `p`: each session with one. -/
def State.inFlight (s : State) (p : Nat) : List Nat :=
  s.openDecs.filter fun n => s.fld (Reg.DEC_SES_CTRL_PIPE n) == p && (s.dec n).cur.isSome && !(s.dec n).parked

/-- An immediate trigger of pressure kind `b` (R421), evaluated when the window ends. DEDUCED, unsafe (log 129). -/
def State.firePressure (s : State) (b : Nat) : State :=
  if bitAt s.pol.fired b then s else { s with pol := { s.pol with fired := s.pol.fired + 2 ^ b } }

/-- A placement carried by a decision, over this device's sessions. -/
def placedBy (moves : List (Nat × Nat)) (l : List Slotted) : List Slotted :=
  l.map fun x => match moves.find? fun m => m.1 == x.id with
    | some m => { x with pipe := if m.2 == 0xFFFF then none else some m.2 }
    | none => x

/-- Every picture in flight on a pipe that is removed ends, concealed from the current row, its cells RECOVER (R25, kind 0x08). -/
def State.dropInFlight (s : State) (p : Nat) : State :=
  (s.inFlight p).foldl (fun t n =>
    let (run, u) := t.concealLeft n dePipeFault true
    if run.ok then u else u.bump (Reg.DEC_PIPE_CNT_FBK p)) s

/-- A pipe taken out of service for good by a LASTING fault: its sessions are placed again (R25, R425) by the
device that decides (R430), once Lysman firmware is ready (R222). DEDUCED, unsafe (log 67, 166). -/
def State.removeDecPipe (s : State) (p cause : Nat) : State :=
  let s1 := (((s.firePressure 6).dropInFlight p).setFld (Reg.DEC_PIPE_STAT_EN p) 0).setFld (Reg.DEC_PIPE_STAT_FAULTED p) 1
  let ids := s1.decsOn p
  let l := replace decPix decKbps s1.decPipesUp ids s1.decTable
  let moved := (l.filter fun x => ids.contains x.id && x.pipe.isSome).length
  if !s.decides then s1.decFigures.decPipeNotice p cause 2 0 ids
  else ((s1.applyDecPlaces l).sendDecision 4 p (placementMoves l)).decPipeNotice p cause 2 moved ids

/-- What the accesses of pipe `p` came to: a violation is counted and raised, and a LASTING one removes the pipe (R212). -/
def State.decViolation (s : State) (p : Nat) (run : WriteRun) : State :=
  if run.ok then s
  else
    let t := s.bump (Reg.DEC_PIPE_CNT_FBK p)
    if run.lasting then t.removeDecPipe p 2 else t.decPipeNotice p 0 1 0 (t.decsOn p)

/-- The picture in flight ends with the units not yet decoded concealed. -/
def State.concealRest (s : State) (n cls : Nat) (broken : Bool) : State :=
  let (run, t) := s.concealLeft n cls broken
  t.decViolation (s.fld (Reg.DEC_SES_CTRL_PIPE n)) run

/-- Every picture in flight on pipe `p` abandoned (R25, kind 0x08): concealed from the current row, cells RECOVER. -/
def State.abandonDec (s : State) (p : Nat) : State := (s.inFlight p).foldl (fun t n => t.concealRest n dePipeFault true) s

/-- What a run of a pipe's accesses leaves: on a violation the picture is abandoned from the current row (R212). -/
def State.decAfter (s : State) (n : Nat) (run : WriteRun) : State :=
  if run.ok then s
  else
    let (more, t) := s.concealLeft n dePipeFault true
    let p := s.fld (Reg.DEC_SES_CTRL_PIPE n)
    (if more.ok then t else t.bump (Reg.DEC_PIPE_CNT_FBK p)).decViolation p { ok := false, lasting := run.lasting || more.lasting }

/-- MARK_LOST of mark `m`, or of the access unit that begins (R219): a picture in flight ends as DATA_LOST from the current row, and items are skipped
up to the next access unit (R261), of which only one that has arrived whole is begun. A picture that has been decoded whole only loses its mark. DEDUCED, unsafe (log 200). -/
def State.decMarkLost (s : State) (n : Nat) (m : Option Nat) : State :=
  let d := s.dec n
  let s1 := s.raise (Reg.DEC_SES_STAT_MARK_LOST n)
  if m.any fun k => d.ahead == some k || d.out.any fun p => p.mark == some k then
    match m with
    | some k => s1.setDec n { d with out := d.out.map fun p => p.unmark k }
    | none => s1
  else
    let t := s1.concealRest n deDataLost false
    t.setDec n { t.dec n with skipping := true, wantWhole := true }

/-! ### Capture time (R204 to R206) -/

/-- R204: an RTP timestamp unwrapped against the last one. -/
def unwrapRtp (last : Option Nat) (rtp : Nat) : Nat :=
  match last with
  | none => rtp % 2 ^ 32
  | some l =>
    let d := wrapSub 32 rtp (l % 2 ^ 32)
    if d < 2 ^ 31 then wrapAdd 64 l d else wrapSub 64 l (2 ^ 32 - d)

/-- R205: the capture PTP time an anchor gives, the difference of the 64-bit timestamps taken signed. -/
def Anchor.time (a : Anchor) (u : Nat) : Int := a.ptp + (toInt 64 (wrapSub 64 u a.rtp) * 10 ^ 9) / 90000

/-- R205: a new anchor; one of another epoch is discarded; a jump of more than 1 ms for the last picture is reported. -/
def State.setAnchor (s : State) (n : Nat) (a : Anchor) : State :=
  let d := s.dec n
  if a.epoch != s.epoch then s
  else
    let t := s.setDec n { d with anchor := some a }
    match d.anchor, d.uLast with
    | some o, some u =>
      let diff := a.time u - o.time u
      if 1000000 < diff.natAbs && o.epoch == s.epoch then
        (t.raise (Reg.DEC_SES_STAT_ANCHOR_JUMP n)).notice 0x0604 n [0, s.decOwner n]
          (pack [(2, n), (2, 0), (8, ofInt 64 diff)])
      else t
    | _, _ => t

/-- R205: the anchors of another time epoch are discarded. DEDUCED, unsafe (log 203). -/
def State.dropAnchors (s : State) : State :=
  s.openDecs.foldl (fun t n =>
    if (t.dec n).anchor.any fun a => a.epoch != t.epoch then t.setDec n { t.dec n with anchor := none } else t) s

/-- R205: a PTP time from an NTP time of a sender report. -/
def ntpToPtp (sec frac tai : Nat) : Int := ((sec : Int) - 2208988800 + tai) * 10 ^ 9 + (frac * 10 ^ 9 / 2 ^ 32 : Nat)

/-- R206: whether a picture's stamp is taken from its arrival. -/
def State.decFallback (s : State) (n : Nat) : Bool :=
  let d := s.dec n
  d.arrivalMode || !s.trusted || !(d.anchor.any fun a => a.epoch == s.epoch)

/-- The stamp of a picture in age units; none where its capture time is older than the age clock (R287). -/
def State.decStamp (s : State) (n : Nat) (p : DecPic) : Option Nat :=
  let d := s.dec n
  if s.decFallback n then some (wrapSub 40 p.arrival d.transit)
  else d.anchor.bind fun a => s.convPtp (a.time p.u)

/-! ### Completion (R200 to R203, R218) -/

/-- Whether every unit of row `r` of a picture is clean. -/
def DecPic.rowClean (p : DecPic) (r : Nat) : Bool := ((p.map.drop (r * p.cols)).take p.cols).all id && !p.broken

/-- The carried age of row `r` in age units (R207); 0 for a row that is not carried. -/
def DecPic.rowAge (p : DecPic) (r : Nat) : Nat := sparseGet 0 p.ages r

/-- A confirmation of an engine cell: ACTION 0 CONFIRM, 1 RECOVER, 2 VOID. -/
def State.confirmCell (s : State) (cell action : Nat) (t : Option Nat) (old : Int) : State :=
  match t with
  | some x => s.sendConfirm { cell := cell, action := action, timeKind := 0, time := ofInt 40 ((x : Int) - old) }
  | none => if action == 2 then s.sendConfirm { cell := cell, action := 2 }
    else (s.bump Reg.TIM_CNT_CONV_OLD).bump Reg.LDG_CNT_OLDER

/-- R202: the confirmations of a completed picture. Row cell r stands for row r of the picture's units. DEDUCED, unsafe (log 60). -/
def State.confirmPicture (s : State) (n : Nat) (p : DecPic) (stamp : Option Nat) : State :=
  let x := s.pool 1 n
  let rowSet := s.isSet (Reg.DEC_SES_CTRL_ROW_CELLS n)
  let allClean := p.map.all id && !p.broken
  let oldest := ((List.range p.rows).map p.rowAge).foldl max 0
  let rows := if rowSet then List.range x.rows else []
  if p.unsupported then
    rows.foldl (fun t r => t.confirmCell (x.rowCell + r) 2 none 0) (s.confirmCell x.cell 2 none 0)
  else
    let s1 := if rowSet then s.confirmCell x.cell (if p.broken then 1 else 0) stamp 0
      else s.confirmCell x.cell (if allClean then 0 else 1) stamp oldest
    (rows.filter fun r => r < p.rows).foldl (fun t r =>
      t.confirmCell (x.rowCell + r) (if p.rowClean r then 0 else 1) stamp (p.rowAge r)) s1

/-- R218: pictures counted since the first unclean one, and DEC_CLEAN when a wholly clean one follows. -/
def State.countClean (s : State) (n : Nat) (clean : Bool) : State :=
  let d := s.dec n
  match clean, d.unclean with
  | true, none => s
  | true, some k => (s.setDec n { d with unclean := none }).notice 0x0603 n [0, s.decOwner n] (pack [(2, n), (2, 0), (4, k)])
  | false, none => s.setDec n { d with unclean := some 1 }
  | false, some k => s.setDec n { d with unclean := some (k + 1) }

/-- A picture is complete: its cells confirmed, each confirmation that R55 stamps counted in LDG_CNT_FALLBACK, its mark released (R219), its registers, and it
becomes the newest picture of the session, whose rows are as high as its units (R203). -/
def State.completePicture (s : State) (n : Nat) (p : DecPic) : State :=
  let fb := s.decFallback n
  let stamp := s.decStamp n p
  let s0 := (s.setFld (Reg.DEC_SES_CTRL_FALLBACK n) (ofBool fb)).confirmPicture n p stamp
  let stamped := (s0.ldg.conf.drop s.ldg.conf.length).filter fun e => e.action != 2
  let s1 := (if fb && !s.trusted && !(s.dec n).arrivalMode then s0.bump Reg.LDG_CNT_FALLBACK stamped.length else s0).releasePic n p
  let bad := (p.map.filter fun b => !b).length
  let clean := bad == 0 && !p.unsupported && !p.broken
  let s2 := ((s1.bumpWrap (Reg.DEC_SES_PICS n)).setFld (Reg.DEC_SES_CTRL_RECOVERING n) (ofBool (!clean && !p.unsupported))).setFld
    (Reg.DEC_SES_CTRL_VOID n) (ofBool p.unsupported)
  let t := stamp.getD 0
  let s3 := ((s2.wr (Reg.DEC_SES_STAMP_LO n) (t % 2 ^ 32)).setFld (Reg.DEC_SES_STAMP_HI_T n) (t / 2 ^ 32)).setFld
    (Reg.DEC_SES_UNCLEAN_UNITS n) (min 65535 (if p.unsupported then p.cols * p.rows else bad))
  let s4 := s3.countClean n clean
  if p.unsupported then s4
  else
    let x := s4.pool 1 n
    let old := x.slot p.slot
    s4.setPool 1 n { x.setSlot p.slot { old with pic := s4.scanPic n p old.pic.gen t (s4.rd (Reg.DEC_SES_PICS n)) } with
      newest := some p.slot, rowH := p.unit }

/-! ### Drain (R220, R221) -/

/-- Steps 3 to 6 of a session's drain: its queue closed, its cells and memory freed, CLOSED, the response. -/
def State.finishDecClose (s : State) (n : Nat) : State :=
  let d := s.dec n
  let x := s.pool 1 n
  let pics := s.rd (Reg.DEC_SES_PICS n)
  let s1 := (List.range 8).foldl (fun t p => if (t.decPipe p).loaded == some n then t.setDecPipe p { t.decPipe p with loaded := none } else t) (s.closeQueue n)
  let count := s.fld (Reg.DEC_SES_ROWCELLS_COUNT n)
  let s2 := (s1.freeCells x.cell 1).freeCells x.rowCell count
  let s3 := (s2.giveMemory [d.picBase, d.metaBase, d.queueBase]).setPool 1 n {}
  let lent := ((List.range count).map fun r => x.rowCell + r).foldl (fun l c => sparseDel l c) (sparseDel s3.ldg.lent x.cell)
  let s4 := ({ s3 with ldg := { s3.ldg with lent := lent } }).setDec n {}
  let s5 := (s4.setDecState n dsClosed).decStateNotice n dsClosed d.wasReset
  let s6 := (List.range 3).foldl (fun t i => t.wr (Reg.DEC_SES_CTRL n + 4 * i) 0) s5
  (s6.decFigures.answer d.waiter stOk (pack [(4, ofBool d.wasReset), (4, pics)])).resumeDecs

/-- The pictures a session still owes are output in order; a parked one completes none (R425). -/
def State.flushOut (s : State) (n : Nat) : State :=
  let d := s.dec n
  (if d.parked then [] else d.out).foldl (fun t p => t.completePicture n p) (s.setDec n { d with out := [] })

/-- The drain of a session's picture in flight reached its timeout: the writes in flight are gone, the picture is concealed and
its cells confirm RECOVER with its stamp. The pictures decoded before wait on for their output where the session stays open. DEDUCED, unsafe (log 67). -/
def State.resetDec (s : State) (n : Nat) : State :=
  let p := s.fld (Reg.DEC_SES_CTRL_PIPE n)
  let s1 := (s.concealRest n dePipeFault true).bump (Reg.DEC_PIPE_CNT_RESET p)
  let d := s1.dec n
  let s2 := if d.pipeDrain then
      (d.out.filter fun q => q.broken).foldl (fun t q => t.completePicture n q) (s1.setDec n { d with out := d.out.filter fun q => !q.broken })
    else s1.flushOut n
  (s2.setDec n { s2.dec n with wasReset := true, drainAt := none, stuck := false }).raise (Reg.DEC_SES_STAT_DRAIN_RESET n)

/-- Whether pipe `p` still has a session draining its picture for DEC_PIPE_CTRL. -/
def State.pipeDraining (s : State) (p : Nat) : Bool :=
  s.openDecs.any fun n => s.fld (Reg.DEC_SES_CTRL_PIPE n) == p && (s.dec n).pipeDrain

/-- A pipe whose sessions have drained is empty: they move, by the device that decides, and the command is answered (R221, R430). The move waits for
Lysman firmware (R222). -/
def State.pipeMoved (s : State) (p : Nat) : State :=
  if !s.isSet (Reg.DEC_PIPE_STAT_DRAINING p) || s.pipeDraining p || !s.isSet Reg.MBX_STATUS_READY then s
  else
    let ids := s.decsOn p
    let l := (moveAll decPix decKbps s.decPipesUp ids s.decTable).getD (replace decPix decKbps s.decPipesUp ids s.decTable)
    let s1 := s.setFld (Reg.DEC_PIPE_STAT_DRAINING p) 0
    let t := if s.drives then s1.decideDecs l else s1
    (t.setDecPipe p {}).answer (s.decPipe p).waiter stOk []

end Sys2Proof.Machine
end

