-- ==== Sys2Proof/Machine/Queues.lean ====
section
/-! DEFINITION. Ingest queues (spec/09_packet_ports.md): items, the pipe's four operations, arrival into a full queue. -/

namespace Sys2Proof.Machine

open Sys2Proof

/-! ### Items (R259) -/

/-- The bytes an item of `n` payload bytes takes. -/
def itemSize (n : Nat) : Nat := alignUp (32 + n) 64

/-- An item's header and padded payload. DEDUCED, unsafe (log 70). -/
def itemBytes (flags pt seq ts ssrc arrival item : Nat) (payload : List Byte) : List Byte :=
  padTo (itemSize payload.length) (pack [(2, payload.length), (1, flags), (1, pt), (2, seq), (2, 0), (4, ts), (4, ssrc), (8, arrival),
    (4, item), (4, 0)] ++ payload)

/-- The address of byte count `c` of a queue's ring. -/
def State.qAddr (s : State) (n c : Nat) : Nat := (s.queue n).base + c % s.qSize n

/-- The header of the item at byte count `c`, read by the master of unit `u` (R16). DESIGN CHOICE, unsafe (log 219). -/
def State.qHeader (s : State) (u n c : Nat) : List Byte × State :=
  let (h, _, _, _, t) := s.unitLoad u (s.qAddr n c) 32
  (h, t)

/-- Whether a header is that of a pad item. -/
def headIsPad (h : List Byte) : Bool := bitAt (fieldAt h 2 1) 1

/-- The size of the item at byte count `c` with header `h`: what the header says, or the rest of the ring for a pad item. -/
def State.headSize (s : State) (n c : Nat) (h : List Byte) : Nat :=
  if headIsPad h then s.qSize n - c % s.qSize n else itemSize (fieldAt h 0 2)

/-! ### The pipe's operations (R261) -/

/-- A free mark slot takes RD; the answer is the slot. -/
def State.takeMark (s : State) (n : Nat) : Option Nat × State :=
  match (List.range 4).find? fun m => !(s.qMarks n).contains m with
  | none => (none, s)
  | some m => (some m, ((s.wr (Reg.PKT_Q_MARK n m) (s.rd (Reg.PKT_Q_RD n))).setMarkValid n m true).qRetail n)

/-- Set mark: a free slot takes RD, for the access unit that the pipe has found ahead (R219); with none the pipe handles it as MARK_LOST. -/
def State.qSetMark (s : State) (n : Nat) : State :=
  if !s.isSet (Reg.PKT_Q_CTRL_OPEN n) then s
  else match s.takeMark n with
    | (none, _) => s.decMarkLost n none
    | (some m, t) => t.setDec n { t.dec n with ahead := some m }

/-- Rewind: RD takes the value of a valid mark; a cancelled one fails with MARK_LOST. -/
def State.qRewind (s : State) (n m : Nat) : State :=
  if !s.isSet (Reg.PKT_Q_CTRL_OPEN n) then s
  else if (s.qMarks n).contains m then
    (((s.wr (Reg.PKT_Q_RD n) (s.rd (Reg.PKT_Q_MARK n m))).setQueue n { s.queue n with reading := none }).setDec n
      { s.dec n with marker := false }).qRetail n
  else s.decMarkLost n none

/-- The pipe begins the access unit of its picture in flight (R219): it rewinds to the mark it set there when it found the unit's first NAL unit, or
sets a mark at RD. -/
def State.beginUnit (s : State) (n : Nat) : State :=
  let d := s.dec n
  let put (t : State) (m : Nat) : State :=
    t.setDec n { t.dec n with ahead := none, skipping := false, cur := (t.dec n).cur.map fun (p : DecPic) => { p with mark := some m } }
  if !s.isSet (Reg.PKT_Q_CTRL_OPEN n) then s
  else match d.ahead with
    | some m => if (s.qMarks n).contains m then (put s m).qRewind n m else (s.setDec n { d with ahead := none }).decMarkLost n none
    | none => match s.takeMark n with
      | (none, _) => s.decMarkLost n none
      | (some m, t) => put t m

/-- RD past items of the access unit that is given up: those of its RTP timestamp (R261). DEDUCED, unsafe (log 70). -/
def State.skipItems (s : State) (u n ts : Nat) : Nat → State
  | 0 => s
  | k + 1 =>
    let rd := s.rd (Reg.PKT_Q_RD n)
    if rd == s.rd (Reg.PKT_Q_WR n) then s
    else
      let (h, t) := s.qHeader u n rd
      if fieldAt h 8 4 != ts && !headIsPad h then t
      else State.skipItems ((t.wr (Reg.PKT_Q_RD n) (wrapAdd 32 rd (t.headSize n rd h))).qRetail n) u n ts k

/-- Read: the item at RD, and RD advances past it when it has been read whole; of an empty queue, VALID clear at once. What the pipe got stands in
`readData`: bit 0 VALID, above it the item. After MARK_LOST the items of the access unit given up are skipped first. DEDUCED, unsafe (log 70). -/
def State.qRead (s : State) (n : Nat) (whole : Bool) : State :=
  if !s.isSet (Reg.PKT_Q_CTRL_OPEN n) then s
  else
    let d := s.dec n
    let u := fbkDec (s.fld (Reg.DEC_SES_CTRL_PIPE n))
    let s0 := s.loadDecPipe n
    let s1 := if d.skipping then
        (s0.skipItems u n ((d.uLast.getD 0) % 2 ^ 32) (s.qFill n / 64 + 1)).setDec n { d with skipping := false, marker := false } else s0
    let rd := s1.rd (Reg.PKT_Q_RD n)
    if rd == s1.rd (Reg.PKT_Q_WR n) then ({ s1 with readData := 0 } : State).setDec n { s1.dec n with skipping := d.skipping }
    else
      let (h, t1) := s1.qHeader u n rd
      let size := t1.headSize n rd h
      let (item, ok, l, bad, s2) := t1.unitLoad u (t1.qAddr n rd) size
      let s3 : State := { s2 with readData := 1 + 2 * leNat item }
      let s4 := if bad then s3.decError n dePoison 0 else s3
      let s5 := if whole then
          let x := s4.dec n
          (((s4.wr (Reg.PKT_Q_RD n) (wrapAdd 32 rd size)).setQueue n { s4.queue n with reading := none }).setDec n
            { x with marker := x.marker || bitAt (fieldAt item 2 1) 0 }).qRetail n
        else s4.setQueue n { s4.queue n with reading := some rd }
      s5.decAfter n { ok := ok, lasting := l }

/-! ### Arrival (R262) -/

/-- PKT_QUEUE_LOSS (R274), when LOST or MARK_LOST becomes set. -/
def State.queueLoss (s : State) (n lost marks : Nat) : State :=
  s.notice 0x0802 n [0, s.decOwner n] (pack [(2, n), (2, 0), (4, lost), (4, marks), (4, s.qFill n)])

/-- A cancelled mark belongs to no picture any longer; of an access unit found ahead it stays noted, so that the rewind to it fails (R261). -/
def State.forgetMark (s : State) (n m : Nat) : State :=
  let d := s.dec n
  s.setDec n { d.unmark m with ahead := d.ahead }

/-- R262 step 1: the mark at TAIL cancelled and the pipe told. -/
def State.cancelMark (s : State) (n m : Nat) : State :=
  let s1 := ((s.setMarkValid n m false).bump (Reg.PKT_Q_CNT_MARK_LOST n)).qRetail n
  let s2 := if s1.isSet (Reg.PKT_Q_STAT_MARK_LOST n) then s1 else (s1.raise (Reg.PKT_Q_STAT_MARK_LOST n)).queueLoss n 0 1
  (s2.decMarkLost n (some m)).forgetMark n m

/-- OVERTAKEN (R262): the pipe drops the bytes it has read of the item at `rd`. -/
def State.overtaken (s : State) (n rd : Nat) : State :=
  if (s.queue n).reading == some rd then ({ s with readData := 0 } : State).setQueue n { s.queue n with reading := none } else s

/-- R262 step 2: the item at RD discarded whole; a pad item without counting. -/
def State.discardItem (s : State) (n : Nat) : State :=
  let rd := s.rd (Reg.PKT_Q_RD n)
  let (h, s0) := s.qHeader fbkPkt n rd
  let s1 := ((s0.overtaken n rd).wr (Reg.PKT_Q_RD n) (wrapAdd 32 rd (s0.headSize n rd h))).qRetail n
  if headIsPad h then s1
  else
    let s2 := s1.bump (Reg.PKT_Q_CNT_LOST n)
    if s2.isSet (Reg.PKT_Q_STAT_LOST n) then s2 else (s2.raise (Reg.PKT_Q_STAT_LOST n)).queueLoss n 1 0

/-- Space freed from TAIL, one step at a time, until `need` bytes are free. -/
def State.freeQueue (s : State) (n need : Nat) : Nat → State
  | 0 => s
  | k + 1 =>
    if s.qFill n + need ≤ s.qSize n then s
    else
      match (s.qMarks n).find? fun m => s.rd (Reg.PKT_Q_MARK n m) == s.rd (Reg.PKT_Q_TAIL n) with
      | some m => State.freeQueue (s.cancelMark n m) n need k
      | none => if s.rd (Reg.PKT_Q_RD n) == s.rd (Reg.PKT_Q_WR n) then s else State.freeQueue (s.discardItem n) n need k

/-- Bytes written at WR through FBK_PKT, and WR advanced. -/
def State.qAppend (s : State) (n : Nat) (b : List Byte) (size : Nat) : State :=
  let wr := s.rd (Reg.PKT_Q_WR n)
  (s.unitStore fbkPkt (s.qAddr n wr) b).2.2.wr (Reg.PKT_Q_WR n) (wrapAdd 32 wr size)

/-- A PKT_QUEUE_READ response: FLAGS, the header and up to `most` bytes of payload of the item at byte count `c`, read in one step, in which no
arrival can discard the item. DESIGN CHOICE, unsafe (log 219). -/
def State.queueCopy (s : State) (n c most : Nat) : List Byte × State :=
  let (h, t) := s.qHeader fbkA0 n c
  let (b, u) := t.fwRead (t.qAddr n c + 32) (min most (fieldAt h 0 2))
  (pack [(4, 0), (4, 0)] ++ h ++ b, u)

/-- A packet stored as one item, space freed first; the copies that wait for the next item are answered (R262, R264, R273). DEDUCED, unsafe (log 70). -/
def State.qPut (s : State) (n flags pt seq ts ssrc arrival : Nat) (payload : List Byte) : State :=
  let size := itemSize payload.length
  let left := s.qSize n - s.rd (Reg.PKT_Q_WR n) % s.qSize n
  let pad := if size ≤ left then 0 else left
  let s1 := s.freeQueue n (pad + size) ((pad + size) / 64 + 5)
  let q := s1.queue n
  let s2 := if pad == 0 then s1 else s1.qAppend n (itemBytes 2 0 0 0 0 0 q.item []) pad
  let c := s2.rd (Reg.PKT_Q_WR n)
  let s3 := (s2.qAppend n (itemBytes flags pt seq ts ssrc arrival q.item payload) size).setQueue n
    { q with item := wrapAdd 32 q.item 1, waits := [] }
  let s4 := (s3.bumpWrap (Reg.PKT_Q_CNT_ITEMS n)).qRetail n
  let s5 := if s4.fld (Reg.PKT_Q_WMARK_HIGH n) * s4.qSize n ≤ s4.qFill n * 1024 then s4.setHeld n true else s4
  q.waits.foldl (fun t w =>
    let (b, u) := t.queueCopy n c w.most
    u.answer (some w.waiter) stOk b) s5

/-- R264: the limit of HIGH for a ring of 2^k bytes. -/
def highLimit (size : Nat) : Nat := 1024 - ceilDiv (65536 * 1024) size

end Sys2Proof.Machine
end

