-- ==== Sys2Proof/Machine/DecCmds.lean ====
section
/-! DEFINITION. The commands and events of the decode pool (spec/07_decode_pool.md). -/

namespace Sys2Proof.Machine

open Sys2Proof


/-! ### DEC_SESSION_OPEN (R195, R198, R201, R224) -/

/-- The row height that row cells are counted for: the smallest unit of any profile (R201). DEDUCED, unsafe (log 60). -/
def rowCellLines : Nat := 16

/-- The limits of the fields of DEC_SESSION_OPEN. -/
def decOpenChecks (r : Req) : List (Bool × Nat × Nat) :=
  [(5 < r.u8 16, stInvalid, 16), (16 ≤ r.u8 17, stInvalid, 17), (!within 1 32 (r.u8 18), stInvalid, 18), (!within 1 16 (r.u8 19), stInvalid, 19),
   (!within 16 4096 (r.u16 20), stInvalid, 20), (!within 16 2304 (r.u16 22) || 9437184 < r.u16 20 * r.u16 22, stInvalid, 22),
   (!within 1000 120000 (r.u32 24), stInvalid, 24), (!within 1 200000 (r.u32 28), stInvalid, 28), (!within 1 16777215 (r.u32 32), stInvalid, 32),
   (r.u8 36 == 0, stInvalid, 36), (1 < r.u8 37, stInvalid, 37), (!within 20 28 (r.u8 39), stInvalid, 39),
   (1048575 < r.u32 40 && r.u32 40 != 0xFFFFFFFF, stInvalid, 40), (r.u32 44 != 0, stInvalid, 44)]

/-- The decode sessions a partition has open. -/
def State.decsOf (s : State) (p : Nat) : Nat := (s.openDecs.filter fun n => s.decOwner n == p).length

/-- The declared session as placement sees it. -/
def newDecSlotted (r : Req) : Slotted :=
  { id := 128, key := 0, num := r.u16 20 * r.u16 22 * r.u32 24, den := 1000, kbps := r.u32 28 }

/-- The session's engine cells: the session cell, then its row cells. -/
def State.decCells (s : State) (r : Req) (rows : Nat) : Option (Nat × Nat × State) :=
  let cls := ofBool (bitAt (r.u8 17) 3)
  let latch := bitAt (r.u8 17) 2
  (s.placeCells false 1).bind fun c =>
    let s1 := s.allocCells c 1 2 0 (r.u32 32) cls latch (r.u8 36)
    if rows == 0 then some (c, 0, s1)
    else (s1.placeCells false rows).map fun f => (c, f, s1.allocCells f rows 3 0 (r.u32 32) cls latch (r.u8 36))

/-- A session opened on `pipe` with its cells and memory. DESIGN CHOICE, unsafe (log 66). -/
def State.openDec (s : State) (r : Req) (n pipe cell row rows : Nat) (mem : List Nat) (picLog metaLog : Nat) : State :=
  let w := r.u16 20
  let h := r.u16 22
  let flags := r.u8 17
  let d : DecSes := { w := w, h := h, rateMhz := r.u32 24, kbps := r.u32 28, maxViews := r.u8 18, dpbMax := r.u8 19,
                      arrivalMode := r.u8 37 == 1, tai := r.u8 38, transit := if r.u32 40 == 0xFFFFFFFF then 1024 else r.u32 40,
                      winAt := s.tick, picBase := mem.getD 0 0, picLog := picLog, metaBase := mem.getD 1 0, metaLog := metaLog,
                      queueBase := mem.getD 2 0, queueLog := r.u8 39 }
  let p : PicPool := { present := true, part := r.part, w := w, h := h, fmt := decFormat (r.u8 16), cell := cell, rowCell := row, rows := rows,
                       rowH := rowCellLines, cls := ofBool (bitAt flags 3), maxViews := r.u8 18, base := mem.getD 0 0,
                       slotSize := decSlotBytes (r.u8 16) w h }
  let s1 := ((s.setDec n d).setPool 1 n p).openQueue n (mem.getD 2 0) (r.u8 39)
  let lent := ((List.range rows).map fun i => row + i).foldl (fun l c => sparsePut 0 l c r.part) (sparsePut 0 s1.ldg.lent cell r.part)
  let s2 := { s1 with ldg := { s1.ldg with lent := lent } }
  let s3 := (List.range 8).foldl (fun t i => t.wr (Reg.DEC_SES_CTRL n + 4 * i) 0) s2
  let ctrl := r.part + pipe * 2 ^ 16 + ofBool (bitAt flags 1) * 2 ^ 22 + ofBool (bitAt flags 0) * 2 ^ 23 + r.u8 16 * 2 ^ 24 + dsWaitParams * 2 ^ 28 + 2 ^ 31
  (((s3.wr (Reg.DEC_SES_CTRL n) ctrl).wr (Reg.DEC_SES_CELL n) cell).wr (Reg.DEC_SES_ROWCELLS n) (rows * 2 ^ 20 + row)).decFigures

/-- DEC_SESSION_OPEN. DEDUCED, unsafe (log 162). -/
def cmdDecSessionOpen (r : Req) (s : State) : State × Resp :=
  let free := (List.range 128).find? fun n => !s.isSet (Reg.DEC_SES_CTRL_OPEN n)
  let pipe := findPipe decPix decKbps s.decPipesUp s.decTable (newDecSlotted r)
  let rows := if bitAt (r.u8 17) 0 then ceilDiv (r.u16 22) rowCellLines else 0
  let slots := r.u8 19 + r.u8 18 + 2
  let picLog := log2Up 12 (slots * decSlotBytes (r.u8 16) (r.u16 20) (r.u16 22))
  let metaLog := log2Up 12 (slots * 8192)
  match firstBad (decOpenChecks r ++ [(overQuota r.part (s.decsOf r.part) 1 (s.partOf r.part).decQuota 0xFF, stNoSpace, noField),
      (free.isNone, stNoSpace, noField)]) with
  | some (st, d) => (s, .err st d)
  | none =>
    match free, s.decCells r rows with
    | some n, some (cell, row, s1) =>
      match s1.takeMemory [picLog, metaLog, r.u8 39], pipe with
      | none, _ => (s, .err stNoSpace noField)
      | some _, none => (s, .err stBudget noField)
      | some (mem, s2), some p =>
        if s.rung 5 then (s, .err stBudget noField)
        else (s2.openDec r n p cell row rows mem picLog metaLog, .ok (pack [(2, n), (1, p), (1, 0), (4, cell), (4, row), (2, rows), (2, 0)]))
    | _, _ => (s, .err stNoSpace noField)

/-- DEC_SESSION_OPEN, as R195 has it. -/
def execDecSessionOpen (dt : Nat) (m : Fin 8) (s : State) : Host.Outcome State Fault Refusal :=
  .next ((s.pass dt).lcs m.val 0x0601 cmdDecSessionOpen)

/-! ### The other session commands (R224) -/

/-- The checks that a command names an open session of the sender's. -/
def State.decSesChecks (s : State) (r : Req) : List (Bool × Nat × Nat) :=
  let n := r.u16 16
  let isOpen := n < 128 && s.isSet (Reg.DEC_SES_CTRL_OPEN n)
  [(isOpen && r.part != 1 && r.part != s.decOwner n, stPartition, noField), (!isOpen, stInvalid, 16)]

/-- A command that names a draining session is refused with BUSY (R403). DEDUCED, unsafe (log 164). -/
def State.decBusyCheck (s : State) (r : Req) : List (Bool × Nat × Nat) :=
  [(decide (dsDraining ≤ s.decState (r.u16 16)), stBusy, noField)]

/-- A timeout of a drain in ms: 0 selects 50, otherwise 1 to 1,000. -/
def drainMs (v : Nat) : Nat := if v == 0 then 50 else v

/-- Whether a committed layer or a READY stage names a source. -/
def State.sourceNamed (s : State) (source id : Nat) : Bool :=
  !(s.shownOn source id).isEmpty || (List.range 32).any fun n => ((s.cmt n).stage.map fun g => g.slots).getD [] |>.any fun q =>
    q.en && q.source == source && q.id == id

/-- A session begins to drain. An injection may hold it up until its timeout (R479, 0x19). -/
def State.drainDec (s : State) (n ms : Nat) (w : Option Waiter) (pipe : Bool) : State :=
  let (inj, s1) := s.injTake 0x19 (0x100 + n)
  let d := s1.dec n
  let s2 := s1.setDec n { d with drainAt := some (s.tick + ms * ticksPerMs), stuck := inj.isSome, pipeDrain := pipe, waiter := w, wasReset := false }
  if pipe then s2.setDec n { s2.dec n with moveTo := none } else s2.setDecState n dsDraining

/-- The checks of DEC_SESSION_CLOSE in the order of R393 step 8, each as (it fails, status, DETAIL). -/
def chkDecSessionClose (r : Req) (s : State) : List (Bool × Nat × Nat) :=
  let n := r.u16 16
  s.decSesChecks r ++ [(decide (1000 < r.u16 18), stInvalid, 18),
    (s.sourceNamed 1 n || dsDraining ≤ s.decState n || (s.dec n).pipeDrain, stBusy, noField)]

/-- DEC_SESSION_CLOSE. -/
def cmdDecSessionClose (r : Req) (s : State) : State × Resp :=
  let n := r.u16 16
  s.refuseOr (chkDecSessionClose r s)
    (s.drainDec n (drainMs (r.u16 18)) (some r.waiter) false, .wait)

/-- DEC_SESSION_CLOSE, as R220 has it. -/
def execDecSessionClose (dt : Nat) (m : Fin 8) (s : State) : Host.Outcome State Fault Refusal :=
  .next ((s.pass dt).lcs m.val 0x0602 cmdDecSessionClose)

/-- NAL units, each behind its size in two bytes; none where the bytes are not whole ones. -/
def nalList : Nat → List Byte → Option (List (List Byte))
  | _, [] => some []
  | 0, _ => none
  | k + 1, l =>
    let n := fieldAt l 0 2
    if n == 0 || l.length < n + 2 then none else (nalList k (l.drop (n + 2))).map fun t => (l.drop 2).take n :: t

/-- Whether a NAL unit is a parameter set of the session's codec, by its type: VPS, SPS or PPS of H.265; SPS, PPS, SPS extension or subset
SPS of H.264. PRESUMED, unsafe (log 201). -/
def isParamSet (profile : Nat) (nal : List Byte) : Bool :=
  let b := fieldAt nal 0 1
  if 3 ≤ profile then [7, 8, 13, 15].contains (b % 32) else within 32 34 (b / 2 % 64)

/-- Whether the parameter sets of a DEC_SESSION_PARAMS body pass R210. DESIGN CHOICE, safe (log 68). PRESUMED, unsafe (log 201). -/
def setsOk (profile : Nat) (body : List Byte) : Bool :=
  match nalList body.length body with
  | none => false
  | some l => l.all fun x => !isParamSet profile x || !Config.setOutOfRange profile x

/-- Whether a DEC_SESSION_PARAMS body holds a parameter set. -/
def hasSets (profile : Nat) (body : List Byte) : Bool := ((nalList body.length body).getD []).any (isParamSet profile)

/-- The checks of DEC_SESSION_PARAMS in the order of R393 step 8, each as (it fails, status, DETAIL). -/
def chkDecSessionParams (r : Req) (s : State) : List (Bool × Nat × Nat) :=
  let body := r.bytes 20 (r.u16 18)
  s.decSesChecks r ++ [(!within 1 4064 (r.u16 18), stInvalid, 18), (!setsOk (s.fld (Reg.DEC_SES_CTRL_PROFILE (r.u16 16))) body, stInvalid, 20)] ++ s.decBusyCheck r

/-- DEC_SESSION_PARAMS: the sets are held for the next access unit; with one, a session in WAIT_PARAMS runs. DEDUCED, unsafe (log 65). PRESUMED, unsafe (log 201). -/
def cmdDecSessionParams (r : Req) (s : State) : State × Resp :=
  let n := r.u16 16
  let body := r.bytes 20 (r.u16 18)
  s.refuseOr (chkDecSessionParams r s)
    (let d := s.dec n
     let t := s.setDec n { d with params := d.params ++ body }
     (if s.decState n == dsWaitParams && hasSets (s.fld (Reg.DEC_SES_CTRL_PROFILE n)) body then t.setDecState n dsRunning else t, .ok []))

/-- DEC_SESSION_PARAMS, as R197 has it. -/
def execDecSessionParams (dt : Nat) (m : Fin 8) (s : State) : Host.Outcome State Fault Refusal :=
  .next ((s.pass dt).lcs m.val 0x0603 cmdDecSessionParams)

/-- The checks of DEC_SESSION_ANCHOR in the order of R393 step 8, each as (it fails, status, DETAIL). -/
def chkDecSessionAnchor (r : Req) (s : State) : List (Bool × Nat × Nat) :=
  s.decSesChecks r ++ [(decide (10 ^ 9 ≤ r.u32 24), stInvalid, 24)] ++ s.decBusyCheck r

/-- DEC_SESSION_ANCHOR. -/
def cmdDecSessionAnchor (r : Req) (s : State) : State × Resp :=
  let n := r.u16 16
  s.refuseOr (chkDecSessionAnchor r s)
    (s.setAnchor n { rtp := unwrapRtp (s.dec n).uLast (r.u32 20), ptp := s.ptp64 (r.u32 28) (r.u32 24), epoch := r.u16 18 }, .ok [])

/-- DEC_SESSION_ANCHOR, as R205 has it. -/
def execDecSessionAnchor (dt : Nat) (m : Fin 8) (s : State) : Host.Outcome State Fault Refusal :=
  .next ((s.pass dt).lcs m.val 0x0604 cmdDecSessionAnchor)

/-- The checks of DEC_SESSION_QUERY in the order of R393 step 8, each as (it fails, status, DETAIL). -/
def chkDecSessionQuery (r : Req) (s : State) : List (Bool × Nat × Nat) :=
  s.decSesChecks r ++ [(r.u16 18 != 0, stInvalid, 18)]

/-- DEC_SESSION_QUERY; without an anchor both anchor fields are zero. DEDUCED, unsafe (log 69). -/
def cmdDecSessionQuery (r : Req) (s : State) : State × Resp :=
  let n := r.u16 16
  s.refuseOr (chkDecSessionQuery r s)
    (let (a, p) := match (s.dec n).anchor with
       | some a => (a.rtp, toPtp64 a.ptp.toNat)
       | none => (0, 0)
     (s, .ok (s.regImage State.view (Reg.DEC_SES_CTRL n) 12 ++ pack [(8, a), (8, p)])))

/-- DEC_SESSION_QUERY, as R224 has it. -/
def execDecSessionQuery (dt : Nat) (m : Fin 8) (s : State) : Host.Outcome State Fault Refusal :=
  .next ((s.pass dt).lcs m.val 0x0605 cmdDecSessionQuery)

/-! ### DEC_PIPE_CTRL (R221) -/

/-- A pipe's drain begins: each session on it drains its picture in flight, and moves when all have. -/
def State.drainDecPipe (s : State) (p ms : Nat) (w : Waiter) : State :=
  let on := s.openDecs.filter fun n => s.fld (Reg.DEC_SES_CTRL_PIPE n) == p && !(s.dec n).parked
  let s1 := (((s.setFld (Reg.DEC_PIPE_STAT_EN p) 0).setFld (Reg.DEC_PIPE_STAT_DRAINING p) 1).setDecPipe p
    { s.decPipe p with waiter := some w }).decFigures
  (on.filter fun n => (s.dec n).cur.isSome).foldl (fun t n => t.drainDec n ms none true) s1

/-- The checks of DEC_PIPE_CTRL in the order of R393 step 8, each as (it fails, status, DETAIL). -/
def chkDecPipeCtrl (r : Req) (s : State) : List (Bool × Nat × Nat) :=
  let p := r.u8 16
  let ids := (s.decTable.filter fun x => x.pipe == some p).map fun x => x.id
  let others := s.decPipesUp.filter fun q => q != p
  let up := s.isSet (Reg.DEC_PIPE_STAT_EN p)
  [(r.part != 1, stPartition, noField), (7 < p || (r.u8 17 == 1 && s.isSet (Reg.DEC_PIPE_STAT_FAULTED p)), stInvalid, 16),
    (1 < r.u8 17, stInvalid, 17), (1000 < r.u16 18, stInvalid, 18), (s.isSet (Reg.DEC_PIPE_STAT_DRAINING p), stBusy, noField),
    (r.u8 17 == 0 && up && (moveAll decPix decKbps others ids s.decTable).isNone, stBudget, noField)]

/-- DEC_PIPE_CTRL. -/
def cmdDecPipeCtrl (r : Req) (s : State) : State × Resp :=
  let p := r.u8 16
  let up := s.isSet (Reg.DEC_PIPE_STAT_EN p)
  s.refuseOr (chkDecPipeCtrl r s)
    (if r.u8 17 == 1 then
       if up then (s, .ok []) else (((s.setFld (Reg.DEC_PIPE_STAT_EN p) 1).decFigures).resumeDecs, .ok [])
     else if !up then (s, .ok [])
     else
       let t := s.drainDecPipe p (drainMs (r.u16 18)) r.waiter
       if t.pipeDraining p then (t, .wait)
       else (({ t with decPipes := s.decPipes } : State).setDecPipe p {} |>.pipeMoved p, .ok []))

/-- DEC_PIPE_CTRL, as R221 has it. -/
def execDecPipeCtrl (dt : Nat) (m : Fin 8) (s : State) : Host.Outcome State Fault Refusal :=
  .next ((s.pass dt).lcs m.val 0x0606 cmdDecPipeCtrl)

/-! ### DEC_ROW_DECODE (R194, R208 to R217) -/

/-- R207: the rows and ages of a row-age map of `rows` rows; none where it fails to parse. -/
def parseRowAges (b : List Byte) (rows : Nat) : Option (List (Nat × Nat)) :=
  let uuid : List Nat := [0x4A, 0x79, 0xC3, 0x0E, 0x5B, 0x62, 0x4D, 0x18, 0x9F, 0x27, 0xE1, 0x80, 0x3C, 0xD6, 0x72, 0xB5]
  let bits := ceilDiv rows 8
  let carried := (List.range rows).filter fun r => bitAt (fieldAt b (24 + r / 8) 1) (r % 8)
  if (b.take 16).map (fun x => x.toNat) != uuid || fieldAt b 16 1 != 1 || fieldAt b 18 2 != rows || fieldAt b 22 2 != carried.length ||
      b.length < 24 + bits + 4 * carried.length then none
  else some (carried.mapIdx fun i r => (r, fieldAt b (24 + bits + 4 * i) 4))

/-- Luma reach of a footprint: left and above, right and below (R215). -/
def lumaReach (avc : Bool) : Nat × Nat := if avc then (2, 3) else (3, 4)

/-- The units of a picture that a reference block's footprint overlaps: grown, then clamped to the picture (R215). -/
def DecPic.footprint (p : DecPic) (avc : Bool) (b : RefBlock) : List Nat :=
  let (lo, hi) := lumaReach avc
  let clampX (v : Int) : Nat := min (p.w - 1) v.toNat
  let clampY (v : Int) : Nat := min (p.h - 1) v.toNat
  let x0 := clampX (b.x - lo) / p.unit
  let x1 := clampX (b.x + b.w - 1 + hi) / p.unit
  let y0 := clampY (b.y - lo) / p.unit
  let y1 := clampY (b.y + b.h - 1 + hi) / p.unit
  (List.range (y1 + 1 - y0)).flatMap fun j => (List.range (x1 + 1 - x0)).map fun i => (y0 + j) * p.cols + x0 + i

/-- Whether a reference block lies in clean units of its reference; a phantom has none. -/
def DecSes.refClean (d : DecSes) (avc : Bool) (b : RefBlock) : Bool :=
  match sparseFind d.kept b.slot with
  | none => false
  | some q => (q.footprint avc b).all fun i => q.map.getD i false

/-- R215, before the in-loop filters: a unit decoded without error whose intra and inter prediction reads only clean units. -/
def DecSes.unitClean (d : DecSes) (avc : Bool) (pre : List Bool) (u : DecUnit) : Bool :=
  u.good && !u.poison && (u.intra.all fun i => pre.getD i false) && u.inter.all fun b => d.refClean avc b

/-- The luma samples coded in the row of units that begins at line `y`: those of the coded size, before cropping (R194). -/
def DecPic.codedRow (p : DecPic) (y : Nat) : Nat := max p.w p.coded.1 * min p.unit (max p.h p.coded.2 - y)

/-- R194: the cycle budget of a row of `n` luma samples: four times ceil(0.9 n). -/
def rowBudget (n : Nat) : Nat := 4 * ceilDiv (9 * n) 10

/-- What R210 and R191 make of a NAL unit met in a picture: 0 taken, 1 discarded as SYNTAX, 2 not wholly within the bound of its access unit, 3 of another
layer than the base and discarded without an error. DEDUCED, unsafe (log 200). -/
def DecPic.judgeNal (p : DecPic) (x : DecNal) : Nat :=
  if 2 ^ 25 < p.octets + x.size then 2
  else if 0 < x.layer && !p.avc then 3
  else if 2 ^ 23 < x.size || (x.kind == 0 && (600 ≤ p.segs || 4096 < x.header)) || (x.kind < 2 && !x.valid) then 1
  else 0

/-- The NAL units of a row judged in order: the picture's counts after them, each with its verdict, and the error classes that R210 gives. The
access unit's bytes past 32 MiB are discarded as DATA_LOST once. -/
def DecPic.judgeNals (p : DecPic) (l : List DecNal) : DecPic × List (DecNal × Nat) × List Nat :=
  l.foldl (fun a x =>
    let v := a.1.judgeNal x
    let cut := a.1.octets ≤ 2 ^ 25 && 2 ^ 25 < a.1.octets + x.size
    ({ a.1 with octets := a.1.octets + x.size, segs := a.1.segs + ofBool (x.kind == 0 && v == 0) }, a.2.1 ++ [(x, v)],
      a.2.2 ++ (if v == 1 then [deSyntax] else []) ++ if cut then [deDataLost] else [])) (p, [], [])

/-- What is missing before a unit (R209, R210), after the slice segments that begin with it and a resume point there. -/
def gapBefore (gap : Nat) (begin_ : List Nat) (resume : Bool) : Nat :=
  let g := begin_.foldl (fun g v => if v == 0 then (if g == 3 then 3 else 0) else if v == 1 then 2 else if v == 2 then 3 else g) gap
  if resume && g == 1 then 0 else g

/-- The units of a row as they are decoded: one in a gap is concealed, and after one that is not decoded all are until the next resume point.
The units from `stop` on are abandoned with the row (R208). The answer ends with the gap after the row. -/
def decodeUnits (l : List DecUnit) (begins : List (DecNal × Nat)) (gap : Nat) (stop : Option Nat) : List DecUnit × Nat :=
  (l.mapIdx fun i u => (i, u)).foldl (fun a x =>
    let g := gapBefore a.2 ((begins.filter fun b => b.1.kind == 0 && b.1.first == x.1).map Prod.snd) x.2.resume
    let good := x.2.good && g == 0 && !stop.any fun k => k ≤ x.1
    (a.1 ++ [{ x.2 with good := good }], if good || g != 0 then g else 1)) ([], gap)

/-- A slot for a new picture of a session: a free one, if possible not that of the picture decoded last, from which units are concealed. -/
def State.decFree (s : State) (n : Nat) (busy : List Nat) : Option Nat :=
  let d := s.dec n
  let x := s.pool 1 n
  match x.freeSlot d.slotCount (busy ++ d.prev.toList) with
  | some i => some i
  | none => x.freeSlot d.slotCount busy

/-- Slot `i` of a session is written anew: its generation counts (R198). -/
def State.renewSlot (s : State) (n i : Nat) : State :=
  let x := s.pool 1 n
  let old := x.slot i
  s.setPool 1 n (x.setSlot i { old with pic := { old.pic with gen := (old.pic.gen + 1) % 65536 } })

/-- A picture begins: its slot, generation, unwrapped timestamp, map and mark; one that R192 excludes ends at once, and one of more tiles than R210
allows is concealed whole. An SEI message above 64 KiB is skipped. -/
def State.beginPicture (s : State) (n : Nat) (h : DecHead) : State :=
  let d := s.dec n
  let u := unwrapRtp d.uLast h.rtp
  let rows := ceilDiv h.h h.unit
  let sei := h.sei.filter fun b => b.length ≤ 65536
  let ages := if s.isSet (Reg.DEC_SES_CTRL_ROW_AGE n) then sei.map fun b => parseRowAges b rows else none
  let bad := ages == some none
  let profile := s.fld (Reg.DEC_SES_CTRL_PROFILE n)
  let unsup := h.excluded || h.foreign || d.dpbMax < h.dpb || !profileTakes profile h.depth h.chroma || d.w < h.w || d.h < h.h || h.w == 0 || h.h == 0 || h.unit == 0
  let p : DecPic := { u := u, arrival := h.arrival, w := h.w, h := h.h, fmt := storedFormat h.depth h.chroma, matrix := matrixFor h.matrix h.h,
                      full := h.full, unit := max 1 h.unit, avc := 3 ≤ profile, output := h.output, poc := h.poc, depth := h.depth,
                      chroma := h.chroma, ages := ((ages.getD none).getD []), badMap := bad, unsupported := unsup, coded := h.coded }
  let s0 := s.setDec n { d with uLast := some u, refs := h.refs, params := [], wantWhole := false }
  let s1 := if s0.decState n == dsWaitParams then s0.setDecState n dsRunning else s0
  let s2 := if bad then s1.decError n deSyntax 0 else s1
  if unsup then
    (((s2.setDec n { s2.dec n with cur := some p }).beginUnit n).decError n deUnsupported 0).endPicture n
  else match s2.decFree n (h.refs ++ d.out.map fun q => q.slot) with
    | none => s2
    | some i =>
      let s3 := s2.renewSlot n i
      let s4 := (s3.setDec n { s3.dec n with cur := some { p with slot := i } }).beginUnit n
      if 20 < h.tiles.1 || 22 < h.tiles.2 then s4.concealRest n deSyntax false else s4

/-- A phantom for the missing reference of picture order count `poc` (R217): a free slot mid-grey, its map all 0. -/
def State.makePhantom (s : State) (n : Nat) (p : DecPic) (poc : Int) : State :=
  let d := s.dec n
  match s.decFree n (p.slot :: d.refs ++ d.out.map fun q => q.slot) with
  | none => s.decError n deRefMissing 0
  | some i =>
    let ph : DecPic := { p with slot := i, output := false, poc := poc, mark := none, map := List.replicate (p.cols * p.rows) false }
    let s1 := s.renewSlot n i
    let s2 := s1.setDec n { d with refs := i :: d.refs, kept := sparseIns d.kept i ph, prev := none }
    let (run, s3) := (List.range (p.cols * p.rows)).foldl (fun a k => a.2.concealUnit n ph k a.1) (({} : WriteRun), s2)
    ((s3.setDec n { s3.dec n with prev := d.prev }).decError n deRefMissing 0).decAfter n run

/-- The chroma of lines `y` to `y` + `h` of a 4:0:0 picture: the mid value (R193). -/
def DecPic.greyChroma (p : DecPic) (y h : Nat) : List DecRun :=
  if p.chroma == 0 then (List.range (ceilDiv h 2)).map fun j =>
    { plane := 1, row := y / 2 + j, col := 0, vals := List.replicate (2 * ceilDiv p.w 2) (greyOf p.fmt) }
  else []

/-- The next row of the picture in flight: its NAL units judged, its units decoded or concealed, its samples written in the stored format, its errors
counted. When the bytes read of the access unit are used up and its RTP marker bit has been read, the picture ends (R211). DEDUCED, unsafe (log 200). -/
def State.rowOps (s : State) (n : Nat) (r : DecRow) : State :=
  match (s.dec n).cur with
  | none => s
  | some p0 =>
    let pipe := s.fld (Reg.DEC_SES_CTRL_PIPE n)
    let (inj, s0) := (s.loadDecPipe n).injTake 0x11 pipe
    let s1 := r.missing.foldl (fun t poc => t.makePhantom n p0 poc) s0
    match (s1.dec n).cur with
    | none => s1
    | some p1 =>
      let d := s1.dec n
      let (p, begins, lost) := p1.judgeNals r.nals
      let first := p.pre.length
      let y := first / p.cols * p.unit
      let h := min p.unit (p.h - y)
      let samples := p.w * h
      let over_ := inj.isSome || rowBudget (p.codedRow y) ≤ r.cycles
      let (units, gap) := decodeUnits ((List.range p.cols).map fun i => r.units.getD i { good := false }) begins p.gap
        (if over_ then some r.reached else none)
      let pre := units.foldl (fun a u => a ++ [d.unitClean p.avc a u]) p.pre
      let hidden := (List.range p.cols).filter fun i => !(units.getD i default).good
      let u := fbkDec pipe
      let b := s1.slotBase n p.slot
      let stored := r.samples.map fun (x : DecRun) => { x with vals := x.vals.map p.stored }
      let (run1, s2) := (stored ++ p.greyChroma y h).foldl (fun a x => a.2.putRun u b p x a.1) (({} : WriteRun), s1)
      let (run2, s3) := hidden.foldl (fun a i => a.2.concealUnit n p (first + i) a.1) (run1, s2)
      if !run2.ok then s3.decAfter n run2
      else
        let q := { p with pre := pre, filters := p.filters ++ units.map (fun v => v.filters), conceal := p.conceal + hidden.length, gap := gap }
        let s4 := ((s3.setDec n { s3.dec n with cur := some q, winPix := (s3.dec n).winPix + samples }).bump
          (Reg.DEC_SES_CNT_CONCEAL n) hidden.length).bumpWrap (Reg.DEC_PIPE_CNT_ROWS pipe)
        let s5 := (r.errors ++ lost).foldl (fun t c => t.decError n c hidden.length) s4
        let s6 := if over_ then ((s5.bump (Reg.DEC_SES_CNT_OVERRUN n)).bump (Reg.DEC_PIPE_CNT_OVERRUN pipe)).decError n deRowOverrun hidden.length
          else s5
        if q.cols * q.rows ≤ pre.length then s6.endPicture n
        else if r.dry && (s6.dec n).marker then s6.concealRest n deDataLost false
        else s6

/-- The layers that show session `n`, as output and slot. -/
def State.decViews (s : State) (n : Nat) : List (Nat × Nat) :=
  (List.range 32).flatMap fun o => ((List.range 8).filter fun k =>
    s.isSet (Reg.CNP_LAYER_CFG_EN o k) && s.fld (Reg.CNP_LAYER_CFG_SOURCE o k) == 1 && (s.layer o k).stage.id == n).map fun k => (o, k)

/-- Under rung 4 a session all of whose views are HALF_RATE, and whose LIMIT is at least 4 declared picture periods, skips pictures that
no later picture references (R422). A limit unit is 1,048,576 ns, a period 10^12 / RATE_MHZ ns. DEDUCED, unsafe (log 165). -/
def State.skipsPictures (s : State) (n : Nat) : Bool :=
  let l := s.decViews n
  s.rung 4 && !l.isEmpty && (l.all fun v => s.isSet (Reg.CNP_LAYER_CFG_HALF_RATE v.1 v.2)) &&
    4 * 10 ^ 12 ≤ (s.cell (s.pool 1 n).cell).limit * 1048576 * (s.dec n).rateMhz

/-! ### Service (R196) -/

/-- More pixels decoded than the allotment allows in the 10 ms window that runs. -/
def DecSes.over (d : DecSes) : Bool := d.w * d.h * d.rateMhz < d.winPix * 100 * 1000

/-- The pixels a session may still have decoded in this round of its pipe. DESIGN CHOICE, unsafe (log 199). -/
def State.credit (s : State) (n : Nat) : Nat := sparseGet 0 (s.decPipe (s.fld (Reg.DEC_SES_CTRL_PIPE n))).credit n

/-- The other sessions within their allotment that wait on the pipe of session `n`: items lie in their queues. DESIGN CHOICE, unsafe (log 199). -/
def State.rivals (s : State) (n : Nat) : List Nat :=
  s.openDecs.filter fun m =>
    let d := s.dec m
    m != n && s.fld (Reg.DEC_SES_CTRL_PIPE m) == s.fld (Reg.DEC_SES_CTRL_PIPE n) && !d.parked && !d.stuck && !d.over &&
      s.rd (Reg.PKT_Q_RD m) != s.rd (Reg.PKT_Q_WR m)

/-- Whether it is session `n`'s turn: one over its allotment is served only where no other waits; the others as long as they have credit in the round,
and when none that waits has any. DESIGN CHOICE, unsafe (log 199). -/
def State.decTurn (s : State) (n : Nat) : Bool :=
  if (s.dec n).over then (s.rivals n).isEmpty else 0 < s.credit n || (s.rivals n).all fun m => s.credit m == 0

/-- A row of `pix` samples served; a session without credit begins a new round, in which each session of the pipe may have 1 ms of its
allotment. DESIGN CHOICE, unsafe (log 199). -/
def State.serve (s : State) (n pix : Nat) : State :=
  let p := s.fld (Reg.DEC_SES_CTRL_PIPE n)
  let x := s.decPipe p
  let l := if s.credit n == 0 then
      (s.decsOn p).foldl (fun a m => sparsePut 0 a m ((s.dec m).w * (s.dec m).h * (s.dec m).rateMhz / 10 ^ 6)) [] else x.credit
  s.setDecPipe p { x with credit := sparsePut 0 l n (sparseGet 0 l n - pix) }

/-- The luma samples of the row that is due. -/
def State.rowSamples (s : State) (n : Nat) : Nat :=
  match (s.dec n).cur with
  | some p => p.w * min p.unit (p.h - p.pre.length / p.cols * p.unit)
  | none => 0

/-- A row served and decoded. -/
def State.serveRow (s : State) (n : Nat) (r : DecRow) : State := (s.serve n (s.rowSamples n)).rowOps n r

/-- Whether a parameter set comes with a row. -/
def rowParams (r : DecRow) : Bool :=
  ((({} : DecPic).judgeNals r.nals).2.1).any fun x => x.1.kind == 1 && x.2 == 0

/-- A pipe decodes one row of a session whose turn it is: the next of the picture in flight, or the first of a new picture, whose access unit ends
the one before it (R211). DESIGN CHOICE, safe (log 68). DEDUCED, unsafe (log 165, 200). -/
def State.decRow (s : State) (n : Nat) (r : DecRow) : State :=
  let p := s.fld (Reg.DEC_SES_CTRL_PIPE n)
  let d := s.dec n
  let works := (s.isSet (Reg.DEC_PIPE_STAT_EN p) || d.pipeDrain) && s.queueTakes 0x08 (2 * p) && s.queueTakes 0x08 (2 * p + 1)
  if !s.isSet (Reg.DEC_SES_CTRL_OPEN n) || s.decState n == dsResetting || d.parked || !works || d.stuck || !s.decTurn n then s
  else match d.cur, r.head with
    | some _, none => s.serveRow n r
    | none, none => s
    | _, some h =>
      let t := if d.cur.isSome then s.concealRest n deDataLost false else s
      let passed_ : DecSes := { t.dec n with uLast := some (unwrapRtp (t.dec n).uLast h.rtp) }
      if t.decState n == dsDraining || d.pipeDrain then t
      else if t.decState n == dsWaitParams && !rowParams r then (({} : DecPic).judgeNals r.nals).2.2.foldl (fun u c => u.decError n c 0) t
      else if (t.dec n).wantWhole && !h.whole then t.setDec n { passed_ with skipping := true }
      else if !h.later && t.skipsPictures n then t.setDec n passed_
      else (t.beginPicture n h).serveRow n r

/-- DEC_ROW_DECODE, as R194 has it. -/
def execDecRowDecode (dt : Nat) (session : Fin 128) (row : DecRow) (s : State) : Host.Outcome State Fault Refusal :=
  .next ((s.pass dt).decRow session.val row)

/-! ### DEC_PICTURE_COMPLETE, DEC_PICTURE_TIMEOUT, DEC_RATE_WINDOW_END -/

/-- The codec outputs the waiting picture at position `index`: it is complete (R200). A parked session completes none (R425). -/
def State.outputPicture (s : State) (n index : Nat) : State :=
  let d := s.dec n
  match d.out[index]? with
  | none => s
  | some p => if d.parked then s else (s.setDec n { d with out := d.out.eraseIdx index }).completePicture n p

/-- DEC_PICTURE_COMPLETE, as R202 has it. -/
def execDecPictureComplete (dt : Nat) (session : Fin 128) (index : Nat) (s : State) : Host.Outcome State Fault Refusal :=
  .next ((s.pass dt).outputPicture session.val index)

/-- R211: two declared picture periods without a packet end the picture. A period is 10^12 / RATE_MHZ ns. -/
def State.pictureTimeout (s : State) (n : Nat) : State :=
  let d := s.dec n
  if d.cur.isSome && d.lastPacket + ceilDiv (10 ^ 12) d.rateMhz ≤ s.tick then s.concealRest n deDataLost false else s

/-- DEC_PICTURE_TIMEOUT, as R211 has it. -/
def execDecPictureTimeout (dt : Nat) (session : Fin 128) (s : State) : Host.Outcome State Fault Refusal :=
  .next ((s.pass dt).pictureTimeout session.val)

/-- R196: the end of a session's 10 ms window; more pixels than the allotment allows count it OVERRATE. -/
def State.rateWindow (s : State) (n : Nat) : State :=
  let d := s.dec n
  if !s.isSet (Reg.DEC_SES_CTRL_OPEN n) || s.tick < d.winAt + 10 * ticksPerMs then s
  else
    let t := s.setDec n { d with winPix := 0, winAt := d.winAt + 10 * ticksPerMs }
    if d.w * d.h * d.rateMhz < d.winPix * 100 * 1000 then
      (t.bump (Reg.DEC_SES_CNT_OVERRATE n)).raise (Reg.DEC_SES_STAT_OVERRATE n)
    else t

/-- DEC_RATE_WINDOW_END, as R196 has it. -/
def execDecRateWindowEnd (dt : Nat) (session : Fin 128) (s : State) : Host.Outcome State Fault Refusal :=
  .next ((s.pass dt).rateWindow session.val)

/-! ### Drain (R220, R221) -/

/-- A session's drain is complete: its picture in flight has ended, or its reset has (R197). -/
def State.decDrained (s : State) (n : Nat) : State :=
  let d := s.dec n
  if s.decState n == dsResetting then s.finishDecClose n
  else if d.drainAt.isNone || d.cur.isSome || d.stuck then s
  else if d.pipeDrain then
    ((s.setDec n { d with pipeDrain := false, drainAt := none }).atBoundary n).pipeMoved (s.fld (Reg.DEC_SES_CTRL_PIPE n))
  else (s.flushOut n).finishDecClose n

/-- DEC_DRAIN_COMPLETE, as R220 has it. -/
def execDecDrainComplete (dt : Nat) (session : Fin 128) (s : State) : Host.Outcome State Fault Refusal :=
  .next ((s.pass dt).decDrained session.val)

/-- A session's drain has reached its timeout: it is reset, and is RESETTING until the drain's remaining steps are done. -/
def State.decDrainTimeout (s : State) (n : Nat) : State :=
  let d := s.dec n
  match d.drainAt with
  | none => s
  | some t =>
    if s.tick < t then s
    else
      let s1 := if d.pipeDrain then s else s.setDecState n dsResetting
      let s2 := (s1.resetDec n).logFault 0x19 1 (0x100 + n) d.stuck
      if d.pipeDrain then
        ((s2.setDec n { s2.dec n with pipeDrain := false }).atBoundary n).pipeMoved (s.fld (Reg.DEC_SES_CTRL_PIPE n))
      else s2

/-- DEC_DRAIN_TIMEOUT, as R220 has it. -/
def execDecDrainTimeout (dt : Nat) (session : Fin 128) (s : State) : Host.Outcome State Fault Refusal :=
  .next ((s.pass dt).decDrainTimeout session.val)

end Sys2Proof.Machine
end

