-- ==== Sys2Proof/Machine/EncPool.lean ====
section
/-! DEFINITION. The encode pool (spec/08_encode_pool.md) and its transmit flows (R268 to R270): placement, the tap, rate control,
Coppice refresh, row-age maps, chunks, packets. The codec's output is an operand of ENC_ROW_CODE. -/

namespace Sys2Proof.Machine

open Sys2Proof

def State.encPipe (s : State) (p : Nat) : PipeSt := sparseGet {} s.encPipes p
def State.setEncPipe (s : State) (p : Nat) (x : PipeSt) : State := { s with encPipes := sparsePut {} s.encPipes p x }

/-! ### Figures (R226, R232, R237) -/

/-- Unit size and row height of a codec. -/
def encUnit (codec : Nat) : Nat := if codec == 2 then 16 else 64

/-- The unit of a session. -/
def State.encUnitOf (s : State) (n : Nat) : Nat := encUnit (s.fld (Reg.ENC_SES_CTRL_CODEC n))

/-- The allotment W × H × 10^9 / P / RATE_DIV in pixels per second, as a fraction. -/
def encAllot (m : Mode) (w h div : Nat) : Nat × Nat := (w * h * 1000000000 * m.pclk, m.pNum * div)

/-- Bp for a bit rate. -/
def encBp (m : Mode) (kbps div : Nat) : Nat := kbps * 1000 * div * m.pNum / (m.pclk * 10 ^ 9)

/-- skip_cost for a width in units. -/
def skipCost (cols : Nat) : Nat := 256 + 2 * cols

/-- The third condition of R232. -/
def encFloor (m : Mode) (unit w h kbps div : Nat) : Bool :=
  4 * (ceilDiv h unit * skipCost (ceilDiv w unit) + 4096) ≤ 3 * encBp m kbps div

/-- The effective bit rate: KBPS under rung 3's percentage (R237, R422). -/
def EncSes.effective (d : EncSes) : Nat := match d.cap with
  | some p => max 100 (d.kbps * p / 100)
  | none => d.kbps

/-! ### Placement -/

def State.encPipesUp (s : State) : List Nat := (List.range 4).filter fun p => s.isSet (Reg.ENC_PIPE_STAT_EN p)

def encPix : Nat := 500000000
def encKbps : Nat := 500000

/-- R417: an encode session ranks as its source output. -/
def State.encSlotted (s : State) (n : Nat) : Slotted :=
  let d := s.enc n
  let a := encAllot (s.mode (s.encOutput n)) (s.encW n) (s.encH n) d.rateDiv
  { id := n, key := s.outKey (s.encOutput n) * 256 + n, num := a.1, den := a.2, kbps := d.kbps,
    pipe := if d.parked then none else some (d.moveTo.getD (s.fld (Reg.ENC_SES_CTRL_PIPE n))) }

def State.encTable (s : State) : List Slotted := s.openEncs.map s.encSlotted

/-- The pipes' fields and ENC_STATUS follow the table. -/
def State.encFigures (s : State) : State :=
  let l := s.encTable
  let s1 := (List.range 4).foldl (fun t p =>
    let on := l.filter fun x => x.pipe == some p
    let a := allotSum on
    ((t.setFld (Reg.ENC_PIPE_STAT_SESSIONS p) on.length).setFld (Reg.ENC_PIPE_ALLOT_MBPS p)
      (ceilDiv (on.foldl (fun n x => n + x.kbps) 0) 1000)).setFld (Reg.ENC_PIPE_ALLOT_MPIX p) (ceilDiv a.1 (a.2 * 1000000))) s
  (s1.setFld Reg.ENC_STATUS_OPEN l.length).setFld Reg.ENC_STATUS_PIPE_EN (maskOf s.encPipesUp)

/-- A session onto pipe `p` (R232): at once between pictures, and at the next picture boundary while one is coded on a pipe that still codes it.
DEDUCED, unsafe (log 202). -/
def State.moveEnc (s : State) (n p : Nat) : State :=
  let d := s.enc n
  let at_ := s.fld (Reg.ENC_SES_CTRL_PIPE n)
  if d.cur.isSome && at_ != p && (s.isSet (Reg.ENC_PIPE_STAT_EN at_) || d.pipeDrain) then s.setEnc n { d with moveTo := some p }
  else (s.setFld (Reg.ENC_SES_CTRL_PIPE n) p).setEnc n { d with moveTo := none }

/-- A decided placement applied (R425). The pictures a parked session holds are discarded and counted (R248). -/
def State.applyEncPlaces (s : State) (l : List Slotted) : State :=
  let s1 := l.foldl (fun t x =>
    let d := t.enc x.id
    match x.pipe with
    | none => if d.parked then t
      else
        let u := (t.abortOwed x.id false).bump (Reg.ENC_SES_CNT_DROP x.id) d.sources.length
        (u.setEnc x.id { (u.enc x.id).giveUp with parked := true, sources := [], tapping := false, lines := [], moveTo := none }).parkNotice 1 x.id 0xFF true
    | some p =>
      if d.parked then
        ((t.setFld (Reg.ENC_SES_CTRL_PIPE x.id) p).setEnc x.id { d with parked := false, refresh := true }).parkNotice 1 x.id p false
      else t.moveEnc x.id p) s
  s1.encFigures

/-- A placement of encode sessions decided, applied and sent on (R425, R430). -/
def State.decideEncs (s : State) (l : List Slotted) : State := (s.applyEncPlaces l).sendDecision 7 0 (placementMoves l)

/-- Capacity returned (R426): by the device that decides, once Lysman firmware is ready (R247, R430). -/
def State.resumeEncs (s : State) : State :=
  let l := resumeParked encPix encKbps s.encPipesUp s.encTable
  if !s.decides || l == s.encTable then s else s.decideEncs l

/-- SOURCE, RECON and OUT loaded for a session (R233). -/
def State.loadEncPipe (s : State) (n : Nat) : State :=
  let p := s.fld (Reg.ENC_SES_CTRL_PIPE n)
  let x := s.encPipe p
  if x.loaded == some n then s
  else
    let d := s.enc n
    (s.loadRegions (fbkEnc p) [(d.srcBase, regionCfg true true d.srcLog), (d.recBase, regionCfg true true d.recLog),
      (d.outBase, regionCfg true true d.outLog)]).setEncPipe p { x with loaded := some n }

/-! ### Pipe faults (R233, R25) -/

/-- The sessions placed on pipe `p`. -/
def State.encsOn (s : State) (p : Nat) : List Nat := (s.encTable.filter fun x => x.pipe == some p).map fun x => x.id

/-- ENC_PIPE_FAULT (R250), to partition 0 and to the owners of the sessions `ids` of the pipe. -/
def State.encPipeNotice (s : State) (p cause cls moved : Nat) (ids : List Nat) : State :=
  s.notice 0x0706 p (0 :: ids.map fun n => s.encOwner n).dedup (pack [(1, p), (1, cause), (1, cls), (1, moved)])

/-- The rows not yet coded in the pictures of a pipe are to be coded as skip (R25, kind 0x09). -/
def State.skipRest (s : State) (p : Nat) : State :=
  (s.openEncs.filter fun n => s.fld (Reg.ENC_SES_CTRL_PIPE n) == p && !(s.enc n).parked).foldl (fun t n =>
    let d := t.enc n
    match d.cur with
    | none => t
    | some c => t.setEnc n { d with cur := some { c with forceSkip := true } }) s

/-- A pipe taken out of service for good; its sessions are placed again (R25, R425) by the device that
decides (R430), once Lysman firmware is ready (R247). DEDUCED, unsafe (log 166). -/
def State.removeEncPipe (s : State) (p cause : Nat) : State :=
  let s1 := (((s.firePressure 6).skipRest p).setFld (Reg.ENC_PIPE_STAT_EN p) 0).setFld (Reg.ENC_PIPE_STAT_FAULTED p) 1
  let ids := s1.encsOn p
  let l := replace encPix encKbps s1.encPipesUp ids s1.encTable
  let moved := (l.filter fun x => ids.contains x.id && x.pipe.isSome).length
  if !s.decides then s1.encFigures.encPipeNotice p cause 2 0 ids
  else ((s1.applyEncPlaces l).sendDecision 5 p (placementMoves l)).encPipeNotice p cause 2 moved ids

/-- What an access of a session's pipe leaves: a violation is a pipe fault, a LASTING one removes the pipe. DEDUCED, unsafe (log 75). -/
def State.encAfter (s : State) (n : Nat) (run : WriteRun) : State :=
  if run.ok then s
  else
    let p := s.fld (Reg.ENC_SES_CTRL_PIPE n)
    let t := (s.bump (Reg.ENC_PIPE_CNT_FBK p)).skipRest p
    if run.lasting then t.removeEncPipe p 2 else t.encPipeNotice p 0 1 0 (t.encsOn p)

/-! ### Drops and restarts (R230, R236, R244, R268) -/

/-- The Coppice cycle restarts at the next picture. -/
def State.coppice (s : State) (n : Nat) : State := s.setEnc n { s.enc n with refresh := true }

/-- ENC_DROP with its count: CAUSE 0 slot busy, 1 ring full, 2 transmit loss. The Coppice cycle restarts at the picture after it (R236): the next to be
tapped after a frame that the tap dropped, the next to be coded after a picture discarded. -/
def State.encDrop (s : State) (n cause : Nat) : State :=
  let d := s.enc n
  let s1 := (s.bump (Reg.ENC_SES_CNT_DROP n)).setEnc n
    { d with dropBefore := true, refresh := d.refresh || cause != 0, dropped := d.dropped || cause == 0 }
  s1.notice 0x0703 n [0, s.encOwner n] (pack [(1, n), (1, cause), (2, 0), (4, s.rd (Reg.ENC_SES_PICS n))])

/-! ### The tap (R228 to R230) -/

/-- The slots of a session: 2 in LOW, 3 in PICTURE. -/
def State.encSlots (s : State) (n : Nat) : Nat := if s.fld (Reg.ENC_SES_CTRL_LATENCY n) == 0 then 2 else 3

/-- The stored format of source pictures, by bit depth. -/
def State.encFmt (s : State) (n : Nat) : Nat := if s.fld (Reg.ENC_SES_CTRL_CODEC n) == 1 then 4 else 3

/-- A fraction rounded down, or up where the free rounding of the tap says so. DESIGN CHOICE, safe (log 73). -/
def tapRound (c num den : Nat) : Nat := num / den + (if num % den != 0 && Config.tapUp c num den then 1 else 0)

/-- Y, Cb and Cr of a box of `a` pixels with colour sums r, g, b: BT.709, limited range, at bit depth 8 + k. -/
def tapYuv (k a r g b : Nat) : Nat × Nat × Nat :=
  let y := 2126 * r + 7152 * g + 722 * b
  let full := 1023 * a
  (tapRound 0 (2 ^ k * (219 * y + 16 * 10000 * full)) (10000 * full),
   tapRound 1 (2 ^ k * (224 * (9278 * b) + 128 * 18556 * full - 224 * (2126 * r + 7152 * g))) (18556 * full),
   tapRound 2 (2 ^ k * (224 * (7874 * r) + 128 * 15748 * full - 224 * (7152 * g + 722 * b))) (15748 * full))

/-- The YCbCr of encoded pixel `x` of a group of `d.divY` raw lines. -/
def EncSes.boxAt (d : EncSes) (k : Nat) (group : List (List Nat)) (x : Nat) : Nat × Nat × Nat :=
  let px := group.flatMap fun l => (l.drop (x * d.divX)).take d.divX
  tapYuv k px.length ((px.map redOf).foldl (· + ·) 0) ((px.map greenOf).foldl (· + ·) 0) ((px.map blueOf).foldl (· + ·) 0)

/-- A sample in the stored form. -/
def tapSample (fmt v : Nat) : List Byte := if fmt == 4 then leBytes 2 (v * 64) else leBytes 1 v

/-- Two rows of the encoded picture written from 2 × divY raw lines: luma, then the chroma of each 2 × 2 block. -/
def State.tapRows (s : State) (n : Nat) (src : EncSrc) : State :=
  let d := s.enc n
  let fmt := s.encFmt n
  let k := if fmt == 4 then 2 else 0
  let w := s.encW n
  let (o1, s0, s1) := planes fmt w (s.encH n)
  let base := d.srcBase + src.slot * slotBytes fmt w (s.encH n)
  let row (j : Nat) : List (Nat × Nat × Nat) := (List.range w).map fun x => d.boxAt k ((d.lines.drop (j * d.divY)).take d.divY) x
  let top := row 0
  let low := row 1
  let luma (l : List (Nat × Nat × Nat)) : List Byte := l.flatMap fun p => tapSample fmt p.1
  let quad (f : Nat × Nat × Nat → Nat) (j : Nat) : Nat :=
    f (top.getD (2 * j) default) + f (top.getD (2 * j + 1) default) + f (low.getD (2 * j) default) + f (low.getD (2 * j + 1) default)
  let chroma := (List.range (w / 2)).flatMap fun j =>
    tapSample fmt (tapRound 1 (quad (fun p => p.2.1) j) 4) ++ tapSample fmt (tapRound 2 (quad (fun p => p.2.2) j) 4)
  let u := fbkEnc (s.fld (Reg.ENC_SES_CTRL_PIPE n))
  let t0 := s.loadEncPipe n
  let (r1, t1) := t0.unitWrite u (base + src.lines * s0) (luma top) {}
  let (r2, t2) := t1.unitWrite u (base + (src.lines + 1) * s0) (luma low) r1
  let (r3, t3) := t2.unitWrite u (base + o1 + src.lines / 2 * s1) chroma r2
  t3.encAfter n r3

/-- The source picture of slot `i` replaced, also where it is being coded. -/
def EncSes.putSource (d : EncSes) (x : EncSrc) : EncSes :=
  { d with
    sources := d.sources.map fun y => if y.slot == x.slot then x else y
    cur := d.cur.map fun (c : EncCur) => if c.src.slot == x.slot then { c with src := x } else c }

/-- Line `y` of the output passes the tap of session `n`. -/
def State.tapLine (s : State) (n y : Nat) (px : List Nat) : State :=
  let d := s.enc n
  match d.tapped with
  | none => s
  | some src =>
    if y < d.crop.y || d.crop.y + d.crop.h ≤ y then s
    else
      let lines := d.lines ++ [(px.drop d.crop.x).take d.crop.w]
      if lines.length < 2 * d.divY then s.setEnc n { d with lines := lines }
      else
        let s1 := (s.setEnc n { d with lines := lines }).tapRows n src
        let unit := s.encUnitOf n
        let new := src.lines + 2
        let rowDone := new % unit == 0 || new == s.encH n
        let x := { src with lines := new, whole := new == s.encH n,
                            rowTicks := if rowDone then src.rowTicks ++ [s.tick] else src.rowTicks }
        let d1 := (s1.enc n).putSource x
        s1.setEnc n { d1 with lines := [], tapping := !x.whole }

/-- An active line reaches the encode taps. -/
def State.encTap (s : State) (out y : Nat) (px : List Nat) : State :=
  (s.openEncs.filter fun n => s.encOutput n == out).foldl (fun t n => t.tapLine n y px) s

/-- The tap at a frame start of session `n`: a source picture begins in the slot due, or the frame is dropped. -/
def State.tapFrame (s : State) (n f : Nat) : State :=
  let d := s.enc n
  if d.parked || f % d.rateDiv != 0 then s
  else if d.sources.any fun x => x.slot == d.nextSlot then
    (s.raise (Reg.ENC_SES_STAT_DROP n)).encDrop n 0
  else
    let out := s.encOutput n
    let ns := (s.rd (Reg.CNP_OUT_FSTART_SEC_LO out) + 2 ^ 32 * s.rd (Reg.CNP_OUT_FSTART_SEC_HI out)) * 10 ^ 9 + s.rd (Reg.CNP_OUT_FSTART_NS out)
    let x : EncSrc := { slot := d.nextSlot, t := s.nowOf ageCmp, rtp := ns * 90000 / 10 ^ 9 % 2 ^ 32, f := f, restart := d.dropped }
    s.setEnc n { d with dropped := false, sources := d.sources ++ [x], tapping := true, lines := [], nextSlot := (d.nextSlot + 1) % s.encSlots n }

/-- A frame of output `out` starts: sessions waiting for it resume, running ones take the frame (R228, R230). -/
def State.encFrameStart (s : State) (out f : Nat) : State :=
  (s.openEncs.filter fun n => s.encOutput n == out).foldl (fun t n =>
    let t1 := if t.encState n == esWaitSource && t.outState out == osRunning && t.encFits n then (t.setEncState n esRunning).coppice n
      else if t.encState n == esRunning && !t.encFits n then t.encLose n 1 else t
    if t1.encState n == esRunning then t1.tapFrame n f else t1) s

/-! ### Rate control (R237 to R239) -/

/-- 2^(b/6) for b from 0 to 5, in units of 2^-40, rounded down. -/
def sixths : List Nat := [1099511627776, 1234160073853, 1385297844439, 1554944255987, 1745365914582, 1959106999532]

/-- 2^(k/6) in units of 2^-40. -/
def pow6 (k : Int) : Nat :=
  let b := sixths.getD (k % 6).toNat 0
  let a := k / 6
  if 0 ≤ a then b * 2 ^ a.toNat else b / 2 ^ (-a).toNat

/-- A row's complexity c in units of 2^-40: the bits of its last coded instance × 2^((its QP − 26) / 6), and after the IDR picture that row's bits
divided by 4 (R238). -/
def EncRow.complexity (r : EncRow) : Nat := if r.idr then r.bits * 2 ^ 40 / 4 else r.bits * pow6 ((r.qp : Int) - 26)

/-- est(r, qp) in units of 2^-40. DEDUCED, unsafe (log 72). -/
def EncRow.est (r : EncRow) (qp : Nat) : Nat :=
  if r.idr then r.bits * pow6 (26 - (qp : Int)) / 4 else r.bits * pow6 ((r.qp : Int) - qp)

/-- The QP whose est is nearest t = own × c / sum: the one with 2^((26 − qp)/6) × sum nearest own. The lower of two equally near. DEDUCED, unsafe (log 72). -/
def nearestQp (own : Int) (sum : Nat) : Nat :=
  let gap (q : Nat) : Nat := ((pow6 (26 - (q : Int)) * sum : Nat) - own * 2 ^ 80 : Int).natAbs
  (List.range 51).foldl (fun b q => if gap (q + 1) < gap b then q + 1 else b) 0

/-- What rate control decides before a row: whether the picture is now exhausted, the QP, whether the row may be coded at it, and
the bits available. -/
structure RowPlan where
  exhausted : Bool := false
  qp : Nat := 0
  may : Bool := true
  avail : Int := 0
  deriving DecidableEq, Repr

/-- R238 for row `r` of a P picture. -/
def planRow (d : EncSes) (c : EncCur) (rows cost : Nat) : RowPlan :=
  let r := c.row
  let reserve : Int := (cost * (rows - r - 1) : Nat)
  let avail : Int := (c.budget : Int) + c.borrow - c.spent - reserve
  let own : Int := (c.budget : Int) - c.spent - reserve
  let rest := d.rows.drop r
  let me := d.rows.getD r {}
  let sum := rest.foldl (fun a x => a + x.complexity) 0
  let short := me.bits != 0 && own * 2 ^ 40 < ((rest.foldl (fun a x => a + x.est d.qpMax) 0 : Nat) : Int)
  let ex := c.exhausted || short
  let near := clampTo (c.qpPrev - d.dqp) (c.qpPrev + d.dqp) (nearestQp own sum)
  let qp := if ex then d.qpMax else clampTo d.qpMin d.qpMax near
  { exhausted := ex, qp := qp, may := (me.est qp : Int) ≤ avail * 2 ^ 40, avail := avail }

/-- Parts added to those that fall due with the next pictures. -/
def addParts : List Int → List Int → List Int
  | [], l => l
  | l, [] => l
  | a :: x, b :: y => (a + b) :: addParts x y

/-- Outstanding debt, start debt included. -/
def EncSes.outstanding (d : EncSes) : Nat := ((d.startDebt : Int) + d.debt.foldl (· + ·) 0).toNat

/-- A picture's budget and borrowing limit, with the debt that is left (R239): no picture repays more than floor(Bp / 4), and what is due beyond it,
or while start debt remains, is deferred to the pictures after. -/
def EncSes.takeDebt (d : EncSes) (bp : Nat) : Nat × Nat × EncSes :=
  let cap := bp / 4
  if 0 < d.startDebt then
    let part := min d.startDebt cap
    (bp - part, 0, { d with startDebt := d.startDebt - part })
  else
    let due := d.debt.headD 0
    let part := min due (cap : Int)
    let rest := if due == part then d.debt.drop 1 else addParts [due - part] (d.debt.drop 1)
    (((bp : Int) - part).toNat, ((cap : Int) - rest.foldl (· + ·) 0).toNat, { d with debt := rest })

/-- The four parts of an overrun (R239). They add up to it, so that the fourth gives back what the first three take beyond an overrun of 1, 2 or 5 bits. -/
def debtParts (o : Nat) : List Int := let q : Int := ceilDiv o 4
  [q, q, q, o - 3 * q]

/-- R235: T_i. -/
def bandEnd (i cols refreshN : Nat) : Nat := ceilDiv ((i + 1) * cols) refreshN

/-! ### Row-age map (R240) -/

/-- Bytes 0 to 3 after two zero bytes get an emulation prevention byte, as both codec standards ask of a NAL unit. -/
def escapeNal : Nat → List Byte → List Byte
  | _, [] => []
  | z, b :: t => if 2 ≤ z && b.toNat ≤ 3 then 3 :: b :: escapeNal (if b == 0 then 1 else 0) t
    else b :: escapeNal (if b == 0 then z + 1 else 0) t

/-- A size in the form of an SEI message: bytes of 255, then the rest. -/
def seiSize (n : Nat) : List Byte := List.replicate (n / 255) 255 ++ leBytes 1 (n % 255)

/-- The payload of a row-age map. -/
def rowAgePayload (restart : Bool) (rows log2 : Nat) (ages : List (Nat × Nat)) : List Byte :=
  [0x4A, 0x79, 0xC3, 0x0E, 0x5B, 0x62, 0x4D, 0x18, 0x9F, 0x27, 0xE1, 0x80, 0x3C, 0xD6, 0x72, 0xB5] ++
    pack [(1, 1), (1, ofBool restart), (2, rows), (1, log2), (1, 0), (2, ages.length), (ceilDiv rows 8, maskOf (ages.map Prod.fst))] ++
    ages.flatMap fun a => leBytes 4 (min a.2 0xFFFFFFFF)

/-- The prefix SEI NAL unit that carries it. -/
def rowAgeNal (avc : Bool) (payload : List Byte) : List Byte :=
  (if avc then [0x06] else [0x4E, 0x01]) ++ escapeNal 0 ([5] ++ seiSize payload.length ++ payload ++ [0x80])

/-! ### The stream (R227, R235) -/

/-- A slice behind its NAL unit header: IDR_N_LP and TRAIL_R in HEVC, an IDR and a P slice in H.264. DESIGN CHOICE, safe (log 68). -/
def sliceNal (avc idr : Bool) (b : List Byte) : List Byte :=
  (if avc then [if idr then 0x65 else 0x61] else if idr then [0x28, 0x01] else [0x02, 0x01]) ++ b

/-- The parameter sets in their order, each behind its NAL unit header: VPS, SPS and PPS, or SPS and PPS. -/
def setNals (avc : Bool) (l : List (List Byte)) : List (List Byte) :=
  let heads : List (List Byte) := if avc then [[0x67], [0x68]] else [[0x40, 0x01], [0x42, 0x01], [0x44, 0x01]]
  (heads.zip l).map fun x => x.1 ++ x.2

/-- The encoded picture of a session as its slots hold it. -/
def State.encPic (s : State) (n : Nat) : DecPic :=
  { w := s.encW n, h := s.encH n, fmt := s.encFmt n, unit := s.encUnitOf n, depth := if s.encFmt n == 4 then 10 else 8,
    avc := s.fld (Reg.ENC_SES_CTRL_CODEC n) == 2 }

/-- The address of reconstruction slot `i`. -/
def State.recBase (s : State) (n i : Nat) : Nat := (s.enc n).recBase + i * slotBytes (s.encFmt n) (s.encW n) (s.encH n)

/-- The reconstruction of row `r` written (R233): the samples as coded, or of a skip row the co-located samples of the reference. -/
def State.reconRow (s : State) (n r : Nat) (skip : Bool) (l : List DecRun) : WriteRun × State :=
  let p := s.encPic n
  let u := fbkEnc (s.fld (Reg.ENC_SES_CTRL_PIPE n))
  let k := (s.enc n).recSlot
  if skip then
    ((List.range p.cols).flatMap fun i => p.unitRuns (r * p.cols + i)).foldl (fun a x =>
      a.2.copyRun u (s.recBase n k) (some (s.recBase n (1 - k))) p x.1 x.2 a.1) (({} : WriteRun), s)
  else (l.map fun (x : DecRun) => { x with vals := x.vals.map p.stored }).foldl (fun a x => a.2.putRun u (s.recBase n k) p x a.1) (({} : WriteRun), s)

/-- A block in a unit's footprint, as the decode pool grows it (R215): whether it lies left of B′ − 1 in each row's columns. -/
def footprintConfined (p : DecPic) (bounds : List Nat) (b : RefBlock) : Bool :=
  (p.footprint p.avc b).all fun i => i % p.cols + 1 < bounds.getD (i / p.cols) 0

/-- Whether the units of row `c.row` are predicted as R235 has it: all of an intra-coded picture, and those of the band, intra-coded; none at the
band's right edge reading to the right of it; every block read for those left of the band confined to what the reference has refreshed. -/
def EncSes.predicts (d : EncSes) (p : DecPic) (c : EncCur) (l : List EncUnit) : Bool :=
  let b := (d.rows.getD c.row {}).bound
  let t := bandEnd d.pos p.cols d.refreshN
  (List.range p.cols).all fun j =>
    let u := l.getD j {}
    let band := b ≤ j + 1 && j < t
    (!(c.intra || band) || u.inter.isEmpty) && !(band && j + 1 == t && u.right) && (t ≤ j || u.inter.all fun x => footprintConfined p c.bounds x)

/-- Whether what a stream says is what R226, R227 and R238 state of a codec. -/
def streamObeys (x : EncStream) (codec : Nat) : Bool :=
  x.profile == codec && x.level == 51 && !x.across && !x.tiles && !x.wpp && x.cabac && x.matrix == 1 && !x.full && x.deblockSkip == 1 &&
    (if codec == 2 then x.deblock == 2 else !x.tmvp && !x.saoSkip)

/-- Whether a row is one that the pipe codes (R226, R227, R235, R238): its stream says what those rules state, the parameter sets due with it are all
there, its units are predicted as R235 has it, and a skip row costs at most skip_cost. -/
def State.rowObeys (s : State) (n : Nat) (op : EncCode) : Bool :=
  let d := s.enc n
  match d.cur with
  | none => false
  | some c =>
    let p := s.encPic n
    streamObeys op.stream (s.fld (Reg.ENC_SES_CTRL_CODEC n)) && d.predicts p c op.units &&
      (c.row != 0 || d.pos != 0 || (op.sets.length == (if p.avc then 2 else 3) && op.sets.all fun x => !x.isEmpty)) &&
      8 * (sliceNal p.avc false op.skip).length - c.heads.getD c.row 0 ≤ skipCost p.cols

/-! ### Packets (R268 to R270) -/

/-- The ones' complement checksum of the Internet protocols. -/
def inetSum (l : List Byte) : Nat :=
  let rec go : Nat → List Byte → Nat
    | a, x :: y :: t => go (a + x.toNat * 256 + y.toNat) t
    | a, [x] => a + x.toNat * 256
    | a, [] => a
  let t := go 0 l
  let u := t % 65536 + t / 65536
  65535 - (u % 65536 + u / 65536)

/-- A UDP datagram over IPv4 or IPv6 in an Ethernet frame of a flow. -/
def State.udpFrame (s : State) (f : TxFlow) (port dst : Nat) (data : List Byte) : List Byte :=
  let len := 8 + data.length
  let src := if f.v6 then f.srcIp else f.srcIp.take 4
  let dip := if f.v6 then f.dstIp else f.dstIp.take 4
  let pseudo := src ++ dip ++ (if f.v6 then beBytes 4 len ++ beBytes 4 17 else beBytes 2 17 ++ beBytes 2 len)
  let head := beBytes 2 f.srcPort ++ beBytes 2 dst ++ beBytes 2 len
  let sum := inetSum (pseudo ++ head ++ beBytes 2 0 ++ data)
  let udp := head ++ beBytes 2 (if sum == 0 then 65535 else sum) ++ data
  let ip := if f.v6 then beBytes 4 (6 * 2 ^ 28 + f.dscp * 2 ^ 22) ++ beBytes 2 len ++ beBytes 1 17 ++ beBytes 1 f.ttl ++ src ++ dip
    else
      let h1 := beBytes 2 (0x4500 + f.dscp * 4) ++ beBytes 2 (20 + len) ++ beBytes 2 0 ++ beBytes 2 0x4000 ++ beBytes 1 f.ttl ++ beBytes 1 17
      h1 ++ beBytes 2 (inetSum (h1 ++ beBytes 2 0 ++ src ++ dip)) ++ src ++ dip
  let tag := if f.vlan == 0 then [] else beBytes 2 0x8100 ++ beBytes 2 (f.pcp * 8192 + f.vlan)
  ethSeal (f.mac ++ s.portMac port ++ tag ++ beBytes 2 (if f.v6 then 0x86DD else 0x0800) ++ ip ++ udp)

/-- The key of an SRTP index (R258). -/
def SrtpSt.keyFor (x : SrtpSt) (index : Nat) : Option SrtpKey :=
  match x.new with
  | some k => if index == k.start || newer 48 index k.start then some k else x.cur
  | none => x.cur

/-- The key of reports: the one that the flow's packets of index `index` have, or, before any applies to them, the first one installed. DEDUCED, unsafe (log 158). -/
def SrtpSt.reportKey (x : SrtpSt) (index : Nat) : Option SrtpKey := (x.keyFor index).or x.new

/-- The first packet under the new key erases the old one (R258). -/
def SrtpSt.renewed (x : SrtpSt) (index : Nat) : SrtpSt :=
  match x.new with
  | some k => if index == k.start || newer 48 index k.start then { x with cur := some k, new := none } else x
  | none => x

/-- Whether a flow without SRTP, or with a key, can send. -/
def keyReady (on : Bool) (k : Option SrtpKey) : Bool := !on || k.isSome

/-- A packet protected where the flow has SRTP and a key. DESIGN CHOICE, safe (log 16). -/
def sealWith (on : Bool) (key : Option SrtpKey) (index : Nat) (packet : List Byte) : List Byte :=
  if !on then packet
  else match key with
    | some k => Config.srtpSeal (leNat k.key) (leNat k.salt) index packet
    | none => packet

/-- Whether a flow's packets leave the device (R270). -/
def State.txSends (s : State) (n : Nat) : Bool := s.isSet (Reg.PKT_TX_CTRL_SENDING n)

/-- SEQ advances, and with its wrap the ROC. -/
def State.advanceSeq (s : State) (n : Nat) : State :=
  let q := s.fld (Reg.PKT_TX_CTRL_SEQ n)
  let t := s.setFld (Reg.PKT_TX_CTRL_SEQ n) ((q + 1) % 65536)
  if q == 65535 then t.wr (Reg.PKT_TX_ROC n) (wrapAdd 32 (s.rd (Reg.PKT_TX_ROC n)) 1) else t

/-- A frame handed to port `p`'s transmit buffer; the answer says whether it fitted. -/
def State.txPut (s : State) (p : Nat) (f : TxFrame) : Bool × State :=
  if !s.linkUp p then (true, s)
  else if !s.queueTakes 0x07 (2 * p + 1) || 524288 < s.txFill p + f.bytes.length then (false, s)
  else
    let x := s.portSt p
    (true, (s.setPort p { x with txq := x.txq ++ [f] }).drainTx p)

/-- One RTP packet of a session's flow; the answer says whether it was taken. A packet of a port whose link is down, or of an SRTP
flow without a key for it, is discarded. DEDUCED, safe (log 157). -/
def State.txPacket (s : State) (n : Nat) (f : TxFlow) (marker : Bool) (ts : Nat) (payload : List Byte) : Bool × State :=
  let seq := s.fld (Reg.PKT_TX_CTRL_SEQ n)
  let index := s.rd (Reg.PKT_TX_ROC n) * 65536 + seq
  let t := s.advanceSeq n
  if !s.txSends n then (true, t)
  else
    let packet := beBytes 1 0x80 ++ beBytes 1 (ofBool marker * 128 + f.pt) ++ beBytes 2 seq ++ beBytes 4 ts ++ beBytes 4 f.ssrc ++ payload
    let port := s.fld (Reg.PKT_TX_CTRL_PORT n)
    let key := f.keys.keyFor index
    if !s.linkUp port || !keyReady f.srtp key then (true, t.bump (Reg.PKT_TX_CNT_LOSS n)) else
    let (ok, u) := t.txPut port { pcp := f.pcp, session := some n, bytes := t.udpFrame f port f.dstPort (sealWith f.srtp key index packet) }
    if !ok then (false, u)
    else
      let d := u.enc n
      (true, u.setEnc n { d with flow := d.flow.map fun g =>
        { g with packets := g.packets + 1, octets := g.octets + payload.length, keys := if g.srtp then g.keys.renewed index else g.keys } })

/-- Whether a NAL unit is a parameter set or SEI. -/
def isParam (avc : Bool) (nal : List Byte) : Bool :=
  let b := fieldAt nal 0 1
  if avc then [6, 7, 8].contains (b % 32) else [32, 33, 34, 39, 40].contains (b / 2 % 64)

/-- The fragments of a payload, `n` bytes each. -/
def fragments (n : Nat) : Nat → List Byte → List (List Byte)
  | _, [] => []
  | 0, l => [l]
  | k + 1, l => l.take n :: fragments n k (l.drop n)

/-- A NAL unit above `most` bytes as FU packets. -/
def fuPackets (avc : Bool) (most : Nat) (nal : List Byte) : List (List Byte) :=
  let b := fieldAt nal 0 1
  let head := if avc then 1 else 2
  let parts := fragments (most - (head + 1)) nal.length (nal.drop head)
  parts.mapIdx fun i p =>
    let se := ofBool (i == 0) * 128 + ofBool (i + 1 == parts.length) * 64
    (if avc then leBytes 1 (b / 32 * 32 + 28) ++ leBytes 1 (se + b % 32)
     else leBytes 1 (b / 128 * 128 + 49 * 2 + b % 2) ++ (nal.drop 1).take 1 ++ leBytes 1 (se + b / 2 % 64)) ++ p

/-- Consecutive parameter sets and SEI as one packet. -/
def aggregate (avc : Bool) (l : List (List Byte)) : List Byte :=
  match l with
  | [x] => x
  | _ => (if avc then [0x78] else [0x60, 0x01]) ++ l.flatMap fun x => beBytes 2 x.length ++ x

/-- The size of an aggregation packet. -/
def aggSize (avc : Bool) (l : List (List Byte)) : Nat := (if avc then 1 else 2) + l.foldl (fun a x => a + 2 + x.length) 0

/-- R268: NAL units made into packets of at most `most` bytes. `hold` are parameter sets and SEI gathered so far. -/
def packetise (avc : Bool) (most : Nat) : List (List Byte) → List (List Byte) → List (List Byte)
  | [], hold => if hold.isEmpty then [] else [aggregate avc hold]
  | x :: t, hold =>
    if isParam avc x && x.length ≤ most then
      if hold.isEmpty || aggSize avc (hold ++ [x]) ≤ most then packetise avc most t (hold ++ [x])
      else aggregate avc hold :: packetise avc most t [x]
    else
      (if hold.isEmpty then [] else [aggregate avc hold]) ++ (if x.length ≤ most then [x] else fuPackets avc most x) ++
        packetise avc most t []

/-- A packet's payload written to the transmit staging area of a session's OUT region (R233). -/
def State.stage (s : State) (n : Nat) (b : List Byte) : State :=
  let d := s.enc n
  let size := 2 ^ d.outLog
  let at_ := if size < d.staged % size + b.length then 0 else d.staged % size
  let t := s.loadEncPipe n
  let (run, u) := t.unitWrite (fbkEnc (s.fld (Reg.ENC_SES_CTRL_PIPE n))) (d.outBase + at_) b {}
  (u.setEnc n { u.enc n with staged := at_ + b.length }).encAfter n run

/-- A chunk's NAL units sent as packets; the answer says how many were not taken: one that did not fit and those behind it. -/
def State.txChunk (s : State) (n : Nat) (f : TxFlow) (ts : Nat) (last : Bool) (nals : List (List Byte)) : Nat × State :=
  let avc := s.fld (Reg.ENC_SES_CTRL_CODEC n) == 2
  let l := packetise avc f.most nals []
  (l.mapIdx fun i p => (last && i + 1 == l.length, p)).foldl (fun a x =>
    if a.1 != 0 then (a.1 + 1, a.2)
    else
      let t := if a.2.txSends n then a.2.stage n x.2 else a.2
      let (ok, u) := t.txPacket n ((t.enc n).flow.getD f) x.1 ts x.2
      (ofBool (!ok), u)) (0, s)

/-! ### Chunks in the host ring (R242 to R244) -/

/-- An Annex B byte stream. -/
def annexB (nals : List (List Byte)) : List Byte := nals.flatMap fun x => [0, 0, 0, 1] ++ x

/-- A chunk header. -/
def chunkHeader (len flags first count pic rtp f t : Nat) : List Byte :=
  pack [(4, len), (2, flags), (2, first), (2, count), (2, 0), (4, pic), (4, rtp), (4, f), (8, t)]

/-- ENC_RING_FAULT (R250). -/
def State.encRingFault (s : State) (n cause cons : Nat) : State :=
  s.notice 0x0705 n [0, s.encOwner n] (pack [(1, n), (1, cause), (2, 0), (4, cons), (4, s.rd (Reg.ENC_SES_RING_PROD n))])

/-- Bytes written at PROD of the ring, and PROD advanced. -/
def State.ringPut (s : State) (n : Nat) (b : List Byte) (size : Nat) : State :=
  let prod := s.rd (Reg.ENC_SES_RING_PROD n)
  let base := s.rd64 (Reg.ENC_SES_RING_BASE_LO n) (Reg.ENC_SES_RING_BASE_HI n)
  let t0 := s.loadEncPipe n
  let (run, t) := t0.unitWrite (fbkEnc (s.fld (Reg.ENC_SES_CTRL_PIPE n))) (base + prod % 2 ^ s.fld (Reg.ENC_SES_RING_CFG_LOG2_SIZE n)) b {}
  let t1 := t.wr (Reg.ENC_SES_RING_PROD n) (wrapAdd 32 prod size)
  if run.ok then t1
  else
    let t2 := if t1.isSet (Reg.ENC_SES_RING_STAT_FBK n) then t1
      else (t1.raise (Reg.ENC_SES_RING_STAT_FBK n)).encRingFault n 2 (s.rd (Reg.ENC_SES_RING_CONS n))
    t2.encAfter n run

/-- A chunk written when the ring has room for it and any pad; the answer says whether it had. -/
def State.ringChunk (s : State) (n len flags first count : Nat) (src : EncSrc) (payload : List Byte) : Bool × State :=
  let k := 2 ^ s.fld (Reg.ENC_SES_RING_CFG_LOG2_SIZE n)
  let prod := s.rd (Reg.ENC_SES_RING_PROD n)
  let size := alignUp (32 + payload.length) 32
  let left := k - prod % k
  let pad := if size ≤ left then 0 else left
  if k < wrapSub 32 prod (s.rd (Reg.ENC_SES_RING_CONS n)) + pad + size then (false, s)
  else
    let pic := s.rd (Reg.ENC_SES_PICS n)
    let s1 := if pad == 0 then s else s.ringPut n (chunkHeader 0 4 0 0 pic src.rtp src.f src.t) pad
    (true, s1.ringPut n (padTo size (chunkHeader len flags first count pic src.rtp src.f src.t ++ payload)) size)

/-! ### A picture handed out -/

/-- A chunk with ABORT that waited for space is written when there is space (R244). DEDUCED, unsafe (log 154). -/
def State.abortFlush (s : State) (n : Nat) : State :=
  let d := s.enc n
  match d.abortDue with
  | none => s
  | some x =>
    let (ok, t) := s.ringChunk n 0 64 0 0 x []
    if ok then t.setEnc n { t.enc n with abortDue := none } else s

/-- The picture being coded is given up: a zero-length chunk with ABORT when space allows (R244), the source slot free. DEDUCED, unsafe (log 154, 237). -/
def State.encAbort (s : State) (n : Nat) (always : Bool := false) : State :=
  match (s.enc n).cur with
  | none => s
  | some c =>
    let t := (s.abortOwed n always).abortFlush n
    let e := t.enc n
    (t.setEnc n { e.giveUp with sources := e.sources.filter fun x => x.slot != c.src.slot,
                                tapping := e.tapping && !(e.tapped.any fun x => x.slot == c.src.slot) }).encBoundary n

/-- A picture lost in transmit (R268): `count` packets of it counted, the rest given up, ENC_DROP raised. DEDUCED, safe (log 157). -/
def State.loseChunk (s : State) (n port count : Nat) : State :=
  (((s.txLoss port n count (s.encOwner n)).bump (Reg.PKT_TX_CNT_LOSS n) count).encAbort n).encDrop n 2

/-- One chunk of rows `first` … handed to the destination; `rest` are the NAL units of the picture behind it that are coded already. On a ring without
room or a full transmit buffer the rest of the picture is discarded (R244, R268); so is every picture of a session whose transmit flow is not
set. DEDUCED, unsafe (log 159). -/
def State.handChunk (s : State) (n : Nat) (c : EncCur) (first count : Nat) (isFirst isLast : Bool) (nals rest : List (List Byte)) : State :=
  let d := s.enc n
  let carried := c.skipped.any fun r => first ≤ r && r < first + count
  let sent (t : State) : State :=
    let e := t.enc n
    t.setEnc n { e with dropBefore := false, cur := e.cur.map fun (x : EncCur) => { x with sent := x.sent + 1 } }
  if s.fld (Reg.ENC_SES_CTRL_DEST n) == 1 then
    if !s.drives then s
    else
      let flags := ofBool isFirst + 2 * ofBool isLast + 8 * ofBool carried + 16 * ofBool c.restart + 32 * ofBool d.dropBefore
      let payload := annexB nals
      let (ok, t) := (s.abortFlush n).ringChunk n payload.length flags first count c.src payload
      if ok then sent t
      else
        ((s.encAbort n true).raise (Reg.ENC_SES_STAT_RING_FULL n)).encDrop n 1
  else
    match d.flow with
    | none => s.loseChunk n d.port 1
    | some f =>
      let (lost, t) := s.txChunk n f c.src.rtp isLast nals
      if lost == 0 then sent t
      else t.loseChunk n d.port (lost + (packetise (s.fld (Reg.ENC_SES_CTRL_CODEC n) == 2) f.most rest []).length)

/-- Rows grouped into chunks: each its own in LOW; in PICTURE all in one, split only beyond `most` payload bytes (R243). -/
def groupRows (low : Bool) (most : Nat) : List (List (List Byte)) → Nat → List (Nat × List (List (List Byte))) → List (Nat × List (List (List Byte)))
  | [], _, acc => acc.reverse
  | x :: t, i, acc =>
    match acc with
    | [] => groupRows low most t (i + 1) [(i, [x])]
    | (f, l) :: rest =>
      let size := ((l ++ [x]).map fun r => (annexB r).length).foldl (· + ·) 0
      if low || (most != 0 && most < size) then groupRows low most t (i + 1) ((i, [x]) :: (f, l) :: rest)
      else groupRows low most t (i + 1) ((f, l ++ [x]) :: rest)

/-- The chunks of a whole picture handed out in order; the leading NAL units go with the first. -/
def State.handPicture (s : State) (n : Nat) (c : EncCur) : State :=
  let low := s.fld (Reg.ENC_SES_CTRL_LATENCY n) == 0
  let most := if s.fld (Reg.ENC_SES_CTRL_DEST n) == 1 then 2 ^ s.fld (Reg.ENC_SES_RING_CFG_LOG2_SIZE n) / 4 else 0
  let rows := c.nals.mapIdx fun i x => if i == 0 then c.head ++ x else x
  let groups := groupRows low most rows 0 []
  (groups.mapIdx fun i g => (i, g)).foldl (fun t x =>
    if (t.enc n).cur.isNone then t
    else t.handChunk n c x.2.1 x.2.2.length (x.1 == 0) (x.1 + 1 == groups.length) x.2.2.flatten
      ((groups.drop (x.1 + 1)).flatMap fun g => g.2.flatten)) s

end Sys2Proof.Machine
end

