-- ==== Sys2Proof/Machine/EncCmds.lean ====
section
/-! DEFINITION. The commands and events of the encode pool (spec/08_encode_pool.md), and PKT_TX_FLOW_SET and sender reports
(R268 to R270). -/

namespace Sys2Proof.Machine

open Sys2Proof

/-! ### ENC_SESSION_OPEN (R226, R232, R249) -/

/-- A decimation code as a factor; 0 for the undefined code. -/
def divOf (c : Nat) : Nat := if c == 0 then 1 else if c == 1 then 2 else if c == 2 then 4 else 0

/-- The encoded size. DEDUCED, unsafe (log 156). -/
def encSize (r : Req) : Nat × Nat :=
  let c := rectAt r 20
  let dx := divOf (r.u8 19 % 4)
  let dy := divOf (r.u8 19 / 4 % 4)
  (if dx == 0 || c.w % dx != 0 then 0 else c.w / dx, if dy == 0 || c.h % dy != 0 then 0 else c.h / dy)

/-- R226: an encoded size that is accepted. -/
def sizeOk (w h : Nat) : Bool := within 64 4096 w && within 64 2160 h && w % 2 == 0 && h % 2 == 0

/-- The limits of the fields of ENC_SESSION_OPEN. DEDUCED, unsafe (log 156, 164). -/
def State.encOpenChecks (s : State) (r : Req) : List (Bool × Nat × Nat) :=
  let o := r.u8 16
  let m := s.mode o
  let c := rectAt r 20
  let ring := bitAt (r.u8 18) 1
  let (w, h) := encSize r
  let base := r.u64 48
  let size := 2 ^ r.u8 45
  [(o < 32 && r.part != 1 && r.part != s.owner o, stPartition, noField), (31 < o, stInvalid, 16), (2 < r.u8 17, stInvalid, 17),
   (32 ≤ r.u8 18, stInvalid, 18), (16 ≤ r.u8 19 || divOf (r.u8 19 % 4) == 0 || divOf (r.u8 19 / 4) == 0, stInvalid, 19),
   (m.w < c.x + c.w || m.h < c.y + c.h || !sizeOk w h, stInvalid, 20), (!within 1 8 (r.u8 28), stInvalid, 28),
   (51 < r.u8 29 || r.u8 31 < r.u8 29, stInvalid, 29), (51 < r.u8 30 || r.u8 30 < r.u8 31, stInvalid, 30), (51 < r.u8 31, stInvalid, 31),
   (!within 100 200000 (r.u32 32), stInvalid, 32), (!within 2 600 (r.u16 36), stInvalid, 36), (12 < r.u8 38, stInvalid, 38), (r.u8 39 != 0, stInvalid, 39),
   (!within 1 16777215 (r.u32 40), stInvalid, 40), (r.u8 44 == 0, stInvalid, 44),
   (if ring then !within 16 28 (r.u8 45) else r.u8 45 != 0, stInvalid, 45), (!ring && 1 < r.u8 46, stInvalid, 46), (r.u8 47 != 0, stInvalid, 47),
   (if ring then base % size != 0 || !s.granted r.part base size else base != 0, stInvalid, 48),
   (osDraining ≤ s.outState o, stBusy, noField)]

/-- The encode sessions a partition has open. -/
def State.encsOf (s : State) (p : Nat) : Nat := (s.openEncs.filter fun n => s.encOwner n == p).length

/-- Bytes of the source slots and of the two reconstruction slots. -/
def encMemory (codec latency w h : Nat) : Nat × Nat :=
  let one := slotBytes (if codec == 1 then 4 else 3) w h
  ((if latency == 0 then 2 else 3) * one, 2 * one + 4096)

/-- A session opened on `pipe`, RUNNING where its output runs and holds the crop (R231). -/
def State.openEnc (s : State) (r : Req) (n pipe cell : Nat) (mem : List Nat) (srcLog recLog : Nat) : State :=
  let (w, h) := encSize r
  let ring := bitAt (r.u8 18) 1
  let o := r.u8 16
  let unit := encUnit (r.u8 17)
  let d : EncSes := { crop := rectAt r 20, divX := divOf (r.u8 19 % 4), divY := divOf (r.u8 19 / 4 % 4), rateDiv := r.u8 28, qpMin := r.u8 29,
                      qpMax := r.u8 30, qpInit := r.u8 31, kbps := r.u32 32, cap := if s.rung 3 then some s.pol.capPct else none, refreshN := r.u16 36, dqp := if r.u8 38 == 0 then 2 else r.u8 38,
                      port := r.u8 46, rows := List.replicate (ceilDiv h unit) {}, srcBase := mem.getD 0 0, srcLog := srcLog,
                      recBase := mem.getD 1 0, recLog := recLog, outBase := if ring then r.u64 48 else mem.getD 2 0,
                      outLog := if ring then r.u8 45 else 20 }
  let s1 := s.setEnc n d
  let lent := sparsePut 0 s1.ldg.lent cell r.part
  let s2 := { s1 with ldg := { s1.ldg with lent := lent } }
  let zero := [0, 4, 8, 12, 16, 20, 24, 28, 48, 52, 56, 60, 64, 68]
  let s3 := zero.foldl (fun t i => t.wr (Reg.ENC_SES_CTRL n + i) 0) s2
  let ctrl := r.part + o * 2 ^ 13 + pipe * 2 ^ 18 + ofBool (bitAt (r.u8 18) 2) * 2 ^ 23 + ofBool ring * 2 ^ 24 + ofBool (bitAt (r.u8 18) 0) * 2 ^ 25 +
    r.u8 17 * 2 ^ 26 + 2 ^ 31
  let s4 := (((s3.wr (Reg.ENC_SES_CTRL n) ctrl).wr (Reg.ENC_SES_CELL n) cell).wr (Reg.ENC_SES_SIZE n) (h * 65536 + w)).wr (Reg.ENC_SES_KBPS n) d.effective
  let s5 := if ring then ((s4.wr (Reg.ENC_SES_RING_BASE_LO n) (r.u64 48 % 2 ^ 32)).wr (Reg.ENC_SES_RING_BASE_HI n) (r.u64 48 / 2 ^ 32)).wr
      (Reg.ENC_SES_RING_CFG n) (2 ^ 31 + r.u8 45) else s4
  (s5.setEncState n (if s5.outState o == osRunning && s5.encFits n then esRunning else esWaitSource)).encFigures

/-- ENC_SESSION_OPEN. DEDUCED, unsafe (log 162). -/
def cmdEncSessionOpen (r : Req) (s : State) : State × Resp :=
  let free := (List.range 32).find? fun n => !s.isSet (Reg.ENC_SES_CTRL_OPEN n)
  let (w, h) := encSize r
  let m := s.mode (r.u8 16)
  let a := encAllot m w h (max 1 (r.u8 28))
  let x : Slotted := { id := 32, num := a.1, den := a.2, kbps := r.u32 32 }
  let ring := bitAt (r.u8 18) 1
  let (src, rcn) := encMemory (r.u8 17) (ofBool (bitAt (r.u8 18) 0)) w h
  let cls := ofBool (bitAt (r.u8 18) 3)
  match firstBad (s.encOpenChecks r ++ [(overQuota r.part (s.encsOf r.part) 1 (s.partOf r.part).encQuota 0xFF, stNoSpace, noField),
      (free.isNone, stNoSpace, noField)]) with
  | some (st, d) => (s, .err st d)
  | none =>
    match free, s.placeCells false 1 with
    | some n, some cell =>
      let s1 := s.allocCells cell 1 5 0 (r.u32 40) cls (bitAt (r.u8 18) 4) (r.u8 44)
      match s1.takeMemory ([log2Up 12 src, log2Up 12 rcn] ++ if ring then [] else [20]), findPipe encPix encKbps s.encPipesUp s.encTable x with
      | none, _ => (s, .err stNoSpace noField)
      | some _, none => (s, .err stBudget noField)
      | some (mem, s2), some p =>
        if s.rung 5 || !encFloor m (encUnit (r.u8 17)) w h (r.u32 32) (r.u8 28) then (s, .err stBudget noField)
        else (s2.openEnc r n p cell mem (log2Up 12 src) (log2Up 12 rcn), .ok (pack [(2, n), (1, p), (1, 0), (4, cell)]))
    | _, _ => (s, .err stNoSpace noField)

/-- ENC_SESSION_OPEN, as R232 has it. -/
def execEncSessionOpen (dt : Nat) (m : Fin 8) (s : State) : Host.Outcome State Fault Refusal :=
  .next ((s.pass dt).lcs m.val 0x0701 cmdEncSessionOpen)

/-! ### The other session commands (R249) -/

/-- The checks that a command names an open session of the sender's. -/
def State.encSesChecks (s : State) (r : Req) : List (Bool × Nat × Nat) :=
  let n := r.u16 16
  let isOpen := n < 32 && s.isSet (Reg.ENC_SES_CTRL_OPEN n)
  [(isOpen && r.part != 1 && r.part != s.encOwner n, stPartition, noField), (!isOpen, stInvalid, 16)]

/-- A command that names a draining session is refused with BUSY (R403). DEDUCED, unsafe (log 164). -/
def State.encBusyCheck (s : State) (r : Req) : List (Bool × Nat × Nat) :=
  [(decide (esDraining ≤ s.encState (r.u16 16)), stBusy, noField)]

/-- A session's drain begins: no further source frame; source pictures not yet begun go. -/
def State.drainEnc (s : State) (n ms : Nat) (w : Option Waiter) (pipe : Bool) : State :=
  let (inj, s1) := s.injTake 0x19 (0x200 + n)
  let d := s1.enc n
  let keep (x : EncSrc) : Bool := d.cur.any fun c => c.src.slot == x.slot
  let d1 := { d with drainAt := some (s.tick + ms * ticksPerMs), stuck := inj.isSome, pipeDrain := pipe, waiter := w, wasReset := false }
  if pipe then s1.setEnc n { d1 with moveTo := none }
  else ((s1.setEnc n { d1 with sources := d.sources.filter keep, tapping := d.tapping && d.tapped.any keep }).bump (Reg.ENC_SES_CNT_DROP n)
    (d.sources.filter fun x => !keep x).length).setEncState n esDraining

/-- The checks of ENC_SESSION_CLOSE in the order of R393 step 8, each as (it fails, status, DETAIL). -/
def chkEncSessionClose (r : Req) (s : State) : List (Bool × Nat × Nat) :=
  let n := r.u16 16
  s.encSesChecks r ++ [(decide (1000 < r.u16 18), stInvalid, 18), (decide (esDraining ≤ s.encState n) || (s.enc n).pipeDrain, stBusy, noField)]

/-- ENC_SESSION_CLOSE. -/
def cmdEncSessionClose (r : Req) (s : State) : State × Resp :=
  let n := r.u16 16
  s.refuseOr (chkEncSessionClose r s)
    (s.drainEnc n (drainMs (r.u16 18)) (some r.waiter) false, .wait)

/-- ENC_SESSION_CLOSE, as R246 has it. -/
def execEncSessionClose (dt : Nat) (m : Fin 8) (s : State) : Host.Outcome State Fault Refusal :=
  .next ((s.pass dt).lcs m.val 0x0702 cmdEncSessionClose)

/-- Whether a session fits with another bit rate on its pipe (R232). -/
def State.kbpsFits (s : State) (n kbps : Nat) : Bool :=
  let l := s.encTable.map fun x => if x.id == n then { x with kbps := kbps } else x
  let p := s.fld (Reg.ENC_SES_CTRL_PIPE n)
  pipeHolds encPix encKbps (l.filter fun x => x.pipe == some p) &&
    encFloor (s.mode (s.encOutput n)) (s.encUnitOf n) (s.encW n) (s.encH n) kbps (s.enc n).rateDiv

/-- The checks of ENC_SESSION_SET in the order of R393 step 8, each as (it fails, status, DETAIL). -/
def chkEncSessionSet (r : Req) (s : State) : List (Bool × Nat × Nat) :=
  let n := r.u16 16
  let w := r.u8 18
  let d := s.enc n
  let k0 := (d.set.map fun x => x.2.1).getD d.kbps
  let k := if bitAt w 0 then r.u32 20 else k0
  s.encSesChecks r ++ [(decide (8 ≤ w), stInvalid, 18), (r.u8 19 != 0, stInvalid, 19),
    (bitAt w 0 && !within 100 200000 (r.u32 20), stInvalid, 20), (bitAt w 1 && (51 < r.u8 24 || r.u8 26 < r.u8 24), stInvalid, 24),
    (bitAt w 1 && (51 < r.u8 25 || r.u8 25 < r.u8 26), stInvalid, 25), (bitAt w 1 && 51 < r.u8 26, stInvalid, 26),
    (bitAt w 2 && !within 1 12 (r.u8 27), stInvalid, 27)] ++ s.encBusyCheck r ++ [(bitAt w 0 && (!s.kbpsFits n k || ((s.rung 3 || s.rung 5) && d.kbps < k)), stBudget, noField)]

/-- ENC_SESSION_SET: settings that count from the next picture. -/
def cmdEncSessionSet (r : Req) (s : State) : State × Resp :=
  let n := r.u16 16
  let w := r.u8 18
  let d := s.enc n
  let (k0, a0, b0, c0, q0) := match d.set with
    | some (_, k, a, b, c, q) => (k, a, b, c, q)
    | none => (d.kbps, d.qpMin, d.qpMax, d.qpInit, d.dqp)
  let k := if bitAt w 0 then r.u32 20 else k0
  s.refuseOr (chkEncSessionSet r s)
    (let t := s.setEnc n { d with set := some (0, k, if bitAt w 1 then r.u8 24 else a0, if bitAt w 1 then r.u8 25 else b0,
                                                 if bitAt w 1 then r.u8 26 else c0, if bitAt w 2 then r.u8 27 else q0) }
     let u := if bitAt w 0 then (t.setEnc n { t.enc n with kbps := k }).encFigures else t
     (if bitAt w 0 && k < d.kbps then u.resumeEncs else u, .ok []))

/-- ENC_SESSION_SET, as R237 has it. -/
def execEncSessionSet (dt : Nat) (m : Fin 8) (s : State) : Host.Outcome State Fault Refusal :=
  .next ((s.pass dt).lcs m.val 0x0703 cmdEncSessionSet)

/-- The checks of ENC_REFRESH in the order of R393 step 8, each as (it fails, status, DETAIL). -/
def chkEncRefresh (r : Req) (s : State) : List (Bool × Nat × Nat) :=
  s.encSesChecks r ++ [(r.u16 18 != 0, stInvalid, 18)] ++ s.encBusyCheck r

/-- ENC_REFRESH. -/
def cmdEncRefresh (r : Req) (s : State) : State × Resp :=
  s.refuseOr (chkEncRefresh r s)
    (s.coppice (r.u16 16), .ok [])

/-- ENC_REFRESH, as R236 has it. -/
def execEncRefresh (dt : Nat) (m : Fin 8) (s : State) : Host.Outcome State Fault Refusal :=
  .next ((s.pass dt).lcs m.val 0x0704 cmdEncRefresh)

/-- The checks of ENC_SESSION_QUERY in the order of R393 step 8, each as (it fails, status, DETAIL). -/
def chkEncSessionQuery (r : Req) (s : State) : List (Bool × Nat × Nat) :=
  s.encSesChecks r ++ [(r.u16 18 != 0, stInvalid, 18)]

/-- ENC_SESSION_QUERY. -/
def cmdEncSessionQuery (r : Req) (s : State) : State × Resp :=
  s.refuseOr (chkEncSessionQuery r s)
    (s, .ok (s.regImage State.view (Reg.ENC_SES_CTRL (r.u16 16)) 18))

/-- ENC_SESSION_QUERY, as R249 has it. -/
def execEncSessionQuery (dt : Nat) (m : Fin 8) (s : State) : Host.Outcome State Fault Refusal :=
  .next ((s.pass dt).lcs m.val 0x0705 cmdEncSessionQuery)

/-! ### ENC_PIPE_CTRL (R221, R246) -/

def State.encPipeDraining (s : State) (p : Nat) : Bool :=
  s.openEncs.any fun n => s.fld (Reg.ENC_SES_CTRL_PIPE n) == p && (s.enc n).pipeDrain

/-- A pipe whose sessions have drained is empty: they move, by the device that decides, and the command is answered (R246, R430). The move waits for
Lysman firmware (R247). -/
def State.encPipeMoved (s : State) (p : Nat) : State :=
  if !s.isSet (Reg.ENC_PIPE_STAT_DRAINING p) || s.encPipeDraining p || !s.isSet Reg.MBX_STATUS_READY then s
  else
    let ids := s.encsOn p
    let l := (moveAll encPix encKbps s.encPipesUp ids s.encTable).getD (replace encPix encKbps s.encPipesUp ids s.encTable)
    let s1 := s.setFld (Reg.ENC_PIPE_STAT_DRAINING p) 0
    let t := if s.drives then s1.decideEncs l else s1
    (t.setEncPipe p {}).answer (s.encPipe p).waiter stOk []

/-- A pipe's drain begins. -/
def State.drainEncPipe (s : State) (p ms : Nat) (w : Waiter) : State :=
  let on := s.openEncs.filter fun n => s.fld (Reg.ENC_SES_CTRL_PIPE n) == p && !(s.enc n).parked
  let s1 := (((s.setFld (Reg.ENC_PIPE_STAT_EN p) 0).setFld (Reg.ENC_PIPE_STAT_DRAINING p) 1).setEncPipe p
    { s.encPipe p with waiter := some w }).encFigures
  (on.filter fun n => (s.enc n).cur.isSome).foldl (fun t n => t.drainEnc n ms none true) s1

/-- The checks of ENC_PIPE_CTRL in the order of R393 step 8, each as (it fails, status, DETAIL). -/
def chkEncPipeCtrl (r : Req) (s : State) : List (Bool × Nat × Nat) :=
  let p := r.u8 16
  let ids := (s.encTable.filter fun x => x.pipe == some p).map fun x => x.id
  let others := s.encPipesUp.filter fun q => q != p
  let up := s.isSet (Reg.ENC_PIPE_STAT_EN p)
  [(r.part != 1, stPartition, noField), (3 < p || (r.u8 17 == 1 && s.isSet (Reg.ENC_PIPE_STAT_FAULTED p)), stInvalid, 16),
    (1 < r.u8 17, stInvalid, 17), (1000 < r.u16 18, stInvalid, 18), (s.isSet (Reg.ENC_PIPE_STAT_DRAINING p), stBusy, noField),
    (r.u8 17 == 0 && up && (moveAll encPix encKbps others ids s.encTable).isNone, stBudget, noField)]

/-- ENC_PIPE_CTRL. -/
def cmdEncPipeCtrl (r : Req) (s : State) : State × Resp :=
  let p := r.u8 16
  let up := s.isSet (Reg.ENC_PIPE_STAT_EN p)
  s.refuseOr (chkEncPipeCtrl r s)
    (if r.u8 17 == 1 then
       if up then (s, .ok []) else (((s.setFld (Reg.ENC_PIPE_STAT_EN p) 1).encFigures).resumeEncs, .ok [])
     else if !up then (s, .ok [])
     else
       let t := s.drainEncPipe p (drainMs (r.u16 18)) r.waiter
       if t.encPipeDraining p then (t, .wait)
       else ((t.setEncPipe p {}).encPipeMoved p, .ok []))

/-- ENC_PIPE_CTRL, as R246 has it. -/
def execEncPipeCtrl (dt : Nat) (m : Fin 8) (s : State) : Host.Outcome State Fault Refusal :=
  .next ((s.pass dt).lcs m.val 0x0706 cmdEncPipeCtrl)

/-! ### ENC_ROW_CODE (R227, R234 to R240) -/

/-- Settings that waited for the next picture. -/
def EncSes.applySet (d : EncSes) : EncSes :=
  match d.set with
  | none => d
  | some (_, k, a, b, c, q) => { d with set := none, kbps := k, qpMin := a, qpMax := b, qpInit := c, dqp := q }

/-- Whether row `r` of a source picture may be coded (R234). -/
def State.rowReady (s : State) (n : Nat) (x : EncSrc) (r : Nat) : Bool :=
  if s.fld (Reg.ENC_SES_CTRL_LATENCY n) == 0 then min ((r + 1) * s.encUnitOf n) (s.encH n) ≤ x.lines else x.whole

/-- A picture begins (R227, R236, R239): the parameter sets stand before the first picture and the first of every Coppice cycle, and they, the row-age
map and the slice headers are spent from its budget (R238). DESIGN CHOICE, unsafe (log 152). -/
def State.beginCode (s : State) (n : Nat) (src : EncSrc) (op : EncCode) : State :=
  let d0 := (s.enc n).applySet
  let m := s.mode (s.encOutput n)
  let bp := encBp m d0.effective d0.rateDiv
  let again := d0.refresh || src.restart
  let restart := again
  let d1 := if again || d0.first then { d0 with pos := 0, refresh := false, rows := d0.rows.map fun x => { x with bound := 0 } } else d0
  let (budget, borrow, d2) := if d1.first then (4 * bp, 0, d1) else d1.takeDebt bp
  let avc := s.fld (Reg.ENC_SES_CTRL_CODEC n) == 2
  let sets := if d2.pos == 0 then setNals avc op.sets else []
  let sei := if s.isSet (Reg.ENC_SES_CTRL_ROW_AGE_SEI n) then
      [rowAgeNal avc (rowAgePayload restart d2.rows.length (if avc then 4 else 6) [])] else []
  let c : EncCur := { src := src, intra := d1.first, budget := budget, borrow := borrow, restart := restart, head := sets,
                      spent := (sets ++ sei).foldl (fun a x => a + 8 * x.length) 0 + op.heads.foldl (· + ·) 0, qpPrev := d2.qpRow0.getD d2.qpInit,
                      bounds := d0.rows.map fun x => x.bound, heads := op.heads }
  let s1 := ((s.setEnc n { d2 with cur := some c }).wr (Reg.ENC_SES_KBPS n) d2.effective).wr (Reg.ENC_SES_DEBT n) d2.outstanding
  if restart then s1.raise (Reg.ENC_SES_STAT_RESTART n) else s1

/-- R234: whether what was tapped whole at tick `t0` misses its target now, for `samples` luma samples. -/
def State.isLate (s : State) (n t0 samples : Nat) : Bool :=
  let a := encAllot (s.mode (s.encOutput n)) (s.encW n) (s.encH n) (s.enc n).rateDiv
  11 * samples * 10 ^ 9 * a.2 + 1000000 * a.1 < (s.tick - t0) * 2 * 10 * a.1

/-- A row or picture past its target counted. -/
def State.countLate (s : State) (n : Nat) (late : Bool) : State :=
  let d := s.enc n
  let s1 := s.setEnc n { d with judged := d.judged + 1 }
  if late then (s1.raise (Reg.ENC_SES_STAT_LATE n)).bump (Reg.ENC_SES_CNT_LATE n) else s1

/-- ENC_BUDGET (R239, R250). -/
def State.encBudget (s : State) (n skips overrun : Nat) : State :=
  s.notice 0x0704 n [0, s.encOwner n] (pack [(1, n), (1, 0), (2, skips), (4, s.rd (Reg.ENC_SES_PICS n)), (4, overrun), (4, (s.enc n).outstanding)])

/-- The last row of a picture is coded: debt, flags, the row-age map, what remains to be handed out, the cycle. DEDUCED, unsafe (log 153, 155). -/
def State.endCode (s : State) (n : Nat) : State :=
  let d := s.enc n
  match d.cur with
  | none => s
  | some c =>
    let rows := d.rows.length
    let overrun := c.spent - c.budget
    let d1 := if overrun == 0 then d
      else if c.intra then { d with startDebt := d.startDebt + overrun }
      else { d with debt := addParts d.debt (debtParts overrun) }
    let ages := ((List.range rows).filter fun r => c.skipped.contains r).map fun r =>
      (r, wrapSub 40 c.src.t ((d.rows.getD r {}).coded))
    let log2 := if s.fld (Reg.ENC_SES_CTRL_CODEC n) == 2 then 4 else 6
    let sei := s.isSet (Reg.ENC_SES_CTRL_ROW_AGE_SEI n)
    let c1 := if sei then { c with head := c.head ++ [rowAgeNal (log2 == 4) (rowAgePayload c.restart rows log2 ages)] } else c
    let s1 := s.setEnc n { d1 with cur := some c1 }
    let s2 := if sei || s.fld (Reg.ENC_SES_CTRL_LATENCY n) == 1 then s1.handPicture n c1 else s1
    let unit := s.encUnitOf n
    let s3 := if s.fld (Reg.ENC_SES_CTRL_LATENCY n) == 1 then
        s2.countLate n (s2.isLate n (c.src.rowTicks.getLastD s.tick) (s.encW n * s.encH n))
      else if sei then (List.range rows).foldl (fun t r =>
        t.countLate n (t.isLate n (c.src.rowTicks.getD r s.tick) (s.encW n * min unit (s.encH n - r * unit)))) s2
      else s2
    let kept := (s3.enc n).cur.isSome
    let oldest := (ages.map Prod.snd).foldl max 0
    let s4 := ((s3.setFld (Reg.ENC_SES_CTRL_EXHAUSTED n) (ofBool c.maxed)).setFld (Reg.ENC_SES_CTRL_CARRIED n) (ofBool (!ages.isEmpty))).setFld
      (Reg.ENC_SES_QP_QP_AVG n) (c.qpSum / max 1 rows)
    let s5 := if c.maxed then s4.raise (Reg.ENC_SES_STAT_EXHAUST n) else s4
    let s6 := if ages.isEmpty then s5 else s5.raise (Reg.ENC_SES_STAT_SKIP n)
    let s7 := if overrun == 0 then s6 else (s6.raise (Reg.ENC_SES_STAT_BORROW n)).bump (Reg.ENC_SES_CNT_BORROW n)
    let s8 := if c.maxed || !ages.isEmpty || overrun != 0 then s7.encBudget n ages.length overrun else s7
    let e := s8.enc n
    let wrap := e.refreshN ≤ e.pos + 1
    let e1 := { e with cur := none, first := false, sources := e.sources.filter (fun (x : EncSrc) => x.slot != c.src.slot),
                       pos := if wrap then 0 else e.pos + 1, refresh := e.refresh || c.poison,
                       rows := if wrap then e.rows.map (fun (x : EncRow) => { x with bound := 0 }) else e.rows,
                       handed := if kept then some (wrapSub 40 c.src.t oldest) else none, recSlot := 1 - e.recSlot }
    (((((s8.setEnc n e1).encBoundary n).bumpWrap (Reg.ENC_SES_PICS n)).setFld (Reg.ENC_SES_QP_REFRESH_POS n) e1.pos).wr (Reg.ENC_SES_DEBT n) e1.outstanding)

/-- The row that is due coded: at the QP rate control chose, or as skip. An intra picture's rows are never skipped, a poisoned
source row always is, and after a poisoned reference the rest of the picture is intra. DEDUCED, unsafe (log 153, 155). -/
def State.codeRow (s : State) (n : Nat) (op : EncCode) : State :=
  let d := s.enc n
  match d.cur with
  | none => s
  | some c0 =>
    let unit := s.encUnitOf n
    let rows := d.rows.length
    let cols := ceilDiv (s.encW n) unit
    let pipe := s.fld (Reg.ENC_SES_CTRL_PIPE n)
    let c := if op.poisonRef then { c0 with intra := true, poison := true } else c0
    let plan := if d.first then { exhausted := false, qp := d.qpInit } else planRow d c rows (skipCost cols)
    let avc := s.fld (Reg.ENC_SES_CTRL_CODEC n) == 2
    let bits (x : List Byte) : Nat := 8 * x.length - c.heads.getD c.row 0
    let fits : Bool := (bits (sliceNal avc d.first op.coded) : Int) ≤ plan.avail
    let skip := !d.first && (c.forceSkip || op.poisonSrc || (!c.intra && !(plan.may && fits)))
    let nal := sliceNal avc d.first (if skip then op.skip else op.coded)
    let nals := [nal]
    let b := bits nal
    let me := d.rows.getD c.row {}
    let row' : EncRow := if skip then me
      else { bits := b, qp := plan.qp, idr := d.first, bound := bandEnd d.pos cols d.refreshN, coded := c.src.t }
    let c1 := { c with row := c.row + 1, spent := c.spent + b, exhausted := plan.exhausted, qpPrev := plan.qp, qpSum := c.qpSum + plan.qp,
                       skipped := if skip then c.row :: c.skipped else c.skipped, nals := c.nals ++ [nals],
                       maxed := c.maxed || plan.qp == d.qpMax }
    let (run, s0) := s.reconRow n c.row skip op.recon
    let sa := s0.encAfter n run
    let s1 := sa.setEnc n { sa.enc n with cur := some { c1 with forceSkip := c1.forceSkip || !run.ok }, rows := d.rows.set c.row row',
                                          qpRow0 := if c.row == 0 && !d.first then some plan.qp else d.qpRow0 }
    let s2 := s1.bumpWrap (Reg.ENC_PIPE_CNT_ROWS pipe)
    let s3 := if skip then (s2.bump (Reg.ENC_PIPE_CNT_SKIP pipe)).bump (Reg.ENC_SES_CNT_SKIP n) else s2
    let s4 := if op.poisonRef then s3.raise (Reg.ENC_SES_STAT_POISON n) else s3
    let low := s.fld (Reg.ENC_SES_CTRL_LATENCY n) == 0
    let s5 := if low && !s.isSet (Reg.ENC_SES_CTRL_ROW_AGE_SEI n) then
        s4.handChunk n c1 c.row 1 (c.row == 0) (c.row + 1 == rows) (if c.row == 0 then c.head ++ nals else nals) [] else s4
    let h := min unit (s.encH n - c.row * unit)
    let s6 := if low && !s.isSet (Reg.ENC_SES_CTRL_ROW_AGE_SEI n) then s5.countLate n (s5.isLate n (c.src.rowTicks.getD c.row s.tick) (s.encW n * h)) else s5
    if rows ≤ c1.row then s6.endCode n else s6

/-- The source rows of a row read by the pipe, and of a picture that is not the first the co-located rows of the reference: what came of the accesses,
and whether each came poisoned. -/
def State.rowReads (s : State) (n : Nat) (x : EncSrc) (r : Nat) : WriteRun × Bool × Bool × State :=
  let fmt := s.encFmt n
  let unit := s.encUnitOf n
  let stride := (planes fmt (s.encW n) (s.encH n)).2.1
  let size := min unit (s.encH n - r * unit) * stride
  let u := fbkEnc (s.fld (Reg.ENC_SES_CTRL_PIPE n))
  let d := s.enc n
  let (_, ok, l, bad, t) := (s.loadEncPipe n).unitLoad u (d.srcBase + x.slot * slotBytes fmt (s.encW n) (s.encH n) + r * unit * stride) size
  if d.first then ({ ok := ok, lasting := l }, bad, false, t)
  else
    let (_, ok2, l2, bad2, v) := t.unitLoad u (s.recBase n (1 - d.recSlot) + r * unit * stride) size
    ({ ok := ok && ok2, lasting := l || l2 }, bad, bad2, v)

/-- A row read and coded; after a poisoned read of the reference it is intra-coded as the rest of its picture is (R239). One that breaks what the pipe
obeys is none that it codes. DESIGN CHOICE, safe (log 68). -/
def State.serveEnc (s : State) (n : Nat) (x : EncSrc) (r : Nat) (op : EncCode) : Option State :=
  let (run, src, ref, t) := s.rowReads n x r
  let u := t.encAfter n run
  let poisoned := op.poisonRef || ref
  let d := u.enc n
  let v := if poisoned then u.setEnc n { d with cur := d.cur.map fun (c : EncCur) => { c with intra := true } } else u
  if v.rowObeys n op then some (v.codeRow n { op with poisonSrc := op.poisonSrc || src, poisonRef := poisoned }) else none

/-- A pipe codes the row of a session that is due: the next of the picture being coded, or the first of the oldest source picture. DESIGN CHOICE, safe (log 68). -/
def State.encRow (s : State) (n : Nat) (op : EncCode) : State :=
  let d := s.enc n
  let p := s.fld (Reg.ENC_SES_CTRL_PIPE n)
  let works := (s.isSet (Reg.ENC_PIPE_STAT_EN p) || d.pipeDrain) && s.queueTakes 0x09 (2 * p) && s.queueTakes 0x09 (2 * p + 1)
  if !s.isSet (Reg.ENC_SES_CTRL_OPEN n) || d.parked || !works || d.stuck || s.encState n == esResetting then s
  else
    match d.cur with
    | some c => if s.rowReady n c.src c.row then (s.serveEnc n c.src c.row op).getD s else s
    | none =>
      match d.sources.head? with
      | none => s
      | some x =>
        if d.pipeDrain || !s.rowReady n x 0 then s else ((s.beginCode n x op).serveEnc n x 0 op).getD s

/-- ENC_ROW_CODE, as R238 has it. -/
def execEncRowCode (dt : Nat) (session : Fin 32) (row : EncCode) (s : State) : Host.Outcome State Fault Refusal :=
  .next ((s.pass dt).encRow session.val row)

/-- ENC_PICTURE_DONE: the last chunk or packet has been handed out; the loop-back cell is confirmed (R241). -/
def State.encDone (s : State) (n : Nat) : State :=
  let d := s.enc n
  match d.handed with
  | none => s
  | some t => (s.setEnc n { d with handed := none }).sendConfirm { cell := s.fld (Reg.ENC_SES_CELL_CELL n), action := 0, timeKind := 0, time := t }

/-- ENC_PICTURE_DONE, as R241 has it. -/
def execEncPictureDone (dt : Nat) (session : Fin 32) (s : State) : Host.Outcome State Fault Refusal :=
  .next ((s.pass dt).encDone session.val)

/-! ### The host ring's consumer index (R242) -/

/-- A CONS write judged (R242). -/
def State.encCons (s : State) (n v : Nat) : State :=
  let old := s.rd (Reg.ENC_SES_RING_CONS n)
  if wrapSub 32 v old ≤ wrapSub 32 (s.rd (Reg.ENC_SES_RING_PROD n)) old then (s.wr (Reg.ENC_SES_RING_CONS n) v).abortFlush n
  else
    let t := s.raise (Reg.ENC_SES_RING_STAT_ERR n)
    if s.isSet (Reg.ENC_SES_RING_STAT_ERR n) then t else t.encRingFault n 1 v

/-- ENC_SES_RING_CONS_WRITE, as R242 has it. -/
def execEncSesRingConsWrite (dt : Nat) (session : Fin 32) (value : Word) (s : State) : Host.Outcome State Fault Refusal :=
  .next ((s.pass dt).encCons session.val value.toNat)

/-! ### Drain (R246) -/

/-- Steps 3 to 5 of a session's drain. -/
def State.finishEncClose (s : State) (n : Nat) : State :=
  let d := s.enc n
  let cell := s.fld (Reg.ENC_SES_CELL_CELL n)
  let pics := s.rd (Reg.ENC_SES_PICS n)
  let s0 := (List.range 4).foldl (fun t p => if (t.encPipe p).loaded == some n then t.setEncPipe p { t.encPipe p with loaded := none } else t) s
  let s1 := s0.freeCells cell 1
  let s2 := s1.giveMemory ([d.srcBase, d.recBase] ++ if s.fld (Reg.ENC_SES_CTRL_DEST n) == 1 then [] else [d.outBase])
  let s3 := { s2 with ldg := { s2.ldg with lent := sparseDel s2.ldg.lent cell } }
  let s4 := ((s3.setEnc n {}).setEncState n esClosed).encStateNotice n esClosed d.wasReset
  let s5 := (((s4.wr (Reg.ENC_SES_CTRL n) 0).wr (Reg.ENC_SES_CELL n) 0).wr (Reg.ENC_SES_RING_CFG n) 0).wr (Reg.PKT_TX_CTRL n) 0
  (s5.encFigures.answer d.waiter stOk (pack [(4, ofBool d.wasReset), (4, pics)])).resumeEncs

/-- A session's drain is complete: its picture in flight is handed out, or its reset has ended (R231). -/
def State.encDrained (s : State) (n : Nat) : State :=
  let d := s.enc n
  if s.encState n == esResetting then s.finishEncClose n
  else if d.drainAt.isNone || d.cur.isSome || d.stuck then s
  else if d.pipeDrain then
    ((s.setEnc n { d with pipeDrain := false, drainAt := none }).encBoundary n).encPipeMoved (s.fld (Reg.ENC_SES_CTRL_PIPE n))
  else (s.encDone n).finishEncClose n

/-- ENC_DRAIN_COMPLETE, as R246 has it. -/
def execEncDrainComplete (dt : Nat) (session : Fin 32) (s : State) : Host.Outcome State Fault Refusal :=
  .next ((s.pass dt).encDrained session.val)

/-- A session's drain has reached its timeout: the picture in flight is discarded and counted, with ABORT; the session is RESETTING until the drain's
remaining steps are done. -/
def State.encDrainTimeout (s : State) (n : Nat) : State :=
  let d := s.enc n
  match d.drainAt with
  | none => s
  | some t =>
    if s.tick < t then s
    else
      let p := s.fld (Reg.ENC_SES_CTRL_PIPE n)
      let s1 := if d.pipeDrain then s else s.setEncState n esResetting
      let s0 := if d.cur.isSome then s1.bump (Reg.ENC_SES_CNT_DROP n) else s1
      let s2 := ((s0.encAbort n true).bump (Reg.ENC_PIPE_CNT_RESET p)).raise (Reg.ENC_SES_STAT_DRAIN_RESET n)
      let s3 := (s2.setEnc n { s2.enc n with wasReset := true, drainAt := none, stuck := false, pipeDrain := false, refresh := true }).logFault
        0x19 1 (0x200 + n) d.stuck
      if d.pipeDrain then (s3.encBoundary n).encPipeMoved p else s3

/-- ENC_DRAIN_TIMEOUT, as R246 has it. -/
def execEncDrainTimeout (dt : Nat) (session : Fin 32) (s : State) : Host.Outcome State Fault Refusal :=
  .next ((s.pass dt).encDrainTimeout session.val)

/-! ### Transmit flows (R268 to R270, R273) -/

/-- The limits of PKT_TX_FLOW_SET. -/
def State.txFlowChecks (s : State) (r : Req) : List (Bool × Nat × Nat) :=
  let n := r.u16 16
  let v6 := bitAt (r.u8 18) 0
  let src := r.bytes 32 (if v6 then 16 else 4)
  s.encSesChecks r ++ [(s.fld (Reg.ENC_SES_CTRL_DEST n) == 1, stInvalid, 16), (4 ≤ r.u8 18, stInvalid, 18), (7 < r.u8 19, stInvalid, 19),
    (4094 < r.u16 20, stInvalid, 20), (63 < r.u8 22, stInvalid, 22), (r.u8 23 == 0, stInvalid, 23), (!within 96 127 (r.u8 30), stInvalid, 30),
    (!(((s.portSt (s.enc n).port).addrs).any fun a => a.v6 == v6 && a.addr.take src.length == src), stInvalid, 32),
    (r.u16 66 == 319 || r.u16 66 == 320, stInvalid, 66), (r.u16 74 != 0 && !within 256 8900 (r.u16 74), stInvalid, 74),
    (r.u16 76 != 0 && !within 100 5000 (r.u16 76), stInvalid, 76), (r.u16 78 != 0, stInvalid, 78)] ++ s.encBusyCheck r

/-- The checks of PKT_TX_FLOW_SET in the order of R393 step 8, each as (it fails, status, DETAIL). -/
def chkPktTxFlowSet (r : Req) (s : State) : List (Bool × Nat × Nat) :=
  s.txFlowChecks r

/-- PKT_TX_FLOW_SET. -/
def cmdPktTxFlowSet (r : Req) (s : State) : State × Resp :=
  let n := r.u16 16
  let d := s.enc n
  let f : TxFlow := { v6 := bitAt (r.u8 18) 0, srtp := bitAt (r.u8 18) 1, pcp := r.u8 19, vlan := r.u16 20, dscp := r.u8 22, ttl := r.u8 23,
                      mac := r.bytes 24 6, pt := r.u8 30, tai := r.u8 31, srcIp := r.bytes 32 16, dstIp := r.bytes 48 16, srcPort := r.u16 64,
                      dstPort := r.u16 66, ssrc := r.u32 68, most := if r.u16 74 == 0 then 1400 else r.u16 74, srMs := r.u16 76, srAt := s.tick,
                      keys := (d.flow.map fun g => g.keys).getD d.txKeys }
  s.refuseOr (chkPktTxFlowSet r s)
    (((s.setEnc n { d with flow := some f }).wr (Reg.PKT_TX_CTRL n)
      (2 ^ 31 + ofBool f.srtp * 2 ^ 30 + d.port * 2 ^ 29 + ofBool s.drives * 2 ^ 28 + r.u16 72)).wr (Reg.PKT_TX_ROC n) 0, .ok [])

/-- PKT_TX_FLOW_SET, as R268 has it. -/
def execPktTxFlowSet (dt : Nat) (m : Fin 8) (s : State) : Host.Outcome State Fault Refusal :=
  .next ((s.pass dt).lcs m.val 0x0804 cmdPktTxFlowSet)

/-- The frame of a flow's sender report for this instant (R269), under a key. PRESUMED, unsafe (log 74). -/
def State.reportFrame (s : State) (port : Nat) (f : TxFlow) (key : Option SrtpKey) : TxFrame :=
  let ns := s.ptpNs
  let sec := ns / 10 ^ 9 + 2208988800 - f.tai
  let report := beBytes 1 0x80 ++ beBytes 1 200 ++ beBytes 2 6 ++ beBytes 4 f.ssrc ++ beBytes 4 (sec % 2 ^ 32) ++
    beBytes 4 (ns % 10 ^ 9 * 2 ^ 32 / 10 ^ 9) ++ beBytes 4 (ns * 90000 / 10 ^ 9 % 2 ^ 32) ++ beBytes 4 f.packets ++ beBytes 4 f.octets
  { pcp := f.pcp, bytes := s.udpFrame f port (f.dstPort + 1) (sealWith f.srtp key f.keys.rtcp report) }

/-- R269: an RTCP sender report when SR_MS has passed; withheld and counted while the time unit is untrusted, not sent by a device
that does not drive. DEDUCED, safe (log 157). -/
def State.senderReport (s : State) (n : Nat) : State :=
  let d := s.enc n
  match d.flow with
  | none => s
  | some f =>
    if f.srMs == 0 || s.tick < f.srAt + f.srMs * ticksPerMs || !s.isSet (Reg.PKT_TX_CTRL_OPEN n) then s
    else
      let t := s.setEnc n { d with flow := some { f with srAt := f.srAt + f.srMs * ticksPerMs, keys := { f.keys with rtcp := (f.keys.rtcp + 1) % 2 ^ 31 } } }
      let key := f.keys.reportKey (s.rd (Reg.PKT_TX_ROC n) * 65536 + s.fld (Reg.PKT_TX_CTRL_SEQ n))
      if !s.txSends n then t
      else if !s.trusted || !keyReady f.srtp key then t.bump (Reg.PKT_TX_CNT_LOSS n)
      else
        let port := s.fld (Reg.PKT_TX_CTRL_PORT n)
        let (ok, u) := t.txPut port (t.reportFrame port f key)
        if ok && s.linkUp port then u else u.bump (Reg.PKT_TX_CNT_LOSS n)

/-- TX_SENDER_REPORT, as R269 has it. -/
def execTxSenderReport (dt : Nat) (session : Fin 32) (s : State) : Host.Outcome State Fault Refusal :=
  .next ((s.pass dt).senderReport session.val)

end Sys2Proof.Machine
end

