-- ==== Sys2Proof/Machine/LaneOps.lean ====
section
/-! DEFINITION. Lane states (R296, R297, R313 to R315), the receiving side's ordered sets and replay (R308 to R310), egress framing
(R316 to R318), the messages of link partners (R320), and capture ingress (R321 to R327). -/

namespace Sys2Proof.Machine

open Sys2Proof

/-! ### States and figures -/

def lsOff : Nat := 0
def lsDetect : Nat := 1
def lsTrain : Nat := 2
def lsCaps : Nat := 3
def lsFailed : Nat := 5

def State.laneState (s : State) (i : Nat) : Nat := s.fld (Reg.KLN_STAT_STATE i)

/-- The partitions that notices of a lane go to (R332). -/
def State.laneDests (s : State) (i : Nat) : List Nat :=
  if i < 32 then [0, s.owner i]
  else if i < 48 && s.isSet (Reg.KLN_CAP_CTRL_EN i) then [0, s.fld (Reg.KLN_CAP_CTRL_PARTITION i)]
  else [0]

/-- KLN_PARTNER. -/
def State.partnerNotice (s : State) (i : Nat) : State :=
  s.notice 0x0A03 i (s.laneDests i) (pack [(1, i), (1, (s.lane i).pref), (2, 0), (4, s.rd (Reg.KLN_STAT i))])

/-- The partner's words judged (R315): 0 compatible, else the CAUSE. -/
def State.judgeWords (s : State) (i : Nat) (w : List Nat) : Nat :=
  let w0 := w.getD 0 0
  let w1 := w.getD 1 0
  let w2 := w.getD 2 0
  let w3 := w.getD 3 0
  let role := bitsAt w0 15 8
  if bitsAt w0 7 0 != 1 then 9
  else if i < 32 then
    if role != 1 || !bitAt w2 32 then 9 else if bitsAt w1 39 24 < 50 || bitsAt w2 31 24 < 4 then 10 else 0
  else if i < 48 then
    if role != 2 || bitsAt w2 39 32 == 0 || 4096 < bitsAt w3 15 0 || 2160 < bitsAt w3 31 16 then 9 else 0
  else if role != 3 || bitsAt w1 15 0 != 0x7840 || bitsAt w1 19 19 == s.fld Reg.PAIR_STATUS_SIDE then 9 else 0

/-- The equalisation record in KLN_EQ0 and KLN_EQ1 keeps the limits of R296. -/
def eqValid (i e0 e1 : Nat) : Bool :=
  let flags := bitsAt e0 7 0
  let pre := bitsAt e0 15 8
  let main := bitsAt e0 23 16
  let post := bitsAt e0 31 24
  let dfe := toInt 8 (bitsAt e1 23 16)
  flags < (if 52 ≤ i then 16 else 8) && pre ≤ 15 && within 24 63 main && post ≤ 31 && pre + main + post ≤ 63 && bitsAt e1 7 0 ≤ 15 &&
    bitsAt e1 15 8 ≤ 31 && decide (-32 ≤ dfe) && decide (dfe ≤ 31) && bitsAt e1 31 24 == 0

/-- A lane whose record has USED set and breaks no limit (R297), its reserved bytes among them: those left CAUSE BOARD. -/
def State.laneUsable (s : State) (i : Nat) : Bool :=
  bitAt (s.rd (Reg.KLN_EQ0 i)) 0 && eqValid i (s.rd (Reg.KLN_EQ0 i)) (s.rd (Reg.KLN_EQ1 i)) && s.fld (Reg.KLN_STAT_CAUSE i) != 11

/-- A lane's record taken from the board table at start-up (R296, R297): one that breaks a limit leaves the lane OFF with CAUSE BOARD,
reported LASTING. -/
def State.loadLane (s : State) (i : Nat) (rec : List Byte) : State :=
  let e0 := fieldAt rec 0 4
  let e1 := fieldAt rec 4 4
  let s1 := ((s.wr (Reg.KLN_EQ0 i) e0).wr (Reg.KLN_EQ1 i) e1).wr (Reg.KLN_LAT i) (fieldAt rec 8 2 + fieldAt rec 10 2 * 65536)
  if bitAt e0 0 && (!eqValid i e0 e1 || fieldAt rec 12 4 != 0) then (s1.setFld (Reg.KLN_STAT_CAUSE i) 11).logFault 0x08 2 i
  else s1

/-! ### Capture pictures (R321 to R326) -/

def ciOff : Nat := 0
def ciWait : Nat := 1
def ciRunning : Nat := 2
def ciDraining : Nat := 3
def ciResetting : Nat := 4

def State.capState (s : State) (i : Nat) : Nat := s.fld (Reg.KLN_CAP_CTRL_STATE (capLane i))
def State.setCapState (s : State) (i v : Nat) : State :=
  (s.setFld (Reg.KLN_CAP_CTRL_STATE (capLane i)) v).setFld (Reg.KLN_CAP_CTRL_EN (capLane i)) (if v == ciOff then 0 else 1)

/-- CAP_STATE. -/
def State.capNotice (s : State) (i flags : Nat) : State :=
  s.notice 0x0A04 i [0, s.fld (Reg.KLN_CAP_CTRL_PARTITION (capLane i))] (pack [(1, i), (1, s.capState i), (1, flags), (1, 0)])

/-- CAP_TORN. -/
def State.capTornNotice (s : State) (i cause cls pics : Nat) : State :=
  s.notice 0x0A05 i [0, s.fld (Reg.KLN_CAP_CTRL_PARTITION (capLane i))] (pack [(1, i), (1, cause), (1, cls), (1, 0), (4, pics)])

/-- R323: the picture in flight is torn: its slot is free, it counts, and the fault is classed. Cause 0 torn, 2 format. -/
def State.tearCapture (s : State) (i cause : Nat) (injected : Bool := false) : State :=
  let c := s.cap i
  match c.cur with
  | none => s
  | some p =>
    if p.big then s.setCap i { c with cur := none }
    else
      let n := capLane i
      let s1 := (((s.setCap i { c with cur := none }).raise (Reg.KLN_CAP_STAT_TORN n)).bump (Reg.KLN_CAP_CNT_TORN n)).bump
        (Reg.KLN_CNT_LINE_CUT n)
      let first := (s1.run 0x12 i).first
      let (l, s2) := s1.detFail 0x12 i injected cause
      if l then s2.capTornNotice i first 2 2 else s2

/-- Bytes of a row and the stride of a stored picture (R322). -/
def capRow (fmt w : Nat) : Nat := if fmt == 5 then 16 * ceilDiv w 6 else 4 * w
def capStride (fmt w : Nat) : Nat := alignUp (capRow fmt w) 64

/-- The size of a slot of an input (R322). -/
def capSlotBytes (w h : Nat) : Nat := capStride 1 w * h

/-- The stored bytes of a pixel flit's payload (R306, R322): RGB30 as format 1 with A = 3, YCC422_10 unchanged. -/
def capBytes (fmt n : Nat) (payload : List Byte) : List Byte :=
  if fmt == 5 then payload.take (16 * ceilDiv n 6)
  else (List.range n).flatMap fun k => leBytes 4 (3 * 2 ^ 30 + bitsAt (fieldAt payload (15 * (k / 4)) 15) (30 * (k % 4) + 29) (30 * (k % 4)))

/-- The stamp of a completed picture (R325): none where R287 rejects it. DEDUCED, unsafe (log 92). -/
def State.capStamp (s : State) (i : Nat) (p : CapPic) : Bool × Option Nat :=
  let byTime := s.fld (Reg.KLN_CAP_CTRL_TIME_MODE (capLane i)) == 0
  match p.ptp with
  | some t =>
    if byTime && s.trusted then (false, s.convPtp (s.ptp64 (t / 2 ^ 32) (t % 2 ^ 32)))
    else (byTime, some (wrapSub 40 p.arrival (s.cap i).transit))
  | none => (byTime, some (wrapSub 40 p.arrival (s.cap i).transit))

/-- R325: a picture whose last line is written becomes the newest complete one, and the input confirms its cell. An injection tears
it instead (R479, 0x12). -/
def State.capComplete (s0 : State) (i : Nat) : State :=
  match (s0.cap i).cur with
  | none => s0
  | some p =>
    if p.big || !p.mode || p.lines != p.h then s0
    else
      let (inj, s) := s0.injTake 0x12 i
      if inj.isSome then s.tearCapture i 0 true
      else
        let n := capLane i
        let (fallback, stamp) := s.capStamp i p
        let old := s.rd64 (Reg.KLN_CAP_STAMP_LO n) (Reg.KLN_CAP_STAMP_HI n)
        let x := s.pool 2 i
        let q := x.slot p.slot
        let pic : Pic := { q.pic with fmt := p.fmt, w := p.w, h := p.h, p0 := x.base + p.slot * x.slotSize, s0 := capStride p.fmt p.w,
                                      stamp := stamp.getD old, matrix := p.matrix, full := p.full, tag := p.f, slot := p.slot }
        let s1 := (s.setPool 2 i { x.setSlot p.slot { q with pic := pic } with newest := some p.slot }).setCap i { s.cap i with cur := none }
        let s2 := (((s1.wr (Reg.KLN_CAP_SIZE n) (p.w + p.h * 65536)).bumpWrap (Reg.KLN_CAP_PICS n)).setFld (Reg.KLN_CAP_CTRL_FORMAT n)
          (if p.fmt == 5 then 1 else 0)).setFld (Reg.KLN_CAP_CTRL_FALLBACK n) (ofBool fallback)
        let s3 := if fallback && !s2.trusted then s2.bump Reg.LDG_CNT_FALLBACK else s2
        let s4 := match stamp with
          | some t => s3.wr64 (Reg.KLN_CAP_STAMP_LO n) (Reg.KLN_CAP_STAMP_HI n) t
          | none => s3
        let first := (s4.run 0x12 i).first
        let (one, s5) := (s4.confirmCell x.cell 0 stamp 0).detPass 0x12 i
        if one then s5.capTornNotice i first 1 1 else s5

/-- A FRAME_START on a capture lane (R321 to R323): a picture not complete is torn, and a RUNNING input begins the next one. DEDUCED, unsafe (log 90, 92). -/
def State.capFrameStart (s : State) (i tag : Nat) : State :=
  let s1 := (s.capComplete i).tearCapture i 0
  let s2 := if s1.capState i == ciWait then (s1.setCapState i ciRunning).capNotice i 0 else s1
  if s2.capState i != ciRunning || (s2.cap i).stopped then s2
  else
    let x := s2.pool 2 i
    match x.freeSlot (x.maxViews + 2) [] with
    | none => s2
    | some k => s2.setCap i { s2.cap i with cur := some { slot := k, arrival := s2.nowOf ageLane, tag := tag } }

/-- The MODE flit of a capture picture (R317, R323, R324). DEDUCED, unsafe (log 90). -/
def State.capMode (s : State) (i : Nat) (m : List Byte) : State :=
  let n := capLane i
  let c := s.cap i
  match c.cur with
  | none => s
  | some p =>
    let flags := fieldAt m 3 1
    let code := fieldAt m 2 1
    let w := fieldAt m 8 2
    let h := fieldAt m 18 2
    let x := s.pool 2 i
    if 1 < code || !bitAt (bitsAt (s.partnerWord n 2) 39 32) code then (s.raise (Reg.KLN_CAP_STAT_FORMAT_ERR n)).tearCapture i 2
    else if x.w < w || x.h < h then
      let s1 := (s.setCap i { c with cur := some { p with big := true } }).confirmCell x.cell 2 none 0
      ((s1.raise (Reg.KLN_CAP_STAT_OVERSIZE n)).bump (Reg.KLN_CAP_CNT_OVERSIZE n)).capTornNotice i 1 0xFF 1
    else
      let ptp := if bitAt flags 5 then some (fieldAt m 36 4 * 2 ^ 32 + fieldAt m 32 4) else none
      s.setCap i { c with cur := some { p with mode := true, w := w, h := h, fmt := if code == 1 then 5 else 1, matrix := bitsAt flags 4 3,
                                               full := bitAt flags 2, ptp := ptp, f := fieldAt m 28 4 } }

/-- A LINE_START on a capture lane (R323): it must name the next line. It passes the flits of the line before where those come late (R301). DEDUCED,
unsafe (log 161). DEDUCED, unsafe (log 161). -/
def State.capLineStart (s : State) (i y tag : Nat) : State :=
  let c := s.cap i
  match c.cur with
  | none => s
  | some p =>
    if p.big then s
    else if y != p.next || tag != p.tag then s.tearCapture i 0
    else s.setCap i { c with cur := some { p with next := y + 1 } }

/-- A PIXEL flit of a capture picture: contiguous pixels of the first line not yet whole, written through FBK_CAP (R322, R323). DEDUCED, unsafe (log 92, 161). -/
def State.capPixels (s : State) (i tag line first count : Nat) (last : Bool) (payload : List Byte) : State :=
  let c := s.cap i
  match c.cur with
  | none => s
  | some p =>
    if p.big then s
    else
      let stop := first + count
      let whole := stop == p.w
      if !p.mode || line != p.lines || tag != p.tag || first != p.col || p.w < stop || count == 0 || last != whole ||
          (p.fmt == 5 && first % 6 != 0) || line ≥ p.h then s.tearCapture i 0
      else
        let x := s.pool 2 i
        let q := x.slot p.slot
        let s1 := if line == 0 && first == 0 then s.setPool 2 i (x.setSlot p.slot { q with pic := { q.pic with gen := (q.pic.gen + 1) % 65536 } })
          else s
        let at_ := x.base + p.slot * x.slotSize + line * capStride p.fmt p.w + (if p.fmt == 5 then 16 * (first / 6) else 4 * first)
        let bytes := capBytes p.fmt count payload
        let (ok, _, s2) := s1.unitStore fbkCap at_ bytes
        if !ok then s2.tearCapture i 0
        else
          let p1 := if whole then { p with col := 0, lines := p.lines + 1 } else { p with col := stop }
          s2.setCap i { s2.cap i with cur := some p1 }

/-- The end of an input's drain (R327 steps 3 to 5): cell and memory freed, OFF, the response. -/
def State.finishCap (s : State) (i reset : Nat) : State :=
  let n := capLane i
  let c := s.cap i
  let x := s.pool 2 i
  let pics := s.rd (Reg.KLN_CAP_PICS n)
  let s1 := (((s.setFbkRegion fbkCap i 0 8).freeCells x.cell 1).giveMemory [c.base]).setPool 2 i {}
  let s2 := ({ s1 with ldg := { s1.ldg with lent := sparseDel s1.ldg.lent x.cell } }).setCap i {}
  let s3 := (s2.setCapState i ciOff).capNotice i reset
  let s4 := (s3.wr (Reg.KLN_CAP_CTRL n) 0).wr (Reg.KLN_CAP_CELL n) 0
  s4.answer c.waiter stOk (pack [(4, reset), (4, pics)])

/-! ### Lane states (R313) -/

/-- PAIR_LINK[LANES] follows the pair lanes. -/
def State.showPairLanes (s : State) : State := s.setFld Reg.PAIR_LINK_LANES (maskOf s.pairLanes)

/-- MODE_UNSUPP of an egress lane: an ACTIVE lane whose partner lacks the mode of its scanning output (R318). -/
def State.settleUnsupp (s : State) (n : Nat) : State :=
  let v := ofBool (s.scanning n && s.laneActive n && !bitAt (s.partnerWord n 2) (s.fld (Reg.CNP_OUT_CTRL_MODE n)))
  if s.fld (Reg.KLN_STAT_MODE_UNSUPP n) == v then s else (s.setFld (Reg.KLN_STAT_MODE_UNSUPP n) v).partnerNotice n

/-- What a lane forgets when it enters a state. -/
def LaneSt.enter (x : LaneSt) (st tick : Nat) : LaneSt :=
  let y := { x with since := tick, ts1Run := 0, ts1Seen := false, ts1Locked := 0, group := [], lastGroup := [], groups := 0, ts2Caps := 0,
                    gather := [], skipBad := 0 }
  if st == lsOff then { pref := x.pref, status := x.status, down := x.down, since := tick }
  else if st == lsDetect then { y with probeAt := tick + 20 * ticksPerUs, powerAt := none, good := 0, window := [] }
  else if st == lsActive then
    { y with out := [], queue := [], replaying := [], discard := false, wantReplay := false, statusAt := tick, validAt := tick }
  else y

/-- A lane enters a state; a CAUSE other than 0 is shown. Entering or leaving ACTIVE and entering FAILED raise KLN_LANE. -/
def State.laneTo (s : State) (i st cause : Nat) : State :=
  let old := s.laneState i
  let s1 := (s.setFld (Reg.KLN_STAT_STATE i) st).setLane i ((s.lane i).enter st s.tick)
  let s2 := if cause == 0 then s1 else s1.setFld (Reg.KLN_STAT_CAUSE i) cause
  let s3 := if st == lsOff || st == lsDetect then
      ((s2.setFld (Reg.KLN_STAT_BLOCK_LOCK i) 0).setFld (Reg.KLN_STAT_SCR_SYNC i) 0).setFld (Reg.KLN_OFFSET_FROZEN i) 1 else s2
  let s4 := if st == lsOff then ((s3.setFld (Reg.KLN_STAT_POWERED i) 0).setFld (Reg.KLN_STAT_PRESENT i) 0).setFld (Reg.KLN_REPLAY_OUTSTANDING i) 0 else s3
  let s5 := if st == lsActive then
      ((s4.setFld (Reg.KLN_REPLAY_OUTSTANDING i) 0).setFld (Reg.KLN_REPLAY_TX_SEQ i) 0).setFld (Reg.KLN_RX_SEQ_EXPECTED i) 0 else s4
  let s6 := if i < 32 then (s5.settleTx i).settleUnsupp i
    else if i < 48 then (if old == lsActive && st != lsActive then s5.tearCapture (i - 32) 0 else s5)
    else s5.showPairLanes
  if (old == lsActive) != (st == lsActive) || (st == lsFailed && old != lsFailed) then
    s6.notice 0x0A01 i (s6.laneDests i) (pack [(1, i), (1, st), (1, s6.fld (Reg.KLN_STAT_CAUSE i)), (1, 0)])
  else s6

/-- A lane's power-up begins (R313): a usable lane that is OFF. -/
def State.powerLane (s : State) (i : Nat) : State :=
  if s.laneState i == lsOff && !s.isSet (Reg.KLN_STAT_POWERED i) && s.laneUsable i && !(s.lane i).down then
    (s.setFld (Reg.KLN_STAT_POWERED i) 1).setLane i { s.lane i with powerAt := some s.tick }
  else s

/-- The partner's words are known and compatible: ACTIVE (R313, R315). DEDUCED, unsafe (log 88). -/
def State.laneUp (s : State) (i : Nat) : State :=
  let s1 := s.laneTo i lsActive 0
  if i < 32 then s1.setFld (Reg.LKO_OUT_RET_STAT_CAPABLE i) (bitsAt (s1.partnerWord i 1) 16 16) else s1

/-- RETRAIN (R313, R331): from ACTIVE and CAPS to TRAIN, from FAILED to DETECT; it moves no other state. DEDUCED, unsafe (log 88). -/
def State.retrainLane (s : State) (i : Nat) : State :=
  let st := s.laneState i
  if st == lsActive || st == lsCaps then s.laneTo i lsTrain 1 else if st == lsFailed then s.laneTo i lsDetect 1 else s

/-! ### Acknowledgement and replay (R308 to R310) -/

/-- An ACK or NAK sent. DEDUCED, unsafe (log 85). -/
def State.sendAck (s : State) (i : Nat) (nak : Bool) (seq : Nat) : State :=
  s.emit (.order i (orderSet 0x66 (pack [(1, ofBool nak), (2, seq)])))

/-- Replays ended well: TRANSIENT (R310), logged at most once per 10 ms for each lane. DEDUCED, unsafe (log 241). -/
def State.replayGood (s : State) (i : Nat) : State :=
  let x := s.lane i
  let recent := match x.loggedAt with
    | none => false
    | some t => s.tick < t + 10 * ticksPerMs
  if recent then s.setRun 0x08 i {} else ((s.setLane i { x with loggedAt := some s.tick }).setRun 0x08 i { count := 1 }).detPass 0x08 i |>.2

/-- An ACK for `seq` (R309): frees what it covers; ignored where `seq` is not outstanding. A replay whose SEQ it covers is TRANSIENT (R310). DEDUCED, unsafe (log 241). -/
def State.ackFlit (s : State) (i seq : Nat) : State :=
  let x := s.lane i
  if !(x.out.any fun f => f.seq == seq) then s
  else
    let s1 := s.setReplay i (x.out.filter fun f => newer 16 f.seq seq)
    let left := x.replaying.filter fun r => newer 16 r seq
    let s2 := if left == x.replaying then s1 else (s1.setLane i { s1.lane i with replaying := left }).replayGood i
    let s3 := s2.pumpLane i (s2.lane i).queue.length
    if 48 ≤ i then s3.settleThrottle else s3

/-- Flits sent again, each behind the one before. -/
def resent (at_ : Nat) : List Flit → List Flit
  | [] => []
  | f :: t => { f with sentAt := at_ + flitTicks } :: resent (at_ + flitTicks) t

/-- A replay from `seq` (R309, R310): an IDLE, then the flits from `seq` on with REPLAY; a second replay of the same SEQ that no ACK has covered since is
LASTING. DEDUCED, unsafe (log 86, 241). -/
def State.replayFrom (s : State) (i seq : Nat) : State :=
  let x := s.lane i
  if x.replaying.contains seq then
    let s1 := (s.setReplay i []).bump (Reg.KLN_CNT_REPLAY_LASTING i)
    let s2 := (((s1.raise (Reg.KLN_EVT_REPLAY_LASTING i)).setLane i { s1.lane i with replaying := [] }).setRun 0x08 i { count := 1 }).detFail 0x08 i |>.2
    ((s2.setRun 0x08 i {}).notice 0x0A02 i (s2.laneDests i) (pack [(1, i), (1, 2), (2, seq)])).laneTo i lsTrain 4
  else
    let s1 := (s.bump (Reg.KLN_CNT_REPLAY i)).setRun 0x08 i { count := 1 }
    let again := x.out.filter fun f => !newer 16 seq f.seq
    let sent := resent (max s.tick x.freeAt) again
    let s2 := s1.setLane i { x with replaying := seq :: x.replaying, freeAt := (sent.getLast?.map Flit.sentAt).getD x.freeAt
                                    out := (x.out.filter fun f => newer 16 seq f.seq) ++ sent }
    again.foldl (fun t f => t.emit (.flit i (f.bytes true))) (s2.emit (.order i (0x1E :: zeros 7)))

/-- A NAK for `seq`; ignored where it is not outstanding. -/
def State.nakFlit (s : State) (i seq : Nat) : State :=
  if (s.lane i).out.any fun f => f.seq == seq then s.replayFrom i seq else s

/-! ### Egress framing (R311, R312, R316, R317) -/

/-- The sync polarities of a mode (R104), bit 0 HSYNC positive, bit 1 VSYNC positive. -/
def syncFlags (i : Nat) : Nat := if [2, 5, 7, 13, 14, 16, 17, 23].contains i then 1 else 3

/-- The MODE flit's payload of an output's frame. -/
def State.modePayload (s : State) (n : Nat) : List Byte :=
  let m := s.mode n
  let k := s.fld (Reg.CNP_OUT_CTRL_MODE n)
  pack [(1, k), (1, n), (1, 0), (1, syncFlags k + 4), (4, m.pclk), (2, m.w), (2, m.hTotal), (2, m.hFront), (2, m.hSync),
    (2, m.hTotal - m.w - m.hFront - m.hSync), (2, m.h), (2, m.vTotal), (2, m.vFront), (2, m.vSync),
    (2, m.vTotal - m.h - m.vFront - m.vSync), (4, s.frameNo n), (8, 0), (24, 0)]

/-- The frame begins on the lane: FRAME_START, then the MODE flit. -/
def State.sendFrameStart (s : State) (n : Nat) (resumed : Bool) : State :=
  let tag := s.frameNo n % 65536
  (s.emit (.order n (orderSet 0x33 (pack [(2, tag), (1, s.fld (Reg.CNP_OUT_CTRL_MODE n)), (1, ofBool resumed)])))).sendFlit n
    { type := 1, tag := tag, payload := s.modePayload n }

/-- Pixels as RGB30 groups of 15 bytes (R306). -/
def rgbGroups (px : List Nat) : List Byte :=
  (List.range (ceilDiv px.length 4)).flatMap fun g =>
    leBytes 15 ((List.range 4).foldl (fun a k => a + px.getD (4 * g + k) 0 % 2 ^ 30 * 2 ^ (30 * k)) 0)

/-- The flits of a line, 540 pixels each. -/
def lineFlits (tag y w : Nat) : Nat → Nat → List Nat → List Flit
  | 0, _, _ => []
  | k + 1, x, px =>
    let now := px.take 540
    if now.isEmpty then []
    else { type := 0, last := x + now.length == w, tag := tag, line := y, first := x, pixels := now.length, payload := rgbGroups now } ::
      lineFlits tag y w k (x + now.length) (px.drop 540)

/-- A line on the lane: LINE_START and its pixel flits; where the 32-flit transmit queue is full, the rest is discarded (R312). -/
def State.sendLine (s : State) (n y : Nat) (px : List Nat) : State :=
  let tag := s.frameNo n % 65536
  let s1 := s.emit (.order n (orderSet 0x4B (pack [(2, y), (2, px.length), (2, tag)])))
  let (cut, s2) := (lineFlits tag y px.length px.length 0 px).foldl (fun (a : Bool × State) f =>
    if a.1 || 32 ≤ (a.2.lane n).queue.length then (true, a.2) else (false, a.2.sendFlit n f)) (false, s1)
  if cut then s2.bump (Reg.KLN_CNT_LINE_CUT n) else s2

end Sys2Proof.Machine
end

