-- ==== Sys2Proof/Machine/Policy.lean ====
section
/-! DEFINITION. The responses of the policy to single faults, and what a decision of it does (spec/15_policy.md, R422, R427 to R430). -/

namespace Sys2Proof.Machine

open Sys2Proof

def State.setPol (s : State) (x : PolSt) : State := { s with pol := x }

/-- Counters whose growth in a window is a measure: abandoned rows of the decode pipes, replays of the egress and pair lanes, LATE rows or
pictures of the encode sessions, each under its register. -/
def watched : List Nat :=
  ((List.range 8).map fun p => Reg.DEC_PIPE_CNT_OVERRUN p) ++ (((List.range 32) ++ [48, 49, 50, 51]).map fun i => Reg.KLN_CNT_REPLAY i) ++
    ((List.range 32).map fun n => Reg.ENC_SES_CNT_LATE n)

/-- Their values now. -/
def State.watchedNow (s : State) : List (Nat × Nat) := watched.foldl (fun l a => sparsePut 0 l a (s.rd a)) []

/-- Windows restart empty when Lysman firmware reports ready (R431). -/
def State.restartWindows (s : State) : State :=
  s.setPol { s.pol with runs := [], fired := 0, scanLow := false, urOuts := 0, startAt := s.tick, counts := s.watchedNow }

/-- POL_TRADE. DEDUCED, unsafe (log 129). -/
def State.tradeNotice (s : State) (kept broken cause n mask : Nat) : State :=
  s.notice 0x0D03 (cause * 256 + n) [0xFFFF] (pack [(1, kept), (1, broken), (1, cause), (1, n), (4, mask)])

/-- The rank of an output's cadence (R416). -/
def State.cadenceRank (s : State) (n : Nat) : Nat := if s.isSet (Reg.CNP_OUT_CTRL_CLASS n) then 2 else 3

/-! ### Decisions carried to a standby (R430) -/

/-- The predicted BUSY of a session, in units of 10^-6 of its pipe's time: its part of the pipe's BUSY is that of its allotment. DESIGN CHOICE, unsafe (log 238). -/
def busyShare (busy : List Nat) (l : List Slotted) (x : Slotted) : Nat :=
  match x.pipe with
  | none => 0
  | some p => busy.getD p 0 * 1000 * x.num / max 1 ((l.filter fun y => y.pipe == some p).foldl (fun n y => n + y.num) 0)

/-- What a placement makes of the pipes in service: the highest predicted BUSY, and how many pipes have it. `share` is each session's part. -/
def busyPeak (pipes : List Nat) (share : List (Nat × Nat)) (l : List Slotted) : Nat × Nat :=
  let at_ (p : Nat) : Nat := (l.filter fun x => x.pipe == some p).foldl (fun n x => n + sparseGet 0 share x.id) 0
  let top := (pipes.map at_).foldl max 0
  (top, (pipes.filter fun p => at_ p == top).length)

/-- Whether one peak is below another: the lower highest BUSY, or as high on fewer pipes. -/
def peakBelow (a b : Nat × Nat) : Bool := a.1 < b.1 || (a.1 == b.1 && a.2 < b.2)

/-- The placements that one move, or one exchange of two sessions, makes of `l` within R195. DESIGN CHOICE, unsafe (log 238). -/
def nextPlaces (pipes : List Nat) (l : List Slotted) : List (List Slotted) :=
  let placed := l.filter fun x => x.pipe.any fun p => pipes.contains p
  let holds (k : List Slotted) (p : Option Nat) : Bool := pipeHolds decPix decKbps (k.filter fun y => y.pipe == p)
  (placed.flatMap fun x => ((pipes.filter fun p => x.pipe != some p).map fun p => putOn l x.id (some p)).filter fun k =>
      pipes.all fun p => holds k (some p)) ++
    (placed.flatMap fun x => ((placed.filter fun y => x.id < y.id && x.pipe != y.pipe).map fun y => putOn (putOn l x.id y.pipe) y.id x.pipe).filter fun k =>
      holds k x.pipe && pipes.all fun p => holds k (some p))

/-- Moves taken one at a time, the best first, until none lowers the peak. DESIGN CHOICE, unsafe (log 238). -/
def levelled (pipes : List Nat) (share : List (Nat × Nat)) : Nat → List Slotted → List Slotted
  | 0, l => l
  | k + 1, l =>
    let best := (nextPlaces pipes l).foldl (fun b c => if peakBelow (busyPeak pipes share c) (busyPeak pipes share b) then c else b) l
    if peakBelow (busyPeak pipes share best) (busyPeak pipes share l) then levelled pipes share k best else l

/-- The moves of rung 1 (R422): within R195, to minimise the highest BUSY, by the pipes' BUSY of the window. DESIGN CHOICE, unsafe (log 238). -/
def State.levelMoves (s : State) (busy : List Nat) : List (Nat × Nat) :=
  let l := s.decTable
  let share := l.foldl (fun a x => sparsePut 0 a x.id (busyShare busy l x)) []
  let k := levelled s.decPipesUp share 256 l
  placementMoves (k.filter fun x => (l.find? fun y => y.id == x.id) != some x)

/-- The moves of rung 1 that keep R195: each open, placed session onto a pipe in service, while the pipe still holds its sessions once all have moved. DESIGN CHOICE, unsafe (log 238). -/
def State.rungMoves (s : State) (moves : List (Nat × Nat)) : List Slotted :=
  let put (l : List Slotted) (p : Nat × Nat) : List Slotted :=
    if (l.any fun x => x.id == p.1 && x.pipe.isSome) && s.decPipesUp.contains p.2 then putOn l p.1 (some p.2) else l
  let k := moves.foldl put s.decTable
  if s.decPipesUp.all fun p => pipeHolds decPix decKbps (k.filter fun x => x.pipe == some p) then k else s.decTable

/-- Rung 3's cap on every encode session (R422). -/
def State.capEncs (s : State) (pct : Option Nat) : State := s.openEncs.foldl (fun t n => t.setEnc n { t.enc n with cap := pct }) s

/-- A rung put in force or released. Rungs 2 and 4 take effect at each output's next latch line, rung 5 as it stands. -/
def State.setRung (s : State) (r : Nat) (on : Bool) (moves : List (Nat × Nat)) : State :=
  let old := s.pol.rungs
  let s1 := s.setPol { s.pol with rungs := if bitAt old (r - 1) == on then old else if on then old + 2 ^ (r - 1) else old - 2 ^ (r - 1) }
  if r == 1 && on then s1.applyDecPlaces (s1.rungMoves moves)
  else if r == 3 then s1.capEncs (if on then some s1.pol.capPct else none)
  else s1

/-- Pipes that LASTING faults took out of service. -/
def State.lostDecPipes (s : State) : List Nat :=
  (List.range 8).filter fun p => s.isSet (Reg.DEC_PIPE_STAT_FAULTED p) && !s.isSet (Reg.DEC_PIPE_STAT_EN p)
def State.lostEncPipes (s : State) : List Nat :=
  (List.range 4).filter fun p => s.isSet (Reg.ENC_PIPE_STAT_FAULTED p) && !s.isSet (Reg.ENC_PIPE_STAT_EN p)

/-- A session stands on a pipe this device has lost: it cannot follow the placement (R430). DEDUCED, unsafe (log 166). -/
def State.cannotFollow (s : State) : Bool :=
  (s.decTable.any fun x => x.pipe.any fun p => s.lostDecPipes.contains p) || s.encTable.any fun x => x.pipe.any fun p => s.lostEncPipes.contains p

/-- A device that begins to drive places the sessions of the pipes it has lost (R425, R430), once Lysman firmware is ready (R431). DEDUCED, unsafe (log 166). -/
def State.placeLost (s : State) : State :=
  let on (lost : List Nat) (l : List Slotted) : List Nat := (l.filter fun x => x.pipe.any fun p => lost.contains p).map fun x => x.id
  let dec := on s.lostDecPipes s.decTable
  let enc := on s.lostEncPipes s.encTable
  if !s.decides then s
  else
    let s1 := if dec.isEmpty then s else s.decideDecs (replace decPix decKbps s.decPipesUp dec s.decTable)
    if enc.isEmpty then s1 else s1.decideEncs (replace encPix encKbps s1.encPipesUp enc s1.encTable)

/-- What waited for Lysman firmware (R222, R247): sessions move that a placement had moved, those of drained pipes, those of pipes lost meanwhile, and
parked ones resume. DEDUCED, unsafe (log 202). -/
def State.settlePlaces (s : State) : State :=
  let s0 := s.openEncs.foldl (fun t n => t.encBoundary n) (s.openDecs.foldl (fun t n => t.atBoundary n) s)
  let s1 := (List.range 8).foldl (fun t p => t.pipeMoved p) s0
  let s2 := (List.range 4).foldl (fun t p => t.encPipeMoved p) s1
  ((s2.placeLost).resumeDecs).resumeEncs

/-- A decode or encode session parked by decision. -/
def State.parkSession (s : State) (enc : Bool) (n : Nat) : State :=
  if enc then s.applyEncPlaces (putOn s.encTable n none) else s.applyDecPlaces (putOn s.decTable n none)

/-! ### R427 -/

/-- The lowest-ranked placed session that feeds other outputs of the slice of output `n` and not `n` itself: encode sessions rank below
decode sessions (R417). DEDUCED, unsafe (log 131). -/
def State.tradeCandidate (s : State) (n : Nat) : Option (Bool × Nat) :=
  let mates := (List.range 4).map (fun j => n / 4 * 4 + j) |>.filter fun m => m != n
  let encs := s.encTable.filter fun x => x.pipe.isSome && mates.contains (s.encOutput x.id)
  let decs := s.decTable.filter fun x => x.pipe.isSome &&
    (let l := s.shownOn 1 x.id
     l.any (fun m => mates.contains m) && !l.contains n)
  match lowestPlaced encs, lowestPlaced decs with
  | some x, _ => some (true, x.id)
  | none, some x => some (false, x.id)
  | none, none => none

/-- The end of a frame with `lines` underrun lines (R427); `lasting` where it is the one that makes them LASTING. On a safety-class output a further frame of
more than 8, with rung 5 in force, parks one session, and the next after one frame between, until a frame has 8 or fewer. -/
def State.underrunTrade (s : State) (n lines : Nat) (lasting : Bool) : State :=
  if lines ≤ 8 then s.setPol { s.pol with trades := sparseDel s.pol.trades n, armed := s.pol.armed.filter fun m => m != n }
  else if !s.pol.armed.contains n then (if lasting then s.setPol { s.pol with armed := n :: s.pol.armed } else s)
  else if !s.decides || !s.isSet (Reg.CNP_OUT_CTRL_CLASS n) || !s.rung 5 then s
  else
    let f := s.frameNo n
    let wait := (sparseFind s.pol.trades n).any fun g => f != g && wrapSub 32 f g < 2
    match s.tradeCandidate n with
    | none => s
    | some (enc, id) =>
      if wait then s
      else
        (((s.setPol { s.pol with trades := sparseIns s.pol.trades n f }).parkSession enc id).sendDecision (if enc then 3 else 2) id []).tradeNotice
          2 (if enc then 6 else 3) 0 n (2 ^ (id % 32))

/-- What the end of the active area gives the policy (R419, R421, R427). -/
def State.frameMeasure (s : State) (n minLast lines : Nat) (lasting : Bool) : State :=
  let p := s.pol
  let low := p.scanLow || minLast < 384 || lines != 0
  let outs := if lines != 0 && !bitAt p.urOuts n then p.urOuts + 2 ^ n else p.urOuts
  let s1 := s.setPol { p with scanLow := low, urOuts := outs }
  (if lasting then s1.firePressure 1 else s1).underrunTrade n lines lasting

/-! ### R428 -/

/-- A response to a fault that waits for Lysman firmware (R431). DEDUCED, unsafe (log 213). -/
def State.waitTrade (s : State) (kind n : Nat) : State :=
  if s.pol.waits.contains (kind, n) then s else s.setPol { s.pol with waits := s.pol.waits ++ [(kind, n)] }

/-- A LASTING return fault on output `n`: its lane is retrained once; another within 10 s of the lane being ACTIVE again is only
reported. -/
def State.returnRetrain (s : State) (n : Nat) : State :=
  let skip := match sparseFind s.pol.retrain n with
    | none => false
    | some none => true
    | some (some t) => s.tick < t + 10 * ticksPerS
  if skip || !s.drives then s
  else if !s.isSet Reg.MBX_STATUS_READY then s.waitTrade 0 n
  else ((s.setPol { s.pol with retrain := sparseIns s.pol.retrain n none }).retrainLane n).tradeNotice 1 (s.cadenceRank n) 1 n (2 ^ n)

/-- The lane of an output retrained by R428 is ACTIVE again. -/
def State.retrainDone (s : State) (n : Nat) : State :=
  if sparseFind s.pol.retrain n == some none then s.setPol { s.pol with retrain := sparseIns s.pol.retrain n (some s.tick) } else s

/-! ### R429 -/

/-- Whether a fault of this device's own leaves the pair without a driver but itself. -/
def State.drivesAlone (s : State) : Bool := s.drives && (s.role == 0 || s.pair.partnerRole != 2)

/-- SELF_DIFF attributed to this device: FORCE_VOID on every running output of the slice of output `n`. DEDUCED, unsafe (log 63). -/
def State.voidSlice (s : State) (n : Nat) : State :=
  if !s.drivesAlone then s
  else if !s.isSet Reg.MBX_STATUS_READY then s.waitTrade 1 n
  else
    let outs := ((List.range 4).map fun j => n / 4 * 4 + j).filter fun m => s.outState m == osRunning && !bitAt s.pol.forced m
    if outs.isEmpty then s
    else
      let s1 := outs.foldl (fun t m =>
        let g := t.gateOut m
        (t.setGate m { g with holds := if bitAt g.holds 4 then g.holds else g.holds + 16 }).setFld (Reg.GATE_OUT_CFG_FORCE_VOID m) 1) s
      (s1.setPol { s1.pol with forced := s1.pol.forced + maskOf outs }).tradeNotice 1 (s.cadenceRank n) 2 n (maskOf outs)

/-- The responses that waited for Lysman firmware. DEDUCED, unsafe (log 213). -/
def State.settleTrades (s : State) : State :=
  s.pol.waits.foldl (fun t x => if x.1 == 0 then t.returnRetrain x.2 else t.voidSlice x.2) (s.setPol { s.pol with waits := [] })

end Sys2Proof.Machine
end

