-- ==== Sys2Proof/Machine/TimeCmds.lean ====
section
/-! DEFINITION. The PTP service, the servo, steps, 1PPS and the commands of the time unit (spec/10_time_unit.md). -/

namespace Sys2Proof.Machine

open Sys2Proof

/-! ### Servo states (R282) -/

def tsFree : Nat := 0
def tsLocked : Nat := 1
def tsHoldover : Nat := 2
def tsUntrusted : Nat := 3

def State.timeState (s : State) : Nat := s.fld Reg.TIM_STATUS_STATE

/-- The payload of TIM_STATE. -/
def State.timePayload (s : State) (old : Nat) : List Byte :=
  pack [(1, old), (1, s.timeState), (1, s.fld Reg.TIM_STATUS_TRUSTED), (1, 0), (2, s.epoch), (2, 0), (4, s.rd Reg.TIM_OFFSET)]

/-- TIM_STATE raised where STATE or TRUSTED has changed; with GATE, PPS_OUT is low while TRUSTED is 0 (R288). -/
def State.timeChanged (s : State) (old : Nat) (trusted : Bool) : State :=
  let t : State := { s with time := { s.time with ppsHigh := s.time.ppsHigh && (s.trusted || !s.isSet Reg.TIM_PPS_CTRL_GATE) } }
  if old != t.timeState || trusted != t.trusted then t.notice 0x0901 0 [0xFFFF] (t.timePayload old) else t

/-- An entry into UNTRUSTED from another state is counted and its bit set (R282). -/
def State.countUntrusted (s : State) (old : Nat) : State :=
  if s.timeState == tsUntrusted && old != tsUntrusted then (s.bump Reg.TIM_CNT_UNTRUSTED).raise Reg.TIM_STAT_UNTRUSTED else s

/-- The servo enters state `st`: TRUSTED is 1 exactly in LOCKED and in HOLDOVER (R282). -/
def State.servoTo (s : State) (st : Nat) : State :=
  let s1 := (s.setFld Reg.TIM_STATUS_STATE st).setFld Reg.TIM_STATUS_TRUSTED (ofBool (st == tsLocked || st == tsHoldover))
  let s2 := { s1 with time := { s1.time with beyond := 0, inside := 0, missed := false, holdoverAt := if st == tsHoldover then s.tick else s.time.holdoverAt } }
  (s2.countUntrusted s.timeState).timeChanged s.timeState s.trusted

/-- A TIME message of the active (R341, R351): kind (0 rate, 1 step), epoch, rate adjustment, the PTP time of the tick, step. -/
def State.sendTime (s : State) (kind : Nat) (at_ : Nat) (delta : Int) : State :=
  if s.role == 1 then
    s.pairSend 0x0B (pack [(1, kind), (1, 0), (2, s.epoch), (4, s.rd Reg.TIM_PTP_ADJ), (8, at_), (8, ofInt 64 delta)])
  else s

/-- The PTP clock moved by `delta` ns at this tick: the conversion history restarts, outputs rephase, TIM_STEP is raised with its
cause (R283, R284, R286). -/
def State.ptpMoved (s : State) (delta : Int) (cause : Nat) : State :=
  let s1 := ((s.resetHistory.bump Reg.TIM_CNT_STEP).raise Reg.TIM_STAT_STEPPED).wr64 Reg.TIM_STEP_LO Reg.TIM_STEP_HI (ofInt 64 delta)
  (s1.notice 0x0902 0 [0xFFFF] (pack [(1, cause), (1, 0), (2, s1.epoch), (4, 0), (8, ofInt 64 delta)]) true).rephaseAll
    (if cause == 2 then 2 else 0) delta

/-- A step write (R283): ignored and counted without a permit; with one the clock moves, the epoch rises and the permit clears. DEDUCED, unsafe (log 79). -/
def State.stepPtp (s : State) (delta : Int) (cause : Nat) : Bool × State :=
  if !s.isSet Reg.TIM_STATUS_PERMIT then (false, s.bump Reg.TIM_CNT_STEP_DENIED)
  else
    let before := s.ptpNs
    let s1 := s.setPtpNs (((before : Int) + delta) % (2 ^ 48 * 10 ^ 9)).toNat
    let s2 := ((s1.setFld Reg.TIM_STATUS_EPOCH (wrapAdd 16 s.epoch 1)).setFld Reg.TIM_STATUS_PERMIT 0).dropAnchors
    (true, (s2.ptpMoved delta cause).sendTime 1 before delta)

/-- A rate written by the servo and forwarded (R277, R351). DESIGN CHOICE, safe (log 18). -/
def State.servoWrite (s : State) (v : Int) : State :=
  let t := s.setPtpAdj v
  if t.rd Reg.TIM_PTP_ADJ == s.rd Reg.TIM_PTP_ADJ then t else t.sendTime 0 t.ptpNs 0

/-! ### Agreement of eight measurements (R562) -/

/-- The sums of a least-squares line through n points: n, Σx, Σy, n Σx² − (Σx)², n Σxy − Σx Σy. -/
structure Fit where
  n : Int := 0
  sx : Int := 0
  sy : Int := 0
  sxx : Int := 0
  sxy : Int := 0
  deriving DecidableEq, Repr

/-- The line through a list of (local receive time, offset). -/
def fitLine (l : List (Int × Int)) : Fit :=
  let n : Int := l.length
  let sum (f : Int × Int → Int) : Int := l.foldl (fun a p => a + f p) 0
  let sx := sum Prod.fst
  let sy := sum Prod.snd
  { n := n, sx := sx, sy := sy, sxx := n * sum (fun p => p.1 * p.1) - sx * sx, sxy := n * sum (fun p => p.1 * p.2) - sx * sy }

/-- n × sxx times the line's value at x. -/
def Fit.lineNum (f : Fit) (x : Int) : Int := f.sy * f.sxx + f.sxy * (f.n * x - f.sx)

/-- The nearest integer to a / b for b > 0, halves up. DEDUCED, unsafe (log 77). -/
def nearestInt (a b : Int) : Int := (2 * a + b) / (2 * b)

/-- Whether eight measurements agree: the residuals' spread is at most 10 µs. DEDUCED, unsafe (log 78). -/
def agrees (l : List (Int × Int)) : Bool :=
  let f := fitLine l
  let den := f.n * f.sxx
  let res := l.map fun p => p.2 * den - f.lineNum p.1
  let hi := res.foldl max (res.headD 0)
  let lo := res.foldl min (res.headD 0)
  l.length == 8 && decide (0 < f.sxx) && decide (hi - lo ≤ 10000 * den)

/-- The rate adjustment that cancels the line's slope. DEDUCED, unsafe (log 78). -/
def Fit.cancel (f : Fit) (adj : Int) : Int :=
  nearestInt ((2 * 2 ^ 32 + adj) * (f.sxx - f.sxy)) f.sxx - 2 * 2 ^ 32

/-! ### Measurements -/

/-- Whether Lysman firmware runs the servo: it is ready, and the role is not STANDBY (R290, R351). -/
def State.servoRuns (s : State) : Bool := s.isSet Reg.MBX_STATUS_READY && s.role != 2

/-- A new master is selected: a change restarts the count of 8, and while LOCKED it enters HOLDOVER (R282, R562). DEDUCED, unsafe (log 79). -/
def State.selectMaster (s : State) (port master gm : Nat) : State :=
  let had := s.isSet Reg.TIM_STATUS_MASTER
  let changed := had && s.time.master != master
  let s1 := (((s.setFld Reg.TIM_STATUS_MASTER 1).setFld Reg.TIM_STATUS_PORT port).wr64 Reg.TIM_GM_ID_LO Reg.TIM_GM_ID_HI gm)
  let s2 := if s.time.master == master && had then s1
    else { s1 with time := { s1.time with master := master, meas := [], inside := 0, missed := false, sync := none, heardSync := none, request := none
                                          response := none } }
  if changed && s.timeState == tsLocked then s2.servoTo tsHoldover else s2

/-! ### Messages (R279, R280) -/

/-- The fixed receive and transmit latencies of a lane in ns, from its record (R280, R296). DEDUCED, unsafe (log 240). -/
def State.rxLatency (s : State) (i : Nat) : Nat := (s.fld (Reg.KLN_LAT_LAT_RX_PS i) + 500) / 1000
/-- The transmit latency of lane `i` of the board, in whole ns (R280, R296). DEDUCED, unsafe (log 240). -/
def State.txLatency (s : State) (i : Nat) : Nat := (s.fld (Reg.KLN_LAT_LAT_TX_PS i) + 500) / 1000

/-- 2^`log` seconds in ticks, for a logMessageInterval byte within −7 to 4 (R279). PRESUMED, unsafe (log 239). -/
def intervalTicks (log : Nat) : Nat := if log < 128 then ticksPerS * 2 ^ min log 4 else ticksPerS / 2 ^ min (256 - log) 7

/-- The port identity a message comes from. PRESUMED, unsafe (log 239). -/
def ptpSource (message : List Byte) : Nat := fieldBe message 20 10

/-- The timestamp a message carries, in ns. PRESUMED, unsafe (log 239). -/
def ptpTime (message : List Byte) : Int := (fieldBe message 34 6 * 10 ^ 9 + fieldBe message 40 4 : Nat)

/-- The correctionField of a message, in whole ns. PRESUMED, unsafe (log 239). -/
def ptpCorrection (message : List Byte) : Int := toInt 64 (fieldBe message 8 8) / 65536

/-- What an Announce says of a master: priority1, the clock quality, priority2, the grandmaster, the steps removed, and last its own identity and the port
here. PRESUMED, unsafe (log 239). -/
def announced (p tick : Nat) (message : List Byte) : PtpMaster :=
  { port := p, id := ptpSource message, gm := fieldBe message 53 8, heardAt := tick, every := intervalTicks (fieldAt message 33 1)
    rank := [fieldBe message 47 1, fieldBe message 48 4, fieldBe message 52 1, fieldBe message 53 8, fieldBe message 61 2, ptpSource message, p] }

/-- The order of two ranks: the first difference decides. PRESUMED, unsafe (log 239). -/
def rankBelow : List Nat → List Nat → Bool
  | a :: x, b :: y => a < b || (a == b && rankBelow x y)
  | _, _ => false

/-- The best of the masters whose Announce messages still come. PRESUMED, unsafe (log 239). -/
def State.bestMaster (s : State) : Option PtpMaster :=
  (s.time.masters.filter fun x => !s.since x.heardAt (3 * x.every)).foldl
    (fun b x => if b.all fun y => rankBelow x.rank y.rank then some x else b) none

/-- An Announce heard on port `p`: the best master is selected, where Lysman firmware runs the servo. DEDUCED, unsafe (log 207). PRESUMED, unsafe (log 239). -/
def State.hearAnnounce (s : State) (p : Nat) (message : List Byte) : State :=
  let m := announced p s.tick message
  let t : State := { s with time := { s.time with masters := m :: s.time.masters.filter fun x => !(x.id == m.id && x.port == p) } }
  match t.bestMaster with
  | some b => if t.servoRuns then t.selectMaster b.port b.id b.gm else t
  | none => t

/-- A message of the domain heard on port `p`: an Announce of any master; a Sync, Follow_Up or Delay_Resp of the one selected. A Sync of one step carries its
time itself, one of two steps has it follow; corrections are honoured (R279). DEDUCED, unsafe (log 207). PRESUMED, unsafe (log 239). -/
def State.hearPtp (s : State) (p : Nat) (message : List Byte) (stamp : Nat) : State :=
  let kind := fieldAt message 0 1 % 16
  let seq := fieldBe message 30 2
  let x := s.time
  if fieldAt message 4 1 != s.fld Reg.TIM_STATUS_DOMAIN then s
  else if kind == 0xB then s.hearAnnounce p message
  else if !s.isSet Reg.TIM_STATUS_MASTER || x.master != ptpSource message then s
  else if kind == 0 then
    let at_ := ptpTime message + ptpCorrection message
    { s with time := { x with
      sync := some (s.tick, intervalTicks (fieldAt message 33 1))
      heardSync := some { seq := seq, t2 := stamp, corr := ptpCorrection message, t1 := if bitAt (fieldAt message 6 1) 1 then none else some at_ } } }
  else if kind == 8 then
    { s with time := { x with heardSync := x.heardSync.map fun y =>
      if y.seq == seq && y.t1.isNone then { y with t1 := some (ptpTime message + y.corr + ptpCorrection message) } else y } }
  else if kind == 9 && x.request.any fun r => r.1 == seq then { s with time := { x with response := some (ptpTime message - ptpCorrection message) } }
  else s

/-- t1 to t4 of the messages heard, once all four are known; a request whose transmit timestamp was dropped gives none (R281). -/
def State.heardTimes (s : State) : Option (Int × Int × Int × Int) :=
  match s.time.heardSync, s.time.request, s.time.response with
  | some y, some (_, some t3), some t4 => y.t1.map fun t1 => (t1, y.t2, t3, t4)
  | _, _, _ => none

/-- Whether the servo gathers measurements: in FREE, and while a permit is held (R282, R285). -/
def State.gathers (s : State) : Bool := s.timeState == tsFree || s.isSet Reg.TIM_STATUS_PERMIT

/-- A measurement gathered; when eight agree, the step and the rate of R562, and LOCKED. DEDUCED, unsafe (log 78). -/
def State.gather (s : State) (t offset : Int) : State :=
  if !s.gathers then s
  else
    let l := s.time.meas ++ [(t, offset)]
    let l8 := l.drop (l.length - 8)
    let s1 := { s with time := { s.time with meas := l8 } }
    if !agrees l8 then s1
    else
      let f := fitLine l8
      let delta := -(nearestInt (f.lineNum s1.ptpNs) (f.n * f.sxx))
      match s1.stepPtp delta (if s1.timeState == tsFree then 0 else 1) with
      | (false, t1) => t1
      | (true, t1) =>
        let t2 := t1.servoWrite (f.cancel (toInt 32 (s1.rd Reg.TIM_PTP_ADJ)))
        ({ t2 with time := { t2.time with meas := [] } }).servoTo tsLocked

/-- An offset within STEP_THRESH. In HOLDOVER only the first one of a master that is available again locks. DEDUCED, unsafe (log 160). -/
def State.nearOffset (s : State) (t offset : Int) : State :=
  let st := s.timeState
  let s1 := { s with time := { s.time with beyond := 0 } }
  let s2 :=
    if st == tsHoldover then (if s1.time.missed then s1 else s1.servoTo tsLocked)
    else if st == tsUntrusted then
      if s1.time.inside + 1 == 8 then s1.servoTo tsLocked
      else { s1 with time := { s1.time with inside := s1.time.inside + 1 } }
    else s1
  let s3 := if s2.timeState == tsLocked then s2.nextFree.servoWrite (Config.servoRate s2.fresh) else s2
  s3.gather t offset

/-- An offset beyond STEP_THRESH: in LOCKED and HOLDOVER a single one is discarded and counted, a second enters UNTRUSTED. DEDUCED, unsafe (log 160). -/
def State.farOffset (s : State) (t offset : Int) : State :=
  let st := s.timeState
  if st == tsLocked || st == tsHoldover then
    if s.time.beyond == 0 then
      ({ s with time := { s.time with beyond := 1, missed := st == tsHoldover } }).bump Reg.TIM_CNT_OUTLIER
    else (s.servoTo tsUntrusted).gather t offset
  else ({ s with time := { s.time with inside := 0 } }).gather t offset

/-- A signed value saturated to 32 bits. -/
def sat32 (v : Int) : Nat := ofInt 32 (if v < -(2 ^ 31) then -(2 ^ 31) else if (2 ^ 31 : Int) ≤ v then 2 ^ 31 - 1 else v)

/-- One measurement (R282): t1 to t4 in ns with corrections applied, from the master selected on `port`. DEDUCED, unsafe (log 77). -/
def State.measure (s : State) (port master gm : Nat) (t1 t2 t3 t4 : Int) : State :=
  let offset := ((t2 - t1) - (t4 - t3)) / 2
  let delay := ((t2 - t1) + (t4 - t3)) / 2
  let s1 := s.selectMaster port master gm
  let s2 := (s1.wr Reg.TIM_OFFSET (sat32 offset)).wr Reg.TIM_MEAN_DELAY (sat32 delay)
  if offset.natAbs ≤ s2.fld Reg.TIM_STEP_THRESH_NS then s2.nearOffset t2 offset else s2.farOffset t2 offset

/-- A measurement on a port of PORTS, while Lysman firmware runs the servo: that of the best master, where Announce messages tell it, and with the times of the
messages heard, where they give all four. DEDUCED, unsafe (log 207). -/
def State.takeMeasure (s : State) (port master gm : Nat) (t1 t2 t3 t4 : Int) : State :=
  let best := s.bestMaster
  if !s.servoRuns || !bitAt s.time.ports port || !best.all fun b => b.port == port && b.id == master then s
  else
    let (a, b, c, d) := s.heardTimes.getD (t1, t2, t3, t4)
    let u := s.measure port master ((best.map PtpMaster.gm).getD gm) a b c d
    { u with time := { u.time with heardSync := none } }

/-- PTP_MEASUREMENT (R279, R282 to R286, R562). -/
def execPtpMeasurement (dt : Nat) (port : Fin 2) (master gm : Nat) (t1 t2 t3 t4 : Int) (s : State) : Host.Outcome State Fault Refusal :=
  .next ((s.pass dt).takeMeasure port.val master gm t1 t2 t3 t4)

/-- Whether the selected master is lost (R279): 3 Announce intervals without an Announce of it, or 4 Sync intervals without a Sync. Where none of its messages
came as a frame, MASTER_LOSS itself says so. DEDUCED, unsafe (log 207). -/
def State.masterGone (s : State) : Bool :=
  let x := s.time
  let own := x.masters.find? fun m => m.id == x.master && m.port == s.fld Reg.TIM_STATUS_PORT
  own.any (fun m => s.since m.heardAt (3 * m.every)) || x.sync.any (fun m => s.since m.1 (4 * m.2)) || (own.isNone && x.sync.isNone)

/-- The master lost (R279, R282). -/
def State.loseMaster (s : State) : State :=
  let s1 := { s.setFld Reg.TIM_STATUS_MASTER 0 with
    time := { s.time with meas := [], inside := 0, missed := false, sync := none, heardSync := none, request := none, response := none
                          masters := s.time.masters.filter fun m => m.id != s.time.master } }
  if s.timeState == tsLocked then s1.servoTo tsHoldover else s1

/-- MASTER_LOSS (R279, R282). -/
def execMasterLoss (dt : Nat) (s : State) : Host.Outcome State Fault Refusal :=
  let s1 := s.pass dt
  .next (if s1.servoRuns && s1.isSet Reg.TIM_STATUS_MASTER && s1.masterGone then s1.loseMaster else s1)

/-- HOLDOVER_S has elapsed in HOLDOVER: UNTRUSTED; where Lysman firmware does not run the servo the state stays, and is no longer trusted (R282, R290).
DEDUCED, unsafe (log 79). -/
def State.holdoverOver (s : State) : State :=
  if s.timeState != tsHoldover || !s.since s.time.holdoverAt (s.fld Reg.TIM_HOLDOVER_SEC * ticksPerS) then s
  else if s.servoRuns then s.servoTo tsUntrusted
  else (s.setFld Reg.TIM_STATUS_TRUSTED 0).timeChanged tsHoldover s.trusted

/-- HOLDOVER_EXPIRY (R282): HOLDOVER_S after HOLDOVER was entered. -/
def execHoldoverExpiry (dt : Nat) (s : State) : Host.Outcome State Fault Refusal :=
  .next ((s.pass dt).holdoverOver)

/-! ### The transmit-timestamp queue (R281) -/

/-- TIM_TXQ_HEAD as read: the head entry, or VALID clear. -/
def TxStamp.head : Option TxStamp → Nat
  | none => 0
  | some x => 2 ^ 31 + x.port % 2 * 2 ^ 30 + x.msgType % 16 * 2 ^ 26 + x.seqId % 65536

/-- The queue's entries with HEAD and LEVEL following. -/
def State.setTxq (s : State) (l : List TxStamp) : State :=
  ({ s with time := { s.time with txq := l } }.wr Reg.TIM_TXQ_HEAD (TxStamp.head l.head?)).setFld Reg.TIM_TXQ_LEVEL_LEVEL l.length

/-- TIM_TXQ_HEAD_POP (R281): a Ranger read pops the head; of an empty queue it returns VALID clear. -/
def execTimTxqHeadPop (dt : Nat) (s : State) : Host.Outcome State Fault Refusal :=
  let s1 := s.pass dt
  .next (match s1.time.txq with
    | [] => { s1 with readData := 0 }
    | x :: t => { (s1.setTxq t).putTxStamp x with readData := TxStamp.head (some x) })

/-- A time stamp pushed, or dropped and counted when 16 are held. DEDUCED, unsafe (log 80). -/
def State.pushTxStamp (s : State) (x : TxStamp) : State :=
  if s.time.txq.length < 16 then s.setTxq (s.time.txq ++ [x])
  else ((s.bump Reg.TIM_CNT_TXQ_OVF).raise Reg.TIM_STAT_TXQ_OVF).notice 0x0903 0 [0xFFFF] (pack [(4, 1)])

/-- The Ethernet frame of a PTP event message on port `p` in the transport of TIM_CFG (R279). DEDUCED, unsafe (log 80). -/
def State.ptpFrame (s : State) (p : Nat) (message : List Byte) : List Byte :=
  let x := s.time
  let src (v6 : Bool) : List Byte := (((s.portSt p).addrs.find? fun a => a.v6 == v6).map PortAddr.addr).getD (zeros 16)
  if x.transport == 2 then
    let tag := if x.vlan == 0 then [] else beBytes 2 0x8100 ++ beBytes 2 (x.pcp * 8192 + x.vlan)
    ethSeal (beBytes 6 0x011B19000000 ++ s.portMac p ++ tag ++ beBytes 2 0x88F7 ++ message)
  else
    let v6 := x.transport == 1
    let f : TxFlow := { v6 := v6, pcp := x.pcp, vlan := x.vlan, ttl := 1, srcIp := src v6, srcPort := 319
                        mac := beBytes 6 (if v6 then 0x333300000181 else 0x01005E000181)
                        dstIp := if v6 then beBytes 16 (0xFF0E * 2 ^ 112 + 0x181) else beBytes 4 0xE0000181 }
    s.udpFrame f p 319 message

/-- A PTP event message of Lysman firmware leaves on the selected master's port, and its transmit timestamp, corrected by the port's fixed latency, enters the
queue (R279 to R281). -/
def State.sendDelayReq (s : State) (message : List Byte) : State :=
  let p := s.fld Reg.TIM_STATUS_PORT
  if s.servoRuns && s.isSet Reg.TIM_STATUS_MASTER && s.linkUp p then
    let t := s.emit (.frame p (s.ptpFrame p message))
    let seq := fieldBe message 30 2
    let stamp := t.ptpNs + t.txLatency (52 + p)
    let held := t.time.txq.length < 16
    let u : State := { t with time := { t.time with request := some (seq, if held then some (stamp : Int) else none), response := none } }
    u.pushTxStamp { port := p, msgType := fieldAt message 0 1 % 16, seqId := seq, ptp := stamp }
  else s

/-- DELAY_REQ_SEND (R281). -/
def execDelayReqSend (dt : Nat) (message : List Byte) (s : State) : Host.Outcome State Fault Refusal :=
  .next ((s.pass dt).sendDelayReq message)

/-! ### Register reads (R291) -/

/-- The _NS registers of the time unit. -/
def timNs (i : Fin 3) : Nat := [Reg.TIM_PTP_NS, Reg.TIM_PPSIN_NS, Reg.TIM_TXQ_NS].getD i.val 0

/-- TIM_NS_READ (R291): a host read of an _NS register captures the seconds registers in shadows. -/
def execTimNsRead (dt : Nat) (reg : Fin 3) (s : State) : Host.Outcome State Fault Refusal :=
  .next ((s.pass dt).readReg (timNs reg))

/-! ### 1PPS (R288, R289) -/

/-- PPS_OUT_RISE (R288): with EN, at a whole second reached by counting; gated by TRUSTED with GATE; not within 0.5 s of the last. DEDUCED, unsafe (log 81). -/
def execPpsOutRise (dt : Nat) (s : State) : Host.Outcome State Fault Refusal :=
  let s1 := s.pass dt
  let x := s1.time
  let passed := s1.ptpNs % 10 ^ 9 < 4
  let open_ := !s1.isSet Reg.TIM_PPS_CTRL_GATE || s1.trusted
  let apart := match x.ppsRoseAt with
    | none => true
    | some t => s1.since t (ticksPerS / 2)
  .next (if s1.isSet Reg.TIM_PPS_CTRL_EN && passed && open_ && apart && !x.ppsHigh then
      let s2 := match x.widthPending with
        | none => s1
        | some w => s1.setFld Reg.TIM_PPS_CTRL_WIDTH_US w
      { s2 with time := { x with ppsHigh := true, ppsRoseAt := some s1.tick, widthPending := none } }
    else s1)

/-- PPS_OUT_FALL (R288): WIDTH_US after the rise. -/
def execPpsOutFall (dt : Nat) (s : State) : Host.Outcome State Fault Refusal :=
  let s1 := s.pass dt
  let due := match s1.time.ppsRoseAt with
    | none => true
    | some t => s1.since t (s1.fld Reg.TIM_PPS_CTRL_WIDTH_US * ticksPerUs)
  .next (if s1.time.ppsHigh && due then { s1 with time := { s1.time with ppsHigh := false } } else s1)

/-- The signed distance of a PTP time from the nearest whole second, in ns. -/
def secDistance (ns : Nat) : Int := if ns % 10 ^ 9 < 5 * 10 ^ 8 then (ns % 10 ^ 9 : Nat) else ((ns % 10 ^ 9 : Nat) : Int) - 10 ^ 9

/-- PPS_IN_EDGE (R289). DEDUCED, unsafe (log 81). -/
def execPpsInEdge (dt : Nat) (s : State) : Host.Outcome State Fault Refusal :=
  let s1 := s.pass dt
  let ns := s1.ptpNs / 2 * 2
  let s2 := (((s1.wr Reg.TIM_PPSIN_NS (ns % 10 ^ 9)).wr Reg.TIM_PPSIN_SEC_LO (ns / 10 ^ 9 % 2 ^ 32)).setFld Reg.TIM_PPSIN_SEC_HI_SEC
    (ns / 10 ^ 9 / 2 ^ 32)).raise Reg.TIM_PPSIN_SEC_HI_NEW
  let d := secDistance ns
  .next (if s2.time.ppsInCheck != 0 && s2.trusted && s2.time.ppsInCheck < d.natAbs then
      (s2.raise Reg.TIM_STAT_PPS_DIFF).notice 0x0904 0 [0xFFFF] (pack [(4, sat32 d), (8, toPtp64 ns)])
    else s2)

/-! ### Commands (R285, R290, R292) -/

/-- The checks of TIM_CFG in the order of R393 step 8, each as (it fails, status, DETAIL). -/
def chkTimCfg (r : Req) (_s : State) : List (Bool × Nat × Nat) :=
  let th := r.u32 20
  let ho := r.u16 24
  [(r.part != 1, stPartition, noField), (127 < r.u8 16, stInvalid, 16), (r.u8 17 == 0 || 3 < r.u8 17, stInvalid, 17),
    (2 < r.u8 18, stInvalid, 18), (7 < r.u8 19, stInvalid, 19), (th != 0 && !within 1000 1000000000 th, stInvalid, 20),
    (3600 < ho && ho != 0xFFFF, stInvalid, 24), (4094 < r.u16 26, stInvalid, 26)]

/-- TIM_CFG. -/
def cmdTimCfg (r : Req) (s : State) : State × Resp :=
  let th := r.u32 20
  let ho := r.u16 24
  s.refuseOr (chkTimCfg r s)
    (let x := s.time
     let moved := s.fld Reg.TIM_STATUS_DOMAIN != r.u8 16 || x.ports != r.u8 17 || x.transport != r.u8 18 || x.vlan != r.u16 26
     let s1 := ((s.setFld Reg.TIM_STATUS_DOMAIN (r.u8 16)).setFld Reg.TIM_STEP_THRESH_NS (if th == 0 then 1000000 else th)).setFld
       Reg.TIM_HOLDOVER_SEC (if ho == 0xFFFF then 60 else ho)
     let s2 := { s1 with time := { x with ports := r.u8 17, transport := r.u8 18, pcp := r.u8 19, vlan := r.u16 26 } }
     (if moved && s2.role != 2 then s2.loseMaster else s2, .ok []))

/-- TIM_CFG, as R292 has it. -/
def execTimCfg (dt : Nat) (m : Fin 8) (s : State) : Host.Outcome State Fault Refusal :=
  .next ((s.pass dt).lcs m.val 0x0901 cmdTimCfg)

/-- The checks of TIM_RE_EPOCH in the order of R393 step 8, each as (it fails, status, DETAIL). -/
def chkTimReEpoch (r : Req) (s : State) : List (Bool × Nat × Nat) :=
  [(r.part != 1, stPartition, noField), (r.u32 16 != 0, stInvalid, 16),
    (s.timeState == tsFree || s.isSet Reg.TIM_STATUS_PERMIT, stInvalid, noField)]

/-- TIM_RE_EPOCH (R285): grants a step permit, and the count of 8 begins. -/
def cmdTimReEpoch (r : Req) (s : State) : State × Resp :=
  s.refuseOr (chkTimReEpoch r s)
    (let s1 := s.setFld Reg.TIM_STATUS_PERMIT 1
     ({ s1 with time := { s1.time with meas := [] } }, .ok []))

/-- TIM_RE_EPOCH, as R285 has it. -/
def execTimReEpoch (dt : Nat) (m : Fin 8) (s : State) : Host.Outcome State Fault Refusal :=
  .next ((s.pass dt).lcs m.val 0x0902 cmdTimReEpoch)

/-- The checks of TIM_PPS_CFG in the order of R393 step 8, each as (it fails, status, DETAIL). -/
def chkTimPpsCfg (r : Req) (_s : State) : List (Bool × Nat × Nat) :=
  let c := r.u32 24
  [(r.part != 1, stPartition, noField), (1 < r.u8 16, stInvalid, 16), (1 < r.u8 17, stInvalid, 17), (r.u16 18 != 0, stInvalid, 18),
    (!within 1 500000 (r.u32 20), stInvalid, 20), (c != 0 && !within 100 1000000 c, stInvalid, 24)]

/-- TIM_PPS_CFG (R288): a new width takes effect from the next rising edge. -/
def cmdTimPpsCfg (r : Req) (s : State) : State × Resp :=
  let c := r.u32 24
  s.refuseOr (chkTimPpsCfg r s)
    (let s1 := (s.setFld Reg.TIM_PPS_CTRL_EN (r.u8 16)).setFld Reg.TIM_PPS_CTRL_GATE (r.u8 17)
     let s2 := { s1 with time := { s1.time with widthPending := some (r.u32 20), ppsInCheck := c, ppsHigh := s1.time.ppsHigh && r.u8 16 == 1 && (r.u8 17 == 0 || s.trusted) } }
     (s2, .ok []))

/-- TIM_PPS_CFG, as R288 has it. -/
def execTimPpsCfg (dt : Nat) (m : Fin 8) (s : State) : Host.Outcome State Fault Refusal :=
  .next ((s.pass dt).lcs m.val 0x0903 cmdTimPpsCfg)

/-- The checks of TIM_QUERY in the order of R393 step 8, each as (it fails, status, DETAIL). -/
def chkTimQuery (r : Req) (_s : State) : List (Bool × Nat × Nat) :=
  [(r.u32 16 != 0, stInvalid, 16)]

/-- TIM_QUERY: the image of TIM_STATUS to TIM_GM_ID_HI. -/
def cmdTimQuery (r : Req) (s : State) : State × Resp :=
  s.refuseOr (chkTimQuery r s)
    (s, .ok (s.regImage State.view Reg.TIM_STATUS 16))

/-- TIM_QUERY, as R292 has it. -/
def execTimQuery (dt : Nat) (m : Fin 8) (s : State) : Host.Outcome State Fault Refusal :=
  .next ((s.pass dt).lcs m.val 0x0904 cmdTimQuery)

end Sys2Proof.Machine
end

