-- ==== Sys2Proof/Machine/PairOps.lean ====
section
/-! DEFINITION. The pair's roles, takeover, alignment, transfer and comparison (spec/12_pair_operation.md). The spec gives the
messages' contents but not their layouts; the layouts are the model's. -/

namespace Sys2Proof.Machine

open Sys2Proof

def roSolo : Nat := 0
def roActive : Nat := 1
def roStandby : Nat := 2
def roBlind : Nat := 3
def roFaulted : Nat := 4
def phFinding : Nat := 0
def phJoining : Nat := 1
def phSynced : Nat := 2
def phIsolated : Nat := 3
def phResync : Nat := 4

def State.pairPhase (s : State) : Nat := s.fld Reg.PAIR_STATUS_PHASE
def State.pairPresent (s : State) : Bool := s.isSet Reg.PAIR_STATUS_PRESENT
def State.ilkMode (s : State) : Bool := s.isSet Reg.PAIR_STATUS_ILK
def State.junior (s : State) : Bool := s.isSet Reg.PAIR_STATUS_SIDE
def State.ready (s : State) : Bool := s.isSet Reg.MBX_STATUS_READY
def State.setPair (s : State) (p : PairSt) : State := { s with pair := p }
def State.pairOut (s : State) (n : Nat) : PairOut := sparseGet {} s.pair.outs n
def State.setPairOut (s : State) (n : Nat) (x : PairOut) : State := s.setPair { s.pair with outs := sparsePut {} s.pair.outs n x }

/-- Whether the heartbeat runs (R339): the pair subsystem runs, no FATAL fault, no power failure. -/
def State.heartRuns (s : State) : Bool :=
  s.isSet Reg.PAIR_STATUS_READY && !s.isSet Reg.HLT_STATUS_FATAL && !s.isSet Reg.BLZ_STATUS_PF

/-! ### Paths alive (R340) -/

/-- T_loss in ticks. -/
def State.tLoss (s : State) : Nat := s.fld Reg.PAIR_TLOSS_US * ticksPerUs

/-- Whether a path's last sign came less than T_loss ago. -/
def State.alive (s : State) (t : Option Nat) : Bool :=
  match t with
  | none => false
  | some t => s.tick < t + s.tLoss

/-- PIN_ALIVE and LINK_ALIVE follow. -/
def State.showAlive (s : State) : State :=
  (s.setFld Reg.PAIR_PINS_PIN_ALIVE (ofBool (s.alive s.pair.pinAt))).setFld Reg.PAIR_PINS_LINK_ALIVE (ofBool (s.alive s.pair.linkAt))

/-! ### OUT_OWN, the interlock claim and the egress lanes (R336, R362, R363, R367) -/

/-- OUT_OWN driven; in interlock mode ILK_OUT_N goes with it. -/
def State.setOwn (s : State) (v : Bool) : State :=
  let s1 := s.setFld Reg.PAIR_PINS_OUT_OWN (ofBool v)
  let s2 := if s.ilkMode then s1.setFld Reg.PAIR_PINS_ILK_OUT (ofBool v) else s1
  let low := s.fld Reg.PAIR_PINS_SEL_STATUS == 0
  s2.setPair { s2.pair with
    ownAt := if v then some s.tick else none
    selLowAt := if v && low then some s.tick else none
    dualSeen := false }

/-- The egress lanes powered. -/
def State.egressOn (s : State) : State := (List.range 32).foldl (fun t i => t.powerLane i) s

/-- The egress lanes taken down, unless HOT_EGRESS keeps them. -/
def State.egressOff (s : State) : State :=
  if s.isSet Reg.PAIR_STATUS_HOT_EGRESS && s.role != roFaulted then s
  else (List.range 32).foldl (fun t i =>
    if t.laneState i != lsOff || t.isSet (Reg.KLN_STAT_POWERED i) then t.laneTo i lsOff 12 else t) s

/-- TX of every output and SENDING of every transmit flow follow the role (R270, R318). -/
def State.settleSends (s : State) : State :=
  let s1 := (List.range 32).foldl (fun t n => t.settleTx n) s
  (List.range 32).foldl (fun t n =>
    if t.isSet (Reg.PKT_TX_CTRL_OPEN n) then t.setFld (Reg.PKT_TX_CTRL_SENDING n) (ofBool t.drives) else t) s1

/-- Forwarding and comparison stop; the forwarding queue is discarded, and steps of PTP time not yet taken with it (R354). -/
def State.stopMirror (s : State) : State :=
  let s1 := (s.setPair { s.pair with mirroring := false, steps := [] }).setFld Reg.PAIR_STATUS_CROSSCHECK 0
  ((List.range 4).foldl (fun t k => t.setLane (pairLane k) { t.lane (pairLane k) with queue := [] }) s1).settleThrottle

/-- A claim of the interlock, or the wait for one, is given up (R367). -/
def State.dropClaim (s : State) : State :=
  (s.setFld Reg.PAIR_PINS_ILK_OUT (ofBool (s.ilkMode && s.isSet Reg.PAIR_PINS_OUT_OWN))).setPair
    { s.pair with ilkWaitAt := none, claimAt := none, retryAt := none }

/-- A switchover under way ends, and the command that began it is answered with RESULT `r`: 1 where this device keeps the displays or has
taken them back, 2 where it has lost them too (R365, R370). DEDUCED, unsafe (log 244). -/
def State.endSwitch (s : State) (r : Nat) : State :=
  (s.setPair { s.pair with swAt := none, swWaiter := none }).answer s.pair.swWaiter stOk (pack [(4, r)])

/-- Encode sessions restart their Coppice cycle at a takeover or switchover (R364). -/
def State.refreshEncs (s : State) : State :=
  (List.range 32).foldl (fun t n => if t.isSet (Reg.ENC_SES_CTRL_OPEN n) then t.coppice n else t) s

/-- The enabled outputs whose egress lane is used and not ACTIVE. -/
def State.egressMissing (s : State) : List Nat :=
  (List.range 32).filter fun n => s.outState n != osOff && !s.laneActive n

/-- OUT_OWN asserted, lanes powered, the bring-up watched (R360, R362). -/
def State.claimDisplays (s : State) (switching : Bool) : State :=
  let s1 := (s.setOwn true).egressOn
  (s1.setPair { s1.pair with egressAt := some s.tick, switching := switching }).refreshEncs

/-- The takeover itself (R360): role SOLO, with the BLIND flag where it comes from BLIND_STANDBY. DEDUCED, unsafe (log 96, 163). -/
def State.takeOver (s : State) (cause : Nat) (blind : Bool) : State :=
  let s1 := (s.dropMirror.claimDisplays false).bump Reg.PAIR_CNT_TAKEOVER
  let s2 := (s1.raise Reg.PAIR_EVT_TAKEOVER).stopMirror
  ((s2.setPair { s2.pair with startedAt := none, ilkWaitAt := none, claimAt := none, retryAt := none, swAt := none }).setRole roSolo phFinding cause
    blind).settleSends.placeLost

/-- A partner that is alive but unreachable keeps ILK_IN_N low: the device becomes ISOLATED (R367). DEDUCED, unsafe (log 244). -/
def State.isolate (s : State) (cause : Nat) : State := ((s.dropMirror.dropClaim).setRole roBlind phIsolated cause).endSwitch 2

/-- A takeover begins: at once in native mode; in interlock mode it waits for ILK_IN_N, and a partner that keeps it low once it is lost
leaves the device ISOLATED (R367). A wait that has begun goes on. -/
def State.beginTakeover (s : State) (cause : Nat) : State :=
  let blind := s.role == roBlind
  if !s.ilkMode then s.takeOver cause blind
  else if s.isSet Reg.PAIR_PINS_ILK_IN && s.pair.lost && s.pair.claimAt.isNone && s.pair.retryAt.isNone then s.isolate cause
  else if s.pair.ilkWaitAt.isSome then s
  else s.setPair { s.pair with ilkWaitAt := some s.tick, blind := blind, cause := cause, claimAt := none, retryAt := none }

/-- FAULTED (R336 to R339): OUT_OWN low, egress down, the pin heartbeat held low, no takeover or switchover under way. -/
def State.enterFaulted (s : State) (cause : Nat) : State :=
  let s1 := (((s.dropMirror.stopMirror).setOwn false).dropClaim.setFld Reg.PAIR_PINS_HB_OUT 0).setRole roFaulted s.pairPhase cause
  ((s1.setPair { s1.pair with egressAt := none, startedAt := none }).egressOff.settleSends).endSwitch 2

/-- The partner is lost, or reports FAULTED (R337): a switchover that has not reached its instant ends with it. DEDUCED, unsafe (log 163, 244). -/
def State.partnerGone (s : State) (cause : Nat) : State :=
  if s.role == roActive then (((s.stopMirror).setRole roSolo phFinding cause).settleSends).endSwitch 1
  else if s.role == roStandby then s.beginTakeover cause
  else if s.role == roBlind && s.pairPhase != phIsolated && s.pair.startedAt.isNone then s.beginTakeover cause
  else s

/-! ### Ages and PTP time at a join (R278, R350, R351) -/

/-- Whether the device holds an age (R278). -/
def State.holdsAge (s : State) : Bool :=
  (s.ldg.cells.any fun c => c.1 != 0 && c.2.ownerKind != 0) || (List.range 32).any (fun n => s.outState n == osRunning) ||
    (List.range 128).any (fun n => s.isSet (Reg.DEC_SES_CTRL_OPEN n)) || (List.range 32).any (fun n => s.isSet (Reg.ENC_SES_CTRL_OPEN n)) ||
    (List.range 16).any fun i => s.isSet (Reg.KLN_CAP_CTRL_EN (capLane i))

/-- The age clock aligned by `d` ns (R278); a backward alignment of a device that holds ages is refused. DESIGN CHOICE, safe (log 18). -/
def State.alignAge (s : State) (d : Int) : State :=
  if d < 0 && s.holdsAge then s.raise Reg.TIM_STAT_ALIGN_REFUSED
  else
    let age := (((s.clk.age : Int) + d * 2 ^ 32) % (2 ^ 96 : Int)).toNat
    (({ s with clk := { s.clk with age := age } }).wr64 Reg.TIM_AGE_ALIGN_LO Reg.TIM_AGE_ALIGN_HI (ofInt 64 d)).resetHistory

/-- R350 step 4 for a joiner whose age clock is `d` ns ahead of the active's: aligned, run down by rate, left to the active, or
refused. -/
def State.alignJoin (s : State) (d : Int) : State :=
  if !s.holdsAge then s.alignAge (-d)
  else if d ≤ 0 then s.alignAge (-d)
  else if s.junior && d ≤ 20000000 then (s.setPair { s.pair with ageRate := true }).setAgeAdj (-adjLimit)
  else if !s.junior && d ≤ 2000000 then s
  else ((s.alignAge (-d)).raise Reg.PAIR_EVT_AGE_AHEAD).enterFaulted 12

/-- The join alignment of the PTP clock (R283): PTP time moved by `d` ns, and epoch, permit, STATE and TRUSTED as in the partner's
TIM_STATUS. DEDUCED, unsafe (log 209). -/
def State.alignPtp (s : State) (d : Int) (status : Nat) : State :=
  let old := s.timeState
  let trusted := s.trusted
  let s1 := s.setPtpNs (((s.ptpNs : Int) + d) % (2 ^ 48 * 10 ^ 9)).toNat
  let s2 := (((s1.setFld Reg.TIM_STATUS_EPOCH (bitsAt status 15 0)).setFld Reg.TIM_STATUS_PERMIT (bitsAt status 29 29)).setFld
    Reg.TIM_STATUS_STATE (bitsAt status 28 26)).setFld Reg.TIM_STATUS_TRUSTED (bitsAt status 30 30) |>.dropAnchors
  let s3 := (({ s2 with time := { s2.time with meas := [], beyond := 0, inside := 0, holdoverAt := s.tick } }).setFld Reg.TIM_STATUS_MASTER 0).ptpMoved d 2
  (s3.countUntrusted old).timeChanged old trusted

/-! ### The state transfer (R352) -/

/-- A transfer block. Kinds: 0 memory, 1 a range of 2^n bytes whose blocks that do not follow hold what nothing has written, 2 a cell, 4 the settings, 9 the end. DESIGN CHOICE, unsafe (log 93). -/
def xferBody (kind a : Nat) (data : List Byte) : List Byte := pack [(1, kind), (1, 0), (2, data.length), (8, a)] ++ data

/-- Registers that hold settings the joiner adopts: those of the display, ledger, Lookout, session and flow blocks, ring indices among
them; counters and W1C bits are not. -/
def settingReg (a : Nat) : Bool :=
  let producer := (List.range 64).any (fun r => a == Reg.LDG_CRING_PROD r) || (List.range 32).any fun n => a == Reg.CNP_CRING_PROD n
  w1cMask a == 0 && (rwMask a == 0 || producer) &&
    (within 0x100000 0x1FFFFF a || within 0x201000 0x201FFF a || within 0x280000 0x3FFFFF a || within 0x401000 0x47FFFF a ||
      within 0x800000 0x87FFFF a || (List.range 16).any (fun i => a == Reg.KLN_CAP_CTRL (capLane i) || a == Reg.KLN_CAP_CELL (capLane i)) ||
      a == Reg.TIM_STEP_THRESH || a == Reg.TIM_HOLDOVER || a == Reg.TIM_PPS_CTRL)

/-- Every LCS-reachable setting. DESIGN CHOICE, safe (log 98). -/
def State.settings (s : State) : Settings :=
  { regs := s.regs.filter fun p => settingReg p.1
    parts := s.parts, grants := s.grants, stands := s.stands, groups := s.groups, outs := s.outs, commits := s.commits, gate := s.gate,
    regions := s.regions, disputes := s.pair.outs.map fun p => (p.1, p.2.disputes), pol := s.pol, decs := s.decs, encs := s.encs,
    pools := s.pools, queues := s.queues, caps := s.caps, fwPool := s.fwPool,
    cells := s.ldg.cells.filter fun p => !(p.2.ownerKind == 0 || p.2.ownerKind == 1 || p.2.ownerKind == 6),
    lent := s.ldg.lent, freed := s.ldg.freed, notify := s.ldg.notify, suppressed := s.ldg.suppressed,
    addrs := s.ports.map fun p => (p.1, p.2.addrs), time := s.time, hotEgress := s.isSet Reg.PAIR_STATUS_HOT_EGRESS,
    disputeMark := s.isSet Reg.PAIR_STATUS_DISPUTE_MARK }

/-- The blocks of device memory sent: 64-byte blocks with a listed byte into which FBK_HOST permits writes, and the span sets. -/
def State.xferBlocks (s : State) : List Nat :=
  (s.mem.foldl (fun l c => if l.head? == some (c.1 / 64) then l else (c.1 / 64) :: l) []).reverse.filter fun b =>
    (s.fbkDenies fbkHost (64 * b) true).isNone || within 0x60C000000 0x60CFFFFFF (64 * b)

/-- Comparison state cleared at a join, a resynchronisation or OUT_ENABLE (R353). DEDUCED, unsafe (log 54). -/
def State.clearConverged (s : State) (n : Nat) : State :=
  (s.setFld (Reg.PAIR_OUT_CMP_CONVERGED n) 0).setPairOut n { s.pairOut n with agrees := 0 }

/-- The active sends its state to a joiner, and forwarding runs from the first block (R352 step 3). The blocks are read through
FBK_PAIR; one that it denies is sent as zeros. The ordered stream begins at PSEQ 0. DEDUCED, unsafe (log 97, 104). -/
def State.startTransfer (s : State) : State :=
  let s00 := (List.range 32).foldl (fun t n => t.clearConverged n) s
  let s0 := ((s00.setPair { s00.pair with mirroring := true, xferBytes := 0, log := [] }).wr Reg.PAIR_PSEQ_TX 0).wr Reg.PAIR_PSEQ_RX 0
  let send (t : State) (b : List Byte) : State :=
    let u := t.pairSend 0x09 b
    u.setPair { u.pair with xferBytes := u.pair.xferBytes + b.length }
  let s1 := send s0.nextFree (xferBody 4 0 ((Config.settingsBytes s0.fresh).take 2000))
  let s1b := s.grants.foldl (fun t g => send t (xferBody 1 g.base [BitVec.ofNat 8 g.log2])) s1
  let s2 := s.xferBlocks.foldl (fun t b =>
    let (data, _, _, _, u) := t.unitLoad fbkPair (64 * b) 64
    send u (xferBody 0 (64 * b) data)) s1b
  let s3 := (s.ldg.cells.filter fun c => c.2.ownerKind == 1).foldl (fun t c => send t (xferBody 2 c.1 c.2.image)) s2
  s3.pairSend 0x09 (xferBody 9 s3.pair.xferBytes [])

/-! ### Comparison (R355 to R359) -/

/-- The messages of a record (R341, R355): each names output, flags, the record's count of regions, F and whole-frame signature, and
carries up to 251 of its regions. DESIGN CHOICE, unsafe (log 93). -/
def SigRec.parts (r : SigRec) (n : Nat) : List (List Byte) :=
  (List.range (max 1 (ceilDiv r.regions.length 251))).map fun i =>
    pack [(1, n), (1, r.flags), (2, r.regions.length), (4, r.f), (4, r.sig)] ++
      ((r.regions.drop (251 * i)).take 251).flatMap fun x => pack [(2, x.num), (1, x.verdict), (1, x.skip), (4, x.sig)]

/-- The output, the record's count of regions, and the part of the record that one of its messages carries. -/
def sigRecOf (b : List Byte) : Nat × Nat × SigRec :=
  let regions := (List.range ((b.length - 12) / 8)).map fun k =>
    { num := fieldAt b (12 + 8 * k) 2, verdict := fieldAt b (14 + 8 * k) 1, skip := fieldAt b (15 + 8 * k) 1, sig := fieldAt b (16 + 8 * k) 4 : RegionSig }
  (fieldAt b 0 1, fieldAt b 2 2, { flags := fieldAt b 1 1, f := fieldAt b 4 4, sig := fieldAt b 8 4, regions := regions })

/-- A part joined to those that came before it: the whole record once all its regions are there. DESIGN CHOICE, unsafe (log 93). -/
def PairOut.gather (x : PairOut) (total : Nat) (r : SigRec) : PairOut :=
  let old := x.parts.find? fun p => p.2.f == r.f
  let whole : SigRec := match old with
    | some p => { p.2 with regions := p.2.regions ++ r.regions }
    | none => r
  let rest := x.parts.filter fun p => p.2.f != r.f
  if total ≤ whole.regions.length then { x with parts := rest, partner := x.partner ++ [whole] } else { x with parts := rest ++ [(total, whole)] }

/-- The record Lookout hands over for the frame just posted (R185). -/
def State.sigRecord (s : State) (n : Nat) (diff : Bool) : SigRec :=
  let l := s.look n
  let x := s.pairOut n
  let f := s.frameNo n
  let cross (r : RegionRun) : Bool := l.urLines.any fun y => r.y0 ≤ y && y < r.y1
  { f := f
    flags := ofBool diff + 2 * ofBool (x.lateF == some f) + 4 * ofBool (x.skewF == some f) + 8 * ofBool (!l.urLines.isEmpty) + 16 * ofBool (s.outState n == osRunning)
    sig := crcFinal l.frameB
    regions := (l.runs.filter fun r => ctrlPair r.ctrl && ctrlEn r.ctrl).map fun r =>
      let v := bitsAt (s.rgState r.num) 11 8
      { num := r.num, verdict := v, skip := if v != 1 then 0 else if cross r then 2 else if r.treated || l.prevTreated.contains r.num then 1 else 3, sig := s.rgSig r.num } }

/-- The regions compared: present in both records, neither NONE nor OVERLOAD, neither skipped for an underrun (R356). -/
def comparedRegions (a b : SigRec) : List (RegionSig × RegionSig) :=
  let ok (x : RegionSig) : Bool := x.verdict != 0 && x.verdict != 9 && x.skip != 2
  a.regions.filterMap fun x => (b.regions.find? fun y => y.num == x.num && ok x && ok y).map fun y => (x, y)

/-- R356: the first cause that excludes a frame, 0 for none. -/
def exclusion (a b : SigRec) : Nat :=
  if bitAt a.flags 1 || bitAt b.flags 1 then 1
  else if bitAt a.flags 2 || bitAt b.flags 2 then 2
  else if bitAt a.flags 3 || bitAt b.flags 3 then 3
  else if !bitAt a.flags 4 || !bitAt b.flags 4 then 5
  else 0

/-- R357: attribution of a DISAGREE frame (bit 0 this device, bit 1 partner), the regions left undecided, and those whose reference
says that this device is wrong. -/
def State.attribute (s : State) (a b : SigRec) (bad : List (RegionSig × RegionSig)) : Nat × List Nat × List Nat :=
  if bitAt a.flags 0 || bitAt b.flags 0 then (ofBool (bitAt a.flags 0) + 2 * ofBool (bitAt b.flags 0), [], [])
  else
    let judge (p : RegionSig × RegionSig) : Nat :=
      if ctrlKind (s.rgCtrl p.1.num) != 4 || p.1.verdict == 8 || p.2.verdict == 8 then 0
      else
        let ref := s.rgRef p.1.num
        if p.1.sig != ref && p.2.sig != ref then 0 else if p.1.sig != ref then 1 else 2
    let l := bad.map fun p => (p.1.num, judge p)
    (ofBool (l.any fun x => x.2 == 1) + 2 * ofBool (l.any fun x => x.2 == 2), (l.filter fun x => x.2 == 0).map Prod.fst,
      (l.filter fun x => x.2 == 1).map Prod.fst)

/-- PAIR_DISAGREE. -/
def State.disagreeNotice (s : State) (n cls f region attrib : Nat) : State :=
  s.notice 0x0B03 n [0, s.owner n] (pack [(1, n), (1, attrib), (1, cls), (1, 0), (4, f), (2, region), (2, 0)])

/-! ### Disputes (R359) -/

/-- The rectangle of a region. -/
def State.regionRect (s : State) (r : Nat) : Rect :=
  let (x0, x1, y0, y1) := s.rgEdges r
  { x := x0, y := y0, w := x1 - x0, h := y1 - y0 }

/-- The smallest rectangle around two. -/
def Rect.join (a b : Rect) : Rect :=
  let x := min a.x b.x
  let y := min a.y b.y
  { x := x, y := y, w := max (a.x + a.w) (b.x + b.w) - x, h := max (a.y + a.h) (b.y + b.h) - y }

/-- The 16 rectangles of a list of disputes: from the 17th on they are merged into the 16th. -/
def disputeRects (l : List Dispute) : List Rect :=
  let r := l.map fun d => d.rect
  if r.length ≤ 16 then r
  else
    let tail := r.drop 15
    r.take 15 ++ [tail.foldl Rect.join (tail.headD {})]

/-- A DISPUTE message: output, first frame, 16 rectangles, unused ones empty. DESIGN CHOICE, unsafe (log 93). -/
def disputeBody (n f : Nat) (l : List Rect) : List Byte :=
  pack [(1, n), (3, 0), (4, f)] ++ (List.range 16).flatMap fun k =>
    let r := l.getD k {}
    pack [(2, r.x), (2, r.x + r.w), (2, r.y), (2, r.y + r.h)]

/-- The rectangles of a DISPUTE message. -/
def disputeOf (b : List Byte) : List Rect :=
  ((List.range 16).map fun k =>
    let x0 := fieldAt b (8 + 8 * k) 2
    let x1 := fieldAt b (10 + 8 * k) 2
    let y0 := fieldAt b (12 + 8 * k) 2
    let y1 := fieldAt b (14 + 8 * k) 2
    { x := x0, y := y0, w := x1 - x0, h := y1 - y0 : Rect }).filter fun r => r.w != 0

/-- Rectangles to be written at frame `f` (R89, R97). -/
def State.disputeLater (s : State) (n f : Nat) (l : List Rect) : State :=
  let x := s.pairOut n
  s.setPairOut n { x with later := x.later ++ [(f, l)] }

/-- The dispute rectangles of an output written now. -/
def State.writeDisputes (s : State) (n : Nat) (l : List Rect) : State :=
  ((List.range 16).foldl (fun t k =>
    let r := l.getD k {}
    (t.wr (Reg.GATE_OUT_DISP_X n k) (r.x + (r.x + r.w) * 65536)).wr (Reg.GATE_OUT_DISP_Y n k) (r.y + (r.y + r.h) * 65536)) s).setFld
    (Reg.PAIR_OUT_CMP_DISPUTES n) (min 16 l.length)

/-- At the sample point of line 0 of frame `f` the rectangles named for it or an earlier frame take effect. DEDUCED, unsafe (log 47). -/
def State.applyDisputes (s : State) (n f : Nat) : State :=
  let x := s.pairOut n
  let due := x.later.filter fun p => !newer 32 p.1 f
  if due.isEmpty then s
  else due.foldl (fun t p => t.writeDisputes n p.2) (s.setPairOut n { x with later := x.later.filter fun p => newer 32 p.1 f })

/-- PAIR_DISPUTE of each region whose rectangle is set or removed from frame `f` on (R371). -/
def State.tellDisputes (s : State) (n f : Nat) (old new : List Dispute) : State :=
  let tell (t : State) (r set : Nat) : State := t.notice 0x0B04 n [0, t.owner n] (pack [(1, n), (1, set), (2, r), (4, f)])
  let s1 := (new.filter fun d => !(old.any fun e => e.region == d.region)).foldl (fun t d => tell t d.region 1) s
  (old.filter fun e => !(new.any fun d => d.region == e.region)).foldl (fun t d => tell t d.region 0) s1

/-- The disputes of an output that rectangles received stand for: the PAIR regions whose rectangle is one of them, and, where all 16 are in
use, those that lie inside the 16th. DEDUCED, unsafe (log 245). -/
def State.disputesNamed (s : State) (n : Nat) (rects : List Rect) : List Dispute :=
  let old := (s.pairOut n).disputes
  let last := rects.getD 15 {}
  let inLast (r : Rect) : Bool := last.w != 0 && last.x ≤ r.x && last.y ≤ r.y && r.x + r.w ≤ last.x + last.w && r.y + r.h ≤ last.y + last.h
  ((s.enabledOn n).filter fun r => ctrlPair (s.rgCtrl r)).filterMap fun r =>
    let rect := s.regionRect r
    if rects.contains rect || inLast rect then some ((old.find? fun d => d.region == r).getD { region := r, rect := rect }) else none

/-- The active decides new disputes of an output: the message, and the same rectangles here, from frame F + 3. -/
def State.setDisputes (s : State) (n f : Nat) (l : List Dispute) : State :=
  let old := (s.pairOut n).disputes
  let at_ := wrapAdd 32 f 3
  let rects := disputeRects l
  let s1 := ((s.setPairOut n { s.pairOut n with disputes := l }).pairSend 0x07 (disputeBody n at_ rects)).disputeLater n at_ rects
  s1.tellDisputes n at_ old l

/-- A compared frame ages the disputes: a region that agreed counts, one that disagreed starts over; after eight it is removed, once
Lysman firmware is ready (R368). -/
def State.ageDisputes (s : State) (n f : Nat) (compared bad : List Nat) : State :=
  let x := s.pairOut n
  let l := x.disputes.map fun d =>
    if d.own then d else if bad.contains d.region then { d with agreed := 0 } else if compared.contains d.region then { d with agreed := d.agreed + 1 } else d
  let keep := l.filter fun d => d.agreed < 8
  if keep.length == l.length || !s.ready then s.setPairOut n { x with disputes := l } else s.setDisputes n f keep

/-- R429: regions whose reference says that this device is wrong, marked on an output of either class by the device that drives alone. DEDUCED, unsafe (log 131). -/
def State.markOwn (s : State) (n f : Nat) (l : List Nat) : State :=
  let old := (s.pairOut n).disputes
  let new := (l.filter fun r => !(old.any fun d => d.region == r)).map fun r => { region := r, rect := s.regionRect r, own := true : Dispute }
  if new.isEmpty then s else (s.setDisputes n f (old ++ new)).tradeNotice 1 (s.cadenceRank n) 2 n (2 ^ n)

/-- The marks of R429 after a posted frame: eight MATCH verdicts of a region in a row end its mark. -/
def State.ageOwn (s : State) (n f : Nat) : State :=
  let x := s.pairOut n
  if !(x.disputes.any fun d => d.own) then s
  else
    let l := x.disputes.map fun d =>
      let v := bitsAt (s.rgState d.region) 11 8
      if !d.own then d else if v == 6 then { d with agreed := d.agreed + 1 } else if v == 7 then { d with agreed := 0 } else d
    let keep := l.filter fun d => d.agreed < 8
    if keep.length == l.length || !s.ready then s.setPairOut n { x with disputes := l } else s.setDisputes n f keep

/-! ### One frame's result (R353, R356 to R359) -/

/-- The action on a LASTING disagreement of a CONVERGED output (R358, R359). DEDUCED, unsafe (log 210). -/
def State.performAct (s : State) (x : PairAct) : State :=
  if x.attrib % 2 == 1 then
    if s.role == roStandby || (s.role == roActive && s.pair.partnerRole == roStandby) then s.enterFaulted 6
    else if !s.drivesAlone then s
    else if x.own.isEmpty then s.voidSlice x.n else s.markOwn x.n x.f x.own
  else if s.role == roActive && s.isSet Reg.PAIR_STATUS_DISPUTE_MARK && s.isSet (Reg.CNP_OUT_CTRL_CLASS x.n) then
    let old := (s.pairOut x.n).disputes
    let new := (x.undecided.filter fun r => !(old.any fun d => d.region == r)).map fun r => { region := r, rect := s.regionRect r : Dispute }
    if new.isEmpty then s else s.setDisputes x.n x.f (old ++ new)
  else s

/-- It is taken at once while Lysman firmware is ready; else it waits (R368). -/
def State.disagreeAction (s : State) (x : PairAct) : State :=
  if s.ready then s.performAct x else s.setPair { s.pair with acts := s.pair.acts ++ [x] }

/-- Lysman firmware is ready again: the actions that waited are taken in order. -/
def State.runActs (s : State) : State := s.pair.acts.foldl State.performAct (s.setPair { s.pair with acts := [] })

/-- A DISAGREE frame counted and classed. -/
def State.disagree (s : State) (n : Nat) (a b : SigRec) (bad : List (RegionSig × RegionSig)) (injected : Bool) : State :=
  let conv := s.isSet (Reg.PAIR_OUT_CMP_CONVERGED n)
  let (at0, undecided, own) := s.attribute a b bad
  let attrib := if !conv then 0 else if s.isSet Reg.PAIR_STATUS_PARTNER_RESTARTING then at0 % 2 else at0
  let region := (bad.head?.map fun p => p.1.num).getD 0xFFFF
  let run := min 255 (s.fld (Reg.PAIR_OUT_CMP_RUN n) + 1)
  let s1 := ((((s.setFld (Reg.PAIR_OUT_CMP_RESULT n) 2).setFld (Reg.PAIR_OUT_CMP_EXCL n) 0).setFld (Reg.PAIR_OUT_CMP_ATTRIB n) attrib).setFld
    (Reg.PAIR_OUT_CMP_RUN n) run).wr (Reg.PAIR_OUT_REGION n) (if region == 0xFFFF then 0 else 2 ^ 31 + region)
  let s2 := s1.setPairOut n { s1.pairOut n with agrees := 0 }
  if run == 1 then ((s2.bump Reg.PAIR_CNT_DISAGREE_T).logFault 0x0B 1 n injected).disagreeNotice n 1 a.f region attrib
  else if run == 3 then
    let s3 := (((s2.bump Reg.PAIR_CNT_DISAGREE_L).raise Reg.PAIR_EVT_DISAGREE_LASTING).logFault 0x0B 2 n injected).disagreeNotice n 2 a.f region attrib
    if conv then s3.disagreeAction { n := n, f := a.f, attrib := attrib, undecided := undecided, own := own } else s3
  else s2

/-- An AGREE frame: RUN ends; eight in a row make the output CONVERGED. -/
def State.agree (s : State) (n : Nat) : State :=
  let s1 := ((((s.setFld (Reg.PAIR_OUT_CMP_RESULT n) 1).setFld (Reg.PAIR_OUT_CMP_EXCL n) 0).setFld (Reg.PAIR_OUT_CMP_ATTRIB n) 0).setFld
    (Reg.PAIR_OUT_CMP_RUN n) 0).wr (Reg.PAIR_OUT_REGION n) 0
  let x := s1.pairOut n
  let s2 := s1.setPairOut n { x with agrees := min 8 (x.agrees + 1) }
  if 8 ≤ x.agrees + 1 then s2.setFld (Reg.PAIR_OUT_CMP_CONVERGED n) 1 else s2

/-- An EXCLUDED frame. DEDUCED, unsafe (log 64). -/
def State.exclude (s : State) (n cause : Nat) : State :=
  (((s.setFld (Reg.PAIR_OUT_CMP_RESULT n) 3).setFld (Reg.PAIR_OUT_CMP_EXCL n) cause).setFld (Reg.PAIR_OUT_CMP_ATTRIB n) 0).wr (Reg.PAIR_OUT_REGION n) 0

/-- Two records of one frame compared. -/
def State.compareRecords (s : State) (n : Nat) (a b : SigRec) (injected : Bool) : State :=
  let s0 := s.wr (Reg.PAIR_OUT_F n) a.f
  let ex := exclusion a b
  if ex != 0 then s0.exclude n ex
  else
    let l := comparedRegions a b
    let bad := l.filter fun p => p.1.sig != p.2.sig
    let s1 := if a.sig == b.sig && bad.isEmpty then s0.agree n else s0.disagree n a b bad injected
    if s1.role == roActive then s1.ageDisputes n a.f (l.map fun p => p.1.num) (bad.map fun p => p.1.num) else s1

/-- The records of an output that are matched by F compared, oldest first. DEDUCED, unsafe (log 64). -/
def State.matchRecords (s : State) (n : Nat) : State :=
  let x := s.pairOut n
  x.own.foldl (fun t a =>
    match (t.pairOut n).partner.find? fun b => b.f == a.f with
    | none => t
    | some b =>
      let y := t.pairOut n
      (t.setPairOut n { y with own := y.own.filter fun z => z.f != a.f, partner := y.partner.filter fun z => z.f != a.f }).compareRecords n a b false) s

/-- At the start of frame `f` an own record of frame f − 2 or earlier without its partner's counts as missing (R355, R356). -/
def State.missingRecords (s : State) (n f : Nat) : State :=
  let x := s.pairOut n
  let old (r : SigRec) : Bool := !newer 32 r.f (wrapSub 32 f 2)
  let gone := x.own.filter old
  if gone.isEmpty || !s.isSet Reg.PAIR_STATUS_CROSSCHECK then s
  else
    let s1 := s.setPairOut n { x with own := x.own.filter fun r => !old r, partner := x.partner.filter (fun r => !old r), parts := x.parts.filter fun p => !old p.2 }
    gone.foldl (fun t r => ((t.bump Reg.PAIR_CNT_REC_MISSING).wr (Reg.PAIR_OUT_F n) r.f).exclude n 4) s1

/-- Lookout's record of a posted frame: kept for the comparison and sent while CROSSCHECK is set (R185, R355). -/
def State.postRecord (s : State) (n : Nat) (diff : Bool) : State :=
  if !s.isSet Reg.PAIR_STATUS_CROSSCHECK then s
  else
    let r := s.sigRecord n diff
    let (inj, s1) := s.injTake 0x0B n
    let sent := if inj.isSome then { r with sig := xorNat r.sig 1 } else r
    let x := s1.pairOut n
    ((sent.parts n).foldl (fun t b => t.pairLoose 0x06 b) (s1.setPairOut n { x with own := x.own ++ [r] })).matchRecords n

end Sys2Proof.Machine
end

