-- ==== Sys2Proof/Machine/Ranger.lean ====
section
/-! DEFINITION. What stops and starts Lysman firmware: the end of service mode (R411), the cancelling of an injection (R478), the
halt of Ranger (R386, R459), a FATAL fault (R458, R459), restart classes (R388), the report of readiness (R386). -/

namespace Sys2Proof.Machine

open Sys2Proof

def State.setSys (s : State) (x : SysSt) : State := { s with sys := x }
def State.setRanger (s : State) (r : RangerSt) : State := { s with ranger := r }
def State.setHlt (s : State) (h : HltSt) : State := { s with hlt := h }

/-! ### Service mode (R411) -/

/-- The SVC bits of the blocks and SYS_SVC[ACTIVE]. -/
def State.setSvc (s : State) (v : Bool) : State :=
  let b := ofBool v
  let s1 := ((((s.setFld Reg.SYS_SVC_ACTIVE b).setFld Reg.LDG_STATUS_SVC b).setFld Reg.GATE_STATUS_SVC b).setFld Reg.LKO_STATUS_SVC b).setFld
    Reg.PKT_STATUS_SVC b
  (List.range 32).foldl (fun t n => t.setFld (Reg.CNP_OUT_CTRL_SVC n) b) s1

/-- SYS_SERVICE (R415): STATE 0 ended, 1 entered, 2 locked; CAUSE 0 command, 1 timeout, 2 lock, 3 restart. -/
def State.svcNotice (s : State) (state cause remain : Nat) : State :=
  s.notice 0x0102 0 [0xFFFF] (pack [(1, state), (1, cause), (2, remain)]) true

/-- Service mode ends: layer fields and GATE_OUT_STAGE are restored at each output's next latch line, every other service-written value
stands. -/
def State.endService (s : State) (cause : Nat) : State :=
  if !s.isSet Reg.SYS_SVC_ACTIVE then s
  else
    let s1 := (List.range 32).foldl (fun t n => t.setCmt n { t.cmt n with svc := [], restore := true }) (s.setSvc false)
    s1.svcNotice 0 cause 0

/-! ### Injection cancelled (R475, R478) -/

/-- The arm, the sequence and a pending injection with its further occasions are cancelled. What detectors 0x0E and 0x0F await is a
whole injection already performed. DEDUCED, unsafe (log 122). -/
def State.cancelInjection (s : State) : State :=
  let kept := s.hlt.further.filter fun j => j.det == 0x0E || j.det == 0x0F
  ((s.setHlt { s.hlt with key1At := none, armedUntil := none, pendingInj := none, further := kept }).setFld Reg.HLT_INJ_STAT_ARMED 0).setFld
    Reg.HLT_INJ_STAT_PENDING 0

/-! ### Ranger stops (R379, R386) -/

/-- A posted message answered BUSY and a BUSY one ABORTED, both by the mailbox hardware. DEDUCED, unsafe (log 108). -/
def State.abortMailbox (s : State) (m : Nat) : State :=
  if s.mbState m == mbPosted then s.complete m true false stBusy noField []
  else if s.mbState m == mbBusy then s.complete m true false stAborted noField []
  else s

/-- The three Ranger units stop, and what Ranger A1 had not handed over is lost. Vector 0 is requested when READY or RESTARTING changes. DEDUCED, unsafe (log 108). -/
def State.rangerStop (s : State) (restarting : Bool) : State :=
  let changed := s.isSet Reg.MBX_STATUS_READY || (s.isSet Reg.MBX_STATUS_RESTARTING != restarting)
  let s1 := (s.setFld Reg.MBX_STATUS_READY 0).setFld Reg.MBX_STATUS_RESTARTING (ofBool restarting)
  let s2 := if changed then s1.msixRequest 0 else s1
  (List.range 8).foldl (fun t m => t.abortMailbox m) s2.loseFolded

/-- A firmware restart begins (R386): service mode ends, an injection is cancelled. -/
def State.restartBegins (s : State) (cause : Nat) : State :=
  let s1 := (((s.rangerStop true).endService 3).cancelInjection).setFld Reg.MBX_RESTART_CAUSE_CAUSE cause
  s1.setRanger { s1.ranger with stoppedAt := some s1.tick, restartDue := none }

/-! ### FATAL (R458, R459) -/

/-- A FATAL fault is decided. A second one is logged; FATAL_CAUSE keeps the first. DEDUCED, unsafe (log 108). -/
def State.fatal (s : State) (cause det inst : Nat) (injected : Bool := false) : State :=
  let s1 := s.logFault det 3 inst injected cause
  if s1.isSet Reg.HLT_STATUS_FATAL then s1
  else
    let s2 := ((s1.setFld Reg.HLT_STATUS_FATAL 1).setFld Reg.HLT_STATUS_FATAL_CAUSE cause).rangerStop false
    let s3 := s2.setRanger { s2.ranger with restartAt := none, stoppedAt := none }
    let s4 := if s3.pairPresent then s3.enterFaulted 7 else (s3.setFld Reg.PAIR_PINS_HB_OUT 0).setFld Reg.PAIR_PINS_ILK_OUT 0
    let s5 := (List.range 32).foldl (fun t n =>
      if t.scanning n && !bitAt (t.gateOut n).holds 1 then t.setGate n { t.gateOut n with holds := (t.gateOut n).holds + 2 } else t) s4
    s5.blzOrder

/-! ### Lockstep and watchdog restarts (R388, R464, R465) -/

/-- The detector and instance of a restart cause. -/
def causeDet (cause : Nat) : Nat × Nat := if cause == 4 then (5, 0) else (6, cause - 1)

/-- 10 s without another, and firmware ready: the restart was TRANSIENT. -/
def State.classRestart (s : State) : State :=
  match s.ranger.restartAt with
  | some t =>
    if s.isSet Reg.MBX_STATUS_READY && s.since t (10 * ticksPerS) then
      let (det, inst) := causeDet s.ranger.restartCause
      let i := (s.run det inst).injected
      ((s.setRun det inst {}).setRanger { s.ranger with restartAt := none }).logFault det 1 inst i
    else s
  | none => s

/-- A restart by lockstep or watchdog. One that follows another within 10 s, or while that one has not reported ready, makes that one
LASTING, which is FATAL; one that was ready and has run for 10 s is classed first. -/
def State.faultRestart (s : State) (cause : Nat) (injected : Bool) : State :=
  let s := s.classRestart
  match s.ranger.restartAt with
  | some _ =>
    let (det, inst) := causeDet s.ranger.restartCause
    let i := (s.run det inst).injected
    (s.setRun det inst {}).fatal 4 det inst i
  | none =>
    let (det, inst) := causeDet cause
    let s1 := (s.setRun det inst { count := 1, injected := injected }).restartBegins cause
    s1.setRanger { s1.ranger with restartAt := some s1.tick, restartCause := cause }

/-! ### Readiness (R386) -/

/-- Lysman firmware reports ready: the notices, the moves and the responses that waited for it follow (R222, R431, R563); `restart` counts it in RESTARTS. `kind` names the Blaze event: 0 cold start, 1 warm start, 3 restart. -/
def State.reportReady (s : State) (restart : Bool) (kind : Nat) : State :=
  let s1 := ((s.setFld Reg.MBX_STATUS_RESTARTING 0).setFld Reg.MBX_STATUS_READY 1).msixRequest 0
  let s2 := if restart then s1.setFld Reg.MBX_STATUS_RESTARTS (wrapAdd 16 (s1.fld Reg.MBX_STATUS_RESTARTS) 1) else s1
  let s3 := s2.setRanger { s2.ranger with stoppedAt := none }
  let s4 := ({ s3 with hlt := { s3.hlt with unitHalted := [] } } : State).blzEvent kind 0
  ((s4.setRanger { s4.ranger with restartDue := none }).tellUntold.restartWindows).settlePlaces.settleTrades

end Sys2Proof.Machine
end

