-- ==== Sys2Proof/Machine/Checks.lean ====
section
/-! DEFINITION. The check-value units (R467 to R472), and the check of an injection's
selection (R474, R476, R479). -/

namespace Sys2Proof.Machine

open Sys2Proof

/-! ### Check-value units (R467 to R472) -/

def State.cvuSt (s : State) (u : Nat) : CvuSt := sparseGet {} s.cvu u
def State.setCvu (s : State) (u : Nat) (c : CvuSt) : State := { s with cvu := sparsePut {} s.cvu u c }

/-- A write that a unit ignores (R471). -/
def State.cvuErr (s : State) (u : Nat) : State := s.raise (Reg.CVU_CTRL_ERR u)

/-- RUN set. -/
def State.setRunReg (s : State) (u v : Nat) : State := s.wr64 (Reg.CVU_RUN_LO u) (Reg.CVU_RUN_HI u) v

/-- POS set. -/
def State.setCvuPos (s : State) (u v : Nat) : State := s.wr64 (Reg.CVU_POS_LO u) (Reg.CVU_POS_HI u) v

/-- INIT loaded into RUN (R468). DEDUCED, unsafe (log 123). -/
def State.cvuReset (s : State) (u : Nat) : State :=
  if s.isSet (Reg.CVU_CTRL_BUSY u) then s.cvuErr u else s.setRunReg u (s.cvuModel u).init

/-- Bytes fed into RUN. -/
def State.cvuFeed (s : State) (u : Nat) (b : List Byte) : State :=
  let m := s.cvuModel u
  s.setRunReg u (b.foldl (fun r x => m.feed r x) (s.cvuRun u % 2 ^ m.w))

/-- The configuration fields of a write to CVU_CTRL, and its W1C bits (R482). A reserved FIXED_IDX sets ERR (R469). -/
def State.cvuConfigWrite (s : State) (u v : Nat) : State :=
  let s1 := if bitAt v 27 then s.w1c (Reg.CVU_CTRL_DONE u) else s
  let s2 := if bitAt v 26 then s1.w1c (Reg.CVU_CTRL_ERR u) else s1
  let cfg := 0x7F8C00
  let bits (x : Nat) : Nat := (BitVec.ofNat 32 x &&& BitVec.ofNat 32 cfg).toNat
  let old := s2.rd (Reg.CVU_CTRL u)
  if s2.isSet (Reg.CVU_CTRL_BUSY u) then (if bits v == bits old then s2 else s2.cvuErr u)
  else
    let s3 := s2.wr (Reg.CVU_CTRL u) (old - bits old + bits v)
    if 4 ≤ bitsAt v 18 16 then s3.cvuErr u else s3

/-- A scan begins (R471). -/
def State.cvuGo (s : State) (u : Nat) : State :=
  let len := s.rd64 (Reg.CVU_LEN_LO u) (Reg.CVU_LEN_HI u)
  let a := s.rd64 (Reg.CVU_ADDR_LO u) (Reg.CVU_ADDR_HI u)
  if s.isSet (Reg.CVU_CTRL_BUSY u) || !within 1 (2 ^ 36) len then s.cvuErr u
  else ((s.setFld (Reg.CVU_CTRL_BUSY u) 1).setCvuPos u a).setCvu u { s.cvuSt u with endAddr := a + len, aborting := false }

/-- Blocks of 64 bytes read and fed until the end, `stop`, a denial, or a poisoned block (R471): the STATUS reached. `poison` is the
address of a block that reads poisoned. DEDUCED, unsafe (log 123). -/
def State.cvuBlocks (s : State) (u stop : Nat) (poison : Option Nat) : Nat → Nat × State
  | 0 => (0, s)
  | k + 1 =>
    let p := s.rd64 (Reg.CVU_POS_LO u) (Reg.CVU_POS_HI u)
    let e := (s.cvuSt u).endAddr
    if e ≤ p then (0, s)
    else if stop ≤ p then (3, s)
    else
      let n := min (64 - p % 64) (e - p)
      let (ok, _, s1) := s.fbkCheck (fbkCvu u) p false n
      if !ok then (2, s1)
      else
        let met := List.replicate (poison.getD 0 % 64 / 8) 0 ++ [if poison.any fun a => a / 64 == p / 64 then 3 else 0]
        let (b, bad, s2) := (s1.arrive (engineReq (fbkCvu u) (urgency (fbkCvu u) false) p n)).loadMem p n met
        if bad then (1, s2)
        else ((s2.cvuFeed u b).setCvuPos u (p + n)).cvuBlocks u stop poison k

/-- The response of CVU_CHECK. -/
def State.cvuBody (s : State) (u : Nat) : List Byte :=
  pack [(4, s.fld (Reg.CVU_CTRL_STATUS u)), (8, s.cvuResult u), (8, s.cvuRun u), (8, s.rd64 (Reg.CVU_POS_LO u) (Reg.CVU_POS_HI u))]

/-- A scan ends with a status; a CVU_CHECK that waits is answered. -/
def State.cvuEnd (s : State) (u status : Nat) (late : Bool) : State :=
  let c := s.cvuSt u
  let s1 := ((s.setFld (Reg.CVU_CTRL_BUSY u) 0).raise (Reg.CVU_CTRL_DONE u)).setFld (Reg.CVU_CTRL_STATUS u) status
  let s2 := s1.setCvu u { c with waiter := none, aborting := false }
  s2.answer c.waiter (if late then stTimeout else stOk) (s2.cvuBody u)

/-- Every scan under way is stopped with STATUS 3 (R480). -/
def State.cvuStopAll (s : State) : State :=
  (List.range 4).foldl (fun t u => if t.isSet (Reg.CVU_CTRL_BUSY u) then t.cvuEnd u 3 false else t) s

/-! ### Injection (R474 to R476, R479) -/

/-- Instances of a queue kind (R25). DESIGN CHOICE, unsafe (log 24). -/
def queueCount (kind : Nat) : Nat := [0, 32, 4, 32, 32, 16, 8, 4, 16, 8, 64, 4, 8, 4, 7, 2].getD kind 0

/-- Whether an injection's INSTANCE is within its row of R479, and its object open or running. -/
def State.injInstOk (s : State) (det inst : Nat) : Bool :=
  let running (n : Nat) : Bool := n < 32 && s.outState n == osRunning
  let layer (i : Nat) : Bool := i < 256 && running (i / 8) && s.isSet (Reg.CNP_LAYER_CFG_EN (i / 8) (i % 8))
  match det with
  | 0x03 => inst % 256 < queueCount (inst / 256)
  | 0x04 => inst < 3
  | 0x06 => inst < 3
  | 0x07 => inst < 16384 && ctrlEn (s.rgCtrl inst)
  | 0x08 => inst < 52 && s.laneState inst == lsActive
  | 0x09 => running inst
  | 0x0A => running inst
  | 0x0B => running inst
  | 0x0C => running inst
  | 0x0D => layer inst
  | 0x0E => inst < 4
  | 0x10 => inst < 28
  | 0x11 => inst < 8 && s.isSet (Reg.DEC_PIPE_STAT_EN inst)
  | 0x12 => inst < 16 && s.isSet (Reg.KLN_CAP_CTRL_EN (capLane inst))
  | 0x13 => inst < 2
  | 0x14 => inst == 0
  | 0x16 => inst < 8
  | 0x17 => layer inst
  | 0x18 => running inst
  | 0x19 =>
    if inst < 0x100 then running inst
    else if inst < 0x200 then inst < 0x180 && s.isSet (Reg.DEC_SES_CTRL_OPEN (inst - 0x100))
    else if inst < 0x300 then inst < 0x220 && s.isSet (Reg.ENC_SES_CTRL_OPEN (inst - 0x200))
    else inst < 0x310 && s.isSet (Reg.KLN_CAP_CTRL_EN (capLane (inst - 0x300)))
  | 0x1A => inst < 16384 && ctrlEn (s.rgCtrl inst) && ctrlKind (s.rgCtrl inst) == 2 && running (ctrlOut (s.rgCtrl inst))
  | _ => true

/-- Whether an injection's PARAM is within its row of R479; a cell it names in the state that R479 asks for. -/
def State.injParamOk (s : State) (det inst p : Nat) : Bool :=
  match det with
  | 0x01 => p < 8
  | 0x02 => within 1 2 p
  | 0x03 => within 1 2 p
  | 0x04 => p < 3
  | 0x07 => p < 3
  | 0x08 => within 1 2 p
  | 0x09 => within 1 2 (p % 4) && p / 4 % 64 == 0 && p < 512
  | 0x0A => within 1 2 p
  | 0x0B => within 1 3 p
  | 0x0C => within 1 (s.mode inst).h (p % 4096) && p / 4096 % 16 == 0 && p < 2 ^ 17
  | 0x0D => within 1 2 p
  | 0x0E => p < cellCount && p != 0 && (s.cell p).eff == csLive
  | 0x0F => p < cellCount && p != 0 && (s.cell p).ownerKind != 0 && (s.cell p).sticky
  | 0x10 => within 1 2 p
  | 0x11 => within 1 16 p
  | 0x12 => within 1 2 p
  | 0x13 => within 1 1000 p
  | 0x14 => within 1 4 p
  | 0x15 => within 1 1000 p
  | 0x17 => within 1 255 p
  | 0x18 => within 27 31 (p % 32) && p / 32 % 8 == 0 && p < 512
  | 0x1A => within 1 2 p
  | _ => true

/-- Whether an injection's block lies in device memory. -/
def injAddrOk (det addr : Nat) : Bool := !within 1 2 det || inDeviceMem addr

/-- Whether an injection's INSTANCE, PARAM and address are within its row of R479, and its object open or running. -/
def State.injectionOk (s : State) (det inst p addr : Nat) : Bool :=
  within 1 0x1A det && s.injInstOk det inst && s.injParamOk det inst p && injAddrOk det addr

/-- An injection refused with a CAUSE. -/
def State.injRefuse (s : State) (cause : Nat) : State := (s.raise Reg.HLT_INJ_STAT_REFUSED).setFld Reg.HLT_INJ_STAT_CAUSE cause

/-- An injection performed at once (R476): the bit of 0x0E set in its replica, the suppression of 0x0F attached to its cell. The detector
will know it for an injected one. DEDUCED, unsafe (log 122). -/
def State.injAttach (s : State) (det inst p : Nat) : State :=
  let l := s.ldg
  let s1 : State := if det == 0x0E then { s with ldg := { l with bitmap := sparsePut true l.bitmap (inst * 1048576 + p) true } }
    else { s with ldg := { l with suppressed := l.suppressed ++ [p] } }
  let j : Injection := { det := det, inst := inst, param := p, since := 1 }
  ((s1.setHlt { s1.hlt with further := j :: s1.hlt.further }).raise Reg.HLT_INJ_STAT_DONE).bump Reg.HLT_INJ_CNT

/-- GO (R476): the selection checked, the arm taken away, the injection pending. DEDUCED, unsafe (log 122). -/
def State.injGo (s : State) : State :=
  let det := s.fld Reg.HLT_INJ_SEL_DET
  let inst := s.fld Reg.HLT_INJ_SEL_INSTANCE
  let p := s.rd Reg.HLT_INJ_PARAM
  let addr := s.rd64 Reg.HLT_INJ_ADDR_LO Reg.HLT_INJ_ADDR_HI
  let armed := s.isSet Reg.HLT_INJ_STAT_ARMED && s.hlt.armedUntil.any fun t => s.tick < t
  if !armed then s.injRefuse 2
  else
    let s1 := (s.setHlt { s.hlt with armedUntil := none }).setFld Reg.HLT_INJ_STAT_ARMED 0
    if s1.isSet Reg.HLT_INJ_STAT_PENDING then s1.injRefuse 5
    else if !within 1 0x1A det then s1.injRefuse 3
    else if !s1.injectionOk det inst p addr then s1.injRefuse 4
    else
      let i := if [0x01, 0x02, 0x05, 0x0F, 0x15].contains det then 0 else inst
      if det == 0x0E || det == 0x0F then s1.injAttach det i p
      else (s1.setHlt { s1.hlt with pendingInj := some { det := det, inst := i, param := p, addr := addr, since := s1.tick } }).setFld
        Reg.HLT_INJ_STAT_PENDING 1

/-- A write of a key to HLT_INJ_ARM (R475). -/
def State.injKey (s : State) (key : Nat) : State :=
  if s.isSet Reg.SYS_SVC_LOCK then s.cancelInjection.injRefuse 1
  else
    let ok := key == 0xA11C && s.hlt.key1At.any fun t => s.tick ≤ t + ticksPerMs
    let s1 := (s.setHlt { s.hlt with key1At := none, armedUntil := none }).setFld Reg.HLT_INJ_STAT_ARMED 0
    if key == 0x1E57 then s1.setHlt { s1.hlt with key1At := some s1.tick }
    else if ok then (s1.setHlt { s1.hlt with armedUntil := some (s1.tick + ticksPerS) }).setFld Reg.HLT_INJ_STAT_ARMED 1
    else s1

/-- A pending injection that found no occasion within 1 s is cancelled (R476). -/
def State.injExpire (s : State) : State :=
  match s.hlt.pendingInj with
  | some j => if s.since j.since ticksPerS then
      ((s.setHlt { s.hlt with pendingInj := none }).setFld Reg.HLT_INJ_STAT_PENDING 0).raise Reg.HLT_INJ_STAT_EXPIRED else s
  | none => s

/-- HLT_INJECT is answered when DONE, EXPIRED or REFUSED is set (R483). DEDUCED, unsafe (log 122). -/
def State.injSettle (s : State) : State :=
  match s.hlt.injWaiter with
  | none => s
  | some w =>
    let body := leBytes 4 (s.rd Reg.HLT_INJ_STAT)
    let t := s.setHlt { s.hlt with injWaiter := none }
    if s.isSet Reg.HLT_INJ_STAT_DONE || s.isSet Reg.HLT_INJ_STAT_EXPIRED then t.answer (some w) stOk body
    else if s.isSet Reg.HLT_INJ_STAT_REFUSED then t.answer (some w) stInvalid body
    else s

end Sys2Proof.Machine
end

