-- ==== Sys2Proof/Machine/HltCmds.lean ====
section
/-! DEFINITION. The health and fault collector, the check-value units and fault injection (spec/17_faults_checks_injection.md). -/

namespace Sys2Proof.Machine

open Sys2Proof

/-! ### Watchdogs and lockstep (R464, R465) -/

/-- WATCHDOG_EXPIRY. While a restart is in progress the watchdogs are held, and only a restart that has not reported ready within 2.0 s
counts, as one of Ranger S. -/
def execWatchdogExpiry (dt : Nat) (unit : Fin 3) (s : State) : Host.Outcome State Fault Refusal :=
  let s1 := s.pass dt
  let overdue := s1.ranger.stoppedAt.any fun t => s1.since t (2 * ticksPerS)
  .next (if s1.isSet Reg.HLT_STATUS_FATAL then s1
    else if s1.isSet Reg.MBX_STATUS_RESTARTING then
      (if unit.val == 0 && overdue then (s1.raise Reg.HLT_WDG_EXP_S).faultRestart 1 false else s1)
    else if !s1.isSet Reg.MBX_STATUS_READY then s1
    else
      let (inj, s2) := s1.injTake 6 unit.val (fun _ => 1)
      let s3 := s2.raise (if unit.val == 0 then Reg.HLT_WDG_EXP_S else if unit.val == 1 then Reg.HLT_WDG_EXP_A0 else Reg.HLT_WDG_EXP_A1)
      s3.faultRestart (unit.val + 1) inj.isSome)

/-- LOCKSTEP_MISMATCH. -/
def execLockstepMismatch (dt : Nat) (s : State) : Host.Outcome State Fault Refusal :=
  let s1 := s.pass dt
  .next (if s1.isSet Reg.HLT_STATUS_FATAL || s1.isSet Reg.MBX_STATUS_RESTARTING then s1
    else
      let (inj, s2) := s1.injTake 5 0 (fun _ => 1)
      (s2.bump Reg.HLT_LOCKSTEP_CNT).faultRestart 4 inj.isSome)

/-! ### Temperature (R466) -/

/-- Tj_max in 0.1 °C. -/
def State.tjMax (s : State) : Int := if s.fld Reg.SYS_GRADE_GRADE == 1 then 1050 else 1000

/-- The reading of a sensor, or what an injection makes it read for 1 s. -/
def State.sensor (s : State) (k : Nat) (t : Int) : Int × State :=
  let (inj, s1) := s.injTake 0x16 k (fun _ => 1)
  let s2 := match inj with
    | some p => s1.setHlt { s1.hlt with sensorForced := sparseIns s1.hlt.sensorForced k (p, s1.tick + ticksPerS) }
    | none => s1
  match sparseFind s2.hlt.sensorForced k with
  | some (p, e) => if s2.tick < e then (toInt 16 p, s2) else (t, s2.setHlt { s2.hlt with sensorForced := sparseDel s2.hlt.sensorForced k })
  | none => (t, s2)

/-- All eight sensors read into HLT_TEMPk. -/
def State.readSensors (s : State) (ts : List Int) : State :=
  (List.range 8).foldl (fun t k =>
    let (v, u) := t.sensor k (ts.getD k 0)
    u.setFld (Reg.HLT_TEMP_TEMP k) (ofInt 16 v)) s

/-- The highest current reading. -/
def State.hottest (s : State) : Int :=
  (List.range 8).foldl (fun a k => max a (toInt 16 (s.fld (Reg.HLT_TEMP_TEMP k)))) (toInt 16 (s.fld (Reg.HLT_TEMP_TEMP 0)))

/-- The sensor that reads highest. -/
def State.hotSensor (s : State) : Nat := ((List.range 8).find? fun k => toInt 16 (s.fld (Reg.HLT_TEMP_TEMP k)) == s.hottest).getD 0

/-- TEMP_ALERT_N, the thermal trip and the immediate THERMAL trigger follow (R421, R458, R466). DEDUCED, safe (log 124). -/
def State.judgeHeat (s : State) : State :=
  let t := s.hottest
  let m := s.tjMax
  let peak := if s.hlt.sampledAt.isSome then max (toInt 16 (s.fld Reg.HLT_TEMP_MAX_PEAK)) t else t
  let s1 := (s.setFld Reg.HLT_TEMP_MAX_TEMP (ofInt 16 t)).setFld Reg.HLT_TEMP_MAX_PEAK (ofInt 16 peak)
  let alert := if m ≤ t then true else if t < m - 50 then false else s.hlt.tempAlert
  let trip := if t < m + 100 then none else s.hlt.tripSince.or (some s.tick)
  let s2 := s1.setHlt { s1.hlt with sampledAt := some s1.tick, tempAlert := alert, tripSince := trip }
  let s3 := if m - 30 ≤ t then s2.firePressure 4 else s2
  if !s3.isSet Reg.HLT_STATUS_FATAL && trip.any fun a => s3.since a (10 * ticksPerMs) then
    let k := s3.hotSensor
    s3.fatal 5 0x16 k ((sparseFind s3.hlt.sensorForced k).isSome)
  else s3

/-- Whether the sensors are sampled now: every 1 ms (R466). DESIGN CHOICE, safe (log 216). -/
def State.tempDue (s : State) : Bool := s.hlt.sampledAt.all fun t => s.since t ticksPerMs

/-- TEMP_SAMPLE: eight readings in 0.1 °C. Lysman firmware looks at a pending HLT_INJECT as often. -/
def execTempSample (dt : Nat) (readings : List Int) (s : State) : Host.Outcome State Fault Refusal :=
  let s1 := s.pass dt
  .next (if s1.tempDue then ((s1.readSensors readings).judgeHeat).injSettle else s1.injSettle)

/-! ### Injection (R475, R476) -/

/-- HLT_INJ_ARM_WRITE. -/
def execHltInjArmWrite (dt : Nat) (value : Word) (s : State) : Host.Outcome State Fault Refusal :=
  .next ((s.pass dt).injKey (value.toNat % 65536)).injSettle

/-- INJ_ARM_EXPIRY: ARMED clears after 1 s; a sequence lapses after 1 ms. -/
def execInjArmExpiry (dt : Nat) (s : State) : Host.Outcome State Fault Refusal :=
  let s1 := s.pass dt
  let s2 := if s1.hlt.key1At.any fun t => t + ticksPerMs < s1.tick then s1.setHlt { s1.hlt with key1At := none } else s1
  .next (if s2.hlt.armedUntil.any fun t => t ≤ s2.tick then (s2.setHlt { s2.hlt with armedUntil := none }).setFld Reg.HLT_INJ_STAT_ARMED 0 else s2)

/-- HLT_INJ_GO: a write to HLT_INJ_CTRL. -/
def execHltInjGo (dt : Nat) (value : Word) (s : State) : Host.Outcome State Fault Refusal :=
  let s1 := s.pass dt
  .next (if bitAt value.toNat 31 then s1.injGo.injSettle else s1)

/-- INJECTION_EXPIRY. -/
def execInjectionExpiry (dt : Nat) (s : State) : Host.Outcome State Fault Refusal := .next (s.pass dt).injExpire.injSettle

/-! ### Check-value units -/

/-- Whether a write to unit `u` by the host or by Lysman firmware is accepted (R467). -/
def cvuMayWrite (u : Nat) (host : Bool) : Bool := !host || 2 ≤ u

/-- A write to CVU_CTRL of unit `u` (R468, R471, R482): the configuration, then RESET, GO and ABORT as `v` sets them. ABORT stops the scan
after the current block (CVU_SCAN_COMPLETE). -/
def State.cvuControl (s : State) (u v : Nat) : State :=
  let s1 := s.cvuConfigWrite u v
  let s2 := if bitAt v 28 then s1.cvuReset u else s1
  let s3 := if bitAt v 30 then s2.cvuGo u else s2
  if bitAt v 29 && s3.isSet (Reg.CVU_CTRL_BUSY u) && s1.isSet (Reg.CVU_CTRL_BUSY u) then s3.setCvu u { s3.cvuSt u with aborting := true } else s3

/-- A write of RUN (R472): `lo` commits the value, with the high half of the same access or the one written before. DEDUCED, safe (log 198). -/
def State.cvuRunWrite (s : State) (u lo : Nat) (hi : Option Nat) : State :=
  let c := s.cvuSt u
  if s.isSet (Reg.CVU_CTRL_BUSY u) then s.cvuErr u
  else
    let h := match hi with
      | some w => w
      | none => c.runHi.getD (s.rd (Reg.CVU_RUN_HI u))
    (s.setRunReg u (lo + 2 ^ 32 * h)).setCvu u { c with runHi := none }

/-- Words written to CVU_DATA (R470): FEED_BYTES bytes of each are fed. -/
def State.cvuDataWrite (s : State) (u : Nat) (words : List Nat) : State :=
  let f := s.fld (Reg.CVU_CTRL_FEED_BYTES u)
  if s.isSet (Reg.CVU_CTRL_BUSY u) then s.cvuErr u
  else s.cvuFeed u ((words.take 2).flatMap fun w => (leBytes 4 w).take (if f == 0 then 4 else f))

/-- CVU_GO: a write to CVU_CTRL with GO. -/
def execCvuGo (dt : Nat) (unit : Fin 4) (host : Bool) (value : Word) (s : State) : Host.Outcome State Fault Refusal :=
  let s1 := s.pass dt
  .next (if cvuMayWrite unit.val host then s1.cvuControl unit.val (withBits (withBits value.toNat 30 30 1) 29 29 0) else s1)

/-- CVU_ABORT: a write to CVU_CTRL with ABORT and without GO. -/
def execCvuAbort (dt : Nat) (unit : Fin 4) (host : Bool) (value : Word) (s : State) : Host.Outcome State Fault Refusal :=
  let s1 := s.pass dt
  .next (if cvuMayWrite unit.val host then s1.cvuControl unit.val (withBits (withBits value.toNat 30 30 0) 29 29 1) else s1)

/-- CVU_RESET: a write to CVU_CTRL with RESET and without GO. -/
def execCvuReset (dt : Nat) (unit : Fin 4) (host : Bool) (value : Word) (s : State) : Host.Outcome State Fault Refusal :=
  let s1 := s.pass dt
  .next (if cvuMayWrite unit.val host then s1.cvuControl unit.val (withBits (withBits value.toNat 30 29 0) 28 28 1) else s1)

/-- CVU_DATA_WRITE: one word, or two of a 64-bit write (R470). -/
def execCvuDataWrite (dt : Nat) (unit : Fin 4) (host : Bool) (words : List Word) (s : State) : Host.Outcome State Fault Refusal :=
  let s1 := s.pass dt
  .next (if cvuMayWrite unit.val host then s1.cvuDataWrite unit.val (words.map BitVec.toNat) else s1)

/-- CVU_RUN_WRITE: a write of CVU_RUN_LO, alone or as the low half of a 64-bit access (R472). -/
def execCvuRunWrite (dt : Nat) (unit : Fin 4) (host : Bool) (lo : Word) (hi : Option Word) (s : State) : Host.Outcome State Fault Refusal :=
  let s1 := s.pass dt
  .next (if cvuMayWrite unit.val host then s1.cvuRunWrite unit.val lo.toNat (hi.map BitVec.toNat) else s1)

/-- CVU_SCAN_COMPLETE: the scan of a unit ends. `done` is how far an aborted scan came, in bytes; `poison` the address of a block that
reads poisoned after its re-read. -/
def execCvuScanComplete (dt : Nat) (unit : Fin 4) (done : Nat) (poison : Option Nat) (s : State) : Host.Outcome State Fault Refusal :=
  let s1 := s.pass dt
  let u := unit.val
  .next (if !s1.isSet (Reg.CVU_CTRL_BUSY u) then s1
    else
      let c := s1.cvuSt u
      let p := s1.rd64 (Reg.CVU_POS_LO u) (Reg.CVU_POS_HI u)
      let late := c.waiter.isSome && c.deadline ≤ s1.tick
      let stop := if c.aborting || late then p + done else c.endAddr
      let (st, s2) := s1.cvuBlocks u stop poison ((c.endAddr - p) / 64 + 2)
      s2.cvuEnd u st (late && st == 3))

/-! ### Commands (R483) -/

/-- HLT_QUERY. -/
def cmdHltQuery (_ : Req) (s : State) : State × Resp :=
  (s, .ok (s.regImage State.view Reg.HLT_STATUS 25 ++ s.regImage State.view (Reg.HLT_LOG 0) 256))

/-- HLT_QUERY, as R483 has it. -/
def execHltQuery (dt : Nat) (m : Fin 8) (s : State) : Host.Outcome State Fault Refusal :=
  .next ((s.pass dt).lcs m.val 0x0F01 cmdHltQuery)

/-- The checks of HLT_ACK in the order of R393 step 8, each as (it fails, status, DETAIL). -/
def chkHltAck (r : Req) (_s : State) : List (Bool × Nat × Nat) :=
  [(r.part != 1, stPartition, noField), (r.u32 16 != 0, stInvalid, 16)]

/-- HLT_ACK. -/
def cmdHltAck (r : Req) (s : State) : State × Resp :=
  s.refuseOr (chkHltAck r s)
    (s.w1c Reg.HLT_STATUS_LASTING_PEND, .ok [])

/-- HLT_ACK, as R461 has it. -/
def execHltAck (dt : Nat) (m : Fin 8) (s : State) : Host.Outcome State Fault Refusal :=
  .next ((s.pass dt).lcs m.val 0x0F02 cmdHltAck)

/-- The checks of HLT_INJECT in the order of R393 step 8, each as (it fails, status, DETAIL). -/
def chkHltInject (r : Req) (s : State) : List (Bool × Nat × Nat) :=
  [(r.part != 1, stPartition, noField), (r.u8 17 != 0, stInvalid, 17), (2 ^ 48 ≤ r.u64 24, stInvalid, 24),
    (s.isSet Reg.SYS_SVC_LOCK, stLocked, noField)]

/-- The field of HLT_INJECT that a refusal with a CAUSE found at fault (R392): DET for CAUSE 3, the lowest of INSTANCE, PARAM and ADDR for
CAUSE 4. DEDUCED, unsafe (log 168). -/
def State.injField (s : State) (r : Req) (cause : Nat) : Nat :=
  if cause == 3 then 16
  else if cause != 4 then noField
  else if !s.injInstOk (r.u8 16) (r.u16 18) then 18
  else if !s.injParamOk (r.u8 16) (r.u16 18) (r.u32 20) then 20
  else 24

/-- HLT_INJECT: Lysman firmware arms, selects and writes GO; it answers when the injection is done, expired or refused. -/
def cmdHltInject (r : Req) (s : State) : State × Resp :=
  let w1c := (s.w1c Reg.HLT_INJ_STAT_DONE).w1c Reg.HLT_INJ_STAT_EXPIRED
  let sel := (((w1c.w1c Reg.HLT_INJ_STAT_REFUSED).wr Reg.HLT_INJ_SEL (r.u8 16 * 2 ^ 24 + r.u16 18)).wr Reg.HLT_INJ_PARAM (r.u32 20)).wr64
    Reg.HLT_INJ_ADDR_LO Reg.HLT_INJ_ADDR_HI (r.u64 24 / 64 * 64)
  let t := ((sel.injKey 0x1E57).injKey 0xA11C).injGo
  s.refuseOr (chkHltInject r s)
    (if t.isSet Reg.HLT_INJ_STAT_REFUSED then (t, .fail stInvalid (s.injField r (t.fld Reg.HLT_INJ_STAT_CAUSE)) (leBytes 4 (t.rd Reg.HLT_INJ_STAT)))
     else if t.isSet Reg.HLT_INJ_STAT_DONE then (t, .ok (leBytes 4 (t.rd Reg.HLT_INJ_STAT)))
     else (t.setHlt { t.hlt with injWaiter := some r.waiter }, .wait))

/-- HLT_INJECT, as R483 has it. -/
def execHltInject (dt : Nat) (m : Fin 8) (s : State) : Host.Outcome State Fault Refusal :=
  .next ((s.pass dt).lcs m.val 0x0F03 cmdHltInject)

/-- The checks of CVU_CHECK in the order of R393 step 8, each as (it fails, status, DETAIL). -/
def chkCvuCheck (r : Req) (s : State) : List (Bool × Nat × Nat) :=
  let u := r.u8 16
  let a := r.u64 48
  let len := r.u64 56
  let inRange := if s.isSet Reg.MBX_STATUS_RECOVERY then inDeviceMem a && a + len ≤ 0xC00000000
    else s.grants.any fun g => g.part == r.part && g.base ≤ a && a + len ≤ g.base + 2 ^ g.log2
  [(!within 2 3 u, stInvalid, 16), (!within 1 1000 (r.u16 18), stInvalid, 18), (r.u32 20 != 0, stInvalid, 20), (!inRange, stInvalid, 48),
    (!within 1 (2 ^ 36) len, stInvalid, 56), (s.isSet (Reg.CVU_CTRL_BUSY u), stBusy, noField)]

/-- CVU_CHECK: one scan on CVU2 or CVU3 with the settings given. -/
def cmdCvuCheck (r : Req) (s : State) : State × Resp :=
  let u := r.u8 16
  let mode := r.u8 17
  let a := r.u64 48
  let len := r.u64 56
  s.refuseOr (chkCvuCheck r s)
    (let refin := bitsAt mode 6 6 * 2 ^ 22 + bitsAt mode 7 7 * 2 ^ 21
     let v := refin + bitsAt mode 5 4 * 2 ^ 19 + bitsAt mode 3 1 * 2 ^ 16 + bitsAt mode 0 0 * 2 ^ 15 +
       s.fld (Reg.CVU_CTRL_FEED_BYTES u) * 2 ^ 10
     let s1 := (((s.cvuConfigWrite u v).wr64 (Reg.CVU_POLY_LO u) (Reg.CVU_POLY_HI u) (r.u64 24)).wr64 (Reg.CVU_INIT_LO u) (Reg.CVU_INIT_HI u)
       (r.u64 32)).wr64 (Reg.CVU_XOROUT_LO u) (Reg.CVU_XOROUT_HI u) (r.u64 40)
     let s2 := (s1.wr64 (Reg.CVU_ADDR_LO u) (Reg.CVU_ADDR_HI u) a).wr64 (Reg.CVU_LEN_LO u) (Reg.CVU_LEN_HI u) len
     let s3 := (s2.cvuReset u).cvuGo u
     (s3.setCvu u { s3.cvuSt u with waiter := some r.waiter, deadline := s.tick + r.u16 18 * ticksPerMs }, .wait))

/-- CVU_CHECK, as R483 has it. -/
def execCvuCheck (dt : Nat) (m : Fin 8) (s : State) : Host.Outcome State Fault Refusal :=
  .next ((s.pass dt).lcs m.val 0x0F04 cmdCvuCheck)

end Sys2Proof.Machine
end

