-- ==== Sys2Proof/Machine/FbkCmds.lean ====
section
/-! DEFINITION. Firebreak's rule changes, barriers and query (spec/16_access_protection.md). -/

namespace Sys2Proof.Machine

open Sys2Proof

/-- The size exponent that a region is stored with (R436). -/
def clampLog2 (v : Nat) : Nat := max 8 (min 36 v)

/-- One word of the staged region written: 0 and 1 the base, 2 CFG. Reserved bits stay 0. -/
def FbkRegion.putWord (r : FbkRegion) (word value : Nat) : FbkRegion :=
  if word == 0 then { r with base := r.base / 2 ^ 32 * 2 ^ 32 + value / 2 ^ 8 * 2 ^ 8 }
  else if word == 1 then { r with base := value % 2 ^ 16 * 2 ^ 32 + r.base % 2 ^ 32 }
  else { r with cfg := bitsAt value 31 28 * 2 ^ 28 + value % 64 }

/-- A region as it is stored: its size in range and its base aligned to it (R436). DEDUCED, unsafe (log 121). -/
def FbkRegion.adjusted (r : FbkRegion) : FbkRegion :=
  let l := clampLog2 r.log2
  { base := r.base / 2 ^ l * 2 ^ l, cfg := withBits r.cfg 5 0 l }

/-- A write of Ranger S to a staged region (R435, R436, R441, R446). -/
def State.fbkRegionWrite (s : State) (u k word value : Nat) : State :=
  if fbkCount u ≤ k then s
  else
    let old := s.fbkStaged u k
    if bitAt old.cfg 28 then s.raise (Reg.FBK_UNIT_STAT_ADJUSTED u)
    else
      let new := old.putWord word value
      let kept := new.adjusted
      let s1 := ((s.wr (Reg.FBK_REG_BASE_LO u k) (kept.base % 2 ^ 32)).wr (Reg.FBK_REG_BASE_HI u k) (kept.base / 2 ^ 32)).wr
        (Reg.FBK_REG_CFG u k) kept.cfg
      if kept == new then s1 else s1.raise (Reg.FBK_UNIT_STAT_ADJUSTED u)

/-- FBK_REGION_WRITE. Every other master's write is ignored (R435). -/
def execFbkRegionWrite (dt : Nat) (unit : Fin 28) (region : Fin 48) (word : Fin 3) (value : Word) (byRanger : Bool) (s : State) :
    Host.Outcome State Fault Refusal :=
  let s1 := s.pass dt
  .next (if byRanger then s1.fbkRegionWrite unit.val region.val word.val value.toNat else s1)

/-- FBK_BARRIER_GO, with the accesses checked under the rules in force until now that are still in flight. DEDUCED, unsafe (log 121). -/
def execFbkBarrierGo (dt : Nat) (unit : Fin 28) (inFlight : Fin 65536) (byRanger : Bool) (s : State) : Host.Outcome State Fault Refusal :=
  let s1 := s.pass dt
  .next (if byRanger then s1.fbkGo unit.val inFlight.val else s1)

/-- FBK_BARRIER_COMPLETE (R442). DEDUCED, unsafe (log 121). -/
def execFbkBarrierComplete (dt : Nat) (step : BarrierStep) (s : State) : Host.Outcome State Fault Refusal :=
  .next ((s.pass dt).fbkDone step.unit.val step.finished)

/-- The active set of unit `u` as FBK_QUERY gives it. -/
def State.fbkActiveBytes (s : State) (u : Nat) : List Byte :=
  (List.range 48).flatMap fun k =>
    let r := if k < fbkCount u then sparseGet {} s.fbk.active (u * 64 + k) else { base := 0, cfg := 0 }
    pack [(8, r.base), (4, r.cfg)]

/-- The checks of FBK_QUERY in the order of R393 step 8, each as (it fails, status, DETAIL). -/
def chkFbkQuery (r : Req) (_s : State) : List (Bool × Nat × Nat) :=
  let u := r.u8 16
  [(27 < u, stInvalid, 16), (bitsAt (r.u32 16) 31 8 != 0, stInvalid, 17)]

/-- FBK_QUERY. -/
def cmdFbkQuery (r : Req) (s : State) : State × Resp :=
  let u := r.u8 16
  s.refuseOr (chkFbkQuery r s)
    (s, .ok (s.regImage State.view (Reg.FBK_BARRIER u) 21 ++ s.fbkActiveBytes u))

/-- FBK_QUERY, as R453 has it. -/
def execFbkQuery (dt : Nat) (m : Fin 8) (s : State) : Host.Outcome State Fault Refusal :=
  .next ((s.pass dt).lcs m.val 0x0E01 cmdFbkQuery)

end Sys2Proof.Machine
end

