-- ==== Sys2Proof/Machine/MbxCmds.lean ====
section
/-! DEFINITION. Mailboxes, notification rings and firmware restarts (spec/13_ranger_mailboxes.md). -/

namespace Sys2Proof.Machine

open Sys2Proof

/-! ### Mailboxes (R375 to R379) -/

/-- A doorbell with GO (R375, R377): the message is posted; the mailbox hardware answers it BUSY while firmware is not ready (R379), and
Lysman firmware refuses it where the checks of its header fail (R393). It then waits its turn (R418). DEDUCED, unsafe (log 110). -/
def State.doorbell (s : State) (m : Nat) (irq : Bool) : State :=
  if s.mbState m == mbPosted || s.mbState m == mbBusy then s.raise (Reg.MBX_CMPL_DB_ERR m)
  else
    let s := s.serveDue fun p => p.1.unit == fbkHost && p.1.write
    let b := s.mbox m
    let s1 := ((({ s with arrivals := s.arrivals.filter (· != m) ++ [m] } : State).setMbox m { irq := irq, serial := b.serial + 1 }).setFld (Reg.MBX_CMPL_DONE m) 0).setFld (Reg.MBX_CMPL_STATE m) mbPosted
    if !s1.isSet Reg.MBX_STATUS_READY then s1.complete m true false stBusy noField []
    else if s1.hlt.unitHalted.contains 1 then s1
    else match s1.headerCheck m with
      | some (st, d) => s1.complete m false false st d []
      | none => s1

/-- MBX_DOORBELL: a write to MBX_DBm. -/
def execMbxDoorbell (dt : Nat) (m : Fin 8) (go irq : Bool) (s : State) : Host.Outcome State Fault Refusal :=
  let s1 := s.pass dt
  .next (if go then s1.doorbell m.val irq else s1)

/-- A write of 1 to DONE (R375): a mailbox in DONE returns to IDLE, unless DONE was set in the same tick (R9). -/
def State.doneClear (s : State) (m : Nat) : State :=
  if s.mbState m == mbDone && !s.raised.contains ((Reg.MBX_CMPL_DONE m).addr, (Reg.MBX_CMPL_DONE m).lo) then
    (s.w1c (Reg.MBX_CMPL_DONE m)).setFld (Reg.MBX_CMPL_STATE m) mbIdle
  else s

/-- MBX_DONE_CLEAR, as R375 has it. -/
def execMbxDoneClear (dt : Nat) (m : Fin 8) (s : State) : Host.Outcome State Fault Refusal := .next ((s.pass dt).doneClear m.val)

/-- A host write into a message area (R375): 4 or 8 aligned bytes, dropped with WR_DROP while the mailbox is POSTED or BUSY. -/
def State.hostArea (s : State) (m off : Nat) (data : List Byte) : State :=
  let n := data.length
  if !(n == 4 || n == 8) || off % n != 0 || 4096 ≤ off then s
  else if s.mbState m == mbPosted || s.mbState m == mbBusy then s.raise (Reg.MBX_CMPL_WR_DROP m)
  else { s with area := sparsePutRange 0 s.area (4096 * m + off) data }

/-- MBX_AREA_WRITE, as R375 has it. -/
def execMbxAreaWrite (dt : Nat) (m : Fin 8) (off : Nat) (data : List Byte) (s : State) : Host.Outcome State Fault Refusal :=
  .next ((s.pass dt).hostArea m.val off data)

/-! ### Notification rings (R380 to R384) -/

/-- A host write of MBX_NRING_CONS (R382): CONS moves to a multiple of 64 that does not pass PROD, or ERR is set. DEDUCED, unsafe (log 106). -/
def State.nringCons (s : State) (n v : Nat) : State :=
  let old := s.rd (Reg.MBX_NRING_CONS n)
  if !s.isSet (Reg.MBX_NRING_CFG_OPEN n) then s
  else if v % 64 == 0 && wrapSub 32 v old ≤ wrapSub 32 (s.rd (Reg.MBX_NRING_PROD n)) old then s.wr (Reg.MBX_NRING_CONS n) v
  else s.raise (Reg.MBX_NRING_STAT_ERR n)

/-- MBX_NRING_CONS_WRITE (R382). What a ring owes is written by NOTICE_BACKLOG_WRITE. DEDUCED, unsafe (log 106). -/
def execMbxNringConsWrite (dt : Nat) (ring : Fin 8) (value : Word) (s : State) : Host.Outcome State Fault Refusal :=
  .next ((s.pass dt).nringCons ring.val value.toNat)

/-- A host write of MBX_NRING_LEVEL (R384, R390): stored from 1 to 2^k; on a closed ring only the lower bound applies. DEDUCED, unsafe (log 106). -/
def State.nringLevel (s : State) (n w : Nat) : State :=
  let v := max 1 (w % 2 ^ 25)
  s.setFld (Reg.MBX_NRING_LEVEL_BYTES n) (if s.isSet (Reg.MBX_NRING_CFG_OPEN n) then min v (s.nringSize n) else v)

/-- MBX_NRING_LEVEL_WRITE, as R384 has it. DEDUCED, unsafe (log 106). -/
def execMbxNringLevelWrite (dt : Nat) (ring : Fin 8) (value : Word) (s : State) : Host.Outcome State Fault Refusal :=
  .next ((s.pass dt).nringLevel ring.val value.toNat)

/-- NOTICE_BACKLOG_WRITE (R383): what ring `ring` owes, as far as space allows. -/
def execNoticeBacklogWrite (dt : Nat) (ring : Fin 8) (s : State) : Host.Outcome State Fault Refusal :=
  .next ((s.pass dt).nringCatchUp ring.val)

/-- A 10 ms window with occurrences folded in ends: their notice is raised and a new window begins; a window without any is over. -/
def State.coalesceEnd (s : State) (c : Coalesce) : State :=
  let rest := s.coalesce.filter fun d => d != c
  if s.tick < c.endTick || (c.folded != 0 && !s.composes && !hwNotice c.kind c.payload) then s
  else if c.folded == 0 then { s with coalesce := rest }
  else
    let fresh : Coalesce := { kind := c.kind, obj := c.obj, endTick := c.endTick + 10 * ticksPerMs, dests := c.dests }
    ({ s with coalesce := fresh :: rest }).deliver c.kind c.obj c.dests c.payload (c.folded - 1) false

/-- NOTICE_COALESCE_EXPIRY (R564): every window that has ended. -/
def execNoticeCoalesceExpiry (dt : Nat) (s : State) : Host.Outcome State Fault Refusal :=
  let s1 := s.pass dt
  .next (s1.coalesce.foldl (fun t c => t.coalesceEnd c) s1)

/-- The checks of MBX_NRING_OPEN in the order of R393 step 8, each as (it fails, status, DETAIL). -/
def chkMbxNringOpen (r : Req) (s : State) : List (Bool × Nat × Nat) :=
  let k := r.u8 16
  let owner := bitAt (r.u8 17) 0
  let base := r.u64 24
  let free := (List.range 8).find? fun n => !s.isSet (Reg.MBX_NRING_CFG_OPEN n)
  [(owner && r.part != 1, stPartition, noField), (!within 16 24 k, stInvalid, 16), (1 < r.u8 17, stInvalid, 17), (r.u16 18 != 0, stInvalid, 18),
    (!within 1 (2 ^ k) (r.u32 20), stInvalid, 20), (base % 2 ^ k != 0, stInvalid, 24), (free.isNone, stNoSpace, noField)]

/-- MBX_NRING_OPEN. -/
def cmdMbxNringOpen (r : Req) (s : State) : State × Resp :=
  let k := r.u8 16
  let owner := bitAt (r.u8 17) 0
  let base := r.u64 24
  let free := (List.range 8).find? fun n => !s.isSet (Reg.MBX_NRING_CFG_OPEN n)
  s.refuseOr (chkMbxNringOpen r s)
    (let n := free.getD 0
     let cfg := 2 ^ 31 + ofBool owner * 2 ^ 30 + r.part * 32 + k
     let s1 := (((s.setNring n {}).wr64 (Reg.MBX_NRING_BASE_LO n) (Reg.MBX_NRING_BASE_HI n) base).wr (Reg.MBX_NRING_CFG n) cfg).wr
       (Reg.MBX_NRING_PROD n) 0
     let s2 := ((s1.wr (Reg.MBX_NRING_CONS n) 0).wr (Reg.MBX_NRING_STAT n) 0).setFld (Reg.MBX_NRING_LEVEL_BYTES n) (r.u32 20)
     (s2, .ok (leBytes 4 n)))

/-- MBX_NRING_OPEN, as R380 has it. -/
def execMbxNringOpen (dt : Nat) (m : Fin 8) (s : State) : Host.Outcome State Fault Refusal :=
  .next ((s.pass dt).lcs m.val 0x0C01 cmdMbxNringOpen)

/-- A ring closed: what was not written is discarded. -/
def State.nringClose (s : State) (n : Nat) : State :=
  ((s.setNring n {}).setFld (Reg.MBX_NRING_CFG_OPEN n) 0).setFld (Reg.MBX_NRING_STAT_BACKLOG n) 0

/-- The checks of MBX_NRING_CLOSE in the order of R393 step 8, each as (it fails, status, DETAIL). -/
def chkMbxNringClose (r : Req) (s : State) : List (Bool × Nat × Nat) :=
  let n := r.u32 16
  let isOpen := n < 8 && s.isSet (Reg.MBX_NRING_CFG_OPEN n)
  [(isOpen && s.fld (Reg.MBX_NRING_CFG_PARTITION n) != r.part, stPartition, noField), (!isOpen, stInvalid, 16)]

/-- MBX_NRING_CLOSE. -/
def cmdMbxNringClose (r : Req) (s : State) : State × Resp :=
  let n := r.u32 16
  s.refuseOr (chkMbxNringClose r s)
    (s.nringClose n, .ok [])

/-- MBX_NRING_CLOSE, as R380 has it. -/
def execMbxNringClose (dt : Nat) (m : Fin 8) (s : State) : Host.Outcome State Fault Refusal :=
  .next ((s.pass dt).lcs m.val 0x0C02 cmdMbxNringClose)

/-! ### Restarts and the host port's reset (R386 to R389) -/

/-- FIRMWARE_STOP (R386): an ordered restart (cause 7) that is due, or the restart that an uncorrectable Ranger SRAM error of part
`part` brings (cause 5, R465), whose re-read has failed. In recovery mode an ordered restart runs from step 5 (R518). -/
def execFirmwareStop (dt cause : Nat) (part : Fin 3) (s : State) : Host.Outcome State Fault Refusal :=
  let s1 := s.pass dt
  .next (if cause == 7 && s1.ranger.restartDue.isSome then
      let s2 := s1.restartBegins 7
      if s1.isSet Reg.MBX_STATUS_RECOVERY then
        (s2.setFld Reg.SYS_START_STAT_STEP 5).setSys { s2.sys with form := 0, startAt := s2.tick }
      else s2
    else if cause == 5 && !s1.isSet Reg.HLT_STATUS_FATAL then (s1.logFault 4 2 part.val).restartBegins 5
    else s1)

/-- RESTART_CLASS_EXPIRY (R388). -/
def execRestartClassExpiry (dt : Nat) (s : State) : Host.Outcome State Fault Refusal := .next (s.pass dt).classRestart

/-- The host port's reset (R389): configuration space and MSI-X table cleared, mailboxes IDLE with their responses discarded, rings closed. DEDUCED,
unsafe (log 107). DEDUCED, unsafe (log 107). DESIGN CHOICE, unsafe (log 234). -/
def State.functionReset (s : State) : State :=
  let s : State := { s with pcie := {} }
  let s1 := (List.range 8).foldl (fun t m =>
    (((t.setMbox m { irq := false, serial := (t.mbox m).serial + 1 }).setFld (Reg.MBX_CMPL_DONE m) 0).setFld (Reg.MBX_CMPL_HW m) 0).setFld
      (Reg.MBX_CMPL_STATE m) mbIdle) s
  (List.range 8).foldl (fun t n => t.nringClose n) s1

/-- PCIE_FUNCTION_RESET: a Function Level Reset, or PCIE_PERST_N asserted (`perst`). -/
def execPcieFunctionReset (dt : Nat) (perst : Bool) (s : State) : Host.Outcome State Fault Refusal :=
  let s1 := (s.pass dt).functionReset
  .next (if perst then { s1 with sys := { s1.sys with perstLow := true } } else s1)

end Sys2Proof.Machine
end

