-- ==== Sys2Proof/Machine/PacketCmds.lean ====
section
/-! DEFINITION. The commands and events of the packet ports and ingest queues (spec/09_packet_ports.md). -/

namespace Sys2Proof.Machine

open Sys2Proof

/-! ### A received frame taken apart (R251, R252) -/

/-- What the receive checks see of a frame. -/
structure EthView where
  dst : List Byte := []
  src : List Byte := []
  vlan : Option Nat := none
  stacked : Bool := false
  etype : Nat := 0
  body : List Byte := []
  deriving DecidableEq, Repr

/-- The frame without its FCS taken apart. -/
def ethView (f : List Byte) : EthView :=
  let e := fieldBe f 12 2
  if e == 0x8100 then
    let e2 := fieldBe f 16 2
    { dst := f.take 6, src := (f.drop 6).take 6, vlan := some (fieldBe f 14 2 % 4096), stacked := e2 == 0x8100 || e2 == 0x88A8, etype := e2, body := f.drop 18 }
  else { dst := f.take 6, src := (f.drop 6).take 6, stacked := e == 0x88A8, etype := e, body := f.drop 14 }

/-- A datagram: addresses, protocol, payload. -/
structure IpView where
  v6 : Bool := false
  src : List Byte := []
  dst : List Byte := []
  proto : Nat := 0
  data : List Byte := []
  deriving DecidableEq, Repr

/-- R252 step 4 for IPv4: version, header checksum, total length, no fragment. -/
def ipv4View (b : List Byte) : Option IpView :=
  let ihl := 4 * (fieldBe b 0 1 % 16)
  let total := fieldBe b 2 2
  if fieldBe b 0 1 / 16 != 4 || ihl < 20 || total < ihl || b.length < total || inetSum (b.take ihl) != 0 ||
      fieldBe b 6 2 / 8192 % 2 == 1 || fieldBe b 6 2 % 8192 != 0 then none
  else some { src := (b.drop 12).take 4, dst := (b.drop 16).take 4, proto := fieldBe b 9 1, data := (b.take total).drop ihl }

/-- R252 step 4 for IPv6: the next header is UDP, ICMPv6, or hop-by-hop for MLD. -/
def ipv6View (b : List Byte) : Option IpView :=
  let len := fieldBe b 4 2
  let nh := fieldBe b 6 1
  let data := (b.drop 40).take len
  let mld := nh == 0 && fieldBe data 0 1 == 58 && [130, 131, 132, 143].contains (fieldBe data (8 * (1 + fieldBe data 1 1)) 1)
  if fieldBe b 0 1 / 16 != 6 || b.length < 40 + len || !(nh == 17 || nh == 58 || mld) then none
  else some { v6 := true, src := (b.drop 8).take 16, dst := (b.drop 24).take 16, proto := if mld then 58 else nh, data := data }

/-- R252 step 5: the UDP checksum; zero is skipped over IPv4 and fails over IPv6. -/
def udpOk (p : IpView) : Bool :=
  let len := fieldBe p.data 4 2
  let pseudo := p.src ++ p.dst ++ (if p.v6 then beBytes 4 len ++ beBytes 4 17 else beBytes 2 17 ++ beBytes 2 len)
  if len < 8 || p.data.length < len then false
  else if fieldBe p.data 6 2 == 0 then !p.v6
  else inetSum (pseudo ++ p.data.take len) == 0

/-- The multicast MAC of an IP address; none of a unicast one. -/
def groupMac (v6 : Bool) (ip : List Byte) : Option (List Byte) :=
  if v6 then (if fieldBe ip 0 1 == 255 then some (beBytes 2 0x3333 ++ (ip.drop 12).take 4) else none)
  else if fieldBe ip 0 1 / 16 == 14 then some (beBytes 3 0x01005E ++ beBytes 3 (fieldBe ip 1 3 % 2 ^ 23)) else none

/-- The PTP group addresses of R279. -/
def ptpMacs : List (List Byte) := [beBytes 6 0x01005E000181, beBytes 6 0x333300000181, beBytes 6 0x011B19000000]

/-- The address of MAC control frames. -/
def controlMac : List Byte := beBytes 6 0x0180C2000001

def Flow.v6 (f : Flow) : Bool := bitAt f.flags 0

/-- The filters in use, by session. -/
def State.flows (s : State) : List (Nat × Flow) := s.queues.filterMap fun p => p.2.flow.map fun f => (p.1, f)

/-- R252 step 2. DEDUCED, unsafe (log 159). -/
def State.macOk (s : State) (p : Nat) (v : EthView) : Bool :=
  v.dst == s.portMac p || (v.dst == beBytes 6 0xFFFFFFFFFFFF && v.etype == 0x0806) || ptpMacs.contains v.dst || v.dst == controlMac ||
    s.flows.any fun x => groupMac x.2.v6 (x.2.dstIp.take (if x.2.v6 then 16 else 4)) == some v.dst

/-! ### Neighbours (R251) -/

/-- Whether an address is one of port `p`'s. -/
def State.ownIp (s : State) (p : Nat) (ip : List Byte) : Bool := (s.portSt p).addrs.any fun a => a.addr == ip

/-- An IP packet in an Ethernet frame of port `p`: `opts` are the IPv4 options, or the IPv6 extension header, that the packet carries. -/
def State.ipFrame (s : State) (p : Nat) (mac src dst : List Byte) (proto ttl : Nat) (opts data : List Byte) : List Byte :=
  if src.length == 16 then
    let next := if opts.isEmpty then proto else 0
    ethSeal (mac ++ s.portMac p ++ beBytes 2 0x86DD ++ beBytes 4 (6 * 2 ^ 28) ++ beBytes 2 (opts.length + data.length) ++ beBytes 1 next ++
      beBytes 1 ttl ++ src ++ dst ++ opts ++ data)
  else
    let ihl := 5 + opts.length / 4
    let h1 := beBytes 1 (0x40 + ihl) ++ beBytes 1 0 ++ beBytes 2 (4 * ihl + data.length) ++ beBytes 4 0 ++ beBytes 1 ttl ++ beBytes 1 proto
    ethSeal (mac ++ s.portMac p ++ beBytes 2 0x0800 ++ h1 ++ beBytes 2 (inetSum (h1 ++ beBytes 2 0 ++ src ++ dst ++ opts)) ++ src ++ dst ++ opts ++ data)

/-- An ICMP or IGMP message with its checksum. -/
def icmpSum (head data : List Byte) : List Byte := head ++ beBytes 2 (inetSum (head ++ beBytes 2 0 ++ data)) ++ data

/-- An ICMPv6 message with its checksum, which covers the pseudo-header. -/
def icmp6Sum (src dst head data : List Byte) : List Byte :=
  head ++ beBytes 2 (inetSum (src ++ dst ++ beBytes 4 (4 + data.length) ++ beBytes 4 58 ++ head ++ beBytes 2 0 ++ data)) ++ data

/-- The multicast groups that the filters of port `p` name. -/
def State.mcastGroups (s : State) (p : Nat) (v6 : Bool) : List (List Byte) :=
  ((s.flows.filter fun x => bitAt x.2.ports p && x.2.v6 == v6).map fun x => x.2.dstIp.take (if v6 then 16 else 4)).filter fun g =>
    (groupMac v6 g).isSome

/-- An IGMPv3 or MLDv2 report of groups, each with any source (mode EXCLUDE of none). PRESUMED, unsafe (log 74). -/
def State.groupReport (s : State) (p : Nat) (v6 : Bool) (l : List (List Byte)) : State :=
  let records := l.flatMap fun g => beBytes 4 0x02000000 ++ g
  match l, (s.portSt p).addrs.find? fun a => a.v6 == v6 with
  | _ :: _, some a =>
    let body := beBytes 2 0 ++ beBytes 2 l.length ++ records
    let f := if v6 then
        let dst := beBytes 16 (0xFF02 * 2 ^ 112 + 0x16)
        s.ipFrame p (beBytes 6 0x333300000016) a.addr dst 58 1 (beBytes 8 0x3A00050200000100) (icmp6Sum a.addr dst (beBytes 2 0x8F00) body)
      else s.ipFrame p (beBytes 6 0x01005E000016) a.addr (beBytes 4 0xE0000016) 2 1 (beBytes 4 0x94040000) (icmpSum (beBytes 2 0x2200) body)
    (s.txPut p { bytes := f }).2
  | _, _ => s

/-- An ARP frame answered by Lysman firmware: a request for an address of the port, on a device that drives (R406). PRESUMED, unsafe (log 74). -/
def State.arpIn (s : State) (p : Nat) (b : List Byte) : State :=
  let sha := (b.drop 8).take 6
  let spa := (b.drop 14).take 4
  let tpa := (b.drop 24).take 4
  if s.drives && fieldBe b 0 4 == 0x00010800 && fieldBe b 4 4 == 0x06040001 && 28 ≤ b.length && s.ownIp p tpa then
    (s.txPut p { bytes := ethSeal (sha ++ s.portMac p ++ beBytes 2 0x0806 ++ beBytes 4 0x00010800 ++ beBytes 4 0x06040002 ++ s.portMac p ++ tpa ++
      sha ++ spa) }).2
  else s

/-- An ICMP, ICMPv6, IGMP or MLD message answered by Lysman firmware: echo requests to an address of the port, neighbour solicitations for one, and
membership queries, these in every role (R406). PRESUMED, unsafe (log 74). -/
def State.icmpIn (s : State) (p : Nat) (mac : List Byte) (ip : IpView) : State :=
  let d := ip.data
  let t := fieldBe d 0 1
  if !ip.v6 && ip.proto == 1 && t == 8 && s.drives && s.ownIp p ip.dst then
    (s.txPut p { bytes := s.ipFrame p mac ip.dst ip.src 1 64 [] (icmpSum (beBytes 2 0) (d.drop 4)) }).2
  else if !ip.v6 && ip.proto == 2 && t == 0x11 then
    let g := (d.drop 4).take 4
    s.groupReport p false ((s.mcastGroups p false).filter fun x => g == zeros 4 || x == g)
  else if ip.v6 && t == 128 && s.drives && s.ownIp p ip.dst then
    (s.txPut p { bytes := s.ipFrame p mac ip.dst ip.src 58 64 [] (icmp6Sum ip.dst ip.src (beBytes 2 0x8100) (d.drop 4)) }).2
  else if ip.v6 && t == 135 && s.drives && s.ownIp p ((d.drop 8).take 16) then
    let own := (d.drop 8).take 16
    let body := beBytes 4 0x60000000 ++ own ++ beBytes 2 0x0201 ++ s.portMac p
    (s.txPut p { bytes := s.ipFrame p mac own ip.src 58 255 [] (icmp6Sum own ip.src (beBytes 2 0x8800) body) }).2
  else if ip.v6 then
    let o := if t == 130 then 0 else 8 * (1 + fieldBe d 1 1)
    let g := (d.drop (o + 8)).take 16
    if fieldBe d o 1 == 130 then s.groupReport p true ((s.mcastGroups p true).filter fun x => g == zeros 16 || x == g) else s
  else s

/-! ### Frames for Lysman firmware, PFC (R252, R267) -/

/-- A frame for Lysman firmware, answered by `reply`: at most 1,000 in a second, none before it is ready (R271). -/
def State.toFirmware (s : State) (p : Nat) (reply : State → State) : State :=
  let x := s.portSt p
  let x1 := if x.ctrlAt + ticksPerS ≤ s.tick then { x with ctrlAt := s.tick, ctrlN := 0 } else x
  if !s.isSet Reg.MBX_STATUS_READY || 1000 ≤ x1.ctrlN then (s.setPort p x1).bump (Reg.PKT_PORT_CNT_CTRL_DROP p)
  else reply (s.setPort p { x1 with ctrlN := x1.ctrlN + 1 })

/-- A PTP frame handed to the time unit with its receive timestamp, corrected by the port's fixed latency (R252 step 6, R280), on a port of PORTS and in
the transport in use; Management and Signaling messages are ignored (R279). -/
def State.ptpIn (s : State) (p transport : Nat) (message : List Byte) : State :=
  if [0xC, 0xD].contains (fieldAt message 0 1 % 16) then s
  else
    let stamp := s.ptpNs - s.rxLatency (52 + p)
    let t : State := { s with time := { s.time with rx := sparseIns s.time.rx p { ptp := stamp, message := message } } }
    if bitAt s.time.ports p && s.time.transport == transport then t.hearPtp p message stamp else t

/-- PFC_RX of a class set or cleared. -/
def State.setPfcRx (s : State) (p c : Nat) (v : Bool) : State :=
  s.setFld (Reg.PKT_PORT_STAT_PFC_RX p) (withBits (s.fld (Reg.PKT_PORT_STAT_PFC_RX p)) c c (ofBool v))

/-- A class of port `p` is paused for `quanta` of 512 bit times, or resumes with 0 (R267). PRESUMED, unsafe (log 74). -/
def State.pauseClass (s : State) (p c quanta : Nat) : State :=
  let x := s.portSt p
  if quanta == 0 then
    ((s.setPort p { x with pausedTill := sparseDel x.pausedTill c, pausedSince := sparseDel x.pausedSince c }).setPfcRx p c false).drainTx p
  else
    (s.setPort p { x with
      pausedTill := sparseIns x.pausedTill c (s.tick + ceilDiv (quanta * 1024) 100)
      pausedSince := if (sparseFind x.pausedSince c).isSome then x.pausedSince else sparseIns x.pausedSince c s.tick }).setPfcRx p c true

/-- A MAC control frame: PAUSE is counted and dropped, PFC is honoured for the classes in the port's mask. -/
def State.controlFrame (s : State) (p : Nat) (b : List Byte) : State :=
  if fieldBe b 0 2 == 0x0101 then
    (bitList 8 (fieldBe b 2 2)).foldl (fun t c =>
      if bitAt (t.fld (Reg.PKT_PORT_STAT_PFC_MASK p)) c then t.pauseClass p c (fieldBe b (4 + 2 * c) 2) else t)
      (s.bump (Reg.PKT_PORT_CNT_PFC_RX p))
  else if fieldBe b 0 2 == 0x0001 then s.bump (Reg.PKT_PORT_CNT_PAUSE p)
  else s.bump (Reg.PKT_PORT_CNT_BAD p)

/-! ### RTP and RTCP (R254 to R258) -/

/-- The RTCP port of a filter, when it has one of its own. -/
def Flow.rtcp (f : Flow) : Option Nat :=
  if bitAt f.flags 6 then none else some (if f.rtcpPort == 0 then (f.dstPort + 1) % 65536 else f.rtcpPort)

/-- The part of R254 that looks at port, VLAN and addresses. -/
def Flow.matches (f : Flow) (p : Nat) (vlan : Option Nat) (ip : IpView) : Bool :=
  let n := if f.v6 then 16 else 4
  bitAt f.ports p && f.v6 == ip.v6 && (f.vlan == 0xFFFF || (match vlan with | none => f.vlan == 0 | some v => f.vlan == v && v != 0)) &&
    f.dstIp.take n == ip.dst && (!bitAt f.flags 1 || f.srcIp.take n == ip.src)

/-- A packet of a flow dropped (R255); `auth` for one that failed SRTP (R257). -/
def State.rejectRtp (s : State) (p n : Nat) (auth : Bool) : State :=
  let t := (s.bump (Reg.PKT_Q_CNT_REJECT n)).raise (Reg.PKT_Q_STAT_REJECT n)
  if !auth then t
  else ((t.bump (Reg.PKT_PORT_CNT_AUTH p)).raise (Reg.PKT_PORT_STAT_AUTH p)).notice 0x0804 (p * 65536 + n) [0, s.decOwner n]
    (pack [(1, p), (1, 0), (2, n), (4, 1)])

/-- The 48-bit index of an RTP packet by RFC 3711 Appendix A; before the first packet the ROC is that of the key's FROM_INDEX. DEDUCED, unsafe (log 158). -/
def SrtpSt.guess (x : SrtpSt) (seq : Nat) : Nat :=
  match x.top with
  | none => ((x.cur <|> x.new).map fun k => k.start).getD 0 / 65536 * 65536 + seq
  | some t =>
    let roc := t / 65536
    let sl := t % 65536
    let v := if sl < 32768 then (if sl + 32768 < seq then roc + 2 ^ 32 - 1 else roc) else (if seq + 32768 < sl then roc + 1 else roc)
    v % 2 ^ 32 * 65536 + seq

/-- Whether a replay window of 128 packets below its highest index admits an index. -/
def replayFresh (top : Option Nat) (window i : Nat) : Bool :=
  match top with
  | none => true
  | some t => t < i || (t < i + 128 && !bitAt window (t - i))

/-- A replay window with an index taken in. -/
def replayTake (top : Option Nat) (window i : Nat) : Nat × Nat :=
  match top with
  | none => (i, 1)
  | some t => if t < i then (i, (window * 2 ^ (i - t) + 1) % 2 ^ 128) else (t, withBits window (t - i) (t - i) 1)

/-- Whether the replay window admits an RTP index. -/
def SrtpSt.fresh (x : SrtpSt) (i : Nat) : Bool := replayFresh x.top x.window i

/-- An index accepted: the window moves; under the new key the old one is erased. -/
def SrtpSt.accept (x : SrtpSt) (i : Nat) : SrtpSt :=
  let (t, w) := replayTake x.top x.window i
  ({ x with top := some t, window := w }).renewed i

/-- An SRTCP index accepted. -/
def SrtpSt.acceptRtcp (x : SrtpSt) (i : Nat) : SrtpSt :=
  let (t, w) := replayTake x.rtcpTop x.rtcpWindow i
  { x with rtcpTop := some t, rtcpWindow := w }

/-- The payload of an RTP packet: CSRC list, header extension and padding removed; none where it has none. -/
def rtpPayload (b : List Byte) : Option (List Byte) :=
  let f := fieldBe b 0 1
  let csrc := 12 + 4 * (f % 16)
  let head := if f / 16 % 2 == 1 then csrc + 4 + 4 * fieldBe b (csrc + 2) 2 else csrc
  let pad := if f / 32 % 2 == 1 then (b.getLastD 0).toNat else 0
  if b.length ≤ head + pad then none else some ((b.drop head).take (b.length - head - pad))

/-- The header bytes of an RTP packet before its payload. -/
def rtpHead (b : List Byte) : Nat :=
  let f := fieldBe b 0 1
  let csrc := 12 + 4 * (f % 16)
  if f / 16 % 2 == 1 then csrc + 4 + 4 * fieldBe b (csrc + 2) 2 else csrc

/-- R255 step 5: a packet type the payload format permits. -/
def nalTypeOk (profile b : Nat) : Bool :=
  if profile ≤ 2 then b / 2 % 64 ≤ 49 else within 1 24 (b % 32) || b % 32 == 28

/-- A packet of a flow with an SRTP key opened at an index; none where it does not authenticate. DESIGN CHOICE, safe (log 16). -/
def State.openSrtp (s : State) (n i : Nat) (b : List Byte) : Option (List Byte) :=
  ((s.queue n).srtp.keyFor i).bind fun k => Config.srtpOpen (leNat k.key) (leNat k.salt) i b

/-- R255 on a frame of session `n`'s RTP port: stored as an item, or dropped. DEDUCED, unsafe (log 158). -/
def State.rtpPacket (s : State) (p n : Nat) (f : Flow) (b : List Byte) : State :=
  let q := s.queue n
  let seq := fieldBe b 2 2
  let ssrc := fieldBe b 8 4
  let pt := fieldBe b 1 1 % 128
  let secure := bitAt f.flags 5
  let i := q.srtp.guess seq
  if fieldBe b 0 1 / 64 != 2 || (if secure then decide (b.length ≤ rtpHead b) else (rtpPayload b).isNone) then s.rejectRtp p n false
  else if f.pt != 0xFF && f.pt != pt then s.rejectRtp p n false
  else if bitAt f.flags 2 && f.ssrc != ssrc then s.rejectRtp p n false
  else
    let opened := if secure then (if q.srtp.fresh i then s.openSrtp n i b else none).map fun x => b.take (rtpHead b) ++ x else some b
    match opened with
    | none => s.rejectRtp p n true
    | some c =>
      let x := (rtpPayload c).getD []
      if x.isEmpty || !nalTypeOk (s.fld (Reg.DEC_SES_CTRL_PROFILE n)) (fieldBe x 0 1) then s.rejectRtp p n false
      else
        let q1 := { q with ssrc := some ssrc, srtp := if secure then q.srtp.accept i else q.srtp }
        let s1 := (s.setQueue n q1).setDec n { s.dec n with lastPacket := s.tick }
        let flags := fieldBe b 1 1 / 128 + 4 * p + 8 * ofBool secure
        s1.qPut n flags pt seq (fieldBe b 4 4) ssrc s.now40 x

/-- R256: an RTCP packet; a sender report of the session's SSRC sets an anchor. SRTCP keeps a replay window of its own (R257). DEDUCED, unsafe (log 158). -/
def State.rtcpPacket (s : State) (p n : Nat) (f : Flow) (b : List Byte) : State :=
  let q := s.queue n
  let secure := bitAt f.flags 5
  let i := fieldBe b (b.length - 4) 4 % 2 ^ 31
  let opened := if secure then
      (if replayFresh q.srtp.rtcpTop q.srtp.rtcpWindow i then
        (q.srtp.reportKey (q.srtp.top.getD 0)).bind fun k => Config.srtpOpen (leNat k.key) (leNat k.salt) i b else none).map fun x => b.take 8 ++ x
    else some b
  match opened with
  | none => s.rejectRtp p n true
  | some c =>
    let s1 := if secure then s.setQueue n { q with srtp := q.srtp.acceptRtcp i } else s
    let want := if bitAt f.flags 2 then some f.ssrc else q.ssrc
    if fieldBe c 0 1 / 64 == 2 && fieldBe c 1 1 == 200 && want == some (fieldBe c 4 4) && 20 ≤ c.length then
      s1.setAnchor n { rtp := unwrapRtp (s1.dec n).uLast (fieldBe c 16 4), epoch := s1.epoch,
                       ptp := ntpToPtp (fieldBe c 8 4) (fieldBe c 12 4) (s1.dec n).tai }
    else s1

/-! ### ETH_FRAME_RECEIVED (R252, R253) -/

/-- R252 step 6 for a UDP datagram that passed step 5. -/
def State.udpIn (s : State) (p : Nat) (vlan : Option Nat) (ip : IpView) : State :=
  let port := fieldBe ip.data 2 2
  let data := (ip.data.take (fieldBe ip.data 4 2)).drop 8
  let hit := s.flows.find? fun x => x.2.matches p vlan ip && (port == x.2.dstPort || x.2.rtcp == some port)
  if port == 319 || port == 320 then s.ptpIn p (ofBool ip.v6) data
  else match hit with
    | none => s.bump (Reg.PKT_PORT_CNT_NOMATCH p)
    | some (n, f) =>
      let mux := bitAt f.flags 6 && within 200 204 (fieldBe data 1 1)
      if port == f.dstPort && !mux then s.rtpPacket p n f data else s.rtcpPacket p n f data

/-- R252 steps 2 to 6 on a frame without its FCS. DESIGN CHOICE, safe (log 71). -/
def State.frameIn (s : State) (p : Nat) (f : List Byte) : State :=
  let v := ethView f
  if !s.macOk p v then s.bump (Reg.PKT_PORT_CNT_NOMATCH p)
  else if v.stacked then s.bump (Reg.PKT_PORT_CNT_BAD p)
  else if v.etype == 0x8808 then s.controlFrame p v.body
  else if v.etype == 0x88F7 then s.ptpIn p 2 v.body
  else if v.etype == 0x0806 then s.toFirmware p fun t => t.arpIn p v.body
  else if v.etype != 0x0800 && v.etype != 0x86DD then s.bump (Reg.PKT_PORT_CNT_NOMATCH p)
  else match if v.etype == 0x0800 then ipv4View v.body else ipv6View v.body with
    | none => s.bump (Reg.PKT_PORT_CNT_BAD p)
    | some ip =>
      if ip.proto == 17 then (if udpOk ip then s.udpIn p v.vlan ip else s.bump (Reg.PKT_PORT_CNT_BAD p))
      else if (if ip.v6 then ip.proto == 58 else ip.proto == 1 || ip.proto == 2) then s.toFirmware p fun t => t.icmpIn p v.src ip
      else s.bump (Reg.PKT_PORT_CNT_NOMATCH p)

/-- RS-FEC codewords corrected and not correctable since the frame before, where RS-FEC is in use (R251, R272). -/
def State.countFec (s : State) (p corrected uncorrectable : Nat) : State :=
  if s.isSet (Reg.PKT_PORT_STAT_RSFEC p) then
    (s.bump (Reg.PKT_PORT_CNT_FEC_CORR p) corrected).bump (Reg.PKT_PORT_CNT_FEC_UNCORR p) uncorrectable
  else s

/-- A frame received on port `p`, its FCS its last four bytes; `level` is the fill of the receive buffer in 64-byte units before it, to which a frame
that fits adds. DESIGN CHOICE, safe (log 71). -/
def State.ethFrame (s : State) (p : Nat) (f : List Byte) (level : Nat) : State :=
  if !s.linkUp p then s
  else
    let (inj, s0) := s.injTake 0x13 p
    let s1 := s0.bumpWrap (Reg.PKT_PORT_CNT_RX_FRAMES p)
    let fill (t : State) (v : Nat) : State := t.setFld (Reg.PKT_PORT_RXBUF_LEVEL p) (min v 4096)
    let body := f.take (f.length - 4)
    if inj.isSome || !within 64 9216 f.length || ethCrc body != f.drop (f.length - 4) then ((fill s1 level).bump (Reg.PKT_PORT_CNT_BAD p)).settlePorts
    else if 262144 < 64 * level + f.length then
      (((fill s1 level).raise (Reg.PKT_PORT_STAT_RX_OVF p)).bump (Reg.PKT_PORT_CNT_DROP p)).settlePorts
    else
      (((fill s1 (level + ceilDiv f.length 64)).settlePorts).frameIn p body).settlePorts

/-- ETH_FRAME_RECEIVED, as R252 has it; not while the port's receive queue is being reset (R23, kind 0x07). -/
def execEthFrameReceived (dt : Nat) (port : Fin 2) (bytes : List Byte) (intake : PortIntake) (s : State) :
    Host.Outcome State Fault Refusal :=
  let s1 := (s.pass dt).countFec port.val intake.corrected intake.uncorrectable
  .next (if s1.queueTakes 0x07 (2 * port.val) then s1.ethFrame port.val bytes intake.level else s1.bump (Reg.PKT_PORT_CNT_DROP port.val))

/-! ### Priority flow control in time (R265, R267) -/

/-- A class still held is paused again 500 µs after its last PFC frame. -/
def State.pfcRenew (s : State) (p c : Nat) : State :=
  match sparseFind (s.portSt p).pfcAt c with
  | none => s
  | some t => if t + 500 * ticksPerUs ≤ s.tick && bitAt (s.fld (Reg.PKT_PORT_STAT_PFC_TX p)) c then s.sendPfc p c 0xFFFF else s

/-- PFC_RENEW, as R265 has it. -/
def execPfcRenew (dt : Nat) (port : Fin 2) (cls : Fin 8) (s : State) : Host.Outcome State Fault Refusal :=
  .next ((s.pass dt).pfcRenew port.val cls.val)

/-- A class paused for more than 50 ms has its queued frames discarded. -/
def State.pauseTimeout (s : State) (p c : Nat) : State :=
  match sparseFind (s.portSt p).pausedSince c with
  | none => s
  | some t =>
    if s.tick ≤ t + 50 * ticksPerMs then s
    else
      let x := s.portSt p
      let gone := x.txq.filter fun f => f.pcp == c
      let first := (gone.findSome? fun f => f.session).getD 0
      ((s.setPort p { x with txq := x.txq.filter fun f => f.pcp != c }).lostFrames gone).txLoss p first gone.length (s.encOwner first)

/-- PFC_PAUSE_TIMEOUT, as R267 has it. -/
def execPfcPauseTimeout (dt : Nat) (port : Fin 2) (cls : Fin 8) (s : State) : Host.Outcome State Fault Refusal :=
  .next ((s.pass dt).pauseTimeout port.val cls.val)

/-- The pause time of a received PFC frame runs out. -/
def State.pauseExpiry (s : State) (p c : Nat) : State :=
  match sparseFind (s.portSt p).pausedTill c with
  | none => s
  | some t => if t ≤ s.tick then s.pauseClass p c 0 else s

/-- PFC_RX_PAUSE_EXPIRY, as R267 has it. -/
def execPfcRxPauseExpiry (dt : Nat) (port : Fin 2) (cls : Fin 8) (s : State) : Host.Outcome State Fault Refusal :=
  .next ((s.pass dt).pauseExpiry port.val cls.val)

/-! ### The pipe's operations on a queue (R261) -/

/-- QUEUE_SET_MARK, as R261 has it. -/
def execQueueSetMark (dt : Nat) (session : Fin 128) (s : State) : Host.Outcome State Fault Refusal := .next ((s.pass dt).qSetMark session.val)

/-- QUEUE_REWIND, as R261 has it. -/
def execQueueRewind (dt : Nat) (session : Fin 128) (mark : Fin 4) (s : State) : Host.Outcome State Fault Refusal :=
  .next ((s.pass dt).qRewind session.val mark.val)

/-- QUEUE_RELEASE, as R261 has it. -/
def execQueueRelease (dt : Nat) (session : Fin 128) (mark : Fin 4) (s : State) : Host.Outcome State Fault Refusal :=
  .next ((s.pass dt).qRelease session.val mark.val)

/-- QUEUE_READ, as R261 has it. -/
def execQueueRead (dt : Nat) (read : PipeRead) (s : State) : Host.Outcome State Fault Refusal :=
  .next ((s.pass dt).qRead read.session.val read.whole)

/-! ### PORT_LINK_CHANGE (R251, R266) -/

/-- A port's link goes up or down, with block lock and the state of its lane (R251, R330); a port out of service stays down (R25), and so does one whose lane
is unused or has an invalid record (R297). -/
def State.portLink (s : State) (p : Nat) (up : Bool) : State :=
  if s.linkUp p == up || (up && ((s.portSt p).down || !s.isSet Reg.PKT_STATUS_READY || !s.laneUsable (52 + p))) then s
  else
    let x := s.portSt p
    let s1 := ((if up then s else s.lostFrames x.txq).setFld (Reg.PKT_PORT_STAT_LINK p) (ofBool up)).setFld (if p == 0 then Reg.PKT_STATUS_LINK0 else Reg.PKT_STATUS_LINK1) (ofBool up)
      |>.setFld (Reg.KLN_STAT_STATE (52 + p)) (if up then 4 else 0) |>.setFld (Reg.KLN_STAT_BLOCK_LOCK (52 + p)) (ofBool up)
      |>.setFld (Reg.KLN_OFFSET_FROZEN (52 + p)) 1
    let s2 := if up then s1.setPort p { x with everUp := true }
      else ((s1.setPort p { x with txq := [], pausedTill := [], pausedSince := [], pfcAt := [] }).setFld (Reg.PKT_PORT_STAT_PFC_RX p) 0).setFld
        (Reg.PKT_PORT_STAT_PFC_TX p) 0
    (s2.notice 0x0801 p [0] (pack [(1, p), (1, ofBool up), (2, 0)])).settlePorts

/-- PORT_LINK_CHANGE, as R251 has it. -/
def execPortLinkChange (dt : Nat) (port : Fin 2) (up : Bool) (s : State) : Host.Outcome State Fault Refusal :=
  .next ((s.pass dt).portLink port.val up)

/-! ### Register writes (R272) -/

/-- A host write of PKT_QDIAG_CTRL in service mode. -/
def State.qdiag (s : State) (v : Nat) : State :=
  if !s.isSet Reg.PKT_STATUS_SVC then s
  else
    let n := v % 128
    let s1 := s.setFld Reg.PKT_QDIAG_CTRL_SESSION n
    if !bitAt v 31 then s1
    else
      let rd := s.rd (Reg.PKT_Q_RD n)
      if !s.isSet (Reg.PKT_Q_CTRL_OPEN n) || rd == s.rd (Reg.PKT_Q_WR n) then s1.setFld Reg.PKT_QDIAG_CTRL_VALID 0
      else
        let (h, t) := s1.qHeader fbkPkt n rd
        (List.range 8).foldl (fun t k => t.wr (Reg.PKT_QDIAG_DATA k) (fieldAt h (4 * k) 4)) (t.setFld Reg.PKT_QDIAG_CTRL_VALID 1)

/-- PKT_QDIAG_GO, as R272 has it. -/
def execPktQdiagGo (dt : Nat) (value : Word) (s : State) : Host.Outcome State Fault Refusal := .next ((s.pass dt).qdiag value.toNat)

/-- A host write of PKT_Q_WMARK in service mode, stored adjusted to R264; DENIED for a queue that is not open. DEDUCED, safe (log 76). -/
def State.wmarkWrite (s : State) (n v : Nat) : State :=
  if !s.isSet Reg.PKT_STATUS_SVC then s
  else if !s.isSet (Reg.PKT_Q_CTRL_OPEN n) then s.raise Reg.PKT_SVC_STAT_DENIED
  else
    let hi := bitsAt v 25 16
    let lo := bitsAt v 9 0
    let hi1 := min (max hi 1) (highLimit (s.qSize n))
    let lo1 := min lo (hi1 - 1)
    let t := s.wr (Reg.PKT_Q_WMARK n) (hi1 * 65536 + lo1)
    if hi1 == hi && lo1 == lo then t else t.raise Reg.PKT_SVC_STAT_ADJUSTED

/-- PKT_Q_WMARK_WRITE, as R272 has it. -/
def execPktQWmarkWrite (dt : Nat) (session : Fin 128) (value : Word) (s : State) : Host.Outcome State Fault Refusal :=
  .next ((s.pass dt).wmarkWrite session.val value.toNat)

/-! ### PKT_PORT_CFG, PKT_PORT_QUERY -/

/-- The checks of PKT_PORT_CFG in the order of R393 step 8, each as (it fails, status, DETAIL). -/
def chkPktPortCfg (r : Req) (_s : State) : List (Bool × Nat × Nat) :=
  let p := r.u8 16
  let n := r.u8 17
  let entry (i : Nat) : Nat := 20 + 20 * i
  let bad (i : Nat) : List (Bool × Nat × Nat) :=
    let o := entry i
    let v6 := bitAt (r.u8 (o + 17)) 0
    [((if v6 then 128 else 32) < r.u8 (o + 16), stInvalid, o + 16), (1 < r.u8 (o + 17), stInvalid, o + 17),
     (r.u8 (o + 18) != 0, stInvalid, o + 18), (r.u8 (o + 19) != 0, stInvalid, o + 19)]
  [(r.part != 1, stPartition, noField), (1 < p, stInvalid, 16), (4 < n, stInvalid, 17), (r.u8 19 != 0, stInvalid, 19)] ++
    (List.range n).flatMap bad

/-- PKT_PORT_CFG. -/
def cmdPktPortCfg (r : Req) (s : State) : State × Resp :=
  let p := r.u8 16
  let n := r.u8 17
  let entry (i : Nat) : Nat := 20 + 20 * i
  let addrs := (List.range n).map fun i =>
    let v6 := bitAt (r.u8 (entry i + 17)) 0
    ({ addr := r.bytes (entry i) (if v6 then 16 else 4), prefixLen := r.u8 (entry i + 16), v6 := v6 } : PortAddr)
  s.refuseOr (chkPktPortCfg r s)
    ((s.setPort p { s.portSt p with addrs := addrs }).setFld (Reg.PKT_PORT_STAT_PFC_MASK p) (r.u8 18), .ok [])

/-- PKT_PORT_CFG, as R273 has it. -/
def execPktPortCfg (dt : Nat) (m : Fin 8) (s : State) : Host.Outcome State Fault Refusal :=
  .next ((s.pass dt).lcs m.val 0x0801 cmdPktPortCfg)

/-- The checks of PKT_PORT_QUERY in the order of R393 step 8, each as (it fails, status, DETAIL). -/
def chkPktPortQuery (r : Req) (_s : State) : List (Bool × Nat × Nat) :=
  [(r.part != 1, stPartition, noField), (1 < r.u8 16, stInvalid, 16), (r.u8 17 != 0 || r.u16 18 != 0, stInvalid, 17)]

/-- PKT_PORT_QUERY. -/
def cmdPktPortQuery (r : Req) (s : State) : State × Resp :=
  s.refuseOr (chkPktPortQuery r s)
    (s, .ok (s.regImage State.view (Reg.PKT_PORT_STAT (r.u8 16)) 21))

/-- PKT_PORT_QUERY, as R273 has it. -/
def execPktPortQuery (dt : Nat) (m : Fin 8) (s : State) : Host.Outcome State Fault Refusal :=
  .next ((s.pass dt).lcs m.val 0x0806 cmdPktPortQuery)

/-! ### PKT_FLOW_SET (R254, R264) -/

/-- A filter as the body gives it. -/
def flowOf (r : Req) : Flow :=
  { ports := r.u8 18, flags := r.u8 19, vlan := r.u16 20, pt := r.u8 23, dstIp := r.bytes 24 16, srcIp := r.bytes 40 16, dstPort := r.u16 56,
    rtcpPort := r.u16 58, ssrc := r.u32 60 }

/-- Whether two filters match a common frame. -/
def Flow.meets (a b : Flow) : Bool :=
  let n := if a.v6 then 16 else 4
  let ports (f : Flow) : List Nat := f.dstPort :: f.rtcp.toList
  (bitAt a.ports 0 && bitAt b.ports 0 || bitAt a.ports 1 && bitAt b.ports 1) && a.v6 == b.v6 &&
    (a.vlan == b.vlan || a.vlan == 0xFFFF || b.vlan == 0xFFFF) && a.dstIp.take n == b.dstIp.take n &&
    ((ports a).any fun p => (ports b).contains p) &&
    !(bitAt a.flags 1 && bitAt b.flags 1 && a.srcIp.take n != b.srcIp.take n)

/-- The group that a new filter names is reported on its ports (R251). PRESUMED, unsafe (log 74). -/
def State.joinGroups (s : State) (n : Nat) (f : Flow) : State :=
  if (s.queue n).flow != some f then s
  else
    let g := f.dstIp.take (if f.v6 then 16 else 4)
    (bitList 2 f.ports).foldl (fun t p => if (groupMac f.v6 g).isSome then t.groupReport p f.v6 [g] else t) s

/-- The limits of PKT_FLOW_SET. -/
def State.flowChecks (s : State) (r : Req) : List (Bool × Nat × Nat) :=
  let n := r.u16 16
  let f := flowOf r
  let size := s.qSize n
  let hi := if r.u16 64 == 0 then 768 else r.u16 64
  let lo := if r.u16 66 == 0xFFFF then 512 else r.u16 66
  s.decSesChecks r ++ if f.ports == 0 then [] else
    [(decide (3 < f.ports), stInvalid, 18), (decide (128 ≤ f.flags), stInvalid, 19), (4094 < f.vlan && f.vlan != 0xFFFF, stInvalid, 20), (decide (7 < r.u8 22), stInvalid, 22),
     (!within 96 127 f.pt && f.pt != 0xFF, stInvalid, 23),
     (f.dstPort == 0 || f.dstPort == 319 || f.dstPort == 320 || (s.flows.any fun x => x.1 != n && x.2.meets f), stInvalid, 56),
     (f.rtcp == some 319 || f.rtcp == some 320, stInvalid, 58), (!within 1 (highLimit size) hi, stInvalid, 64), (decide (hi ≤ lo), stInvalid, 66)]

/-- The checks of PKT_FLOW_SET in the order of R393 step 8, each as (it fails, status, DETAIL). -/
def chkPktFlowSet (r : Req) (s : State) : List (Bool × Nat × Nat) :=
  s.flowChecks r ++ s.decBusyCheck r

/-- PKT_FLOW_SET. -/
def cmdPktFlowSet (r : Req) (s : State) : State × Resp :=
  let n := r.u16 16
  let f := flowOf r
  let q := s.queue n
  let hi := if r.u16 64 == 0 then 768 else r.u16 64
  let lo := if r.u16 66 == 0xFFFF then 512 else r.u16 66
  let put (on : Bool) : State :=
    ((((((s.setQueue n { q with flow := if on then some f else none, ssrc := none }).setFld (Reg.PKT_Q_CTRL_FILTER n) (ofBool on)).setFld
      (Reg.PKT_Q_CTRL_PORTS n) f.ports).setFld (Reg.PKT_Q_CTRL_PCP n) (if on then r.u8 22 else 0)).setFld (Reg.PKT_Q_CTRL_PFC_EN n)
      (ofBool (on && bitAt f.flags 3))).setFld (Reg.PKT_Q_CTRL_HOLD_PIN n) (ofBool (on && bitAt f.flags 4))).setFld (Reg.PKT_Q_CTRL_SRTP n)
      (ofBool (on && bitAt f.flags 5)) |>.setFld (Reg.PKT_Q_CTRL_RTCP_MUX n) (ofBool (on && bitAt f.flags 6))
  s.refuseOr (chkPktFlowSet r s)
    (let t := put (f.ports != 0)
     let u := (if f.ports == 0 then t else t.wr (Reg.PKT_Q_WMARK n) (hi * 65536 + lo)).settlePorts
     (u.joinGroups n f, .ok []))

/-- PKT_FLOW_SET, as R254 has it. -/
def execPktFlowSet (dt : Nat) (m : Fin 8) (s : State) : Host.Outcome State Fault Refusal :=
  .next ((s.pass dt).lcs m.val 0x0802 cmdPktFlowSet)

/-! ### PKT_FLOW_KEY (R258) -/

/-- A new key of a flow whose next index is `index`: the key in use until FROM_INDEX is the one that applies now. -/
def SrtpSt.install (x : SrtpSt) (index : Nat) (k : SrtpKey) : SrtpSt :=
  match x.new with
  | none => { x with new := some k }
  | some n => if x.cur.isNone || index == n.start || newer 48 index n.start then { x with cur := some n, new := some k } else { x with new := some k }

/-- The checks of PKT_FLOW_KEY in the order of R393 step 8, each as (it fails, status, DETAIL). DEDUCED, unsafe (log 164). -/
def chkPktFlowKey (r : Req) (s : State) : List (Bool × Nat × Nat) :=
  let f := r.u16 16
  let encode := 0x8000 ≤ f
  let n := f % 0x8000
  let isOpen := if encode then n < 32 && s.isSet (Reg.ENC_SES_CTRL_OPEN n) else n < 128 && s.isSet (Reg.DEC_SES_CTRL_OPEN n)
  let owner := if encode then s.encOwner n else s.decOwner n
  [(isOpen && r.part != 1 && r.part != owner, stPartition, noField), (!isOpen, stInvalid, 16), (r.u16 18 != 0, stInvalid, 18), (2 ^ 48 ≤ r.u64 20, stInvalid, 20),
    (if encode then esDraining ≤ s.encState n else dsDraining ≤ s.decState n, stBusy, noField)]

/-- PKT_FLOW_KEY. DEDUCED, safe (log 157). -/
def cmdPktFlowKey (r : Req) (s : State) : State × Resp :=
  let f := r.u16 16
  let encode := 0x8000 ≤ f
  let n := f % 0x8000
  let k : SrtpKey := { key := r.bytes 28 16, salt := r.bytes 44 12, start := r.u64 20 % 2 ^ 48 }
  s.refuseOr (chkPktFlowKey r s)
    (if encode then
       let d := s.enc n
       let index := s.rd (Reg.PKT_TX_ROC n) * 65536 + s.fld (Reg.PKT_TX_CTRL_SEQ n)
       (s.setEnc n { d with flow := d.flow.map (fun (g : TxFlow) => { g with keys := g.keys.install index k })
                            txKeys := if d.flow.isNone then d.txKeys.install index k else d.txKeys }, .ok [])
     else
       let q := s.queue n
       (s.setQueue n { q with srtp := q.srtp.install (q.srtp.top.getD 0) k }, .ok []))

/-- PKT_FLOW_KEY, as R258 has it. -/
def execPktFlowKey (dt : Nat) (m : Fin 8) (s : State) : Host.Outcome State Fault Refusal :=
  .next ((s.pass dt).lcs m.val 0x0803 cmdPktFlowKey)

/-! ### PKT_QUEUE_READ (R273) -/

/-- The checks of PKT_QUEUE_READ in the order of R393 step 8, each as (it fails, status, DETAIL). -/
def chkPktQueueRead (r : Req) (s : State) : List (Bool × Nat × Nat) :=
  s.decSesChecks r ++ [(decide (1 < r.u8 18), stInvalid, 18), (r.u8 19 != 0, stInvalid, 19), (!within 1 1000 (r.u16 20), stInvalid, 20),
    (decide (1024 < r.u16 22), stInvalid, 22)]

/-- PKT_QUEUE_READ: the item at RD, or the next item written; it waits where there is none yet. -/
def cmdPktQueueRead (r : Req) (s : State) : State × Resp :=
  let n := r.u16 16
  let q := s.queue n
  let rd := s.rd (Reg.PKT_Q_RD n)
  s.refuseOr (chkPktQueueRead r s)
    (if r.u8 18 == 0 && rd != s.rd (Reg.PKT_Q_WR n) then (let (b, t) := s.queueCopy n rd (r.u16 22)
       (t, .ok b))
     else (s.setQueue n { q with waits := q.waits ++ [{ waiter := r.waiter, endTick := s.tick + r.u16 20 * ticksPerMs, most := r.u16 22 }] }, .wait))

/-- PKT_QUEUE_READ, as R273 has it. -/
def execPktQueueRead (dt : Nat) (m : Fin 8) (s : State) : Host.Outcome State Fault Refusal :=
  .next ((s.pass dt).lcs m.val 0x0805 cmdPktQueueRead)

/-- The copies of a queue whose time is up end with TIMEOUT and no body. -/
def State.queueReadTimeout (s : State) (n : Nat) : State :=
  let q := s.queue n
  let due := q.waits.filter fun w => w.endTick ≤ s.tick
  due.foldl (fun t w => t.answer (some w.waiter) stTimeout []) (s.setQueue n { q with waits := q.waits.filter fun w => s.tick < w.endTick })

/-- PKT_QUEUE_READ_TIMEOUT, as R273 has it. -/
def execPktQueueReadTimeout (dt : Nat) (session : Fin 128) (s : State) : Host.Outcome State Fault Refusal :=
  .next ((s.pass dt).queueReadTimeout session.val)

end Sys2Proof.Machine
end

