-- ==== Sys2Proof/Machine/SysCmds.lean ====
section
/-! DEFINITION. The system commands (spec/14_command_set.md, R397 to R414). -/

namespace Sys2Proof.Machine

open Sys2Proof

/-- The highest rung in force (R424). -/
def State.degrade (s : State) : Nat := ((List.range 5).filter fun k => bitAt s.pol.rungs k).foldl (fun a k => max a (k + 1)) 0

/-- SYS_IDENTIFY. -/
def cmdSysIdentify (_ : Req) (s : State) : State × Resp :=
  let flags := s.fld Reg.MBX_STATUS_RECOVERY + 2 * s.fld Reg.PAIR_STATUS_PRESENT + 4 * s.fld Reg.PAIR_STATUS_ILK + 8 * s.fld Reg.PAIR_STATUS_DUAL_INPUT +
    16 * s.fld Reg.SYS_SVC_ACTIVE + 32 * s.fld Reg.SYS_SVC_LOCK
  (s, .ok (pack [(4, s.rd Reg.SYS_ID), (1, s.fld Reg.SYS_GRADE_GRADE), (1, s.fld Reg.SYS_STRAPS_PAIR_SIDE), (2, flags), (4, s.rd Reg.MBX_FW_VER),
    (1, s.fld Reg.SYS_START_STAT_SLOT), (1, s.fld Reg.SYS_STRAPS_BOOT_SRC), (2, 1), (8, s.sys.dieId), (4, s.sys.boardId), (4, s.sys.boardVer),
    (8, s.ageOf ageCtl), (4, 4096), (4, 0)]))

/-- SYS_IDENTIFY, as R410 has it. -/
def execSysIdentify (dt : Nat) (m : Fin 8) (s : State) : Host.Outcome State Fault Refusal :=
  .next ((s.pass dt).lcs m.val 0x0101 cmdSysIdentify)

/-- Bit i of SYS_HEALTH's READY for each block's READY bit. -/
def State.readyBits (s : State) : Nat :=
  ([Reg.LDG_STATUS_READY, Reg.GATE_STATUS_READY, Reg.LKO_STATUS_READY, Reg.DEC_STATUS_READY, Reg.ENC_STATUS_READY, Reg.PKT_STATUS_READY,
    Reg.TIM_STATUS_READY, Reg.PAIR_STATUS_READY, Reg.MEM_STATUS_READY0, Reg.MEM_STATUS_READY1].mapIdx fun i f => s.fld f * 2 ^ i).sum

/-- SYS_HEALTH. DEDUCED, unsafe (log 111). -/
def cmdSysHealth (_ : Req) (s : State) : State × Resp :=
  let running := ((List.range 32).filter fun n => s.outState n == osRunning).length
  (s, .ok (pack [(4, s.rd Reg.HLT_CNT_CORRECTED), (4, s.rd Reg.HLT_CNT_TRANSIENT), (4, s.rd Reg.HLT_CNT_LASTING), (4, s.rd Reg.HLT_CNT_FATAL),
    (1, bitsAt (s.view Reg.HLT_STATUS) 28 28), (1, s.role), (1, running), (1, s.degrade), (2, s.fld Reg.HLT_TEMP_MAX_TEMP),
    (2, s.fld Reg.SYS_AVS_STAT_SETPOINT_MV), (2, s.fld Reg.SYS_PWR_EST_POWER), (1, s.fld Reg.TIM_STATUS_STATE), (1, s.fld Reg.TIM_STATUS_TRUSTED),
    (4, s.view Reg.LDG_NONLIVE), (4, s.readyBits), (12, 0)]))

/-- SYS_HEALTH, as R410 has it. -/
def execSysHealth (dt : Nat) (m : Fin 8) (s : State) : Host.Outcome State Fault Refusal :=
  .next ((s.pass dt).lcs m.val 0x0102 cmdSysHealth)

/-! ### Service mode (R411 to R413) -/

/-- The response of SYS_SERVICE: the state in force after the command. -/
def State.svcBody (s : State) : List Byte := pack [(2, s.remainS), (2, s.fld Reg.SYS_SVC_ACTIVE + 2 * s.fld Reg.SYS_SVC_LOCK)]

/-- Service mode entered or renewed for `secs` seconds. -/
def State.enterService (s : State) (secs : Nat) : State :=
  let s1 := s.setRanger { s.ranger with svcEnd := s.tick + secs * ticksPerS }
  if s.isSet Reg.SYS_SVC_ACTIVE then s1 else (s1.setSvc true).svcNotice 1 0 secs

/-- The service lock set. -/
def State.lockService (s : State) : State :=
  if s.isSet Reg.SYS_SVC_LOCK then s else ((s.setFld Reg.SYS_SVC_LOCK 1).endService 2).svcNotice 2 0 0

/-- The checks of SYS_SERVICE in the order of R393 step 8, each as (it fails, status, DETAIL). -/
def chkSysService (r : Req) (s : State) : List (Bool × Nat × Nat) :=
  let a := r.u8 16
  let secs := r.u16 18
  let confirm := if a == 1 then 0x5E7C else if a == 2 then 0x10CC else 0
  [(r.part != 1, stPartition, noField), (2 < a, stInvalid, 16), (r.u8 17 != 0, stInvalid, 17),
    (if a == 1 then !within 1 3600 secs else secs != 0, stInvalid, 18), (r.u16 20 != confirm, stInvalid, 20), (r.u16 22 != 0, stInvalid, 22),
    (a == 1 && s.isSet Reg.SYS_SVC_LOCK, stLocked, noField)]

/-- SYS_SERVICE. -/
def cmdSysService (r : Req) (s : State) : State × Resp :=
  let a := r.u8 16
  let secs := r.u16 18
  s.refuseOr (chkSysService r s)
    (let t := if a == 0 then s.endService 0 else if a == 1 then s.enterService secs else s.lockService
     (t, .ok t.svcBody))

/-- SYS_SERVICE, as R411 has it. -/
def execSysService (dt : Nat) (m : Fin 8) (s : State) : Host.Outcome State Fault Refusal :=
  .next ((s.pass dt).lcs m.val 0x0103 cmdSysService)

/-- SERVICE_TIMEOUT (R411). -/
def execServiceTimeout (dt : Nat) (s : State) : Host.Outcome State Fault Refusal :=
  let s1 := s.pass dt
  .next (if s1.ranger.svcEnd ≤ s1.tick then s1.endService 1 else s1)

/-- The checks of SYS_FW_RESTART in the order of R393 step 8, each as (it fails, status, DETAIL). -/
def chkSysFwRestart (r : Req) (_s : State) : List (Bool × Nat × Nat) :=
  [(r.part != 1, stPartition, noField), (r.u32 16 != 0, stInvalid, 16)]

/-- SYS_FW_RESTART: Ranger stops after the response (FIRMWARE_STOP). -/
def cmdSysFwRestart (r : Req) (s : State) : State × Resp :=
  s.refuseOr (chkSysFwRestart r s)
    (s.setRanger { s.ranger with restartDue := some s.tick }, .ok [])

/-- SYS_FW_RESTART, as R410 has it. -/
def execSysFwRestart (dt : Nat) (m : Fin 8) (s : State) : Host.Outcome State Fault Refusal :=
  .next ((s.pass dt).lcs m.val 0x0104 cmdSysFwRestart)

/-! ### Partitions and grants (R397 to R399) -/

/-- Whether a partition from 1 on exists. -/
def State.partExists (s : State) (p : Nat) : Bool := p == 1 || (s.partOf p).present

/-- SYS_PART (R414, R415). -/
def State.partNotice (s : State) (p event log2 base : Nat) : State :=
  s.notice 0x0103 0 [0, p] (pack [(2, p), (1, event), (1, log2), (8, base)])

/-- The checks of SYS_PART_CREATE in the order of R393 step 8, each as (it fails, status, DETAIL). -/
def chkSysPartCreate (r : Req) (s : State) : List (Bool × Nat × Nat) :=
  let cells := r.u32 16
  let free := (List.range 4094).find? fun i => !(s.partOf (i + 2)).present
  [(r.part != 1, stPartition, noField), (1048575 < cells && cells != 0xFFFFFFFF, stInvalid, 16), (128 < r.u8 20, stInvalid, 20),
    (32 < r.u8 21, stInvalid, 21), (16 < r.u8 22, stInvalid, 22), (64 < r.u8 23, stInvalid, 23), (free.isNone, stNoSpace, noField)]

/-- SYS_PART_CREATE. -/
def cmdSysPartCreate (r : Req) (s : State) : State × Resp :=
  let cells := r.u32 16
  let free := (List.range 4094).find? fun i => !(s.partOf (i + 2)).present
  s.refuseOr (chkSysPartCreate r s)
    (let p := free.getD 0 + 2
     let x : Partition := { present := true, cellQuota := cells, decQuota := r.u8 20, encQuota := r.u8 21, capQuota := r.u8 22, ringQuota := r.u8 23 }
     ((({ s with parts := sparsePut {} s.parts p x } : State).setNotify p { base := s.tick }).partNotice p 0 0 0, .ok (pack [(2, p), (2, 0)])))

/-- SYS_PART_CREATE, as R398 has it. -/
def execSysPartCreate (dt : Nat) (m : Fin 8) (s : State) : Host.Outcome State Fault Refusal :=
  .next ((s.pass dt).lcs m.val 0x0105 cmdSysPartCreate)

/-- The device-memory ranges, as address and size, that open rings and buffer records name (SYS_PART_GRANT). -/
def State.namedRanges (s : State) : List (Nat × Nat) :=
  let confirm := ((List.range 64).filter fun n => s.isSet (Reg.LDG_CRING_CFG_OPEN n)).map fun n =>
    (s.rd64 (Reg.LDG_CRING_BASE_LO n) (Reg.LDG_CRING_BASE_HI n), 16 * 2 ^ s.fld (Reg.LDG_CRING_CFG_LOG2_SIZE n))
  let commit := ((List.range 32).filter fun n => s.isSet (Reg.CNP_CRING_CFG_OPEN n)).map fun n =>
    (s.rd64 (Reg.CNP_CRING_BASE_LO n) (Reg.CNP_CRING_BASE_HI n), 128 * 2 ^ s.fld (Reg.CNP_CRING_CFG_LOG2_SIZE n))
  let enc := ((List.range 32).filter fun n => s.isSet (Reg.ENC_SES_CTRL_OPEN n) && s.isSet (Reg.ENC_SES_RING_CFG_OPEN n)).map fun n =>
    (s.rd64 (Reg.ENC_SES_RING_BASE_LO n) (Reg.ENC_SES_RING_BASE_HI n), 2 ^ s.fld (Reg.ENC_SES_RING_CFG_LOG2_SIZE n))
  let bufs := (List.range 32).flatMap fun n => (s.cmt n).bufs.flatMap fun b =>
    let p := b.2.pic
    if !b.2.present then []
    else (p.p0, p.s0 * p.h) :: (if twoPlanes p.fmt then [(p.p1, p.s1 * (p.h / 2))] else if p.fmt == 7 then [(p.p1, 1024)] else [])
  confirm ++ commit ++ enc ++ bufs

/-- The checks of SYS_PART_GRANT in the order of R393 step 8, each as (it fails, status, DETAIL). DEDUCED, unsafe (log 138). -/
def chkSysPartGrant (r : Req) (s : State) : List (Bool × Nat × Nat) :=
  let p := r.u16 16
  let add := r.u8 18 == 0
  let k := r.u8 19
  let base := r.u64 24
  let size := 2 ^ k
  let old := s.grants.find? fun g => g.part == p && g.base == base && g.log2 == k
  let meets (g : Grant) : Bool := g.base < base + size && base < g.base + 2 ^ g.log2
  let free := (List.range 40).find? fun i => !s.grants.any fun g => g.region == i
  [(r.part != 1, stPartition, noField), (p == 0 || 4095 < p || !s.partExists p, stInvalid, 16), (1 < r.u8 18, stInvalid, 18),
    (!within 12 34 k, stInvalid, 19), (r.u32 20 != 0, stInvalid, 20),
    (base % size != 0 || (if add then 0x600000000 < base + size || s.grants.any meets else old.isNone), stInvalid, 24),
    (!add && s.namedRanges.any (fun x => x.1 < base + size && base < x.1 + x.2), stBusy, noField),
    (add && (16 ≤ (s.grants.filter fun g => g.part == p).length || free.isNone), stNoSpace, noField)]

/-- SYS_PART_GRANT. An added grant takes the lowest free FBK_HOST region of 0 to 39, for writes (R561). -/
def cmdSysPartGrant (r : Req) (s : State) : State × Resp :=
  let p := r.u16 16
  let add := r.u8 18 == 0
  let k := r.u8 19
  let base := r.u64 24
  let old := s.grants.find? fun g => g.part == p && g.base == base && g.log2 == k
  let free := (List.range 40).find? fun i => !s.grants.any fun g => g.region == i
  s.refuseOr (chkSysPartGrant r s)
    (if add then
       let i := free.getD 0
       let s1 : State := { s with grants := s.grants ++ [{ part := p, base := base, log2 := k, region := i }] }
       ((s1.setFbkRegion fbkHost i base (regionCfg false true k)).partNotice p 1 k base, .ok [])
     else
       let i := (old.map Grant.region).getD 0
       let s1 : State := { s with grants := s.grants.filter fun g => !(g.part == p && g.base == base && g.log2 == k) }
       (((s1.setFbkRegion fbkHost i base (k % 64)).fbkAwait fbkHost).partNotice p 2 k base, .ok []))

/-- SYS_PART_GRANT, as R399 has it. -/
def execSysPartGrant (dt : Nat) (m : Fin 8) (s : State) : Host.Outcome State Fault Refusal :=
  .next ((s.pass dt).lcs m.val 0x0106 cmdSysPartGrant)

/-- Decode sessions, encode sessions, capture inputs and confirm rings of a partition. -/
def State.partUse (s : State) (p : Nat) : Nat × Nat × Nat × Nat :=
  (((List.range 128).filter fun n => s.isSet (Reg.DEC_SES_CTRL_OPEN n) && s.decOwner n == p).length,
   ((List.range 32).filter fun n => s.isSet (Reg.ENC_SES_CTRL_OPEN n) && s.encOwner n == p).length,
   ((List.range 16).filter fun i => s.isSet (Reg.KLN_CAP_CTRL_EN (capLane i)) && s.fld (Reg.KLN_CAP_CTRL_PARTITION (capLane i)) == p).length,
   ((List.range 64).filter fun n => s.isSet (Reg.LDG_CRING_CFG_OPEN n) && s.fld (Reg.LDG_CRING_CFG_PARTITION n) == p).length)

/-- Whether a partition holds anything that keeps it (SYS_PART_DESTROY). -/
def State.partHolds (s : State) (p : Nat) : Bool :=
  let (d, e, c, g) := s.partUse p
  s.hostCells p != 0 || d + e + c + g != 0 || (s.grants.any fun x => x.part == p) ||
    (s.regions.any fun x => x.2.owner == p && ctrlEn (s.rgCtrl x.1)) ||
    ((List.range 32).any fun n => s.owner n == p &&
      (s.outState n != osOff || (s.cmt n).bufs.any (fun b => b.2.present) || s.isSet (Reg.CNP_CRING_CFG_OPEN n))) ||
    ((List.range 8).any fun m => s.fld (Reg.MBX_BIND_PARTITION m) == p) ||
    (List.range 8).any fun n => s.isSet (Reg.MBX_NRING_CFG_OPEN n) && s.fld (Reg.MBX_NRING_CFG_PARTITION n) == p

/-- The checks of SYS_PART_DESTROY in the order of R393 step 8, each as (it fails, status, DETAIL). -/
def chkSysPartDestroy (r : Req) (s : State) : List (Bool × Nat × Nat) :=
  let p := r.u16 16
  [(r.part != 1, stPartition, noField), (p < 2 || !s.partExists p, stInvalid, 16), (r.u16 18 != 0, stInvalid, 18),
    (s.partHolds p, stBusy, noField)]

/-- SYS_PART_DESTROY. -/
def cmdSysPartDestroy (r : Req) (s : State) : State × Resp :=
  let p := r.u16 16
  s.refuseOr (chkSysPartDestroy r s)
    (let s1 := (List.range 32).foldl (fun t n => if t.owner n == p then t.setFld (Reg.CNP_OUT_OWNER_PARTITION n) 0 else t) s
     ((({ s1 with parts := sparsePut {} s1.parts p {} } : State).setNotify p {}).partNotice p 3 0 0, .ok []))

/-- SYS_PART_DESTROY, as R397 has it. -/
def execSysPartDestroy (dt : Nat) (m : Fin 8) (s : State) : Host.Outcome State Fault Refusal :=
  .next ((s.pass dt).lcs m.val 0x0107 cmdSysPartDestroy)

/-- The checks of SYS_PART_QUERY in the order of R393 step 8, each as (it fails, status, DETAIL). -/
def chkSysPartQuery (r : Req) (s : State) : List (Bool × Nat × Nat) :=
  let p := r.u16 16
  [(r.part != 1 && r.part != p, stPartition, noField), (p != 0 && !s.partExists p, stInvalid, 16), (r.u16 18 != 0, stInvalid, 18)]

/-- SYS_PART_QUERY. DEDUCED, unsafe (log 236). -/
def cmdSysPartQuery (r : Req) (s : State) : State × Resp :=
  let p := r.u16 16
  let x := s.partOf p
  let q (v : Nat) : Nat := if p ≤ 1 then 0xFF else v
  let (d, e, c, g) := s.partUse p
  let grants := s.grants.filter fun x => x.part == p
  let boxes := maskOf ((List.range 8).filter fun m => s.fld (Reg.MBX_BIND_PARTITION m) == p)
  s.refuseOr (chkSysPartQuery r s)
    (s, .ok (pack [(4, if p ≤ 1 then 0xFFFFFFFF else x.cellQuota), (4, s.hostCells p), (1, q x.decQuota), (1, d), (1, q x.encQuota), (1, e),
      (1, q x.capQuota), (1, c), (1, q x.ringQuota), (1, g), (1, grants.length), (1, boxes), (2, 0)] ++
      padTo 256 (grants.flatMap fun g => pack [(8, g.base), (1, g.log2), (7, 0)])))

/-- SYS_PART_QUERY, as R410 has it. -/
def execSysPartQuery (dt : Nat) (m : Fin 8) (s : State) : Host.Outcome State Fault Refusal :=
  .next ((s.pass dt).lcs m.val 0x0108 cmdSysPartQuery)

/-- The checks of SYS_MBX_BIND in the order of R393 step 8, each as (it fails, status, DETAIL). -/
def chkSysMbxBind (r : Req) (s : State) : List (Bool × Nat × Nat) :=
  let k := r.u8 16
  let p := r.u16 18
  let left := (List.range 8).any fun m => (if m == k then p else s.fld (Reg.MBX_BIND_PARTITION m)) == 1
  [(r.part != 1, stPartition, noField), (7 < k, stInvalid, 16), (r.u8 17 != 0, stInvalid, 17),
    (p == 0 || 4095 < p || !s.partExists p, stInvalid, 18), (!left, stInvalid, 18),
    (k != r.mbx && (s.mbState k == mbPosted || s.mbState k == mbBusy), stBusy, noField)]

/-- SYS_MBX_BIND. -/
def cmdSysMbxBind (r : Req) (s : State) : State × Resp :=
  let k := r.u8 16
  let p := r.u16 18
  s.refuseOr (chkSysMbxBind r s)
    (s.setFld (Reg.MBX_BIND_PARTITION k) p, .ok [])

/-- SYS_MBX_BIND, as R378 has it. -/
def execSysMbxBind (dt : Nat) (m : Fin 8) (s : State) : Host.Outcome State Fault Refusal :=
  .next ((s.pass dt).lcs m.val 0x0109 cmdSysMbxBind)

end Sys2Proof.Machine
end

