-- ==== Sys2Proof/Machine/PolCmds.lean ====
section
/-! DEFINITION. The pressure windows, the degrade ladder and the policy commands (spec/15_policy.md, R419 to R424, R432, R433). -/

namespace Sys2Proof.Machine

open Sys2Proof

/-! ### Pressures (R419, R421) -/

/-- How much a counter has grown in this window; one that was cleared counts from 0. DEDUCED, unsafe (log 129). -/
def State.grown (s : State) (a : Nat) : Nat :=
  let old := sparseGet 0 s.pol.counts a
  let now := s.rd a
  if now < old then now else now - old

/-- The pressure kinds present in a window, by bit (R421). -/
def State.pressureOf (s : State) (m : PolMeasure) : Nat :=
  let busy (l : List Nat) : Bool := l.any fun b => 950 ≤ b
  let decode := busy (m.decBusy.take 8) || (List.range 8).any fun p => s.grown (Reg.DEC_PIPE_CNT_OVERRUN p) != 0
  let memory := 500 < (m.mem.getD 0 (0, 0)).2 || 1000000 < m.total
  let encode := busy (m.encBusy.take 4) || s.openEncs.any fun n => (s.enc n).judged < 10 * s.grown (Reg.ENC_SES_CNT_LATE n)
  let thermal := decide (s.tjMax - 10 * (s.pol.margin : Int) ≤ s.hottest)
  let link := ((List.range 32) ++ [48, 49, 50, 51]).any fun i => 100 < s.grown (Reg.KLN_CNT_REPLAY i)
  ofBool decode + 2 * ofBool s.pol.scanLow + 4 * ofBool memory + 8 * ofBool encode + 16 * ofBool thermal + 32 * ofBool link

/-- The lane with the most replays in the window, 0xFF for none, and its count. -/
def State.worstLane (s : State) : Nat × Nat :=
  ((List.range 32) ++ [48, 49, 50, 51]).foldl (fun a i =>
    let g := s.grown (Reg.KLN_CNT_REPLAY i)
    if a.2 < g then (i, g) else a) (0xFF, 0)

/-- What POL_MEASURE answers for a window, but for its count. -/
def State.measureBytes (s : State) (m : PolMeasure) : List Byte :=
  let (lane, n) := s.worstLane
  ((List.range 7).flatMap fun k => pack [(2, (m.mem.getD k (0, 0)).1), (2, (m.mem.getD k (0, 0)).2)]) ++
    ((List.range 8).flatMap fun p => leBytes 2 (m.decBusy.getD p 0)) ++ ((List.range 4).flatMap fun p => leBytes 2 (m.encBusy.getD p 0)) ++
    pack [(2, ofInt 16 s.hottest), (1, lane), (1, 0), (4, n), (4, s.pol.urOuts)]

/-! ### The ladder (R422 to R424) -/

/-- The pressure kinds that rung `r` relieves. -/
def relieves : Nat → List Nat
  | 1 => [0]
  | 2 => [1, 4]
  | 3 => [1, 2, 3, 4]
  | 4 => [0, 1, 2, 4]
  | 5 => [0, 1, 2, 3, 4]
  | _ => []

/-- Layers or sessions that a rung acts on. -/
def State.rungObjects (s : State) (r : Nat) (moves : List (Nat × Nat)) : Nat :=
  let layers (p : StageSlot → Bool) : Nat :=
    (((List.range 32).filter fun n => s.fld (Reg.CNP_OUT_CTRL_CLASS n) == 0).map fun n =>
      ((List.range 8).filter fun k => (s.layer n k).stage.en && p (s.layer n k).stage).length).sum
  if r == 1 then ((s.rungMoves moves).filter fun x => x.pipe.isSome && x.pipe != some (s.fld (Reg.DEC_SES_CTRL_PIPE x.id))).length
  else if r == 2 then layers fun q => q.scaled && 2 ≤ q.filter
  else if r == 3 then s.openEncs.length
  else if r == 4 then layers fun q => q.source != 0
  else 0

/-- A rung applied or released, told and carried to the standby. -/
def State.moveRung (s : State) (r : Nat) (on : Bool) (moves : List (Nat × Nat)) : State :=
  let objects := s.rungObjects r moves
  let s1 := (s.setRung r on moves).sendDecision (ofBool on) r moves
  let s2 := if on then s1 else s1.setPol { s1.pol with releasedAt := s1.tick }
  s2.notice 0x0D01 0 [0xFFFF] (pack [(1, r), (1, ofBool on), (2, s2.pol.pressure), (1, s2.pol.rungs), (3, 0), (4, objects)]) true

/-- Whether rung `r` may be applied for one of the kinds `l`. -/
def State.rungFor (s : State) (l : List Nat) (r : Nat) : Bool :=
  bitAt s.pol.rungEn (r - 1) && !s.rung r && l.any fun k => (relieves r).contains k

/-- The rungs applied at the end of a window for the pressing kinds; an immediate THERMAL trigger applies every one that relieves it. DEDUCED, unsafe (log 128). -/
def State.applyRungs (s : State) (press : List Nat) (hot : Bool) (moves : List (Nat × Nat)) : State :=
  let l := if hot then [1, 2, 3, 4, 5].filter fun r => s.rungFor [4] r else []
  if !l.isEmpty then l.foldl (fun t r => t.moveRung r true moves) s
  else
    -- for each kind the lowest rung that may be applied; the lowest of these in one window
    let r := (press.filterMap fun k => [1, 2, 3, 4, 5].find? fun r => s.rungFor [k] r).foldl min 6
    if r == 6 then s else s.moveRung r true moves

/-- Whether rung `r` has been in force for nothing for RELEASE_S seconds. -/
def State.rungIdle (s : State) (r : Nat) : Bool :=
  let d := s.pol.releaseS * ticksPerS
  s.rung r && s.pol.releasedAt + d ≤ s.tick && (relieves r).all fun k => sparseGet 0 s.pol.seen k + d ≤ s.tick

/-- The highest-numbered rung that may be released now, released. DEDUCED, unsafe (log 128). -/
def State.releaseRung (s : State) : State :=
  match [5, 4, 3, 2, 1].find? s.rungIdle with
  | none => s
  | some r => s.moveRung r false []

/-- A standby that cannot follow a placement becomes FAULTED (R430). DEDUCED, unsafe (log 166). -/
def State.followCheck (s : State) : State := if s.role == roStandby && s.ready && s.cannotFollow then s.enterFaulted 7 else s

/-- A window's end: measures shown, pressures counted, one decision. LINK alone has no rung and is told once when it appears. DEDUCED, unsafe (log 128). -/
def State.endWindow (s : State) (m : PolMeasure) : State :=
  let now := s.pressureOf m
  let fired := s.pol.fired
  let present := (List.range 7).filter fun k => bitAt now k || bitAt fired k
  let runOf (k : Nat) : Nat := sparseGet 0 s.pol.runs k
  let runs := (present.filter fun k => bitAt now k).map fun k => (k, min 255 (runOf k + 1))
  let seen := present.foldl (fun l k => sparseIns l k s.tick) s.pol.seen
  let s1 := (List.range 8).foldl (fun t p => t.setFld (Reg.DEC_PIPE_STAT_BUSY p) (min 1000 (m.decBusy.getD p 0))) s
  let s2 := (List.range 4).foldl (fun t p => t.setFld (Reg.ENC_PIPE_STAT_BUSY p) (min 1000 (m.encBusy.getD p 0))) s1
  let s3 := s2.openEncs.foldl (fun t n => t.setEnc n { t.enc n with judged := 0 }) s2
  let p := s.pol
  let s4 := s3.setPol { p with runs := runs, seen := seen, fired := 0, pressure := maskOf present, window := wrapAdd 32 p.window 1, startAt := s.tick,
                               measure := s.measureBytes m, counts := s.watchedNow,
                               scanLow := false, urOuts := 0 }
  if !s4.decides then s4.followCheck
  else
    let s5 := if bitAt now 5 && runOf 5 == 0 then
        s4.notice 0x0D01 0 [0xFFFF] (pack [(1, 0), (1, 1), (2, s4.pol.pressure), (1, s4.pol.rungs), (3, 0), (4, 0)]) true
      else s4
    let press := present.filter fun k => bitAt fired k || p.enterWin ≤ runOf k + 1
    (s5.applyRungs press (bitAt fired 4) (s5.levelMoves m.decBusy)).releaseRung

/-- POL_WINDOW_END: 100 ms after the window began, while Lysman firmware is ready. -/
def execPolWindowEnd (dt : Nat) (measure : PolMeasure) (s : State) : Host.Outcome State Fault Refusal :=
  let s1 := s.pass dt
  .next (if s1.isSet Reg.MBX_STATUS_READY && s1.since s1.pol.startAt (100 * ticksPerMs) then s1.endWindow measure else s1)

/-! ### Commands (R432) -/

/-- A device that follows takes a decision of the device that decides (R430). DESIGN CHOICE, unsafe (log 130). DEDUCED, unsafe (log 166). -/
def State.takeDecision (s : State) (msg : List Byte) : State :=
  let kind := fieldAt msg 16 2
  let n := fieldAt msg 18 2
  let moves := (List.range (fieldAt msg 20 2)).map fun i => (fieldAt msg (22 + 4 * i) 2, fieldAt msg (24 + 4 * i) 2)
  if kind == 1 && n == 1 && moves.any (fun m => s.lostDecPipes.contains m.2) then s.enterFaulted 7
  else if kind ≤ 1 then s.setRung n (kind == 1) moves
  else if kind ≤ 3 then s.parkSession (kind == 3) n
  else if kind == 4 then ((s.setFld (Reg.DEC_PIPE_STAT_EN n) 0).applyDecPlaces (placedBy moves s.decTable)).followCheck
  else if kind == 5 then ((s.setFld (Reg.ENC_PIPE_STAT_EN n) 0).applyEncPlaces (placedBy moves s.encTable)).followCheck
  else if kind == 6 then (s.applyDecPlaces (placedBy moves s.decTable)).followCheck
  else (s.applyEncPlaces (placedBy moves s.encTable)).followCheck

/-- The POL_CFG body in force. -/
def State.polCfg (s : State) : List Byte :=
  let p := s.pol
  pack [(1, p.rungEn), (1, p.margin), (1, p.enterWin), (1, p.releaseS), (1, p.capPct), (3, 0)]

/-- The checks of POL_CFG in the order of R393 step 8, each as (it fails, status, DETAIL). -/
def chkPolCfg (r : Req) (_s : State) : List (Bool × Nat × Nat) :=
  let en := r.u8 16
  [(r.part != 1, stPartition, noField), (!bitAt en 0 || !bitAt en 4 || 32 ≤ en, stInvalid, 16), (!within 5 20 (r.u8 17), stInvalid, 17),
    (!within 1 10 (r.u8 18), stInvalid, 18), (!within 1 60 (r.u8 19), stInvalid, 19), (!within 25 90 (r.u8 20), stInvalid, 20),
    (r.u8 21 != 0 || r.u16 22 != 0, stInvalid, 21)]

/-- POL_CFG. Rungs in force that are no longer enabled are released at once. -/
def cmdPolCfg (r : Req) (s : State) : State × Resp :=
  let en := r.u8 16
  s.refuseOr (chkPolCfg r s)
    (let s1 := s.setPol { s.pol with rungEn := en, margin := r.u8 17, enterWin := r.u8 18, releaseS := r.u8 19, capPct := r.u8 20 }
     let s2 := if s1.rung 3 && bitAt en 2 then s1.capEncs (some s1.pol.capPct) else s1
     (([5, 4, 3, 2, 1].filter fun k => s2.rung k && !bitAt en (k - 1)).foldl (fun t k => t.moveRung k false []) s2, .ok []))

/-- POL_CFG, as R432 has it. -/
def execPolCfg (dt : Nat) (m : Fin 8) (s : State) : Host.Outcome State Fault Refusal :=
  .next ((s.pass dt).lcs m.val 0x0D01 cmdPolCfg)

/-- POL_QUERY. -/
def cmdPolQuery (_ : Req) (s : State) : State × Resp :=
  let dec := maskOf (s.openDecs.filter fun n => (s.dec n).parked)
  let enc := maskOf (s.openEncs.filter fun n => (s.enc n).parked)
  (s, .ok (pack [(1, s.pol.rungs), (1, s.degrade), (2, s.pol.pressure), (2, ofInt 16 s.hottest), (2, 0), (16, dec), (4, enc), (4, s.pol.forced)] ++
    s.polCfg))

/-- POL_QUERY, as R432 has it. -/
def execPolQuery (dt : Nat) (m : Fin 8) (s : State) : Host.Outcome State Fault Refusal :=
  .next ((s.pass dt).lcs m.val 0x0D02 cmdPolQuery)

/-- POL_MEASURE. -/
def cmdPolMeasure (_ : Req) (s : State) : State × Resp := (s, .ok (leBytes 4 s.pol.window ++ padTo 64 s.pol.measure))

/-- POL_MEASURE, as R432 has it. -/
def execPolMeasure (dt : Nat) (m : Fin 8) (s : State) : Host.Outcome State Fault Refusal :=
  .next ((s.pass dt).lcs m.val 0x0D03 cmdPolMeasure)

end Sys2Proof.Machine
end

