-- ==== Sys2Proof/Machine/Strip.lean ====
section
/-! DEFINITION. The control strip: scans, baselines, touches, controls, the wake gesture (spec/20_control_strip.md). -/

namespace Sys2Proof.Machine

open Sys2Proof

def State.setStrip (s : State) (x : StripSt) : State := { s with strip := x }
def State.node (s : State) (n : Nat) : StripNode := sparseGet {} s.strip.nodes n
def State.setNode (s : State) (n : Nat) (x : StripNode) : State := s.setStrip { s.strip with nodes := sparsePut {} s.strip.nodes n x }
def State.ctl (s : State) (c : Nat) : StripCtl := sparseGet {} s.strip.ctls c
def State.setCtl (s : State) (c : Nat) (x : StripCtl) : State := s.setStrip { s.strip with ctls := sparsePut {} s.strip.ctls c x }

/-! ### Nodes (R526, R527) -/

/-- Whether node `n` = 12 d + s is used. -/
def State.nodeUsed (s : State) (n : Nat) : Bool := n < 144 && bitAt s.strip.drv (n / 12) && bitAt s.strip.sns (n % 12)

/-- The used nodes, in order. -/
def State.usedNodes (s : State) : List Nat := (List.range 144).filter s.nodeUsed

/-- RAW for a mutual capacitance in 10^-18 F: whole balance packets of 0.25 pF, saturating (R527). DEDUCED, unsafe (log 132). -/
def rawOf (pulses cm : Nat) : Nat := min 65535 (pulses * cm / 250000)

def State.nodeRaw (s : State) (n : Nat) : Nat := s.fld (Reg.STRIP_NODE_VAL_RAW n)
def State.nodeBase (s : State) (n : Nat) : Nat := s.fld (Reg.STRIP_NODE_VAL_BASELINE n)
def State.nodeTouched (s : State) (n : Nat) : Bool := s.isSet (Reg.STRIP_NODE_STAT_TOUCHED n)

/-- A node's delta. -/
def State.nodeDelta (s : State) (n : Nat) : Int := (s.nodeBase n : Int) - s.nodeRaw n

/-- DELTA shows it, saturated. -/
def State.showDelta (s : State) (n : Nat) : State :=
  s.setFld (Reg.STRIP_NODE_STAT_DELTA n) (ofInt 16 (max (-32768) (min 32767 (s.nodeDelta n))))

def State.setBase (s : State) (n v : Nat) : State := (s.setFld (Reg.STRIP_NODE_VAL_BASELINE n) v).showDelta n

/-- Its used neighbours in the matrix. -/
def State.neighbours (s : State) (n : Nat) : List Nat :=
  let d := n / 12
  let c := n % 12
  ((if d == 0 then [] else [n - 12]) ++ (if d == 11 then [] else [n + 12]) ++ (if c == 0 then [] else [n - 1]) ++
    (if c == 11 then [] else [n + 1])).filter s.nodeUsed

/-! ### Controls (R533) -/

/-- The nodes of control `c`, in order. -/
def State.ctlNodes (s : State) (c : Nat) : List Nat :=
  if s.fld (Reg.STRIP_CTL_CFG_KIND c) == 0 then []
  else
    let first := s.fld (Reg.STRIP_CTL_CFG_FIRST c)
    (List.range (s.fld (Reg.STRIP_CTL_CFG_COUNT c) + 1)).map fun i =>
      bitsAt (s.rd (Reg.STRIP_NODE_LIST ((first + i) / 4))) (8 * ((first + i) % 4) + 7) (8 * ((first + i) % 4))

/-- The control a node belongs to. -/
def State.ctlOf (s : State) (n : Nat) : Option Nat := (List.range 16).find? fun c => (s.ctlNodes c).contains n

/-- POSITION from the deltas of a control's nodes. DESIGN CHOICE, safe (log 133). -/
def position (wheel : Bool) (d : List Nat) : Nat :=
  let n := d.length
  let top := d.foldl max 0
  let k := (d.takeWhile fun x => x != top).length
  let a := if 0 < k then d.getD (k - 1) 0 else if wheel then d.getD (n - 1) 0 else 0
  let c := if k + 1 < n then d.getD (k + 1) 0 else if wheel then d.getD 0 0 else 0
  let sum := a + top + c
  let move : Int := if sum == 0 then Config.stripQuotient else Int.tdiv (256 * ((c : Int) - a)) sum
  let pos : Int := k * 256 + move
  if wheel then ((pos + 256 * n) % (256 * n)).toNat else (max 0 (min (256 * ((n : Int) - 1)) pos)).toNat

/-- STRIP_TOUCH. -/
def State.touchNotice (s : State) (c event : Nat) : State :=
  let p := s.fld (Reg.STRIP_CTL_STATE_POSITION c)
  (s.setCtl c { s.ctl c with said := p }).notice 0x1201 c [0] (pack [(1, c), (1, event), (2, p)])

/-- The distance and direction (1 up, 2 down) of a movement; on a wheel the shorter way round. DESIGN CHOICE, safe (log 133). -/
def movement (wheel : Bool) (range old new : Nat) : Nat × Nat :=
  if old == new then (0, 0)
  else
    let up := if old ≤ new then new - old else new + range - old
    if wheel then (if 2 * up ≤ range then (up, 1) else (range - up, 2)) else if old < new then (new - old, 1) else (old - new, 2)

/-- A control after a scan: TOUCHED and POSITION, STRIP_TOUCH, the movement of this touch. A touch that ended stuck is no gesture. -/
def State.settleCtl (s : State) (c : Nat) : State :=
  let nodes := s.ctlNodes c
  let kind := s.fld (Reg.STRIP_CTL_CFG_KIND c)
  let was := s.isSet (Reg.STRIP_CTL_STATE_TOUCHED c)
  let now := nodes.any s.nodeTouched
  if !now then
    if was then ((s.setFld (Reg.STRIP_CTL_STATE_TOUCHED c) 0).setCtl c { said := (s.ctl c).said }).touchNotice c 0 else s
  else
    let p := if kind == 1 then 0 else position (kind == 3) (nodes.map fun n => (s.nodeDelta n).toNat)
    let s1 := (s.setFld (Reg.STRIP_CTL_STATE_TOUCHED c) 1).setFld (Reg.STRIP_CTL_STATE_POSITION c) p
    let x := s1.ctl c
    if !was then (s1.setCtl c { x with since := some s.tick, last := p, dir := 0, travel := 0, straight := true, done := false }).touchNotice c 1
    else
      let range := 256 * (if kind == 3 then nodes.length else nodes.length - 1)
      let (far, dir) := movement (kind == 3) range x.last p
      let ok := x.straight && (dir == 0 || x.dir == 0 || dir == x.dir)
      let s2 := s1.setCtl c { x with last := p, dir := if dir == 0 then x.dir else dir, travel := x.travel + far, straight := ok }
      if 32 ≤ max p x.said - min p x.said then s2.touchNotice c 2 else s2

/-- STRIP_STATUS[TOUCHED] follows the controls. -/
def State.showTouched (s : State) : State :=
  s.setFld Reg.STRIP_STATUS_TOUCHED (maskOf ((List.range 16).filter fun c => s.isSet (Reg.STRIP_CTL_STATE_TOUCHED c)))

def State.settleCtls (s : State) : State := ((List.range 16).foldl (fun t c => t.settleCtl c) s).showTouched

/-! ### Per-node rules (R529, R532) -/

/-- A node's touch ended. -/
def State.endTouch (s : State) (n : Nat) : State :=
  (s.setFld (Reg.STRIP_NODE_STAT_TOUCHED n) 0).setNode n { s.node n with down := 0, up := 0, guard := none, drift := 0 }

/-- Orders 1 and 2: the touch is stuck. Cause 0 max-on, 1 drift. -/
def State.stuck (s : State) (n cause : Nat) : State :=
  let ms := (s.tick - (s.node n).since) / ticksPerMs
  let s1 := (s.setBase n (s.nodeRaw n)).endTouch n
  let s2 := (s1.setNode n { s1.node n with barred := true, anti := 0, antiSum := 0 }).setFld (Reg.STRIP_NODE_STAT_STUCK n) 1
  let s3 := (s2.raise Reg.STRIP_EVT_STUCK).bump Reg.STRIP_CNT_STUCK
  let s4 := match s3.ctlOf n with
    | some c => s3.setCtl c { s3.ctl c with done := true }
    | none => s3
  s4.notice 0x1202 ((s4.ctlOf n).getD (0x100 + n)) [0] (pack [(1, n), (1, cause), (2, 0), (4, ms)])

/-- Whether the neighbours still untouched differ from M0 by more than DRIFT_THRESH now. -/
def State.drifts (s : State) (n : Nat) : Bool :=
  match (s.node n).guard with
  | none => false
  | some (sum, l) =>
    let left := l.filter fun m => !s.nodeTouched m
    let now := (left.map s.nodeRaw).sum
    let a := now * l.length
    let b := sum * left.length
    !left.isEmpty && s.fld Reg.STRIP_THRESH_DRIFT * (l.length * left.length) < max a b - min a b

/-- Orders 1 and 2. -/
def State.nodeStuck (s : State) (n : Nat) : State :=
  let maxOn := s.fld Reg.STRIP_TIMING_MAX_ON_S
  if !s.nodeTouched n then s
  else if maxOn != 0 then (if s.since (s.node n).since (maxOn * ticksPerS) then s.stuck n 0 else s)
  else
    let d := if s.drifts n then (s.node n).drift + 1 else 0
    let s1 := s.setNode n { s.node n with drift := d }
    if 16 ≤ d then s1.stuck n 1 else s1

/-- Order 3. -/
def State.nodeAnti (s : State) (n : Nat) : State :=
  let x := s.node n
  if s.nodeTouched n then s
  else if s.nodeDelta n ≤ -(s.fld Reg.STRIP_THRESH_ANTI : Int) then
    let k := x.anti + 1
    let sum := x.antiSum + s.nodeRaw n
    if s.fld Reg.STRIP_TIMING_ANTI_SCANS ≤ k then
      (((s.setNode n { x with anti := 0, antiSum := 0, down := 0, up := 0 }).setBase n (sum / k)).bump Reg.STRIP_CNT_ANTI).raise Reg.STRIP_EVT_ANTI
    else s.setNode n { x with anti := k, antiSum := sum }
  else s.setNode n { x with anti := 0, antiSum := 0 }

/-- A node whose touch ended stuck may begin a new one once its delta has fallen below TOUCH_THRESH − HYST. -/
def State.unbar (s : State) (n : Nat) : State :=
  let x := s.node n
  if x.barred && s.nodeDelta n < (s.fld Reg.STRIP_THRESH_TOUCH : Int) - s.fld Reg.STRIP_THRESH_HYST then
    (s.setNode n { x with barred := false }).setFld (Reg.STRIP_NODE_STAT_STUCK n) 0
  else s

/-- Order 4. -/
def State.nodeBegin (s : State) (n : Nat) : State :=
  let x := s.node n
  if s.nodeTouched n then s
  else if !x.barred && (s.fld Reg.STRIP_THRESH_TOUCH : Int) ≤ s.nodeDelta n then
    if s.fld Reg.STRIP_TIMING_DEBOUNCE ≤ x.down + 1 then
      let l := (s.neighbours n).filter fun m => !s.nodeTouched m
      let g := if l.isEmpty then none else some ((l.map s.nodeRaw).sum, l)
      (s.setNode n { x with down := 0, up := 0, since := s.tick, guard := g, drift := 0 }).setFld (Reg.STRIP_NODE_STAT_TOUCHED n) 1
    else s.setNode n { x with down := x.down + 1 }
  else s.setNode n { x with down := 0 }

/-- Order 5. -/
def State.nodeEnd (s : State) (n : Nat) : State :=
  let x := s.node n
  if !s.nodeTouched n then s
  else if s.nodeDelta n < (s.fld Reg.STRIP_THRESH_TOUCH : Int) - s.fld Reg.STRIP_THRESH_HYST then
    if s.fld Reg.STRIP_TIMING_DEBOUNCE ≤ x.up + 1 then s.endTouch n else s.setNode n { x with up := x.up + 1 }
  else s.setNode n { x with up := 0 }

/-- Order 6. -/
def State.nodeTrack (s : State) (n : Nat) : State :=
  let x := s.node n
  let busy := match s.ctlOf n with
    | some c => (s.ctlNodes c).any s.nodeTouched
    | none => false
  if s.nodeTouched n || busy || (s.fld Reg.STRIP_THRESH_TOUCH : Int) ≤ (s.nodeDelta n).natAbs then s
  else if s.fld Reg.STRIP_SCAN_TRACK_SCANS ≤ x.track + 1 then
    let b := s.nodeBase n
    let r := s.nodeRaw n
    (s.setNode n { x with track := 0 }).setBase n (if b < r then b + 1 else if r < b then b - 1 else b)
  else s.setNode n { x with track := x.track + 1 }

/-- The rules on one node, or its part of a baselining (R530, R531). DEDUCED, unsafe (log 132). -/
def State.nodeRules (s : State) (n : Nat) : State :=
  let x := s.node n
  if x.baseLeft == 0 then
    ((((((s.showDelta n).unbar n).nodeStuck n).nodeAnti n).nodeBegin n).nodeEnd n).nodeTrack n
  else
    let sum := x.baseSum + s.nodeRaw n
    if x.baseLeft == 1 then (s.setNode n {}).setBase n (sum / 16)
    else s.setNode n { x with baseLeft := x.baseLeft - 1, baseSum := sum }

/-- Baselining begins for nodes `l`; their touches end. -/
def State.rebaseline (s : State) (l : List Nat) : State :=
  (l.filter s.nodeUsed).foldl (fun t n =>
    (t.setFld (Reg.STRIP_NODE_STAT n |> fun a => ⟨a, 31, 30⟩) 0).setNode n { baseLeft := 16 }) s

/-- The strip of a cold start (R530): the masks of the board table; OFF when both are zero. -/
def State.startStrip (s : State) (drv sns : Nat) : State :=
  let s1 := s.setStrip { drv := drv % 4096, sns := sns % 4096 }
  let off := drv % 4096 == 0 && sns % 4096 == 0
  (s1.setFld Reg.STRIP_STATUS_OFF (ofBool off)).rebaseline s1.usedNodes

/-- Whether every used node has its baseline. -/
def State.stripBased (s : State) : Bool := s.usedNodes.all fun n => (s.node n).baseLeft == 0

/-! ### The wake gesture (R534) -/

/-- Whether control `c`, as it stands after a scan, has made the gesture. -/
def State.gestureMade (s : State) (c : Nat) : Bool :=
  let x := s.ctl c
  let ms := s.fld Reg.STRIP_WAKE_CFG_WAKE_MS * ticksPerMs
  match x.since with
  | none => false
  | some t =>
    if x.done || !s.isSet (Reg.STRIP_CTL_STATE_TOUCHED c) then false
    else if !s.isSet Reg.STRIP_WAKE_CFG_GESTURE then s.since t ms
    else
      let kind := s.fld (Reg.STRIP_CTL_CFG_KIND c)
      let n := (s.ctlNodes c).length
      let range := 256 * (if kind == 3 then n else n - 1)
      2 ≤ kind && x.straight && 3 * range ≤ 4 * x.travel && s.tick ≤ t + ms

/-- The gesture recognised: STRIP_WAKE, once in a touch. The answer says whether it was. -/
def State.judgeGesture (s : State) : Bool × State :=
  let c := s.fld Reg.STRIP_WAKE_CFG_CONTROL
  if s.isSet Reg.STRIP_WAKE_CFG_EN && s.gestureMade c then
    let s1 := (s.setCtl c { s.ctl c with done := true }).raise Reg.STRIP_EVT_WAKE
    (true, s1.notice 0x1203 c [0] (pack [(1, c), (1, s.fld Reg.STRIP_WAKE_CFG_GESTURE), (1, s.fld Reg.SYS_PWR_STATE), (1, 0)]))
  else (false, s)

/-! ### A scan (R527, R528) -/

/-- Whether the device is in a state in which only the wake control is scanned. -/
def State.stripAsleep (s : State) : Bool := s.sys.deep || s.fld Reg.SYS_PWR_STATE == 2

/-- The nodes that a scan measures. -/
def State.scanNodes (s : State) : List Nat :=
  if s.stripAsleep then
    let lines := (s.ctlNodes (s.fld Reg.STRIP_WAKE_CFG_CONTROL)).map fun n => n / 12
    s.usedNodes.filter fun n => lines.contains (n / 12)
  else s.usedNodes

/-- Whether a scan is due. -/
def State.scanDue (s : State) : Bool :=
  let every := if s.stripAsleep then 100 else s.fld Reg.STRIP_SCAN_PERIOD_MS
  !s.isSet Reg.STRIP_STATUS_OFF && !s.isSet Reg.STRIP_STATUS_STOPPED && !s.usedNodes.isEmpty && s.fld Reg.SYS_PWR_STATE != 4 &&
    match s.strip.scanAt with
    | none => true
    | some t => s.since t (every * ticksPerMs)

/-- One scan: `cm` are the mutual capacitances of the nodes in 10^-18 F. The answer says whether the wake gesture was recognised. DEDUCED, unsafe (log 132). -/
def State.stripScan (s : State) (cm : List Nat) : Bool × State :=
  let nodes := s.scanNodes
  let pulses := s.fld Reg.STRIP_SCAN_PULSES
  let s1 := (s.setStrip { s.strip with scanAt := some s.tick }).bumpWrap Reg.STRIP_CNT_SCANS
  let s2 := nodes.foldl (fun t n => t.setFld (Reg.STRIP_NODE_VAL_RAW n) (rawOf pulses (cm.getD n 0))) s1
  let s3 := (nodes.foldl (fun t n => t.nodeRules n) s2).settleCtls
  (if s3.stripBased then s3.setFld Reg.STRIP_STATUS_READY 1 else s3).judgeGesture

/-- The strip stopped by a LASTING always-on queue reset (R535). -/
def State.stopStrip (s : State) : State :=
  let s1 := (s.setFld Reg.STRIP_STATUS_STOPPED 1).setFld Reg.STRIP_STATUS_TOUCHED 0
  (List.range 16).foldl (fun t c => t.setFld (Reg.STRIP_CTL_STATE_TOUCHED c) 0) s1

/-- The latest state of every control sent again (R535). -/
def State.resendStrip (s : State) : State :=
  ((List.range 16).filter fun c => s.fld (Reg.STRIP_CTL_CFG_KIND c) != 0).foldl (fun t c =>
    t.touchNotice c (t.fld (Reg.STRIP_CTL_STATE_TOUCHED c))) s

end Sys2Proof.Machine
end

