-- ==== Sys2Proof/Machine/Start.lean ====
section
/-! DEFINITION. Start-up, warm start, retention and deep standby (spec/19_startup.md): what a reset keeps, the images and their
judgement, the effect of each start-up step. -/

namespace Sys2Proof.Machine

open Sys2Proof

/-- The step in progress (R509). -/
def State.startStep (s : State) : Nat := s.fld Reg.SYS_START_STAT_STEP

/-! ### Cold starts (R507, R508, R519, R522) -/

/-- Input levels and straps that outlast a cold start. -/
def State.keepPins (t s : State) : State :=
  let p := Reg.PAIR_PINS
  let t1 := ((t.wr Reg.SYS_STRAPS (s.rd Reg.SYS_STRAPS)).setFld Reg.PAIR_STATUS_SIDE (s.fld Reg.PAIR_STATUS_SIDE)).setFld Reg.PAIR_STATUS_ILK
    (s.fld Reg.PAIR_STATUS_ILK)
  let t2 := t1.wr p (withBits (withBits (withBits (t1.rd p) 6 6 (bitsAt (s.rd p) 6 6)) 4 4 (bitsAt (s.rd p) 4 4)) 2 2 (bitsAt (s.rd p) 2 2))
  t2.setSys { t2.sys with pfLow := s.sys.pfLow, perstLow := s.sys.perstLow, strapBoot := s.sys.strapBoot, startAt := s.tick }

/-- The device at step 1 of a cold start: nothing is kept but what lies outside it, its pins and straps. -/
def State.coldState (s : State) (cause : Nat) : State :=
  let t : State := { State.reset with pending := s.pending, tick := s.tick, fresh := s.fresh, hostMem := s.hostMem, flash := s.flash,
                                      emitted := s.emitted, blz := { State.reset.blz with chip := s.blz.chip } }
  (t.keepPins s).setFld Reg.SYS_START_STAT_CAUSE cause

/-! ### Warm starts (R8, R513, R514) -/

/-- Whether the register at `a` is the index or level register of a ring that stays open (R8, R514). -/
def State.openRingReg (s : State) (a : Nat) : Bool :=
  ((List.range 64).any fun n => a == Reg.LDG_CRING_PROD n && s.isSet (Reg.LDG_CRING_CFG_OPEN n)) ||
    ((List.range 32).any fun n => (a == Reg.CNP_CRING_PROD n && s.isSet (Reg.CNP_CRING_CFG_OPEN n)) ||
      (a == Reg.ENC_SES_RING_CONS n && s.isSet (Reg.ENC_SES_CTRL_OPEN n))) ||
    (List.range 8).any fun n => (a == Reg.MBX_NRING_CONS n || a == Reg.MBX_NRING_LEVEL n) && s.isSet (Reg.MBX_NRING_CFG_OPEN n)

/-- Whether a register keeps its RW and W1C fields across a warm start: the indices and levels of open rings (R8), the start registers and those
of R551 (R523), the time unit's but for its counters and TIM_STAT (R291), Firebreak's (R452), Blaze's counters (R504), and HLT_STATUS (R481).
DEDUCED, unsafe (log 109). -/
def State.keptAtWarm (s : State) (a : Nat) : Bool :=
  within 0x000040 0x00006F a || within 0x030000 0x03007F a || within 0x040000 0x04FFFF a || within 0x060040 0x06005F a || a == Reg.HLT_STATUS ||
    s.openRingReg a

/-- The bits of the register at `a` of type RWS that `rwMask` lists beside the RW bits: HLT_CTRL, and of each check-value unit the configuration,
POLY, INIT and XOROUT (R481, R482). They keep their values at a warm start (R8). -/
def rwsBits (a : Nat) : Nat :=
  if a == Reg.HLT_CTRL then 2 ^ 32 - 1
  else if within 0x050000 0x0503FF a && a % 0x100 ≤ 0x18 then (if a % 0x100 == 0 then 0x7F8C00 else 2 ^ 32 - 1)
  else 0

/-- The bits of a register that a warm start returns to reset. A DONE that the mailbox hardware sets at that very instant (R386) is not among them.
DEDUCED, unsafe (log 109). -/
def State.warmMask (s : State) (a : Nat) : Word :=
  if s.keptAtWarm a then 0
  else
    let m := (BitVec.ofNat 32 (rwMask a) &&& ~~~(BitVec.ofNat 32 (rwsBits a))) ||| BitVec.ofNat 32 (w1cMask a)
    if (List.range 8).any fun n => a == Reg.MBX_CMPL n then m &&& ~~~(BitVec.ofNat 32 (s.raisedBits a)) else m

/-- RW and W1C fields return to their reset values. -/
def State.warmRegisters (s : State) : State :=
  s.regs.foldl (fun t p =>
    let m := s.warmMask p.1
    t.wr p.1 (((p.2 &&& ~~~m) ||| (BitVec.ofNat 32 (resetWord p.1) &&& m)).toNat)) s

/-- The whole-output clearing of R459 becomes one held until READY (R514); what R429 holds ends. -/
def State.warmHolds (s : State) : State :=
  let s1 := (List.range 32).foldl (fun t n =>
    let h := (t.gateOut n).holds
    if h == 0 then t
    else
      let h1 := if bitAt h 1 then withBits (withBits h 1 1 0) 2 2 1 else h
      let t1 := t.setGate n { t.gateOut n with holds := withBits h1 4 4 0 }
      if bitAt h 4 then t1.setFld (Reg.GATE_OUT_CFG_FORCE_VOID n) 0 else t1) s
  s1.setPol { s1.pol with forced := 0 }

/-- What the start of a warm start and of a retention exit have in common. -/
def State.warmCommon (s : State) (cause step form : Nat) : State :=
  let s1 := ((s.restartBegins 6).cvuStopAll).warmRegisters.warmHolds
  let s2 := (s1.setFld Reg.HLT_STATUS_FATAL 0).setFld Reg.HLT_STATUS_FATAL_CAUSE 0
  let s3 := ((s2.setFld Reg.SYS_START_STAT_CAUSE cause).setFld Reg.SYS_START_STAT_STEP step).bumpWrap Reg.SYS_CNT_WARM
  s3.setSys { s3.sys with startAt := s.tick, form := form, warmDue := none, powerDue := none }

/-- A warm start begins (R514). In recovery mode step 5 runs in its cold form (R518). A FAULTED device resumes at FINDING (R337). An ordered
power state that has not been entered is given up. DEDUCED, unsafe (log 214). -/
def State.beginWarm (s : State) (cause : Nat) : State :=
  let s1 := (s.warmCommon cause 5 (if s.isSet Reg.SYS_START_STAT_RECOVERY then 0 else 1)).setFld Reg.SYS_PWR_STATE 0
  if s1.role == roFaulted && s1.pairPresent && !s.isSet Reg.SYS_START_STAT_RECOVERY then
    (s1.setPair { s1.pair with startedAt := some s1.tick }).setRole roBlind phFinding 1
  else s1

/-- Why a warm start is refused (R513). DEDUCED, unsafe (log 214). -/
def State.warmRefused (s : State) : Bool :=
  !s.isSet Reg.SYS_START_STAT_COLD_DONE || s.startStep != 0 || (s.isSet Reg.HLT_STATUS_FATAL && within 1 3 (s.fld Reg.HLT_STATUS_FATAL_CAUSE)) ||
    s.fld Reg.SYS_PWR_STATE == 4

/-! ### Power states (R519 to R522) -/

/-- SYS_POWER notice (R525). -/
def State.powerNotice (s : State) : State :=
  s.notice 0x1103 0 [0xFFFF] (pack [(1, s.fld Reg.SYS_PWR_STATE), (1, s.fld Reg.SYS_PWR_WAKE_SRC), (2, 0)]) true

/-- Both heartbeat paths stop, OUT_OWN and ILK_OUT_N are released (R339, R520, R522). -/
def State.leavePair (s : State) : State := ((s.setOwn false).dropClaim).setFld Reg.PAIR_PINS_HB_OUT 0

/-- Every lane OFF and both packet ports down. DEDUCED, unsafe (log 26). -/
def State.linksOff (s : State) : State :=
  let s1 := (List.range 52).foldl (fun t i =>
    if t.laneState i != lsOff || t.isSet (Reg.KLN_STAT_POWERED i) then t.laneTo i lsOff 1 else t) s
  ((s1.portLink 0 false).portLink 1 false).setFld Reg.PKT_STATUS_READY 0

/-- Blaze flushed completely before a power state (R520), where it may flush. DEDUCED, unsafe (log 215). -/
def State.flushForSleep (s : State) : State := if s.blzMayFlush then s.blzFlushAll else s

/-- RETENTION is entered. -/
def State.enterRetention (s : State) : State :=
  let s1 := ((s.flushForSleep.leavePair).setFld Reg.PAIR_STATUS_READY 0).linksOff
  let s2 := ((s1.rangerStop false).cancelInjection).setFld Reg.LDG_STATUS_READY 0
  let s3 := (((s2.setFld Reg.MEM_STATUS_READY0 0).setFld Reg.MEM_STATUS_READY1 0).setFld Reg.MEM_STATUS_PD0 2).setFld Reg.MEM_STATUS_PD1 2
  let s4 := ((s3.setFld Reg.PAIR_STATUS_ROLE roBlind).setFld Reg.PAIR_STATUS_PHASE phFinding).setFld Reg.SYS_PWR_STATE 2
  (s4.setPair {}).setSys { s4.sys with powerDue := none }

/-- DEEP is entered: only the always-on domain, with the strip, is kept. -/
def State.enterDeep (s : State) : State :=
  let t := (s.flushForSleep.leavePair).coldState 5
  let strip (a : Nat) : Bool := within 0x070000 0x07FFFF a
  let t1 := (s.regs.filter fun p => strip p.1).foldl (fun t p => t.wr p.1 p.2.toNat) t
  { t1 with strip := s.strip, sys := { t1.sys with deep := true } }

/-- Deep standby is left (R519): a cold start with cause 5. -/
def State.leaveDeep (s : State) : State := s.coldState 5

/-- RETENTION is left (R521). DEDUCED, unsafe (log 117). -/
def State.wake (s : State) (src : Nat) : State :=
  let s1 := s.warmCommon 4 1 2
  ((s1.setFld Reg.SYS_PWR_STATE 3).setFld Reg.SYS_PWR_WAKE_SRC src).powerNotice

/-- The strip's wake gesture or WARM_N in a power state. DEDUCED, unsafe (log 117). -/
def State.wakeFrom (s : State) (src : Nat) : State :=
  if s.sys.deep then s.leaveDeep else if s.fld Reg.SYS_PWR_STATE == 2 then s.wake src else s

/-! ### Images (R515 to R517) -/

/-- An erased byte of the flash. PRESUMED, unsafe (log 6). -/
def flashErased : Byte := 0xFF

def State.flashBytes (s : State) (a n : Nat) : List Byte := sparseRange flashErased s.flash a n

/-- Where an item of a slot begins (item 1 board table, 2 firmware), and its space. -/
def itemBase (slot item : Nat) : Nat := slot * 0x2000000 + (if item == 2 then 0x100000 else 0)
def itemMax (item : Nat) : Nat := if item == 2 then 0x1F00000 else 0x100000

/-- An item read: header, payload, trailer. -/
structure Image where
  header : List Byte
  payload : List Byte
  trailer : List Byte

/-- The payload's length as the header gives it. -/
def Image.length (i : Image) : Nat := fieldAt i.header 16 4

/-- The item of `base` bytes on, as `get` reads it. -/
def readImage (item base : Nat) (get : Nat → Nat → List Byte) : Image :=
  let h := get base 256
  let n := min (fieldAt h 16 4) (itemMax item)
  { header := h, payload := get (base + 256) n, trailer := get (base + 256 + alignUp n 64) 16 }

/-- The whole bytes of an item of the length its header gives. -/
def imageBytes (header : List Byte) (item base : Nat) (get : Nat → Nat → List Byte) : List Byte :=
  get base (272 + alignUp (min (fieldAt header 16 4) (itemMax item)) 64)

/-- Check 1. -/
def Image.headerOk (i : Image) (item : Nat) : Bool :=
  let magic := if item == 2 then 0x5A4C4657 else 0x5A4C4254
  fieldAt i.header 0 4 == magic && fieldAt i.header 4 2 == item && fieldAt i.header 6 2 == 1 && within 64 (itemMax item - 272) i.length &&
    fieldAt i.trailer 4 4 == 2 ^ 32 - 1 - magic && fieldAt i.trailer 8 4 == i.length && fieldAt i.header 24 8 == 0 &&
    fieldAt i.header 224 32 == 0 && fieldAt i.trailer 12 4 == 0

/-- The computed CRC and its two copies (R473). -/
def Image.copies (i : Image) : Nat × Nat × Nat := (crc32c i.payload, fieldAt i.header 20 4, fieldAt i.trailer 0 4)

/-- Checks 3 to 5 on the image in use, whose check 2 gave `v`. DESIGN CHOICE, safe (log 17). -/
def Image.authentic (i : Image) (item v : Nat) (keyHash : List Byte) : Nat :=
  let key := (i.header.drop 32).take 96
  let sig := (i.header.drop 128).take 96
  if Config.sha384 key != keyHash then 6
  else if !Config.signed key sig (Config.sha384 (i.header.take 20 ++ (i.header.drop 24).take 104 ++ i.payload)) then 7
  else if item == 1 && !Config.boardOk i.payload then 8
  else v

/-- The verdict of an item and what the two-copy check made of it (0 good, 1 good on the re-read, 2 damaged, 3 corrupt). DESIGN CHOICE, safe (log 17). DEDUCED, unsafe (log 115). -/
def judgeImage (item : Nat) (keyHash : List Byte) (first again : Image) : Nat × Nat :=
  if !first.headerOk item then (4, 0)
  else
    let c := judgeCopies first.copies again.copies
    if c == 0 then (first.authentic item 1 keyHash, 0)
    else if c == 3 then (5, 3)
    else if !again.headerOk item then (4, c)
    else (again.authentic item (if c == 1 then 3 else 2) keyHash, c)

def imageGood (v : Nat) : Bool := within 1 3 v

/-- The field of SYS_IMG_STAT of an item. -/
def imgField (slot item : Nat) : Fld := ⟨Reg.SYS_IMG_STAT, 8 * slot + 4 * (item - 1) + 3, 8 * slot + 4 * (item - 1)⟩

/-- The first read of an item, with what it shows altered. -/
def firstRead (altered : List (Nat × Nat × Nat)) (slot item : Nat) (get : Nat → Nat → List Byte) : Nat → Nat → List Byte :=
  fun a n => (get a n).mapIdx fun i b =>
    match altered.find? fun x => x.1 == 2 * slot + item - 1 && itemBase slot item + x.2.1 == a + i with
    | some x => b ^^^ BitVec.ofNat 8 x.2.2
    | none => b

/-- An item of the flash judged: its verdict, shown and reported. DEDUCED, unsafe (log 115). -/
def State.judgeItem (s : State) (altered : List (Nat × Nat × Nat)) (slot item : Nat) : Nat × State :=
  let b := itemBase slot item
  let (v, c) := judgeImage item s.sys.keyHash (readImage item b (firstRead altered slot item s.flashBytes)) (readImage item b s.flashBytes)
  let s1 := s.setFld (imgField slot item) v
  (v, if c == 0 then s1 else s1.logFault 0x14 (if c == 1 then 1 else if c == 2 then 0 else 2) 0)

/-- Slots tried in order, until one is usable: it, if any. DEDUCED, unsafe (log 115). -/
def State.trySlots (s : State) (altered : List (Nat × Nat × Nat)) : List Nat → Option Nat × State
  | [] => (none, s)
  | k :: t =>
    let (b, s1) := s.judgeItem altered k 1
    let (f, s2) := s1.judgeItem altered k 2
    if imageGood b && imageGood f then (some k, s2) else s2.trySlots altered t

/-- The order of R508. -/
def slotOrder (boot : Nat) : List Nat := if boot == 0 then [0, 1] else if boot == 1 then [1, 0] else if boot == 3 then [0] else []

/-- Copies in the firmware pool of the board table and the firmware image. -/
def boardCopy : Nat := 0x600000000
def firmwareCopy : Nat := 0x600100000

/-- An item of the flash copied, ahead of the rules of step 7. DEDUCED, unsafe (log 115). -/
def State.copyImage (s : State) (slot item dst : Nat) : State :=
  let b := itemBase slot item
  s.storeMem dst (imageBytes (s.flashBytes b 256) item b s.flashBytes)

/-- The copy of an item read. -/
def State.readCopy (s : State) (item a : Nat) : List Byte × State :=
  let (b, _, t) := s.loadMem a (272 + alignUp (min (fieldAt (s.viewBytes a 256) 16 4) (itemMax item)) 64) []
  (b, t)

/-- The digests of both copies. -/
def State.copyDigests (s : State) : List Byte × State :=
  let (b, t) := s.readCopy 1 boardCopy
  let (f, u) := t.readCopy 2 firmwareCopy
  (Config.sha384 b ++ Config.sha384 f, u)

/-- Identifier and version of the board table of a slot. -/
def State.takeBoard (s : State) (slot : Nat) : State :=
  let h := s.flashBytes (itemBase slot 1) 256
  s.setSys { s.sys with boardId := fieldAt h 12 4, boardVer := fieldAt h 8 4 }

/-! ### The steps (R509) -/

/-- All eight mailboxes bound to partition 1 (R397). DEDUCED, unsafe (log 212). -/
def State.bindAll (s : State) : State := (List.range 8).foldl (fun t m => t.setFld (Reg.MBX_BIND_PARTITION m) 1) s

def State.recovery (s : State) : Bool := s.isSet Reg.SYS_START_STAT_RECOVERY

/-- Both regions that together cover device memory. -/
def coverMemory (s : State) (u k : Nat) (r w : Bool) : State :=
  (s.setFbkRegion u k 0 (regionCfg r w 35)).setFbkRegion u (k + 1) 0x800000000 (regionCfg r w 34)

/-- The host's writes (R561): one region for each grant, or the whole host area in recovery mode. -/
def State.hostRules (s : State) : State :=
  (List.range 40).foldl (fun t k =>
    if s.recovery then
      (if k == 0 then t.setFbkRegion fbkHost 0 0 (regionCfg false true 34)
       else if k == 1 then t.setFbkRegion fbkHost 1 0x400000000 (regionCfg false true 33)
       else t.setFbkRegion fbkHost k 0 8)
    else match s.grants.find? fun g => g.region == k with
      | some g => t.setFbkRegion fbkHost k g.base (regionCfg false true g.log2)
      | none => t.setFbkRegion fbkHost k 0 8) s

/-- A check-value unit's reads: all of device memory for Lysman firmware's own units and in recovery mode, else the host area for the
host's (R399, R467). DESIGN CHOICE, unsafe (log 167). -/
def State.cvuRules (s : State) (n : Nat) : State :=
  if n < 2 || s.recovery then coverMemory s (fbkCvu n) 0 true false
  else (s.setFbkRegion (fbkCvu n) 0 0 (regionCfg true false 34)).setFbkRegion (fbkCvu n) 1 0x400000000 (regionCfg true false 33)

/-- Recovery mode (R518): lanes OFF, ports down, the pair FAULTED and its heartbeats stopped, the whole host area open to writes once rules are loaded (R561). DEDUCED, unsafe (log 109, 212). -/
def State.enterRecovery (s : State) : State :=
  let s1 := ((s.setFld Reg.SYS_START_STAT_RECOVERY 1).setFld Reg.MBX_STATUS_RECOVERY 1).setFld Reg.SYS_START_STAT_SLOT 0xFF
  let s2 := (s1.linksOff.leavePair).setFld Reg.PAIR_STATUS_READY 0
  let s3 := if s.isSet Reg.FBK_STATUS_READY then (s2.hostRules.cvuRules 2).cvuRules 3 else s2
  s3.bindAll.setRole roFaulted phFinding 7

/-- Step 5 in its cold form. -/
def State.loadImages (s : State) (f : StartFacts) : State :=
  let order := slotOrder s.sys.strapBoot
  let s0 := ((s.wr Reg.SYS_IMG_STAT 0).setFld Reg.SYS_START_STAT_FALLBACK 0).setFld Reg.SYS_START_STAT_RECOVERY 0
  match (s0.setFld Reg.MBX_STATUS_RECOVERY 0).trySlots f.altered order with
  | (some k, s1) =>
    let s2 := ((s1.copyImage k 1 boardCopy).copyImage k 2 firmwareCopy).takeBoard k
    let (d, s2) := s2.copyDigests
    let s3 := s2.setSys { s2.sys with digests := d, lanes := f.lanes }
    (s3.setFld Reg.SYS_START_STAT_SLOT k).setFld Reg.SYS_START_STAT_FALLBACK (ofBool (order.head? != some k))
  | (none, s1) =>
    let judged := if order.isEmpty then
        let (b, t) := s1.judgeItem f.altered 0 1
        if imageGood b then t else (t.judgeItem f.altered 1 1).2
      else s1
    let all := if order.isEmpty then [0, 1] else order
    match all.find? fun k => imageGood (judged.fld (imgField k 1)) with
    | some k => (judged.takeBoard k).enterRecovery
    | none => (judged.setSys { judged.sys with boardId := 0, boardVer := 0 }).enterRecovery

/-- Whether the device knows a board table. -/
def State.hasBoard (s : State) : Bool := imageGood (s.fld Reg.SYS_IMG_STAT_BT0) || imageGood (s.fld Reg.SYS_IMG_STAT_BT1)

/-- Step 5: the kept copies re-hashed in the warm form, the cold form otherwise or on a mismatch (R511). DESIGN CHOICE, safe (log 112). -/
def State.stepImages (s : State) (f : StartFacts) : State :=
  if s.sys.form == 0 then s.loadImages f
  else
    let (d, t) := s.copyDigests
    if d == s.sys.digests then t else t.loadImages f

/-- Whether a start performs its steps for the first time since the cold start. The start that leaves recovery mode runs the cold form of every step
(R518) over what R8, R70 and R290 keep. DEDUCED, unsafe (log 235). -/
def State.firstStart (s : State) : Bool := s.sys.form == 0 && !s.isSet Reg.SYS_START_STAT_COLD_DONE

/-- Step 6: Ranger's data areas are zeroed in a cold start, and the mailboxes bound to partition 1 (R397); the version of the firmware image is shown. DESIGN CHOICE, unsafe (log 116). DEDUCED, unsafe (log 212, 235). -/
def State.stepRanger (s : State) : State :=
  let s1 := if s.firstStart then ({ s with mem := s.mem.filter fun c => !within 0xFE00000000 0xFE003FFFFF c.1 } : State).bindAll else s
  s1.wr Reg.MBX_FW_VER (if s.recovery then 0 else s.memNat (firmwareCopy + 8) 4)

/-- Step 7: the rules of Lysman firmware, its locks (R448), the parts of Ranger SRAM that each unit may write (R374), the snapshot lists (R493). DEDUCED, unsafe (log 113). -/
def State.stepRules (s : State) (f : StartFacts) : State :=
  let s1 := coverMemory s.hostRules fbkHost 46 true false
  let s2 := (s1.setFbkRegion fbkRgs 2 0xFE00000000 (regionCfg true true 20 + 2 ^ 28)).setFbkRegion fbkRgs 3 0x600000000
    (regionCfg true true 25 + 2 ^ 28)
  let s3 := ((coverMemory s2 fbkRgs 4 true true).setFbkRegion fbkRgs 0 0xFE00000000 (regionCfg true false 22)).setFbkRegion fbkRgs 6 0xFE00300000
    (regionCfg true true 20)
  let buffer (t : State) (u k : Nat) : State := t.setFbkRegion u k 0xFE01000000 (regionCfg true true 18)
  let s4 := [3, 4].foldl (fun t u =>
    let t1 := (t.setFbkRegion u 0 0xFE00000000 (regionCfg true false 22)).setFbkRegion u 4 0xFE00100000 (regionCfg true true 20)
    buffer (coverMemory (t1.setFbkRegion u 5 0xFE00200000 (regionCfg true true 21)) u 1 true true) u 3) s3
  let s5 := buffer ([fbkPkt, fbkCnp, fbkLdg, fbkLko, fbkBlz, fbkPair].foldl (fun t u => coverMemory t u 0 true true) s4) fbkBlz 2
  (((List.range 4).foldl State.cvuRules s5).setBlz { s5.blz with lists := f.lists, detList := f.detLists, typeList := f.typeLists }).setFld Reg.FBK_STATUS_READY 1

/-- Step 8: the log scan (R498), where a board table gives the chip. -/
def State.stepLog (s : State) (f : StartFacts) : State :=
  if !s.hasBoard then s
  else ((s.setFld Reg.BLZ_LOG_CFG_SIZE_MIB f.logMib).setFld Reg.BLZ_LOG_CFG_HIGH_MIB f.highMib).blzScan

/-- The catch-up lap of a retention exit (R521): every visit of the sweeper, but that a cell whose deadline passed is no fault. DEDUCED, unsafe (log 40). DESIGN CHOICE, unsafe (log 119). -/
def State.catchUp (s : State) : State :=
  let s1 := s.ldg.cells.foldl (fun t p =>
    if p.2.ownerKind == 0 || p.2.ownerKind == 6 then t
    else
      let t1 := t.sweepWrap p.1
      let c := t1.cell p.1
      let t2 := if (c.state == csLive || c.state == csRecovering) && passed t1.now40 c.deadline then t1.settleCell p.1 c.lapse else t1
      ((((t2.sweepBit p.1 0).sweepBit p.1 1).sweepBit p.1 2).sweepBit p.1 3).sweepFile p.1) s
  { s1 with ldg := { s1.ldg with scanned := s1.slotNow, candidates := [] } }

/-- Step 9: the ledger initialised, or caught up with. DEDUCED, unsafe (log 233, 235). -/
def State.stepLedger (s : State) : State :=
  let s1 := if s.sys.form == 2 then s.catchUp
    else if !s.firstStart then s
    else
      let t := ((({ s with ldg := { notify := sparsePut {} [] 1 { base := s.sys.startAt } } } : State).wr64 Reg.LDG_CELLS_BASE_LO Reg.LDG_CELLS_BASE_HI 0x604000000).wr64 Reg.LDG_WHEEL_BASE_LO
        Reg.LDG_WHEEL_BASE_HI 0x608000000)
      (List.range 32).foldl (fun t n => t.wr64 (Reg.GATE_OUT_SPAN_BASE_LO n) (Reg.GATE_OUT_SPAN_BASE_HI n) (0x60C000000 + n * 0x80000)) t
  s1.setFld Reg.LDG_STATUS_READY 1

/-- Step 10: both clocks start from zero in a cold start (R290). DEDUCED, unsafe (log 235). -/
def State.stepTime (s : State) : State :=
  if !s.firstStart then s else ({ s with clk := {}, time := {}, ldg := { s.ldg with scanned := 0 } } : State).setFld Reg.TIM_STATUS_READY 1

/-- Step 11: equalisation, the lanes that R510 powers, the packet ports. -/
def State.stepLanes (s : State) (f : StartFacts) : State :=
  if s.recovery then s
  else
    let present := if s.sys.form == 0 then f.present else s.pairPresent
    let s1 := s.sys.lanes.foldl (fun t p => if p.1 < 54 then t.loadLane p.1 p.2 else t) s
    let s2 := (List.range 16).foldl (fun t i => t.powerLane (capLane i)) s1
    let s3 := if present then s2 else (List.range 32).foldl (fun t i => t.powerLane i) s2
    let s4 := (List.range 2).foldl (fun t p => t.setFld (Reg.PKT_PORT_STAT_RSFEC p) (ofBool (bitAt (t.rd (Reg.KLN_EQ0 (52 + p))) 3))) s3
    let s5 := if s.sys.form == 0 then (List.range 2).foldl (fun t p =>
        t.wr64 (Reg.PKT_PORT_MAC_LO p) (Reg.PKT_PORT_MAC_HI p) (f.macs.getD p 0 % 2 ^ 48)) s4 else s4
    s5.setFld Reg.PKT_STATUS_READY 1

/-- Step 12 is performed in a cold start: a strip without its baselines is not done. -/
def State.stepStripDone (s : State) : Bool := s.isSet Reg.STRIP_STATUS_OFF || s.isSet Reg.STRIP_STATUS_STOPPED || s.stripBased

/-- The pair subsystem starts (R334, R337). -/
def State.startPair (s : State) : State :=
  if s.pairPresent then
    let s1 := (s.setPair { s.pair with startedAt := some s.tick }).setRole roBlind phFinding 1
    (List.range 4).foldl (fun t k => t.powerLane (pairLane k)) (s1.setFld Reg.PAIR_STATUS_READY 1)
  else (((s.setFld Reg.PAIR_STATUS_READY 1).setOwn true).setRole roSolo phFinding 1).settleSends

/-- SYS_START (R525). -/
def State.startNotice (s : State) (ms : Nat) : State :=
  s.notice 0x1101 0 [0xFFFF] (pack [(1, s.fld Reg.SYS_START_STAT_CAUSE), (1, s.fld Reg.SYS_START_STAT_SLOT),
    (1, ofBool s.recovery + 2 * s.fld Reg.SYS_START_STAT_FALLBACK), (1, 0), (4, ms), (4, s.rd Reg.SYS_IMG_STAT)]) true

/-- Step 13: the pair subsystem, READY of every block, READY of Lysman firmware. DESIGN CHOICE, unsafe (log 119). DEDUCED, unsafe (log 235). -/
def State.stepReady (s : State) (f : StartFacts) : State :=
  let cold := s.sys.form == 0
  let s1 := if cold then (s.setFld Reg.PAIR_STATUS_PRESENT (ofBool f.present)).setFld Reg.PAIR_STATUS_DUAL_INPUT (ofBool f.dual) else s
  let s2 := if s.recovery then s1
    else if s.sys.form == 1 then (if s1.pairPresent && s1.fld Reg.PAIR_PINS_OUT_OWN == ofBool s1.drives then s1 else s1.setOwn s1.drives)
    else s1.startPair
  let s3 := ([Reg.GATE_STATUS_READY, Reg.DEC_STATUS_READY, Reg.ENC_STATUS_READY, Reg.HLT_STATUS_READY].foldl
    (fun t r => t.setFld r 1) s2).setFld Reg.LKO_STATUS_READY (ofBool !s2.lko.any fun p => p.2.stopped)
  let s4 := if s.firstStart then
      (((List.range 4).foldl (fun t p => t.setFld (Reg.ENC_PIPE_STAT_EN p) 1)
        ((List.range 8).foldl (fun t p => t.setFld (Reg.DEC_PIPE_STAT_EN p) 1) s3)).decFigures).encFigures
    else s3
  let again := s4.isSet Reg.MBX_STATUS_RESTARTING
  let ms := (s.tick - s.sys.startAt) / ticksPerMs
  let s5 := (s4.reportReady again (if again then 1 else 0)).startNotice ms
  let s6 := (s5.wr Reg.SYS_START_MS (min ms 65535)).setFld Reg.SYS_START_STAT_COLD_DONE 1
  if s.sys.form == 2 then (s6.setFld Reg.SYS_PWR_STATE 0).powerNotice else s6

/-- The step that follows in the form under way. -/
def nextStep (form step : Nat) : Nat :=
  if form == 0 then (if step == 13 then 0 else step + 1)
  else if form == 1 then (if step == 5 then 6 else if step == 6 then 13 else 0)
  else if step == 1 then 3 else if step == 3 then 5 else if step == 5 then 6 else if step == 6 then 9 else if step == 9 then 11
  else if step == 11 then 13 else 0

/-- The effect of the step in progress, at its end. DEDUCED, unsafe (log 114). -/
def State.runStep (s : State) (f : StartFacts) : State :=
  match s.startStep with
  | 1 => ((s.setFld Reg.SYS_AVS_STAT_SETPOINT_MV f.startMv).setFld Reg.SYS_AVS_STAT_READY 1).setSys { s.sys with avsAt := s.tick }
  | 2 => (s.setFld Reg.SYS_GRADE_GRADE f.grade).setSys { s.sys with dieId := f.dieId % 2 ^ 64, keyHash := f.keyHash }
  | 3 => if s.sys.form == 0 then s
         else (((s.setFld Reg.MEM_STATUS_PD0 0).setFld Reg.MEM_STATUS_PD1 0).setFld Reg.MEM_STATUS_READY0 1).setFld Reg.MEM_STATUS_READY1 1
  | 4 => (({ s with mem := s.mem.filter fun c => !inDeviceMem c.1 } : State).setFld Reg.MEM_STATUS_READY0 1).setFld Reg.MEM_STATUS_READY1 1
  | 5 => s.stepImages f
  | 6 => s.stepRanger
  | 7 => s.stepRules f
  | 8 => s.stepLog f
  | 9 => s.stepLedger
  | 10 => s.stepTime
  | 11 => if s.sys.form == 0 then (s.stepLanes f).startStrip f.drv f.sns else s.stepLanes f
  | 12 => s
  | 13 => s.stepReady f
  | _ => s

/-- START_STEP_DONE: the step in progress ends and the next one begins. DESIGN CHOICE, safe (log 112). -/
def State.startStepDone (s : State) (f : StartFacts) : State :=
  let k := s.startStep
  if k == 0 || s.sys.resetLow || s.sys.deep || s.fld Reg.SYS_PWR_STATE == 4 || (k == 12 && !s.stepStripDone) then s
  else
    let s1 := s.runStep f
    s1.setFld Reg.SYS_START_STAT_STEP (nextStep s1.sys.form k)

end Sys2Proof.Machine
end

