-- ==== Sys2Proof/Machine/StripCmds.lean ====
section
/-! DEFINITION. The strip's scan and commands (spec/20_control_strip.md), the core supply's AVSBus (spec/21_pins_power_package.md). -/

namespace Sys2Proof.Machine

open Sys2Proof

/-! ### STRIP_SCAN (R527 to R534) -/

/-- A scan that is due; the gesture recognised in a power state ends it (R519, R521). -/
def State.scanStrip (s : State) (cm : List Nat) : State :=
  if s.scanDue && !s.sys.resetLow then
    let (g, t) := s.stripScan cm
    if g then t.wakeFrom 1 else t
  else s

/-- STRIP_SCAN, as R529 has it. -/
def execStripScan (dt : Nat) (cm : List Nat) (s : State) : Host.Outcome State Fault Refusal := .next ((s.pass dt).scanStrip cm)

/-! ### Commands (R537) -/

/-- The strip is OFF: every command but STRIP_QUERY is refused (R526). -/
def State.stripOff (s : State) : Bool := s.isSet Reg.STRIP_STATUS_OFF

/-- The checks of STRIP_CFG in the order of R393 step 8, each as (it fails, status, DETAIL). DEDUCED, unsafe (log 134). -/
def chkStripCfg (r : Req) (s : State) : List (Bool × Nat × Nat) :=
  let scan := r.u32 16
  let thr := r.u32 20
  let tim := r.u32 24
  let wk := r.u32 28
  let pulses := bitsAt scan 26 16
  let period := bitsAt scan 15 8
  [(r.part != 1, stPartition, noField), (s.stripOff, stInvalid, noField),
    (bitsAt scan 31 27 != 0 || !within 64 1024 pulses || !within 5 100 period || bitsAt scan 7 0 == 0 ||
    decide (period * 1000 < 12 * (pulses + 8)), stInvalid, 16),
    (bitsAt thr 31 24 ≤ bitsAt thr 23 16, stInvalid, 20),
    (3600 < bitsAt tim 31 20 || bitsAt tim 19 16 == 0 || bitsAt tim 15 12 == 0 || bitsAt tim 11 0 != 0, stInvalid, 24),
    (bitsAt wk 31 20 != 0 || bitsAt wk 13 13 != 0 || !within 200 5000 (bitsAt wk 12 0), stInvalid, 28)]

/-- STRIP_CFG. A change of PULSES repeats the baselining of every node (R531). -/
def cmdStripCfg (r : Req) (s : State) : State × Resp :=
  let scan := r.u32 16
  let thr := r.u32 20
  let tim := r.u32 24
  let wk := r.u32 28
  let pulses := bitsAt scan 26 16
  s.refuseOr (chkStripCfg r s)
    (let again := s.fld Reg.STRIP_SCAN_PULSES != pulses
     let s1 := (((s.wr Reg.STRIP_SCAN scan).wr Reg.STRIP_THRESH thr).wr Reg.STRIP_TIMING tim).wr Reg.STRIP_WAKE_CFG wk
     (if again then (s1.rebaseline s1.usedNodes).settleCtls else s1, .ok []))

/-- STRIP_CFG, as R537 has it. -/
def execStripCfg (dt : Nat) (m : Fin 8) (s : State) : Host.Outcome State Fault Refusal :=
  .next ((s.pass dt).lcs m.val 0x1201 cmdStripCfg)

/-- The node lists of all controls written one after another in the order of the controls. DEDUCED, unsafe (log 134). -/
def State.putControls (s : State) (l : List (Nat × List Nat)) : State :=
  let s1 := (l.mapIdx fun c x => (c, x)).foldl (fun (a : State × Nat) p =>
    let (kind, nodes) := p.2
    let cfg := if kind == 0 then 0 else kind * 2 ^ 30 + (nodes.length - 1) * 2 ^ 26 + a.2
    (a.1.wr (Reg.STRIP_CTL_CFG p.1) cfg, a.2 + nodes.length)) (s, 0)
  let all := padTo 144 ((l.flatMap Prod.snd).map (BitVec.ofNat 8))
  (List.range 36).foldl (fun t k => t.wr (Reg.STRIP_NODE_LIST k) (fieldAt all (4 * k) 4)) s1.1

/-- A control's touch ends as its definition changes. DEDUCED, unsafe (log 134). -/
def State.dropTouch (s : State) (c : Nat) : State :=
  if s.isSet (Reg.STRIP_CTL_STATE_TOUCHED c) then
    ((((s.setFld (Reg.STRIP_CTL_STATE_TOUCHED c) 0).touchNotice c 0).setFld (Reg.STRIP_CTL_STATE_POSITION c) 0).setCtl c {}).showTouched
  else (s.setFld (Reg.STRIP_CTL_STATE_POSITION c) 0).setCtl c {}

/-- The checks of STRIP_CONTROL_SET in the order of R393 step 8, each as (it fails, status, DETAIL). DEDUCED, unsafe (log 134). -/
def chkStripControlSet (r : Req) (s : State) : List (Bool × Nat × Nat) :=
  let c := r.u8 16
  let kind := r.u8 17
  let n := r.u8 18
  let nodes := (r.bytes 20 (min n 12)).map BitVec.toNat
  let countOk := if kind == 0 then n ≤ 12 else if kind == 1 then n == 1 else if kind == 2 then within 2 12 n else within 3 12 n
  let others := (List.range 16).flatMap fun d => if d == c then [] else s.ctlNodes d
  let bad := nodes.any (fun x => !s.nodeUsed x || others.contains x) || !nodes.Nodup
  [(r.part != 1, stPartition, noField), (s.stripOff, stInvalid, noField), (15 < c, stInvalid, 16), (3 < kind, stInvalid, 17),
    (!countOk, stInvalid, 18), (r.u8 19 != 0, stInvalid, 19), (kind != 0 && bad, stInvalid, 20)]

/-- STRIP_CONTROL_SET. -/
def cmdStripControlSet (r : Req) (s : State) : State × Resp :=
  let c := r.u8 16
  let kind := r.u8 17
  let n := r.u8 18
  let nodes := (r.bytes 20 (min n 12)).map BitVec.toNat
  s.refuseOr (chkStripControlSet r s)
    (let l := (List.range 16).map fun d => if d == c then (kind, if kind == 0 then [] else nodes)
       else (s.fld (Reg.STRIP_CTL_CFG_KIND d), s.ctlNodes d)
     ((s.dropTouch c).putControls l, .ok []))

/-- STRIP_CONTROL_SET, as R533 has it. -/
def execStripControlSet (dt : Nat) (m : Fin 8) (s : State) : Host.Outcome State Fault Refusal :=
  .next ((s.pass dt).lcs m.val 0x1202 cmdStripControlSet)

/-- The checks of STRIP_REBASELINE in the order of R393 step 8, each as (it fails, status, DETAIL). -/
def chkStripRebaseline (r : Req) (s : State) : List (Bool × Nat × Nat) :=
  [(r.part != 1, stPartition, noField), (s.stripOff, stInvalid, noField), (r.u16 34 != 0, stInvalid, 34)]

/-- STRIP_REBASELINE. -/
def cmdStripRebaseline (r : Req) (s : State) : State × Resp :=
  let mask := fieldAt r.msg 16 18
  s.refuseOr (chkStripRebaseline r s)
    ((s.rebaseline (bitList 144 mask)).settleCtls, .ok [])

/-- STRIP_REBASELINE, as R531 has it. -/
def execStripRebaseline (dt : Nat) (m : Fin 8) (s : State) : Host.Outcome State Fault Refusal :=
  .next ((s.pass dt).lcs m.val 0x1203 cmdStripRebaseline)

/-- STRIP_QUERY. -/
def cmdStripQuery (_ : Req) (s : State) : State × Resp :=
  (s, .ok (s.regImage State.view Reg.STRIP_STATUS 11 ++ s.regImage State.view (Reg.STRIP_CTL_CFG 0) 32))

/-- STRIP_QUERY, as R537 has it. -/
def execStripQuery (dt : Nat) (m : Fin 8) (s : State) : Host.Outcome State Fault Refusal :=
  .next ((s.pass dt).lcs m.val 0x1204 cmdStripQuery)

/-! ### AVSBus (R548 to R550) -/

/-- An AVSBus transaction: `tries` are the outcomes of its attempts, false for no acknowledge or a bad CRC. The answer says whether it
succeeded; a second failure stops set-point updates. DESIGN CHOICE, safe (log 135). -/
def State.avsTransaction (s : State) (tries : List Bool) : Bool × State :=
  if tries.getD 0 true then (true, s.setFld Reg.SYS_AVS_STAT_FAIL 0)
  else if tries.getD 1 true then (true, (s.setFld Reg.SYS_AVS_STAT_FAIL 0).bump Reg.SYS_CNT_AVS_RETRY)
  else
    let s1 := (s.setFld Reg.SYS_AVS_STAT_FAIL 1).raise Reg.SYS_AVS_STAT_FAIL_EVT
    (false, s1.setSys { s1.sys with avsRetryAt := s.tick + ticksPerS })

/-- Whether AVSBus runs: from step 1 on, not in DEEP. -/
def State.avsRuns (s : State) : Bool := s.isSet Reg.SYS_AVS_STAT_READY && !s.sys.deep && !s.sys.resetLow

/-- The set point one step of 5 mV up or down, within 720 to 800 mV. -/
def avsStep (mv : Nat) (up : Bool) : Nat := clampTo 720 800 (if up then mv + 5 else mv - 5)

/-- AVS_SETPOINT_UPDATE (R548): a step as the timing monitors ask for (`up`), at most one per 1 ms. DESIGN CHOICE, safe (log 135). -/
def State.avsUpdate (s : State) (up : Bool) (tries : List Bool) : State :=
  if !s.avsRuns || s.isSet Reg.SYS_AVS_STAT_FAIL || !s.since s.sys.avsAt ticksPerMs then s
  else
    let (ok, t) := s.avsTransaction tries
    let u := t.setSys { t.sys with avsAt := s.tick }
    if ok then u.setFld Reg.SYS_AVS_STAT_SETPOINT_MV (avsStep (s.fld Reg.SYS_AVS_STAT_SETPOINT_MV) up) else u

/-- AVS_SETPOINT_UPDATE, as R548 has it. -/
def execAvsSetpointUpdate (dt : Nat) (up : Bool) (tries : List Bool) (s : State) : Host.Outcome State Fault Refusal :=
  .next ((s.pass dt).avsUpdate up tries)

/-- What the regulator and the model of the other rails tell: VOUT, IOUT, the power estimate (R549). -/
def State.showSupply (s : State) (vout iout power : Nat) : State :=
  ((s.setFld Reg.SYS_AVS_VOUT_VOUT_MV vout).setFld Reg.SYS_AVS_VOUT_IOUT iout).setFld Reg.SYS_PWR_EST_POWER power

/-- Whether a read-back is due: every 100 ms (R549). DESIGN CHOICE, safe (log 216). -/
def State.readbackDue (s : State) : Bool := s.sys.avsReadAt.all fun t => s.since t (100 * ticksPerMs)

/-- AVS_READBACK (R549). -/
def execAvsReadback (dt : Nat) (vout iout power : Nat) (tries : List Bool) (s : State) : Host.Outcome State Fault Refusal :=
  let s1 := s.pass dt
  .next (if !s1.avsRuns || s1.isSet Reg.SYS_AVS_STAT_FAIL || !s1.readbackDue then s1
    else match (s1.setSys { s1.sys with avsReadAt := some s1.tick }).avsTransaction tries with
      | (true, t) => t.showSupply vout iout power
      | (false, t) => t)

/-- AVS_RETRY (R550): the new attempt of every 1 s after a failure. -/
def execAvsRetry (dt : Nat) (tries : List Bool) (s : State) : Host.Outcome State Fault Refusal :=
  let s1 := s.pass dt
  .next (if s1.avsRuns && s1.isSet Reg.SYS_AVS_STAT_FAIL && s1.sys.avsRetryAt ≤ s1.tick then (s1.avsTransaction tries).2 else s1)

end Sys2Proof.Machine
end

