-- ==== Sys2Proof/Machine/HostCmds.lean ====
section
/-! DEFINITION. The host port, register accesses, dual-clock queues and device memory (spec/01_architecture.md, spec/00_scope.md), the
checks of a master's access (spec/16_firebreak.md). -/

namespace Sys2Proof.Machine

open Sys2Proof

/-! ### Accesses of the host (R6, R26 to R31) -/

/-- Whether the host port accepts requests: in a cold start once step 2 is complete (R507). DEDUCED, unsafe (log 170). -/
def State.hostPort (s : State) : Bool :=
  (List.range 4).all (fun i => s.queueTakes 0x0B i) && !s.sys.hostStopped && !s.sys.deep && !s.sys.perstLow && !s.sys.resetLow && !(s.sys.form == 0 && within 1 2 (s.fld Reg.SYS_START_STAT_STEP))

/-- Whether BAR0 offset `a` lies in a register block (R29). -/
def inBlock (a : Nat) : Bool :=
  a < 0x090000 || within 0x100000 0x11FFFF a || within 0x180000 0x47FFFF a || within 0x480000 0x48D7FF a ||
    within 0x500000 0x57FFFF a || within 0x800000 0x87FFFF a

/-- An access error (R28, R31, R415). `kind`: 0 BAR0 read, 1 BAR0 write, 2 BAR2 read, 3 BAR2 write. One of BAR0 that comes in the tick of a captured
one of BAR2 is captured in its place. DEDUCED, unsafe (log 220). -/
def State.accessError (s : State) (kind a : Nat) : State :=
  let n := s.sys.accErrs + 1
  let capture (t : State) : State :=
    (((t.raise Reg.SYS_ACC_ERR_STAT_VALID).setFld Reg.SYS_ACC_ERR_STAT_KIND kind).wr Reg.SYS_ACC_ERR_ADDR_LO (a % 2 ^ 32)).setFld
      Reg.SYS_ACC_ERR_ADDR_HI_ADDR (a / 2 ^ 32)
  if s.isSet Reg.SYS_ACC_ERR_STAT_VALID then
    let s1 := (s.raise Reg.SYS_ACC_ERR_STAT_OVERFLOW).setSys { s.sys with accErrs := n }
    if kind < 2 && 2 ≤ s.fld Reg.SYS_ACC_ERR_STAT_KIND && bitAt (s.raisedBits Reg.SYS_ACC_ERR_STAT) 31 then capture s1 else s1
  else
    let s1 := capture s
    (s1.setSys { s1.sys with accErrs := 0 }).notice 0x0101 0 [0] (pack [(1, kind), (3, 0), (8, a), (4, n)])

/-- HOST_UNPOPULATED_ACCESS: an access of the host to space that BAR0 or BAR2 covers and nothing occupies. -/
def State.unpopulated (s : State) (bar2 write : Bool) (a : Nat) : State :=
  if !s.hostPort then s
  else if s.fld Reg.SYS_PWR_STATE == 2 then (if write then s else { s with readData := 0 })
  else if bar2 then
    (if within 0xC00000000 0xFFFFFFFFF a then
       (if write then s.accessError 3 a else ({ s with readData := 0 } : State).accessError 2 a) else s)
  else if a < 0x1000000 && !inBlock a then
    (if write then s.accessError 1 (0xFF00000000 + a) else ({ s with readData := 0 } : State).accessError 0 (0xFF00000000 + a))
  else s

/-- HOST_UNPOPULATED_ACCESS, as R28 has it. -/
def execHostUnpopulatedAccess (dt : Nat) (bar2 write : Bool) (addr : Nat) (s : State) : Host.Outcome State Fault Refusal :=
  .next ((s.pass dt).unpopulated bar2 write addr)

/-! ### Promotion of waiting requests (R39) -/

/-- Whether a request of level 3 has waited 2 µs. -/
def State.overdue (s : State) (r : MemReq) : Bool := r.level == 3 && s.since r.since (2 * ticksPerUs)

/-- Level-3 requests that have waited 2 µs, promoted to level 2, with those before them that share a block. -/
def State.promote (s : State) : State :=
  { s with hbm := { s.hbm with
    waiting := (raiseShared (s.hbm.waiting.map fun r => if s.overdue r then { r with level := 2 } else r).reverse []).reverse } }

/-- URGENCY_PROMOTION (R39): requests of level 3 that have waited 2 µs are promoted and served at level 2. DESIGN CHOICE, unsafe (log 28). -/
def execUrgencyPromotion (dt : Nat) (s : State) : Host.Outcome State Fault Refusal :=
  let s1 := s.pass dt
  let late := s1.hbm.waiting.map s1.overdue
  .next (s1.promote.serveDue fun p => late.getD p.2 false)

/-! ### Power-down of the stacks (R36) -/

/-- Power-down of a channel, where R36 allows it: its stack trained and not in self-refresh, the channel idle for 256 MEM cycles, and
MEM_TOL_MIN at least 80 ns. DESIGN CHOICE, unsafe (log 27). -/
def State.powerDown (s : State) (c : Nat) : State :=
  let k := c / 32
  if s.isSet (memReadyField k) && s.fld (pdField k) != 2 && 80 ≤ s.fld Reg.MEM_TOL_MIN_TOL_NS && s.idleFor c 80 && !s.hbm.down.contains c then
    ({ s with hbm := { s.hbm with down := c :: s.hbm.down } }).showDown k
  else s

/-- HBM_POWER_DOWN_ENTRY, as R36 has it. -/
def execHbmPowerDownEntry (dt : Nat) (channel : Fin 64) (s : State) : Host.Outcome State Fault Refusal :=
  .next ((s.pass dt).powerDown channel.val)

/-- Self-refresh of a stack, where R36 allows it: trained, idle for 10 µs, and MEM_TOL_MIN at least 4 µs. -/
def State.selfRefresh (s : State) (k : Nat) : State :=
  if s.isSet (memReadyField k) && 4000 ≤ s.fld Reg.MEM_TOL_MIN_TOL_NS && s.stackIdle k (10 * ticksPerUs) then
    ({ s with hbm := { s.hbm with down := s.hbm.down.filter fun c => c / 32 != k } }).setFld (pdField k) 2
  else s

/-- HBM_SELF_REFRESH_ENTRY, as R36 has it. -/
def execHbmSelfRefreshEntry (dt : Nat) (stack : Fin 2) (s : State) : Host.Outcome State Fault Refusal :=
  .next ((s.pass dt).selfRefresh stack.val)

/-! ### The scrubber (R35, R37) -/

/-- The 64-byte blocks of device memory. -/
def scrubBlocks : Nat := 0xC00000000 / 64

/-- Whether the next visit is due: the blocks are spread evenly over the period (R35). DESIGN CHOICE, unsafe (log 28). -/
def State.scrubDue (s : State) : Bool :=
  match s.hbm.scrubAt with
  | none => true
  | some t => s.since t (s.fld Reg.MEM_SCRUB_CTRL_PERIOD_H * 3600 * ticksPerS / scrubBlocks)

/-- The scrubber's visit of the next block, when one is due and the block's stack is trained; `ecc` says what the read of each 64-bit word meets:
0 good, 1 correctable, 2 good on the re-read, 3 not. The write-back of corrected data is then under way, and is done when time next passes.
DESIGN CHOICE, unsafe (log 28). -/
def State.scrub (s : State) (ecc : List Nat) : State :=
  let a := s.rd64 Reg.MEM_SCRUB_POS_LO Reg.MEM_SCRUB_POS_HI
  if !s.isSet Reg.MEM_SCRUB_CTRL_EN || !s.isSet (memReadyField (stackOf a)) || !s.scrubDue then s
  else
    let s1 := ((s.touch a 64).eccBlock a ecc).2
    let s2 := { s1 with hbm := { s1.hbm with
      scrubAt := some s.tick
      writeBack := if s1.hbm.errors.any fun p => p.1 / 64 == a / 64 && p.2 == 1 then some a else none } }
    s2.wr64 Reg.MEM_SCRUB_POS_LO Reg.MEM_SCRUB_POS_HI (if a + 64 < 0xC00000000 then a + 64 else 0)

/-- SCRUB_BLOCK_VISIT, as R35 has it. -/
def execScrubBlockVisit (dt : Nat) (ecc : List (Fin 4)) (s : State) : Host.Outcome State Fault Refusal :=
  .next ((s.pass dt).scrub (ecc.map Fin.val))

/-- A write of MEM_SCRUB_CTRL. -/
def State.scrubCtrl (s : State) (v : Nat) : State :=
  (s.setFld Reg.MEM_SCRUB_CTRL_PERIOD_H (clampTo 1 168 (bitsAt v 8 1))).setFld Reg.MEM_SCRUB_CTRL_EN (v % 2)

/-- MEM_SCRUB_CTRL_WRITE, as R37 has it. -/
def execMemScrubCtrlWrite (dt : Nat) (value : Word) (s : State) : Host.Outcome State Fault Refusal :=
  .next ((s.pass dt).scrubCtrl value.toNat)

/-! ### BAR2 (R145, R343, R345, R437, R445, R561) -/

/-- The armed scan-lock window that covers an address. -/
def State.windowAt (s : State) (a : Nat) : Option Nat :=
  (List.range 512).find? fun w =>
    let l := s.fld (Reg.FBK_WIN_CFG_LOG2_SIZE w)
    s.isSet (Reg.FBK_WIN_CFG_ARMED w) && a / 2 ^ l == s.rd64 (Reg.FBK_WIN_BASE_LO w) (Reg.FBK_WIN_BASE_HI w) / 2 ^ l

/-- A host write dropped by a window. -/
def State.windowHit (s : State) (w a : Nat) : State :=
  let n := s.fld (Reg.FBK_WIN_CFG_OUTPUT w)
  let k := s.fld (Reg.FBK_WIN_CFG_SLOT w)
  let s1 := ((s.bump (Reg.FBK_HOST_SCANLOCK_CNT fbkHost)).bump (Reg.FBK_WIN_HITS w)).bump (Reg.CNP_CNT_SCANLOCK n)
  s1.notice 0x0414 n [0, s.owner n] (pack [(1, n), (1, k), (2, s.fld (Reg.CNP_LAYER_BUF_ID n k)), (4, 1), (8, a)])

/-- A violation of the host (R450, R451): not a device fault. -/
def State.hostViolation (s : State) (a : Nat) (write : Bool) (len cause : Nat) : State :=
  (s.fbkCapture fbkHost a write len cause).notice 0x0E01 fbkHost [0] (violPayload fbkHost cause write 0xFF a)

/-- A posted write reaches BAR2. DEDUCED, unsafe (log 30). -/
def State.bar2Write (s : State) (a : Nat) (data : List Byte) (held : Bool) : State :=
  if !s.hostPort || s.fld Reg.SYS_PWR_STATE == 2 then s
  else if !inDeviceMem a then s.accessError 3 a
  else if !s.drives && !s.isSet Reg.MBX_STATUS_RECOVERY then s.bump Reg.PAIR_CNT_HOST_DROP
  else
    let (ok, t) := match s.windowAt a, s.fbkDenies fbkHost a true with
      | some w, _ => (false, s.windowHit w a)
      | none, some c => (false, s.hostViolation a true data.length c)
      | none, none => (true, s.askMem fbkHost a true data 0 [] held false)
    (List.range (ceilDiv data.length 1984)).foldl (fun u i =>
      u.pairSend 0x03 (pack [(8, a + 1984 * i), (1, ofBool ok)] ++ (data.drop (1984 * i)).take 1984)) t

/-- Posted-write credits return (R346): the writes that waited for them follow in order while THROTTLE is clear. DEDUCED, unsafe (log 208). -/
def State.returnCredits (s : State) : State :=
  s.pair.hostWait.foldl (fun t _ => match t.pair.hostWait with
    | [] => t
    | w :: l => if t.isSet Reg.PAIR_MIRROR_THROTTLE then t else (t.setPair { t.pair with hostWait := l }).bar2Write w.a w.data w.held) s

/-- A write of BAR2 at the host port: it waits while the port withholds posted-write credits (R346). DEDUCED, unsafe (log 208). -/
def State.bar2Post (s : State) (a : Nat) (data : List Byte) (held : Bool) : State :=
  let t := s.returnCredits
  if t.isSet Reg.PAIR_MIRROR_THROTTLE then t.setPair { t.pair with hostWait := t.pair.hostWait ++ [{ a := a, data := data, held := held }] }
  else t.bar2Write a data held

/-- HOST_BAR2_WRITE: one request of 1 to 4,096 bytes that crosses no 4 KiB boundary (R439). DESIGN CHOICE, safe (log 8). -/
def execHostBar2Write (dt addr : Nat) (data : HostData) (s : State) : Host.Outcome State Fault Refusal :=
  if data.bytes.isEmpty || 4096 < addr % 4096 + data.bytes.length || 0x1000000000 ≤ addr then .fault .badAccess
  else .next ((s.pass dt).bar2Post addr data.bytes data.held)

/-- A read of BAR2: device memory, or zero. `ecc` is what the read of each of its 64-bit words meets. -/
def State.bar2Read (s : State) (a len : Nat) (ecc : List Nat) (held : Bool) : State :=
  let zero : State := { s with readData := 0, readPoison := false }
  if !s.hostPort then s
  else if s.fld Reg.SYS_PWR_STATE == 2 then zero
  else if !inDeviceMem a then zero.accessError 2 a
  else match s.fbkDenies fbkHost a false with
    | some c => zero.hostViolation a false len c
    | none => s.askMem fbkHost a false [] len ecc held false

/-- HOST_BAR2_READ, as R561 has it. DESIGN CHOICE, safe (log 8). -/
def execHostBar2Read (dt addr : Nat) (len : Nat) (met : MemMet) (s : State) : Host.Outcome State Fault Refusal :=
  if len == 0 || 4096 < addr % 4096 + len || 0x1000000000 ≤ addr then .fault .badAccess
  else .next ((s.pass dt).bar2Read addr len (met.ecc.map Fin.val) met.held)

/-! ### Accesses of engines and Ranger (R28, R437, R438, R451, R463) -/

/-- What a LASTING violation of a unit brings beside its report: a Ranger unit halts, a pipe is removed, the pair diverges. -/
def State.violationEnds (s : State) (u : Nat) : State :=
  if within 2 4 u then s.haltUnit u
  else if within 5 12 u then s.removeDecPipe (u - 5) 2
  else if within 13 16 u then s.removeEncPipe (u - 13) 2
  else if u == fbkPair then s.diverge
  else s

/-- The first effect of a pipe's violation (R25, R212). -/
def State.pipeViolation (s : State) (u : Nat) (lasting : Bool) : State :=
  if within 5 12 u then
    let t := (s.bump (Reg.DEC_PIPE_CNT_FBK (u - 5))).abandonDec (u - 5)
    if lasting then t else t.decPipeNotice (u - 5) 0 1 0 (t.decsOn (u - 5))
  else if within 13 16 u then
    let t := (s.bump (Reg.ENC_PIPE_CNT_FBK (u - 13))).skipRest (u - 13)
    if lasting then t else t.encPipeNotice (u - 13) 0 1 0 (t.encsOn (u - 13))
  else s

/-- A read of Ranger SRAM (R374, R465): `ecc` 1 corrected, 2 good on the re-read, 3 a failed re-read. -/
def State.sramRead (s : State) (a ecc : Nat) : State :=
  let part := if a < 0xFE00100000 then 0 else if a < 0xFE00300000 then 1 else 2
  let (inj, s1) := s.injTake 0x04 part (fun _ => 1)
  let e := match inj with
    | some p => p + 1
    | none => ecc
  if e == 0 then s1
  else if e == 1 then (s1.bump Reg.HLT_SRAM_CNT).logFault 4 0 part inj.isSome
  else if e == 2 then s1.logFault 4 1 part inj.isSome
  else if s1.isSet Reg.HLT_STATUS_FATAL then s1
  else (s1.logFault 4 2 part inj.isSome).restartBegins 5

/-- Whether a stored picture holds the byte at `a`. -/
def Pic.holds (p : Pic) (a : Nat) : Bool :=
  (p.p0 ≤ a && a < p.p0 + p.s0 * p.h) || (twoPlanes p.fmt && p.p1 ≤ a && a < p.p1 + p.s1 * ceilDiv p.h 2)

/-- Whether a fetch of Canopy at `a` fills a scan pool that is low (R39): the byte lies in a picture that an output with such a pool shows. DESIGN CHOICE, unsafe (log 28). -/
def State.fillsLow (s : State) (a : Nat) : Bool :=
  (List.range 32).any fun n => s.poolLow n && (s.enabledSlots n).any fun k => (s.layerView n k).pic.any fun p => p.holds a

/-- An access of unit `u` checked on its first byte and served. -/
def State.engineAccess (s : State) (u a : Nat) (write : Bool) (data : List Byte) (len : Nat) (ecc : List Nat) (held : Bool) : State :=
  let n := if write then data.length else len
  let (ok, l, t) := s.fbkCheck u a write n
  if !ok then
    let t1 := (if write then t else { t with readData := 0, readPoison := false }).pipeViolation u l
    if l then t1.violationEnds u else t1
  else
    let t1 := t.askMem u a write data len ecc held (u == fbkCnp && !write && t.fillsLow a)
    if !write && within 0xFE00000000 0xFE003FFFFF a then t1.sramRead a (ecc.getD 0 0) else t1

/-! ### Register writes (R6, R8, R9, R11) -/

/-- A write by field type: RW and RWS bits set, W1C bits cleared but for those that hardware set in the same tick (R9), others ignored. -/
def State.typeWrite (s : State) (a v : Nat) : State :=
  let w := BitVec.ofNat 32 v
  let m := BitVec.ofNat 32 (rwMask a)
  let c := BitVec.ofNat 32 (w1cMask a) &&& w &&& ~~~(BitVec.ofNat 32 (s.raisedBits a))
  let old := BitVec.ofNat 32 (s.rd a)
  s.wr a ((((old &&& ~~~m) ||| (w &&& m)) &&& ~~~c).toNat)

/-- A write of SYS_WAKE (R519, R523): the key wakes the device from RETENTION. -/
def State.wakeWrite (s : State) (v : Nat) : State :=
  if s.hostPort && s.fld Reg.SYS_PWR_STATE == 2 && bitsAt v 15 0 == 0x5A57 then s.wake 2 else s

/-- Which of `count` registers the register at `a` is. -/
def indexOf (a count : Nat) (reg : Nat → Nat) : Option Nat := (List.range count).find? fun n => a == reg n

/-- The effect of a write of `v` to the register at `a`, where its block gives such writes an effect beside the field types. DESIGN CHOICE, unsafe (log 21). -/
def State.ownWrite (s : State) (a v : Nat) : Option State :=
  if a < 0x010000 then (if a == Reg.SYS_WAKE then some (s.wakeWrite v) else none)
  else if a < 0x020000 then
    if within 0x018000 0x01FFFF a then some (s.hostArea ((a - 0x018000) / 4096) (a % 4096) (leBytes 4 v))
    else ((indexOf a 8 Reg.MBX_NRING_CONS).map fun n => s.nringCons n v).or
      (((indexOf a 8 Reg.MBX_NRING_LEVEL).map fun n => s.nringLevel n v).or
        ((indexOf a 8 Reg.MBX_DB).map fun m => if bitAt v 31 then s.doorbell m (bitAt v 0) else s))
  else if a < 0x030000 then
    if a == Reg.HLT_INJ_ARM then some (s.injKey (v % 65536)).injSettle
    else if a == Reg.HLT_INJ_CTRL then some (if bitAt v 31 then s.injGo.injSettle else s)
    else none
  else if within 0x100000 0x11FFFF a then
    ((indexOf a 32 Reg.CNP_CRING_PROD).map fun n => s.hostCommitProd n v).or ((indexOf a 32 Reg.CNP_OUT_LATCH).map fun n => s.latchWrite n v)
  else if within 0x200000 0x27FFFF a then
    if a == Reg.LDG_SVC_CMD then
      some (if !s.isSet Reg.LDG_STATUS_SVC then (if bitAt v 31 && bitAt v 30 then s.svcWrite (bitsAt v 19 0) else s)
        else if !bitAt v 31 then s.svcCmd (bitAt v 30) (bitsAt v 19 0)
        else if bitAt v 30 then s.svcWrite (bitsAt v 19 0) else s.svcRead (bitsAt v 19 0) false)
    else (indexOf a 64 Reg.LDG_CRING_PROD).map fun n => s.hostRingProd n v
  else if within 0x380000 0x3FFFFF a then (indexOf a 32 Reg.ENC_SES_RING_CONS).map fun n => s.encCons n v
  else if within 0x400000 0x47FFFF a then
    if a == Reg.PKT_QDIAG_CTRL then some (s.qdiag v) else (indexOf a 128 Reg.PKT_Q_WMARK).map fun n => s.wmarkWrite n v
  else if a == Reg.MEM_SCRUB_CTRL then some (s.scrubCtrl v)
  else none

/-- The effect of a write to a service-writable register (R411): none outside service mode. -/
def State.serviceWrite (s : State) (a v : Nat) : State :=
  if within 0x100000 0x11FFFF a then s.layerSvcWrite a v
  else if within 0x180000 0x1FFFFF a then s.gateSvcWrite a v
  else if within 0x800000 0x87FFFF a then s.regionSvcWrite a v
  else s

/-- The registers of a check-value unit that a write during a scan leaves alone with ERR, beside RUN, DATA and CTRL (R471): ADDR, LEN and the
configuration. -/
def cvuHeld (u a : Nat) : Bool := within (Reg.CVU_POLY_LO u) (Reg.CVU_XOROUT_HI u) a || within (Reg.CVU_ADDR_LO u) (Reg.CVU_LEN_HI u) a

/-- A host write of a register of CVU unit `u` (R467, R469 to R472): ignored in CVU0 and CVU1, an error while a scan runs. -/
def State.cvuRegWrite (s : State) (u a v : Nat) : State :=
  if u < 2 then s
  else if a == Reg.CVU_CTRL u then s.cvuControl u v
  else if a == Reg.CVU_DATA u || a == Reg.CVU_DATA_ALIAS u then s.cvuDataWrite u [v]
  else if a == Reg.CVU_RUN_LO u then s.cvuRunWrite u v none
  else if s.isSet (Reg.CVU_CTRL_BUSY u) && (a == Reg.CVU_RUN_HI u || cvuHeld u a) then s.cvuErr u
  else if a == Reg.CVU_RUN_HI u then s.setCvu u { s.cvuSt u with runHi := some v }
  else s.typeWrite a v

/-- A 32-bit write to the register at `a`: the effect its block gives such writes, and the field types. DEDUCED, unsafe (log 22). DEDUCED, safe (log 198). -/
def State.regWrite (s : State) (a v : Nat) : State :=
  if within 0x050000 0x0503FF a then s.cvuRegWrite ((a - 0x050000) / 0x100) a v
  else if within 0x200110 0x20012F a && !s.isSet Reg.LDG_STATUS_SVC then s
  else
    match s.ownWrite a v with
    | some t => t
    | none =>
      match indexOf a 8 Reg.MBX_CMPL with
      | some m =>
        let old := s.fld (Reg.MBX_CMPL_DONE m)
        let t := (s.typeWrite a v).setFld (Reg.MBX_CMPL_DONE m) old
        if bitAt v 31 then t.doneClear m else t
      | none => (s.serviceWrite a v).typeWrite a v

/-- REG_WRITE: an aligned access of 4 or 8 bytes (R6), which has on each register the effect that a write of it has. A half that lies outside
every block is an access error (R28). DESIGN CHOICE, unsafe (log 21). DEDUCED, safe (log 23). -/
def State.hostRegWrite (s : State) (a size v : Nat) : State :=
  if !(s.hostPort && (size == 4 || size == 8) && a % size == 0 && a + size ≤ 0x1000000) then s
  else if !inBlock a then (if s.fld Reg.SYS_PWR_STATE == 2 then s else s.accessError 1 (0xFF00000000 + a))
  else if size == 4 then s.regWrite a (v % 2 ^ 32)
  else (s.regWrite a (v % 2 ^ 32)).regWrite (a + 4) (v / 2 ^ 32 % 2 ^ 32)

/-- REG_WRITE, as R8 has it. -/
def execRegWrite (dt addr : Nat) (size : Nat) (value : Nat) (s : State) : Host.Outcome State Fault Refusal :=
  .next ((s.pass dt).hostRegWrite addr size value)

/-- REG_READ_LOW_HALF: an aligned read of 4 or 8 bytes; what is not performed returns zero (R6). DEDUCED, safe (log 23). -/
def State.hostRegRead (s : State) (a size : Nat) : State :=
  let zero : State := { s with readData := 0 }
  if !s.hostPort then s
  else if !((size == 4 || size == 8) && a % size == 0 && a + size ≤ 0x1000000) then zero
  else if !inBlock a then (if s.fld Reg.SYS_PWR_STATE == 2 then zero else zero.accessError 0 (0xFF00000000 + a))
  else if size == 4 then s.readReg a
  else
    let t := s.readReg a
    let u := t.readReg (a + 4)
    { u with readData := t.readData + 2 ^ 32 * u.readData }

/-- REG_READ_LOW_HALF, as R7 has it. -/
def execRegReadLowHalf (dt addr : Nat) (size : Nat) (s : State) : Host.Outcome State Fault Refusal :=
  .next ((s.pass dt).hostRegRead addr size)

/-- A write of Ranger S to the FBK_ register at `a` (R435, R441, R453). -/
def State.fbkRegWrite (s : State) (a v : Nat) : State :=
  let u := (a - 0x041000) / 0x400
  let o := (a - 0x041000) % 0x400
  if within 0x041000 0x047FFF a && u < 28 && o == 0 then (if bitAt v 0 then s.fbkGo u 0 else s)
  else if within 0x041000 0x047FFF a && u < 28 && 0x100 ≤ o then (if o % 16 == 12 then s else s.fbkRegionWrite u ((o - 0x100) / 16) (o % 16 / 4) v)
  else s.typeWrite a v

/-- An access of core `c` of Ranger to register space (R26, R435), 4 or 8 bytes and aligned as R6 has it: 0 is Ranger S, whose writes alone reach
the FBK_ registers. DESIGN CHOICE, unsafe (log 21). -/
def State.rangerReg (s : State) (c o : Nat) (write : Bool) (data : List Byte) (len : Nat) : State :=
  let n := if write then data.length else len
  if !((n == 4 || n == 8) && o % n == 0) then (if write then s else { s with readData := 0, readPoison := false })
  else if write then
    (List.range (n / 4)).foldl (fun t i =>
      let v := fieldAt data (4 * i) 4
      if within 0x040000 0x04FFFF o then (if c == 0 then t.fbkRegWrite (o + 4 * i) v else t) else t.regWrite (o + 4 * i) v) s
  else
    let t := s.readReg o
    let u := if n == 4 then t else { t.readReg (o + 4) with readData := t.readData + 2 ^ 32 * (t.readReg (o + 4)).readData }
    { u with readPoison := false }

/-- ENGINE_MEMORY_ACCESS: an access of a unit other than FBK_HOST and FBK_DBG; of a Ranger core, to register space as well. DESIGN CHOICE, safe (log 8). -/
def execEngineMemoryAccess (dt : Nat) (unit : Fin 28) (write : Bool) (addr : Nat) (data : List Byte) (len : Nat) (met : MemMet)
    (s : State) : Host.Outcome State Fault Refusal :=
  let n := if write then data.length else len
  if n == 0 || 4096 < addr % 4096 + n || 2 ^ 48 ≤ addr then .fault .badAccess
  else
    let s1 := s.pass dt
    .next (if unit.val < 2 then s1
      else if within 2 4 unit.val && within 0xFF00000000 0xFF00FFFFFF addr then s1.rangerReg (unit.val - 2) (addr - 0xFF00000000) write data len
      else s1.engineAccess unit.val addr write data len (met.ecc.map Fin.val) met.held)

/-! ### The debug master (R446, R447, R451, R507) -/

/-- A denied access of the debug master: reported, and a locked region sets DBG_DENIED and reaches Blaze. DEDUCED, unsafe (log 32). -/
def State.debugDenied (s : State) (a : Nat) (write : Bool) (len cause : Nat) : State :=
  let s1 := (s.fbkCapture fbkDbg a write len cause).notice 0x0E02 fbkDbg [0] (pack [(1, ofBool write), (3, 0), (8, a), (4, 1)])
  let s2 := s1.blzTrigger 2 (a / 4096 % 65536) 2 (pack [(8, a), (1, ofBool write)])
  let s3 := if cause == 2 then s2.raise (Reg.FBK_VIOL_STAT_DBG_DENIED fbkDbg) else s2
  if write then s3 else { s3 with readData := 0 }

/-- DEBUG_ACCESS. With DBG_EN low the port makes no access; a locked region is denied whatever its level,
and a write to an FBK_ register is ignored (R435). DEDUCED, safe (log 31). -/
def State.debugAccess (s : State) (a : Nat) (write : Bool) (data : List Byte) (len : Nat) (ecc : List Nat) : State :=
  let n := if write then data.length else len
  if s.fbkLocked a then s.debugDenied a write n 2
  else if !s.isSet Reg.SYS_STRAPS_DBG_EN then s
  else if within 0xFF00000000 0xFF00FFFFFF a then
    let o := a - 0xFF00000000
    if n != 4 || o % 4 != 0 then (if write then s else { s with readData := 0 })
    else if write then (if within 0x040000 0x04FFFF o then s else s.regWrite o (leNat data)) else s.readReg o
  else match s.fbkDenies fbkDbg a write with
    | some c => s.debugDenied a write n c
    | none => s.askMem fbkDbg a write data len ecc false false

/-- DEBUG_ACCESS, as R446 has it. DESIGN CHOICE, safe (log 8). -/
def execDebugAccess (dt : Nat) (write : Bool) (addr : Nat) (data : List Byte) (read : DebugRead) (s : State) : Host.Outcome State Fault Refusal :=
  let n := if write then data.length else read.len
  if n == 0 || 4096 < addr % 4096 + n || 2 ^ 48 ≤ addr then .fault .badAccess
  else .next ((s.pass dt).debugAccess addr write data read.len (read.ecc.map Fin.val))

/-! ### Dual-clock queues (R22 to R25) -/

/-- The number that a Gray code of `bits` bits stands for. -/
def grayValue (bits g : Nat) : Nat := (List.range bits).foldl (fun v i => Nat.xor v (g / 2 ^ i)) 0 % 2 ^ bits

/-- The Gray-code steps between two pointers of `bits` bits, which wrap. -/
def graySteps (bits a b : Nat) : Nat :=
  let d := wrapSub bits (grayValue bits a) (grayValue bits b)
  min d (2 ^ bits - d)

/-- Whether a side detects a mismatch of a pointer of `bits` bits (R22): its local copies differ; the synchronised copies differ by more than one
step, or differ for more than 3 consecutive cycles. DESIGN CHOICE, unsafe (log 179). -/
def PtrHeld.differs (p : PtrHeld) (bits : Nat) : Bool :=
  p.own0 != p.own1 || 1 < graySteps bits p.syn0 p.syn1 || (p.syn0 != p.syn1 && 3 < p.apart)

/-- The write or the read pointer of a queue as its copies now stand. -/
def DcqSt.hold (x : DcqSt) (c : PointerCopies) : DcqSt :=
  let p : PtrHeld := { own0 := c.own0, own1 := c.own1, syn0 := c.syn0, syn1 := c.syn1, apart := c.apart }
  if c.reader then { x with rp := p } else { x with wp := p }

/-- Whether either side of a queue detects a mismatch: each compares its own pointer and the other side's (R22). -/
def DcqSt.differs (x : DcqSt) (bits : Nat) : Bool := x.wp.differs bits || x.rp.differs bits

/-- A reset of memory channel `c` (R25): its outstanding requests are reissued once. The first `lost` reads still return no data: each is
delivered poisoned and handled as an uncorrectable error. -/
def State.reissue (s : State) (c lost : Nat) : State :=
  let dead := (s.hbm.waiting.filter fun r => !r.write && (channelsOf r.addr r.size).contains c).take lost
  dead.foldl (fun t r =>
      let at_ := ((channelPieces r.addr r.size).find? fun p => channelOf p.1 == c).elim r.addr Prod.fst
      { t.eccFound at_ 3 false with readData := 0, readPoison := true })
    { s with hbm := { s.hbm with waiting := dead.foldl (fun l r => l.erase r) s.hbm.waiting } }

/-- A reset of a host port queue (R25): the error is signalled through AER, queued posted writes are dropped, and queued reads complete with
Completer Abort. DEDUCED, unsafe (log 26). -/
def State.hostQueueReset (s : State) : State :=
  let gone := s.hbm.waiting.filter fun r => r.unit == fbkHost
  gone.foldl (fun t r => if r.write then t else t.emit (.completerAbort r.addr))
    (({ s with hbm := { s.hbm with waiting := s.hbm.waiting.filter fun r => r.unit != fbkHost } } : State).emit .aerInternal)

/-- A transmit queue of port `p` reset (R25, kind 0x07): its packets are lost, each counted in its session (R272), and the Coppice cycles restart. DESIGN CHOICE, safe (log 25). -/
def State.loseTx (s : State) (p : Nat) : State :=
  let q := (s.portSt p).txq
  let l := q.filterMap fun f => f.session
  let s1 := (s.setPort p { s.portSt p with txq := [] }).lostFrames q
  let s2 := l.dedup.foldl (fun t k => t.txLoss p k (l.count k) (t.encOwner k)) s1
  (s2.openEncs.filter fun n => (s2.enc n).flow.isSome && (s2.enc n).port == p).foldl (fun t n => t.coppice n) s2

/-- A back-channel queue reset loses the return of the oldest frame that waits for one: it counts as MISSING (R25, R183). DEDUCED, unsafe (log 196). -/
def State.loseReturn (s : State) (n : Nat) : State :=
  match (s.look n).history.find? fun e => e.result == 0 with
  | none => s
  | some e =>
    let (l, t) := s.returnResult n e.f 3 0 false
    if l then t.returnRetrain n else t

/-- The effect of one reset (R25) of queue `i` of a kind; `lost` received packets were in a packet port's queue. Queues of two directions
are numbered object × 2 + direction, the receiving one first. DESIGN CHOICE, safe (log 12, 25, 171). DESIGN CHOICE, unsafe (log 24). DEDUCED, unsafe (log 26). -/
def State.queueReset (s : State) (kind i lost : Nat) : State :=
  match kind with
  | 0x01 => s.setOut i { s.out i with urLost := true }
  | 0x03 => (s.setLane i { s.lane i with queue := [] }).setOut i { s.out i with frameCut := true }
  | 0x04 => s.loseReturn i
  | 0x05 => s.tearCapture i 0
  | 0x06 => if i % 2 == 1 then s.setLane (pairLane (i / 2)) { s.lane (pairLane (i / 2)) with queue := [] } else s
  | 0x07 => if i % 2 == 0 then s.bump (Reg.PKT_PORT_CNT_DROP (i / 2)) lost else s.loseTx (i / 2)
  | 0x08 => (s.bump (Reg.DEC_PIPE_CNT_RESET (i / 2))).abandonDec (i / 2)
  | 0x09 => (s.bump (Reg.ENC_PIPE_CNT_RESET (i / 2))).skipRest (i / 2)
  | 0x0A => s.reissue i lost
  | 0x0B => s.hostQueueReset
  | 0x0C => (List.range 4).foldl (fun t k => t.setLook (4 * i + k) { t.look (4 * i + k) with discard := true }) s
  | 0x0E => { s with clk := { s.clk with held := sparseIns s.clk.held i (s.ageOf i, s.tick + ticksPerUs / 2) } }
  | 0x0F => s.resendStrip
  | _ => s

/-- The function a LASTING fault of a queue takes out of service (R25). Kinds 0x0A, 0x0D and 0x0E are FATAL (R458). DEDUCED, unsafe (log 26). -/
def State.queueStop (s : State) (kind i : Nat) (injected : Bool) : State :=
  let q := kind * 256 + i
  let t := if kind == 0x0A || kind == 0x0D || kind == 0x0E then s else s.logFault 0x03 2 q injected
  match kind with
  | 0x01 => (t.setGate i { t.gateOut i with holds := withBits (t.gateOut i).holds 0 0 1 }).setFld (Reg.GATE_OUT_CFG_FORCE_VOID i) 1
  | 0x02 => t.setFld Reg.GATE_STATUS_ALL_STALE (withBits (t.fld Reg.GATE_STATUS_ALL_STALE) (2 * i + 1) (2 * i) 3)
  | 0x03 => (t.laneTo i lsOff 1).setLane i { (t.laneTo i lsOff 1).lane i with down := true }
  | 0x04 => t.setLook i { t.look i with retStopped := true }
  | 0x05 => t.setCap i { t.cap i with stopped := true }
  | 0x06 => (t.laneTo (pairLane (i / 2)) lsOff 12).setLane (pairLane (i / 2)) { (t.laneTo (pairLane (i / 2)) lsOff 12).lane (pairLane (i / 2)) with down := true }
  | 0x07 => (t.setPort (i / 2) { t.portSt (i / 2) with down := true }).portLink (i / 2) false
  | 0x08 => t.removeDecPipe (i / 2) 1
  | 0x09 => t.removeEncPipe (i / 2) 1
  | 0x0A => ({ t with hbm := { t.hbm with fenced := i :: t.hbm.fenced } }).fatal 1 0x03 q injected
  | 0x0B => t.setSys { t.sys with hostStopped := true }
  | 0x0C => ((List.range 4).foldl (fun u k => u.setLook (4 * i + k) { u.look (4 * i + k) with stopped := true }) t).setFld Reg.LKO_STATUS_READY 0
  | 0x0D => t.fatal 2 0x03 q injected
  | 0x0E => t.fatal 3 0x03 q injected
  | 0x0F => t.stopStrip
  | _ => t

/-- The class of a queue that ran on (R24): TRANSIENT. -/
def State.queueClass (s : State) (kind i : Nat) : State :=
  let q := kind * 256 + i
  let x := s.dcq q
  let t := (s.setDcq q { wp := x.wp, rp := x.rp }).logFault 0x03 1 q x.injected
  if kind == 0x08 then t.decPipeNotice (i / 2) 1 1 0 (t.decsOn (i / 2)) else if kind == 0x09 then t.encPipeNotice (i / 2) 1 1 0 (t.encsOn (i / 2)) else t

/-- QUEUE_POINTER_MISMATCH (R22 to R24): what a side sees of the pointers, judged. A mismatch resets the queue, whose pointers are cleared; a
further one within 10 ms of a reset that is not yet classed makes it LASTING. -/
def State.queueMismatch (s0 : State) (kind i : Nat) (c : PointerCopies) : State :=
  if queueCount kind ≤ i then s0
  else
    let q := kind * 256 + i
    let (inj, s) := s0.injTake 0x03 q
    let x := (s.dcq q).hold c
    if x.lasting then s
    else if !x.differs c.bits && inj.isNone then s.setDcq q x
    else if x.at_ != 0 && s.tick + 1 < x.at_ + 10 * ticksPerMs then
      ((s.queueReset kind i c.lost).queueStop kind i x.injected).setDcq q { at_ := x.at_, lasting := true, injected := x.injected }
    else
      let t := if x.at_ != 0 then s.queueClass kind i else s
      (t.queueReset kind i c.lost).setDcq q { at_ := s.tick + 1, injected := inj.isSome }

/-- QUEUE_POINTER_MISMATCH, as R23 has it. -/
def execQueuePointerMismatch (dt : Nat) (kind : Fin 16) (index : Fin 64) (copies : PointerCopies) (s : State) :
    Host.Outcome State Fault Refusal :=
  .next ((s.pass dt).queueMismatch kind.val index.val copies)

/-- QUEUE_RESUME (R23): the queue accepts entries again; a consumer of the age clock takes the current value (R25). DESIGN CHOICE, safe (log 171). -/
def State.queueResume (s : State) (q : Nat) : State :=
  let x := s.dcq q
  if x.at_ == 0 || x.lasting then s
  else
    let t := s.setDcq q { x with resumed := true }
    if q / 256 == 0x0E then { t with clk := { t.clk with held := sparseDel t.clk.held (q % 256) } } else t

/-- QUEUE_RESUME, as R23 has it. -/
def execQueueResume (dt : Nat) (kind : Fin 16) (index : Fin 64) (s : State) : Host.Outcome State Fault Refusal :=
  .next ((s.pass dt).queueResume (kind.val * 256 + index.val))

/-- QUEUE_FAULT_CLASS (R24): the queue has carried `entries` since it resumed, or 10 ms have passed. -/
def execQueueFaultClass (dt : Nat) (kind : Fin 16) (index : Fin 64) (entries : Nat) (s : State) : Host.Outcome State Fault Refusal :=
  let s1 := s.pass dt
  let x := s1.dcq (kind.val * 256 + index.val)
  .next (if x.at_ != 0 && !x.lasting && ((x.resumed && 1024 ≤ entries) || x.at_ + 10 * ticksPerMs ≤ s1.tick + 1) then
      s1.queueClass kind.val index.val else s1)

end Sys2Proof.Machine
end

