-- ==== Sys2Proof/Machine/LinkCmds.lean ====
section
/-! DEFINITION. The commands of the lanes and the capture inputs, and the end of an input's pictures and drain
(spec/11_kiene_link.md). -/

namespace Sys2Proof.Machine

open Sys2Proof

/-! ### Lanes (R331) -/

/-- Whether the pair subsystem governs a lane's power: an egress lane while a partner is declared. DEDUCED, unsafe (log 89). -/
def State.pairGoverns (s : State) (i : Nat) : Bool := i < 32 && s.isSet Reg.PAIR_STATUS_PRESENT

/-- DOWN, UP and RETRAIN (R313): DOWN moves any state to OFF, UP powers a lane that is OFF and moves FAILED to DETECT. DEDUCED, unsafe (log 88). -/
def State.laneAction (s : State) (i action : Nat) : State :=
  if action == 0 then s.laneTo i lsOff 1
  else if action == 1 then (if s.laneState i == lsFailed then s.laneTo i lsDetect 0 else s.powerLane i)
  else s.retrainLane i

/-- The checks of KLN_LANE_CTRL in the order of R393 step 8, each as (it fails, status, DETAIL). -/
def chkKlnLaneCtrl (r : Req) (s : State) : List (Bool × Nat × Nat) :=
  let i := r.u8 16
  [(r.part != 1, stPartition, noField), (47 < i || !s.laneUsable i || s.pairGoverns i, stInvalid, 16), (2 < r.u8 17, stInvalid, 17),
    (r.u16 18 != 0, stInvalid, 18)]

/-- KLN_LANE_CTRL. -/
def cmdKlnLaneCtrl (r : Req) (s : State) : State × Resp :=
  let i := r.u8 16
  s.refuseOr (chkKlnLaneCtrl r s)
    (s.laneAction i (r.u8 17), .ok [])

/-- KLN_LANE_CTRL, as R331 has it. -/
def execKlnLaneCtrl (dt : Nat) (m : Fin 8) (s : State) : Host.Outcome State Fault Refusal :=
  .next ((s.pass dt).lcs m.val 0x0A01 cmdKlnLaneCtrl)

/-- The checks of KLN_LANE_QUERY in the order of R393 step 8, each as (it fails, status, DETAIL). -/
def chkKlnLaneQuery (r : Req) (_s : State) : List (Bool × Nat × Nat) :=
  [(53 < r.u8 16, stInvalid, 16), (r.u8 17 != 0 || r.u16 18 != 0, stInvalid, 17)]

/-- KLN_LANE_QUERY: an image of a lane's registers. -/
def cmdKlnLaneQuery (r : Req) (s : State) : State × Resp :=
  s.refuseOr (chkKlnLaneQuery r s)
    (s, .ok (s.regImage State.view (Reg.KLN_STAT (r.u8 16)) 46))

/-- KLN_LANE_QUERY, as R331 has it. -/
def execKlnLaneQuery (dt : Nat) (m : Fin 8) (s : State) : Host.Outcome State Fault Refusal :=
  .next ((s.pass dt).lcs m.val 0x0A02 cmdKlnLaneQuery)

/-! ### Capture inputs (R321, R322, R326, R327) -/

/-- The capture inputs a partition has enabled. -/
def State.capsOf (s : State) (p : Nat) : Nat :=
  ((List.range 16).filter fun i => s.isSet (Reg.KLN_CAP_CTRL_EN (capLane i)) && s.fld (Reg.KLN_CAP_CTRL_PARTITION (capLane i)) == p).length

/-- The limits of the fields of CAP_ENABLE. -/
def State.capEnableChecks (s : State) (r : Req) : List (Bool × Nat × Nat) :=
  let i := r.u8 16
  [(15 < i || s.capState i != ciOff || !s.laneUsable (capLane i), stInvalid, 16), (8 ≤ r.u8 17, stInvalid, 17),
   (!within 1 32 (r.u8 18), stInvalid, 18), (r.u8 19 == 0, stInvalid, 19), (!within 16 4096 (r.u16 20), stInvalid, 20),
   (!within 16 2160 (r.u16 22), stInvalid, 22), (!within 1 16777215 (r.u32 24), stInvalid, 24),
   (1048575 < r.u32 28 && r.u32 28 != 0xFFFFFFFF, stInvalid, 28),
   (overQuota r.part (s.capsOf r.part) 1 (s.partOf r.part).capQuota 0xFF, stNoSpace, noField)]

/-- An input enabled with its cell and its memory of 2^log2 bytes. DEDUCED, unsafe (log 90). -/
def State.enableCap (s : State) (r : Req) (cell base log2 : Nat) : State :=
  let i := r.u8 16
  let n := capLane i
  let flags := r.u8 17
  let w := r.u16 20
  let h := r.u16 22
  let cls := ofBool (bitAt flags 1)
  let c : CapSt := { transit := if r.u32 28 == 0xFFFFFFFF then 1024 else r.u32 28, base := base, log2 := log2 }
  let p : PicPool := { present := true, part := r.part, w := w, h := h, fmt := 1, cell := cell, cls := cls, maxViews := r.u8 18, base := base,
                       slotSize := capSlotBytes w h }
  let s1 := (((s.setCap i c).setPool 2 i p).setFbkRegion fbkCap i base (regionCfg false true log2)).allocCells cell 1 4 0 (r.u32 24) cls
    (bitAt flags 0) (r.u8 19)
  let s2 := { s1 with ldg := { s1.ldg with lent := sparsePut 0 s1.ldg.lent cell r.part } }
  let s4 := s2.wr (Reg.KLN_CAP_CTRL n) (r.part + r.u8 18 * 2 ^ 18 + cls * 2 ^ 24 + ofBool (bitAt flags 2) * 2 ^ 26)
  ((s4.wr (Reg.KLN_CAP_CELL n) cell).setCapState i ciWait).capNotice i 0

/-- CAP_ENABLE. DEDUCED, unsafe (log 162). -/
def cmdCapEnable (r : Req) (s : State) : State × Resp :=
  let log2 := log2Up 12 ((r.u8 18 + 2) * capSlotBytes (r.u16 20) (r.u16 22))
  match firstBad (s.capEnableChecks r), s.placeCells false 1, s.takeMemory [log2] with
  | some (st, d), _, _ => (s, .err st d)
  | none, some cell, some (mem, t) => if s.rung 5 then (s, .err stBudget noField) else (t.enableCap r cell (mem.getD 0 0) log2, .ok (pack [(4, cell)]))
  | none, _, _ => (s, .err stNoSpace noField)

/-- CAP_ENABLE, as R326 has it. -/
def execCapEnable (dt : Nat) (m : Fin 8) (s : State) : Host.Outcome State Fault Refusal :=
  .next ((s.pass dt).lcs m.val 0x0A03 cmdCapEnable)

/-- The checks that a command names an enabled input of the sender's. -/
def State.capChecks (s : State) (r : Req) : List (Bool × Nat × Nat) :=
  let i := r.u8 16
  let on := i < 16 && s.capState i != ciOff
  [(on && r.part != 1 && r.part != s.fld (Reg.KLN_CAP_CTRL_PARTITION (capLane i)), stPartition, noField), (!on, stInvalid, 16)]

/-- The checks of CAP_DISABLE in the order of R393 step 8, each as (it fails, status, DETAIL). -/
def chkCapDisable (r : Req) (s : State) : List (Bool × Nat × Nat) :=
  let i := r.u8 16
  s.capChecks r ++ [(r.u8 17 != 0, stInvalid, 17), (decide (1000 < r.u16 18), stInvalid, 18),
    (s.sourceNamed 2 i || ciDraining ≤ s.capState i, stBusy, noField)]

/-- CAP_DISABLE. An injection may hold the drain up until its timeout (R479, 0x19). -/
def cmdCapDisable (r : Req) (s : State) : State × Resp :=
  let i := r.u8 16
  s.refuseOr (chkCapDisable r s)
    (let (inj, s1) := s.injTake 0x19 (0x300 + i)
     ((s1.setCap i { s1.cap i with drainAt := some (s1.tick + drainMs (r.u16 18) * ticksPerMs), stuck := inj.isSome, waiter := some r.waiter }).setCapState
       i ciDraining, .wait))

/-- CAP_DISABLE, as R327 has it. -/
def execCapDisable (dt : Nat) (m : Fin 8) (s : State) : Host.Outcome State Fault Refusal :=
  .next ((s.pass dt).lcs m.val 0x0A04 cmdCapDisable)

/-- The checks of CAP_QUERY in the order of R393 step 8, each as (it fails, status, DETAIL). -/
def chkCapQuery (r : Req) (s : State) : List (Bool × Nat × Nat) :=
  let i := r.u8 16
  [(i < 16 && r.part != 1 && r.part != s.fld (Reg.KLN_CAP_CTRL_PARTITION (capLane i)), stPartition, noField), (15 < i, stInvalid, 16),
    (r.u8 17 != 0 || r.u16 18 != 0, stInvalid, 17)]

/-- CAP_QUERY. -/
def cmdCapQuery (r : Req) (s : State) : State × Resp :=
  let i := r.u8 16
  s.refuseOr (chkCapQuery r s)
    (s, .ok (s.regImage State.view (Reg.KLN_CAP_CTRL (capLane i)) 10))

/-- CAP_QUERY, as R331 has it. -/
def execCapQuery (dt : Nat) (m : Fin 8) (s : State) : Host.Outcome State Fault Refusal :=
  .next ((s.pass dt).lcs m.val 0x0A05 cmdCapQuery)

/-! ### The end of a picture and of a drain -/

/-- CAP_PICTURE_COMPLETE: the last line of the picture in flight is written. -/
def execCapPictureComplete (dt : Nat) (input : Fin 16) (s : State) : Host.Outcome State Fault Refusal :=
  .next ((s.pass dt).capComplete input.val)

/-- CAP_DRAIN_COMPLETE: no picture is in flight, or the reset of the input has ended (R321, R327). -/
def State.capDrained (s : State) (i : Nat) : State :=
  let c := s.cap i
  if s.capState i == ciResetting then s.finishCap i 1
  else if s.capState i != ciDraining || c.cur.isSome || c.stuck then s
  else s.finishCap i 0

/-- CAP_DRAIN_COMPLETE, as R327 has it. -/
def execCapDrainComplete (dt : Nat) (input : Fin 16) (s : State) : Host.Outcome State Fault Refusal :=
  .next ((s.pass dt).capDrained input.val)

/-- CAP_DRAIN_TIMEOUT: the picture is discarded and the input is RESETTING until the drain's remaining steps are done (R327). -/
def State.capDrainTimeout (s : State) (i : Nat) : State :=
  match (s.cap i).drainAt with
  | none => s
  | some t =>
    if s.capState i != ciDraining || s.tick < t then s
    else
      let c := s.cap i
      let s1 := (s.setCap i { c with cur := none, drainAt := none, stuck := false }).setCapState i ciResetting
      (s1.raise (Reg.KLN_CAP_STAT_DRAIN_RESET (capLane i))).logFault 0x19 1 (0x300 + i) c.stuck

/-- CAP_DRAIN_TIMEOUT, as R327 has it. -/
def execCapDrainTimeout (dt : Nat) (input : Fin 16) (s : State) : Host.Outcome State Fault Refusal :=
  .next ((s.pass dt).capDrainTimeout input.val)

end Sys2Proof.Machine
end

