-- ==== Sys2Proof/Machine/PairCmds.lean ====
section
/-! DEFINITION. The pair subsystem's own events and the PAIR_ commands (spec/12_pair_operation.md). What the pair link delivers
stands in Machine/MirrorCmds.lean. -/

namespace Sys2Proof.Machine

open Sys2Proof

/-! ### Heartbeat (R338 to R340) -/

/-- PAIR_DUAL. -/
def State.dualNotice (s : State) (side us : Nat) : State := s.notice 0x0B06 0 [0] (pack [(1, side), (3, 0), (4, us)])

/-- T_SEL and T_YIELD in ticks (R335, R366). -/
def tSel : Nat := 650000
def tYield : Nat := 8333500

/-- From T_SEL after OUT_OWN was asserted a low SEL_STATUS shows dual assertion: once in a claim, until SEL_STATUS goes high (R366, R369).
DEDUCED, unsafe (log 102). -/
def State.checkDual (s : State) : State :=
  match s.pair.ownAt with
  | none => s
  | some t =>
    if s.isSet Reg.PAIR_PINS_SEL_STATUS then s.setPair { s.pair with dualSeen := false }
    else if s.pairPresent && s.since t tSel && !s.pair.dualSeen then
      let s1 := s.setPair { s.pair with dualSeen := true }
      if s1.isSet Reg.PAIR_EVT_DUAL then s1 else (s1.raise Reg.PAIR_EVT_DUAL).dualNotice 0xFF 0
    else s

/-- HB_PIN_TOGGLE (R338): where the age clock is a multiple of 50,000 ns, within 20 ns, once at each; an injection may hold the pin (R479, 0x15). DEDUCED, safe (log 103). DEDUCED, unsafe (log 221). -/
def execHbPinToggle (dt : Nat) (s : State) : Host.Outcome State Fault Refusal :=
  let s1 := (s.pass dt).checkDual
  let r := s1.ageNs % 50000
  let apart := match s1.pair.toggledAt with
    | none => true
    | some t => s1.since t (20 * ticksPerUs)
  .next (if s1.heartRuns && s1.role != roFaulted && (r ≤ 20 || 49980 ≤ r) && apart then
      let (inj, s2) := (s1.setPair { s1.pair with toggledAt := some s1.tick }).injTake 0x15 0 (fun _ => 1)
      let s3 := match inj with
        | some ms => s2.setPair { s2.pair with hbHeld := s2.tick + ms * ticksPerMs }
        | none => s2
      if s3.tick < s3.pair.hbHeld then s3 else s3.setFld Reg.PAIR_PINS_HB_OUT (1 - s3.fld Reg.PAIR_PINS_HB_OUT)
    else s1)

/-- The body of a HEARTBEAT on pair lane `k` (R341): role, phase, side, flags (bit 0 RESTARTING, bit 1 CROSSCHECK, bit 2 the sender
holds ages), T_loss in µs, own age clock and PTP time as they leave the lane (R350), the partner's last transmit time and its local
receive time, TIM_STATUS, the number of joins begun. DESIGN CHOICE, unsafe (log 93). DEDUCED, unsafe (log 95, 221). -/
def State.heartbeat (s : State) (k : Nat) : List Byte :=
  let lat := s.txLatency (pairLane k)
  pack [(1, s.role), (1, s.pairPhase), (1, s.fld Reg.PAIR_STATUS_SIDE), (1, ofBool (!s.ready) + 2 * s.fld Reg.PAIR_STATUS_CROSSCHECK + 4 * ofBool s.holdsAge),
    (4, s.fld Reg.PAIR_TLOSS_US), (8, s.ageNs + lat), (8, s.ptpNs + lat), (8, s.pair.partnerTx), (8, s.pair.partnerRx), (4, s.rd Reg.TIM_STATUS), (4, s.pair.joins)]

/-- HEARTBEAT_SEND (R338): every 100 µs on each ACTIVE pair lane. -/
def execHeartbeatSend (dt : Nat) (s : State) : Host.Outcome State Fault Refusal :=
  let s1 := (s.pass dt).checkDual
  let due := match s1.pair.sentAt with
    | none => true
    | some t => s1.since t (100 * ticksPerUs)
  .next (if s1.heartRuns && due then
      s1.pairLanes.foldl (fun t k => t.sendFlit (pairLane k) { type := 3, payload := (PairMsg.bytes { pseq := 0, type := 1, body := s1.heartbeat k } 0) })
        (s1.setPair { s1.pair with sentAt := some s1.tick })
    else s1)

/-- HB_PIN_EDGE (R340, R350): a gap over 200 µs counts; while the link is silent a junior holds its rate by the edges. -/
def execHbPinEdge (dt : Nat) (level : Bool) (s : State) : Host.Outcome State Fault Refusal :=
  let s1 := (s.pass dt).setFld Reg.PAIR_PINS_HB_IN (ofBool level)
  let s2 := match s1.pair.pinAt with
    | some t => if t + 200 * ticksPerUs < s1.tick then s1.bump Reg.PAIR_CNT_PIN_GAP else s1
    | none => s1
  let s3 := (s2.setPair { s2.pair with pinAt := some s2.tick, lost := false }).showAlive
  .next (if s3.junior && !s3.alive s3.pair.linkAt && (s3.role == roBlind || s3.role == roActive || s3.role == roStandby) then
      s3.nextFree.setAgeAdj (Config.ageRate s3.fresh)
    else s3)

/-- The junior's age clock minus the senior's and the standby's PTP time minus the active's, from the two-way exchange of times
(R350): `d` is this device's age clock minus the partner's, `p` the same of PTP time. -/
def State.showOffsets (s : State) (d p : Int) : State :=
  (s.wr Reg.PAIR_AGE_OFS (sat32 (if s.junior then d else -d))).wr Reg.PAIR_PTP_OFS (sat32 (if s.drives then -p else p))

/-- The age offset a HEARTBEAT that reached the lane at `now` gives, and the one-way delay, in ns: transmit and receive times are those at
the lanes (R296, R350). DEDUCED, unsafe (log 95, 221). -/
def twoWay (now age echoTx echoRx : Nat) : Int × Int :=
  let there : Int := (echoTx : Int) - echoRx
  let back : Int := (now : Int) - age
  if echoTx == 0 then (back, 0) else ((there + back) / 2, back - (there + back) / 2)

/-- The rates that a heartbeat lets the pair subsystem write: AGE_ADJ on a junior, PTP_ADJ on a standby (R277, R350, R351). DESIGN CHOICE, safe (log 18). -/
def State.pairRates (s : State) (d : Int) : State :=
  let s1 :=
    if !s.junior then s
    else if s.pair.ageRate then
      if d ≤ 1000 then (s.setPair { s.pair with ageRate := false }).nextFree.setAgeAdj (Config.ageRate s.fresh) else s
    else s.nextFree.setAgeAdj (Config.ageRate s.fresh)
  if s1.role == roStandby then s1.nextFree.setPtpAdj (Config.pairRate s1.fresh) else s1

/-- A join or resynchronisation begins (R352 step 2): ages and PTP time aligned. -/
def State.beginJoin (s : State) (phase : Nat) (d p : Int) (status tloss : Nat) : State :=
  let s1 := (s.setRole roBlind phase (s.fld Reg.PAIR_STATUS_CAUSE)).setFld Reg.PAIR_TLOSS_US tloss
  let s2 := s1.alignJoin d
  if s2.role == roFaulted then s2
  else
    let s3 := s2.alignPtp (-p) status
    ((s3.wr Reg.PAIR_PSEQ_TX 0).wr Reg.PAIR_PSEQ_RX 0).setPair { s3.pair with aligned := true, joins := s3.pair.joins + 1, held := [], gapAt := none, retx := false, startedAt := none, xferBytes := 0, xferDone := false }

/-- What the partner's role and phase make of this device's (R337, R352); joins wait for Lysman firmware (R368). `d`, `p` as measured; `join` is the
partner's join, `holds` says that the partner holds ages: an active junior then aligns forward by at most 2 ms (R350). -/
def State.meetPartner (s : State) (d p : Int) (status tloss join : Nat) (holds : Bool) : State :=
  let r := s.pair.partnerRole
  let ph := s.pair.partnerPhase
  let joining := r == roBlind && (ph == phJoining || ph == phResync)
  let fresh := joining && (!s.pair.mirroring || s.pair.partnerJoin != join)
  let transfer (t : State) : State :=
    let u := if holds && t.junior && d < 0 && -2000000 ≤ d then t.alignAge (-d) else t
    (u.setPair { u.pair with partnerJoin := join }).startTransfer
  if s.role == roBlind then
    if s.pairPhase == phIsolated then s
    else if r == roFaulted then s.partnerGone 4
    else if r == roSolo || r == roActive then
      if s.pair.aligned || !s.ready then s
      else if s.pair.startedAt.isSome then s.beginJoin phJoining d p status tloss
      else s.beginJoin phResync d p status tloss
    else if s.pair.startedAt.isSome && r == roBlind && ph == phFinding && !s.junior then
      let s1 := (s.setOwn true).egressOn
      ((s1.setPair { s1.pair with startedAt := none }).setRole roSolo phFinding 1).settleSends
    else s
  else if s.role == roSolo then
    if r == roStandby then (s.setRole roActive phSynced 2).setFld Reg.PAIR_STATUS_CROSSCHECK 1
    else if fresh && s.ready then transfer s
    else s
  else if s.role == roActive then
    if r == roFaulted then s.partnerGone 4
    else if r == roStandby then (if s.pair.mirroring then s.setFld Reg.PAIR_STATUS_CROSSCHECK 1 else s)
    else if fresh && s.ready then transfer s
    else if r == roBlind && s.pair.mirroring && !joining then s.stopMirror
    else s
  else if s.role == roStandby then (if r == roFaulted then s.partnerGone 4 else s)
  else s

/-- PAIR_LINK when the link path is lost (R371): once until it returns. -/
def State.tellLinkLost (s : State) : State :=
  if s.pair.linkTold then
    (s.setPair { s.pair with linkTold := false }).notice 0x0B02 0 [0] (pack [(1, 0), (1, s.fld Reg.PAIR_LINK_LANES), (2, 0), (8, 0)])
  else s

/-- Forwarded steps whose PTP instant has come (R351): with each the state becomes LOCKED (R282). DEDUCED, unsafe (log 100). -/
def State.dueSteps (s : State) : State :=
  let due := s.pair.steps.filter fun p => p.1 ≤ s.ptpNs
  due.foldl (fun t p => match t.stepPtp p.2 (if t.timeState == tsFree then 0 else 1) with
    | (true, u) => u.servoTo tsLocked
    | (false, u) => u) (s.setPair { s.pair with steps := s.pair.steps.filter fun p => !(p.1 ≤ s.ptpNs) })

/-- A valid HEARTBEAT arrives on pair lane `k` (R340). DEDUCED, unsafe (log 95, 221). -/
def State.heartbeatIn (s : State) (k : Nat) (b : List Byte) : State :=
  let lat := s.rxLatency (pairLane k)
  let s1 := match s.pair.linkAt with
    | some t => if t + 500 * ticksPerUs < s.tick then s.bump Reg.PAIR_CNT_LINK_GAP else s
    | none => s
  let age := fieldAt b 8 8
  let (d, delay) := twoWay (s1.ageNs - lat) age (fieldAt b 24 8) (fieldAt b 32 8)
  let p : Int := (s1.ptpNs : Int) - lat - ((fieldAt b 16 8 : Nat) + delay)
  let s2 := (s1.setPair { s1.pair with linkAt := some s1.tick, linkTold := true, lost := false, partnerRole := fieldAt b 0 1, partnerPhase := fieldAt b 1 1,
                                       partnerTx := age, partnerRx := s1.ageNs - lat }).showAlive
  let s3 := (s2.setFld Reg.PAIR_STATUS_PARTNER_RESTARTING (fieldAt b 3 1 % 2)).showOffsets d p
  let s4 := if s.pair.linkTold then s3
    else s3.notice 0x0B02 0 [0] (pack [(1, 1), (1, s3.fld Reg.PAIR_LINK_LANES), (2, 0), (8, 0)])
  (s4.meetPartner d p (fieldAt b 40 4) (fieldAt b 4 4) (fieldAt b 44 4) (bitAt (fieldAt b 3 1) 2)).dueSteps.pairRates d

/-- HEARTBEAT_RECEIVED (R337, R340, R350, R351) on an ACTIVE pair lane. -/
def execHeartbeatReceived (dt : Nat) (lane : Fin 4) (body : List Byte) (s : State) : Host.Outcome State Fault Refusal :=
  let s1 := s.pass dt
  .next (if s1.isSet Reg.PAIR_STATUS_READY && s1.laneActive (pairLane lane.val) && body.length == 48 then (s1.heartbeatIn lane.val body).returnCredits else s1)

/-- PARTNER_LOST (R337, R340): both paths silent. -/
def execPartnerLost (dt : Nat) (s : State) : Host.Outcome State Fault Refusal :=
  let s1 := (s.pass dt).showAlive
  let silent (t : Option Nat) : Bool := t.isSome && !s1.alive t
  .next (if s1.isSet Reg.PAIR_STATUS_READY && !s1.pair.lost && !s1.alive s1.pair.pinAt && !s1.alive s1.pair.linkAt &&
      (silent s1.pair.pinAt || silent s1.pair.linkAt) then
      ((s1.tellLinkLost.setPair { s1.tellLinkLost.pair with lost := true }).partnerGone 3).returnCredits
    else s1)

/-- PAIR_LINK_LOST (R354): the link path silent while the pin path lives. -/
def execPairLinkLost (dt : Nat) (s : State) : Host.Outcome State Fault Refusal :=
  let s1 := (s.pass dt).showAlive
  let lost := (s1.raise Reg.PAIR_EVT_LINK_LOST).tellLinkLost
  .next (if s1.isSet Reg.PAIR_STATUS_READY && s1.pair.linkAt.isSome && !s1.alive s1.pair.linkAt && s1.alive s1.pair.pinAt then
      if s1.role == roStandby then (lost.dropMirror.setRole roBlind phFinding 9).endSwitch 0
      else if s1.role == roActive && s1.pair.mirroring then lost.stopMirror.returnCredits
      else if s1.role == roBlind && s1.pair.aligned then lost.dropMirror.setRole roBlind phFinding 9
      else s1.tellLinkLost
    else s1)

/-- FINDING_TIMEOUT (R337): 2.0 s without a partner heartbeat on either path. -/
def execFindingTimeout (dt : Nat) (s : State) : Host.Outcome State Fault Refusal :=
  let s1 := s.pass dt
  .next (match s1.pair.startedAt with
    | none => s1
    | some t =>
      let last := max t (max (s1.pair.pinAt.getD 0) (s1.pair.linkAt.getD 0))
      if s1.role == roBlind && s1.pairPhase == phFinding && s1.since last (2 * ticksPerS) then
        let s2 := (s1.setOwn true).egressOn
        ((s2.setPair { s2.pair with startedAt := none }).setRole roSolo phFinding 1).settleSends
      else s1)

/-! ### Egress bring-up (R362) -/

/-- PAIR_EGRESS_FAIL. -/
def State.egressNotice (s : State) (retaken : Bool) (l : List Nat) : State :=
  s.notice 0x0B05 0 [0] (pack [(1, ofBool retaken), (3, 0), (4, maskOf l)])

/-- A bring-up has ended well: a device that took over by a switchover reports it, and a waiting switchover ends, retaken (1) where the
device took the displays back because the partner failed or was lost. DEDUCED, unsafe (log 244). -/
def State.egressDone (s : State) : State :=
  let result := if s.role == roSolo && s.fld Reg.PAIR_STATUS_CAUSE != 5 then 1 else 0
  if s.pair.egressAt.isNone || !s.egressMissing.isEmpty then s
  else
    let s1 := s.setPair { s.pair with egressAt := none, switching := false, swWaiter := none }
    let s2 := if s.pair.switching then s1.pairOrdered 0x08 (pack [(1, 2), (7, 0), (8, s1.ptpNs)]) else s1
    s2.answer s.pair.swWaiter stOk (pack [(4, result)])

/-- EGRESS_BRINGUP_TIMEOUT (R362): 8 ms after OUT_OWN a lane of an enabled output is not ACTIVE. -/
def execEgressBringupTimeout (dt : Nat) (s : State) : Host.Outcome State Fault Refusal :=
  let s1 := (s.pass dt).showAlive
  .next (match s1.pair.egressAt with
    | none => s1
    | some t =>
      if !s1.since t (8 * ticksPerMs) then s1
      else if s1.egressMissing.isEmpty then s1.egressDone
      else
        let l := s1.egressMissing
        let w := s1.pair.swWaiter
        let s2 := (s1.raise Reg.PAIR_EVT_EGRESS_FAIL).setPair { s1.pair with egressAt := none, swWaiter := none }
        if (s2.alive s2.pair.pinAt || s2.alive s2.pair.linkAt) && s2.pair.partnerRole != roFaulted then
          (((s2.pairOrdered 0x08 (pack [(1, 1), (7, 0), (8, s2.ptpNs)])).egressNotice true l).enterFaulted 11).answer w stOk (pack [(4, 1)]) |>.returnCredits
        else
          let s3 := l.foldl (fun u n =>
            let g := u.gateOut n
            (u.setGate n { g with holds := if bitAt g.holds 3 then g.holds else g.holds + 8 }).logFault 0x08 2 n) s2
          ((s3.setPair { s3.pair with voids := l }).egressNotice false l).answer w stOk (pack [(4, 2)]))

/-- FORCE_VOID_HOLD_RELEASE (R362): the lane has been ACTIVE for 1 s. -/
def execForceVoidHoldRelease (dt : Nat) (output : Fin 32) (s : State) : Host.Outcome State Fault Refusal :=
  let s1 := s.pass dt
  let n := output.val
  .next (if s1.pair.voids.contains n && s1.laneActive n && s1.since (s1.lane n).since ticksPerS then
      let g := s1.gateOut n
      (s1.setGate n { g with holds := if bitAt g.holds 3 then g.holds - 8 else g.holds }).setPair
        { s1.pair with voids := s1.pair.voids.filter fun x => x != n }
    else s1)

/-! ### Dual assertion and interlock (R366, R367) -/

/-- SEL_STATUS_CHANGE (R366): a low level while OUT_OWN has been asserted for T_SEL shows dual assertion. -/
def execSelStatusChange (dt : Nat) (level : Bool) (s : State) : Host.Outcome State Fault Refusal :=
  let s1 := (s.pass dt).setFld Reg.PAIR_PINS_SEL_STATUS (ofBool level)
  .next (match s1.pair.ownAt with
    | none => s1
    | some _ => (s1.setPair { s1.pair with selLowAt := if level then none else some (s1.pair.selLowAt.getD s1.tick) }).checkDual)

/-- YIELD (R366): in native mode, SEL_STATUS low for T_YIELD counted from T_SEL after the assertion. DEDUCED, unsafe (log 102). -/
def execYield (dt : Nat) (s : State) : Host.Outcome State Fault Refusal :=
  let s1 := s.pass dt
  .next (match s1.pair.ownAt, s1.pair.selLowAt with
    | some own, some low =>
      if s1.pairPresent && !s1.ilkMode && (s1.role == roSolo || s1.role == roActive) && s1.since (max (own + tSel) low) tYield then
        let us := (s1.tick - own) / ticksPerUs
        let s2 := (((s1.setOwn false).stopMirror.raise Reg.PAIR_EVT_YIELD).raise Reg.PAIR_EVT_DUAL).bump Reg.PAIR_CNT_YIELD
        let s3 := (s2.setPair { s2.pair with egressAt := none, aligned := false }).setRole roBlind phIsolated 8
        (((s3.egressOff.settleSends).dualNotice (s3.fld Reg.PAIR_STATUS_SIDE) us).endSwitch 2).returnCredits
      else s1
    | _, _ => s1)

/-- ILK_IN_CHANGE (R333, R367): low while a device waits whose partner is lost, the partner is alive but unreachable. -/
def execIlkInChange (dt : Nat) (low : Bool) (s : State) : Host.Outcome State Fault Refusal :=
  let s0 := (s.pass dt).setFld Reg.PAIR_PINS_ILK_IN (ofBool low)
  let s1 := s0.setPair { s0.pair with ilkHighAt := if low then none else some s0.tick }
  .next (if low && s1.pair.ilkWaitAt.isSome && s1.pair.claimAt.isNone && s1.pair.retryAt.isNone && s1.pair.lost then s1.isolate s1.pair.cause else s1)

/-- Whether a device that waits for the interlock may claim it (R336, R339, R367): a standby of either kind whose heartbeat runs. -/
def State.mayClaim (s : State) : Bool := s.heartRuns && (s.role == roStandby || s.role == roBlind)

/-- Since when ILK_IN_N has been high, none while it is low. -/
def State.ilkHigh (s : State) : Option Nat := if s.isSet Reg.PAIR_PINS_ILK_IN then none else some (s.pair.ilkHighAt.getD 0)

/-- ILK_WAIT_EXPIRY (R367): ILK_IN_N high for 20 ms since the partner loss, or the time of a retry has come: the claim is driven. -/
def execIlkWaitExpiry (dt : Nat) (s : State) : Host.Outcome State Fault Refusal :=
  let s1 := s.pass dt
  .next (match s1.pair.ilkWaitAt, s1.pair.claimAt with
    | some w, none =>
      let due := match s1.pair.retryAt with
        | some t => decide (t ≤ s1.tick)
        | none => match s1.ilkHigh with
          | some h => s1.since (max w h) (20 * ticksPerMs)
          | none => false
      if due && s1.mayClaim then (s1.setFld Reg.PAIR_PINS_ILK_OUT 1).setPair { s1.pair with claimAt := some s1.tick } else s1
    | _, _ => s1)

/-- ILK_SAMPLE (R367): 1 ms after the claim; still high, the device takes over; low, it releases and retries after 1 ms (senior) or
5 ms (junior). -/
def execIlkSample (dt : Nat) (s : State) : Host.Outcome State Fault Refusal :=
  let s1 := s.pass dt
  .next (match s1.pair.claimAt with
    | some t =>
      if !s1.since t ticksPerMs || !s1.mayClaim then s1
      else if !s1.isSet Reg.PAIR_PINS_ILK_IN then s1.takeOver s1.pair.cause s1.pair.blind
      else (s1.setFld Reg.PAIR_PINS_ILK_OUT 0).setPair
        { s1.pair with claimAt := none, retryAt := some (s1.tick + (if s1.junior then 5 else 1) * ticksPerMs) }
    | none => s1)

/-! ### Switchover (R365) -/

/-- SWITCHOVER_INSTANT: the active hands over at the PTP instant; the standby asserts 10 µs later, in interlock mode once ILK_IN_N has
been high for 1 ms. A switchover waits for Lysman firmware (R368). -/
def execSwitchoverInstant (dt : Nat) (s : State) : Host.Outcome State Fault Refusal :=
  let s1 := s.pass dt
  .next (match s1.pair.swAt with
    | none => s1
    | some at_ =>
      if s1.role == roActive then
        if s1.ptpNs < at_ || !s1.ready then s1
        else
          let s2 := ((s1.setOwn false).stopMirror).setRole roStandby phSynced 5
          let s3 := (s2.setPair { s2.pair with swAt := none }).setFld Reg.PAIR_STATUS_CROSSCHECK 1
          s3.egressOff.settleSends.returnCredits
      else if s1.role == roStandby then
        let clear := !s1.ilkMode || (match s1.ilkHigh with
          | some h => s1.since h ticksPerMs
          | none => false)
        if s1.ptpNs < at_ + 10000 || !clear || !s1.ready then s1
        else
          let s2 := (s1.claimDisplays true).setRole roActive phSynced 5
          ((s2.setPair { s2.pair with swAt := none, mirroring := true, aligned := false }).setFld Reg.PAIR_STATUS_CROSSCHECK 1).settleSends
      else s1.setPair { s1.pair with swAt := none })

/-! ### The join's cutover (R352 step 4) -/

/-- The running outputs go on from the grid instant that comes next on the common PTP time, with the active's frame numbers. -/
def State.syncFrames (s : State) : State :=
  (List.range 32).foldl (fun t n =>
    if t.outState n != osRunning then t
    else
      let o := t.out n
      let next := gridIndex (t.mode n) o.nextBase t.ptpNs
      let ahead := next - o.nextK
      let o1 := { o with base := o.nextBase, k := next - 1, nextK := next, rephase := none, later := none, sampled := 0, line := 0, ended := true,
                         posted := true, latched := true, waiter := none, drainAt := none, urLines := [], urLost := false, frameCut := false }
      (t.setOut n o1).wr (Reg.CNP_OUT_FRAME n) (((t.frameNo n : Int) + ahead) % (2 ^ 32 : Int)).toNat) s

/-- PAIR_GAP_TIMEOUT (R342): a gap unfilled for 100 µs is asked for once; unfilled again, mirroring ends. -/
def execPairGapTimeout (dt : Nat) (s : State) : Host.Outcome State Fault Refusal :=
  let s1 := s.pass dt
  .next (match s1.pair.gapAt with
    | none => s1
    | some t =>
      if !s1.since t (100 * ticksPerUs) then s1
      else if !s1.pair.retx then
        let first := s1.rd Reg.PAIR_PSEQ_RX
        let last := wrapSub 32 ((s1.pair.held.map fun m => m.pseq).foldl (fun a q => if newer 32 a q then q else a)
          ((s1.pair.held.head?.map fun m => m.pseq).getD first)) 1
        (s1.setPair { s1.pair with retx := true, gapAt := some s1.tick }).pairLoose 0x0A (pack [(4, first), (4, last)])
      else if s1.role == roStandby || (s1.role == roBlind && s1.pair.aligned) then s1.dropMirror.setRole roBlind phResync 13
      else s1.setPair { s1.pair with held := [], gapAt := none, retx := false })

/-! ### Commands (R370, R408) -/

/-- HOT_EGRESS applied on a device that does not drive (R363). -/
def State.applyHotEgress (s : State) : State :=
  if s.drives || !s.pairPresent || s.role == roFaulted then s
  else if s.isSet Reg.PAIR_STATUS_HOT_EGRESS then s.egressOn else s.egressOff

/-- Every dispute rectangle removed, from the next frame on. DEDUCED, unsafe (log 102). -/
def State.clearDisputes (s : State) : State :=
  (List.range 32).foldl (fun t n =>
    let old := (t.pairOut n).disputes
    if old.isEmpty && t.fld (Reg.PAIR_OUT_CMP_DISPUTES n) == 0 then t
    else ((t.setPairOut n { t.pairOut n with disputes := [], later := [] }).writeDisputes n []).tellDisputes n (wrapAdd 32 (t.frameNo n) 1) old []) s

/-- The checks of PAIR_CFG in the order of R393 step 8, each as (it fails, status, DETAIL). -/
def chkPairCfg (r : Req) (s : State) : List (Bool × Nat × Nat) :=
  let w := r.u8 16
  [(r.part != 1, stPartition, noField), (w == 0 || 7 < w, stInvalid, 16),
    (bitAt w 1 && (1 < r.u8 17 || (r.u8 17 == 1 && !s.isSet Reg.PAIR_STATUS_DUAL_INPUT)), stInvalid, 17),
    (bitAt w 2 && 1 < r.u8 18, stInvalid, 18), (r.u8 19 != 0, stInvalid, 19), (bitAt w 0 && !within 4 100 (r.u16 20), stInvalid, 20),
    (r.u16 22 != 0, stInvalid, 22)]

/-- PAIR_CFG. -/
def cmdPairCfg (r : Req) (s : State) : State × Resp :=
  let w := r.u8 16
  s.refuseOr (chkPairCfg r s)
    (let s1 := if bitAt w 0 then s.setFld Reg.PAIR_TLOSS_US (r.u16 20 * 1000) else s
     let s2 := if bitAt w 1 then (s1.setFld Reg.PAIR_STATUS_HOT_EGRESS (r.u8 17)).applyHotEgress else s1
     let s3 := if bitAt w 2 then s2.setFld Reg.PAIR_STATUS_DISPUTE_MARK (r.u8 18) else s2
     (if bitAt w 2 && r.u8 18 == 0 then s3.clearDisputes else s3, .ok []))

/-- PAIR_CFG, as R370 has it. -/
def execPairCfg (dt : Nat) (m : Fin 8) (s : State) : Host.Outcome State Fault Refusal :=
  .next ((s.pass dt).lcs m.val 0x0B01 cmdPairCfg)

/-- Whether a switchover may begin (R365). -/
def State.maySwitch (s : State) : Bool :=
  s.role == roActive && s.pair.partnerRole == roStandby && s.pairPhase == phSynced &&
    (List.range 32).all fun n => s.outState n != osRunning || s.isSet (Reg.PAIR_OUT_CMP_CONVERGED n)

/-- The checks of PAIR_SWITCHOVER in the order of R393 step 8, each as (it fails, status, DETAIL). -/
def chkPairSwitchover (r : Req) (s : State) : List (Bool × Nat × Nat) :=
  let force := bitAt (r.u8 16) 0
  [(r.part != 1, stPartition, noField), (1 < r.u8 16, stInvalid, 16), (r.u8 17 != 0 || r.u16 18 != 0, stInvalid, 17),
    (if force then s.role != roBlind else !s.maySwitch, stInvalid, noField), (s.pair.swAt.isSome || s.pair.swWaiter.isSome, stBusy, noField)]

/-- PAIR_SWITCHOVER. -/
def cmdPairSwitchover (r : Req) (s : State) : State × Resp :=
  let force := bitAt (r.u8 16) 0
  s.refuseOr (chkPairSwitchover r s)
    (if force then
       ((s.setPair { s.pair with swWaiter := some r.waiter }).beginTakeover 5, .wait)
     else
       let at_ := s.ptpNs + 50000000
       ((s.setPair { s.pair with swAt := some at_, swWaiter := some r.waiter }).pairOrdered 0x08 (pack [(1, 0), (7, 0), (8, at_)]), .wait))

/-- PAIR_SWITCHOVER, as R365 has it. -/
def execPairSwitchover (dt : Nat) (m : Fin 8) (s : State) : Host.Outcome State Fault Refusal :=
  .next ((s.pass dt).lcs m.val 0x0B02 cmdPairSwitchover)

/-- The checks of PAIR_REJOIN in the order of R393 step 8, each as (it fails, status, DETAIL). -/
def chkPairRejoin (r : Req) (s : State) : List (Bool × Nat × Nat) :=
  [(r.part != 1, stPartition, noField), (r.u32 16 != 0, stInvalid, 16),
    (s.role != roBlind || s.pairPhase != phIsolated, stInvalid, noField)]

/-- PAIR_REJOIN. -/
def cmdPairRejoin (r : Req) (s : State) : State × Resp :=
  s.refuseOr (chkPairRejoin r s)
    ((s.setPair { s.pair with startedAt := some s.tick, aligned := false }).setRole roBlind phFinding 0, .ok [])

/-- PAIR_REJOIN, as R370 has it. -/
def execPairRejoin (dt : Nat) (m : Fin 8) (s : State) : Host.Outcome State Fault Refusal :=
  .next ((s.pass dt).lcs m.val 0x0B03 cmdPairRejoin)

/-- The checks of PAIR_QUERY in the order of R393 step 8, each as (it fails, status, DETAIL). -/
def chkPairQuery (r : Req) (_s : State) : List (Bool × Nat × Nat) :=
  [(r.u32 16 != 0, stInvalid, 16)]

/-- PAIR_QUERY. -/
def cmdPairQuery (r : Req) (s : State) : State × Resp :=
  s.refuseOr (chkPairQuery r s)
    (s, .ok (s.regImage State.view Reg.PAIR_STATUS 28 ++ s.regImage State.view (Reg.PAIR_OUT_CMP 0) 128))

/-- PAIR_QUERY, as R370 has it. -/
def execPairQuery (dt : Nat) (m : Fin 8) (s : State) : Host.Outcome State Fault Refusal :=
  .next ((s.pass dt).lcs m.val 0x0B04 cmdPairQuery)

end Sys2Proof.Machine
end

