-- ==== Sys2Proof/Machine/Mirror.lean ====
section
/-! DEFINITION. Mirroring on the receiving side (spec/12_pair_operation.md): forwarded commands, writes, doorbells and latch
decisions, the state transfer, the ordered stream, retransmission. The messages' layouts are the model's. -/

namespace Sys2Proof.Machine

open Sys2Proof

/-- Whether this device applies what the active forwards: a standby, or a joiner whose clocks are aligned. -/
def State.mirrors (s : State) : Bool := s.role == roStandby || (s.role == roBlind && s.pair.aligned)

/-- A difference from the active: a standby diverges (R344), a joiner starts its join again. DEDUCED, unsafe (log 99, 104). -/
def State.mirrorFail (s : State) : State := if s.role == roStandby then s.diverge else s.dropMirror

/-! ### Forwarded commands (R343, R344, R368) -/

/-- The commands of kind F of the ranges up to 04. -/
def mirrorLow (op : Nat) : Option (Req → State → State × Resp) :=
  match op with
  | 0x0105 => some cmdSysPartCreate
  | 0x0106 => some cmdSysPartGrant
  | 0x0107 => some cmdSysPartDestroy
  | 0x0201 => some cmdLdgCellAlloc
  | 0x0202 => some cmdLdgCellFree
  | 0x0203 => some cmdLdgCellSet
  | 0x0204 => some cmdLdgCellForce
  | 0x0206 => some cmdLdgStickyRelease
  | 0x0207 => some cmdLdgRingOpen
  | 0x0208 => some cmdLdgRingClose
  | 0x020A => some cmdLdgNotifyCfg
  | 0x0301 => some cmdGateBindSet
  | 0x0302 => some cmdGateBindClear
  | 0x0304 => some cmdGateTreatCfg
  | 0x0305 => some cmdGateOutputCfg
  | 0x0401 => some cmdStandCfg
  | 0x0402 => some cmdOutEnable
  | 0x0403 => some cmdOutDisable
  | 0x0404 => some cmdOutSet
  | 0x0411 => some cmdCnpBufSet
  | 0x0412 => some cmdCnpBufClear
  | 0x0413 => some cmdCnpLayoutPrepare
  | 0x0414 => some cmdCnpCringOpen
  | 0x0415 => some cmdCnpCringClose
  | _ => none

/-- Those of the ranges from 05 on. -/
def mirrorHigh (op : Nat) : Option (Req → State → State × Resp) :=
  match op with
  | 0x0501 => some cmdLkoRegionSet
  | 0x0502 => some cmdLkoRegionClear
  | 0x0503 => some cmdLkoRefSet
  | 0x0601 => some cmdDecSessionOpen
  | 0x0602 => some cmdDecSessionClose
  | 0x0603 => some cmdDecSessionParams
  | 0x0604 => some cmdDecSessionAnchor
  | 0x0606 => some cmdDecPipeCtrl
  | 0x0701 => some cmdEncSessionOpen
  | 0x0702 => some cmdEncSessionClose
  | 0x0703 => some cmdEncSessionSet
  | 0x0704 => some cmdEncRefresh
  | 0x0706 => some cmdEncPipeCtrl
  | 0x0801 => some cmdPktPortCfg
  | 0x0802 => some cmdPktFlowSet
  | 0x0803 => some cmdPktFlowKey
  | 0x0804 => some cmdPktTxFlowSet
  | 0x0901 => some cmdTimCfg
  | 0x0902 => some cmdTimReEpoch
  | 0x0903 => some cmdTimPpsCfg
  | 0x0A01 => some cmdKlnLaneCtrl
  | 0x0A03 => some cmdCapEnable
  | 0x0A04 => some cmdCapDisable
  | 0x0B01 => some cmdPairCfg
  | 0x0D01 => some cmdPolCfg
  | _ => none

/-- A result other than the active's: of a placement, on a standby that has lost a pipe, FAULTED (R430); else a divergence (R344). DEDUCED, unsafe (log 166). -/
def State.mirrorDiffers (s : State) (op : Nat) : State :=
  if s.role == roStandby && [0x0601, 0x0606, 0x0701, 0x0703, 0x0706].contains op && !(s.lostDecPipes.isEmpty && s.lostEncPipes.isEmpty) then
    s.enterFaulted 7
  else s.mirrorFail

/-- The standby executes a forwarded command and compares status and body with the active's. `whole` is the message's length, the
message, the active's status and its body. -/
def State.runMirrored (s : State) (whole : List Byte) : State :=
  let len := fieldAt whole 0 2
  let msg := (whole.drop 2).take len
  let status := fieldAt whole (2 + len) 2
  let body := whole.drop (4 + len)
  let op := fieldAt msg 0 2
  if op == 0x0DFF then s.takeDecision msg
  else match (mirrorLow op).or (mirrorHigh op) with
    | none => s.mirrorFail
    | some f =>
      let serial := s.pair.serial + 1
      let t0 := s.setPair { s.pair with serial := serial }
      let same (t : State) (st : Nat) (b : List Byte) : State := if st == status && b == body then t else t.mirrorDiffers op
      match f { mbx := mirrorMbx, part := fieldAt msg 8 2, msg := msg, serial := serial } t0 with
      | (t, .ok b) => same t stOk b
      | (t, .more b) => same t stOk b
      | (_, .err st _) => same t0 st []
      | (t, .fail st _ b) => same t st b
      | (t, .wait) => t.setPair { t.pair with waits := t.pair.waits ++ [(serial, status, body)] }

/-- A forwarded command executes at once while Lysman firmware is ready; else it waits, at most 256 at a time (R368). -/
def State.takeForwarded (s : State) (whole : List Byte) : State :=
  if s.ready && s.pair.lcsWait.isEmpty then s.runMirrored whole
  else if 256 ≤ s.pair.lcsWait.length then s.mirrorFail
  else s.setPair { s.pair with lcsWait := s.pair.lcsWait ++ [{ type := 2, body := whole }] }

/-- Lysman firmware is ready again: the commands that waited execute in order, and the actions that waited are taken. -/
def State.runWaiting (s : State) : State :=
  (s.pair.lcsWait.foldl (fun t m => if t.mirrors then t.runMirrored m.body else t) (s.setPair { s.pair with lcsWait := [] })).runActs

/-- A part of a forwarded command. -/
def State.lcsPart (s : State) (b : List Byte) : State :=
  let whole := fieldAt b 0 2
  let off := fieldAt b 2 2
  let got := if off == 0 then b.drop 4 else s.pair.gather ++ b.drop 4
  if off != 0 && off != s.pair.gather.length then s.mirrorFail
  else if got.length < whole then s.setPair { s.pair with gather := got }
  else (s.setPair { s.pair with gather := [] }).takeForwarded (got.take whole)

/-! ### Forwarded writes and doorbells (R344) -/

/-- A host write the active applied, performed through FBK_PAIR; one it dropped is dropped. DEDUCED, unsafe (log 99). -/
def State.mirrorWrite (s : State) (b : List Byte) : State :=
  let a := fieldAt b 0 8
  let data := b.drop 9
  if fieldAt b 8 1 == 0 then s
  else
    let (ok, _, s1) := s.unitStore fbkPair a data
    if ok then s1 else s1.mirrorFail

/-- A doorbell: BAR0 offset and value. -/
def State.mirrorDoorbell (s : State) (b : List Byte) : State :=
  let a := fieldAt b 0 4
  let v := fieldAt b 4 4
  match (List.range 64).find? fun r => a == Reg.LDG_CRING_PROD r with
  | some r => s.ringProd r v
  | none => match (List.range 32).find? fun n => a == Reg.CNP_CRING_PROD n with
    | some n => s.commitProd n v
    | none => s

/-! ### Latch decisions (R347, R348) -/

/-- The identity of the picture each slot with SOURCE 1 or 2 shows. -/
def State.shownIds (s : State) (n : Nat) : List (Option Nat) :=
  (List.range 8).map fun k =>
    if s.isSet (Reg.CNP_LAYER_CFG_EN n k) && s.fld (Reg.CNP_LAYER_CFG_SOURCE n k) != 0 then (s.layer n k).pic.map fun p => p.tag else none

/-- The body of a LATCH message: output, flags (bit 0 WAITING), count of decisions, target F, new CONS, commits deferred, the SEQ of the
stage applied and the slots that take a buffer; for each slot that buffer and its GEN; for each decision its status and kept
slots; for each slot whether it names a picture, and which. DESIGN CHOICE, unsafe (log 93). -/
def State.latchBody (s : State) (n f : Nat) (ds : List Decision) (plan : LatchPlan) (deferred : Nat) (waiting : Bool) : List Byte :=
  let buf (k : Nat) : Option (Nat × Nat) := plan.bufs.getD k none
  pack [(1, n), (1, ofBool waiting), (2, ds.length), (4, f), (4, s.rd (Reg.CNP_CRING_CONS n)), (4, deferred), (2, plan.stage),
      (2, maskOf ((List.range 8).filter fun k => (buf k).isSome))] ++
    ((List.range 8).flatMap fun k => pack [(2, ((buf k).getD (0, 0)).1), (2, ((buf k).getD (0, 0)).2)]) ++
    (ds.flatMap fun d => pack [(1, d.status), (1, d.kept), (2, 0)]) ++
    (s.shownIds n).flatMap fun x => pack [(1, ofBool x.isSome), (3, 0), (4, x.getD 0)]

/-- The plan of a LATCH message. DESIGN CHOICE, unsafe (log 93). -/
def latchPlanOf (b : List Byte) : LatchPlan :=
  { stage := fieldAt b 16 2
    bufs := (List.range 8).map fun k => if bitAt (fieldAt b 18 2) k then some (fieldAt b (20 + 4 * k) 2, fieldAt b (22 + 4 * k) 2) else none }

/-- The decisions of a LATCH message. What its commits show is the message's plan; the descriptors that name them for the notices are
read from the commit ring, from `c` on. -/
def State.latchDecisions (s : State) (n c : Nat) (b : List Byte) : List Decision × State :=
  (List.range (fieldAt b 2 2)).foldl (fun (a : List Decision × State) i =>
    let (d, t) := a.2.readDesc n (wrapAdd 32 c i)
    (a.1 ++ [{ desc := d, status := fieldAt b (52 + 4 * i) 1, kept := fieldAt b (53 + 4 * i) 1 }], t)) ([], s)

/-- The picture with an identity, among those complete and not being overwritten. DEDUCED, unsafe (log 101). -/
def State.picById (s : State) (source id tag : Nat) : Option Pic :=
  let x := s.pool source id
  let d := s.dec id
  let busy (i : Nat) : Bool :=
    if source == 2 then (s.cap id).cur.any fun p => p.slot == i
    else (d.cur.any fun p => p.slot == i) || (d.out.any fun p => p.slot == i) || (sparseFind d.kept i).any fun p => !p.output
  (x.slots.find? fun p => p.2.pic.tag == tag && p.2.pic.w != 0 && !busy p.1).map fun p => { p.2.pic with slot := p.1 }

/-- Layers with SOURCE 1 or 2 take the pictures that the active took; without one the newest, and the frame is PIC_SKEW. DEDUCED, unsafe (log 101). -/
def State.takeNamed (s : State) (n f : Nat) (ids : List (Option Nat)) : State :=
  (List.range 8).foldl (fun t k =>
    let src := t.fld (Reg.CNP_LAYER_CFG_SOURCE n k)
    let id := (t.layer n k).stage.id
    match ids.getD k none with
    | none => t
    | some tag =>
      if !t.isSet (Reg.CNP_LAYER_CFG_EN n k) || src == 0 || t.confirmsWait src id then t
      else
        let (inj, t1) := t.injTake 0x17 (8 * n + k)
        let found := t1.picById src id tag
        let t2 := if found.isSome then t1
          else
            let x := t1.pairOut n
            let nf := wrapAdd 32 f 1
            if x.skewF == some nf then t1 else (t1.setPairOut n { x with skewF := some nf }).bump Reg.PAIR_CNT_PIC_SKEW
        if inj.isSome then t2
        else match found.or (t2.newestPic src id) with
          | none => t2
          | some p => if (t2.layer n k).pic.any fun q => q.slot == p.slot && q.gen == p.gen then t2 else (t2.giveUp n k f).takePic n k id p) s

/-- The standby's latch line of the current frame: the LATCH messages held for the next frame and earlier ones are applied, in order. A
stage applied that is not the one prepared here is a difference. -/
def State.standbyLatch (s : State) (n : Nat) : State :=
  let f := s.frameNo n
  let nf := wrapAdd 32 f 1
  let x := s.pairOut n
  let due := x.latches.filter fun p => !newer 32 p.1 nf
  let s0 := s.latchPrep n
  match due.getLast? with
  | none => s0.latchWith n f [([], {})] 0 (s.isSet (Reg.CNP_CRING_STAT_WAITING n)) id
  | some (target, last) =>
    let s1 := s0.setPairOut n { s0.pairOut n with latches := x.latches.filter fun p => newer 32 p.1 nf, latchedF := some target }
    let (work, deferred, _, s2) := due.foldl (fun (a : List (List Decision × LatchPlan) × Nat × Nat × State) p =>
      let (l, t) := a.2.2.2.latchDecisions n a.2.2.1 p.2
      (a.1 ++ [(l, latchPlanOf p.2)], a.2.1 + fieldAt p.2 12 4, wrapAdd 32 a.2.2.1 l.length, t)) ([], 0, s1.rd (Reg.CNP_CRING_CONS n), s1)
    let base := 52 + 4 * fieldAt last 2 2
    let ids := (List.range 8).map fun k => if fieldAt last (base + 8 * k) 1 == 0 then none else some (fieldAt last (base + 8 * k + 4) 4)
    let other := work.any fun w => w.2.stage != 0 && w.2.stage != s2.fld (Reg.CNP_STAGE_SEQ n)
    let s3 := s2.latchWith n f work deferred (bitAt (fieldAt last 1 1) 0) fun t => t.takeNamed n f ids
    if s3.rd (Reg.CNP_CRING_CONS n) == fieldAt last 8 4 && !other then s3 else s3.mirrorFail

/-- A LATCH message arrives: held for this device's latch line, or applied at once between that line and the sample point of line 0. DEDUCED, unsafe (log 100). -/
def State.latchIn (s : State) (b : List Byte) : State :=
  let n := fieldAt b 0 1 % 32
  let f := fieldAt b 4 4
  let x := s.pairOut n
  let s1 := s.setPairOut n { x with latches := x.latches ++ [(f, b)] }
  let o := s1.out n
  if s1.outState n == osRunning && o.ended && o.latched && o.sampled == 0 && wrapAdd 32 (s1.frameNo n) 1 == f then s1.standbyLatch n else s1

/-- The start of frame `f` on a standby: a frame whose LATCH message has not been applied is LATE_LATCH. -/
def State.markLate (s : State) (n f : Nat) : State :=
  let x := s.pairOut n
  if s.role != roStandby || x.latchedF == some f || s.outState n != osRunning then s
  else (s.setPairOut n { x with lateF := some f }).bump Reg.PAIR_CNT_LATE_LATCH

/-! ### The transfer (R352) -/

/-- A session or input as the joiner opens it: nothing received yet, no picture. -/
def DecSes.fresh (d : DecSes) (tick : Nat) : DecSes :=
  { d with uLast := none, cur := none, out := [], refs := [], kept := [], prev := none, unclean := none, winPix := 0, winAt := tick,
           lastPacket := tick, drainAt := none, pipeDrain := false, stuck := false, waiter := none, moveTo := none, ahead := none,
           skipping := false, marker := false, wantWhole := false }

def EncSes.fresh (e : EncSes) : EncSes :=
  { e with first := true, refresh := true, sources := [], lines := [], tapping := false, cur := none, drainAt := none, pipeDrain := false,
           stuck := false, waiter := none, handed := none, moveTo := none, dropped := false }

/-- A layer's picture of a session or input is not there yet; a host buffer is. -/
def CommitSt.fresh (c : CommitSt) : CommitSt :=
  { c with layers := c.layers.map (fun p => (p.1, if p.2.stage.source == 0 then p.2 else { p.2 with pic := none })), closing := none, svc := [] }

/-- The sessions and inputs that the joiner opens. DEDUCED, unsafe (log 97). -/
def State.openAdopted (s : State) (x : Settings) : State :=
  let s1 := x.decs.foldl (fun t p =>
    if !t.isSet (Reg.DEC_SES_CTRL_OPEN p.1) then t
    else
      let t1 := t.openQueue p.1 p.2.queueBase p.2.queueLog
      let q := sparseGet {} x.queues p.1
      let t2 := t1.setQueue p.1 { t1.queue p.1 with flow := q.flow, srtp := q.srtp }
      (t2.setDec p.1 (p.2.fresh t2.tick)).setFld (Reg.DEC_SES_CTRL_STATE p.1) dsWaitParams) s
  let s2 := x.encs.foldl (fun t p => if t.isSet (Reg.ENC_SES_CTRL_OPEN p.1) then t.setEnc p.1 p.2.fresh else t) s1
  x.caps.foldl (fun t p =>
    if p.1 < 16 && t.capState p.1 != ciOff then
      ((t.setCap p.1 { p.2 with cur := none, drainAt := none, stuck := false, waiter := none, stopped := false }).setFbkRegion fbkCap p.1 p.2.base
        (regionCfg false true p.2.log2)).setCapState p.1 ciWait
    else t) s2

/-- The joiner's own cells are freed: those it has after the join are the active's. DEDUCED, unsafe (log 97). -/
def State.dropOwnCells (s : State) : State :=
  (s.ldg.cells.filter fun c => c.1 != 0 && !(c.2.ownerKind == 0 || c.2.ownerKind == 6)).foldl (fun t c =>
    t.settleCell c.1 { c.2 with ownerKind := 0, state := csVoid, sticky := false, damaged := false, filed := false }) s

/-- The settings taken over; what they open opens at the cutover. DEDUCED, unsafe (log 97). -/
def State.adopt (s : State) (x : Settings) : State :=
  let s0 := s.dropOwnCells
  let s1 := x.regs.foldl (fun t p => if settingReg p.1 then t.wr p.1 p.2.toNat else t) (s0.setPair { s0.pair with adopted := some x })
  let s2 : State := { s1 with
    parts := x.parts, grants := x.grants, stands := x.stands, groups := x.groups, outs := x.outs, regions := x.regions, fwPool := x.fwPool,
    commits := x.commits.map (fun p => (p.1, p.2.fresh))
    gate := x.gate.map (fun p => (p.1, { p.2 with holds := (s1.gateOut p.1).holds }))
    pools := x.pools.map (fun p => (p.1, { p.2 with newest := none, slots := [] }))
    pol := { s1.pol with rungs := x.pol.rungs, rungEn := x.pol.rungEn, margin := x.pol.margin, enterWin := x.pol.enterWin,
                         releaseS := x.pol.releaseS, capPct := x.pol.capPct }
    ldg := { s1.ldg with lent := x.lent, freed := x.freed, notify := x.notify, suppressed := x.suppressed }
    time := { s1.time with ports := x.time.ports, transport := x.time.transport, pcp := x.time.pcp, vlan := x.time.vlan } }
  let s3 := x.cells.foldl (fun t p => t.settleCell p.1 { p.2 with state := csVoid, confirmedAt := 0, filed := false }) s2
  let s4 := x.grants.foldl (fun t g => t.setFbkRegion fbkHost g.region g.base (regionCfg false true g.log2)) s3
  let s5 := x.disputes.foldl (fun t p => (t.setPairOut p.1 { t.pairOut p.1 with disputes := p.2 }).writeDisputes p.1 (disputeRects p.2)) s4
  let s6 := x.addrs.foldl (fun t p => t.setPort p.1 { t.portSt p.1 with addrs := p.2 }) s5
  let s7 := (s6.setFld Reg.PAIR_STATUS_HOT_EGRESS (ofBool x.hotEgress)).setFld Reg.PAIR_STATUS_DISPUTE_MARK (ofBool x.disputeMark)
  s7.applyHotEgress.settleSends

/-! ### The join's cutover (R352 step 4) -/

/-- Whether the joiner stands at a latch line: of an output that scans, or none scans. DEDUCED, unsafe (log 246). -/
def State.atLatchLine (s : State) : Bool :=
  let l := (List.range 32).filter fun n => s.outState n == osRunning
  l.isEmpty || l.any fun n => s.latchDue n || ((s.out n).latched && (s.out n).sampled == 0)

/-- The cutover: frames, dispute rectangles and comparison start over, decode sessions and inputs open, the joiner is STANDBY. DEDUCED, unsafe (log 97, 246). -/
def State.cutOver (s : State) : State :=
  let resync := s.pairPhase == phResync
  let s1 := match s.pair.adopted with
    | some x => (s.setPair { s.pair with adopted := none }).openAdopted x
    | none => s
  let s2 := (List.range 32).foldl (fun t n => t.clearConverged n) s1.syncFrames
  let s3 := ((s2.bump Reg.PAIR_CNT_RESYNC).setFld Reg.PAIR_STATUS_CROSSCHECK 1).setRole roStandby phSynced (if resync then 10 else 2)
  let s4 := if resync then
      (s3.raise Reg.PAIR_EVT_RESYNC).notice 0x0B02 0 [0] (pack [(1, 2), (1, s3.fld Reg.PAIR_LINK_LANES), (2, 0), (8, s3.pair.xferBytes)])
    else s3
  s4.applyHotEgress.settleSends

/-- JOIN_CUTOVER: the transfer has ended; at a latch line the joiner becomes STANDBY. -/
def execJoinCutover (dt : Nat) (s : State) : Host.Outcome State Fault Refusal :=
  let s1 := s.pass dt
  .next (if s1.role == roBlind && s1.pair.aligned && s1.pair.xferDone && !s1.pair.ageRate && s1.ready && s1.atLatchLine then s1.cutOver else s1)

/-- A transfer block on the joiner. DESIGN CHOICE, safe (log 98). -/
def State.xferIn (s : State) (b : List Byte) (settings : Option Settings) : State :=
  let kind := fieldAt b 0 1
  let a := fieldAt b 4 8
  let data := b.drop 12
  if s.role != roBlind || !s.pair.aligned then s
  else
    let s1 := s.setPair { s.pair with xferBytes := s.pair.xferBytes + b.length }
    if kind == 0 then
      let (ok, _, s2) := s1.unitStore fbkPair a data
      if ok then s2 else s2.mirrorFail
    else if kind == 1 then
      let size := 2 ^ fieldAt data 0 1
      let (ok, _, s2) := s1.fbkCheck fbkPair a true 1
      if ok then { s2 with mem := s2.mem.filter fun c => !(a ≤ c.1 && c.1 < a + size) } else s2.mirrorFail
    else if kind == 2 then s1.settleCell (a % cellCount) (cellOfImage data)
    else if kind == 4 then (match settings with
      | some x => s1.adopt x
      | none => s1)
    else if kind == 9 then s.setPair { s.pair with xferDone := true }
    else s1

/-! ### Roles, disputes, records, time -/

/-- A ROLE message (R362, R365): 0 handover, 1 retake, 2 report. DEDUCED, unsafe (log 96). -/
def State.roleIn (s : State) (b : List Byte) : State :=
  let kind := fieldAt b 0 1
  if kind == 0 then (if s.role == roStandby then s.setPair { s.pair with swAt := some (fieldAt b 8 8) } else s)
  else if kind == 1 then
    (if s.role == roStandby || (s.role == roBlind && s.pairPhase != phIsolated) then s.beginTakeover 4 else s)
  else if kind == 2 then
    (s.setPair { s.pair with swWaiter := none }).answer s.pair.swWaiter stOk (pack [(4, 0)])
  else s

/-- A DISPUTE message (R359): the standby writes the same rectangles at the same frame, and knows their regions, which it would age as
the new active. DEDUCED, unsafe (log 47, 245). -/
def State.disputeIn (s : State) (b : List Byte) : State :=
  let n := fieldAt b 0 1 % 32
  let f := fieldAt b 4 4
  if s.role != roStandby then s
  else
    let old := (s.pairOut n).disputes
    let new := s.disputesNamed n (disputeOf b)
    ((s.setPairOut n { s.pairOut n with disputes := new }).disputeLater n f (disputeOf b)).tellDisputes n f old new

/-- A SIGREC message (R355, R356): a record is compared once all its parts have come. -/
def State.sigRecIn (s : State) (b : List Byte) : State :=
  let (n, total, r) := sigRecOf b
  if !s.isSet Reg.PAIR_STATUS_CROSSCHECK || !(s.role == roActive || s.role == roStandby) || 32 ≤ n then s
  else ((s.setPairOut n ((s.pairOut n).gather total r)).matchRecords n).returnCredits

/-- A TIME message (R351): 0 a rate; 1 a step, taken when PTP time has reached the instant it names, by a standby and by a joiner whose
clocks are aligned. DEDUCED, unsafe (log 100, 209). -/
def State.timeIn (s : State) (b : List Byte) : State :=
  if fieldAt b 0 1 == 0 then (if s.role == roStandby then s.setPtpAdj (toInt 32 (fieldAt b 4 4)) else s)
  else if s.mirrors then (s.setPair { s.pair with steps := s.pair.steps ++ [(fieldAt b 8 8, toInt 64 (fieldAt b 16 8))] }).dueSteps
  else s

/-- A RETX message (R342): the messages of the range are sent again, oldest first. -/
def State.retxIn (s : State) (b : List Byte) : State :=
  let first := fieldAt b 0 4
  let last := fieldAt b 4 4
  (s.pair.log.reverse.filter fun m => !newer 32 first m.pseq && !newer 32 m.pseq last).foldl
    (fun t m => (t.pairFlit m 1).bump Reg.PAIR_CNT_RETX) s

/-! ### The ordered stream (R342) -/

/-- A message is delivered. DESIGN CHOICE, unsafe (log 94). -/
def State.pairDeliver (s : State) (m : PairMsg) : State :=
  match m.type with
  | 0x02 => if s.mirrors then s.lcsPart m.body else s
  | 0x03 => if s.mirrors then s.mirrorWrite m.body else s
  | 0x04 => if s.mirrors then s.mirrorDoorbell m.body else s
  | 0x05 => if s.mirrors then s.latchIn m.body else s
  | 0x07 => s.disputeIn m.body
  | 0x08 => s.roleIn m.body
  | 0x09 => s.xferIn m.body m.settings
  | 0x0B => s.timeIn m.body
  | _ => s

/-- Held messages that now come next are delivered. -/
def State.drainHeld (s : State) : Nat → State
  | 0 => s
  | k + 1 =>
    let rx := s.rd Reg.PAIR_PSEQ_RX
    match s.pair.held.find? fun m => m.pseq == rx with
    | none => s
    | some m =>
      let s1 := s.setPair { s.pair with held := s.pair.held.filter fun x => x.pseq != rx }
      ((s1.wr Reg.PAIR_PSEQ_RX (wrapAdd 32 rx 1)).pairDeliver m).drainHeld k

/-- An ordered message arrives: delivered in PSEQ order, held beyond a gap, ignored where it was delivered before. DESIGN CHOICE, unsafe (log 94). -/
def State.orderedIn (s : State) (m : PairMsg) : State :=
  let rx := s.rd Reg.PAIR_PSEQ_RX
  if m.pseq == rx then
    let s1 := ((s.wr Reg.PAIR_PSEQ_RX (wrapAdd 32 rx 1)).pairDeliver m).drainHeld s.pair.held.length
    s1.setPair { s1.pair with gapAt := if s1.pair.held.isEmpty then none else some s1.tick, retx := false }
  else if newer 32 m.pseq rx && !(s.pair.held.any fun x => x.pseq == m.pseq) then
    s.setPair { s.pair with held := s.pair.held ++ [m], gapAt := some (s.pair.gapAt.getD s.tick) }
  else s

/-- Whether messages arrive at all: the pair subsystem runs and a pair lane is ACTIVE. -/
def State.pairHears (s : State) : Bool := s.isSet Reg.PAIR_STATUS_READY && !s.pairLanes.isEmpty

/-- A pair message of any type arrives, on pair lane `k`. -/
def State.pairIn (s : State) (m : PairMsg) (k : Nat := 0) : State :=
  if !s.pairHears then s
  else match m.type with
    | 0x01 => if m.body.length == 48 then s.heartbeatIn k m.body else s
    | 0x06 => s.sigRecIn m.body
    | 0x0A => s.retxIn m.body
    | _ => s.orderedIn m

end Sys2Proof.Machine
end

