-- ==== Sys2Proof/Machine/LaneCmds.lean ====
section
/-! DEFINITION. A lane's bring-up, what a lane receives, acknowledgement, and the messages of link partners
(spec/11_kiene_link.md). -/

namespace Sys2Proof.Machine

open Sys2Proof

/-! ### Bring-up (R313, R315) -/

/-- LANE_POWER_UP_DONE: 400 µs after power-up began. -/
def State.powerUpDone (s : State) (i : Nat) : State :=
  match (s.lane i).powerAt with
  | none => s
  | some t => if s.laneState i == lsOff && s.since t (400 * ticksPerUs) then s.laneTo i lsDetect 0 else s

/-- LANE_POWER_UP_DONE, as R313 has it. -/
def execLanePowerUpDone (dt : Nat) (lane : Fin 52) (s : State) : Host.Outcome State Fault Refusal :=
  .next ((s.pass dt).powerUpDone lane.val)

/-- DETECT_PROBE: a probe of the far end ends; the next one follows 1 ms later. -/
def State.detectProbe (s : State) (i : Nat) (found : Bool) : State :=
  let x := s.lane i
  if s.laneState i != lsDetect || s.tick < x.probeAt then s
  else
    let s1 := s.setFld (Reg.KLN_STAT_PRESENT i) (ofBool found)
    if found then s1.laneTo i lsTrain 0 else s1.setLane i { x with probeAt := s.tick + ticksPerMs }

/-- DETECT_PROBE, as R313 has it. -/
def execDetectProbe (dt : Nat) (lane : Fin 52) (found : Bool) (s : State) : Host.Outcome State Fault Refusal :=
  .next ((s.pass dt).detectProbe lane.val found)

/-- A timeout out of TRAIN or CAPS. -/
def State.bringupFail (s : State) (i cause : Nat) : State :=
  ((s.bump (Reg.KLN_CNT_BRINGUP i)).raise (Reg.KLN_EVT_BRINGUP_FAIL i)).laneTo i lsDetect cause

/-- LANE_TRAIN_TIMEOUT: 2.5 ms in TRAIN. -/
def execLaneTrainTimeout (dt : Nat) (lane : Fin 52) (s : State) : Host.Outcome State Fault Refusal :=
  let s1 := s.pass dt
  let i := lane.val
  .next (if s1.laneState i == lsTrain && s1.since (s1.lane i).since (2500 * ticksPerUs) then s1.bringupFail i 7 else s1)

/-- LANE_CAPS_TIMEOUT: 1.0 ms in CAPS. -/
def execLaneCapsTimeout (dt : Nat) (lane : Fin 52) (s : State) : Host.Outcome State Fault Refusal :=
  let s1 := s.pass dt
  let i := lane.val
  .next (if s1.laneState i == lsCaps && s1.since (s1.lane i).since ticksPerMs then s1.bringupFail i 8 else s1)

/-- LANE_SIGNAL_LOSS: no valid sync header for 10 µs in ACTIVE. -/
def execLaneSignalLoss (dt : Nat) (lane : Fin 52) (s : State) : Host.Outcome State Fault Refusal :=
  let s1 := s.pass dt
  let i := lane.val
  .next (if s1.laneActive i && s1.since (s1.lane i).validAt (10 * ticksPerUs) then s1.laneTo i lsDetect 5 else s1)

/-- The lane reaches ACTIVE: a retraining of R428 and an egress bring-up (R362, R365) may end with it. DEDUCED, unsafe (log 102). -/
def State.laneReady (s : State) (i : Nat) : State :=
  let s1 := s.laneUp i
  if i < 32 then (s1.retrainDone i).egressDone else s1

/-! ### Messages of link partners (R182, R320) -/

/-- STATUS: FLAGS, MODE, ERR. A flag, SINK_PRESENT or HOLDING that changes, and the end of PARTNER_SILENT, raise KLN_PARTNER. -/
def State.statusIn (s : State) (i : Nat) (b : List Byte) : State :=
  let x := s.lane i
  let flags := fieldAt b 0 2
  let changed := flags != x.status || s.isSet (Reg.KLN_STAT_PARTNER_SILENT i) || flags % 2 != s.fld (Reg.KLN_STAT_SINK_PRESENT i) ||
    bitsAt flags 1 1 != s.fld (Reg.KLN_STAT_HOLDING i)
  let s1 := s.setLane i { x with status := flags, statusAt := s.tick }
  let s2 := ((s1.setFld (Reg.KLN_STAT_SINK_PRESENT i) (flags % 2)).setFld (Reg.KLN_STAT_HOLDING i) (bitsAt flags 1 1)).setFld
    (Reg.KLN_STAT_PARTNER_SILENT i) 0
  if changed then s2.partnerNotice i else s2

/-- HOTPLUG: EVENT, PREFERRED. -/
def State.hotplugIn (s : State) (i : Nat) (b : List Byte) : State :=
  let x := s.lane i
  let e := fieldAt b 0 1 % 2
  let changed := e != s.fld (Reg.KLN_STAT_HOTPLUG i) || fieldAt b 1 1 != x.pref
  let s1 := (s.setLane i { x with pref := fieldAt b 1 1 }).setFld (Reg.KLN_STAT_HOTPLUG i) e
  if changed then s1.partnerNotice i else s1

/-- RETURN_SIG (R182 to R184): the signatures the partner displayed, compared with the entry of the history that has its tag. A return
whose tag matches no entry counts as missing; a second return for a frame is discarded. -/
def State.returnIn (s : State) (n : Nat) (b : List Byte) : State :=
  let l := s.look n
  let tag := fieldAt b 0 2
  match l.history.find? fun e => e.tag == tag with
  | none => s.bump (Reg.LKO_OUT_CNT_RET_MISSING n)
  | some e =>
    if e.result != 0 || l.retStopped then s
    else
      let (inj, s0) := s.injTake 0x09 n fun p => p % 4
      if inj.any fun p => bitAt p 8 then s0
      else
        let sigs := (List.range 17).map fun k => fieldAt b (4 + 4 * k) 4
        let sent := if inj.isSome then e.sigs.mapIdx (fun k v => if k == 0 then xorNat v 1 else v) else e.sigs
        let bad := maskOf ((List.range 17).filter fun k => sent.getD k 0 != sigs.getD k 0)
        let s1 := ((s0.setFld (Reg.LKO_OUT_RET_STAT_FRAME_BAD n) (bad % 2)).setFld (Reg.LKO_OUT_RET_STAT_STRIPE_BAD n) (bad / 2)).wr
          (Reg.LKO_OUT_RET_SIG n) (sigs.getD 0 0)
        let (lasting, s2) := s1.returnResult n e.f (if bad == 0 then 1 else 2) bad inj.isSome
        if lasting then s2.returnRetrain n else s2

/-- One message of a MSG flit; unknown types are skipped. -/
def State.msgIn (s : State) (i type : Nat) (b : List Byte) : State :=
  if !s.rxTakes i then s
  else if type == 1 && b.length == 72 && i < 32 then s.returnIn i b
  else if type == 2 && b.length == 8 then s.statusIn i b
  else if type == 3 && b.length == 4 then s.hotplugIn i b
  else s

/-- The messages of a MSG flit's payload, each as TYPE and body. -/
def msgList : Nat → List Byte → List (Nat × List Byte)
  | 0, _ => []
  | k + 1, l =>
    let t := fieldAt l 0 1
    let n := fieldAt l 1 1
    if t == 0 || l.length < 2 + n then [] else (t, (l.drop 2).take n) :: msgList k (l.drop (2 + n))

/-- The messages of a PAIR flit's payload (R341). -/
def pairList : Nat → List Byte → List PairMsg
  | 0, _ => []
  | k + 1, l =>
    let t := fieldAt l 4 1
    let n := fieldAt l 6 2
    if t == 0 || l.length < 8 + n then []
    else { pseq := fieldAt l 0 4, type := t, body := (l.drop 8).take n } :: pairList k (l.drop (8 + n))

/-! ### Flits received (R305, R307, R308) -/

/-- A flit that is not taken as it comes: NAK for the expected SEQ; data is discarded until an IDLE, flits until the replay. -/
def State.nakNow (s : State) (i : Nat) : State :=
  (s.sendAck i true (s.fld (Reg.KLN_RX_SEQ_EXPECTED i))).setLane i { s.lane i with gather := [], discard := true, wantReplay := true }

/-- A failed flit. DEDUCED, unsafe (log 85). -/
def State.failFlit (s : State) (i : Nat) : State :=
  ((s.bump (Reg.KLN_CNT_CRC i)).raise (Reg.KLN_EVT_CRC_ERR i)).nakNow i

/-- The payload of an accepted flit is handled: pixels and MODE on capture lanes, messages, pair messages. -/
def State.useFlit (s : State) (i : Nat) (f : List Byte) : State :=
  let type := fieldAt f 2 1
  let payload := (f.drop 16).take (min 2028 (fieldAt f 4 2))
  let capture := 32 ≤ i && i < 48
  if !s.rxTakes i then (if capture then s.tearCapture (i - 32) 0 else s)
  else if type == 0 && capture then
    s.capPixels (i - 32) (fieldAt f 6 2) (fieldAt f 8 2) (fieldAt f 10 2) (fieldAt f 12 2) (bitAt (fieldAt f 3 1) 0) payload
  else if type == 1 && capture then s.capMode (i - 32) payload
  else if type == 2 then (msgList 1014 payload).foldl (fun t m => t.msgIn i m.1 m.2) s
  else if type == 3 && 48 ≤ i then (pairList 254 payload).foldl (fun t m => t.pairIn m (i - 48)) s
  else s

/-- A flit accepted and acknowledged. DEDUCED, unsafe (log 87). -/
def State.acceptFlit (s : State) (i : Nat) (f : List Byte) : State :=
  let seq := fieldAt f 0 2
  let s1 := (s.setFld (Reg.KLN_RX_SEQ_EXPECTED i) (wrapAdd 16 seq 1)).bumpWrap (Reg.KLN_CNT_FLITS_RX i)
  ((s1.setLane i { s1.lane i with wantReplay := false, discard := false }).sendAck i false seq).useFlit i f

/-- A whole flit has been received on an ACTIVE lane; `spoilt` says that a block within it was invalid or forbidden. An injection fails
it (R479, 0x08). DEDUCED, unsafe (log 85). -/
def State.takeFlit (s0 : State) (i : Nat) (f : List Byte) (spoilt : Bool) : State :=
  if !s0.laneActive i then s0
  else
    let (inj, s) := s0.injTake 0x08 i
    let seq := fieldAt f 0 2
    let expected := s.fld (Reg.KLN_RX_SEQ_EXPECTED i)
    if spoilt || inj.isSome || f.length != 2048 || fieldAt f 2044 4 != crc32 (f.take 2044) then s.failFlit i
    else if (s.lane i).wantReplay then (if bitAt (fieldAt f 3 1) 1 && seq == expected then s.acceptFlit i f else s)
    else if seq == expected then s.acceptFlit i f
    else if newer 16 seq expected then s.nakNow i
    else s

/-- KLN_FLIT_RECEIVED. -/
def execKlnFlitReceived (dt : Nat) (lane : Fin 52) (bytes : List Byte) (spoilt : Bool) (s : State) : Host.Outcome State Fault Refusal :=
  .next ((s.pass dt).takeFlit lane.val bytes spoilt)

/-- An ACK_NAK is heard on an ACTIVE lane (R309); on a pair lane credits may return with it (R346). -/
def State.ackNakIn (s : State) (i : Nat) (nak : Bool) (seq : Nat) : State :=
  if !s.laneActive i then s else if nak then s.nakFlit i seq else if 48 ≤ i then (s.ackFlit i seq).returnCredits else s.ackFlit i seq

/-- ACK_NAK_RECEIVED. -/
def execAckNakReceived (dt : Nat) (lane : Fin 52) (nak : Bool) (seq : Fin 65536) (s : State) : Host.Outcome State Fault Refusal :=
  .next ((s.pass dt).ackNakIn lane.val nak seq.val)

/-- A sender waits 4.0 µs from a flit's last block (R309), in ticks. DEDUCED, unsafe (log 86). -/
def ackTicks : Nat := 2000

/-- REPLAY_TIMEOUT: the oldest outstanding flit was neither acknowledged nor refused in time. -/
def State.replayTimeout (s : State) (i : Nat) : State :=
  match (s.lane i).out.head? with
  | none => s
  | some f => if s.laneActive i && s.since f.sentAt ackTicks then (s.bump (Reg.KLN_CNT_TIMEOUT i)).replayFrom i f.seq else s

/-- REPLAY_TIMEOUT, as R309 has it. -/
def execReplayTimeout (dt : Nat) (lane : Fin 52) (s : State) : Host.Outcome State Fault Refusal :=
  .next ((s.pass dt).replayTimeout lane.val)

/-! ### Blocks received (R298 to R305) -/

/-- One step of the scrambler x^31 + x^28 + 1: the bit it gives, and the next state. PRESUMED, unsafe (log 83). -/
def scrStep (st : Nat) : Nat × Nat :=
  let b := (bitsAt st 30 30 + bitsAt st 27 27) % 2
  (b, (2 * st + b) % 2 ^ 31)

/-- `n` bits of the scrambler's sequence, first bit lowest, and the state after them. PRESUMED, unsafe (log 83). -/
def scrBits : Nat → Nat → Nat × Nat
  | 0, st => (0, st)
  | n + 1, st =>
    let (b, st1) := scrStep st
    let (r, st2) := scrBits n st1
    (b + 2 * r, st2)

/-- The eight bytes of a scrambled block in clear; the type byte of a control block is never scrambled. PRESUMED, unsafe (log 83). -/
def descramble (key : Nat) (control : Bool) (b : List Byte) : List Byte :=
  b.mapIdx fun k x => if control && k == 0 then x else x ^^^ BitVec.ofNat 8 (key / 256 ^ k)

/-- The scrambler of the receiver has advanced by one block. -/
def State.scrAdvance (s : State) (i : Nat) : Nat × State :=
  let (key, st) := scrBits 64 (s.lane i).scr
  (key, s.setLane i { s.lane i with scr := st })

/-- Block lock or scrambler sync lost (R299, R300): an ACTIVE lane trains again. -/
def State.lockLost (s : State) (i cause : Nat) : State :=
  let s1 := (s.bump (Reg.KLN_CNT_LOCK_LOST i)).raise (Reg.KLN_EVT_LOCK_LOST i)
  if s1.laneActive i then s1.laneTo i lsTrain cause else s1

/-- A control block with a wrong CRC-8, of unknown type, or forbidden where it lies; inside a flit it fails the flit (R302). -/
def State.badOrder (s : State) (i : Nat) : State :=
  let s1 := (s.bump (Reg.KLN_CNT_OS_BAD i)).raise (Reg.KLN_EVT_OS_BAD i)
  if s1.laneActive i && !(s1.lane i).gather.isEmpty then s1.failFlit i else s1

/-- An ordered set's CRC-8 is right. -/
def orderOk (b : List Byte) : Bool := fieldAt b 7 1 == crc8 (b.take 7)

/-- The scrambler state of a SKIP or TS1. -/
def carried (b : List Byte) : Nat := fieldAt b 1 4 % 2 ^ 31

/-- A SKIP (R300, R304): the elastic buffer is kept near 8, by a SKIP deleted or written twice; in ACTIVE two SKIPs in a row that disagree lose scrambler sync. -/
def State.skipIn (s : State) (i fill : Nat) (b : List Byte) : State :=
  let s1 := if 10 < fill then s.bump (Reg.KLN_CNT_SKIP_DEL i) else if fill < 6 then s.bump (Reg.KLN_CNT_SKIP_ADD i) else s
  if !s1.laneActive i then s1
  else
    let x := s1.lane i
    if carried b == x.scr then s1.setLane i { x with skipBad := 0 }
    else if x.skipBad == 0 then s1.setLane i { x with skipBad := 1 }
    else (s1.setFld (Reg.KLN_STAT_SCR_SYNC i) 0).lockLost i 3

/-- A TS1: scrambler sync after four in a row that carry the state predicted by the one before; CAPS after eight in a row with RX_LOCKED
under block lock and scrambler sync. In ACTIVE the partner retrains. DEDUCED, unsafe (log 84). -/
def State.ts1In (s : State) (i : Nat) (b : List Byte) : State :=
  if s.laneActive i then s.laneTo i lsTrain 6
  else
    let x := s.lane i
    let run := if x.ts1Seen && carried b == x.scr then x.ts1Run + 1 else 0
    let locked := if bitAt (fieldAt b 6 1) 0 then x.ts1Locked + 1 else 0
    let s1 := s.setLane i { x with ts1Seen := true, ts1Run := run, scr := carried b, ts1Locked := locked }
    let s2 := if 4 ≤ run then s1.setFld (Reg.KLN_STAT_SCR_SYNC i) 1 else s1
    if s2.laneState i == lsTrain && s2.isSet (Reg.KLN_STAT_SCR_SYNC i) && 8 ≤ locked then s2.laneTo i lsCaps 0 else s2

/-- CAPS ends when the partner's words are known: incompatible ones fail the lane; compatible ones and four TS2 in a row with
CAPS_RECEIVED make it ACTIVE. -/
def State.capsDone (s : State) (i : Nat) : State :=
  let x := s.lane i
  if x.groups < 2 then s
  else
    let cause := s.judgeWords i x.lastGroup
    if cause != 0 then s.laneTo i lsFailed cause else if 4 ≤ x.ts2Caps then s.laneReady i else s

/-- A TS2 in CAPS. -/
def State.ts2In (s : State) (i : Nat) (b : List Byte) : State :=
  if s.laneState i != lsCaps then s
  else
    let x := s.lane i
    (s.setLane i { x with ts2Caps := if bitAt (fieldAt b 1 1) 0 then x.ts2Caps + 1 else 0, group := [] }).capsDone i

/-- A CAP in CAPS: two groups in a row with identical words give the partner's words. -/
def State.capWordIn (s : State) (i : Nat) (b : List Byte) : State :=
  let x := s.lane i
  if s.laneState i != lsCaps || fieldAt b 1 1 != x.group.length then s
  else
    let g := x.group ++ [fieldAt b 2 5]
    if g.length < 4 then s.setLane i { x with group := g }
    else
      let n := if g == x.lastGroup then x.groups + 1 else 1
      let s1 := s.setLane i { x with group := [], lastGroup := g, groups := n }
      if n < 2 then s1
      else
        ((List.range 4).foldl (fun t k => (t.wr (Reg.KLN_PCAP_LO i k) (g.getD k 0 % 2 ^ 32)).wr (Reg.KLN_PCAP_HI i k) (g.getD k 0 / 2 ^ 32)) s1).capsDone i

/-- FRAME_START and LINE_START mean a picture on a capture lane. DEDUCED, unsafe (log 87). -/
def State.pictureOrder (s : State) (i : Nat) (b : List Byte) : State :=
  if !s.laneActive i || i < 32 || 48 ≤ i then s
  else if fieldAt b 0 1 == 0x33 then s.capFrameStart (i - 32) (fieldAt b 1 2)
  else s.capLineStart (i - 32) (fieldAt b 1 2) (fieldAt b 5 2)

/-- A control block of a lane with block lock. -/
def State.controlIn (s : State) (i fill : Nat) (b : List Byte) : State :=
  let type := fieldAt b 0 1
  let inFlit := s.laneActive i && !(s.lane i).gather.isEmpty
  let scrambled := type == 0x1E || type == 0x33 || type == 0x4B || type == 0x66
  let (key, s1) := if scrambled then s.scrAdvance i else (0, s)
  let c := if scrambled then descramble key true b else b
  if type == 0x1E then
    if inFlit then s1.badOrder i else s1.setLane i { s1.lane i with gather := [], discard := false }
  else if !orderOk c then s1.badOrder i
  else if type == 0x2D then s1.skipIn i fill c
  else if type == 0x33 || type == 0x4B then s1.pictureOrder i c
  else if type == 0x66 then s1.ackNakIn i (fieldAt c 1 1 == 1) (fieldAt c 2 2)
  else if inFlit then s1.badOrder i
  else if type == 0x78 then s1.ts1In i c
  else if type == 0x87 then s1.ts2In i c
  else if type == 0x99 then s1.capWordIn i c
  else s1.badOrder i

/-- A data block of a lane with block lock and scrambler sync: the next eight bytes of a flit. -/
def State.dataIn (s : State) (i : Nat) (b : List Byte) : State :=
  let (key, s1) := s.scrAdvance i
  let x := s1.lane i
  if !s1.laneActive i || x.discard then s1
  else
    let g := x.gather ++ descramble key false b
    if g.length < 2048 then s1.setLane i { x with gather := g }
    else (s1.setLane i { x with gather := [] }).takeFlit i g false

/-- A valid or invalid sync header (R299): block lock after 64 valid ones in a row, lost at 16 invalid ones of 64. -/
def State.headerIn (s : State) (i : Nat) (bad : Bool) : State :=
  let x := s.lane i
  let w := (bad :: x.window).take 64
  let s1 := s.setLane i { x with window := w, good := if bad then 0 else x.good + 1, validAt := if bad then x.validAt else s.tick }
  if bad then
    let s2 := s1.bump (Reg.KLN_CNT_SYNC_BAD i)
    let s3 := if s2.laneActive i && !(s2.lane i).gather.isEmpty then s2.failFlit i else s2
    if s3.isSet (Reg.KLN_STAT_BLOCK_LOCK i) && 16 ≤ (w.filter id).length then
      (s3.setFld (Reg.KLN_STAT_BLOCK_LOCK i) 0).lockLost i 2
    else s3
  else if 64 ≤ x.good + 1 then s1.setFld (Reg.KLN_STAT_BLOCK_LOCK i) 1
  else s1

/-- The offset loop adapts on data blocks and TS1 under block lock and is frozen on every other block (R298). -/
def State.offsetLoop (s : State) (i : Nat) (adapts : Bool) (offset : Int) : State :=
  let s1 := s.setFld (Reg.KLN_OFFSET_FROZEN i) (ofBool !adapts)
  if adapts then s1.setFld (Reg.KLN_OFFSET_VALUE i) (ofInt 8 offset) else s1

/-- A block that has left the elastic buffer. DESIGN CHOICE, safe (log 82). -/
def State.blockIn (s : State) (i sync : Nat) (b : List Byte) (fill : Nat) (offset : Int) : State :=
  let bad := sync != 1 && sync != 2
  let s1 := s.headerIn i bad
  let lock := s1.isSet (Reg.KLN_STAT_BLOCK_LOCK i)
  let s2 := s1.offsetLoop i (lock && !bad && (sync == 1 || fieldAt b 0 1 == 0x78)) offset
  if bad || !lock then s2
  else if sync == 1 then (if s2.isSet (Reg.KLN_STAT_SCR_SYNC i) then s2.dataIn i b else s2)
  else s2.controlIn i fill b

/-- A block of an Ethernet lane (R330): block lock as R299 has it, on which the port's link comes up and with which it goes down (R251), the offset loop
on data blocks (R298), the elastic buffer's fill. DEDUCED, unsafe (log 242). -/
def State.etherBlock (s : State) (i sync fill : Nat) (offset : Int) : State :=
  let bad := sync != 1 && sync != 2
  let x := s.lane i
  let w := (bad :: x.window).take 64
  let s1 := (s.setLane i { x with window := w, good := if bad then 0 else x.good + 1 }).setFld (Reg.KLN_ELASTIC_FILL i) fill
  let s2 := if bad then s1.bump (Reg.KLN_CNT_SYNC_BAD i) else s1
  let s3 := if bad then (if s2.isSet (Reg.KLN_STAT_BLOCK_LOCK i) && 16 ≤ (w.filter id).length then s2.portLink (i - 52) false else s2)
    else if 64 ≤ x.good + 1 then (s2.setFld (Reg.KLN_STAT_BLOCK_LOCK i) 1).portLink (i - 52) true else s2
  s3.offsetLoop i (s3.isSet (Reg.KLN_STAT_BLOCK_LOCK i) && sync == 1) offset

/-- A block that arrives as the elastic buffer slips (R304): at a fill of 0 it is repeated, at 16 lost. A SKIP is the one block that a fill of 0 writes twice
without a repetition, and that a fill of 16 deletes. DEDUCED, unsafe (log 243). -/
def State.blockSlips (s : State) (i sync : Nat) (b : List Byte) (fill : Nat) (offset : Int) : State :=
  let t := (s.bump (Reg.KLN_CNT_EB_SLIP i)).raise (Reg.KLN_EVT_EB_SLIP i)
  let skip := sync == 2 && fieldAt b 0 1 == 0x2D && orderOk b && s.isSet (Reg.KLN_STAT_BLOCK_LOCK i)
  if fill == 0 then (if skip then t.blockIn i sync b fill offset else (t.blockIn i sync b fill offset).blockIn i sync b fill offset)
  else if skip then t.bump (Reg.KLN_CNT_SKIP_DEL i) else t

/-- KLN_BLOCK_RECEIVED: a 66-bit block arrives at a lane that trains or is ACTIVE, or at a used Ethernet lane. DESIGN CHOICE, safe (log 82). -/
def State.blockReceived (s : State) (i sync : Nat) (b : List Byte) (fill : Nat) (offset : Int) : State :=
  if 52 ≤ i then (if s.laneUsable i then s.etherBlock i sync fill offset else s)
  else if !(s.laneState i == lsTrain || s.laneState i == lsCaps || s.laneActive i) then s
  else
    let s1 := s.setFld (Reg.KLN_ELASTIC_FILL i) fill
    if fill == 0 || 16 ≤ fill then s1.blockSlips i sync (padTo 8 b) fill offset else s1.blockIn i sync (padTo 8 b) fill offset

/-- KLN_BLOCK_RECEIVED, as R299 has it. -/
def execKlnBlockReceived (dt : Nat) (lane : Fin 54) (sync : Fin 4) (bytes : List Byte) (fill : Fin 17) (offset : Int) (s : State) :
    Host.Outcome State Fault Refusal :=
  .next ((s.pass dt).blockReceived lane.val sync.val bytes fill.val offset)

/-! ### Messages as events (R320) -/

/-- STATUS_MSG_RECEIVED. -/
def execStatusMsgReceived (dt : Nat) (lane : Fin 52) (body : List Byte) (s : State) : Host.Outcome State Fault Refusal :=
  let s1 := s.pass dt
  .next (if s1.laneActive lane.val then s1.msgIn lane.val 2 body else s1)

/-- HOTPLUG_MSG_RECEIVED. -/
def execHotplugMsgReceived (dt : Nat) (lane : Fin 52) (body : List Byte) (s : State) : Host.Outcome State Fault Refusal :=
  let s1 := s.pass dt
  .next (if s1.laneActive lane.val then s1.msgIn lane.val 3 body else s1)

/-- PARTNER_SILENT_TIMEOUT: an ACTIVE lane whose partner declared STATUS_MSG has had no STATUS for 300 ms. -/
def execPartnerSilentTimeout (dt : Nat) (lane : Fin 52) (s : State) : Host.Outcome State Fault Refusal :=
  let s1 := s.pass dt
  let i := lane.val
  .next (if s1.laneActive i && bitAt (s1.partnerWord i 1) 17 && s1.since (s1.lane i).statusAt (300 * ticksPerMs) &&
      !s1.isSet (Reg.KLN_STAT_PARTNER_SILENT i) then (s1.setFld (Reg.KLN_STAT_PARTNER_SILENT i) 1).partnerNotice i
    else s1)

/-- What DEVICE_STATUS says on a lane. -/
def State.deviceSays (s : State) (i : Nat) : List Byte :=
  pack [(1, if i < 32 then i else i - 32), (1, s.role), (1, if i < 32 then s.fld (Reg.CNP_OUT_CTRL_TX i) else 0), (1, 0)]

/-- DEVICE_STATUS_SEND: every 100 ms and on change. DEDUCED, unsafe (log 87). -/
def State.sendDeviceStatus (s : State) (i : Nat) : State :=
  let x := s.lane i
  let told := s.deviceSays i
  let due := fieldAt told 0 4 != x.said || (match x.saidAt with
    | none => true
    | some t => s.since t (100 * ticksPerMs))
  if s.laneActive i && due then (s.setLane i { x with said := fieldAt told 0 4, saidAt := some s.tick }).sendMsg i 0x11 told else s

/-- DEVICE_STATUS_SEND, as R320 has it. -/
def execDeviceStatusSend (dt : Nat) (lane : Fin 48) (s : State) : Host.Outcome State Fault Refusal :=
  .next ((s.pass dt).sendDeviceStatus lane.val)

end Sys2Proof.Machine
end

