-- ==== Sys2Proof/Machine/MirrorCmds.lean ====
section
/-! DEFINITION. The messages of the pair link as they arrive (R341, R342). -/

namespace Sys2Proof.Machine

open Sys2Proof

/-- PAIR_LCS_RECEIVED: a forwarded command. -/
def execPairLcsReceived (dt : Nat) (pseq : Word) (body : List Byte) (s : State) : Host.Outcome State Fault Refusal :=
  .next ((s.pass dt).pairIn { pseq := pseq.toNat, type := 0x02, body := body })

/-- PAIR_HOST_WRITE_RECEIVED: a forwarded write of the host. -/
def execPairHostWriteReceived (dt : Nat) (pseq : Word) (body : List Byte) (s : State) : Host.Outcome State Fault Refusal :=
  .next ((s.pass dt).pairIn { pseq := pseq.toNat, type := 0x03, body := body })

/-- PAIR_DOORBELL_RECEIVED: a forwarded doorbell. -/
def execPairDoorbellReceived (dt : Nat) (pseq : Word) (body : List Byte) (s : State) : Host.Outcome State Fault Refusal :=
  .next ((s.pass dt).pairIn { pseq := pseq.toNat, type := 0x04, body := body })

/-- PAIR_LATCH_RECEIVED: the decision of a latch line. -/
def execPairLatchReceived (dt : Nat) (pseq : Word) (body : List Byte) (s : State) : Host.Outcome State Fault Refusal :=
  .next ((s.pass dt).pairIn { pseq := pseq.toNat, type := 0x05, body := body })

/-- PAIR_DISPUTE_RECEIVED: dispute rectangles. -/
def execPairDisputeReceived (dt : Nat) (pseq : Word) (body : List Byte) (s : State) : Host.Outcome State Fault Refusal :=
  .next ((s.pass dt).pairIn { pseq := pseq.toNat, type := 0x07, body := body })

/-- PAIR_ROLE_RECEIVED: a handover, a retake or a report. -/
def execPairRoleReceived (dt : Nat) (pseq : Word) (body : List Byte) (s : State) : Host.Outcome State Fault Refusal :=
  .next ((s.pass dt).pairIn { pseq := pseq.toNat, type := 0x08, body := body })

/-- PAIR_TIME_RECEIVED: a step or a rate of the PTP clock. -/
def execPairTimeReceived (dt : Nat) (pseq : Word) (body : List Byte) (s : State) : Host.Outcome State Fault Refusal :=
  .next ((s.pass dt).pairIn { pseq := pseq.toNat, type := 0x0B, body := body })

/-- PAIR_XFER_RECEIVED: a block of the state transfer. -/
def execPairXferReceived (dt : Nat) (pseq : Word) (body : List Byte) (settings : Option Settings) (s : State) : Host.Outcome State Fault Refusal :=
  .next ((s.pass dt).pairIn { pseq := pseq.toNat, type := 0x09, body := body, settings := settings })

/-- PAIR_SIGREC_RECEIVED: a record of the partner's. -/
def execPairSigrecReceived (dt : Nat) (body : List Byte) (s : State) : Host.Outcome State Fault Refusal :=
  .next ((s.pass dt).pairIn { pseq := 0, type := 0x06, body := body })

/-- PAIR_RETX_RECEIVED: a request for a range. -/
def execPairRetxReceived (dt : Nat) (body : List Byte) (s : State) : Host.Outcome State Fault Refusal :=
  .next ((s.pass dt).pairIn { pseq := 0, type := 0x0A, body := body })

end Sys2Proof.Machine
end

