-- ==== Sys2Proof/Machine/ScanCmds.lean ====
section
/-! DEFINITION. The events of scan-out (spec/03_scan_gate.md to spec/06_lookout.md), in the order a frame has them: sample point
and line, the end of the active area, the Lookout post, the latch line, the frame start; the end of a drain. An event that is not
due in the state only lets its time pass. -/

namespace Sys2Proof.Machine

open Sys2Proof

/-! ### The sample point (R87, R514, R359) -/

/-- What a frame takes up before its line 0 is sampled: the clearing held until READY ends, dispute rectangles named for it. DEDUCED, unsafe (log 46). -/
def State.beforeFrame (s : State) (n : Nat) : State :=
  let g := s.gateOut n
  let s1 := if s.ready then s.setGate n { g with holds := withBits g.holds 2 2 0 } else s
  s1.applyDisputes n (s1.nextF n)

/-- LINE_SAMPLE_POINT. -/
def State.linePoint (s : State) (n y : Nat) (late : Bool) (ecc : List (Nat × Nat)) : State :=
  if !s.sampleDue n y then s else (if y == 0 then s.beforeFrame n else s).samplePoint n y late ecc

/-- LINE_SAMPLE_POINT, as R87 has it. -/
def execLineSamplePoint (dt : Nat) (output : Fin 32) (y : Nat) (late : Bool) (ecc : List (Nat × Nat)) (s : State) :
    Host.Outcome State Fault Refusal :=
  .next ((s.pass dt).linePoint output.val y late ecc)

/-! ### The frame start (R108 to R110, R113, R116, R228, R316, R353, R355) -/

/-- A frame starts: the output's own part, then what pair, lanes and encode sessions do at it. DEDUCED, unsafe (log 54). -/
def State.startFrame (s : State) (n : Nat) : State :=
  if !s.startDue n then s
  else
    let first := s.outState n == osStarting
    let wasTx := s.txOn n
    let (lasting, s1) := s.frameStartOps n
    let f := s1.frameNo n
    let s2 := if first then s1.clearConverged n else s1.markLate n f
    let s3 := ((s2.settleUnsupp n).missingRecords n f).encFrameStart n f
    let s4 := if s3.txOn n then s3.sendFrameStart n (!wasTx) else s3
    if lasting then s4.returnRetrain n else s4

/-- FRAME_START, as R109 has it. -/
def execFrameStart (dt : Nat) (output : Fin 32) (s : State) : Host.Outcome State Fault Refusal :=
  .next ((s.pass dt).startFrame output.val)

/-! ### The line (R79, R119, R228, R316) -/

/-- A line leaves the gate: to Lookout, the encode tap, the lane. -/
def State.runLine (s : State) (n y : Nat) (gaps : List (Nat × Nat)) (poison : List Nat) (pool : Nat) : State :=
  if !s.lineDue n y then s
  else
    let (px, s1) := s.lineStart n y gaps poison pool
    let s2 := s1.encTap n y px
    (if s2.txOn n then s2.sendLine n y px else s2).emit (.pixels n y px)

/-- LINE_START, as R105 has it. -/
def execLineStart (dt : Nat) (output : Fin 32) (y : Nat) (gaps : List (Nat × Nat)) (poison : List Nat) (pool : Nat) (s : State) :
    Host.Outcome State Fault Refusal :=
  .next ((s.pass dt).runLine output.val y gaps poison pool)

/-! ### The end of the active area (R103, R120, R419, R427) -/

/-- The end of the active area and what the policy takes from it. -/
def State.endFrame (s : State) (n : Nat) : State :=
  if !s.endDue n then s
  else
    let o := s.out n
    let (lasting, s1) := s.frameEndOps n
    s1.frameMeasure n o.poolMin o.urLines.length lasting

/-- FRAME_END, as R120 has it. -/
def execFrameEnd (dt : Nat) (output : Fin 32) (s : State) : Host.Outcome State Fault Refusal :=
  .next ((s.pass dt).endFrame output.val)

/-! ### The Lookout post (R165, R185, R429) -/

/-- Lookout posts a frame, its pair record, and what R428 and R429 make of a LASTING fault. A frame whose signatures were discarded gives no
record. -/
def State.postFrame (s : State) (n : Nat) : State :=
  if !s.postDue n then s
  else
    let f := s.frameNo n
    let (diff, gate, ret, s1) := s.lookoutPost n
    let lost := (s1.look n).discard
    let s2 := s1.setLook n { s1.look n with discard := false }
    let s3 := (if lost then s2 else s2.postRecord n diff).ageOwn n f
    let s4 := if ret then s3.returnRetrain n else s3
    (if gate then s4.voidSlice n else s4).returnCredits

/-- LOOKOUT_FRAME_POST, as R165 has it. -/
def execLookoutFramePost (dt : Nat) (output : Fin 32) (s : State) : Host.Outcome State Fault Refusal :=
  .next ((s.pass dt).postFrame output.val)

/-! ### The latch line (R140, R156, R347) -/

/-- The latch line: a standby takes the active's decisions, any other role its own, which the active sends. -/
def State.latchLine (s : State) (n : Nat) : State :=
  if !s.latchDue n then s
  else if s.role == roStandby then s.standbyLatch n
  else
    let f := s.frameNo n
    let (ds, deferred, waiting, s1) := s.decideLatch n
    let s2 := s1.latchPrep n
    let plan := s2.latchPlan n ds
    let s3 := s2.latchWith n f [(ds, plan)] deferred waiting (fun t => t.takeNewest n f)
    if s3.role == roActive then s3.pairSend 0x05 (s3.latchBody n (wrapAdd 32 f 1) ds plan deferred waiting) else s3

/-- LATCH_LINE, as R156 has it. -/
def execLatchLine (dt : Nat) (output : Fin 32) (s : State) : Host.Outcome State Fault Refusal :=
  .next ((s.pass dt).latchLine output.val)

/-! ### The end of a drain (R112, R114, R115, R230) -/

/-- The output leaves the screen: encode sessions lose it, decisions received for it are dropped. -/
def State.leaveScreen (s : State) (n reset : Nat) : State :=
  let s1 := s.encSourceLost n
  (s1.setPairOut n { s1.pairOut n with latches := [] }).outOff n reset

/-- A drain completes when the frame being scanned has ended, and at once where none is. DEDUCED, unsafe (log 53). -/
def State.drainDone (s : State) (n : Nat) : Bool :=
  let o := s.out n
  s.outState n == osDraining && !o.stuck && (o.noFrame || (o.ended && o.posted))

/-- OUT_DRAIN_COMPLETE, as R114 has it. -/
def execOutDrainComplete (dt : Nat) (output : Fin 32) (s : State) : Host.Outcome State Fault Refusal :=
  let s1 := s.pass dt
  .next (if s1.drainDone output.val then s1.leaveScreen output.val 0 else s1)

/-- The drain timeout: the output is reset, which discards its outstanding fetches, and enters OFF. -/
def State.drainTimedOut (s : State) (n : Nat) : Bool :=
  s.outState n == osDraining && (s.out n).drainAt.any fun t => t ≤ s.tick

/-- OUT_DRAIN_TIMEOUT, as R115 has it. -/
def execOutDrainTimeout (dt : Nat) (output : Fin 32) (s : State) : Host.Outcome State Fault Refusal :=
  let s1 := s.pass dt
  let n := output.val
  .next (if s1.drainTimedOut n then (s1.setOutState n osResetting).leaveScreen n 1 else s1)

/-! ### The return path (R182 to R184, R428) -/

/-- RETURN_SIG from the link partner on the output's lane. -/
def execReturnSigReceived (dt : Nat) (output : Fin 32) (body : List Byte) (s : State) : Host.Outcome State Fault Refusal :=
  let s1 := s.pass dt
  .next (if s1.laneActive output.val then s1.msgIn output.val 1 body else s1)

end Sys2Proof.Machine
end

