-- ==== Sys2Proof/Machine/StartCmds.lean ====
section
/-! DEFINITION. The start inputs, start-up's events, power states and the commands of start-up (spec/19_startup.md). -/

namespace Sys2Proof.Machine

open Sys2Proof

/-! ### RESET_N (R507, R508) -/

/-- RESET_ASSERT: whatever is in progress is abandoned. -/
def execResetAssert (dt : Nat) (s : State) : Host.Outcome State Fault Refusal :=
  let t := (s.pass dt).coldState 1
  .next (t.setSys { t.sys with resetLow := true })

/-- RESET_RELEASE: straps are sampled and a cold start begins, when RESET_N was low for at least 10 µs. DEDUCED, unsafe (log 114). -/
def execResetRelease (dt : Nat) (bootSrc : Fin 4) (side ilk dbgEn : Bool) (s : State) : Host.Outcome State Fault Refusal :=
  let s1 := s.pass dt
  .next (if s1.sys.resetLow && s1.since s1.sys.startAt (10 * ticksPerUs) then
      let s2 := s1.wr Reg.SYS_STRAPS (ofBool dbgEn * 128 + ofBool ilk * 64 + ofBool side * 32 + bootSrc.val)
      let s3 := (s2.setFld Reg.PAIR_STATUS_SIDE (ofBool side)).setFld Reg.PAIR_STATUS_ILK (ofBool ilk)
      s3.setSys { s3.sys with resetLow := false, strapBoot := bootSrc.val, startAt := s3.tick }
    else s1)

/-! ### Warm starts (R507, R513, R514) -/

/-- WARM_N_ASSERT: a low level held for 1 µs. DESIGN CHOICE, safe (log 137). -/
def execWarmNAssert (dt : Nat) (s : State) : Host.Outcome State Fault Refusal :=
  let s1 := s.pass dt
  .next (if s1.sys.resetLow then s1
    else if s1.sys.deep || s1.fld Reg.SYS_PWR_STATE == 2 then s1.wakeFrom 3
    else if s1.warmRefused then s1.raise Reg.SYS_START_STAT_WARM_REFUSED
    else s1.beginWarm 2)

/-- WARM_START_BEGIN: the warm start that SYS_WARM_START ordered begins; its time to READY counts from the response (R512). DEDUCED, unsafe (log 118, 170). -/
def execWarmStartBegin (dt : Nat) (s : State) : Host.Outcome State Fault Refusal :=
  let s1 := s.pass dt
  .next (match s1.sys.warmDue with
    | none => s1
    | some t =>
      if s1.warmRefused then s1.setSys { s1.sys with warmDue := none }
      else
        let s2 := s1.beginWarm 3
        s2.setSys { s2.sys with startAt := t })

/-- START_STEP_DONE: the step in progress ends; at READY the forwarded commands that waited are executed. -/
def execStartStepDone (dt : Nat) (facts : StartFacts) (s : State) : Host.Outcome State Fault Refusal :=
  let s1 := (s.pass dt).startStepDone facts
  .next (if s1.ready then s1.runWaiting else s1)

/-- FIRMWARE_READY: the restart of Lysman firmware has ended (R386, R368). -/
def execFirmwareReady (dt : Nat) (s : State) : Host.Outcome State Fault Refusal :=
  let s1 := s.pass dt
  .next (if s1.isSet Reg.MBX_STATUS_RESTARTING && s1.startStep == 0 && !s1.sys.resetLow && s1.fld Reg.SYS_PWR_STATE != 2 then
      (s1.reportReady true 3).runWaiting
    else s1)

/-! ### PWR_FAIL_N (R522) -/

/-- PWR_FAIL_ASSERT. DEDUCED, unsafe (log 117). -/
def execPwrFailAssert (dt : Nat) (s : State) : Host.Outcome State Fault Refusal :=
  let s1 := s.pass dt
  let s2 := s1.setSys { s1.sys with pfLow := true, pfHighAt := none }
  .next (if s2.sys.resetLow || s2.sys.deep || s2.fld Reg.SYS_PWR_STATE == 4 then s2
    else
      let s3 := s2.blzPowerFail.leavePair.setFld Reg.SYS_PWR_STATE 4
      s3.setSys { s3.sys with warmDue := none, powerDue := none })

/-- PWR_FAIL_DEASSERT: PWR_FAIL_N returns high. -/
def execPwrFailDeassert (dt : Nat) (s : State) : Host.Outcome State Fault Refusal :=
  let s1 := s.pass dt
  .next (s1.setSys { s1.sys with pfLow := false, pfHighAt := some s1.tick })

/-- PWR_FAIL_RECOVER: high for 10 ms with the power-fail flush complete. A device that has not been READY, or whose FATAL cause only a
cold start clears, starts cold. -/
def State.pwrRecover (s : State) : State :=
  let flushed := s.isSet Reg.BLZ_STATUS_PF_DONE || !s.isSet Reg.BLZ_STATUS_READY || s.isSet Reg.BLZ_STATUS_XSPI_STOP
  match s.sys.pfHighAt with
  | none => s
  | some t =>
    if s.sys.pfLow || s.fld Reg.SYS_PWR_STATE != 4 || !s.since t (10 * ticksPerMs) || !flushed then s
    else if !s.isSet Reg.SYS_START_STAT_COLD_DONE || (s.isSet Reg.HLT_STATUS_FATAL && within 1 3 (s.fld Reg.HLT_STATUS_FATAL_CAUSE)) then
      s.coldState 6
    else
      let s1 := ((s.setFld Reg.BLZ_STATUS_PF 0).setFld Reg.BLZ_STATUS_PF_DONE 0).setFld Reg.SYS_PWR_STATE 0
      let s2 := s1.setSys { s1.sys with pfHighAt := none }
      if s2.isSet Reg.MEM_STATUS_READY0 then s2.beginWarm 6 else s2.warmCommon 6 1 2

/-- PWR_FAIL_RECOVER, as R522 has it. -/
def execPwrFailRecover (dt : Nat) (s : State) : Host.Outcome State Fault Refusal := .next (s.pass dt).pwrRecover

/-- PCIE_PERST_RELEASE: the host port is enumerable again, once step 2 is complete (R507). -/
def execPciePerstRelease (dt : Nat) (s : State) : Host.Outcome State Fault Refusal :=
  let s1 := s.pass dt
  .next (s1.setSys { s1.sys with perstLow := false })

/-! ### Power states (R519 to R521) -/

/-- POWER_STATE_ENTRY_DONE: an ordered entry is complete. -/
def execPowerStateEntryDone (dt : Nat) (s : State) : Host.Outcome State Fault Refusal :=
  let s1 := s.pass dt
  .next (match s1.sys.powerDue with
    | none => s1
    | some (st, _) => if s1.fld Reg.SYS_PWR_STATE != 1 then s1 else if st == 2 then s1.enterRetention else s1.enterDeep)

/-- SYS_WAKE_WRITE, as R519 has it. -/
def execSysWakeWrite (dt : Nat) (value : Word) (s : State) : Host.Outcome State Fault Refusal := .next ((s.pass dt).wakeWrite value.toNat)

/-- Whether something runs that a power state would end (R520). -/
def State.powerBusy (s : State) : Bool :=
  (List.range 32).any (fun n => s.outState n != osOff) || !s.openDecs.isEmpty ||
    (List.range 32).any (fun n => s.isSet (Reg.ENC_SES_CTRL_OPEN n)) || (List.range 16).any (fun i => s.isSet (Reg.KLN_CAP_CTRL_EN (capLane i))) ||
    (List.range 4).any (fun u => s.isSet (Reg.CVU_CTRL_BUSY u)) || s.sys.imgWrite.isSome || s.isSet Reg.SYS_SVC_ACTIVE || s.sys.powerDue.isSome

/-- The checks of SYS_POWER in the order of R393 step 8, each as (it fails, status, DETAIL). -/
def chkSysPower (r : Req) (s : State) : List (Bool × Nat × Nat) :=
  [(r.part != 1, stPartition, noField), (!within 1 2 (r.u8 16), stInvalid, 16), (r.u8 17 != 0 || r.u16 18 != 0, stInvalid, 17), (s.powerBusy, stBusy, noField)]

/-- SYS_POWER. -/
def cmdSysPower (r : Req) (s : State) : State × Resp :=
  s.refuseOr (chkSysPower r s)
    (let s1 := (s.setFld Reg.SYS_PWR_STATE 1).powerNotice
     (s1.setSys { s1.sys with powerDue := some (r.u8 16 + 1, s1.tick) }, .ok []))

/-- SYS_POWER, as R520 has it. -/
def execSysPower (dt : Nat) (m : Fin 8) (s : State) : Host.Outcome State Fault Refusal :=
  .next ((s.pass dt).lcs m.val 0x1105 cmdSysPower)

/-! ### Start-up commands (R524) -/

/-- SYS_START_QUERY. -/
def cmdSysStartQuery (_ : Req) (s : State) : State × Resp := (s, .ok (s.regImage State.view Reg.SYS_STRAPS 7))

/-- SYS_START_QUERY, as R524 has it. -/
def execSysStartQuery (dt : Nat) (m : Fin 8) (s : State) : Host.Outcome State Fault Refusal :=
  .next ((s.pass dt).lcs m.val 0x1101 cmdSysStartQuery)

/-- The checks of SYS_WARM_START in the order of R393 step 8, each as (it fails, status, DETAIL). -/
def chkSysWarmStart (r : Req) (s : State) : List (Bool × Nat × Nat) :=
  [(r.part != 1, stPartition, noField), (r.u32 16 != 0, stInvalid, 16), (s.warmRefused, stBusy, noField)]

/-- SYS_WARM_START. -/
def cmdSysWarmStart (r : Req) (s : State) : State × Resp :=
  s.refuseOr (chkSysWarmStart r s)
    (s.setSys { s.sys with warmDue := some s.tick }, .ok [])

/-- SYS_WARM_START, as R513 has it. -/
def execSysWarmStart (dt : Nat) (m : Fin 8) (s : State) : Host.Outcome State Fault Refusal :=
  .next ((s.pass dt).lcs m.val 0x1102 cmdSysWarmStart)

/-- SYS_IMAGE_QUERY. -/
def cmdSysImageQuery (_ : Req) (s : State) : State × Resp :=
  (s, .ok ([(0, 1), (0, 2), (1, 1), (1, 2)].flatMap fun x =>
    pack [(1, s.fld (imgField x.1 x.2)), (3, 0)] ++ s.flashBytes (itemBase x.1 x.2) 32))

/-- SYS_IMAGE_QUERY, as R524 has it. -/
def execSysImageQuery (dt : Nat) (m : Fin 8) (s : State) : Host.Outcome State Fault Refusal :=
  .next ((s.pass dt).lcs m.val 0x1103 cmdSysImageQuery)

/-- The image at `a` in device memory, as Ranger reads it, passes checks 1 to 5 and is `len` bytes long. DESIGN CHOICE, safe (log 20). -/
def State.memImageGood (s : State) (item a len : Nat) : Bool :=
  let i := readImage item a fun b n => (s.fwRead b n).1
  imageGood (judgeImage item s.sys.keyHash i i).1 && len == 272 + alignUp i.length 64

/-- The checks of SYS_IMAGE_WRITE in the order of R393 step 8, each as (it fails, status, DETAIL). DEDUCED, unsafe (log 118). -/
def chkSysImageWrite (r : Req) (s : State) : List (Bool × Nat × Nat) :=
  let slot := r.u8 16
  let item := r.u8 17
  let len := r.u32 20
  let a := r.u64 24
  [(r.part != 1, stPartition, noField), (1 < slot || (!s.recovery && slot == s.fld Reg.SYS_START_STAT_SLOT), stInvalid, 16),
    (!within 1 2 item, stInvalid, 17), (r.u16 18 != 0, stInvalid, 18), (itemMax item < len, stInvalid, 20),
    (if s.recovery then !(rangeInDevice a len) else !s.granted r.part a len, stInvalid, 24), (!s.memImageGood item a len, stInvalid, 24),
    (s.sys.imgWrite.isSome, stBusy, noField)]

/-- SYS_IMAGE_WRITE. -/
def cmdSysImageWrite (r : Req) (s : State) : State × Resp :=
  let slot := r.u8 16
  let item := r.u8 17
  let len := r.u32 20
  let a := r.u64 24
  s.refuseOr (chkSysImageWrite r s)
    (let (_, s) := s.fwRead a len
     s.setSys { s.sys with imgWrite := some { slot := slot, item := item, length := len, source := a } }, .ok [])

/-- SYS_IMAGE_WRITE, as R524 has it. -/
def execSysImageWrite (dt : Nat) (m : Fin 8) (s : State) : Host.Outcome State Fault Refusal :=
  .next ((s.pass dt).lcs m.val 0x1104 cmdSysImageWrite)

/-- SYS_IMAGE_WRITE_DONE: the item's space is erased, programmed, read back and judged. `failed` says that the flash did not program;
`altered` is what the first read-back shows altered. DEDUCED, unsafe (log 118). -/
def State.imageWritten (s : State) (failed : Bool) (altered : List (Nat × Nat × Nat)) : State :=
  match s.sys.imgWrite with
  | none => s
  | some w =>
    let base := itemBase w.slot w.item
    let (data, s0) := s.fwRead w.source w.length
    let put := if failed then data.mapIdx fun i _ => Config.flashByte s0.fresh i else data
    let erased := s0.flash.filter fun c => c.1 < base || base + itemMax w.item ≤ c.1
    let s1 : State := { s0.nextFree with flash := sparsePutRange flashErased erased base put }
    let (v, s2) := s1.judgeItem altered w.slot w.item
    let s3 := s2.setSys { s2.sys with imgWrite := none }
    s3.notice 0x1102 0 [0xFFFF] (pack [(1, w.slot), (1, w.item), (1, if failed then 0xFF else v), (1, 0), (4, w.length)]) true

/-- SYS_IMAGE_WRITE_DONE, as R524 has it. -/
def execSysImageWriteDone (dt : Nat) (failed : Bool) (altered : List (Nat × Nat × Nat)) (s : State) : Host.Outcome State Fault Refusal :=
  .next ((s.pass dt).imageWritten failed altered)

end Sys2Proof.Machine
end

