-- ==== Sys2Proof/Machine/Dispatch.lean ====
section
/-! DEFINITION. Each command and its meaning. -/

namespace Sys2Proof.Machine

open Sys2Proof

def exec (i : Instr) (s : State) : Host.Outcome State Fault Refusal :=
  match i with
  | .queuePointerMismatch dt kind index copies => Sys2Proof.Machine.execQueuePointerMismatch dt kind index copies s
  | .queueResume dt kind index => Sys2Proof.Machine.execQueueResume dt kind index s
  | .queueFaultClass dt kind index entries => Sys2Proof.Machine.execQueueFaultClass dt kind index entries s
  | .hostUnpopulatedAccess dt bar2 write addr => Sys2Proof.Machine.execHostUnpopulatedAccess dt bar2 write addr s
  | .hostBar2Write dt addr data => Sys2Proof.Machine.execHostBar2Write dt addr data s
  | .hostBar2Read dt addr len met => Sys2Proof.Machine.execHostBar2Read dt addr len met s
  | .engineMemoryAccess dt unit write addr data len met => Sys2Proof.Machine.execEngineMemoryAccess dt unit write addr data len met s
  | .debugAccess dt write addr data read => Sys2Proof.Machine.execDebugAccess dt write addr data read s
  | .scrubBlockVisit dt ecc => Sys2Proof.Machine.execScrubBlockVisit dt ecc s
  | .hbmPowerDownEntry dt channel => Sys2Proof.Machine.execHbmPowerDownEntry dt channel s
  | .hbmSelfRefreshEntry dt stack => Sys2Proof.Machine.execHbmSelfRefreshEntry dt stack s
  | .urgencyPromotion dt => Sys2Proof.Machine.execUrgencyPromotion dt s
  | .regReadLowHalf dt addr size => Sys2Proof.Machine.execRegReadLowHalf dt addr size s
  | .regWrite dt addr size value => Sys2Proof.Machine.execRegWrite dt addr size value s
  | .memScrubCtrlWrite dt value => Sys2Proof.Machine.execMemScrubCtrlWrite dt value s
  | .ldgCringProdWrite dt ring value => Sys2Proof.Machine.execLdgCringProdWrite dt ring value s
  | .hostConfirmRecord dt ring poisoned => Sys2Proof.Machine.execHostConfirmRecord dt ring poisoned s
  | .engineConfirm dt poisoned => Sys2Proof.Machine.execEngineConfirm dt poisoned s
  | .wheelSlotScan dt poisoned => Sys2Proof.Machine.execWheelSlotScan dt poisoned s
  | .wheelSlotExpiry dt => Sys2Proof.Machine.execWheelSlotExpiry dt s
  | .sweeperCellVisit dt poisoned => Sys2Proof.Machine.execSweeperCellVisit dt poisoned s
  | .sweeperLapEnd dt => Sys2Proof.Machine.execSweeperLapEnd dt s
  | .ldgSvcRead dt cell poisoned => Sys2Proof.Machine.execLdgSvcRead dt cell poisoned s
  | .ldgSvcWrite dt cell => Sys2Proof.Machine.execLdgSvcWrite dt cell s
  | .ldgCellAlloc dt m => Sys2Proof.Machine.execLdgCellAlloc dt m s
  | .ldgCellFree dt m => Sys2Proof.Machine.execLdgCellFree dt m s
  | .ldgCellSet dt m => Sys2Proof.Machine.execLdgCellSet dt m s
  | .ldgCellForce dt m => Sys2Proof.Machine.execLdgCellForce dt m s
  | .ldgCellQuery dt m => Sys2Proof.Machine.execLdgCellQuery dt m s
  | .ldgStickyRelease dt m => Sys2Proof.Machine.execLdgStickyRelease dt m s
  | .ldgRingOpen dt m => Sys2Proof.Machine.execLdgRingOpen dt m s
  | .ldgRingClose dt m => Sys2Proof.Machine.execLdgRingClose dt m s
  | .ldgNonliveList dt m => Sys2Proof.Machine.execLdgNonliveList dt m s
  | .ldgNotifyCfg dt m => Sys2Proof.Machine.execLdgNotifyCfg dt m s
  | .ldgStaleBatch dt part => Sys2Proof.Machine.execLdgStaleBatch dt part s
  | .lineSamplePoint dt output y late ecc => Sys2Proof.Machine.execLineSamplePoint dt output y late ecc s
  | .gateSvcWrite dt addr value => Sys2Proof.Machine.execGateSvcWrite dt addr value s
  | .gateBindSet dt m => Sys2Proof.Machine.execGateBindSet dt m s
  | .gateBindClear dt m => Sys2Proof.Machine.execGateBindClear dt m s
  | .gateSpanQuery dt m => Sys2Proof.Machine.execGateSpanQuery dt m s
  | .gateTreatCfg dt m => Sys2Proof.Machine.execGateTreatCfg dt m s
  | .gateOutputCfg dt m => Sys2Proof.Machine.execGateOutputCfg dt m s
  | .standCfg dt m => Sys2Proof.Machine.execStandCfg dt m s
  | .outEnable dt m => Sys2Proof.Machine.execOutEnable dt m s
  | .outDisable dt m => Sys2Proof.Machine.execOutDisable dt m s
  | .outSet dt m => Sys2Proof.Machine.execOutSet dt m s
  | .outQuery dt m => Sys2Proof.Machine.execOutQuery dt m s
  | .frameStart dt output => Sys2Proof.Machine.execFrameStart dt output s
  | .lineStart dt output y gaps poison pool => Sys2Proof.Machine.execLineStart dt output y gaps poison pool s
  | .frameEnd dt output => Sys2Proof.Machine.execFrameEnd dt output s
  | .outDrainComplete dt output => Sys2Proof.Machine.execOutDrainComplete dt output s
  | .outDrainTimeout dt output => Sys2Proof.Machine.execOutDrainTimeout dt output s
  | .cnpOutLatchWrite dt output value => Sys2Proof.Machine.execCnpOutLatchWrite dt output value s
  | .cnpFstartNsRead dt output => Sys2Proof.Machine.execCnpFstartNsRead dt output s
  | .cnpCringProdWrite dt output value => Sys2Proof.Machine.execCnpCringProdWrite dt output value s
  | .latchLine dt output => Sys2Proof.Machine.execLatchLine dt output s
  | .cnpLayerSvcWrite dt addr value => Sys2Proof.Machine.execCnpLayerSvcWrite dt addr value s
  | .cnpBufSet dt m => Sys2Proof.Machine.execCnpBufSet dt m s
  | .cnpBufClear dt m => Sys2Proof.Machine.execCnpBufClear dt m s
  | .cnpLayoutPrepare dt m => Sys2Proof.Machine.execCnpLayoutPrepare dt m s
  | .cnpCringOpen dt m => Sys2Proof.Machine.execCnpCringOpen dt m s
  | .cnpCringClose dt m => Sys2Proof.Machine.execCnpCringClose dt m s
  | .lookoutFramePost dt output => Sys2Proof.Machine.execLookoutFramePost dt output s
  | .returnSigReceived dt output body => Sys2Proof.Machine.execReturnSigReceived dt output body s
  | .lkoRegionSvcWrite dt addr value => Sys2Proof.Machine.execLkoRegionSvcWrite dt addr value s
  | .lkoRegionSet dt m => Sys2Proof.Machine.execLkoRegionSet dt m s
  | .lkoRegionClear dt m => Sys2Proof.Machine.execLkoRegionClear dt m s
  | .lkoRefSet dt m => Sys2Proof.Machine.execLkoRefSet dt m s
  | .lkoRegionQuery dt m => Sys2Proof.Machine.execLkoRegionQuery dt m s
  | .decSessionOpen dt m => Sys2Proof.Machine.execDecSessionOpen dt m s
  | .decSessionClose dt m => Sys2Proof.Machine.execDecSessionClose dt m s
  | .decSessionParams dt m => Sys2Proof.Machine.execDecSessionParams dt m s
  | .decSessionAnchor dt m => Sys2Proof.Machine.execDecSessionAnchor dt m s
  | .decSessionQuery dt m => Sys2Proof.Machine.execDecSessionQuery dt m s
  | .decPipeCtrl dt m => Sys2Proof.Machine.execDecPipeCtrl dt m s
  | .decRowDecode dt session row => Sys2Proof.Machine.execDecRowDecode dt session row s
  | .decPictureComplete dt session index => Sys2Proof.Machine.execDecPictureComplete dt session index s
  | .decPictureTimeout dt session => Sys2Proof.Machine.execDecPictureTimeout dt session s
  | .decRateWindowEnd dt session => Sys2Proof.Machine.execDecRateWindowEnd dt session s
  | .decDrainComplete dt session => Sys2Proof.Machine.execDecDrainComplete dt session s
  | .decDrainTimeout dt session => Sys2Proof.Machine.execDecDrainTimeout dt session s
  | .encSessionOpen dt m => Sys2Proof.Machine.execEncSessionOpen dt m s
  | .encSessionClose dt m => Sys2Proof.Machine.execEncSessionClose dt m s
  | .encSessionSet dt m => Sys2Proof.Machine.execEncSessionSet dt m s
  | .encRefresh dt m => Sys2Proof.Machine.execEncRefresh dt m s
  | .encSessionQuery dt m => Sys2Proof.Machine.execEncSessionQuery dt m s
  | .encPipeCtrl dt m => Sys2Proof.Machine.execEncPipeCtrl dt m s
  | .encRowCode dt session row => Sys2Proof.Machine.execEncRowCode dt session row s
  | .encPictureDone dt session => Sys2Proof.Machine.execEncPictureDone dt session s
  | .encSesRingConsWrite dt session value => Sys2Proof.Machine.execEncSesRingConsWrite dt session value s
  | .encDrainComplete dt session => Sys2Proof.Machine.execEncDrainComplete dt session s
  | .encDrainTimeout dt session => Sys2Proof.Machine.execEncDrainTimeout dt session s
  | .ethFrameReceived dt port bytes intake => Sys2Proof.Machine.execEthFrameReceived dt port bytes intake s
  | .pfcRenew dt port cls => Sys2Proof.Machine.execPfcRenew dt port cls s
  | .pfcPauseTimeout dt port cls => Sys2Proof.Machine.execPfcPauseTimeout dt port cls s
  | .queueSetMark dt session => Sys2Proof.Machine.execQueueSetMark dt session s
  | .queueRewind dt session mark => Sys2Proof.Machine.execQueueRewind dt session mark s
  | .queueRelease dt session mark => Sys2Proof.Machine.execQueueRelease dt session mark s
  | .queueRead dt read => Sys2Proof.Machine.execQueueRead dt read s
  | .portLinkChange dt port up => Sys2Proof.Machine.execPortLinkChange dt port up s
  | .txSenderReport dt session => Sys2Proof.Machine.execTxSenderReport dt session s
  | .pktQdiagGo dt value => Sys2Proof.Machine.execPktQdiagGo dt value s
  | .pktQWmarkWrite dt session value => Sys2Proof.Machine.execPktQWmarkWrite dt session value s
  | .pktPortCfg dt m => Sys2Proof.Machine.execPktPortCfg dt m s
  | .pktFlowSet dt m => Sys2Proof.Machine.execPktFlowSet dt m s
  | .pktFlowKey dt m => Sys2Proof.Machine.execPktFlowKey dt m s
  | .pktTxFlowSet dt m => Sys2Proof.Machine.execPktTxFlowSet dt m s
  | .pktQueueRead dt m => Sys2Proof.Machine.execPktQueueRead dt m s
  | .pktQueueReadTimeout dt session => Sys2Proof.Machine.execPktQueueReadTimeout dt session s
  | .pktPortQuery dt m => Sys2Proof.Machine.execPktPortQuery dt m s
  | .ptpMeasurement dt port master gm t1 t2 t3 t4 => Sys2Proof.Machine.execPtpMeasurement dt port master gm t1 t2 t3 t4 s
  | .masterLoss dt => Sys2Proof.Machine.execMasterLoss dt s
  | .holdoverExpiry dt => Sys2Proof.Machine.execHoldoverExpiry dt s
  | .timTxqHeadPop dt => Sys2Proof.Machine.execTimTxqHeadPop dt s
  | .timNsRead dt reg => Sys2Proof.Machine.execTimNsRead dt reg s
  | .ppsOutRise dt => Sys2Proof.Machine.execPpsOutRise dt s
  | .ppsOutFall dt => Sys2Proof.Machine.execPpsOutFall dt s
  | .ppsInEdge dt => Sys2Proof.Machine.execPpsInEdge dt s
  | .timCfg dt m => Sys2Proof.Machine.execTimCfg dt m s
  | .timReEpoch dt m => Sys2Proof.Machine.execTimReEpoch dt m s
  | .timPpsCfg dt m => Sys2Proof.Machine.execTimPpsCfg dt m s
  | .timQuery dt m => Sys2Proof.Machine.execTimQuery dt m s
  | .lanePowerUpDone dt lane => Sys2Proof.Machine.execLanePowerUpDone dt lane s
  | .detectProbe dt lane found => Sys2Proof.Machine.execDetectProbe dt lane found s
  | .laneTrainTimeout dt lane => Sys2Proof.Machine.execLaneTrainTimeout dt lane s
  | .laneCapsTimeout dt lane => Sys2Proof.Machine.execLaneCapsTimeout dt lane s
  | .klnBlockReceived dt lane sync bytes fill offset => Sys2Proof.Machine.execKlnBlockReceived dt lane sync bytes fill offset s
  | .klnFlitReceived dt lane bytes spoilt => Sys2Proof.Machine.execKlnFlitReceived dt lane bytes spoilt s
  | .ackNakReceived dt lane nak seq => Sys2Proof.Machine.execAckNakReceived dt lane nak seq s
  | .replayTimeout dt lane => Sys2Proof.Machine.execReplayTimeout dt lane s
  | .laneSignalLoss dt lane => Sys2Proof.Machine.execLaneSignalLoss dt lane s
  | .statusMsgReceived dt lane body => Sys2Proof.Machine.execStatusMsgReceived dt lane body s
  | .hotplugMsgReceived dt lane body => Sys2Proof.Machine.execHotplugMsgReceived dt lane body s
  | .partnerSilentTimeout dt lane => Sys2Proof.Machine.execPartnerSilentTimeout dt lane s
  | .deviceStatusSend dt lane => Sys2Proof.Machine.execDeviceStatusSend dt lane s
  | .capPictureComplete dt input => Sys2Proof.Machine.execCapPictureComplete dt input s
  | .capDrainComplete dt input => Sys2Proof.Machine.execCapDrainComplete dt input s
  | .capDrainTimeout dt input => Sys2Proof.Machine.execCapDrainTimeout dt input s
  | .klnLaneCtrl dt m => Sys2Proof.Machine.execKlnLaneCtrl dt m s
  | .klnLaneQuery dt m => Sys2Proof.Machine.execKlnLaneQuery dt m s
  | .capEnable dt m => Sys2Proof.Machine.execCapEnable dt m s
  | .capDisable dt m => Sys2Proof.Machine.execCapDisable dt m s
  | .capQuery dt m => Sys2Proof.Machine.execCapQuery dt m s
  | .hbPinToggle dt => Sys2Proof.Machine.execHbPinToggle dt s
  | .heartbeatSend dt => Sys2Proof.Machine.execHeartbeatSend dt s
  | .hbPinEdge dt level => Sys2Proof.Machine.execHbPinEdge dt level s
  | .heartbeatReceived dt lane body => Sys2Proof.Machine.execHeartbeatReceived dt lane body s
  | .partnerLost dt => Sys2Proof.Machine.execPartnerLost dt s
  | .pairLinkLost dt => Sys2Proof.Machine.execPairLinkLost dt s
  | .findingTimeout dt => Sys2Proof.Machine.execFindingTimeout dt s
  | .pairLcsReceived dt pseq body => Sys2Proof.Machine.execPairLcsReceived dt pseq body s
  | .pairHostWriteReceived dt pseq body => Sys2Proof.Machine.execPairHostWriteReceived dt pseq body s
  | .pairDoorbellReceived dt pseq body => Sys2Proof.Machine.execPairDoorbellReceived dt pseq body s
  | .pairLatchReceived dt pseq body => Sys2Proof.Machine.execPairLatchReceived dt pseq body s
  | .pairSigrecReceived dt body => Sys2Proof.Machine.execPairSigrecReceived dt body s
  | .pairDisputeReceived dt pseq body => Sys2Proof.Machine.execPairDisputeReceived dt pseq body s
  | .pairRoleReceived dt pseq body => Sys2Proof.Machine.execPairRoleReceived dt pseq body s
  | .pairXferReceived dt pseq body settings => Sys2Proof.Machine.execPairXferReceived dt pseq body settings s
  | .pairRetxReceived dt body => Sys2Proof.Machine.execPairRetxReceived dt body s
  | .pairTimeReceived dt pseq body => Sys2Proof.Machine.execPairTimeReceived dt pseq body s
  | .pairGapTimeout dt => Sys2Proof.Machine.execPairGapTimeout dt s
  | .joinCutover dt => Sys2Proof.Machine.execJoinCutover dt s
  | .egressBringupTimeout dt => Sys2Proof.Machine.execEgressBringupTimeout dt s
  | .forceVoidHoldRelease dt output => Sys2Proof.Machine.execForceVoidHoldRelease dt output s
  | .selStatusChange dt level => Sys2Proof.Machine.execSelStatusChange dt level s
  | .yield dt => Sys2Proof.Machine.execYield dt s
  | .ilkWaitExpiry dt => Sys2Proof.Machine.execIlkWaitExpiry dt s
  | .ilkSample dt => Sys2Proof.Machine.execIlkSample dt s
  | .switchoverInstant dt => Sys2Proof.Machine.execSwitchoverInstant dt s
  | .pairCfg dt m => Sys2Proof.Machine.execPairCfg dt m s
  | .pairSwitchover dt m => Sys2Proof.Machine.execPairSwitchover dt m s
  | .pairRejoin dt m => Sys2Proof.Machine.execPairRejoin dt m s
  | .pairQuery dt m => Sys2Proof.Machine.execPairQuery dt m s
  | .mbxDoorbell dt m go irq => Sys2Proof.Machine.execMbxDoorbell dt m go irq s
  | .mbxDoneClear dt m => Sys2Proof.Machine.execMbxDoneClear dt m s
  | .mbxAreaWrite dt m off data => Sys2Proof.Machine.execMbxAreaWrite dt m off data s
  | .mbxNringConsWrite dt ring value => Sys2Proof.Machine.execMbxNringConsWrite dt ring value s
  | .mbxNringLevelWrite dt ring value => Sys2Proof.Machine.execMbxNringLevelWrite dt ring value s
  | .noticeBacklogWrite dt ring => Sys2Proof.Machine.execNoticeBacklogWrite dt ring s
  | .noticeCoalesceExpiry dt => Sys2Proof.Machine.execNoticeCoalesceExpiry dt s
  | .firmwareStop dt cause part => Sys2Proof.Machine.execFirmwareStop dt cause part s
  | .firmwareReady dt => Sys2Proof.Machine.execFirmwareReady dt s
  | .restartClassExpiry dt => Sys2Proof.Machine.execRestartClassExpiry dt s
  | .pcieFunctionReset dt perst => Sys2Proof.Machine.execPcieFunctionReset dt perst s
  | .mbxNringOpen dt m => Sys2Proof.Machine.execMbxNringOpen dt m s
  | .mbxNringClose dt m => Sys2Proof.Machine.execMbxNringClose dt m s
  | .sysIdentify dt m => Sys2Proof.Machine.execSysIdentify dt m s
  | .sysHealth dt m => Sys2Proof.Machine.execSysHealth dt m s
  | .sysService dt m => Sys2Proof.Machine.execSysService dt m s
  | .serviceTimeout dt => Sys2Proof.Machine.execServiceTimeout dt s
  | .sysFwRestart dt m => Sys2Proof.Machine.execSysFwRestart dt m s
  | .sysPartCreate dt m => Sys2Proof.Machine.execSysPartCreate dt m s
  | .sysPartGrant dt m => Sys2Proof.Machine.execSysPartGrant dt m s
  | .sysPartDestroy dt m => Sys2Proof.Machine.execSysPartDestroy dt m s
  | .sysPartQuery dt m => Sys2Proof.Machine.execSysPartQuery dt m s
  | .sysMbxBind dt m => Sys2Proof.Machine.execSysMbxBind dt m s
  | .polWindowEnd dt measure => Sys2Proof.Machine.execPolWindowEnd dt measure s
  | .polCfg dt m => Sys2Proof.Machine.execPolCfg dt m s
  | .polQuery dt m => Sys2Proof.Machine.execPolQuery dt m s
  | .polMeasure dt m => Sys2Proof.Machine.execPolMeasure dt m s
  | .fbkBarrierGo dt unit inFlight byRanger => Sys2Proof.Machine.execFbkBarrierGo dt unit inFlight byRanger s
  | .fbkBarrierComplete dt step => Sys2Proof.Machine.execFbkBarrierComplete dt step s
  | .fbkRegionWrite dt unit region word value byRanger => Sys2Proof.Machine.execFbkRegionWrite dt unit region word value byRanger s
  | .fbkQuery dt m => Sys2Proof.Machine.execFbkQuery dt m s
  | .watchdogExpiry dt unit => Sys2Proof.Machine.execWatchdogExpiry dt unit s
  | .lockstepMismatch dt => Sys2Proof.Machine.execLockstepMismatch dt s
  | .tempSample dt readings => Sys2Proof.Machine.execTempSample dt readings s
  | .hltInjArmWrite dt value => Sys2Proof.Machine.execHltInjArmWrite dt value s
  | .injArmExpiry dt => Sys2Proof.Machine.execInjArmExpiry dt s
  | .hltInjGo dt value => Sys2Proof.Machine.execHltInjGo dt value s
  | .injectionExpiry dt => Sys2Proof.Machine.execInjectionExpiry dt s
  | .cvuGo dt unit host value => Sys2Proof.Machine.execCvuGo dt unit host value s
  | .cvuAbort dt unit host value => Sys2Proof.Machine.execCvuAbort dt unit host value s
  | .cvuReset dt unit host value => Sys2Proof.Machine.execCvuReset dt unit host value s
  | .cvuDataWrite dt unit host words => Sys2Proof.Machine.execCvuDataWrite dt unit host words s
  | .cvuRunWrite dt unit host lo hi => Sys2Proof.Machine.execCvuRunWrite dt unit host lo hi s
  | .cvuScanComplete dt unit done poison => Sys2Proof.Machine.execCvuScanComplete dt unit done poison s
  | .hltQuery dt m => Sys2Proof.Machine.execHltQuery dt m s
  | .hltAck dt m => Sys2Proof.Machine.execHltAck dt m s
  | .hltInject dt m => Sys2Proof.Machine.execHltInject dt m s
  | .cvuCheck dt m => Sys2Proof.Machine.execCvuCheck dt m s
  | .blzRecordCompose dt => Sys2Proof.Machine.execBlzRecordCompose dt s
  | .blzFlushStart dt => Sys2Proof.Machine.execBlzFlushStart dt s
  | .blzFlushDone dt => Sys2Proof.Machine.execBlzFlushDone dt s
  | .blzXspiTimeout dt addr again => Sys2Proof.Machine.execBlzXspiTimeout dt addr again s
  | .blzQuery dt m => Sys2Proof.Machine.execBlzQuery dt m s
  | .blzRead dt m => Sys2Proof.Machine.execBlzRead dt m s
  | .blzFlush dt m => Sys2Proof.Machine.execBlzFlush dt m s
  | .blzListSet dt m => Sys2Proof.Machine.execBlzListSet dt m s
  | .blzMark dt m => Sys2Proof.Machine.execBlzMark dt m s
  | .blzLogClear dt m => Sys2Proof.Machine.execBlzLogClear dt m s
  | .resetAssert dt => Sys2Proof.Machine.execResetAssert dt s
  | .resetRelease dt bootSrc side ilk dbgEn => Sys2Proof.Machine.execResetRelease dt bootSrc side ilk dbgEn s
  | .warmNAssert dt => Sys2Proof.Machine.execWarmNAssert dt s
  | .warmStartBegin dt => Sys2Proof.Machine.execWarmStartBegin dt s
  | .startStepDone dt facts => Sys2Proof.Machine.execStartStepDone dt facts s
  | .pwrFailAssert dt => Sys2Proof.Machine.execPwrFailAssert dt s
  | .pwrFailRecover dt => Sys2Proof.Machine.execPwrFailRecover dt s
  | .powerStateEntryDone dt => Sys2Proof.Machine.execPowerStateEntryDone dt s
  | .sysWakeWrite dt value => Sys2Proof.Machine.execSysWakeWrite dt value s
  | .sysStartQuery dt m => Sys2Proof.Machine.execSysStartQuery dt m s
  | .sysWarmStart dt m => Sys2Proof.Machine.execSysWarmStart dt m s
  | .sysImageQuery dt m => Sys2Proof.Machine.execSysImageQuery dt m s
  | .sysImageWrite dt m => Sys2Proof.Machine.execSysImageWrite dt m s
  | .sysImageWriteDone dt failed altered => Sys2Proof.Machine.execSysImageWriteDone dt failed altered s
  | .sysPower dt m => Sys2Proof.Machine.execSysPower dt m s
  | .stripScan dt cm => Sys2Proof.Machine.execStripScan dt cm s
  | .stripCfg dt m => Sys2Proof.Machine.execStripCfg dt m s
  | .stripControlSet dt m => Sys2Proof.Machine.execStripControlSet dt m s
  | .stripRebaseline dt m => Sys2Proof.Machine.execStripRebaseline dt m s
  | .stripQuery dt m => Sys2Proof.Machine.execStripQuery dt m s
  | .avsSetpointUpdate dt up tries => Sys2Proof.Machine.execAvsSetpointUpdate dt up tries s
  | .avsReadback dt vout iout power tries => Sys2Proof.Machine.execAvsReadback dt vout iout power tries s
  | .avsRetry dt tries => Sys2Proof.Machine.execAvsRetry dt tries s
  | .ilkInChange dt low => Sys2Proof.Machine.execIlkInChange dt low s
  | .pfcRxPauseExpiry dt port cls => Sys2Proof.Machine.execPfcRxPauseExpiry dt port cls s
  | .delayReqSend dt message => Sys2Proof.Machine.execDelayReqSend dt message s
  | .pwrFailDeassert dt => Sys2Proof.Machine.execPwrFailDeassert dt s
  | .pciePerstRelease dt => Sys2Proof.Machine.execPciePerstRelease dt s

end Sys2Proof.Machine
end

