-- ==== Sys2Proof/WellFormed.lean ====
section
/-! DEFINITION. What each command's operands satisfy as the specification describes the event they stand for: lengths of
messages and blocks, the form of a memory access (R439), values that fit their fields. -/

namespace Sys2Proof

/-- An access of `n` bytes at `a` inside a space of `size` bytes, within one aligned block of 4 KiB (R439). DESIGN CHOICE, safe (log 8). -/
def accessOk (size a n : Nat) : Bool := 1 ≤ n && a % 4096 + n ≤ 4096 && decide (a < size)

/-- Whether a command's operands are well formed. -/
def Instr.wf : Instr → Bool
  | .queuePointerMismatch _ _ _ _ => true
  | .queueResume _ _ _ => true
  | .queueFaultClass _ _ _ _ => true
  | .hostUnpopulatedAccess _ _ _ _ => true
  | .hostBar2Write _ addr data => accessOk (2 ^ 36) addr data.bytes.length
  | .hostBar2Read _ addr len _ => accessOk (2 ^ 36) addr len
  | .engineMemoryAccess _ _ write addr data len _ => accessOk (2 ^ 48) addr (if write then data.length else len)
  | .debugAccess _ write addr data read => accessOk (2 ^ 48) addr (if write then data.length else read.len)
  | .scrubBlockVisit _ _ => true
  | .hbmPowerDownEntry _ _ => true
  | .hbmSelfRefreshEntry _ _ => true
  | .urgencyPromotion _ => true
  | .regReadLowHalf _ _ _ => true
  | .regWrite _ _ _ _ => true
  | .memScrubCtrlWrite _ _ => true
  | .ldgCringProdWrite _ _ _ => true
  | .hostConfirmRecord _ _ _ => true
  | .engineConfirm _ _ => true
  | .wheelSlotScan _ _ => true
  | .wheelSlotExpiry _ => true
  | .sweeperCellVisit _ _ => true
  | .sweeperLapEnd _ => true
  | .ldgSvcRead _ _ _ => true
  | .ldgSvcWrite _ _ => true
  | .ldgCellAlloc _ _ => true
  | .ldgCellFree _ _ => true
  | .ldgCellSet _ _ => true
  | .ldgCellForce _ _ => true
  | .ldgCellQuery _ _ => true
  | .ldgStickyRelease _ _ => true
  | .ldgRingOpen _ _ => true
  | .ldgRingClose _ _ => true
  | .ldgNonliveList _ _ => true
  | .ldgNotifyCfg _ _ => true
  | .ldgStaleBatch _ _ => true
  | .lineSamplePoint _ _ y _ _ => y < 2160
  | .gateSvcWrite _ _ _ => true
  | .gateBindSet _ _ => true
  | .gateBindClear _ _ => true
  | .gateSpanQuery _ _ => true
  | .gateTreatCfg _ _ => true
  | .gateOutputCfg _ _ => true
  | .standCfg _ _ => true
  | .outEnable _ _ => true
  | .outDisable _ _ => true
  | .outSet _ _ => true
  | .outQuery _ _ => true
  | .frameStart _ _ => true
  | .lineStart _ _ y _ poison pool => y < 2160 && pool ≤ 1536 && poison.all (fun k => k < 8)
  | .frameEnd _ _ => true
  | .outDrainComplete _ _ => true
  | .outDrainTimeout _ _ => true
  | .cnpOutLatchWrite _ _ _ => true
  | .cnpFstartNsRead _ _ => true
  | .cnpCringProdWrite _ _ _ => true
  | .latchLine _ _ => true
  | .cnpLayerSvcWrite _ _ _ => true
  | .cnpBufSet _ _ => true
  | .cnpBufClear _ _ => true
  | .cnpLayoutPrepare _ _ => true
  | .cnpCringOpen _ _ => true
  | .cnpCringClose _ _ => true
  | .lookoutFramePost _ _ => true
  | .returnSigReceived _ _ body => body.length == 72
  | .lkoRegionSvcWrite _ _ _ => true
  | .lkoRegionSet _ _ => true
  | .lkoRegionClear _ _ => true
  | .lkoRefSet _ _ => true
  | .lkoRegionQuery _ _ => true
  | .decSessionOpen _ _ => true
  | .decSessionClose _ _ => true
  | .decSessionParams _ _ => true
  | .decSessionAnchor _ _ => true
  | .decSessionQuery _ _ => true
  | .decPipeCtrl _ _ => true
  | .decRowDecode _ _ _ => true
  | .decPictureComplete _ _ _ => true
  | .decPictureTimeout _ _ => true
  | .decRateWindowEnd _ _ => true
  | .decDrainComplete _ _ => true
  | .decDrainTimeout _ _ => true
  | .encSessionOpen _ _ => true
  | .encSessionClose _ _ => true
  | .encSessionSet _ _ => true
  | .encRefresh _ _ => true
  | .encSessionQuery _ _ => true
  | .encPipeCtrl _ _ => true
  | .encRowCode _ _ _ => true
  | .encPictureDone _ _ => true
  | .encSesRingConsWrite _ _ _ => true
  | .encDrainComplete _ _ => true
  | .encDrainTimeout _ _ => true
  | .ethFrameReceived _ _ bytes _ => !bytes.isEmpty
  | .pfcRenew _ _ _ => true
  | .pfcPauseTimeout _ _ _ => true
  | .queueSetMark _ _ => true
  | .queueRewind _ _ _ => true
  | .queueRelease _ _ _ => true
  | .queueRead _ _ => true
  | .portLinkChange _ _ _ => true
  | .txSenderReport _ _ => true
  | .pktQdiagGo _ _ => true
  | .pktQWmarkWrite _ _ _ => true
  | .pktPortCfg _ _ => true
  | .pktFlowSet _ _ => true
  | .pktFlowKey _ _ => true
  | .pktTxFlowSet _ _ => true
  | .pktQueueRead _ _ => true
  | .pktQueueReadTimeout _ _ => true
  | .pktPortQuery _ _ => true
  | .ptpMeasurement _ _ _ _ _ _ _ _ => true
  | .masterLoss _ => true
  | .holdoverExpiry _ => true
  | .timTxqHeadPop _ => true
  | .timNsRead _ _ => true
  | .ppsOutRise _ => true
  | .ppsOutFall _ => true
  | .ppsInEdge _ => true
  | .timCfg _ _ => true
  | .timReEpoch _ _ => true
  | .timPpsCfg _ _ => true
  | .timQuery _ _ => true
  | .lanePowerUpDone _ _ => true
  | .detectProbe _ _ _ => true
  | .laneTrainTimeout _ _ => true
  | .laneCapsTimeout _ _ => true
  | .klnBlockReceived _ _ _ bytes _ _ => bytes.length == 8
  | .klnFlitReceived _ _ _ _ => true
  | .ackNakReceived _ _ _ _ => true
  | .replayTimeout _ _ => true
  | .laneSignalLoss _ _ => true
  | .statusMsgReceived _ _ body => body.length == 8
  | .hotplugMsgReceived _ _ body => body.length == 4
  | .partnerSilentTimeout _ _ => true
  | .deviceStatusSend _ _ => true
  | .capPictureComplete _ _ => true
  | .capDrainComplete _ _ => true
  | .capDrainTimeout _ _ => true
  | .klnLaneCtrl _ _ => true
  | .klnLaneQuery _ _ => true
  | .capEnable _ _ => true
  | .capDisable _ _ => true
  | .capQuery _ _ => true
  | .hbPinToggle _ => true
  | .heartbeatSend _ => true
  | .hbPinEdge _ _ => true
  | .heartbeatReceived _ _ body => body.length == 48
  | .partnerLost _ => true
  | .pairLinkLost _ => true
  | .findingTimeout _ => true
  | .pairLcsReceived _ _ _ => true
  | .pairHostWriteReceived _ _ _ => true
  | .pairDoorbellReceived _ _ _ => true
  | .pairLatchReceived _ _ _ => true
  | .pairSigrecReceived _ _ => true
  | .pairDisputeReceived _ _ _ => true
  | .pairRoleReceived _ _ _ => true
  | .pairXferReceived _ _ _ _ => true
  | .pairRetxReceived _ _ => true
  | .pairTimeReceived _ _ _ => true
  | .pairGapTimeout _ => true
  | .joinCutover _ => true
  | .egressBringupTimeout _ => true
  | .forceVoidHoldRelease _ _ => true
  | .selStatusChange _ _ => true
  | .yield _ => true
  | .ilkWaitExpiry _ => true
  | .ilkSample _ => true
  | .switchoverInstant _ => true
  | .pairCfg _ _ => true
  | .pairSwitchover _ _ => true
  | .pairRejoin _ _ => true
  | .pairQuery _ _ => true
  | .mbxDoorbell _ _ _ _ => true
  | .mbxDoneClear _ _ => true
  | .mbxAreaWrite _ _ off data => (data.length == 4 || data.length == 8) && off % data.length == 0 && off + data.length ≤ 4096
  | .mbxNringConsWrite _ _ _ => true
  | .mbxNringLevelWrite _ _ _ => true
  | .noticeBacklogWrite _ _ => true
  | .noticeCoalesceExpiry _ => true
  | .firmwareStop _ cause _ => cause == 5 || cause == 7
  | .firmwareReady _ => true
  | .restartClassExpiry _ => true
  | .pcieFunctionReset _ _ => true
  | .mbxNringOpen _ _ => true
  | .mbxNringClose _ _ => true
  | .sysIdentify _ _ => true
  | .sysHealth _ _ => true
  | .sysService _ _ => true
  | .serviceTimeout _ => true
  | .sysFwRestart _ _ => true
  | .sysPartCreate _ _ => true
  | .sysPartGrant _ _ => true
  | .sysPartDestroy _ _ => true
  | .sysPartQuery _ _ => true
  | .sysMbxBind _ _ => true
  | .polWindowEnd _ _ => true
  | .polCfg _ _ => true
  | .polQuery _ _ => true
  | .polMeasure _ _ => true
  | .fbkBarrierGo _ _ _ _ => true
  | .fbkBarrierComplete _ _ => true
  | .fbkRegionWrite _ _ _ _ _ _ => true
  | .fbkQuery _ _ => true
  | .watchdogExpiry _ _ => true
  | .lockstepMismatch _ => true
  | .tempSample _ readings => readings.length == 8
  | .hltInjArmWrite _ _ => true
  | .injArmExpiry _ => true
  | .hltInjGo _ _ => true
  | .injectionExpiry _ => true
  | .cvuGo _ _ _ _ => true
  | .cvuAbort _ _ _ _ => true
  | .cvuReset _ _ _ _ => true
  | .cvuDataWrite _ _ _ _ => true
  | .cvuRunWrite _ _ _ _ _ => true
  | .cvuScanComplete _ _ _ _ => true
  | .hltQuery _ _ => true
  | .hltAck _ _ => true
  | .hltInject _ _ => true
  | .cvuCheck _ _ => true
  | .blzRecordCompose _ => true
  | .blzFlushStart _ => true
  | .blzFlushDone _ => true
  | .blzXspiTimeout _ _ _ => true
  | .blzQuery _ _ => true
  | .blzRead _ _ => true
  | .blzFlush _ _ => true
  | .blzListSet _ _ => true
  | .blzMark _ _ => true
  | .blzLogClear _ _ => true
  | .resetAssert _ => true
  | .resetRelease _ _ _ _ _ => true
  | .warmNAssert _ => true
  | .warmStartBegin _ => true
  | .startStepDone _ _ => true
  | .pwrFailAssert _ => true
  | .pwrFailRecover _ => true
  | .powerStateEntryDone _ => true
  | .sysWakeWrite _ _ => true
  | .sysStartQuery _ _ => true
  | .sysWarmStart _ _ => true
  | .sysImageQuery _ _ => true
  | .sysImageWrite _ _ => true
  | .sysImageWriteDone _ _ _ => true
  | .sysPower _ _ => true
  | .stripScan _ cm => cm.length == 144
  | .stripCfg _ _ => true
  | .stripControlSet _ _ => true
  | .stripRebaseline _ _ => true
  | .stripQuery _ _ => true
  | .avsSetpointUpdate _ _ _ => true
  | .avsReadback _ vout iout power _ => vout < 65536 && iout < 65536 && power < 65536
  | .avsRetry _ _ => true
  | .ilkInChange _ _ => true
  | .pfcRxPauseExpiry _ _ _ => true
  | .delayReqSend _ _ => true
  | .pwrFailDeassert _ => true
  | .pciePerstRelease _ => true

end Sys2Proof
end

