-- ==== Sys2Proof/Safety.lean ====
section
/-! DEFINITION. What claims about this model are stated with: the canonical form of its memories, and the outcomes of a command. -/

namespace Sys2Proof.Machine

open Sys2Proof

/-- The canonical form of a byte memory whose unlisted bytes read as `d`: addresses strictly rising, no entry equal to `d`. -/
def Memory.wf (d : Byte) (m : List Host.Cell) : Bool := sparseWf d m

/-- Every byte memory of the block is in canonical form: device memory and buffers, host memory, the message areas, the boot flash,
the log chip. -/
def State.memOk (s : State) : Bool :=
  Memory.wf 0 s.mem && Memory.wf 0 s.hostMem && Memory.wf 0 s.area && Memory.wf flashErased s.flash && Memory.wf 0 s.blz.chip

/-- A command completes: it answers a next state. -/
def Completes (c : Instr) (s : State) : Prop := ∃ t, exec c s = .next t

/-- No check of a command's list fails (R393 step 8). -/
def passes (l : List (Bool × Nat × Nat)) : Bool := (firstBad l).isNone

/-- Whether the command with opcode `op` is of kind F (R406). -/
def kindF (op : Nat) : Bool := (lcsMap.find? fun x => x.op == op).any fun x => x.kind == .f

/-- What follows a command that was performed with effect `t` and response body `b` (R376, R392, R343): the response of status OK in
mailbox `m`, then, of a command of kind F, its forwarding. -/
def State.performed (t : State) (m op : Nat) (r : Req) (b : List Byte) : State :=
  let u := t.complete m false false stOk noField b
  if kindF op then u.forwardLcs r.msg stOk b else u

/-- A command whose response comes later (R376, R404): the mailbox is BUSY. -/
def State.waiting (t : State) (m : Nat) : State := t.setFld (Reg.MBX_CMPL_STATE m) mbBusy

/-- The command `c` is answered at once: effect `t`, response body `b`. -/
def Performs (c : Instr) (s : State) (m op : Nat) (r : Req) (t : State) (b : List Byte) : Prop := exec c s = .next (t.performed m op r b)

/-- The command `c` is accepted with effect `t` and waits for its response. -/
def Waits (c : Instr) (s : State) (m : Nat) (t : State) : Prop := exec c s = .next (t.waiting m)

/-- Device memory serves an access to the `n` bytes at `a` at once: the queues of its channels take entries, none of them is fenced, and no
request waits. -/
def State.memFree (s : State) (a n : Nat) : Bool :=
  s.spanOpen a n && (!inDeviceMem a || ((channelsOf a n).all (fun c => s.queueTakes 0x0A c) && s.hbm.waiting.isEmpty))

/-- A write that waits for device memory stores to byte `b`. -/
def State.waitingStore (s : State) (b : Nat) : Bool :=
  (s.hbm.waiting.any fun r => r.write && r.addr ≤ b && b < r.addr + r.data.length) ||
    s.pair.hostWait.any fun w => w.a ≤ b && b < w.a + w.data.length

/-- A safe step is one that neither stops at a fault nor is refused. -/
def State.safe (s : State) : Prop := ∃ t, step s = .next t

end Sys2Proof.Machine
end

