-- ==== Sys2Proof/Certificates/Slice0/Obligations.lean ====
section
/-! DEFINITION. Statements for the provers. Completion: for every command, where it completes and with what effect; then rules of the
specification, frames, and the invariant that every step keeps. `u` is the state after the command's `dt` ticks. -/

open Sys2Proof Sys2Proof.Machine

/-! ### Completion: accesses of the host, of engines and of the debug master (R6 to R8, R28, R35 to R39, R437, R439, R446, R561) -/

/-- O1: accesses inside the form of R439 complete: unpopulated space reads zero, device memory is written or read at once where its channel
takes entries and nothing waits, a write waits while the partner's credits hold it back, a channel or a stack enters its power state, a waiting request is promoted and served, the scrubber moves
on, a register is written by its field types and read through its view, in one half or two. -/
def Obligations.HostAccessesComplete : Prop :=
  ∀ (s : State) (dt : Nat), let u := s.pass dt
  (∀ (a : Nat), u.hostPort = true → u.fld Reg.SYS_PWR_STATE ≠ 2 → 0xC00000000 ≤ a → a < 2 ^ 36 →
    exec (.hostUnpopulatedAccess dt true false a) s = .next (({ u with readData := 0 } : State).accessError 2 a) ∧
    exec (.hostUnpopulatedAccess dt true true a) s = .next (u.accessError 3 a)) ∧
  (∀ (a : Nat) (data : List Byte), accessOk (2 ^ 36) a data.length = true → u.hostPort = true → u.fld Reg.SYS_PWR_STATE ≠ 2 →
    inDeviceMem a = true → (u.drives || u.isSet Reg.MBX_STATUS_RECOVERY) = true → u.windowAt a = none → u.fbkDenies fbkHost a true = none →
    u.pair.mirroring = false → u.memFree a data.length = true → u.isSet Reg.PAIR_MIRROR_THROTTLE = false → u.pair.hostWait = [] →
    exec (.hostBar2Write dt a ⟨data, false⟩) s = .next ((u.touch a data.length).memWrite a data)) ∧
  (∀ (a : Nat) (data : List Byte) (held : Bool), accessOk (2 ^ 36) a data.length = true → u.isSet Reg.PAIR_MIRROR_THROTTLE = true →
    u.pair.hostWait = [] → exec (.hostBar2Write dt a ⟨data, held⟩) s =
      .next (u.setPair { u.pair with hostWait := [{ a := a, data := data, held := held }] })) ∧
  (∀ (a n : Nat) (ecc : List (Fin 4)), accessOk (2 ^ 36) a n = true → u.hostPort = true → u.fld Reg.SYS_PWR_STATE ≠ 2 → inDeviceMem a = true →
    u.fbkDenies fbkHost a false = none → u.memFree a n = true → let v := (u.touch a n).eccSpan a n (ecc.map Fin.val)
    exec (.hostBar2Read dt a n ⟨ecc, false⟩) s = .next { v.2 with readData := v.2.viewNat a n, readPoison := v.1 }) ∧
  (∀ (unit : Fin 28) (a n : Nat) (data : List Byte) (ecc : List (Fin 4)), accessOk (2 ^ 48) a data.length = true →
    (unit.val < 2 → exec (.engineMemoryAccess dt unit true a data n ⟨ecc, false⟩) s = .next u) ∧
    (2 ≤ unit.val → (within 2 4 unit.val && within 0xFF00000000 0xFF00FFFFFF a) = true →
      exec (.engineMemoryAccess dt unit true a data n ⟨ecc, false⟩) s = .next (u.rangerReg (unit.val - 2) (a - 0xFF00000000) true data n)) ∧
    (2 ≤ unit.val → (within 2 4 unit.val && within 0xFF00000000 0xFF00FFFFFF a) = false → let v := (u.fbkCheck unit.val a true data.length).2.2
      (u.fbkCheck unit.val a true data.length).1 = true → v.memFree a data.length = true →
      exec (.engineMemoryAccess dt unit true a data n ⟨ecc, false⟩) s = .next ((v.touch a data.length).memWrite a data))) ∧
  (∀ (a n : Nat) (data : List Byte) (ecc : List (Fin 4)), accessOk (2 ^ 48) a data.length = true → u.isSet Reg.SYS_STRAPS_DBG_EN = true →
    u.fbkLocked a = false → within 0xFF00000000 0xFF00FFFFFF a = false → u.fbkDenies fbkDbg a true = none → u.memFree a data.length = true →
    exec (.debugAccess dt true a data ⟨n, ecc⟩) s = .next ((u.touch a data.length).memWrite a data)) ∧
  (∀ (c : Fin 64), let k := c.val / 32
    u.isSet (memReadyField k) = true → u.fld (pdField k) ≠ 2 → 80 ≤ u.fld Reg.MEM_TOL_MIN_TOL_NS → u.idleFor c.val 80 = true →
    c.val ∉ u.hbm.down → exec (.hbmPowerDownEntry dt c) s = .next (({ u with hbm := { u.hbm with down := c.val :: u.hbm.down } } : State).showDown k)) ∧
  (∀ (stack : Fin 2), let k := stack.val
    u.isSet (memReadyField k) = true → 4000 ≤ u.fld Reg.MEM_TOL_MIN_TOL_NS → u.stackIdle k (10 * ticksPerUs) = true →
    exec (.hbmSelfRefreshEntry dt stack) s =
      .next (({ u with hbm := { u.hbm with down := u.hbm.down.filter fun c => c / 32 != k } } : State).setFld (pdField k) 2)) ∧
  (u.hbm.waiting = [] → exec (.urgencyPromotion dt) s = .next u) ∧
  (∀ r, u.hbm.waiting = [r] → r.level = 3 → u.since r.since (2 * ticksPerUs) = true →
    exec (.urgencyPromotion dt) s = .next (({ u with hbm := { u.hbm with waiting := [] } } : State).serveReq { r with level := 2 })) ∧
  (∀ ecc : List (Fin 4), let a := u.rd64 Reg.MEM_SCRUB_POS_LO Reg.MEM_SCRUB_POS_HI
    u.isSet Reg.MEM_SCRUB_CTRL_EN = true → u.isSet (memReadyField (stackOf a)) = true → u.scrubDue = true →
    ∃ t, exec (.scrubBlockVisit dt ecc) s = .next t ∧ t.hbm.scrubAt = some u.tick ∧
      t.rd64 Reg.MEM_SCRUB_POS_LO Reg.MEM_SCRUB_POS_HI = (if a + 64 < 0xC00000000 then a + 64 else 0)) ∧
  (∀ v : Word, ∃ t, exec (.memScrubCtrlWrite dt v) s = .next t ∧ t.fld Reg.MEM_SCRUB_CTRL_EN = v.toNat % 2 ∧
    t.fld Reg.MEM_SCRUB_CTRL_PERIOD_H = clampTo 1 168 (bitsAt v.toNat 8 1)) ∧
  (∀ a v : Nat, u.hostPort = true → a % 4 = 0 → inBlock a = true → exec (.regWrite dt a 4 v) s = .next (u.regWrite a (v % 2 ^ 32))) ∧
  (∀ a v : Nat, u.hostPort = true → a % 8 = 0 → inBlock a = true →
    exec (.regWrite dt a 8 v) s = .next ((u.regWrite a (v % 2 ^ 32)).regWrite (a + 4) (v / 2 ^ 32 % 2 ^ 32))) ∧
  (∀ a : Nat, u.hostPort = true → a % 4 = 0 → inBlock a = true → exec (.regReadLowHalf dt a 4) s = .next (u.readReg a)) ∧
  (∀ a : Nat, u.hostPort = true → a % 8 = 0 → inBlock a = true → ∃ t, exec (.regReadLowHalf dt a 8) s = .next t ∧
    t.readData = (u.readReg a).readData + 2 ^ 32 * ((u.readReg a).readReg (a + 4)).readData)

/-- O2: pointer copies that disagree on a queue that runs reset it with the effect of its kind, copies that agree are held and nothing
else changes, the queue resumes after a reset, and the reset is classed TRANSIENT after 1,024 entries (R22 to R25). -/
def Obligations.QueueFaultsComplete : Prop :=
  ∀ (s : State) (dt : Nat) (kind : Fin 16) (index : Fin 64), let u := s.pass dt
  let q := kind.val * 256 + index.val
  (∀ c : PointerCopies, index.val < queueCount kind.val → ((u.dcq q).hold c).differs c.bits = true → (u.injTake 0x03 q).1 = none → (u.dcq q).at_ = 0 →
    (u.dcq q).lasting = false → exec (.queuePointerMismatch dt kind index c) s =
      .next ((u.queueReset kind.val index.val c.lost).setDcq q { at_ := u.tick + 1 })) ∧
  (∀ c : PointerCopies, index.val < queueCount kind.val → ((u.dcq q).hold c).differs c.bits = false → (u.injTake 0x03 q).1 = none →
    (u.dcq q).lasting = false → exec (.queuePointerMismatch dt kind index c) s =
      .next (u.setDcq q ((u.dcq q).hold c))) ∧
  (∀ x, u.dcq q = x → x.at_ ≠ 0 → x.lasting = false →
    ∃ t, exec (.queueResume dt kind index) s = .next t ∧ t.dcq q = { x with resumed := true }) ∧
  (∀ entries : Nat, (u.dcq q).at_ ≠ 0 → (u.dcq q).lasting = false → (u.dcq q).resumed = true → 1024 ≤ entries →
    exec (.queueFaultClass dt kind index entries) s = .next (u.queueClass kind.val index.val))
/-! ### Completion: the Ring ledger (R50, R54, R58, R59, R65, R66, R74, R76, R77) -/

/-- O3: the events of the ledger engine. A confirm ring's PROD is taken, a record is consumed, an engine's confirmation is applied, the
wheel scans and expires, the sweeper visits and ends its lap, the service window reads and writes a cell, a batch is raised. -/
def Obligations.LedgerEventsComplete : Prop :=
  ∀ (s : State) (dt : Nat), let u := s.pass dt
  (∀ (r : Fin 64) (v : Word), u.drives = true → u.isSet (Reg.LDG_CRING_CFG_OPEN r.val) = true → sparseFind u.ldg.closing r.val = none →
    wrapSub 32 v.toNat (u.rd (Reg.LDG_CRING_CONS r.val)) ≤ 2 ^ u.fld (Reg.LDG_CRING_CFG_LOG2_SIZE r.val) →
    wrapSub 32 v.toNat (u.rd (Reg.LDG_CRING_PROD r.val)) < 2 ^ 31 →
    exec (.ldgCringProdWrite dt r v) s =
      .next ((u.wr (Reg.LDG_CRING_PROD r.val) v.toNat).pairSend 0x04 (pack [(4, Reg.LDG_CRING_PROD r.val), (4, v.toNat)]))) ∧
  (∀ (r : Fin 64) (p : Bool), u.ledgerRuns = true → u.servedRing = some r.val →
    exec (.hostConfirmRecord dt r p) s = .next ((u.takeTurn r.val).consumeRecord r.val p)) ∧
  (∀ (p : Bool) e l, u.ledgerRuns = true → u.ldg.conf = e :: l →
    exec (.engineConfirm dt p) s = .next (({ u with ldg := { u.ldg with conf := l } } : State).engineConfirm e p)) ∧
  (∀ l : List Nat, u.ledgerRuns = true → u.ldg.scanned = u.slotNow → exec (.wheelSlotScan dt l) s = .next (u.scanSlot u.slotNow l)) ∧
  (∀ l : List Nat, u.ledgerRuns = true → u.ldg.scanned ≠ u.slotNow → u.ldg.candidates = [] →
    let slot := (u.ldg.scanned + 1) % 2 ^ 30
    exec (.wheelSlotScan dt l) s = .next (({ u with ldg := { u.ldg with scanned := slot } } : State).scanSlot slot l)) ∧
  (u.ledgerRuns = true → u.ldg.scanned ≠ u.slotNow →
    let v := u.scanSlot u.ldg.scanned []
    exec (.wheelSlotExpiry dt) s = .next (v.ldg.candidates.foldl (fun t n => t.expireCell n) v)) ∧
  (∀ p : Bool, u.ledgerRuns = true → u.ldg.lapDue = false → let n := u.fld Reg.LDG_SWEEP_POS_CELL
    ∃ t, exec (.sweeperCellVisit dt p) s = .next t ∧ t.fld Reg.LDG_SWEEP_POS_CELL = (n + 1) % cellCount) ∧
  (u.ldg.lapDue = true → ∃ t, exec (.sweeperLapEnd dt) s = .next t ∧ t.ldg.laps = u.ldg.laps + 1 ∧ t.ldg.lapDue = false) ∧
  (∀ (c : Fin 1048576) (p : Bool), u.isSet Reg.LDG_STATUS_SVC = true → let (ok, v) := (u.svcCmd false c.val).cellRead c.val p
    ok = true → ∃ t, exec (.ldgSvcRead dt c p) s = .next t ∧
    (∀ k, k < 4 → t.rd (Reg.LDG_SVC_DATA k) = fieldAt (v.cell c.val).image (4 * k) 4) ∧ t.ldg = v.ldg) ∧
  (∀ (c : Fin 1048576), let v := u.svcCmd true c.val
    let w := cellOfImage ((List.range 4).flatMap fun k => leBytes 4 (v.rd (Reg.LDG_SVC_DATA k)))
    v.svcDenied c.val w = false → exec (.ldgSvcWrite dt c) s = .next (u.svcWrite c.val)) ∧
  (∀ p : Fin 4096, (u.notifyOf p.val).total ≠ 0 → (u.notifyOf p.val).endTick ≤ u.tick →
    exec (.ldgStaleBatch dt p) s = .next (u.raiseBatch p.val))

/-- O4: the LDG_ commands of the command set, each taken up by its opcode with no check failing, are performed with the effect R76
gives them (LDG_RING_CLOSE waits while records remain). -/
def Obligations.LedgerCommandsComplete : Prop :=
  ∀ (s : State) (dt : Nat) (m : Fin 8), let u := s.pass dt
  let r := u.request m.val
  let first := r.u32 16
  let count := r.u32 20
  (u.takesUp m.val 0x0201 = true → passes (chkLdgCellAlloc r u) = true → ∀ n, u.placeCells true (r.u32 16) = some n →
    let t := u.allocCells n (r.u32 16) 1 r.part (r.u32 20) (r.u8 24) (r.u8 25 == 1) (r.u8 26)
    Performs (.ldgCellAlloc dt m) s m.val 0x0201 r t
      (pack [(4, n), (4, r.u32 16)] ++ (List.range (r.u32 16)).flatMap fun i => leBytes 1 (t.cell (n + i)).gen)) ∧
  (u.takesUp m.val 0x0202 = true → passes (chkLdgCellFree r u) = true →
    Performs (.ldgCellFree dt m) s m.val 0x0202 r ((u.freeCells first count).restageFreed first count) []) ∧
  (u.takesUp m.val 0x0203 = true → passes (chkLdgCellSet r u) = true →
    let t := (List.range count).foldl (fun t i => t.setCell r (first + i)) u
    let lost := if bitAt (r.u32 24) 3 then u.lostStands first count (r.u8 34) else 0
    Performs (.ldgCellSet dt m) s m.val 0x0203 r (if lost == 0 then t else t.restageStands first count lost) []) ∧
  (u.takesUp m.val 0x0204 = true → passes (chkLdgCellForce r u) = true →
    Performs (.ldgCellForce dt m) s m.val 0x0204 r ((List.range count).foldl (fun t i => t.forceCell (first + i) (r.u8 24)) u) []) ∧
  (u.takesUp m.val 0x0205 = true → passes (chkLdgCellQuery r u) = true →
    let (images, t) := u.cellImages first count
    Performs (.ldgCellQuery dt m) s m.val 0x0205 r t (leBytes 8 u.now40 ++ images)) ∧
  (u.takesUp m.val 0x0206 = true → passes (chkLdgStickyRelease r u) = true →
    Performs (.ldgStickyRelease dt m) s m.val 0x0206 r
      ((List.range count).foldl (fun t i => t.onCell (first + i) fun v => v.settleCell (first + i) { v.cell (first + i) with sticky := false }) u) []) ∧
  (u.takesUp m.val 0x0207 = true → passes (chkLdgRingOpen r u) = true →
    ∀ n, (List.range 64).find? (fun n => !u.isSet (Reg.LDG_CRING_CFG_OPEN n)) = some n →
    ∃ t, Performs (.ldgRingOpen dt m) s m.val 0x0207 r t (leBytes 4 n) ∧ t.rd (Reg.LDG_CRING_PROD n) = 0 ∧ t.rd (Reg.LDG_CRING_CONS n) = 0) ∧
  (u.takesUp m.val 0x0208 = true → passes (chkLdgRingClose r u) = true →
    (u.rd (Reg.LDG_CRING_CONS first) = u.rd (Reg.LDG_CRING_PROD first) →
      Performs (.ldgRingClose dt m) s m.val 0x0208 r (u.setFld (Reg.LDG_CRING_CFG_OPEN first) 0) []) ∧
    (u.rd (Reg.LDG_CRING_CONS first) ≠ u.rd (Reg.LDG_CRING_PROD first) →
      Waits (.ldgRingClose dt m) s m.val { u with ldg := { u.ldg with
        closing := sparseIns u.ldg.closing first { prod := u.rd (Reg.LDG_CRING_PROD first), waiter := some r.waiter } } })) ∧
  (u.takesUp m.val 0x0209 = true → passes (chkLdgNonliveList r u) = true → ∃ b, Performs (.ldgNonliveList dt m) s m.val 0x0209 r u b) ∧
  (u.takesUp m.val 0x020A = true → passes (chkLdgNotifyCfg r u) = true → ∃ t, Performs (.ldgNotifyCfg dt m) s m.val 0x020A r t [] ∧
    (t.notifyOf r.part).periodMs = r.u16 16 ∧ (t.notifyOf r.part).safetyOnly = (r.u16 18 == 1))
/-! ### Completion: scan-out, gate, outputs, layers, Lookout (spec/03 to spec/06) -/

/-- O5: along a frame each event that is due completes: sample point, line, end of the active area, Lookout post, latch line, frame start,
end of a drain, a return's signature. -/
def Obligations.FrameEventsComplete : Prop :=
  ∀ (s : State) (dt : Nat) (n : Fin 32), let u := s.pass dt
  (∀ (late : Bool) (ecc : List (Nat × Nat)), u.sampleDue n.val 0 = true → (u.beforeFrame n.val).sampleDue n.val 0 = true →
    ∃ t, exec (.lineSamplePoint dt n 0 late ecc) s = .next t ∧ (t.out n.val).sampled = 1) ∧
  (∀ (y : Nat) (late : Bool) (ecc : List (Nat × Nat)), y ≠ 0 → u.sampleDue n.val y = true →
    ∃ t, exec (.lineSamplePoint dt n y late ecc) s = .next t ∧ (t.out n.val).sampled = y + 1) ∧
  (∀ (y : Nat) gaps poison pool, u.lineDue n.val y = true →
    let (px, v) := u.lineStart n.val y gaps poison pool
    let w := v.encTap n.val y px
    exec (.lineStart dt n y gaps poison pool) s = .next ((if w.txOn n.val then w.sendLine n.val y px else w).emit (.pixels n.val y px))) ∧
  (u.endDue n.val = true →
    let (lasting, v) := u.frameEndOps n.val
    exec (.frameEnd dt n) s = .next (v.frameMeasure n.val (u.out n.val).poolMin (u.out n.val).urLines.length lasting)) ∧
  (u.postDue n.val = true →
    let (diff, gate, ret, v) := u.lookoutPost n.val
    let lost := (v.look n.val).discard
    let w := v.setLook n.val { v.look n.val with discard := false }
    let x := (if lost then w else w.postRecord n.val diff).ageOwn n.val (u.frameNo n.val)
    let y := if ret then x.returnRetrain n.val else x
    exec (.lookoutFramePost dt n) s = .next (if gate then y.voidSlice n.val else y).returnCredits) ∧
  (u.latchDue n.val = true → u.role ≠ roStandby →
    let f := u.frameNo n.val
    let (ds, deferred, waiting, v) := u.decideLatch n.val
    let ready := v.latchPrep n.val
    let plan := ready.latchPlan n.val ds
    let w := ready.latchWith n.val f [(ds, plan)] deferred waiting fun t => t.takeNewest n.val f
    exec (.latchLine dt n) s =
      .next (if w.role == roActive then w.pairSend 0x05 (w.latchBody n.val (wrapAdd 32 f 1) ds plan deferred waiting) else w)) ∧
  (u.latchDue n.val = true → u.role = roStandby → exec (.latchLine dt n) s = .next (u.standbyLatch n.val)) ∧
  (u.startDue n.val = true →
    let (lasting, v) := u.frameStartOps n.val
    let f := v.frameNo n.val
    let w := ((((if u.outState n.val == osStarting then v.clearConverged n.val else v.markLate n.val f).settleUnsupp n.val).missingRecords n.val f)).encFrameStart
      n.val f
    let x := if w.txOn n.val then w.sendFrameStart n.val (!u.txOn n.val) else w
    exec (.frameStart dt n) s = .next (if lasting then x.returnRetrain n.val else x)) ∧
  (u.drainDone n.val = true → exec (.outDrainComplete dt n) s = .next (u.leaveScreen n.val 0)) ∧
  (u.drainTimedOut n.val = true → exec (.outDrainTimeout dt n) s = .next ((u.setOutState n.val osResetting).leaveScreen n.val 1)) ∧
  (∀ body : List Byte, u.laneActive n.val = true → u.rxTakes n.val = true → body.length = 72 → exec (.returnSigReceived dt n body) s = .next (u.returnIn n.val body))

/-- O6: the GATE_, STAND_, OUT_, CNP_ and LKO_ commands of the command set, each taken up by its opcode with no check failing, are
performed with their effects. -/
def Obligations.OutputCommandsComplete : Prop :=
  ∀ (s : State) (dt : Nat) (m : Fin 8), let u := s.pass dt
  let r := u.request m.val
  let n := r.u8 16
  (u.takesUp m.val 0x0301 = true → chkGateBindSet r u = none →
    Performs (.gateBindSet dt m) s m.val 0x0301 r (u.buildStage n (u.boundSlots r)) []) ∧
  (u.takesUp m.val 0x0302 = true → chkGateBindClear r u = none →
    Performs (.gateBindClear dt m) s m.val 0x0302 r (u.buildStage n (u.unboundSlots r)) []) ∧
  (u.takesUp m.val 0x0303 = true → passes (chkGateSpanQuery r u) = true → ∃ t b, Performs (.gateSpanQuery dt m) s m.val 0x0303 r t b ∧
    fieldAt b 0 4 = (if r.u8 17 == 1 then u.stagedCount n else u.activeCount n) % 2 ^ 32) ∧
  (u.takesUp m.val 0x0304 = true → passes (chkGateTreatCfg r u) = true → ∃ t, Performs (.gateTreatCfg dt m) s m.val 0x0304 r t [] ∧
    ∀ k, k < 10 → bitAt (r.u32 16) k = true → t.rd (gateColourRegs.getD k 0) = r.u32 (20 + 4 * k)) ∧
  (u.takesUp m.val 0x0305 = true → passes (chkGateOutputCfg r u) = true → ∃ t, Performs (.gateOutputCfg dt m) s m.val 0x0305 r t [] ∧
    t = (((((u.setFld (Reg.GATE_OUT_CFG_SAMPLE n) (r.u8 17)).setFld (Reg.GATE_OUT_CFG_PULSE_EN n) (r.u8 18)).setFld
      (Reg.GATE_OUT_CFG_PULSE_CORNER n) (r.u8 19)).setFld (Reg.GATE_OUT_CFG_PULSE_INSET n) (r.u8 20)).setFld
      (Reg.GATE_OUT_CFG_CLEAR_NUM n) (r.u8 21)).pulseDrops n) ∧
  (u.takesUp m.val 0x0401 = true → passes (chkStandCfg r u) = true →
    Performs (.standCfg dt m) s m.val 0x0401 r (u.changePhase n (r.u32 20)) []) ∧
  (u.takesUp m.val 0x0402 = true → passes (chkOutEnable r u) = true → Performs (.outEnable dt m) s m.val 0x0402 r
    (u.enableOutput n (r.u8 17) (r.u8 18) (r.u8 19) (r.u8 20) (if r.u16 22 == 0xFFFF then (modeOf (r.u8 17)).h else r.u16 22) (r.u16 24)) []) ∧
  (u.takesUp m.val 0x0403 = true → passes (chkOutDisable r u) = true →
    Waits (.outDisable dt m) s m.val (u.disableOutput n (if r.u16 18 == 0 then 50 else r.u16 18) (some r.waiter))) ∧
  (u.takesUp m.val 0x0404 = true → passes (chkOutSet r u) = true → ∃ t, Performs (.outSet dt m) s m.val 0x0404 r t [] ∧
    (t.out n).setClass = (if bitAt (r.u8 17) 0 then r.u8 18 else (u.out n).setClass) ∧
    (t.out n).setPrio = (if bitAt (r.u8 17) 1 then r.u8 19 else (u.out n).setPrio) ∧
    (t.out n).setLatch = (if bitAt (r.u8 17) 2 then r.u16 20 else (u.out n).setLatch)) ∧
  (u.takesUp m.val 0x0405 = true → passes (chkOutQuery r u) = true → ∃ b, Performs (.outQuery dt m) s m.val 0x0405 r u b ∧
    fieldAt b 0 4 = u.rd (Reg.CNP_OUT_CTRL n) ∧ fieldAt b 4 4 = u.frameNo n) ∧
  (u.takesUp m.val 0x0411 = true → passes (chkCnpBufSet r u) = true → let g := ((u.buf n (r.u16 18)).gen + 1) % 65536
    ∃ t, Performs (.cnpBufSet dt m) s m.val 0x0411 r t (leBytes 4 g) ∧ t.buf n (r.u16 18) = { present := true, gen := g, pic :=
      { fmt := r.u8 17, w := r.u16 20, h := r.u16 22, p0 := r.u64 24, s0 := r.u32 32, s1 := r.u32 36, p1 := r.u64 40 } }) ∧
  (u.takesUp m.val 0x0412 = true → passes (chkCnpBufClear r u) = true → let g := ((u.buf n (r.u16 18)).gen + 1) % 65536
    ∃ t, Performs (.cnpBufClear dt m) s m.val 0x0412 r t (leBytes 4 g) ∧ t.buf n (r.u16 18) = { gen := g }) ∧
  (u.takesUp m.val 0x0413 = true → passes (chkCnpLayoutPrepare r u) = true → ∀ l, u.allotted n (u.preparedSlots r n) = some l →
    u.admission n (u.mode n) l = none → ∃ b, Performs (.cnpLayoutPrepare dt m) s m.val 0x0413 r (u.buildStage n l) b) ∧
  (u.takesUp m.val 0x0414 = true → passes (chkCnpCringOpen r u) = true → ∃ t, Performs (.cnpCringOpen dt m) s m.val 0x0414 r t [] ∧
    t.rd (Reg.CNP_CRING_CFG n) = 2 ^ 31 + r.u8 17 ∧ t.rd (Reg.CNP_CRING_PROD n) = 0 ∧ t.rd (Reg.CNP_CRING_CONS n) = 0) ∧
  (u.takesUp m.val 0x0415 = true → passes (chkCnpCringClose r u) = true →
    (u.rd (Reg.CNP_CRING_CONS n) = u.rd (Reg.CNP_CRING_PROD n) →
      Performs (.cnpCringClose dt m) s m.val 0x0415 r (u.setFld (Reg.CNP_CRING_CFG_OPEN n) 0) []) ∧
    (u.rd (Reg.CNP_CRING_CONS n) ≠ u.rd (Reg.CNP_CRING_PROD n) →
      Waits (.cnpCringClose dt m) s m.val (u.setCmt n { u.cmt n with closing := some (u.rd (Reg.CNP_CRING_PROD n), r.waiter) }))) ∧
  (u.takesUp m.val 0x0501 = true → passes (chkLkoRegionSet r u) = true → Performs (.lkoRegionSet dt m) s m.val 0x0501 r
    (((List.range (min (r.u32 16) 100)).map fun i => regionRec r (32 + 28 * i)).foldl (fun t x => t.regionWrite r.part x) u) []) ∧
  (u.takesUp m.val 0x0502 = true → passes (chkLkoRegionClear r u) = true → Performs (.lkoRegionClear dt m) s m.val 0x0502 r
    ((u.regionList.filter fun k => r.u32 16 ≤ k && k < r.u32 16 + r.u32 20).foldl (fun t k => t.regionOff k) u) []) ∧
  (u.takesUp m.val 0x0503 = true → passes (chkLkoRefSet r u) = true → Performs (.lkoRefSet dt m) s m.val 0x0503 r
    (((List.range (min (r.u32 16) 200)).map fun i => 32 + 12 * i).foldl (fun t o => t.refSet (r.u32 o) (r.u32 (o + 4)) (r.u32 (o + 8))) u) []) ∧
  (u.takesUp m.val 0x0504 = true → passes (chkLkoRegionQuery r u) = true → r.u32 20 ≤ 127 →
    Performs (.lkoRegionQuery dt m) s m.val 0x0504 r u
      (pack [(4, r.u32 20), (4, 0)] ++ (List.range (r.u32 20)).flatMap fun i => u.regImage State.rd (regionBase (r.u32 16 + i)) 8))
/-- O7: the host's own register accesses of scan-out and Lookout complete: service writes of the gate, the latch line, layer registers
and regions, the commit ring's doorbell, the read of a frame start (R91, R122, R123, R140, R151, R169). -/
def Obligations.OutputWritesComplete : Prop :=
  ∀ (s : State) (dt : Nat), let u := s.pass dt
  (∀ (k : Nat) (v : Word), k < 10 → u.isSet Reg.GATE_STATUS_SVC = true →
    exec (.gateSvcWrite dt (gateColourRegs.getD k 0) v) s = .next (u.gateColourWrite k v.toNat)) ∧
  (∀ (n : Fin 32) (v : Word), u.isSet (Reg.CNP_OUT_CTRL_SVC n.val) = true → u.isSet (Reg.CNP_OUT_CTRL_EN n.val) = true →
    ∃ t, exec (.cnpOutLatchWrite dt n v) s = .next t ∧
      t.fld (Reg.CNP_OUT_LATCH_LATCH_LINE n.val) = clampTo (u.mode n.val).h ((u.mode n.val).vTotal - 3) (bitsAt v.toNat 11 0)) ∧
  (∀ n : Fin 32, exec (.cnpFstartNsRead dt n) s = .next (u.readReg (Reg.CNP_OUT_FSTART_NS n.val))) ∧
  (∀ (n : Fin 32) (v : Word), u.drives = true → u.isSet (Reg.CNP_CRING_CFG_OPEN n.val) = true → (u.cmt n.val).closing = none →
    wrapSub 32 v.toNat (u.rd (Reg.CNP_CRING_CONS n.val)) ≤ 2 ^ u.fld (Reg.CNP_CRING_CFG_LOG2_SIZE n.val) →
    wrapSub 32 v.toNat (u.rd (Reg.CNP_CRING_PROD n.val)) < 2 ^ 31 →
    let c := u.cmt n.val
    exec (.cnpCringProdWrite dt n v) s =
      .next ((((u.wr (Reg.CNP_CRING_PROD n.val) v.toNat).setCmt n.val { c with bells := c.bells ++ [{ prod := v.toNat, target := u.targetNow n.val }] }).groupBell
        n.val (u.rd (Reg.CNP_CRING_PROD n.val))).pairSend 0x04 (pack [(4, Reg.CNP_CRING_PROD n.val), (4, v.toNat)]))) ∧
  (∀ (n : Fin 32) (v : Word), u.isSet (Reg.CNP_OUT_CTRL_SVC n.val) = true →
    exec (.cnpLayerSvcWrite dt (0x100000 + 0x1000 * n.val + 0x120) v) s = .next (u.wr (0x100000 + 0x1000 * n.val + 0x120) (v.toNat % 2 ^ 30))) ∧
  (∀ (n : Fin 32) (k : Fin 8) (v : Word), u.isSet (Reg.CNP_OUT_CTRL_SVC n.val) = true →
    exec (.cnpLayerSvcWrite dt (Reg.CNP_LAYER_DST_XY n.val k.val) v) s =
      .next (u.setCmt n.val { u.cmt n.val with svc := sparseIns (u.cmt n.val).svc (Reg.CNP_LAYER_DST_XY n.val k.val) v.toNat })) ∧
  (∀ (k : Fin 16384) (v : Word), u.isSet Reg.LKO_STATUS_SVC = true → u.regionAdjusted k.val 4 v.toNat = v.toNat →
    u.rd (regionBase k.val + 16) ≠ v.toNat →
    exec (.lkoRegionSvcWrite dt (regionBase k.val + 16) v) s = .next (u.wr (regionBase k.val + 16) v.toNat))
/-! ### Completion: decode pool, encode pool, packet ports (spec/07 to spec/09) -/

/-- O8: the events of decode sessions: a row of a picture in the session's turn, a picture's output, timeouts, the rate window, drains and
their timeouts, after which a session that closes is RESETTING until its drain completes. -/
def Obligations.DecodeEventsComplete : Prop :=
  ∀ (s : State) (dt : Nat) (k : Fin 128), let u := s.pass dt
  let d := u.dec k.val
  (∀ row : DecRow, let p := u.fld (Reg.DEC_SES_CTRL_PIPE k.val)
    u.isSet (Reg.DEC_SES_CTRL_OPEN k.val) = true → u.decState k.val ≠ dsResetting → d.parked = false → d.stuck = false →
    u.isSet (Reg.DEC_PIPE_STAT_EN p) = true → u.queueTakes 0x08 (2 * p) = true → u.queueTakes 0x08 (2 * p + 1) = true → u.decTurn k.val = true →
    (d.cur.isSome = true → row.head = none → exec (.decRowDecode dt k row) s = .next (u.serveRow k.val row)) ∧
    (∀ h, d.cur = none → row.head = some h → u.decState k.val ≠ dsDraining → d.pipeDrain = false →
      (u.decState k.val = dsWaitParams → rowParams row = true) →
      (d.wantWhole = true → h.whole = true) → (h.later = true ∨ u.skipsPictures k.val = false) →
      exec (.decRowDecode dt k row) s = .next ((u.beginPicture k.val h).serveRow k.val row))) ∧
  (∀ (i : Nat) p, d.parked = false → d.out[i]? = some p →
    exec (.decPictureComplete dt k i) s = .next ((u.setDec k.val { d with out := d.out.eraseIdx i }).completePicture k.val p)) ∧
  (d.cur.isSome = true → d.lastPacket + ceilDiv (10 ^ 12) d.rateMhz ≤ u.tick →
    exec (.decPictureTimeout dt k) s = .next (u.concealRest k.val deDataLost false)) ∧
  (u.isSet (Reg.DEC_SES_CTRL_OPEN k.val) = true → d.winAt + 10 * ticksPerMs ≤ u.tick →
    ∃ t, exec (.decRateWindowEnd dt k) s = .next t ∧ (t.dec k.val).winPix = 0 ∧ (t.dec k.val).winAt = d.winAt + 10 * ticksPerMs) ∧
  (u.decState k.val ≠ dsResetting → d.drainAt.isSome = true → d.cur = none → d.stuck = false → d.pipeDrain = false →
    exec (.decDrainComplete dt k) s = .next ((u.flushOut k.val).finishDecClose k.val)) ∧
  (u.decState k.val ≠ dsResetting → d.drainAt.isSome = true → d.cur = none → d.stuck = false → d.pipeDrain = true →
    exec (.decDrainComplete dt k) s =
      .next (((u.setDec k.val { d with pipeDrain := false, drainAt := none }).atBoundary k.val).pipeMoved (u.fld (Reg.DEC_SES_CTRL_PIPE k.val)))) ∧
  (u.decState k.val = dsResetting → exec (.decDrainComplete dt k) s = .next (u.finishDecClose k.val)) ∧
  (∀ t, d.drainAt = some t → t ≤ u.tick → d.pipeDrain = false → exec (.decDrainTimeout dt k) s =
    .next (((u.setDecState k.val dsResetting).resetDec k.val).logFault 0x19 1 (0x100 + k.val) d.stuck)) ∧
  (∀ t, d.drainAt = some t → t ≤ u.tick → d.pipeDrain = true → let v := (u.resetDec k.val).logFault 0x19 1 (0x100 + k.val) d.stuck
    exec (.decDrainTimeout dt k) s =
      .next (((v.setDec k.val { v.dec k.val with pipeDrain := false }).atBoundary k.val).pipeMoved (u.fld (Reg.DEC_SES_CTRL_PIPE k.val))))

/-- O9: the events of encode sessions: a row coded, the end of a picture, the ring's consumer index, drains. -/
def Obligations.EncodeEventsComplete : Prop :=
  ∀ (s : State) (dt : Nat) (k : Fin 32), let u := s.pass dt
  let d := u.enc k.val
  (∀ op : EncCode, let p := u.fld (Reg.ENC_SES_CTRL_PIPE k.val)
    u.isSet (Reg.ENC_SES_CTRL_OPEN k.val) = true → d.parked = false → d.stuck = false → u.isSet (Reg.ENC_PIPE_STAT_EN p) = true →
    u.queueTakes 0x09 (2 * p) = true → u.queueTakes 0x09 (2 * p + 1) = true → u.encState k.val ≠ esResetting →
    (∀ c : EncCur, d.cur = some c → u.rowReady k.val c.src c.row = true →
      let (run, src, ref, t) := u.rowReads k.val c.src c.row
      let a := t.encAfter k.val run
      let bad := op.poisonRef || ref
      let v := if bad then a.setEnc k.val { a.enc k.val with cur := (a.enc k.val).cur.map fun (c : EncCur) => { c with intra := true } } else a
      v.rowObeys k.val op = true → exec (.encRowCode dt k op) s = .next (v.codeRow k.val { op with poisonSrc := op.poisonSrc || src, poisonRef := bad })) ∧
    (∀ x, d.cur = none → d.sources.head? = some x → d.pipeDrain = false → u.rowReady k.val x 0 = true →
      ∀ t, (u.beginCode k.val x op).serveEnc k.val x 0 op = some t → exec (.encRowCode dt k op) s = .next t)) ∧
  (∀ t, d.handed = some t → exec (.encPictureDone dt k) s = .next ((u.setEnc k.val { d with handed := none }).sendConfirm
    { cell := u.fld (Reg.ENC_SES_CELL_CELL k.val), action := 0, timeKind := 0, time := t })) ∧
  (∀ v : Word, wrapSub 32 v.toNat (u.rd (Reg.ENC_SES_RING_CONS k.val)) ≤
      wrapSub 32 (u.rd (Reg.ENC_SES_RING_PROD k.val)) (u.rd (Reg.ENC_SES_RING_CONS k.val)) →
    exec (.encSesRingConsWrite dt k v) s = .next ((u.wr (Reg.ENC_SES_RING_CONS k.val) v.toNat).abortFlush k.val)) ∧
  (u.encState k.val ≠ esResetting → d.drainAt.isSome = true → d.cur = none → d.stuck = false → d.pipeDrain = false →
    exec (.encDrainComplete dt k) s = .next ((u.encDone k.val).finishEncClose k.val)) ∧
  (u.encState k.val ≠ esResetting → d.drainAt.isSome = true → d.cur = none → d.stuck = false → d.pipeDrain = true →
    exec (.encDrainComplete dt k) s =
      .next (((u.setEnc k.val { d with pipeDrain := false, drainAt := none }).encBoundary k.val).encPipeMoved (u.fld (Reg.ENC_SES_CTRL_PIPE k.val)))) ∧
  (u.encState k.val = esResetting → exec (.encDrainComplete dt k) s = .next (u.finishEncClose k.val)) ∧
  (∀ t, d.drainAt = some t → t ≤ u.tick → d.pipeDrain = false → ∃ v : State, exec (.encDrainTimeout dt k) s = .next v ∧
    (v.enc k.val).drainAt = none ∧ (v.enc k.val).stuck = false ∧ (v.enc k.val).wasReset = true)

/-- O10: the DEC_ and ENC_ commands of the command set, each taken up by its opcode with no check failing, are performed (the closing
ones wait for their drain). -/
def Obligations.PoolCommandsComplete : Prop :=
  ∀ (s : State) (dt : Nat) (m : Fin 8), let u := s.pass dt
  let r := u.request m.val
  let k := r.u16 16
  (u.takesUp m.val 0x0601 = true → passes (decOpenChecks r ++ [(overQuota r.part (u.decsOf r.part) 1 (u.partOf r.part).decQuota 0xFF, stNoSpace, noField)]) = true →
    u.rung 5 = false →
    let rows := if bitAt (r.u8 17) 0 then ceilDiv (r.u16 22) rowCellLines else 0
    let slots := r.u8 19 + r.u8 18 + 2
    let picLog := log2Up 12 (slots * decSlotBytes (r.u8 16) (r.u16 20) (r.u16 22))
    let metaLog := log2Up 12 (slots * 8192)
    ∀ n cell row v mem w p, (List.range 128).find? (fun n => !u.isSet (Reg.DEC_SES_CTRL_OPEN n)) = some n →
    u.decCells r rows = some (cell, row, v) → v.takeMemory [picLog, metaLog, r.u8 39] = some (mem, w) →
    findPipe decPix decKbps u.decPipesUp u.decTable (newDecSlotted r) = some p →
    Performs (.decSessionOpen dt m) s m.val 0x0601 r (w.openDec r n p cell row rows mem picLog metaLog)
      (pack [(2, n), (1, p), (1, 0), (4, cell), (4, row), (2, rows), (2, 0)])) ∧
  (u.takesUp m.val 0x0602 = true → passes (chkDecSessionClose r u) = true →
    Waits (.decSessionClose dt m) s m.val (u.drainDec k (drainMs (r.u16 18)) (some r.waiter) false)) ∧
  (u.takesUp m.val 0x0603 = true → passes (chkDecSessionParams r u) = true →
    let t := u.setDec k { u.dec k with params := (u.dec k).params ++ r.bytes 20 (r.u16 18) }
    Performs (.decSessionParams dt m) s m.val 0x0603 r
      (if u.decState k == dsWaitParams && hasSets (u.fld (Reg.DEC_SES_CTRL_PROFILE k)) (r.bytes 20 (r.u16 18)) then t.setDecState k dsRunning else t) []) ∧
  (u.takesUp m.val 0x0604 = true → passes (chkDecSessionAnchor r u) = true → Performs (.decSessionAnchor dt m) s m.val 0x0604 r
    (u.setAnchor k { rtp := unwrapRtp (u.dec k).uLast (r.u32 20), ptp := u.ptp64 (r.u32 28) (r.u32 24), epoch := r.u16 18 }) []) ∧
  (u.takesUp m.val 0x0605 = true → passes (chkDecSessionQuery r u) = true →
    ∃ b, Performs (.decSessionQuery dt m) s m.val 0x0605 r u (u.regImage State.view (Reg.DEC_SES_CTRL k) 12 ++ b)) ∧
  (u.takesUp m.val 0x0606 = true → passes (chkDecPipeCtrl r u) = true → r.u8 17 = 1 → u.isSet (Reg.DEC_PIPE_STAT_EN (r.u8 16)) = false →
    Performs (.decPipeCtrl dt m) s m.val 0x0606 r (((u.setFld (Reg.DEC_PIPE_STAT_EN (r.u8 16)) 1).decFigures).resumeDecs) []) ∧
  (u.takesUp m.val 0x0606 = true → passes (chkDecPipeCtrl r u) = true → r.u8 17 ≠ 1 → u.isSet (Reg.DEC_PIPE_STAT_EN (r.u8 16)) = true →
    (u.drainDecPipe (r.u8 16) (drainMs (r.u16 18)) r.waiter).pipeDraining (r.u8 16) = true →
    Waits (.decPipeCtrl dt m) s m.val (u.drainDecPipe (r.u8 16) (drainMs (r.u16 18)) r.waiter)) ∧
  (u.takesUp m.val 0x0701 = true → passes (u.encOpenChecks r ++ [(overQuota r.part (u.encsOf r.part) 1 (u.partOf r.part).encQuota 0xFF, stNoSpace, noField)]) = true →
    u.rung 5 = false →
    let (w, h) := encSize r
    let mode := u.mode (r.u8 16)
    let a := encAllot mode w h (max 1 (r.u8 28))
    let (src, rcn) := encMemory (r.u8 17) (ofBool (bitAt (r.u8 18) 0)) w h
    encFloor mode (encUnit (r.u8 17)) w h (r.u32 32) (r.u8 28) = true →
    ∀ n cell mem v p, (List.range 32).find? (fun n => !u.isSet (Reg.ENC_SES_CTRL_OPEN n)) = some n → u.placeCells false 1 = some cell →
    (u.allocCells cell 1 5 0 (r.u32 40) (ofBool (bitAt (r.u8 18) 3)) (bitAt (r.u8 18) 4) (r.u8 44)).takeMemory
      ([log2Up 12 src, log2Up 12 rcn] ++ if bitAt (r.u8 18) 1 then [] else [20]) = some (mem, v) →
    findPipe encPix encKbps u.encPipesUp u.encTable { id := 32, num := a.1, den := a.2, kbps := r.u32 32 } = some p →
    Performs (.encSessionOpen dt m) s m.val 0x0701 r (v.openEnc r n p cell mem (log2Up 12 src) (log2Up 12 rcn))
      (pack [(2, n), (1, p), (1, 0), (4, cell)])) ∧
  (u.takesUp m.val 0x0702 = true → passes (chkEncSessionClose r u) = true →
    Waits (.encSessionClose dt m) s m.val (u.drainEnc k (drainMs (r.u16 18)) (some r.waiter) false)) ∧
  (u.takesUp m.val 0x0703 = true → passes (chkEncSessionSet r u) = true → bitAt (r.u8 18) 0 = false →
    ∃ t k0 a0 b0 c0 q0, Performs (.encSessionSet dt m) s m.val 0x0703 r t [] ∧ (t.enc k).set = some (0, k0, a0, b0, c0, q0) ∧
    (bitAt (r.u8 18) 1 = true → a0 = r.u8 24 ∧ b0 = r.u8 25 ∧ c0 = r.u8 26) ∧ (bitAt (r.u8 18) 2 = true → q0 = r.u8 27)) ∧
  (u.takesUp m.val 0x0704 = true → passes (chkEncRefresh r u) = true → Performs (.encRefresh dt m) s m.val 0x0704 r (u.coppice k) []) ∧
  (u.takesUp m.val 0x0705 = true → passes (chkEncSessionQuery r u) = true →
    Performs (.encSessionQuery dt m) s m.val 0x0705 r u (u.regImage State.view (Reg.ENC_SES_CTRL k) 18)) ∧
  (u.takesUp m.val 0x0706 = true → passes (chkEncPipeCtrl r u) = true → r.u8 17 = 1 → u.isSet (Reg.ENC_PIPE_STAT_EN (r.u8 16)) = false →
    Performs (.encPipeCtrl dt m) s m.val 0x0706 r (((u.setFld (Reg.ENC_PIPE_STAT_EN (r.u8 16)) 1).encFigures).resumeEncs) []) ∧
  (u.takesUp m.val 0x0706 = true → passes (chkEncPipeCtrl r u) = true → r.u8 17 ≠ 1 → u.isSet (Reg.ENC_PIPE_STAT_EN (r.u8 16)) = true →
    (u.drainEncPipe (r.u8 16) (drainMs (r.u16 18)) r.waiter).encPipeDraining (r.u8 16) = true →
    Waits (.encPipeCtrl dt m) s m.val (u.drainEncPipe (r.u8 16) (drainMs (r.u16 18)) r.waiter))

/-- O11: the events of packet ports and ingest queues: a good frame is counted and classified, priority flow control, marks, reads,
sender reports, link changes, service accesses. -/
def Obligations.PacketEventsComplete : Prop :=
  ∀ (s : State) (dt : Nat), let u := s.pass dt
  (∀ (p : Fin 2) (f : List Byte) (level fixed bad : Nat), let w := u.countFec p.val fixed bad
    w.queueTakes 0x07 (2 * p.val) = true → w.linkUp p.val = true → (w.injTake 0x13 p.val).1 = none → within 64 9216 f.length = true →
    ethCrc (f.take (f.length - 4)) = f.drop (f.length - 4) → 64 * level + f.length ≤ 262144 →
    let v := (w.bumpWrap (Reg.PKT_PORT_CNT_RX_FRAMES p.val)).setFld (Reg.PKT_PORT_RXBUF_LEVEL p.val) (min (level + ceilDiv f.length 64) 4096)
    exec (.ethFrameReceived dt p f ⟨level, fixed, bad⟩) s = .next ((v.settlePorts.frameIn p.val (f.take (f.length - 4))).settlePorts)) ∧
  (∀ (p : Fin 2) (c : Fin 8) t, sparseFind (u.portSt p.val).pfcAt c.val = some t → t + 500 * ticksPerUs ≤ u.tick →
    bitAt (u.fld (Reg.PKT_PORT_STAT_PFC_TX p.val)) c.val = true → exec (.pfcRenew dt p c) s = .next (u.sendPfc p.val c.val 0xFFFF)) ∧
  (∀ (p : Fin 2) (c : Fin 8) t, sparseFind (u.portSt p.val).pausedSince c.val = some t → t + 50 * ticksPerMs < u.tick →
    let x := u.portSt p.val
    let gone := x.txq.filter fun f => f.pcp == c.val
    let first := (gone.findSome? fun f => f.session).getD 0
    exec (.pfcPauseTimeout dt p c) s =
      .next (((u.setPort p.val { x with txq := x.txq.filter fun f => f.pcp != c.val }).lostFrames gone).txLoss p.val first gone.length (u.encOwner first))) ∧
  (∀ (p : Fin 2) (c : Fin 8) t, sparseFind (u.portSt p.val).pausedTill c.val = some t → t ≤ u.tick →
    exec (.pfcRxPauseExpiry dt p c) s = .next (u.pauseClass p.val c.val 0)) ∧
  (∀ k : Fin 128, u.isSet (Reg.PKT_Q_CTRL_OPEN k.val) = true →
    (∀ i, (List.range 4).find? (fun m => !(u.qMarks k.val).contains m) = some i →
      let t := ((u.wr (Reg.PKT_Q_MARK k.val i) (u.rd (Reg.PKT_Q_RD k.val))).setMarkValid k.val i true).qRetail k.val
      exec (.queueSetMark dt k) s = .next (t.setDec k.val { t.dec k.val with ahead := some i })) ∧
    (∀ i : Fin 4, (u.qMarks k.val).contains i.val = true → exec (.queueRewind dt k i) s =
      .next ((((u.wr (Reg.PKT_Q_RD k.val) (u.rd (Reg.PKT_Q_MARK k.val i.val))).setQueue k.val { u.queue k.val with reading := none }).setDec k.val
        { u.dec k.val with marker := false }).qRetail k.val)) ∧
    (∀ i : Fin 4, exec (.queueRelease dt k i) s =
      .next (((u.setDec k.val ((u.dec k.val).unmark i.val)).setMarkValid k.val i.val false).qRetail k.val)) ∧
    (∀ whole : Bool, let a := u.loadDecPipe k.val
      (u.dec k.val).skipping = false → a.rd (Reg.PKT_Q_RD k.val) = a.rd (Reg.PKT_Q_WR k.val) →
      exec (.queueRead dt ⟨k, whole⟩) s = .next (({ a with readData := 0 } : State).setDec k.val { a.dec k.val with skipping := false })) ∧
    ((u.dec k.val).skipping = false → u.rd (Reg.PKT_Q_RD k.val) ≠ u.rd (Reg.PKT_Q_WR k.val) →
      let rd := u.rd (Reg.PKT_Q_RD k.val)
      let unit := fbkDec (u.fld (Reg.DEC_SES_CTRL_PIPE k.val))
      let a := u.loadDecPipe k.val
      a.rd (Reg.PKT_Q_RD k.val) = rd → a.rd (Reg.PKT_Q_WR k.val) = u.rd (Reg.PKT_Q_WR k.val) →
      let (header, b) := a.qHeader unit k.val rd
      let size := b.headSize k.val rd header
      let (item, ok, l, bad, v) := b.unitLoad unit (b.qAddr k.val rd) size
      let w : State := { v with readData := 1 + 2 * leNat item }
      bad = false →
      exec (.queueRead dt ⟨k, false⟩) s =
        .next ((w.setQueue k.val { w.queue k.val with reading := some rd }).decAfter k.val { ok := ok, lasting := l }) ∧
      exec (.queueRead dt ⟨k, true⟩) s =
        .next (((((w.wr (Reg.PKT_Q_RD k.val) (wrapAdd 32 rd size)).setQueue k.val { w.queue k.val with reading := none }).setDec k.val
          { w.dec k.val with marker := (w.dec k.val).marker || bitAt (fieldAt item 2 1) 0 }).qRetail k.val).decAfter k.val
            { ok := ok, lasting := l }))) ∧
  (∀ p : Fin 2, u.linkUp p.val = false → (u.portSt p.val).down = false → u.isSet Reg.PKT_STATUS_READY = true →
    u.laneUsable (52 + p.val) = true → ∃ v : State, exec (.portLinkChange dt p true) s =
      .next ((v.notice 0x0801 p.val [0] (pack [(1, p.val), (1, 1), (2, 0)])).settlePorts) ∧ v.linkUp p.val = true) ∧
  (∀ (k : Fin 32) f, (u.enc k.val).flow = some f → f.srMs ≠ 0 → f.srAt + f.srMs * ticksPerMs ≤ u.tick →
    u.isSet (Reg.PKT_TX_CTRL_OPEN k.val) = true → u.txSends k.val = true →
    let f1 : TxFlow := { f with srAt := f.srAt + f.srMs * ticksPerMs, keys := { f.keys with rtcp := (f.keys.rtcp + 1) % 2 ^ 31 } }
    let t := u.setEnc k.val { u.enc k.val with flow := some f1 }
    (u.trusted = false → exec (.txSenderReport dt k) s = .next (t.bump (Reg.PKT_TX_CNT_LOSS k.val))) ∧
    let port := u.fld (Reg.PKT_TX_CTRL_PORT k.val)
    let key := f.keys.reportKey (u.rd (Reg.PKT_TX_ROC k.val) * 65536 + u.fld (Reg.PKT_TX_CTRL_SEQ k.val))
    let (ok, v) := t.txPut port (t.reportFrame port f key)
    (u.trusted = true → keyReady f.srtp key = true → u.linkUp port = true →
      exec (.txSenderReport dt k) s = .next (if ok then v else v.bump (Reg.PKT_TX_CNT_LOSS k.val)))) ∧
  (∀ v : Word, u.isSet Reg.PKT_STATUS_SVC = true → bitAt v.toNat 31 = true → u.isSet (Reg.PKT_Q_CTRL_OPEN (v.toNat % 128)) = true →
    u.rd (Reg.PKT_Q_RD (v.toNat % 128)) ≠ u.rd (Reg.PKT_Q_WR (v.toNat % 128)) →
    ∃ t, exec (.pktQdiagGo dt v) s = .next t ∧ t.fld Reg.PKT_QDIAG_CTRL_VALID = 1 ∧
      let n := v.toNat % 128
      ∀ k, k < 8 → t.rd (Reg.PKT_QDIAG_DATA k) =
        fieldAt ((u.setFld Reg.PKT_QDIAG_CTRL_SESSION n).qHeader fbkPkt n (u.rd (Reg.PKT_Q_RD n))).1 (4 * k) 4) ∧
  (∀ (k : Fin 128) (v : Word), u.isSet Reg.PKT_STATUS_SVC = true → u.isSet (Reg.PKT_Q_CTRL_OPEN k.val) = true →
    let hi := min (max (bitsAt v.toNat 25 16) 1) (highLimit (u.qSize k.val))
    let lo := min (bitsAt v.toNat 9 0) (hi - 1)
    ∃ t, exec (.pktQWmarkWrite dt k v) s = .next t ∧ t.rd (Reg.PKT_Q_WMARK k.val) = hi * 65536 + lo) ∧
  (∀ k : Fin 128, let q := u.queue k.val
    exec (.pktQueueReadTimeout dt k) s =
      .next ((q.waits.filter fun w => w.endTick ≤ u.tick).foldl (fun t w => t.answer (some w.waiter) stTimeout [])
        (u.setQueue k.val { q with waits := q.waits.filter fun w => u.tick < w.endTick })))

/-- O12: the PKT_ commands of the command set, each taken up by its opcode with no check failing, are performed. -/
def Obligations.PacketCommandsComplete : Prop :=
  ∀ (s : State) (dt : Nat) (m : Fin 8), let u := s.pass dt
  let r := u.request m.val
  let k := r.u16 16
  (u.takesUp m.val 0x0801 = true → passes (chkPktPortCfg r u) = true → ∃ t, Performs (.pktPortCfg dt m) s m.val 0x0801 r t [] ∧
    ((t.portSt (r.u8 16)).addrs).length = r.u8 17 ∧ t.fld (Reg.PKT_PORT_STAT_PFC_MASK (r.u8 16)) = r.u8 18) ∧
  (u.takesUp m.val 0x0802 = true → passes (chkPktFlowSet r u) = true → (flowOf r).ports = 0 →
    ∃ t : State, Performs (.pktFlowSet dt m) s m.val 0x0802 r (t.settlePorts.joinGroups k (flowOf r)) [] ∧ (t.queue k).flow = none) ∧
  (u.takesUp m.val 0x0802 = true → passes (chkPktFlowSet r u) = true → (flowOf r).ports ≠ 0 →
    ∃ t : State, Performs (.pktFlowSet dt m) s m.val 0x0802 r (t.settlePorts.joinGroups k (flowOf r)) [] ∧ (t.queue k).flow = some (flowOf r) ∧
      t.rd (Reg.PKT_Q_WMARK k) = (if r.u16 64 == 0 then 768 else r.u16 64) * 65536 + (if r.u16 66 == 0xFFFF then 512 else r.u16 66)) ∧
  (u.takesUp m.val 0x0803 = true → passes (chkPktFlowKey r u) = true → k < 0x8000 → let q := u.queue k
    let key : SrtpKey := { key := r.bytes 28 16, salt := r.bytes 44 12, start := r.u64 20 % 2 ^ 48 }
    Performs (.pktFlowKey dt m) s m.val 0x0803 r (u.setQueue k { q with srtp := q.srtp.install (q.srtp.top.getD 0) key }) []) ∧
  (u.takesUp m.val 0x0803 = true → passes (chkPktFlowKey r u) = true → 0x8000 ≤ k → let n := k % 0x8000
    let key : SrtpKey := { key := r.bytes 28 16, salt := r.bytes 44 12, start := r.u64 20 % 2 ^ 48 }
    let index := u.rd (Reg.PKT_TX_ROC n) * 65536 + u.fld (Reg.PKT_TX_CTRL_SEQ n)
    let d := u.enc n
    let flow := d.flow.map fun (g : TxFlow) => { g with keys := g.keys.install index key }
    let early := if d.flow.isNone then d.txKeys.install index key else d.txKeys
    Performs (.pktFlowKey dt m) s m.val 0x0803 r (u.setEnc n { d with flow := flow, txKeys := early }) []) ∧
  (u.takesUp m.val 0x0804 = true → passes (chkPktTxFlowSet r u) = true → ∃ t, Performs (.pktTxFlowSet dt m) s m.val 0x0804 r t [] ∧
    t.rd (Reg.PKT_TX_ROC k) = 0 ∧ ((t.enc k).flow.map fun f => (f.ssrc, f.dstPort, f.pt)) = some (r.u32 68, r.u16 66, r.u8 30)) ∧
  (u.takesUp m.val 0x0805 = true → passes (chkPktQueueRead r u) = true → r.u8 18 = 0 → u.rd (Reg.PKT_Q_RD k) ≠ u.rd (Reg.PKT_Q_WR k) →
    let (b, t) := u.queueCopy k (u.rd (Reg.PKT_Q_RD k)) (r.u16 22)
    Performs (.pktQueueRead dt m) s m.val 0x0805 r t b) ∧
  (u.takesUp m.val 0x0805 = true → passes (chkPktQueueRead r u) = true → u.rd (Reg.PKT_Q_RD k) = u.rd (Reg.PKT_Q_WR k) →
    Waits (.pktQueueRead dt m) s m.val (u.setQueue k { u.queue k with waits := (u.queue k).waits ++
      [{ waiter := r.waiter, endTick := u.tick + r.u16 20 * ticksPerMs, most := r.u16 22 }] })) ∧
  (u.takesUp m.val 0x0806 = true → passes (chkPktPortQuery r u) = true →
    Performs (.pktPortQuery dt m) s m.val 0x0806 r u (u.regImage State.view (Reg.PKT_PORT_STAT (r.u8 16)) 21))
/-! ### Completion: clocks and the pulse per second (spec/10) -/

/-- O13: the events of the time unit and its TIM_ commands complete. -/
def Obligations.TimeComplete : Prop :=
  ∀ (s : State) (dt : Nat), let u := s.pass dt
  (∀ (port : Fin 2) (master gm : Nat) (t1 t2 t3 t4 : Int), u.servoRuns = true → bitAt u.time.ports port.val = true → u.heardTimes = none →
    (u.bestMaster = none →
      let v := u.measure port.val master gm t1 t2 t3 t4
      exec (.ptpMeasurement dt port master gm t1 t2 t3 t4) s = .next { v with time := { v.time with heardSync := none } }) ∧
    (∀ b : PtpMaster, u.bestMaster = some b → b.port = port.val → b.id = master →
      let v := u.measure port.val master b.gm t1 t2 t3 t4
      exec (.ptpMeasurement dt port master gm t1 t2 t3 t4) s = .next { v with time := { v.time with heardSync := none } })) ∧
  (∀ (port : Fin 2) (b : PtpMaster) (gm : Nat) (t1 t2 t3 t4 h1 h2 h3 h4 : Int), u.servoRuns = true → bitAt u.time.ports port.val = true →
    u.bestMaster = some b → b.port = port.val → u.heardTimes = some (h1, h2, h3, h4) →
    let v := u.measure port.val b.id b.gm h1 h2 h3 h4
    exec (.ptpMeasurement dt port b.id gm t1 t2 t3 t4) s = .next { v with time := { v.time with heardSync := none } }) ∧
  (u.servoRuns = true → u.isSet Reg.TIM_STATUS_MASTER = true → u.masterGone = true → exec (.masterLoss dt) s = .next u.loseMaster) ∧
  (u.servoRuns = true → u.timeState = tsHoldover → u.since u.time.holdoverAt (u.fld Reg.TIM_HOLDOVER_SEC * ticksPerS) = true →
    exec (.holdoverExpiry dt) s = .next (u.servoTo tsUntrusted)) ∧
  (u.servoRuns = false → u.timeState = tsHoldover → u.since u.time.holdoverAt (u.fld Reg.TIM_HOLDOVER_SEC * ticksPerS) = true →
    exec (.holdoverExpiry dt) s = .next ((u.setFld Reg.TIM_STATUS_TRUSTED 0).timeChanged tsHoldover u.trusted)) ∧
  (∀ x l, u.time.txq = x :: l → ∃ t, exec (.timTxqHeadPop dt) s = .next t ∧ t.time.txq = l ∧ t.readData = TxStamp.head (some x)) ∧
  (∀ msg : List Byte, u.servoRuns = true → u.isSet Reg.TIM_STATUS_MASTER = true → u.linkUp (u.fld Reg.TIM_STATUS_PORT) = true →
    let p := u.fld Reg.TIM_STATUS_PORT
    let seq := fieldBe msg 30 2
    let stamp := u.ptpNs + u.txLatency (52 + p)
    let held := decide (u.time.txq.length < 16)
    let v := u.emit (.frame p (u.ptpFrame p msg))
    let w : State := { v with time := { v.time with request := some (seq, if held then some (stamp : Int) else none), response := none } }
    exec (.delayReqSend dt msg) s = .next (w.pushTxStamp { port := p, msgType := fieldAt msg 0 1 % 16, seqId := seq, ptp := stamp })) ∧
  (∀ k : Fin 3, exec (.timNsRead dt k) s = .next (u.readReg (timNs k))) ∧
  (u.isSet Reg.TIM_PPS_CTRL_EN = true → u.isSet Reg.TIM_PPS_CTRL_GATE = false → u.ptpNs % 10 ^ 9 < 4 → u.time.ppsRoseAt = none →
    u.time.ppsHigh = false → ∃ t, exec (.ppsOutRise dt) s = .next t ∧ t.time.ppsHigh = true ∧ t.time.ppsRoseAt = some u.tick ∧
    ∀ w, u.time.widthPending = some w → t.fld Reg.TIM_PPS_CTRL_WIDTH_US = w % 2 ^ 19) ∧
  (∀ at_, u.time.ppsHigh = true → u.time.ppsRoseAt = some at_ → u.since at_ (u.fld Reg.TIM_PPS_CTRL_WIDTH_US * ticksPerUs) = true →
    exec (.ppsOutFall dt) s = .next { u with time := { u.time with ppsHigh := false } }) ∧
  (u.time.ppsInCheck = 0 → ∃ t, exec (.ppsInEdge dt) s = .next t ∧ t.fld Reg.TIM_PPSIN_SEC_HI_NEW = 1 ∧
    t.rd Reg.TIM_PPSIN_NS = u.ptpNs / 2 * 2 % 10 ^ 9 ∧ t.rd Reg.TIM_PPSIN_SEC_LO = u.ptpNs / 2 * 2 / 10 ^ 9 % 2 ^ 32) ∧
  (∀ m : Fin 8, let r := u.request m.val
    (u.takesUp m.val 0x0901 = true → passes (chkTimCfg r u) = true →
      (u.fld Reg.TIM_STATUS_DOMAIN, u.time.ports, u.time.transport, u.time.vlan) = (r.u8 16, r.u8 17, r.u8 18, r.u16 26) → ∃ t, Performs (.timCfg dt m) s m.val 0x0901 r t [] ∧
      t.time.ports = r.u8 17 ∧ t.time.transport = r.u8 18 ∧ t.time.pcp = r.u8 19 ∧ t.time.vlan = r.u16 26) ∧
    (u.takesUp m.val 0x0901 = true → passes (chkTimCfg r u) = true → u.role ≠ 2 →
      (u.fld Reg.TIM_STATUS_DOMAIN, u.time.ports, u.time.transport, u.time.vlan) ≠ (r.u8 16, r.u8 17, r.u8 18, r.u16 26) →
      ∃ t : State, Performs (.timCfg dt m) s m.val 0x0901 r t.loseMaster [] ∧
      t.time.ports = r.u8 17 ∧ t.time.transport = r.u8 18 ∧ t.time.pcp = r.u8 19 ∧ t.time.vlan = r.u16 26) ∧
    (u.takesUp m.val 0x0902 = true → passes (chkTimReEpoch r u) = true → ∃ t, Performs (.timReEpoch dt m) s m.val 0x0902 r t [] ∧
      t.fld Reg.TIM_STATUS_PERMIT = 1 ∧ t.time.meas = []) ∧
    (u.takesUp m.val 0x0903 = true → passes (chkTimPpsCfg r u) = true → ∃ t, Performs (.timPpsCfg dt m) s m.val 0x0903 r t [] ∧
      t.fld Reg.TIM_PPS_CTRL_EN = r.u8 16 ∧ t.fld Reg.TIM_PPS_CTRL_GATE = r.u8 17 ∧ t.time.widthPending = some (r.u32 20) ∧
      t.time.ppsInCheck = r.u32 24) ∧
    (u.takesUp m.val 0x0904 = true → passes (chkTimQuery r u) = true →
      Performs (.timQuery dt m) s m.val 0x0904 r u (u.regImage State.view Reg.TIM_STATUS 16)))
/-! ### Completion: Kiene lanes and capture inputs (spec/11) -/

/-- O14: the events of a Kiene lane and the KLN_ commands complete. -/
def Obligations.LaneEventsComplete : Prop :=
  ∀ (s : State) (dt : Nat) (lane : Fin 52), let u := s.pass dt
  let i := lane.val
  (∀ t, (u.lane i).powerAt = some t → u.laneState i = lsOff → u.since t (400 * ticksPerUs) = true →
    exec (.lanePowerUpDone dt lane) s = .next (u.laneTo i lsDetect 0)) ∧
  (u.laneState i = lsDetect → (u.lane i).probeAt ≤ u.tick →
    exec (.detectProbe dt lane true) s = .next ((u.setFld (Reg.KLN_STAT_PRESENT i) 1).laneTo i lsTrain 0) ∧
    exec (.detectProbe dt lane false) s =
      .next ((u.setFld (Reg.KLN_STAT_PRESENT i) 0).setLane i { u.lane i with probeAt := u.tick + ticksPerMs })) ∧
  (u.laneState i = lsTrain → u.since (u.lane i).since (2500 * ticksPerUs) = true →
    exec (.laneTrainTimeout dt lane) s = .next (u.bringupFail i 7)) ∧
  (u.laneState i = lsCaps → u.since (u.lane i).since ticksPerMs = true → exec (.laneCapsTimeout dt lane) s = .next (u.bringupFail i 8)) ∧
  (u.laneActive i = true → u.since (u.lane i).validAt (10 * ticksPerUs) = true →
    exec (.laneSignalLoss dt lane) s = .next (u.laneTo i lsDetect 5)) ∧
  (∀ (sync : Fin 4) (b : List Byte) (fill : Fin 17) (offset : Int), (u.laneState i = lsTrain ∨ u.laneState i = lsCaps ∨ u.laneActive i = true) →
    b.length = 8 → 0 < fill.val → fill.val < 16 →
    exec (.klnBlockReceived dt ⟨i, by omega⟩ sync b fill offset) s =
      .next ((u.setFld (Reg.KLN_ELASTIC_FILL i) fill.val).blockIn i sync.val b fill.val offset)) ∧
  (∀ f : List Byte, u.laneActive i = true → (u.injTake 0x08 i).1 = none → f.length = 2048 → fieldAt f 2044 4 = crc32 (f.take 2044) →
    fieldAt f 0 2 = u.fld (Reg.KLN_RX_SEQ_EXPECTED i) → (u.lane i).wantReplay = false →
    exec (.klnFlitReceived dt lane f false) s = .next (u.acceptFlit i f)) ∧
  (∀ seq : Fin 65536, u.laneActive i = true → exec (.ackNakReceived dt lane false seq) s = .next (if 48 ≤ i then (u.ackFlit i seq.val).returnCredits else u.ackFlit i seq.val) ∧
    exec (.ackNakReceived dt lane true seq) s = .next (u.nakFlit i seq.val)) ∧
  (∀ f l, u.laneActive i = true → (u.lane i).out = f :: l → u.since f.sentAt ackTicks = true →
    exec (.replayTimeout dt lane) s = .next ((u.bump (Reg.KLN_CNT_TIMEOUT i)).replayFrom i f.seq)) ∧
  (∀ b : List Byte, u.laneActive i = true → u.rxTakes i = true → (b.length = 8 → exec (.statusMsgReceived dt lane b) s = .next (u.statusIn i b)) ∧
    (b.length = 4 → exec (.hotplugMsgReceived dt lane b) s = .next (u.hotplugIn i b))) ∧
  (u.laneActive i = true → bitAt (u.partnerWord i 1) 17 = true → u.since (u.lane i).statusAt (300 * ticksPerMs) = true →
    u.isSet (Reg.KLN_STAT_PARTNER_SILENT i) = false →
    exec (.partnerSilentTimeout dt lane) s = .next ((u.setFld (Reg.KLN_STAT_PARTNER_SILENT i) 1).partnerNotice i)) ∧
  (∀ k : Fin 48, u.laneActive k.val = true → fieldAt (u.deviceSays k.val) 0 4 ≠ (u.lane k.val).said →
    exec (.deviceStatusSend dt k) s =
      .next ((u.setLane k.val { u.lane k.val with said := fieldAt (u.deviceSays k.val) 0 4, saidAt := some u.tick }).sendMsg k.val 0x11
        (u.deviceSays k.val)))

/-- O15: capture inputs: a picture's completion, the ends of a drain, and the KLN_ and CAP_ commands of the command set. -/
def Obligations.CaptureComplete : Prop :=
  ∀ (s : State) (dt : Nat), let u := s.pass dt
  (∀ (i : Fin 16) p, (u.cap i.val).cur = some p → p.big = false → p.mode = true → p.lines = p.h → (u.injTake 0x12 i.val).1 = none →
    ∃ (v : State) (stamp : Option Nat), let (one, w) := (v.confirmCell (v.pool 2 i.val).cell 0 stamp 0).detPass 0x12 i.val
    exec (.capPictureComplete dt i) s = .next (if one then w.capTornNotice i.val (v.run 0x12 i.val).first 1 1 else w) ∧
    (v.cap i.val).cur = none ∧ (v.pool 2 i.val).newest = some p.slot) ∧
  (∀ i : Fin 16, u.capState i.val = ciDraining → (u.cap i.val).cur = none → (u.cap i.val).stuck = false →
    exec (.capDrainComplete dt i) s = .next (u.finishCap i.val 0)) ∧
  (∀ i : Fin 16, u.capState i.val = ciResetting → exec (.capDrainComplete dt i) s = .next (u.finishCap i.val 1)) ∧
  (∀ (i : Fin 16) t, u.capState i.val = ciDraining → (u.cap i.val).drainAt = some t → t ≤ u.tick → ∃ v : State,
    exec (.capDrainTimeout dt i) s = .next (v.logFault 0x19 1 (0x300 + i.val) (u.cap i.val).stuck) ∧
    (v.cap i.val).cur = none ∧ v.capState i.val = ciResetting ∧ v.fld (Reg.KLN_CAP_STAT_DRAIN_RESET (capLane i.val)) = 1) ∧
  (∀ m : Fin 8, let r := u.request m.val
    (u.takesUp m.val 0x0A01 = true → passes (chkKlnLaneCtrl r u) = true →
      Performs (.klnLaneCtrl dt m) s m.val 0x0A01 r (u.laneAction (r.u8 16) (r.u8 17)) []) ∧
    (u.takesUp m.val 0x0A02 = true → passes (chkKlnLaneQuery r u) = true →
      Performs (.klnLaneQuery dt m) s m.val 0x0A02 r u (u.regImage State.view (Reg.KLN_STAT (r.u8 16)) 46)) ∧
    (u.takesUp m.val 0x0A03 = true → passes (u.capEnableChecks r) = true → u.rung 5 = false →
      let log2 := log2Up 12 ((r.u8 18 + 2) * capSlotBytes (r.u16 20) (r.u16 22))
      ∀ cell mem v, u.placeCells false 1 = some cell → u.takeMemory [log2] = some (mem, v) →
      Performs (.capEnable dt m) s m.val 0x0A03 r (v.enableCap r cell (mem.getD 0 0) log2) (pack [(4, cell)])) ∧
    (u.takesUp m.val 0x0A04 = true → passes (chkCapDisable r u) = true → (u.injTake 0x19 (0x300 + r.u8 16)).1 = none →
      Waits (.capDisable dt m) s m.val ((u.setCap (r.u8 16) { u.cap (r.u8 16) with
        drainAt := some (u.tick + drainMs (r.u16 18) * ticksPerMs), stuck := false, waiter := some r.waiter }).setCapState (r.u8 16) ciDraining)) ∧
    (u.takesUp m.val 0x0A05 = true → passes (chkCapQuery r u) = true →
      Performs (.capQuery dt m) s m.val 0x0A05 r u (u.regImage State.view (Reg.KLN_CAP_CTRL (capLane (r.u8 16))) 10)))
/-! ### Completion: the pair (spec/12) -/

/-- O16: the heartbeat, the loss of the partner and of the pair link, start-up of the pair, bring-up of egress lanes, the selector and the
interlock, a switchover, a join. -/
def Obligations.PairEventsComplete : Prop :=
  ∀ (s : State) (dt : Nat), let u := s.pass dt
  (u.heartRuns = true → u.role ≠ roFaulted → u.ageNs % 50000 ≤ 20 → u.pair.toggledAt = none → (u.injTake 0x15 0).1 = none → u.pair.hbHeld ≤ u.tick →
    u.checkDual = u →
    let v := u.setPair { u.pair with toggledAt := some u.tick }
    exec (.hbPinToggle dt) s = .next (v.setFld Reg.PAIR_PINS_HB_OUT (1 - v.fld Reg.PAIR_PINS_HB_OUT))) ∧
  (u.heartRuns = true → u.pair.sentAt = none → u.checkDual = u → exec (.heartbeatSend dt) s =
    .next (u.pairLanes.foldl (fun t k => t.sendFlit (pairLane k)
      { type := 3, payload := (PairMsg.bytes { pseq := 0, type := 1, body := u.heartbeat k } 0) })
      (u.setPair { u.pair with sentAt := some u.tick }))) ∧
  (∀ level : Bool, u.pair.pinAt = none → u.role = roSolo → exec (.hbPinEdge dt level) s =
    .next ((((u.setFld Reg.PAIR_PINS_HB_IN (ofBool level)).setPair { u.pair with pinAt := some u.tick, lost := false })).showAlive)) ∧
  (∀ (k : Fin 4) (b : List Byte), u.isSet Reg.PAIR_STATUS_READY = true → u.laneActive (pairLane k.val) = true → b.length = 48 →
    exec (.heartbeatReceived dt k b) s = .next (u.heartbeatIn k.val b).returnCredits) ∧
  (let v := u.showAlive
   v.isSet Reg.PAIR_STATUS_READY = true → v.pair.lost = false → v.alive v.pair.pinAt = false → v.alive v.pair.linkAt = false →
   v.pair.pinAt.isSome = true → exec (.partnerLost dt) s = .next ((v.tellLinkLost.setPair { v.tellLinkLost.pair with lost := true }).partnerGone 3).returnCredits) ∧
  (let v := u.showAlive
   let lost := (v.raise Reg.PAIR_EVT_LINK_LOST).tellLinkLost
   v.isSet Reg.PAIR_STATUS_READY = true → v.pair.linkAt.isSome = true → v.alive v.pair.linkAt = false → v.alive v.pair.pinAt = true →
   v.role = roStandby → exec (.pairLinkLost dt) s = .next ((lost.dropMirror.setRole roBlind phFinding 9).endSwitch 0)) ∧
  (∀ t, u.pair.startedAt = some t → u.role = roBlind → u.pairPhase = phFinding →
    u.since (max t (max (u.pair.pinAt.getD 0) (u.pair.linkAt.getD 0))) (2 * ticksPerS) = true →
    let v := (u.setOwn true).egressOn
    exec (.findingTimeout dt) s = .next (((v.setPair { v.pair with startedAt := none }).setRole roSolo phFinding 1).settleSends)) ∧
  (let v := u.showAlive
   ∀ t, v.pair.egressAt = some t → v.since t (8 * ticksPerMs) = true → v.egressMissing = [] →
   exec (.egressBringupTimeout dt) s = .next v.egressDone) ∧
  (∀ n : Fin 32, u.pair.voids.contains n.val = true → u.laneActive n.val = true → u.since (u.lane n.val).since ticksPerS = true →
    ∃ t, exec (.forceVoidHoldRelease dt n) s = .next t ∧ t.pair.voids.contains n.val = false ∧ bitAt (t.gateOut n.val).holds 3 = false) ∧
  (∀ level : Bool, u.pair.ownAt = none → exec (.selStatusChange dt level) s = .next (u.setFld Reg.PAIR_PINS_SEL_STATUS (ofBool level))) ∧
  (∀ own low, u.pair.ownAt = some own → u.pair.selLowAt = some low → u.pairPresent = true → u.ilkMode = false →
    (u.role = roSolo ∨ u.role = roActive) → u.since (max (own + tSel) low) tYield = true →
    let v := (((u.setOwn false).stopMirror.raise Reg.PAIR_EVT_YIELD).raise Reg.PAIR_EVT_DUAL).bump Reg.PAIR_CNT_YIELD
    let w := (v.setPair { v.pair with egressAt := none, aligned := false }).setRole roBlind phIsolated 8
    exec (.yield dt) s =
      .next (((w.egressOff.settleSends).dualNotice (w.fld Reg.PAIR_STATUS_SIDE) ((u.tick - own) / ticksPerUs)).endSwitch 2).returnCredits) ∧
  (∀ low : Bool, (low = false ∨ u.pair.ilkWaitAt = none) → ∃ t, exec (.ilkInChange dt low) s = .next t ∧
    t.fld Reg.PAIR_PINS_ILK_IN = ofBool low ∧ t.pair.ilkHighAt = (if low then none else some u.tick)) ∧
  (u.pair.ilkWaitAt.isSome = true → u.pair.claimAt = none → u.pair.retryAt = none → u.pair.lost = true →
    let v := (u.setFld Reg.PAIR_PINS_ILK_IN 1).setPair { u.pair with ilkHighAt := none }
    exec (.ilkInChange dt true) s = .next (v.isolate u.pair.cause)) ∧
  (∀ w h, u.pair.ilkWaitAt = some w → u.pair.claimAt = none → u.pair.retryAt = none → u.ilkHigh = some h →
    u.since (max w h) (20 * ticksPerMs) = true → u.mayClaim = true →
    exec (.ilkWaitExpiry dt) s = .next ((u.setFld Reg.PAIR_PINS_ILK_OUT 1).setPair { u.pair with claimAt := some u.tick })) ∧
  (∀ t, u.pair.claimAt = some t → u.since t ticksPerMs = true → u.mayClaim = true → u.isSet Reg.PAIR_PINS_ILK_IN = false →
    exec (.ilkSample dt) s = .next (u.takeOver u.pair.cause u.pair.blind)) ∧
  (∀ at_, u.pair.swAt = some at_ → u.role = roActive → at_ ≤ u.ptpNs → u.ready = true →
    let v := ((u.setOwn false).stopMirror).setRole roStandby phSynced 5
    exec (.switchoverInstant dt) s =
      .next (((v.setPair { v.pair with swAt := none }).setFld Reg.PAIR_STATUS_CROSSCHECK 1).egressOff.settleSends.returnCredits)) ∧
  (∀ at_, u.pair.swAt = some at_ → u.role = roStandby → at_ + 10000 ≤ u.ptpNs → u.ilkMode = false → u.ready = true →
    let v := (u.claimDisplays true).setRole roActive phSynced 5
    exec (.switchoverInstant dt) s =
      .next (((v.setPair { v.pair with swAt := none, mirroring := true, aligned := false }).setFld Reg.PAIR_STATUS_CROSSCHECK 1).settleSends)) ∧
  (u.role = roBlind → u.pair.aligned = true → u.pair.xferDone = true → u.pair.ageRate = false → u.ready = true → u.pairPhase ≠ phResync →
    u.atLatchLine = true → ∀ x, u.pair.adopted = some x →
    let open_ := (u.setPair { u.pair with adopted := none }).openAdopted x
    let v := (List.range 32).foldl (fun t n => t.clearConverged n) open_.syncFrames
    exec (.joinCutover dt) s =
      .next (((v.bump Reg.PAIR_CNT_RESYNC).setFld Reg.PAIR_STATUS_CROSSCHECK 1).setRole roStandby phSynced 2).applyHotEgress.settleSends) ∧
  (∀ t, u.pair.gapAt = some t → u.since t (100 * ticksPerUs) = true → u.pair.retx = true → u.role = roStandby →
    exec (.pairGapTimeout dt) s = .next (u.dropMirror.setRole roBlind phResync 13))

/-- O17: a message from the partner that comes next in order is taken by its own meaning (R343, R346 to R348, R352, R355), and the PAIR_
commands of the command set are performed. -/
def Obligations.PairMessagesComplete : Prop :=
  ∀ (s : State) (dt : Nat), let u := s.pass dt
  (∀ (pseq : Word) (b : List Byte), u.pairHears = true → pseq.toNat = u.rd Reg.PAIR_PSEQ_RX → u.pair.held = [] →
    let v := u.wr Reg.PAIR_PSEQ_RX (wrapAdd 32 pseq.toNat 1)
    let taken (t : State) : State := t.setPair { t.pair with gapAt := if t.pair.held.isEmpty then none else some t.tick, retx := false }
    (v.mirrors = true →
      exec (.pairLcsReceived dt pseq b) s = .next (taken (v.lcsPart b)) ∧
      exec (.pairHostWriteReceived dt pseq b) s = .next (taken (v.mirrorWrite b)) ∧
      exec (.pairDoorbellReceived dt pseq b) s = .next (taken (v.mirrorDoorbell b)) ∧
      exec (.pairLatchReceived dt pseq b) s = .next (taken (v.latchIn b))) ∧
    exec (.pairDisputeReceived dt pseq b) s = .next (taken (v.disputeIn b)) ∧
    exec (.pairRoleReceived dt pseq b) s = .next (taken (v.roleIn b)) ∧
    exec (.pairTimeReceived dt pseq b) s = .next (taken (v.timeIn b)) ∧
    (∀ x, exec (.pairXferReceived dt pseq b x) s = .next (taken (v.xferIn b x)))) ∧
  (∀ b : List Byte, u.pairHears = true → exec (.pairSigrecReceived dt b) s = .next (u.sigRecIn b) ∧
    exec (.pairRetxReceived dt b) s = .next (u.retxIn b)) ∧
  (∀ m : Fin 8, let r := u.request m.val
    (u.takesUp m.val 0x0B01 = true → passes (chkPairCfg r u) = true → r.u8 16 = 1 →
      Performs (.pairCfg dt m) s m.val 0x0B01 r (u.setFld Reg.PAIR_TLOSS_US (r.u16 20 * 1000)) []) ∧
    (u.takesUp m.val 0x0B02 = true → passes (chkPairSwitchover r u) = true → bitAt (r.u8 16) 0 = true →
      Waits (.pairSwitchover dt m) s m.val ((u.setPair { u.pair with swWaiter := some r.waiter }).beginTakeover 5)) ∧
    (u.takesUp m.val 0x0B02 = true → passes (chkPairSwitchover r u) = true → bitAt (r.u8 16) 0 = false →
      Waits (.pairSwitchover dt m) s m.val ((u.setPair { u.pair with swAt := some (u.ptpNs + 50000000), swWaiter := some r.waiter }).pairOrdered
        0x08 (pack [(1, 0), (7, 0), (8, u.ptpNs + 50000000)]))) ∧
    (u.takesUp m.val 0x0B03 = true → passes (chkPairRejoin r u) = true →
      Performs (.pairRejoin dt m) s m.val 0x0B03 r
        ((u.setPair { u.pair with startedAt := some u.tick, aligned := false }).setRole roBlind phFinding 0) []) ∧
    (u.takesUp m.val 0x0B04 = true → passes (chkPairQuery r u) = true →
      Performs (.pairQuery dt m) s m.val 0x0B04 r u
        (u.regImage State.view Reg.PAIR_STATUS 28 ++ u.regImage State.view (Reg.PAIR_OUT_CMP 0) 128)))
/-! ### Completion: mailboxes, notification rings, the command set's SYS_ part, start-up and power (spec/13, spec/14, spec/19) -/

/-- O18: the mailbox registers and notification rings: a doorbell posts a message, DONE is cleared, the area is written, indices and levels
are taken, notices catch up, windows of coalescing end, firmware stops, the PCI Express function is reset. -/
def Obligations.MailboxEventsComplete : Prop :=
  ∀ (s : State) (dt : Nat), let u := s.pass dt
  (∀ (m : Fin 8) (irq : Bool), u.mbState m.val ≠ mbPosted → u.mbState m.val ≠ mbBusy →
    let w := u.serveDue fun p => p.1.unit == fbkHost && p.1.write
    let v := ((({ w with arrivals := w.arrivals.filter (· != m.val) ++ [m.val] } : State).setMbox m.val { irq := irq, serial := (w.mbox m.val).serial + 1 }).setFld (Reg.MBX_CMPL_DONE m.val) 0).setFld
      (Reg.MBX_CMPL_STATE m.val) mbPosted
    v.isSet Reg.MBX_STATUS_READY = true → v.headerCheck m.val = none → exec (.mbxDoorbell dt m true irq) s = .next v) ∧
  (∀ m : Fin 8, u.mbState m.val = mbDone → u.raised.contains ((Reg.MBX_CMPL_DONE m.val).addr, (Reg.MBX_CMPL_DONE m.val).lo) = false → ∃ t, exec (.mbxDoneClear dt m) s = .next t ∧ t.mbState m.val = mbIdle ∧
    t.fld (Reg.MBX_CMPL_DONE m.val) = 0) ∧
  (∀ (m : Fin 8) (off : Nat) (data : List Byte), (Instr.mbxAreaWrite dt m off data).wf = true → u.mbState m.val ≠ mbPosted →
    u.mbState m.val ≠ mbBusy → ∃ t, exec (.mbxAreaWrite dt m off data) s = .next t ∧ t.areaBytes m.val off data.length = data) ∧
  (∀ (n : Fin 8) (v : Word), u.isSet (Reg.MBX_NRING_CFG_OPEN n.val) = true → v.toNat % 64 = 0 →
    wrapSub 32 v.toNat (u.rd (Reg.MBX_NRING_CONS n.val)) ≤ wrapSub 32 (u.rd (Reg.MBX_NRING_PROD n.val)) (u.rd (Reg.MBX_NRING_CONS n.val)) →
    exec (.mbxNringConsWrite dt n v) s = .next (u.wr (Reg.MBX_NRING_CONS n.val) v.toNat)) ∧
  (∀ (n : Fin 8) (v : Word), u.isSet (Reg.MBX_NRING_CFG_OPEN n.val) = true →
    exec (.mbxNringLevelWrite dt n v) s =
      .next (u.setFld (Reg.MBX_NRING_LEVEL_BYTES n.val) (min (max 1 (v.toNat % 2 ^ 25)) (u.nringSize n.val)))) ∧
  (∀ n : Fin 8, exec (.noticeBacklogWrite dt n) s = .next (u.nringCatchUp n.val)) ∧
  exec (.noticeCoalesceExpiry dt) s = .next (u.coalesce.foldl (fun t c => t.coalesceEnd c) u) ∧
  (∀ p : Fin 3, u.ranger.restartDue.isSome = true → u.isSet Reg.MBX_STATUS_RECOVERY = false →
    exec (.firmwareStop dt 7 p) s = .next (u.restartBegins 7)) ∧
  (∀ p : Fin 3, u.isSet Reg.HLT_STATUS_FATAL = false → exec (.firmwareStop dt 5 p) s = .next ((u.logFault 4 2 p.val).restartBegins 5)) ∧
  exec (.restartClassExpiry dt) s = .next u.classRestart ∧
  exec (.pcieFunctionReset dt false) s = .next u.functionReset ∧
  (∃ t, exec (.pcieFunctionReset dt true) s = .next t ∧ t.sys.perstLow = true) ∧
  (∀ m : Fin 8, let r := u.request m.val
    (u.takesUp m.val 0x0C01 = true → passes (chkMbxNringOpen r u) = true →
      ∀ n, (List.range 8).find? (fun n => !u.isSet (Reg.MBX_NRING_CFG_OPEN n)) = some n → ∃ t, Performs (.mbxNringOpen dt m) s m.val 0x0C01 r t (leBytes 4 n) ∧
      t.rd (Reg.MBX_NRING_PROD n) = 0 ∧ t.rd (Reg.MBX_NRING_CONS n) = 0) ∧
    (u.takesUp m.val 0x0C02 = true → passes (chkMbxNringClose r u) = true →
      Performs (.mbxNringClose dt m) s m.val 0x0C02 r (u.nringClose (r.u32 16)) []))

/-- O19: the SYS_ commands of identification, service mode, restart and partitions, each taken up by its opcode with no check failing, are
performed; service mode ends at its timeout. -/
def Obligations.SystemCommandsComplete : Prop :=
  ∀ (s : State) (dt : Nat) (m : Fin 8), let u := s.pass dt
  let r := u.request m.val
  (u.takesUp m.val 0x0101 = true → ∃ b, Performs (.sysIdentify dt m) s m.val 0x0101 r u (leBytes 4 (u.rd Reg.SYS_ID) ++ b)) ∧
  (u.takesUp m.val 0x0102 = true → ∃ b, Performs (.sysHealth dt m) s m.val 0x0102 r u (leBytes 4 (u.rd Reg.HLT_CNT_CORRECTED) ++ b)) ∧
  (u.takesUp m.val 0x0103 = true → passes (chkSysService r u) = true →
    let t := if r.u8 16 == 0 then u.endService 0 else if r.u8 16 == 1 then u.enterService (r.u16 18) else u.lockService
    Performs (.sysService dt m) s m.val 0x0103 r t t.svcBody) ∧
  (u.takesUp m.val 0x0104 = true → passes (chkSysFwRestart r u) = true →
    Performs (.sysFwRestart dt m) s m.val 0x0104 r (u.setRanger { u.ranger with restartDue := some u.tick }) []) ∧
  (u.takesUp m.val 0x0105 = true → passes (chkSysPartCreate r u) = true →
    ∀ i, (List.range 4094).find? (fun i => !(u.partOf (i + 2)).present) = some i →
    let x : Partition := { present := true, cellQuota := r.u32 16, decQuota := r.u8 20, encQuota := r.u8 21, capQuota := r.u8 22, ringQuota := r.u8 23 }
    Performs (.sysPartCreate dt m) s m.val 0x0105 r
      ((({ u with parts := sparsePut {} u.parts (i + 2) x } : State).setNotify (i + 2) { base := u.tick }).partNotice (i + 2) 0 0 0)
      (pack [(2, i + 2), (2, 0)])) ∧
  (u.takesUp m.val 0x0106 = true → passes (chkSysPartGrant r u) = true → r.u8 18 = 0 →
    ∀ i, (List.range 40).find? (fun i => !u.grants.any fun g => g.region == i) = some i →
    let v : State := { u with grants := u.grants ++ [{ part := r.u16 16, base := r.u64 24, log2 := r.u8 19, region := i }] }
    Performs (.sysPartGrant dt m) s m.val 0x0106 r
      ((v.setFbkRegion fbkHost i (r.u64 24) (regionCfg false true (r.u8 19))).partNotice (r.u16 16) 1 (r.u8 19) (r.u64 24)) []) ∧
  (u.takesUp m.val 0x0107 = true → passes (chkSysPartDestroy r u) = true → ∃ v : State,
    Performs (.sysPartDestroy dt m) s m.val 0x0107 r (v.partNotice (r.u16 16) 3 0 0) [] ∧ (v.partOf (r.u16 16)).present = false) ∧
  (u.takesUp m.val 0x0108 = true → passes (chkSysPartQuery r u) = true → ∃ b, Performs (.sysPartQuery dt m) s m.val 0x0108 r u
    (leBytes 4 (if r.u16 16 ≤ 1 then 0xFFFFFFFF else (u.partOf (r.u16 16)).cellQuota) ++ leBytes 4 (u.hostCells (r.u16 16)) ++ b)) ∧
  (u.takesUp m.val 0x0109 = true → passes (chkSysMbxBind r u) = true →
    Performs (.sysMbxBind dt m) s m.val 0x0109 r (u.setFld (Reg.MBX_BIND_PARTITION (r.u8 16)) (r.u16 18)) []) ∧
  (u.ranger.svcEnd ≤ u.tick → exec (.serviceTimeout dt) s = .next (u.endService 1))

/-- O20: RESET_N and the starts complete. RESET_N low leaves the cold state with the input held; its release samples the straps; a warm
start begins by pin or when the one that SYS_WARM_START ordered is due; a step of a start that may end ends and names the next; a restart of
Lysman firmware ends with READY. -/
def Obligations.StartComplete : Prop :=
  ∀ (s : State) (dt : Nat), let u := s.pass dt
  (∃ t, exec (.resetAssert dt) s = .next t ∧ t.sys.resetLow = true ∧ t.tick = u.tick ∧ t.mem = []) ∧
  (∀ (b : Fin 4) (side ilk dbg : Bool), u.sys.resetLow = true → u.since u.sys.startAt (10 * ticksPerUs) = true →
    ∃ t, exec (.resetRelease dt b side ilk dbg) s = .next t ∧ t.sys = { u.sys with resetLow := false, strapBoot := b.val, startAt := u.tick } ∧
    t.rd Reg.SYS_STRAPS = ofBool dbg * 128 + ofBool ilk * 64 + ofBool side * 32 + b.val ∧
    t.fld Reg.PAIR_STATUS_SIDE = ofBool side ∧ t.fld Reg.PAIR_STATUS_ILK = ofBool ilk) ∧
  (u.sys.resetLow = false → u.sys.deep = false → u.fld Reg.SYS_PWR_STATE ≠ 2 → u.warmRefused = false →
    exec (.warmNAssert dt) s = .next (u.beginWarm 2)) ∧
  (∀ t : Nat, u.sys.warmDue = some t → u.warmRefused = false →
    exec (.warmStartBegin dt) s = .next ((u.beginWarm 3).setSys { (u.beginWarm 3).sys with startAt := t })) ∧
  (∀ t : Nat, u.sys.warmDue = some t → u.warmRefused = true →
    exec (.warmStartBegin dt) s = .next (u.setSys { u.sys with warmDue := none })) ∧
  (∀ facts : StartFacts, u.startStep ≠ 0 → u.sys.resetLow = false → u.sys.deep = false → u.fld Reg.SYS_PWR_STATE ≠ 4 →
    (u.startStep = 12 → u.stepStripDone = true) →
    let v := u.runStep facts
    let w := v.setFld Reg.SYS_START_STAT_STEP (nextStep v.sys.form u.startStep)
    exec (.startStepDone dt facts) s = .next (if w.ready then w.runWaiting else w)) ∧
  (u.isSet Reg.MBX_STATUS_RESTARTING = true → u.startStep = 0 → u.sys.resetLow = false → u.fld Reg.SYS_PWR_STATE ≠ 2 →
    exec (.firmwareReady dt) s = .next (u.reportReady true 3).runWaiting)

/-- O21: R519 to R522 and R524: the supply's failure and return, PCI Express reset, the entry of a power state, a wake by the host and the
end of an image write complete, each with the effect of its rule. -/
def Obligations.PowerEventsComplete : Prop :=
  ∀ (s : State) (dt : Nat), let u := s.pass dt
  (u.sys.resetLow = false → u.sys.deep = false → u.fld Reg.SYS_PWR_STATE ≠ 4 →
    let v := ((u.setSys { u.sys with pfLow := true, pfHighAt := none }).blzPowerFail.leavePair).setFld Reg.SYS_PWR_STATE 4
    exec (.pwrFailAssert dt) s = .next (v.setSys { v.sys with warmDue := none, powerDue := none })) ∧
  (exec (.pwrFailDeassert dt) s = .next (u.setSys { u.sys with pfLow := false, pfHighAt := some u.tick })) ∧
  (∀ t, u.sys.pfHighAt = some t → u.sys.pfLow = false → u.fld Reg.SYS_PWR_STATE = 4 → u.since t (10 * ticksPerMs) = true →
    u.isSet Reg.BLZ_STATUS_PF_DONE = true →
    (u.isSet Reg.SYS_START_STAT_COLD_DONE = false → exec (.pwrFailRecover dt) s = .next (u.coldState 6)) ∧
    (u.isSet Reg.SYS_START_STAT_COLD_DONE = true → u.isSet Reg.HLT_STATUS_FATAL = false →
      let v := ((u.setFld Reg.BLZ_STATUS_PF 0).setFld Reg.BLZ_STATUS_PF_DONE 0).setFld Reg.SYS_PWR_STATE 0
      let w := v.setSys { v.sys with pfHighAt := none }
      exec (.pwrFailRecover dt) s = .next (if w.isSet Reg.MEM_STATUS_READY0 then w.beginWarm 6 else w.warmCommon 6 1 2))) ∧
  (exec (.pciePerstRelease dt) s = .next (u.setSys { u.sys with perstLow := false })) ∧
  (∀ t, u.sys.powerDue = some (2, t) → u.fld Reg.SYS_PWR_STATE = 1 → exec (.powerStateEntryDone dt) s = .next u.enterRetention) ∧
  (∀ t, u.sys.powerDue = some (3, t) → u.fld Reg.SYS_PWR_STATE = 1 → exec (.powerStateEntryDone dt) s = .next u.enterDeep) ∧
  (∀ v : Word, u.hostPort = true → u.fld Reg.SYS_PWR_STATE = 2 → bitsAt v.toNat 15 0 = 0x5A57 →
    exec (.sysWakeWrite dt v) s = .next (u.wake 2)) ∧
  (∀ v : Word, bitsAt v.toNat 15 0 ≠ 0x5A57 → exec (.sysWakeWrite dt v) s = .next u) ∧
  (∀ w altered, u.sys.imgWrite = some w →
    let base := itemBase w.slot w.item
    let (data, a) := u.fwRead w.source w.length
    let erased := a.flash.filter fun c => c.1 < base || base + itemMax w.item ≤ c.1
    let v : State := { a.nextFree with flash := sparsePutRange flashErased erased base data }
    let (code, x) := v.judgeItem altered w.slot w.item
    exec (.sysImageWriteDone dt false altered) s = .next ((x.setSys { x.sys with imgWrite := none }).notice 0x1102 0 [0xFFFF]
      (pack [(1, w.slot), (1, w.item), (1, code), (1, 0), (4, w.length)]) true))

/-- O22: the commands of start-up (R513, R520, R524), each taken up by its opcode with no check failing, are performed: the two queries
answer what the registers and the boot flash hold, SYS_WARM_START and SYS_POWER record what they order. SYS_IMAGE_WRITE whose fields are in order accepts
an image that passes checks 1 to 5 of R517, and refuses any other with INVALID (what the check of a signature says is free, log 20). -/
def Obligations.StartCommandsComplete : Prop :=
  ∀ (s : State) (dt : Nat) (m : Fin 8), let u := s.pass dt
  let r := u.request m.val
  (u.takesUp m.val 0x1101 = true → Performs (.sysStartQuery dt m) s m.val 0x1101 r u (u.regImage State.view Reg.SYS_STRAPS 7)) ∧
  (u.takesUp m.val 0x1102 = true → passes (chkSysWarmStart r u) = true →
    Performs (.sysWarmStart dt m) s m.val 0x1102 r (u.setSys { u.sys with warmDue := some u.tick }) []) ∧
  (u.takesUp m.val 0x1103 = true → Performs (.sysImageQuery dt m) s m.val 0x1103 r u
    ([(0, 1), (0, 2), (1, 1), (1, 2)].flatMap fun x =>
      pack [(1, u.fld (imgField x.1 x.2)), (3, 0)] ++ u.flashBytes (itemBase x.1 x.2) 32)) ∧
  (u.takesUp m.val 0x1104 = true → passes ((chkSysImageWrite r u).eraseIdx 6) = true →
    let v := (u.fwRead (r.u64 24) (r.u32 20)).2
    let t := v.setSys { v.sys with imgWrite := some { slot := r.u8 16, item := r.u8 17, length := r.u32 20, source := r.u64 24 } }
    exec (.sysImageWrite dt m) s = .next (if u.memImageGood (r.u8 17) (r.u64 24) (r.u32 20) then t.performed m.val 0x1104 r []
      else u.complete m.val false false stInvalid 24 [])) ∧
  (u.takesUp m.val 0x1105 = true → passes (chkSysPower r u) = true →
    let v := (u.setFld Reg.SYS_PWR_STATE 1).powerNotice
    Performs (.sysPower dt m) s m.val 0x1105 r (v.setSys { v.sys with powerDue := some (r.u8 16 + 1, v.tick) }) [])
/-! ### Completion: Firebreak's own registers, health, injection, the CRC units (spec/16, spec/17) -/

/-- O23: the events and commands of fault collection and injection, of Firebreak's registers and of the CRC units complete. -/
def Obligations.HealthComplete : Prop :=
  ∀ (s : State) (dt : Nat), let u := s.pass dt
  (∀ k : Fin 3, u.isSet Reg.HLT_STATUS_FATAL = false → u.isSet Reg.MBX_STATUS_RESTARTING = false → u.isSet Reg.MBX_STATUS_READY = true →
    (u.injTake 6 k.val (fun _ => 1)).1 = none →
    exec (.watchdogExpiry dt k) s = .next ((u.raise (if k.val == 0 then Reg.HLT_WDG_EXP_S else if k.val == 1 then Reg.HLT_WDG_EXP_A0 else
      Reg.HLT_WDG_EXP_A1)).faultRestart (k.val + 1) false)) ∧
  (u.isSet Reg.HLT_STATUS_FATAL = false → u.isSet Reg.MBX_STATUS_RESTARTING = false → (u.injTake 5 0 (fun _ => 1)).1 = none →
    exec (.lockstepMismatch dt) s = .next ((u.bump Reg.HLT_LOCKSTEP_CNT).faultRestart 4 false)) ∧
  (∀ l : List Int, u.tempDue = true → exec (.tempSample dt l) s = .next ((u.readSensors l).judgeHeat).injSettle) ∧
  (∀ v : Word, exec (.hltInjArmWrite dt v) s = .next (u.injKey (v.toNat % 65536)).injSettle) ∧
  (∀ t, u.hlt.key1At = none → u.hlt.armedUntil = some t → t ≤ u.tick →
    ∃ x, exec (.injArmExpiry dt) s = .next x ∧ x.hlt.armedUntil = none ∧ x.fld Reg.HLT_INJ_STAT_ARMED = 0) ∧
  (∀ v : Word, bitAt v.toNat 31 = true → exec (.hltInjGo dt v) s = .next u.injGo.injSettle) ∧
  exec (.injectionExpiry dt) s = .next u.injExpire.injSettle ∧
  (∀ (k : Fin 28) (n : Fin 48) (w : Fin 3) (v : Word), n.val < fbkCount k.val → bitAt (u.fbkStaged k.val n.val).cfg 28 = false →
    exec (.fbkRegionWrite dt k n w v true) s = .next (u.fbkRegionWrite k.val n.val w.val v.toNat)) ∧
  (∀ (k : Fin 28) (n : Fin 65536), ∃ t, exec (.fbkBarrierGo dt k n true) s = .next t ∧
    t.fld (Reg.FBK_BARRIER_DONE_OLD_PENDING k.val) = min 65535 (u.fld (Reg.FBK_BARRIER_DONE_OLD_PENDING k.val) + n.val) ∧
    t.fld (Reg.FBK_BARRIER_DONE_DONE k.val) = 0 ∧ t.fbk = (u.fbkActivate k.val).fbk) ∧
  (∀ (k : Fin 28) (n : Nat), let pending := u.fld (Reg.FBK_BARRIER_DONE_OLD_PENDING k.val)
    ∃ t, exec (.fbkBarrierComplete dt ⟨k, n⟩) s = .next t ∧ t.fld (Reg.FBK_BARRIER_DONE_OLD_PENDING k.val) = pending - n ∧
    (pending ≤ n → u.oldWaiting k.val = 0 → t.fld (Reg.FBK_BARRIER_DONE_DONE k.val) = 1) ∧
    (n < pending → t.fld (Reg.FBK_BARRIER_DONE_DONE k.val) = u.fld (Reg.FBK_BARRIER_DONE_DONE k.val))) ∧
  (∀ m : Fin 8, let r := u.request m.val
    (u.takesUp m.val 0x0E01 = true → passes (chkFbkQuery r u) = true → Performs (.fbkQuery dt m) s m.val 0x0E01 r u
      (u.regImage State.view (Reg.FBK_BARRIER (r.u8 16)) 21 ++ u.fbkActiveBytes (r.u8 16))) ∧
    (u.takesUp m.val 0x0F01 = true → Performs (.hltQuery dt m) s m.val 0x0F01 r u
      (u.regImage State.view Reg.HLT_STATUS 25 ++ u.regImage State.view (Reg.HLT_LOG 0) 256)) ∧
    (u.takesUp m.val 0x0F02 = true → passes (chkHltAck r u) = true →
      Performs (.hltAck dt m) s m.val 0x0F02 r (u.w1c Reg.HLT_STATUS_LASTING_PEND) []) ∧
    (u.takesUp m.val 0x0F03 = true → passes (chkHltInject r u) = true →
      let a := ((u.w1c Reg.HLT_INJ_STAT_DONE).w1c Reg.HLT_INJ_STAT_EXPIRED).w1c Reg.HLT_INJ_STAT_REFUSED
      let b := ((a.wr Reg.HLT_INJ_SEL (r.u8 16 * 2 ^ 24 + r.u16 18)).wr Reg.HLT_INJ_PARAM (r.u32 20)).wr64 Reg.HLT_INJ_ADDR_LO Reg.HLT_INJ_ADDR_HI
        (r.u64 24 / 64 * 64)
      let v := ((b.injKey 0x1E57).injKey 0xA11C).injGo
      v.isSet Reg.HLT_INJ_STAT_REFUSED = false → v.isSet Reg.HLT_INJ_STAT_DONE = false →
      Waits (.hltInject dt m) s m.val (v.setHlt { v.hlt with injWaiter := some r.waiter })) ∧
    (u.takesUp m.val 0x0F04 = true → passes (chkCvuCheck r u) = true → ∃ v, Waits (.cvuCheck dt m) s m.val v ∧
      (v.cvuSt (r.u8 16)).waiter = some r.waiter ∧ (v.cvuSt (r.u8 16)).deadline = u.tick + r.u16 18 * ticksPerMs)) ∧
  (∀ (k : Fin 4) (h : Bool) (v : Word), cvuMayWrite k.val h = true →
    let g := u.cvuConfigWrite k.val (withBits (withBits v.toNat 30 30 1) 29 29 0)
    let c := u.cvuConfigWrite k.val (withBits (withBits v.toNat 30 29 0) 28 28 1)
    let x := u.cvuConfigWrite k.val (withBits (withBits v.toNat 30 30 0) 29 29 1)
    exec (.cvuGo dt k h v) s = .next ((if bitAt v.toNat 28 then g.cvuReset k.val else g).cvuGo k.val) ∧
    exec (.cvuReset dt k h v) s = .next (c.cvuReset k.val) ∧
    (bitAt v.toNat 28 = false → x.isSet (Reg.CVU_CTRL_BUSY k.val) = true →
      exec (.cvuAbort dt k h v) s = .next (x.setCvu k.val { x.cvuSt k.val with aborting := true }))) ∧
  (∀ (k : Fin 4) (h : Bool), cvuMayWrite k.val h = true → u.isSet (Reg.CVU_CTRL_BUSY k.val) = false →
    (∀ w : Word, u.fld (Reg.CVU_CTRL_FEED_BYTES k.val) = 0 → exec (.cvuDataWrite dt k h [w]) s = .next (u.cvuFeed k.val (leBytes 4 w.toNat))) ∧
    (∀ lo hi : Word, exec (.cvuRunWrite dt k h lo (some hi)) s =
      .next ((u.setRunReg k.val (lo.toNat + 2 ^ 32 * hi.toNat)).setCvu k.val { u.cvuSt k.val with runHi := none }))) ∧
  (∀ (k : Fin 4) (done : Nat), u.isSet (Reg.CVU_CTRL_BUSY k.val) = true → (u.cvuSt k.val).aborting = false → (u.cvuSt k.val).waiter = none →
    let c := u.cvuSt k.val
    let p := u.rd64 (Reg.CVU_POS_LO k.val) (Reg.CVU_POS_HI k.val)
    let (st, v) := u.cvuBlocks k.val c.endAddr none ((c.endAddr - p) / 64 + 2)
    exec (.cvuScanComplete dt k done none) s = .next (v.cvuEnd k.val st false))
/-! ### Completion: Blaze, the control strip and the supply, the policy (spec/15, spec/18, spec/20, spec/21) -/

/-- O24: Blaze's recorder and its BLZ_ commands complete. -/
def Obligations.BlazeComplete : Prop :=
  ∀ (s : State) (dt : Nat), let u := s.pass dt
  exec (.blzRecordCompose dt) s = .next u.blzCompose ∧
  (u.blz.flushWaiters = [] → exec (.blzFlushStart dt) s = .next u.blzStart) ∧
  (u.isSet Reg.BLZ_STATUS_FLUSHING = true → exec (.blzFlushDone dt) s = .next u.blzFlushAll) ∧
  (∀ a : Nat, u.isSet Reg.BLZ_STATUS_FLUSHING = true →
    exec (.blzXspiTimeout dt a false) s = .next ((u.raise Reg.BLZ_STAT_XSPI_ERR).bump Reg.BLZ_CNT_XSPI_RETRY) ∧
    exec (.blzXspiTimeout dt a true) s = .next ((((u.raise Reg.BLZ_STAT_XSPI_ERR).setFld Reg.BLZ_STATUS_FLUSHING 0).setFld
      Reg.BLZ_STATUS_XSPI_STOP 1).notice 0x1002 0 [0] (pack [(1, 1), (3, 0), (4, a)]))) ∧
  (∀ m : Fin 8, let r := u.request m.val
    (u.takesUp m.val 0x1001 = true → Performs (.blzQuery dt m) s m.val 0x1001 r u (u.regImage State.view Reg.BLZ_STATUS 24)) ∧
    (u.takesUp m.val 0x1002 = true → passes (chkBlzRead r u) = true → u.blz.records = [] → r.u8 16 = 0 →
      Performs (.blzRead dt m) s m.val 0x1002 r u (pack [(4, r.u32 20), (4, 0)])) ∧
    (u.takesUp m.val 0x1003 = true → passes (chkBlzFlush r u) = true → u.fld Reg.BLZ_BUF_UNFLUSHED_BYTES ≠ 0 →
      Waits (.blzFlush dt m) s m.val
        (((u.setFld Reg.BLZ_STATUS_XSPI_STOP 0).setBlz { u.blz with flushWaiters := u.blz.flushWaiters ++ [(r.waiter, u.tick)] }).blzStart)) ∧
    (u.takesUp m.val 0x1004 = true → passes (chkBlzListSet r u) = true → ∃ t, Performs (.blzListSet dt m) s m.val 0x1004 r t [] ∧
      sparseGet [] t.blz.lists (r.u8 16) = (List.range (r.u8 17)).map fun i => r.u64 (28 + 8 * i)) ∧
    (u.takesUp m.val 0x1005 = true →
      let t := u.blzTrigger 5 r.part 0 (r.bytes 16 16)
      let mine (x : State) : Nat := (x.blz.queue.filter fun e => e.type == 5 && e.source == r.part).length
      mine t ≠ 0 → Waits (.blzMark dt m) s m.val (t.setBlz { t.blz with marks := t.blz.marks ++ [(r.part, r.waiter)] })) ∧
    (u.takesUp m.val 0x1006 = true → passes (chkBlzLogClear r u) = true → ∃ t, Performs (.blzLogClear dt m) s m.val 0x1006 r t [] ∧
      t.blz.low = [] ∧ t.blz.high = []))

/-- O25: the control strip, the supply and the policy complete. -/
def Obligations.StripPolicyComplete : Prop :=
  ∀ (s : State) (dt : Nat), let u := s.pass dt
  (∀ cm : List Nat, u.scanDue = true → u.sys.resetLow = false →
    let (g, t) := u.stripScan cm
    exec (.stripScan dt cm) s = .next (if g then t.wakeFrom 1 else t)) ∧
  (∀ up : Bool, u.avsRuns = true → u.isSet Reg.SYS_AVS_STAT_FAIL = false → u.since u.sys.avsAt ticksPerMs = true →
    ∃ t, exec (.avsSetpointUpdate dt up [true]) s = .next t ∧
    t.fld Reg.SYS_AVS_STAT_SETPOINT_MV = avsStep (u.fld Reg.SYS_AVS_STAT_SETPOINT_MV) up % 2 ^ 16 ∧ t.sys.avsAt = u.tick) ∧
  (∀ vout iout power : Nat, u.avsRuns = true → u.isSet Reg.SYS_AVS_STAT_FAIL = false → u.readbackDue = true →
    let v := u.setSys { u.sys with avsReadAt := some u.tick }
    exec (.avsReadback dt vout iout power [true]) s = .next ((v.setFld Reg.SYS_AVS_STAT_FAIL 0).showSupply vout iout power)) ∧
  (u.avsRuns = true → u.isSet Reg.SYS_AVS_STAT_FAIL = true → u.sys.avsRetryAt ≤ u.tick →
    exec (.avsRetry dt [true]) s = .next (u.setFld Reg.SYS_AVS_STAT_FAIL 0)) ∧
  (∀ x : PolMeasure, u.isSet Reg.MBX_STATUS_READY = true → u.since u.pol.startAt (100 * ticksPerMs) = true →
    exec (.polWindowEnd dt x) s = .next (u.endWindow x)) ∧
  (∀ m : Fin 8, let r := u.request m.val
    (u.takesUp m.val 0x1201 = true → passes (chkStripCfg r u) = true → u.fld Reg.STRIP_SCAN_PULSES = bitsAt (r.u32 16) 26 16 →
      ∃ t, Performs (.stripCfg dt m) s m.val 0x1201 r t [] ∧ t.rd Reg.STRIP_SCAN = r.u32 16 ∧ t.rd Reg.STRIP_THRESH = r.u32 20 ∧
      t.rd Reg.STRIP_TIMING = r.u32 24 ∧ t.rd Reg.STRIP_WAKE_CFG = r.u32 28) ∧
    (u.takesUp m.val 0x1202 = true → passes (chkStripControlSet r u) = true → Performs (.stripControlSet dt m) s m.val 0x1202 r
      ((u.dropTouch (r.u8 16)).putControls ((List.range 16).map fun d => if d == r.u8 16 then
        (r.u8 17, if r.u8 17 == 0 then [] else (r.bytes 20 (min (r.u8 18) 12)).map BitVec.toNat) else (u.fld (Reg.STRIP_CTL_CFG_KIND d), u.ctlNodes d))) []) ∧
    (u.takesUp m.val 0x1203 = true → passes (chkStripRebaseline r u) = true → Performs (.stripRebaseline dt m) s m.val 0x1203 r
      ((u.rebaseline (bitList 144 (fieldAt r.msg 16 18))).settleCtls) []) ∧
    (u.takesUp m.val 0x1204 = true → Performs (.stripQuery dt m) s m.val 0x1204 r u
      (u.regImage State.view Reg.STRIP_STATUS 11 ++ u.regImage State.view (Reg.STRIP_CTL_CFG 0) 32)) ∧
    (u.takesUp m.val 0x0D01 = true → passes (chkPolCfg r u) = true → u.pol.rungs = 0 → ∃ t, Performs (.polCfg dt m) s m.val 0x0D01 r t [] ∧
      t.pol.rungEn = r.u8 16 ∧ t.pol.margin = r.u8 17 ∧ t.pol.enterWin = r.u8 18 ∧ t.pol.releaseS = r.u8 19 ∧ t.pol.capPct = r.u8 20) ∧
    (u.takesUp m.val 0x0D02 = true → ∃ b, Performs (.polQuery dt m) s m.val 0x0D02 r u (leBytes 1 u.pol.rungs ++ leBytes 1 u.degrade ++ b)) ∧
    (u.takesUp m.val 0x0D03 = true → Performs (.polMeasure dt m) s m.val 0x0D03 r u (leBytes 4 u.pol.window ++ padTo 64 u.pol.measure)))
/-! ### The queue of commands, ill-formed accesses, what every command keeps -/

/-- O26: a step takes the command at the front of the queue and runs it on the state with the queue's rest. -/
def Obligations.StepRunsFront : Prop :=
  ∀ (c : Instr) (rest : List Instr) (s : State), s.pending = c :: rest → step s = exec c { s with pending := rest }

/-- O27: on an empty queue the block idles (log 1: the model's choice), and no command has a word of its own (the table gives no bits). -/
def Obligations.IdleAndWords : Prop :=
  (∀ s : State, s.pending = [] → step s = .next s) ∧ (∀ nbits w, decodeTableWord nbits w = none) ∧
  ∀ (s : State) (nbits w : Nat), s.withFetchWord nbits w = s

/-- O28: every well-formed command completes in every state, and no command is ever refused. -/
def Obligations.WellFormedCommandsComplete : Prop :=
  ∀ (c : Instr) (s : State), (c.wf = true → Completes c s) ∧ ∀ r, exec c s ≠ .refused r

/-- O29: an access that has no byte, crosses an aligned 4 KiB boundary or starts outside its master's address space is no request that a
master makes (R439): it stops. -/
def Obligations.BrokenAccessesStop : Prop :=
  ∀ (s : State) (dt a : Nat),
  ∀ (ecc : List (Fin 4)) (held : Bool),
  (∀ data : List Byte, accessOk (2 ^ 36) a data.length = false → exec (.hostBar2Write dt a ⟨data, held⟩) s = .fault .badAccess) ∧
  (∀ n : Nat, accessOk (2 ^ 36) a n = false → exec (.hostBar2Read dt a n ⟨ecc, held⟩) s = .fault .badAccess) ∧
  (∀ (u : Fin 28) (data : List Byte) (n : Nat),
    (accessOk (2 ^ 48) a data.length = false → exec (.engineMemoryAccess dt u true a data n ⟨ecc, held⟩) s = .fault .badAccess) ∧
    (accessOk (2 ^ 48) a n = false → exec (.engineMemoryAccess dt u false a data n ⟨ecc, held⟩) s = .fault .badAccess)) ∧
  (∀ (data : List Byte) (n : Nat),
    (accessOk (2 ^ 48) a data.length = false → exec (.debugAccess dt true a data ⟨n, ecc⟩) s = .fault .badAccess) ∧
    (accessOk (2 ^ 48) a n = false → exec (.debugAccess dt false a data ⟨n, ecc⟩) s = .fault .badAccess))

/-- O30: no command touches the queue behind it, and time never runs back. -/
def Obligations.QueueKeptAndTimeRuns : Prop :=
  ∀ (c : Instr) (s t : State), exec c s = .next t → t.pending = s.pending ∧ s.tick ≤ t.tick

/-- O31: every step keeps every byte memory of the block (device memory, host memory, message areas, boot flash, log chip) in its canonical
form: addresses rising, no entry equal to what an unlisted byte reads as. -/
def Obligations.StepKeepsMemoryForm : Prop :=
  ∀ s t : State, s.memOk = true → step s = .next t → t.memOk = true

/-- O32: the memories are in canonical form at reset, no command waits, and no byte is listed. -/
def Obligations.ResetMemoryForm : Prop :=
  State.reset.memOk = true ∧ State.reset.pending = [] ∧ ∀ a, State.reset.memByte a = 0
/-! ### Registers and accesses (R6, R7, R8, R13, R28) -/

/-- O33: R6. Registers are 32 bits wide; an aligned access of 4 bytes covers one register, of 8 bytes the register and the one above; any
other size or alignment is not performed. -/
def Obligations.RegisterAccessSizes : Prop :=
  (∀ (s : State) (a : Nat), s.rd a < 2 ^ 32) ∧
  ∀ (s : State) (dt a size v : Nat), let u := s.pass dt
  u.hostPort = true →
  ((size ≠ 4 ∧ size ≠ 8) ∨ a % size ≠ 0 →
    exec (.regReadLowHalf dt a size) s = .next { u with readData := 0 } ∧ exec (.regWrite dt a size v) s = .next u) ∧
  (a % 4 = 0 → inBlock a = true →
    exec (.regReadLowHalf dt a 4) s = .next (u.readReg a) ∧ exec (.regWrite dt a 4 v) s = .next (u.regWrite a (v % 2 ^ 32))) ∧
  (a % 8 = 0 → inBlock a = true →
    (∃ t, exec (.regReadLowHalf dt a 8) s = .next t ∧
      t.readData = (u.readReg a).readData + 2 ^ 32 * ((u.readReg a).readReg (a + 4)).readData) ∧
    exec (.regWrite dt a 8 v) s = .next ((u.regWrite a (v % 2 ^ 32)).regWrite (a + 4) (v / 2 ^ 32 % 2 ^ 32)))

/-- O34: R7. A read of the low register of a 64-bit quantity captures the high one; the next read of the high one, whatever happened to it
since, returns what was captured. -/
def Obligations.PairReadsAreCoherent : Prop :=
  ∀ (s v : State) (dt dt2 a : Nat), let u := s.pass dt
  shadowsOf a = [a + 4] → a % 4 = 0 → inBlock a = true → inBlock (a + 4) = true → u.hostPort = true → u.servesBar0 a = true →
  ∃ t, exec (.regReadLowHalf dt a 4) s = .next t ∧
    (v.shadows = t.shadows → (v.pass dt2).hostPort = true → (v.pass dt2).servesBar0 (a + 4) = true →
      ∃ w, exec (.regReadLowHalf dt2 (a + 4) 4) v = .next w ∧ w.readData = u.view (a + 4))

/-- O35: R8 and R9 for a register whose write has no row and no service-mode effect of its own: RW and RWS bits take the written value, W1C
bits written 1 clear unless their event came at this tick, all other bits and all other registers stay, and so does every byte of memory. -/
def Obligations.RegisterWriteEffect : Prop :=
  ∀ (s : State) (dt a v : Nat), let u := s.pass dt
  u.hostPort = true → a % 4 = 0 → inBlock a = true → u.ownWrite a (v % 2 ^ 32) = none → u.serviceWrite a (v % 2 ^ 32) = u →
  within 0x050000 0x0503FF a = false → within 0x200110 0x20012F a = false → (∀ m, m < 8 → a ≠ Reg.MBX_CMPL m) →
  ∃ t, exec (.regWrite dt a 4 v) s = .next t ∧
    (∀ i, i < 32 → bitAt (t.rd a) i =
      (if bitAt (w1cMask a) i && bitAt v i && !bitAt (u.raisedBits a) i then false else if bitAt (rwMask a) i then bitAt v i else bitAt (u.rd a) i)) ∧
    (∀ b, b ≠ a → t.rd b = u.rd b) ∧ (∀ b, t.memByte b = u.memByte b) ∧ t.ldg = u.ldg ∧ t.clk = u.clk

/-- O36: R13, with its worked example. -/
def Obligations.SerialOrder : Prop :=
  (∀ n a b : Nat, 0 < n → (newer n a b = true ↔ 1 ≤ ((a : Int) - b) % 2 ^ n ∧ ((a : Int) - b) % 2 ^ n < 2 ^ (n - 1))) ∧
  newer 8 3 250 = true ∧ newer 8 250 3 = false ∧ newer 8 130 2 = false ∧ newer 8 2 130 = false

/-- O37: R276. Each tick adds 2 ns and AGE_ADJ × 2^-32 ns to the age clock; a cold start sets it to zero; it counts on through a warm
start. -/
def Obligations.AgeClock : Prop :=
  (∀ (s : State) (dt : Nat), ((s.pass dt).clk.age : Int) = (s.clk.age + dt * (2 * 2 ^ 32 + toInt 32 (s.rd Reg.TIM_AGE_ADJ))) % 2 ^ 96) ∧
  (∀ (s : State) (dt : Nat), ∃ t, exec (.resetAssert dt) s = .next t ∧ t.clk.age = 0) ∧
  (∀ (s : State) (dt : Nat), ∃ t, exec (.warmNAssert dt) s = .next t ∧ (t.clk.age = (s.pass dt).clk.age ∨ (s.pass dt).sys.deep = true))

/-! ### Accesses to memory: frames, denials (R437, R438, R445, R450) -/

/-- O38: a write of the host stores to the bytes it names and to no other, whatever else it brings (a report, a mirrored message), but for
the bytes of the writes that wait before it; where a scan-lock window or Firebreak drops it, to none. -/
def Obligations.HostWriteFrame : Prop :=
  ∀ (s t : State) (dt a : Nat) (data : List Byte) (held : Bool), exec (.hostBar2Write dt a ⟨data, held⟩) s = .next t → let u := s.pass dt
  (∀ b, ¬(a ≤ b ∧ b < a + data.length) → u.waitingStore b = false → t.memByte b = s.memByte b) ∧
  (((u.windowAt a).isSome = true ∨ (u.fbkDenies fbkHost a true).isSome = true ∨ inDeviceMem a = false) → u.pair.hostWait = [] → ∀ b, t.memByte b = s.memByte b) ∧
  t.ldg = u.ldg ∧ t.clk = u.clk

/-- O39: an allowed write of an engine or of the debug master stores to the bytes it names, at once where the memory serves it at once, and
to no other but those of the writes that wait; their reads of device memory leave every byte but those as it is. -/
def Obligations.MasterAccessFrame : Prop :=
  ∀ (s : State) (dt a n : Nat) (data : List Byte) (ecc : List (Fin 4)) (held : Bool), let u := s.pass dt
  (∀ (k : Fin 28) (t : State), let v := (u.fbkCheck k.val a true data.length).2.2
    (u.fbkCheck k.val a true data.length).1 = true → 2 ≤ k.val → (within 2 4 k.val && within 0xFF00000000 0xFF00FFFFFF a) = false →
    exec (.engineMemoryAccess dt k true a data n ⟨ecc, held⟩) s = .next t →
    (held = false → v.memFree a data.length = true → ∀ i, (h : i < data.length) → t.memByte (a + i) = data[i]) ∧
    ∀ b, ¬(a ≤ b ∧ b < a + data.length) → u.waitingStore b = false → t.memByte b = s.memByte b) ∧
  (∀ (k : Fin 28) (t : State), (u.fbkCheck k.val a false n).1 = true → 2 ≤ k.val → inDeviceMem a = true →
    exec (.engineMemoryAccess dt k false a data n ⟨ecc, held⟩) s = .next t →
    (∀ b, u.waitingStore b = false → t.memByte b = s.memByte b) ∧ t.ldg = u.ldg) ∧
  (∀ t, exec (.debugAccess dt true a data ⟨n, ecc⟩) s = .next t → within 0xFF00000000 0xFF00FFFFFF a = false →
    ∀ b, ¬(a ≤ b ∧ b < a + data.length) → u.waitingStore b = false → t.memByte b = s.memByte b) ∧
  (∀ t, exec (.debugAccess dt false a data ⟨n, ecc⟩) s = .next t → ∀ b, u.waitingStore b = false → t.memByte b = s.memByte b)

/-- O40: R437 and R450 for a denied host read: data zero, memory as it was, the denial counted. -/
def Obligations.DeniedHostRead : Prop :=
  ∀ (s : State) (dt a n c : Nat) (ecc : List (Fin 4)) (held : Bool), let u := s.pass dt
  accessOk (2 ^ 36) a n = true → u.hostPort = true → u.fld Reg.SYS_PWR_STATE ≠ 2 → inDeviceMem a = true →
  u.fbkDenies fbkHost a false = some c → ∃ t, exec (.hostBar2Read dt a n ⟨ecc, held⟩) s = .next t ∧ t.readData = 0 ∧
    (∀ b, t.memByte b = s.memByte b) ∧ t.rd (Reg.FBK_VIOL_CNT fbkHost) = satAdd32 (u.rd (Reg.FBK_VIOL_CNT fbkHost)) 1 ∧
    (u.isSet (Reg.FBK_VIOL_STAT_VALID fbkHost) = false → t.fld (Reg.FBK_VIOL_STAT_CAUSE fbkHost) = c)

/-- O41: R445. A host write dropped by a window counts in FBK_HOST_SCANLOCK_CNT and in the window's HITS, memory stays as it is, and
nothing is logged as a fault; host reads are not checked against windows. -/
def Obligations.WindowDropsWrite : Prop :=
  ∀ (s : State) (dt a w : Nat) (held : Bool), let u := s.pass dt
  u.hostPort = true → u.fld Reg.SYS_PWR_STATE ≠ 2 → inDeviceMem a = true → (u.drives || u.isSet Reg.MBX_STATUS_RECOVERY) = true →
  u.windowAt a = some w → u.isSet Reg.PAIR_MIRROR_THROTTLE = false → u.pair.hostWait = [] →
  (∀ data : List Byte, accessOk (2 ^ 36) a data.length = true → ∃ t, exec (.hostBar2Write dt a ⟨data, held⟩) s = .next t ∧
    (∀ b, t.memByte b = s.memByte b) ∧
    t.rd (Reg.FBK_HOST_SCANLOCK_CNT fbkHost) = satAdd32 (u.rd (Reg.FBK_HOST_SCANLOCK_CNT fbkHost)) 1 ∧
    t.rd (Reg.FBK_WIN_HITS w) = satAdd32 (u.rd (Reg.FBK_WIN_HITS w)) 1 ∧
    t.rd (Reg.CNP_CNT_SCANLOCK (u.fld (Reg.FBK_WIN_CFG_OUTPUT w))) = satAdd32 (u.rd (Reg.CNP_CNT_SCANLOCK (u.fld (Reg.FBK_WIN_CFG_OUTPUT w)))) 1 ∧
    t.rd Reg.HLT_LOG_PROD = u.rd Reg.HLT_LOG_PROD) ∧
  (∀ (n : Nat) (ecc : List (Fin 4)), accessOk (2 ^ 36) a n = true → u.fbkDenies fbkHost a false = none → u.memFree a n = true →
    ∃ t, exec (.hostBar2Read dt a n ⟨ecc, false⟩) s = .next t ∧ t.readData = s.viewNat a n)
/-! ### Rules of the ledger, the gate, outputs (R45 to R61, R91, R95, R109) -/

/-- O42: R54 steps 1 to 5: the first check that fails names its counter, in the table's order; a rejected record changes no cell; an
accepted VOID makes its cell VOID with STICKY clear. `c` is the cell as the ledger engine reads it. -/
def Obligations.HostRecordChecks : Prop :=
  ∀ (s : State) (ring : Nat) (rec : List Byte),
  let w := fieldAt rec 0 4
  let n := bitsAt w 19 0
  let action := fieldAt rec 4 1
  let kind := fieldAt rec 5 1
  let time := fieldAt rec 8 8
  let y := s.cellRead n false
  let c := if y.1 then y.2.cell n else {}
  let x := s.hostConfirm ring rec false
  let form := 2 < action ∨ 2 < kind ∨ bitsAt w 31 28 ≠ 0 ∨ (kind = 0 ∧ bitsAt time 63 40 ≠ 0) ∨ (kind = 1 ∧ 10 ^ 9 ≤ bitsAt time 31 0)
  (form → x.1 = some Reg.LDG_CNT_FORMAT) ∧
  (¬form → c.ownerKind = 0 → x.1 = some Reg.LDG_CNT_UNALLOC) ∧
  (¬form → c.ownerKind ≠ 0 → (c.ownerKind ≠ 1 ∨ c.partition ≠ y.2.fld (Reg.LDG_CRING_CFG_PARTITION ring)) → x.1 = some Reg.LDG_CNT_OWNER) ∧
  (¬form → c.ownerKind = 1 → c.partition = y.2.fld (Reg.LDG_CRING_CFG_PARTITION ring) →
    ((c.damaged = true ∨ bitsAt w 27 20 ≠ c.gen) → x.1 = some Reg.LDG_CNT_GEN) ∧
    (c.damaged = false → bitsAt w 27 20 = c.gen → action = 2 → x.1 = none ∧ (x.2.cell n).state = csVoid ∧ (x.2.cell n).sticky = false)) ∧
  (x.1.isSome = true → ∀ k, x.2.cell k = y.2.cell k)

/-- O43: R47 for an accepted confirmation and a deadline expiry: the new STATE does not depend on the old one, but for the expiry of a VOID
cell. `y` is the cell as the ledger engine reads it for an expiry or a force. -/
def Obligations.ConfirmTransitions : Prop :=
  ∀ (s : State) (n action t : Nat), let c := { s.cell n with confirmedAt := t, aged := false }
  let y := s.cellRead n false
  (passed s.now40 c.deadline = true → ((s.applyConfirm n action t).cell n).state = csStale) ∧
  (passed s.now40 c.deadline = false → ((s.applyConfirm n action t).cell n).state = (if action = 1 then csRecovering else csLive)) ∧
  ((s.applyConfirm n action t).cell n).confirmedAt = t ∧
  (s.ldg.suppressed.contains n = false → y.1 = true →
    ((s.expireCell n).cell n).state = (if (y.2.cell n).state = csVoid then csVoid else csStale) ∧ ((s.expireCell n).cell n).filed = false) ∧
  (y.1 = true → ((s.forceCell n csVoid).cell n).state = csVoid ∧ ((s.forceCell n csStale).cell n).state = csStale) ∧
  ∀ k, k ≠ n → (s.applyConfirm n action t).cell k = s.cell k ∧ (s.forceCell n action).cell k = y.2.cell k ∧
    (s.ldg.suppressed.contains n = false → (s.expireCell n).cell k = y.2.cell k)

/-- O44: R61. A cell's bit is 1 in each replica exactly when the cell's effective state, as it was just set, is not LIVE (of an unallocated
cell always, R46), and the bits of other cells stay. -/
def Obligations.BitmapFollowsCell : Prop :=
  ∀ (s : State) (n : Nat) (c : Cell) (r : Nat), r < 4 → n < cellCount →
  (s.settleCell n c).staleBit r n = (c.ownerKind == 0 || c.eff != csLive) ∧
  ∀ k, k ≠ n → k < cellCount → (s.settleCell n c).staleBit r k = s.staleBit r k

/-- O45: LDG_CELL_FORCE and LDG_STICKY_RELEASE change no cell outside their range and no byte of device memory but those of writes
that waited before their reads. -/
def Obligations.CellCommandsFrame : Prop :=
  ∀ (s t : State) (dt : Nat) (m : Fin 8), let r := (s.pass dt).request m.val
  (exec (.ldgCellForce dt m) s = .next t ∨ exec (.ldgStickyRelease dt m) s = .next t) →
  (∀ n, ¬(r.u32 16 ≤ n ∧ n < r.u32 16 + r.u32 20) → t.cell n = s.cell n) ∧
  ∀ b, (s.pass dt).waitingStore b = false → t.memByte b = s.memByte b

/-- O46: R91 for service writes of the gate's colours: where hatch, badge, clearing and pulse-mark colours differ as they must, they still
do after any write. -/
def Obligations.GateColoursStayApart : Prop :=
  let col (s : State) (k : Nat) : Nat := s.rd (gateColourRegs.getD k 0)
  let apart (s : State) : Prop := col s 0 ≠ col s 1 ∧ col s 2 ≠ col s 3 ∧ col s 5 ≠ col s 6 ∧ col s 7 ≠ col s 8 ∧ col s 7 ≠ col s 9 ∧
    col s 8 ≠ col s 9
  apart State.reset ∧
  ∀ (s : State) (dt k : Nat) (v : Word), k < 10 → (s.pass dt).isSet Reg.GATE_STATUS_SVC = true → apart (s.pass dt) →
    ∃ t, exec (.gateSvcWrite dt (gateColourRegs.getD k 0) v) s = .next t ∧ apart t

/-- O47: R95. A pixel of a RECOVERING span takes the lattice colour where both coordinates modulo 16 are below 2 and is left as composed
elsewhere, 4 of 256 pixels, with no badge. -/
def Obligations.RecoveringLattice : Prop :=
  (∀ (g : GateOut) (n : Nat) (p : LineSpan) (x y i : Nat), p.eff = csRecovering →
    treatPixel g n p x y i = if x % 16 < 2 ∧ y % 16 < 2 then some (g.latch.col 4) else none) ∧
  ((List.range 256).filter fun k => k % 16 < 2 && k / 16 < 2).length * 64 = 256

/-- O48: R109. A first frame takes k mod 2^32, every later frame start the next number. -/
def Obligations.FrameNumbers : Prop :=
  ∀ (s : State) (dt : Nat) (n : Fin 32), let u := s.pass dt
  u.startDue n.val = true → ∃ t, exec (.frameStart dt n) s = .next t ∧
    (u.outState n.val = osStarting → (t.frameNo n.val : Int) = (u.out n.val).nextK % 2 ^ 32) ∧
    (u.outState n.val ≠ osStarting → t.frameNo n.val = (u.frameNo n.val + 1) % 2 ^ 32)

/-- O49: R163. A signature is the parametric CRC with these parameters, and gives the check value. -/
def Obligations.SignatureIsCrc32c : Prop :=
  let m : CrcModel := { w := 32, poly := 0x1EDC6F41, init := 0xFFFFFFFF, refin := true, refout := true, xorout := 0xFFFFFFFF }
  (∀ l : List Byte, crc32c l = m.result (l.foldl m.feed m.init)) ∧
  crc32c [0x31, 0x32, 0x33, 0x34, 0x35, 0x36, 0x37, 0x38, 0x39] = 0xE3069283

/-! ### Rules of rings, mailboxes, faults, check values, start-up (R70, R242, R376, R377, R379, R461, R462, R470) -/

/-- O50: R242. A CONS write beyond PROD is ignored: it sets ERR and leaves every ring index as it was. -/
def Obligations.EncodeRingRefusesCons : Prop :=
  ∀ (s : State) (dt : Nat) (k : Fin 32) (v : Word), let u := s.pass dt
  wrapSub 32 (u.rd (Reg.ENC_SES_RING_PROD k.val)) (u.rd (Reg.ENC_SES_RING_CONS k.val)) <
    wrapSub 32 v.toNat (u.rd (Reg.ENC_SES_RING_CONS k.val)) →
  ∃ t, exec (.encSesRingConsWrite dt k v) s = .next t ∧ t.isSet (Reg.ENC_SES_RING_STAT_ERR k.val) = true ∧
    t.rd (Reg.ENC_SES_RING_CONS k.val) = u.rd (Reg.ENC_SES_RING_CONS k.val) ∧ ∀ b, t.memByte b = s.memByte b

/-- O51: a response (R376): header and body stand in the area, DONE is set, TAG is that of the message, and vector 1 + m is requested where
the doorbell asked for it (R377). -/
def Obligations.ResponseInTheArea : Prop :=
  ∀ (s : State) (m : Fin 8) (status detail : Nat) (body : List Byte), body.length ≤ 4080 →
  let t := s.complete m.val false false status detail body
  let h := s.areaBytes m.val 0 16
  t.fld (Reg.MBX_CMPL_DONE m.val) = 1 ∧ t.mbState m.val = mbDone ∧ t.fld (Reg.MBX_CMPL_TAG m.val) = fieldAt h 2 2 ∧
  t.areaBytes m.val 16 body.length = body ∧ fieldAt (t.areaBytes m.val 0 16) 10 2 = status % 2 ^ 16 ∧
  (∀ k, k < 8 → k ≠ m.val → t.areaBytes k 0 4096 = s.areaBytes k 0 4096) ∧
  sparseGet 0 t.msix (1 + m.val) = sparseGet 0 s.msix (1 + m.val) + ofBool (s.mbox m.val).irq

/-- O52: R377 and R379: without GO a doorbell write has no effect; while READY is 0 hardware answers BUSY with no body and sets HW and
DONE, once the host's writes that waited before it are made. -/
def Obligations.DoorbellWithoutFirmware : Prop :=
  ∀ (s : State) (dt : Nat) (m : Fin 8) (irq : Bool), let u := s.pass dt
  exec (.mbxDoorbell dt m false irq) s = .next u ∧
  (let w := u.serveDue (fun p => p.1.unit == fbkHost && p.1.write)
   u.mbState m.val ≠ mbPosted → u.mbState m.val ≠ mbBusy → w.isSet Reg.MBX_STATUS_READY = false →
    ∃ t, exec (.mbxDoorbell dt m true irq) s = .next t ∧ t.mbState m.val = mbDone ∧ t.fld (Reg.MBX_CMPL_DONE m.val) = 1 ∧
      t.fld (Reg.MBX_CMPL_HW m.val) = 1 ∧ fieldAt (t.areaBytes m.val 0 16) 10 2 = stBusy ∧ fieldAt (t.areaBytes m.val 0 16) 4 2 = 16 ∧
      fieldAt (t.areaBytes m.val 0 16) 0 4 = fieldAt (w.areaBytes m.val 0 16) 0 4 ∧ ∀ b, t.memByte b = w.memByte b)

/-- O53: R462. A logged event of class at least IRQ_CLASS requests vector 17 once, another does not; the default is LASTING. -/
def Obligations.FaultVector : Prop :=
  (∀ (s : State) (det cls inst detail : Nat) (inj : Bool), cls < 4 →
    sparseGet 0 (s.logFault det cls inst inj detail).msix 17 =
      sparseGet 0 s.msix 17 + (if s.fld Reg.HLT_CTRL_IRQ_CLASS ≤ cls then 1 else 0)) ∧
  State.reset.fld Reg.HLT_CTRL_IRQ_CLASS = 2

/-- O54: R461. FAULT_N is low while FATAL is 1, or LASTING_PEND and FAULTN_LASTING are, and high impedance otherwise, in reset and in deep
standby; a LASTING event sets LASTING_PEND, and HLT_ACK clears it where no such event came at its tick. -/
def Obligations.FaultPin : Prop :=
  (∀ s : State, s.faultN = true ↔ s.sys.deep = false ∧ s.sys.resetLow = false ∧
    (s.fld Reg.HLT_STATUS_FATAL = 1 ∨ (s.fld Reg.HLT_STATUS_LASTING_PEND = 1 ∧ s.fld Reg.HLT_CTRL_FAULTN_LASTING = 1))) ∧
  (∀ (s : State) (det inst detail : Nat) (inj : Bool), (s.logFault det 2 inst inj detail).fld Reg.HLT_STATUS_LASTING_PEND = 1) ∧
  (∀ (s : State) (dt : Nat) (m : Fin 8), let u := s.pass dt
    u.takesUp m.val 0x0F02 = true → passes (chkHltAck (u.request m.val) u) = true →
    u.raised.contains (Reg.HLT_STATUS_LASTING_PEND.addr, Reg.HLT_STATUS_LASTING_PEND.lo) = false →
    ∃ t, exec (.hltAck dt m) s = .next t ∧ t.fld Reg.HLT_STATUS_LASTING_PEND = 0)

/-- O55: R470. CVU_DATA feeds FEED_BYTES bytes of each written word (0 feeds four), lowest byte first, the low word of a 64-bit write before
the high one. -/
def Obligations.CheckUnitFeed : Prop :=
  ∀ (s : State) (dt : Nat) (k : Fin 4) (h : Bool) (w x : Word), let u := s.pass dt
  cvuMayWrite k.val h = true → u.isSet (Reg.CVU_CTRL_BUSY k.val) = false →
  let f := if u.fld (Reg.CVU_CTRL_FEED_BYTES k.val) = 0 then 4 else u.fld (Reg.CVU_CTRL_FEED_BYTES k.val)
  exec (.cvuDataWrite dt k h [w]) s = .next (u.cvuFeed k.val ((leBytes 4 w.toNat).take f)) ∧
  exec (.cvuDataWrite dt k h [w, x]) s = .next (u.cvuFeed k.val ((leBytes 4 w.toNat).take f ++ (leBytes 4 x.toNat).take f))

/-- O56: R459 steps 1, 2 and 5 and R379: a first FATAL fault sets FATAL with its cause, clears READY and orders Blaze's flush; a later one
leaves the cause. -/
def Obligations.FatalFault : Prop :=
  ∀ (s : State) (cause det inst : Nat) (inj : Bool), cause < 16 → let t := s.fatal cause det inst inj
  t.isSet Reg.HLT_STATUS_FATAL = true ∧
  (s.isSet Reg.HLT_STATUS_FATAL = false → t.fld Reg.HLT_STATUS_FATAL_CAUSE = cause ∧ t.isSet Reg.MBX_STATUS_READY = false) ∧
  (s.isSet Reg.HLT_STATUS_FATAL = true → t.fld Reg.HLT_STATUS_FATAL_CAUSE = s.fld Reg.HLT_STATUS_FATAL_CAUSE)

/-- O57: a cold start (RESET_N low) empties device memory and the message areas and leaves host memory, boot flash and log chip; a warm
start keeps device memory, the cells, the wheel, the bitmap and every confirm ring's indices (R70, R8). -/
def Obligations.StartsKeep : Prop :=
  ∀ (s : State) (dt : Nat), let u := s.pass dt
  (∃ t, exec (.resetAssert dt) s = .next t ∧ t.mem = [] ∧ t.area = [] ∧ t.hostMem = u.hostMem ∧ t.flash = u.flash ∧
    t.blz.chip = u.blz.chip) ∧
  (u.sys.resetLow = false → u.sys.deep = false → u.fld Reg.SYS_PWR_STATE ≠ 2 → u.warmRefused = false →
    ∃ t, exec (.warmNAssert dt) s = .next t ∧ t.mem = u.mem ∧ t.flash = u.flash ∧ t.ldg.cells = u.ldg.cells ∧ t.ldg.wheel = u.ldg.wheel ∧
      t.ldg.bitmap = u.ldg.bitmap ∧
      ∀ r, r < 64 → u.isSet (Reg.LDG_CRING_CFG_OPEN r) = true →
        t.rd (Reg.LDG_CRING_PROD r) = u.rd (Reg.LDG_CRING_PROD r) ∧ t.rd (Reg.LDG_CRING_CONS r) = u.rd (Reg.LDG_CRING_CONS r))

/-! ### Frames of the commands that only ask, and of settings -/

/-- O58: a query of the command set that reads no device memory changes the sender's message area, its mailbox registers and its vector, and nothing else: no register
outside the mailbox, no byte of device or host memory, no state of a unit. -/
def Obligations.QueriesChangeNothing : Prop :=
  ∀ (s t : State) (dt : Nat) (m : Fin 8) (c : Instr),
  c ∈ [.ldgNonliveList dt m, .outQuery dt m, .lkoRegionQuery dt m, .decSessionQuery dt m,
    .encSessionQuery dt m, .pktPortQuery dt m, .timQuery dt m, .klnLaneQuery dt m, .capQuery dt m, .pairQuery dt m, .sysIdentify dt m,
    .sysHealth dt m, .sysPartQuery dt m, .sysStartQuery dt m, .sysImageQuery dt m, .blzQuery dt m, .fbkQuery dt m, .hltQuery dt m,
    .stripQuery dt m, .polQuery dt m, .polMeasure dt m] →
  exec c s = .next t → let u := s.pass dt
  (∀ a, a ≠ Reg.MBX_CMPL m.val → t.rd a = u.rd a) ∧ t.mem = u.mem ∧ t.hostMem = u.hostMem ∧ t.ldg = u.ldg ∧ t.outs = u.outs ∧
  t.decs = u.decs ∧ t.encs = u.encs ∧ t.queues = u.queues ∧ t.time = u.time ∧ t.lanes = u.lanes ∧ t.caps = u.caps ∧ t.pair = u.pair ∧
  t.hlt = u.hlt ∧ t.fbk = u.fbk ∧ t.blz = u.blz ∧ t.sys = u.sys ∧ t.strip = u.strip ∧ t.pol = u.pol ∧ t.flash = u.flash ∧
  (∀ k, k < 8 → k ≠ m.val → t.areaBytes k 0 4096 = u.areaBytes k 0 4096) ∧ ∀ v, v ≠ 1 + m.val → sparseGet 0 t.msix v = sparseGet 0 u.msix v

/-- O59: a refused command changes nothing but its response (R125, R393): whatever command of this list fails a check, every register outside
its mailbox, every byte of memory and every unit stays as it was. -/
def Obligations.RefusedCommandsChangeNothing : Prop :=
  ∀ (s : State) (dt : Nat) (m : Fin 8) (st d : Nat), let u := s.pass dt
  let r := u.request m.val
  let refused : State := u.complete m.val false false st d []
  (u.takesUp m.val 0x0203 = true → firstBad (chkLdgCellSet r u) = some (st, d) → exec (.ldgCellSet dt m) s = .next refused) ∧
  (u.takesUp m.val 0x0401 = true → firstBad (chkStandCfg r u) = some (st, d) → exec (.standCfg dt m) s = .next refused) ∧
  (u.takesUp m.val 0x0402 = true → firstBad (chkOutEnable r u) = some (st, d) → exec (.outEnable dt m) s = .next refused) ∧
  (u.takesUp m.val 0x0403 = true → firstBad (chkOutDisable r u) = some (st, d) → exec (.outDisable dt m) s = .next refused) ∧
  (u.takesUp m.val 0x0404 = true → firstBad (chkOutSet r u) = some (st, d) → exec (.outSet dt m) s = .next refused) ∧
  (u.takesUp m.val 0x0501 = true → firstBad (chkLkoRegionSet r u) = some (st, d) → exec (.lkoRegionSet dt m) s = .next refused) ∧
  (u.takesUp m.val 0x0704 = true → firstBad (chkEncRefresh r u) = some (st, d) → exec (.encRefresh dt m) s = .next refused) ∧
  (u.takesUp m.val 0x0B01 = true → firstBad (chkPairCfg r u) = some (st, d) → exec (.pairCfg dt m) s = .next refused) ∧
  (u.takesUp m.val 0x1201 = true → firstBad (chkStripCfg r u) = some (st, d) → exec (.stripCfg dt m) s = .next refused) ∧
  (∀ a, a ≠ Reg.MBX_CMPL m.val → refused.rd a = u.rd a) ∧ refused.mem = u.mem ∧ refused.hostMem = u.hostMem ∧ refused.ldg = u.ldg ∧
  refused.outs = u.outs ∧ refused.encs = u.encs ∧ refused.pair = u.pair ∧ refused.strip = u.strip

/-- O60: queued commands of safety-class outputs go first (R418): while a message that concerns a safety-class output is posted, no message
that concerns standard-class outputs only is taken up, whatever its opcode; within a class the message posted earlier is taken up first;
a message that concerns no output gives way to none (which commands concern an output is the model's reading, log 197). -/
def Obligations.SafetyWorkFirst : Prop :=
  ∀ (s : State) (dt : Nat) (a b : Fin 8), let u := s.pass dt
  a ≠ b → u.mbState a.val = mbPosted →
  ((u.workClass a.val = some true ∧ u.workClass b.val = some false ∨
      u.workClass a.val = u.workClass b.val ∧ (u.workClass a.val).isSome ∧ u.arrivals.idxOf a.val < u.arrivals.idxOf b.val) →
    (∀ op, u.takesUp b.val op = false) ∧ exec (.outSet dt b) s = .next u ∧ exec (.outQuery dt b) s = .next u ∧
      exec (.gateTreatCfg dt b) s = .next u ∧ exec (.cnpBufSet dt b) s = .next u) ∧
  (u.workClass b.val = none → u.goesBefore a.val b.val = false)
end

