-- ==== Sys2Proof/Laws/Commands.lean ====
section
/-! SUPPORT. The ways a Lysman command can end, one lemma for each; what Firebreak's check, a notice, a host write and an access to memory come to. -/

namespace Sys2Proof.Machine

open Sys2Proof

/-- A command all of whose checks pass is performed. -/
theorem State.refuseOr_pass (s : State) {l : List (Bool × Nat × Nat)} (k : State × Resp) (h : passes l = true) : s.refuseOr l k = k := by
  simp only [passes, Option.isNone_iff_eq_none] at h
  simp [State.refuseOr, h]

/-- A command one of whose checks fails is refused with the status and the DETAIL of the first that does, and changes nothing. -/
theorem State.refuseOr_fail (s : State) {l : List (Bool × Nat × Nat)} {st d : Nat} (k : State × Resp) (h : firstBad l = some (st, d)) :
    s.refuseOr l k = (s, .err st d) := by simp [State.refuseOr, h]

/-- A command is taken up in its turn, where its header passes the checks again. -/
theorem State.takesUp_eq (s : State) (m op : Nat) : s.takesUp m op = (s.turnOf m op && (s.headerCheck m).isNone) := rfl

/-- A mailbox that holds no such message, or whose turn it is not, is left alone. -/
theorem State.lcs_idle (s : State) {m op : Nat} (f : Req → State → State × Resp) (h : s.turnOf m op = false) : s.lcs m op f = s := by
  have ht : s.takesUp m op = false := by simp [State.takesUp_eq, h]
  simp only [State.lcs, ht, h]
  cases s.headerCheck m <;> rfl

/-- A message whose header fails a check when its turn comes is answered as the doorbell would have answered it (R402, R406). -/
theorem State.lcs_turned (s : State) {m op st d : Nat} (f : Req → State → State × Resp) (h : s.turnOf m op = true)
    (hc : s.headerCheck m = some (st, d)) : s.lcs m op f = s.complete m false false st d [] := by
  have ht : s.takesUp m op = false := by simp [State.takesUp_eq, hc]
  simp [State.lcs, ht, h, hc]

/-- A command performed at once. -/
theorem State.lcs_ok {s t : State} {m op : Nat} {f : Req → State → State × Resp} {b : List Byte} (h : s.takesUp m op = true)
    (hf : f (s.request m) s = (t, .ok b)) : s.lcs m op f = t.performed m op (s.request m) b := by
  simp only [State.lcs, h, hf, if_true]
  rfl

/-- A command performed at once whose response was cut (R405). -/
theorem State.lcs_more {s t : State} {m op : Nat} {f : Req → State → State × Resp} {b : List Byte} (h : s.takesUp m op = true)
    (hf : f (s.request m) s = (t, .more b)) : s.lcs m op f = t.complete m false true stOk noField b := by
  simp [State.lcs, h, hf]

/-- A refused command: the response apart, the state before it. -/
theorem State.lcs_err {s t : State} {m op st d : Nat} {f : Req → State → State × Resp} (h : s.takesUp m op = true)
    (hf : f (s.request m) s = (t, .err st d)) : s.lcs m op f = s.complete m false false st d [] := by
  simp [State.lcs, h, hf]

/-- A command that fails with an effect and a body of its own. -/
theorem State.lcs_fail {s t : State} {m op st d : Nat} {f : Req → State → State × Resp} {b : List Byte} (h : s.takesUp m op = true)
    (hf : f (s.request m) s = (t, .fail st d b)) : s.lcs m op f = t.complete m false false st d b := by
  simp [State.lcs, h, hf]

/-- A command that waits in BUSY. -/
theorem State.lcs_wait {s t : State} {m op : Nat} {f : Req → State → State × Resp} (h : s.takesUp m op = true)
    (hf : f (s.request m) s = (t, .wait)) : s.lcs m op f = t.waiting m := by
  simp [State.lcs, h, hf, State.waiting]

/-- The same for a command given by its checks and its effect. -/
theorem State.lcs_refused {s : State} {m op st d : Nat} {chk : Req → State → List (Bool × Nat × Nat)} {k : Req → State → State × Resp}
    (h : s.takesUp m op = true) (hc : firstBad (chk (s.request m) s) = some (st, d)) :
    s.lcs m op (fun r u => u.refuseOr (chk r u) (k r u)) = s.complete m false false st d [] :=
  State.lcs_err h (State.refuseOr_fail s _ hc)

/-- An access that Firebreak allows, with no injection pending on its unit, changes nothing. -/
theorem State.fbkCheck_allowed {s : State} {u a len : Nat} {write : Bool} (hi : s.injTake 0x10 u = (none, s))
    (h : s.fbkDenies u a write = none) : s.fbkCheck u a write len = (true, false, s) := by
  simp [State.fbkCheck, hi, h]

/-- An access that Firebreak denies is a violation. -/
theorem State.fbkCheck_denied {s : State} {u a len c : Nat} {write : Bool} (hi : s.injTake 0x10 u = (none, s))
    (h : s.fbkDenies u a write = some c) : s.fbkCheck u a write len = (false, s.fbkViolate u a write len c) := by
  simp [State.fbkCheck, hi, h]

/-- A notice of the hardware, or one raised while Ranger A1 composes notices, is raised at once. -/
theorem State.notice_raised {s : State} {kind obj : Nat} {dests : List Nat} {payload : List Byte} {never : Bool}
    (h : (s.composes || hwNotice kind payload) = true) : s.notice kind obj dests payload never = s.raiseNotice kind obj dests payload never := by
  simp only [State.notice, h, if_true]

/-- Any other notice waits for Ranger A1, and nothing else changes. -/
theorem State.notice_untold {s : State} {kind obj : Nat} {dests : List Nat} {payload : List Byte} {never : Bool}
    (h : (s.composes || hwNotice kind payload) = false) : s.notice kind obj dests payload never =
      { s with ranger := { s.ranger with untold := s.ranger.untold ++ [{ kind := kind, obj := obj, dests := dests, payload := payload }] } } := by
  simp only [State.notice, h]; rfl

/-- With no host write waiting for credits, a host write is made at once unless the partner's credits hold it back. -/
theorem State.bar2Post_free {s : State} {a : Nat} {data : List Byte} {held : Bool} (hw : s.pair.hostWait = [])
    (ht : s.isSet Reg.PAIR_MIRROR_THROTTLE = false) : s.bar2Post a data held = s.bar2Write a data held := by
  simp [State.bar2Post, State.returnCredits, hw, ht]

/-- A host write that the partner's credits hold back waits behind the others. -/
theorem State.bar2Post_throttled {s : State} {a : Nat} {data : List Byte} {held : Bool} (hw : s.pair.hostWait = [])
    (ht : s.isSet Reg.PAIR_MIRROR_THROTTLE = true) :
    s.bar2Post a data held = s.setPair { s.pair with hostWait := [{ a := a, data := data, held := held }] } := by
  simp [State.bar2Post, State.returnCredits, hw, ht]

/-- With no request waiting, none is served before a newcomer. -/
theorem State.arrive_none {s : State} {r : MemReq} (hw : s.hbm.waiting = []) : s.arrive r = s := by simp [State.arrive, hw]

/-- Where no request waits, an access that finds its channels free is served at once and alone. -/
theorem State.askMem_free {s : State} {u a len : Nat} {write low : Bool} {data : List Byte} {ecc : List Nat}
    (h : s.memFree a (if write then data.length else len) = true) :
    s.askMem u a write data len ecc false low =
      s.serveReq { unit := u, addr := a, write := write, data := data, len := len, ecc := ecc, level := urgency u low, since := s.tick } := by
  by_cases hd : inDeviceMem a = true
  · simp only [State.memFree, hd, Bool.not_true, Bool.false_or, Bool.and_eq_true, List.isEmpty_iff, List.all_eq_true] at h
    have hn : ((channelsOf a (if write then data.length else len)).any fun c => !s.queueTakes 0x0A c && !s.hbm.fenced.contains c) = false := by
      simp only [List.any_eq_false, Bool.and_eq_true, not_and]
      intro c hc; simp [h.2.1 c hc]
    simp only [State.askMem, hd, MemReq.size, hn, Bool.not_true, Bool.or_self, Bool.false_eq_true, if_false]
    rw [State.arrive_none h.2.2]
  · simp [State.askMem, hd]

/-- A write to channels none of which is fenced stores its bytes. -/
theorem State.storeMem_open {s : State} {a : Nat} {b : List Byte} (h : s.spanOpen a b.length = true) : s.storeMem a b = (s.touch a b.length).memWrite a b := by
  simp [State.storeMem, h]

/-- A read of channels none of which is fenced: what its words meet, then the bytes. -/
theorem State.loadMem_open {s : State} {a n : Nat} {ecc : List Nat} (h : s.spanOpen a n = true) :
    s.loadMem a n ecc = let v := (s.touch a n).eccSpan a n ecc; (v.2.viewBytes a n, v.1, v.2) := by
  simp [State.loadMem, State.meetRead, h]

end Sys2Proof.Machine
end

