-- ==== Sys2Proof/Laws/Sparse.lean ====
section
/-! SUPPORT. Sparse tables: reading after writing, and the canonical form (keys rising, no entry equal to the default). -/

namespace Sys2Proof.Machine

open Sys2Proof

variable {α : Type}

theorem sparseFind_ins (l : List (Nat × α)) (k : Nat) (v : α) (j : Nat) :
    sparseFind (sparseIns l k v) j = if k = j then some v else sparseFind l j := by
  induction l with
  | nil => simp [sparseIns, sparseFind]
  | cons p t ih =>
    obtain ⟨i, w⟩ := p
    simp only [sparseIns]
    split
    · simp [sparseFind]
    · split
      · subst_vars; simp only [sparseFind]; split <;> simp_all
      · simp only [sparseFind, ih]
        split
        · split <;> simp_all
        · rfl

theorem sparseFind_del (l : List (Nat × α)) (k j : Nat) :
    sparseFind (sparseDel l k) j = if k = j then none else sparseFind l j := by
  induction l with
  | nil => simp [sparseDel, sparseFind]
  | cons p t ih =>
    obtain ⟨i, w⟩ := p
    simp only [sparseDel]
    split
    · subst_vars; simp only [ih, sparseFind]; split <;> simp_all
    · simp only [sparseFind, ih]
      split
      · split <;> simp_all
      · rfl

/-- A table read after a write. -/
theorem sparseGet_put [DecidableEq α] (d : α) (l : List (Nat × α)) (k : Nat) (v : α) (j : Nat) :
    sparseGet d (sparsePut d l k v) j = if k = j then v else sparseGet d l j := by
  unfold sparseGet sparsePut
  split
  · rw [sparseFind_del]; split <;> simp_all
  · rw [sparseFind_ins]; split <;> simp_all

@[simp] theorem sparseGet_put_same [DecidableEq α] (d : α) (l : List (Nat × α)) (k : Nat) (v : α) :
    sparseGet d (sparsePut d l k v) k = v := by simp [sparseGet_put]

theorem sparseGet_put_other [DecidableEq α] (d : α) (l : List (Nat × α)) {k j : Nat} (v : α) (h : k ≠ j) :
    sparseGet d (sparsePut d l k v) j = sparseGet d l j := by simp [sparseGet_put, h]

/-- What a table lists after a write. -/
theorem sparseFind_put [DecidableEq α] (d : α) (l : List (Nat × α)) (k : Nat) (v : α) (j : Nat) :
    sparseFind (sparsePut d l k v) j = if k = j then (if v = d then none else some v) else sparseFind l j := by
  unfold sparsePut
  split
  · rw [sparseFind_del]
  · rw [sparseFind_ins]

/-! ### The canonical form -/

theorem sparseRising_iff (l : List (Nat × α)) : sparseRising l = true ↔ l.Pairwise fun p q => p.1 < q.1 := by
  induction l with
  | nil => simp [sparseRising]
  | cons p t ih =>
    cases t with
    | nil => simp [sparseRising]
    | cons q u =>
      obtain ⟨j, v⟩ := p
      obtain ⟨k, w⟩ := q
      simp only [sparseRising, Bool.and_eq_true, decide_eq_true_eq, ih, List.pairwise_cons, List.mem_cons]
      constructor
      · rintro ⟨h, h1, h2⟩
        refine ⟨?_, h1, h2⟩
        rintro x (rfl | hx)
        · exact h
        · exact Nat.lt_trans h (h1 x hx)
      · rintro ⟨h, h1, h2⟩
        exact ⟨h (k, w) (Or.inl rfl), h1, h2⟩

theorem mem_sparseDel {l : List (Nat × α)} {k : Nat} {p : Nat × α} (h : p ∈ sparseDel l k) : p ∈ l := by
  induction l with
  | nil => simp [sparseDel] at h
  | cons q t ih =>
    obtain ⟨i, w⟩ := q
    simp only [sparseDel] at h
    split at h
    · exact List.mem_cons_of_mem _ (ih h)
    · rcases List.mem_cons.1 h with rfl | h
      · exact List.mem_cons_self ..
      · exact List.mem_cons_of_mem _ (ih h)

theorem mem_sparseIns {l : List (Nat × α)} {k : Nat} {v : α} {p : Nat × α} (h : p ∈ sparseIns l k v) : p = (k, v) ∨ p ∈ l := by
  induction l with
  | nil => simpa [sparseIns] using h
  | cons q t ih =>
    obtain ⟨i, w⟩ := q
    simp only [sparseIns] at h
    split at h
    · simpa using h
    · split at h
      · rcases List.mem_cons.1 h with h | h
        · exact Or.inl h
        · exact Or.inr (List.mem_cons_of_mem _ h)
      · rcases List.mem_cons.1 h with rfl | h
        · exact Or.inr (List.mem_cons_self ..)
        · rcases ih h with h | h
          · exact Or.inl h
          · exact Or.inr (List.mem_cons_of_mem _ h)

theorem sparseDel_rising {l : List (Nat × α)} (k : Nat) (h : sparseRising l = true) : sparseRising (sparseDel l k) = true := by
  rw [sparseRising_iff] at *
  induction l with
  | nil => simp [sparseDel]
  | cons q t ih =>
    obtain ⟨i, w⟩ := q
    rw [List.pairwise_cons] at h
    simp only [sparseDel]
    split
    · exact ih h.2
    · rw [List.pairwise_cons]
      exact ⟨fun p hp => h.1 p (mem_sparseDel hp), ih h.2⟩

theorem sparseIns_rising {l : List (Nat × α)} (k : Nat) (v : α) (h : sparseRising l = true) : sparseRising (sparseIns l k v) = true := by
  rw [sparseRising_iff] at *
  induction l with
  | nil => simp [sparseIns]
  | cons q t ih =>
    obtain ⟨i, w⟩ := q
    have h2 := h
    rw [List.pairwise_cons] at h
    simp only [sparseIns]
    split
    · rename_i hk
      rw [List.pairwise_cons]
      refine ⟨?_, h2⟩
      intro p hp
      rcases List.mem_cons.1 hp with rfl | hp
      · exact hk
      · exact Nat.lt_trans hk (h.1 p hp)
    · split
      · subst_vars
        rw [List.pairwise_cons]
        exact ⟨h.1, h.2⟩
      · rename_i h1 h3
        rw [List.pairwise_cons]
        refine ⟨?_, ih h.2⟩
        intro p hp
        rcases mem_sparseIns hp with rfl | hp
        · simp; omega
        · exact h.1 p hp

variable [DecidableEq α]

/-- Writing keeps the canonical form. -/
theorem sparsePut_wf {d : α} {l : List (Nat × α)} (k : Nat) (v : α) (h : sparseWf d l = true) : sparseWf d (sparsePut d l k v) = true := by
  simp only [sparseWf, Bool.and_eq_true, List.all_eq_true, decide_eq_true_eq] at *
  unfold sparsePut
  split
  · exact ⟨sparseDel_rising k h.1, fun p hp => h.2 p (mem_sparseDel hp)⟩
  · rename_i hv
    refine ⟨sparseIns_rising k v h.1, fun p hp => ?_⟩
    rcases mem_sparseIns hp with rfl | hp
    · exact hv
    · exact h.2 p hp

/-- Writing a run of values keeps the canonical form. -/
theorem sparsePutRange_wf {d : α} {l : List (Nat × α)} (start : Nat) (vs : List α) (h : sparseWf d l = true) :
    sparseWf d (sparsePutRange d l start vs) = true := by
  unfold sparsePutRange
  generalize vs.zipIdx = z
  induction z generalizing l with
  | nil => exact h
  | cons p t ih => exact ih (sparsePut_wf _ _ h)

/-- Dropping entries keeps the canonical form. -/
theorem sparseFilter_wf {d : α} {l : List (Nat × α)} (f : Nat × α → Bool) (h : sparseWf d l = true) : sparseWf d (l.filter f) = true := by
  simp only [sparseWf, Bool.and_eq_true, List.all_eq_true, decide_eq_true_eq, sparseRising_iff] at *
  exact ⟨h.1.filter _, fun p hp => h.2 p (List.mem_filter.1 hp).1⟩

/-- Equal reads of canonical tables make equal tables. -/
theorem sparseWf_ext {d : α} {l m : List (Nat × α)} (hl : sparseWf d l = true) (hm : sparseWf d m = true)
    (h : ∀ k, sparseGet d l k = sparseGet d m k) : l = m := by
  simp only [sparseWf, Bool.and_eq_true, List.all_eq_true, decide_eq_true_eq, sparseRising_iff] at hl hm
  have find_none : ∀ {t : List (Nat × α)} {k : Nat}, (∀ p ∈ t, k < p.1) → sparseFind t k = none := by
    intro t k
    induction t with
    | nil => intro _; rfl
    | cons p t ih =>
      intro hp
      obtain ⟨i, w⟩ := p
      have := hp (i, w) (List.mem_cons_self ..)
      simp only [sparseFind]
      rw [if_neg (by simp at this; omega)]
      exact ih fun q hq => hp q (List.mem_cons_of_mem _ hq)
  induction l generalizing m with
  | nil =>
    cases m with
    | nil => rfl
    | cons q u =>
      obtain ⟨k, w⟩ := q
      have := h k
      simp [sparseGet, sparseFind] at this
      exact absurd this.symm (hm.2 _ (List.mem_cons_self ..))
  | cons p t ih =>
    obtain ⟨j, v⟩ := p
    have hv := hl.2 _ (List.mem_cons_self ..)
    have hl1 := List.pairwise_cons.1 hl.1
    cases m with
    | nil =>
      have := h j
      simp [sparseGet, sparseFind] at this
      exact absurd this hv
    | cons q u =>
      obtain ⟨k, w⟩ := q
      have hw := hm.2 _ (List.mem_cons_self ..)
      have hm1 := List.pairwise_cons.1 hm.1
      have hjk : j = k := by
        rcases Nat.lt_trichotomy j k with hlt | he | hgt
        · have hh := h j
          have : sparseFind ((k, w) :: u) j = none := by
            apply find_none
            intro p hp
            rcases List.mem_cons.1 hp with rfl | hp
            · exact hlt
            · exact Nat.lt_trans hlt (hm1.1 p hp)
          simp [sparseGet, sparseFind] at hh
          simp [sparseFind] at this
          simp_all
        · exact he
        · have hh := h k
          have : sparseFind ((j, v) :: t) k = none := by
            apply find_none
            intro p hp
            rcases List.mem_cons.1 hp with rfl | hp
            · exact hgt
            · exact Nat.lt_trans hgt (hl1.1 p hp)
          simp [sparseGet, sparseFind] at hh
          simp [sparseFind] at this
          simp_all
      subst hjk
      have hvw : v = w := by simpa [sparseGet, sparseFind] using h j
      subst hvw
      congr 1
      apply ih
      · intro k
        have hk := h k
        by_cases e : j = k
        · subst e
          simp only [sparseGet]
          rw [find_none hl1.1, find_none hm1.1]
        · simpa [sparseGet, sparseFind, e] using hk
      · exact ⟨hl1.2, fun p hp => hl.2 p (List.mem_cons_of_mem _ hp)⟩
      · exact ⟨hm1.2, fun p hp => hm.2 p (List.mem_cons_of_mem _ hp)⟩

end Sys2Proof.Machine
end

