-- ==== Sys2Proof/Laws/Memory.lean ====
section
/-! SUPPORT. The byte memories: what a write does to every byte, and that each memory operation keeps the canonical form. -/

namespace Sys2Proof.Machine

open Sys2Proof

variable {α : Type}

/-- A range written from index `k` of a list on: every key of the range reads its value, every other key as before. -/
theorem sparseGet_putFrom [DecidableEq α] (d : α) (start : Nat) (vs : List α) :
    ∀ (k : Nat) (l : List (Nat × α)) (j : Nat),
      sparseGet d ((vs.zipIdx k).foldl (fun m p => sparsePut d m (start + p.2) p.1) l) j =
        if start + k ≤ j ∧ j < start + k + vs.length then vs.getD (j - (start + k)) d else sparseGet d l j := by
  induction vs with
  | nil => intro k l j; simp only [List.zipIdx_nil, List.foldl_nil, List.length_nil]; rw [if_neg (by omega)]
  | cons v t ih =>
    intro k l j
    rw [List.zipIdx_cons, List.foldl_cons, ih, sparseGet_put]
    by_cases h0 : j = start + k
    · subst h0
      simp
    · by_cases h1 : start + (k + 1) ≤ j ∧ j < start + (k + 1) + t.length
      · rw [if_pos h1, if_pos ⟨by omega, by simp only [List.length_cons]; omega⟩]
        obtain ⟨n, hn⟩ : ∃ n, j - (start + k) = n + 1 := ⟨j - (start + k) - 1, by omega⟩
        rw [hn, List.getD_cons_succ, show j - (start + (k + 1)) = n by omega]
      · have h2 : ¬ (start + k ≤ j ∧ j < start + k + (v :: t).length) := by rw [List.length_cons]; omega
        rw [if_neg h1, if_neg h2, if_neg (by omega)]

/-- What a range write does to every key. -/
theorem sparseGet_putRange [DecidableEq α] (d : α) (l : List (Nat × α)) (start : Nat) (vs : List α) (j : Nat) :
    sparseGet d (sparsePutRange d l start vs) j =
      if start ≤ j ∧ j < start + vs.length then vs.getD (j - start) d else sparseGet d l j := by
  simpa [sparsePutRange] using sparseGet_putFrom d start vs 0 l j

/-- A byte of device memory after a write: the byte written, or the one before. -/
theorem State.memByte_memWrite (s : State) (a : Nat) (b : List Byte) (j : Nat) :
    (s.memWrite a b).memByte j = if a ≤ j ∧ j < a + b.length then b.getD (j - a) 0 else s.memByte j :=
  sparseGet_putRange 0 s.mem a b j

/-- Outside the bytes written, every byte reads as before. -/
theorem State.memByte_memWrite_other (s : State) {a j : Nat} (b : List Byte) (h : ¬ (a ≤ j ∧ j < a + b.length)) :
    (s.memWrite a b).memByte j = s.memByte j := by rw [State.memByte_memWrite, if_neg h]

/-- What was written is what is read back. -/
theorem State.memBytes_memWrite_same (s : State) (a : Nat) (b : List Byte) : (s.memWrite a b).memBytes a b.length = b := by
  apply List.ext_getElem
  · simp [State.memBytes, sparseRange]
  · intro i h1 h2
    have h := State.memByte_memWrite s a b (a + i)
    simp only [State.memByte] at h
    simp only [State.memBytes, sparseRange, List.getElem_map, List.getElem_range, h]
    rw [if_pos ⟨by omega, by omega⟩, Nat.add_sub_cancel_left, List.getD_eq_getElem _ _ h2]

theorem State.memWrite_wf (s : State) (a : Nat) (b : List Byte) (h : Memory.wf 0 s.mem = true) : Memory.wf 0 (s.memWrite a b).mem = true :=
  sparsePutRange_wf a b h

theorem State.hostWrite_wf (s : State) (a : Nat) (b : List Byte) (h : Memory.wf 0 s.hostMem = true) :
    Memory.wf 0 (s.hostWrite a b).hostMem = true := sparsePutRange_wf a b h

theorem State.areaWrite_wf (s : State) (m : Nat) (b : List Byte) (h : Memory.wf 0 s.area = true) :
    Memory.wf 0 (s.areaWrite m b).area = true := sparsePutRange_wf (4096 * m) b h

/-- The three writes keep every memory in canonical form. -/
theorem State.memWrite_memOk (s : State) (a : Nat) (b : List Byte) (h : s.memOk = true) : (s.memWrite a b).memOk = true := by
  simp only [State.memOk, Bool.and_eq_true] at h ⊢
  exact ⟨⟨⟨⟨State.memWrite_wf s a b h.1.1.1.1, h.1.1.1.2⟩, h.1.1.2⟩, h.1.2⟩, h.2⟩

theorem State.hostWrite_memOk (s : State) (a : Nat) (b : List Byte) (h : s.memOk = true) : (s.hostWrite a b).memOk = true := by
  simp only [State.memOk, Bool.and_eq_true] at h ⊢
  exact ⟨⟨⟨⟨h.1.1.1.1, State.hostWrite_wf s a b h.1.1.1.2⟩, h.1.1.2⟩, h.1.2⟩, h.2⟩

theorem State.areaWrite_memOk (s : State) (m : Nat) (b : List Byte) (h : s.memOk = true) : (s.areaWrite m b).memOk = true := by
  simp only [State.memOk, Bool.and_eq_true] at h ⊢
  exact ⟨⟨⟨⟨h.1.1.1.1, h.1.1.1.2⟩, State.areaWrite_wf s m b h.1.1.2⟩, h.1.2⟩, h.2⟩

/-- Registers are not memory: a register write keeps the form. -/
theorem State.wr_memOk (s : State) (a v : Nat) : (s.wr a v).memOk = s.memOk := rfl

theorem State.setFld_memOk (s : State) (f : Fld) (v : Nat) : (s.setFld f v).memOk = s.memOk := rfl

/-- The memories of the reset state list nothing. -/
theorem reset_memories : State.reset.mem = [] ∧ State.reset.hostMem = [] ∧ State.reset.area = [] ∧ State.reset.flash = [] ∧
    State.reset.blz.chip = [] := ⟨rfl, rfl, rfl, rfl, rfl⟩

end Sys2Proof.Machine
end

