-- ==== Sys2Proof/Laws/Registers.lean ====
section
/-! SUPPORT. Registers and fields: what a read gives after a write, and that writing a register leaves everything else alone. -/

namespace Sys2Proof.Machine

open Sys2Proof

/-! ### Bit fields -/

theorem bitsAt_lt (x hi lo : Nat) : bitsAt x hi lo < 2 ^ (hi + 1 - lo) := Nat.mod_lt _ (Nat.two_pow_pos _)

theorem bitsAt_mul_le (x hi lo : Nat) : bitsAt x hi lo * 2 ^ lo ≤ x := by
  unfold bitsAt
  calc x / 2 ^ lo % 2 ^ (hi + 1 - lo) * 2 ^ lo ≤ x / 2 ^ lo * 2 ^ lo := Nat.mul_le_mul_right _ (Nat.mod_le _ _)
    _ ≤ x := Nat.div_mul_le_self _ _

/-- A number cut at a field: what lies above it, the field, what lies below. -/
theorem split_field (x hi lo : Nat) (h : lo ≤ hi + 1) :
    x = x / 2 ^ (hi + 1) * 2 ^ (hi + 1) + bitsAt x hi lo * 2 ^ lo + x % 2 ^ lo := by
  unfold bitsAt
  have e : 2 ^ (hi + 1) = 2 ^ lo * 2 ^ (hi + 1 - lo) := by rw [← Nat.pow_add]; congr 1; omega
  have h1 := Nat.div_add_mod x (2 ^ lo)
  have h2 := Nat.div_add_mod (x / 2 ^ lo) (2 ^ (hi + 1 - lo))
  rw [Nat.div_div_eq_div_mul, ← e] at h2
  calc x = 2 ^ lo * (x / 2 ^ lo) + x % 2 ^ lo := h1.symm
    _ = 2 ^ lo * (2 ^ (hi + 1 - lo) * (x / 2 ^ (hi + 1)) + x / 2 ^ lo % 2 ^ (hi + 1 - lo)) + x % 2 ^ lo := by rw [h2]
    _ = _ := by rw [e]; ring

theorem withBits_eq (x hi lo v : Nat) (h : lo ≤ hi + 1) :
    withBits x hi lo v = x / 2 ^ (hi + 1) * 2 ^ (hi + 1) + v % 2 ^ (hi + 1 - lo) * 2 ^ lo + x % 2 ^ lo := by
  unfold withBits
  have := split_field x hi lo h
  omega

/-- The field just written. -/
theorem bitsAt_withBits (x hi lo v : Nat) (h : lo ≤ hi) : bitsAt (withBits x hi lo v) hi lo = v % 2 ^ (hi + 1 - lo) := by
  rw [withBits_eq _ _ _ _ (by omega)]
  unfold bitsAt
  have e : 2 ^ (hi + 1) = 2 ^ lo * 2 ^ (hi + 1 - lo) := by rw [← Nat.pow_add]; congr 1; omega
  have p := Nat.two_pow_pos lo
  have : x / 2 ^ (hi + 1) * 2 ^ (hi + 1) + v % 2 ^ (hi + 1 - lo) * 2 ^ lo + x % 2 ^ lo =
      x % 2 ^ lo + 2 ^ lo * (v % 2 ^ (hi + 1 - lo) + 2 ^ (hi + 1 - lo) * (x / 2 ^ (hi + 1))) := by rw [e]; ring
  rw [this, Nat.add_mul_div_left _ _ p, Nat.div_eq_of_lt (Nat.mod_lt _ p), Nat.zero_add, Nat.add_mul_mod_self_left, Nat.mod_mod]

theorem div_withBits (x hi lo v : Nat) (h : lo ≤ hi + 1) : withBits x hi lo v / 2 ^ (hi + 1) = x / 2 ^ (hi + 1) := by
  rw [withBits_eq _ _ _ _ h]
  have e : 2 ^ (hi + 1) = 2 ^ lo * 2 ^ (hi + 1 - lo) := by rw [← Nat.pow_add]; congr 1; omega
  have p := Nat.two_pow_pos lo
  have hv := Nat.mod_lt v (Nat.two_pow_pos (hi + 1 - lo))
  have hx := Nat.mod_lt x p
  have : v % 2 ^ (hi + 1 - lo) * 2 ^ lo + x % 2 ^ lo < 2 ^ (hi + 1) := by
    rw [e]
    calc v % 2 ^ (hi + 1 - lo) * 2 ^ lo + x % 2 ^ lo < v % 2 ^ (hi + 1 - lo) * 2 ^ lo + 2 ^ lo := by omega
      _ = 2 ^ lo * (v % 2 ^ (hi + 1 - lo) + 1) := by ring
      _ ≤ _ := Nat.mul_le_mul_left _ hv
  rw [Nat.add_assoc, Nat.add_comm, Nat.add_mul_div_right _ _ (Nat.two_pow_pos _), Nat.div_eq_of_lt this, Nat.zero_add]

theorem mod_withBits (x hi lo v : Nat) (h : lo ≤ hi + 1) : withBits x hi lo v % 2 ^ lo = x % 2 ^ lo := by
  rw [withBits_eq _ _ _ _ h]
  have e : 2 ^ (hi + 1) = 2 ^ lo * 2 ^ (hi + 1 - lo) := by rw [← Nat.pow_add]; congr 1; omega
  have : x / 2 ^ (hi + 1) * 2 ^ (hi + 1) + v % 2 ^ (hi + 1 - lo) * 2 ^ lo + x % 2 ^ lo =
      x % 2 ^ lo + 2 ^ lo * (v % 2 ^ (hi + 1 - lo) + 2 ^ (hi + 1 - lo) * (x / 2 ^ (hi + 1))) := by rw [e]; ring
  rw [this, Nat.add_mul_mod_self_left, Nat.mod_mod]

/-- A field above the one written. -/
theorem bitsAt_withBits_above (x hi lo v hi2 lo2 : Nat) (h : lo ≤ hi + 1) (h2 : hi < lo2) :
    bitsAt (withBits x hi lo v) hi2 lo2 = bitsAt x hi2 lo2 := by
  have e : 2 ^ lo2 = 2 ^ (hi + 1) * 2 ^ (lo2 - (hi + 1)) := by rw [← Nat.pow_add]; congr 1; omega
  unfold bitsAt
  rw [e, ← Nat.div_div_eq_div_mul, ← Nat.div_div_eq_div_mul, div_withBits _ _ _ _ h]

/-- A field below the one written. -/
theorem bitsAt_withBits_below (x hi lo v hi2 lo2 : Nat) (h : lo ≤ hi + 1) (h2 : hi2 < lo) :
    bitsAt (withBits x hi lo v) hi2 lo2 = bitsAt x hi2 lo2 := by
  by_cases hl : lo2 ≤ hi2
  · have key : ∀ y : Nat, bitsAt y hi2 lo2 = bitsAt (y % 2 ^ lo) hi2 lo2 := by
      intro y
      unfold bitsAt
      have e : 2 ^ lo = 2 ^ lo2 * 2 ^ (lo - lo2) := by rw [← Nat.pow_add]; congr 1; omega
      rw [e, Nat.mod_mul_right_div_self, Nat.mod_mod_of_dvd _ (Nat.pow_dvd_pow 2 (by omega))]
    rw [key, mod_withBits _ _ _ _ h, ← key]
  · have e : hi2 + 1 - lo2 = 0 := by omega
    unfold bitsAt
    rw [e]
    simp [Nat.mod_one]

theorem withBits_lt (x hi lo v n : Nat) (h : lo ≤ hi + 1) (hn : hi < n) (hx : x < 2 ^ n) : withBits x hi lo v < 2 ^ n := by
  have e : 2 ^ n = 2 ^ (hi + 1) * 2 ^ (n - (hi + 1)) := by rw [← Nat.pow_add]; congr 1; omega
  rw [e] at hx ⊢
  have := div_withBits x hi lo v h
  have h1 : x / 2 ^ (hi + 1) < 2 ^ (n - (hi + 1)) := Nat.div_lt_of_lt_mul hx
  rw [← this] at h1
  rw [Nat.mul_comm]
  exact Nat.lt_mul_of_div_lt h1 (Nat.two_pow_pos _)

/-! ### Registers -/

theorem RegRow.look_lt (l : List RegRow) (h : l.all (fun r => r.val < 2 ^ 32) = true) (a : Nat) : RegRow.look l a < 2 ^ 32 := by
  induction l with
  | nil => simp [RegRow.look]
  | cons r t ih =>
    simp only [List.all_cons, Bool.and_eq_true, decide_eq_true_eq] at h
    simp only [RegRow.look]
    split
    · exact h.1
    · exact ih h.2

theorem if_ltI {c : Prop} [Decidable c] {x y n : Nat} (hx : x < n) (hy : y < n) : (if c then x else y) < n := by split <;> assumption

theorem resetWord_lt (a : Nat) : resetWord a < 2 ^ 32 := by
  unfold resetWord
  repeat' (refine if_ltI ?_ ?_)
  all_goals first
    | exact RegRow.look_lt _ (by decide) a
    | decide

theorem State.rd_lt (s : State) (a : Nat) : s.rd a < 2 ^ 32 := by
  unfold State.rd
  split
  · exact BitVec.isLt _
  · exact resetWord_lt a

/-- A register read after a register is written. -/
theorem State.rd_wr (s : State) (a v b : Nat) : (s.wr a v).rd b = if a = b then v % 2 ^ 32 else s.rd b := by
  unfold State.rd State.wr
  simp only [sparseFind_put]
  by_cases h : a = b
  · subst h
    simp only [if_true]
    split
    · rename_i w hw
      split at hw
      · simp at hw
      · simp only [Option.some.injEq] at hw; subst hw; simp
    · rename_i hw
      split at hw
      · rename_i e
        have := congrArg BitVec.toNat e
        simp only [BitVec.toNat_ofNat] at this
        rw [this, Nat.mod_eq_of_lt (resetWord_lt a)]
      · simp at hw
  · simp only [h, if_false]

@[simp] theorem State.rd_wr_same (s : State) (a v : Nat) : (s.wr a v).rd a = v % 2 ^ 32 := by simp [State.rd_wr]

theorem State.rd_wr_other (s : State) {a b : Nat} (v : Nat) (h : a ≠ b) : (s.wr a v).rd b = s.rd b := by simp [State.rd_wr, h]

theorem State.rd_setFld_other (s : State) (f : Fld) (v b : Nat) (h : f.addr ≠ b) : (s.setFld f v).rd b = s.rd b :=
  s.rd_wr_other _ h

/-- A whole register just written in one field. -/
theorem State.rd_setFld_same (s : State) (f : Fld) (v : Nat) (h : f.lo ≤ f.hi + 1) (h31 : f.hi < 32) :
    (s.setFld f v).rd f.addr = withBits (s.rd f.addr) f.hi f.lo v := by
  unfold State.setFld
  rw [State.rd_wr_same, Nat.mod_eq_of_lt (withBits_lt _ _ _ _ 32 h h31 (s.rd_lt _))]

/-- A field just written. -/
theorem State.fld_setFld_same (s : State) (f : Fld) (v : Nat) (h : f.lo ≤ f.hi) (h31 : f.hi < 32) :
    (s.setFld f v).fld f = v % 2 ^ (f.hi + 1 - f.lo) := by
  unfold State.fld
  rw [s.rd_setFld_same f v (by omega) h31, bitsAt_withBits _ _ _ _ h]

/-- A field of another register. -/
theorem State.fld_setFld_addr (s : State) (f g : Fld) (v : Nat) (h : f.addr ≠ g.addr) : (s.setFld f v).fld g = s.fld g := by
  unfold State.fld
  rw [s.rd_setFld_other f v _ h]

/-- Another field of the same register. -/
theorem State.fld_setFld_apart (s : State) (f g : Fld) (v : Nat) (ha : f.addr = g.addr) (hf : f.lo ≤ f.hi + 1) (h31 : f.hi < 32)
    (h : f.hi < g.lo ∨ g.hi < f.lo) : (s.setFld f v).fld g = s.fld g := by
  unfold State.fld
  rw [← ha, s.rd_setFld_same f v hf h31]
  rcases h with h | h
  · exact bitsAt_withBits_above _ _ _ _ _ _ hf h
  · exact bitsAt_withBits_below _ _ _ _ _ _ hf h

/-- Two fields share no bit. -/
def Fld.apart (f g : Fld) : Bool :=
  f.addr != g.addr || (decide (f.lo ≤ f.hi + 1) && decide (f.hi < 32) && (decide (f.hi < g.lo) || decide (g.hi < f.lo)))

/-- A field that shares no bit with the one written. -/
theorem State.fld_setFld (s : State) (f g : Fld) (v : Nat) (h : f.apart g = true) : (s.setFld f v).fld g = s.fld g := by
  unfold Fld.apart at h
  by_cases ha : f.addr = g.addr
  · simp only [ha, bne_self_eq_false, Bool.false_or, Bool.and_eq_true, Bool.or_eq_true, decide_eq_true_eq] at h
    exact s.fld_setFld_apart f g v ha h.1.1 h.1.2 h.2
  · exact s.fld_setFld_addr f g v ha

theorem State.fld_wr (s : State) (a v : Nat) (f : Fld) : (s.wr a v).fld f = if a = f.addr then bitsAt (v % 2 ^ 32) f.hi f.lo else s.fld f := by
  unfold State.fld
  rw [State.rd_wr]
  split <;> rfl

end Sys2Proof.Machine
end

