-- ==== Sys2Proof/Laws/State.lean ====
section
/-! SUPPORT. What each update of `State` leaves alone, one lemma for each field, true by `rfl`; registers and memory bytes read as before
where the update does not touch them; the record written is the record read. -/

namespace Sys2Proof.Machine

open Sys2Proof


/-! ### wr -/

@[simp] theorem State.wr_pending (s : State) (a v : Nat) : (s.wr a v).pending = s.pending := rfl
@[simp] theorem State.wr_tick (s : State) (a v : Nat) : (s.wr a v).tick = s.tick := rfl
@[simp] theorem State.wr_fresh (s : State) (a v : Nat) : (s.wr a v).fresh = s.fresh := rfl
@[simp] theorem State.wr_readData (s : State) (a v : Nat) : (s.wr a v).readData = s.readData := rfl
@[simp] theorem State.wr_readPoison (s : State) (a v : Nat) : (s.wr a v).readPoison = s.readPoison := rfl
@[simp] theorem State.wr_raised (s : State) (a v : Nat) : (s.wr a v).raised = s.raised := rfl
@[simp] theorem State.wr_hbm (s : State) (a v : Nat) : (s.wr a v).hbm = s.hbm := rfl
@[simp] theorem State.wr_shadows (s : State) (a v : Nat) : (s.wr a v).shadows = s.shadows := rfl
@[simp] theorem State.wr_mem (s : State) (a v : Nat) : (s.wr a v).mem = s.mem := rfl
@[simp] theorem State.wr_hostMem (s : State) (a v : Nat) : (s.wr a v).hostMem = s.hostMem := rfl
@[simp] theorem State.wr_clk (s : State) (a v : Nat) : (s.wr a v).clk = s.clk := rfl
@[simp] theorem State.wr_msix (s : State) (a v : Nat) : (s.wr a v).msix = s.msix := rfl
@[simp] theorem State.wr_pcie (s : State) (a v : Nat) : (s.wr a v).pcie = s.pcie := rfl
@[simp] theorem State.wr_mboxes (s : State) (a v : Nat) : (s.wr a v).mboxes = s.mboxes := rfl
@[simp] theorem State.wr_arrivals (s : State) (a v : Nat) : (s.wr a v).arrivals = s.arrivals := rfl
@[simp] theorem State.wr_area (s : State) (a v : Nat) : (s.wr a v).area = s.area := rfl
@[simp] theorem State.wr_nrings (s : State) (a v : Nat) : (s.wr a v).nrings = s.nrings := rfl
@[simp] theorem State.wr_coalesce (s : State) (a v : Nat) : (s.wr a v).coalesce = s.coalesce := rfl
@[simp] theorem State.wr_parts (s : State) (a v : Nat) : (s.wr a v).parts = s.parts := rfl
@[simp] theorem State.wr_grants (s : State) (a v : Nat) : (s.wr a v).grants = s.grants := rfl
@[simp] theorem State.wr_ranger (s : State) (a v : Nat) : (s.wr a v).ranger = s.ranger := rfl
@[simp] theorem State.wr_fbk (s : State) (a v : Nat) : (s.wr a v).fbk = s.fbk := rfl
@[simp] theorem State.wr_hlt (s : State) (a v : Nat) : (s.wr a v).hlt = s.hlt := rfl
@[simp] theorem State.wr_cvu (s : State) (a v : Nat) : (s.wr a v).cvu = s.cvu := rfl
@[simp] theorem State.wr_blz (s : State) (a v : Nat) : (s.wr a v).blz = s.blz := rfl
@[simp] theorem State.wr_time (s : State) (a v : Nat) : (s.wr a v).time = s.time := rfl
@[simp] theorem State.wr_ldg (s : State) (a v : Nat) : (s.wr a v).ldg = s.ldg := rfl
@[simp] theorem State.wr_pair (s : State) (a v : Nat) : (s.wr a v).pair = s.pair := rfl
@[simp] theorem State.wr_lanes (s : State) (a v : Nat) : (s.wr a v).lanes = s.lanes := rfl
@[simp] theorem State.wr_caps (s : State) (a v : Nat) : (s.wr a v).caps = s.caps := rfl
@[simp] theorem State.wr_outs (s : State) (a v : Nat) : (s.wr a v).outs = s.outs := rfl
@[simp] theorem State.wr_stands (s : State) (a v : Nat) : (s.wr a v).stands = s.stands := rfl
@[simp] theorem State.wr_gate (s : State) (a v : Nat) : (s.wr a v).gate = s.gate := rfl
@[simp] theorem State.wr_commits (s : State) (a v : Nat) : (s.wr a v).commits = s.commits := rfl
@[simp] theorem State.wr_groups (s : State) (a v : Nat) : (s.wr a v).groups = s.groups := rfl
@[simp] theorem State.wr_pools (s : State) (a v : Nat) : (s.wr a v).pools = s.pools := rfl
@[simp] theorem State.wr_lko (s : State) (a v : Nat) : (s.wr a v).lko = s.lko := rfl
@[simp] theorem State.wr_regions (s : State) (a v : Nat) : (s.wr a v).regions = s.regions := rfl
@[simp] theorem State.wr_pol (s : State) (a v : Nat) : (s.wr a v).pol = s.pol := rfl
@[simp] theorem State.wr_dcqs (s : State) (a v : Nat) : (s.wr a v).dcqs = s.dcqs := rfl
@[simp] theorem State.wr_strip (s : State) (a v : Nat) : (s.wr a v).strip = s.strip := rfl
@[simp] theorem State.wr_sys (s : State) (a v : Nat) : (s.wr a v).sys = s.sys := rfl
@[simp] theorem State.wr_flash (s : State) (a v : Nat) : (s.wr a v).flash = s.flash := rfl
@[simp] theorem State.wr_queues (s : State) (a v : Nat) : (s.wr a v).queues = s.queues := rfl
@[simp] theorem State.wr_ports (s : State) (a v : Nat) : (s.wr a v).ports = s.ports := rfl
@[simp] theorem State.wr_decs (s : State) (a v : Nat) : (s.wr a v).decs = s.decs := rfl
@[simp] theorem State.wr_decPipes (s : State) (a v : Nat) : (s.wr a v).decPipes = s.decPipes := rfl
@[simp] theorem State.wr_encs (s : State) (a v : Nat) : (s.wr a v).encs = s.encs := rfl
@[simp] theorem State.wr_encPipes (s : State) (a v : Nat) : (s.wr a v).encPipes = s.encPipes := rfl
@[simp] theorem State.wr_fwPool (s : State) (a v : Nat) : (s.wr a v).fwPool = s.fwPool := rfl
@[simp] theorem State.wr_emitted (s : State) (a v : Nat) : (s.wr a v).emitted = s.emitted := rfl
@[simp] theorem State.wr_memByte (s : State) (a v : Nat) (k : Nat) : (s.wr a v).memByte k = s.memByte k := rfl

/-! ### setFld -/

@[simp] theorem State.setFld_pending (s : State) (f : Fld) (v : Nat) : (s.setFld f v).pending = s.pending := rfl
@[simp] theorem State.setFld_tick (s : State) (f : Fld) (v : Nat) : (s.setFld f v).tick = s.tick := rfl
@[simp] theorem State.setFld_fresh (s : State) (f : Fld) (v : Nat) : (s.setFld f v).fresh = s.fresh := rfl
@[simp] theorem State.setFld_readData (s : State) (f : Fld) (v : Nat) : (s.setFld f v).readData = s.readData := rfl
@[simp] theorem State.setFld_readPoison (s : State) (f : Fld) (v : Nat) : (s.setFld f v).readPoison = s.readPoison := rfl
@[simp] theorem State.setFld_raised (s : State) (f : Fld) (v : Nat) : (s.setFld f v).raised = s.raised := rfl
@[simp] theorem State.setFld_hbm (s : State) (f : Fld) (v : Nat) : (s.setFld f v).hbm = s.hbm := rfl
@[simp] theorem State.setFld_shadows (s : State) (f : Fld) (v : Nat) : (s.setFld f v).shadows = s.shadows := rfl
@[simp] theorem State.setFld_mem (s : State) (f : Fld) (v : Nat) : (s.setFld f v).mem = s.mem := rfl
@[simp] theorem State.setFld_hostMem (s : State) (f : Fld) (v : Nat) : (s.setFld f v).hostMem = s.hostMem := rfl
@[simp] theorem State.setFld_clk (s : State) (f : Fld) (v : Nat) : (s.setFld f v).clk = s.clk := rfl
@[simp] theorem State.setFld_msix (s : State) (f : Fld) (v : Nat) : (s.setFld f v).msix = s.msix := rfl
@[simp] theorem State.setFld_pcie (s : State) (f : Fld) (v : Nat) : (s.setFld f v).pcie = s.pcie := rfl
@[simp] theorem State.setFld_mboxes (s : State) (f : Fld) (v : Nat) : (s.setFld f v).mboxes = s.mboxes := rfl
@[simp] theorem State.setFld_arrivals (s : State) (f : Fld) (v : Nat) : (s.setFld f v).arrivals = s.arrivals := rfl
@[simp] theorem State.setFld_area (s : State) (f : Fld) (v : Nat) : (s.setFld f v).area = s.area := rfl
@[simp] theorem State.setFld_nrings (s : State) (f : Fld) (v : Nat) : (s.setFld f v).nrings = s.nrings := rfl
@[simp] theorem State.setFld_coalesce (s : State) (f : Fld) (v : Nat) : (s.setFld f v).coalesce = s.coalesce := rfl
@[simp] theorem State.setFld_parts (s : State) (f : Fld) (v : Nat) : (s.setFld f v).parts = s.parts := rfl
@[simp] theorem State.setFld_grants (s : State) (f : Fld) (v : Nat) : (s.setFld f v).grants = s.grants := rfl
@[simp] theorem State.setFld_ranger (s : State) (f : Fld) (v : Nat) : (s.setFld f v).ranger = s.ranger := rfl
@[simp] theorem State.setFld_fbk (s : State) (f : Fld) (v : Nat) : (s.setFld f v).fbk = s.fbk := rfl
@[simp] theorem State.setFld_hlt (s : State) (f : Fld) (v : Nat) : (s.setFld f v).hlt = s.hlt := rfl
@[simp] theorem State.setFld_cvu (s : State) (f : Fld) (v : Nat) : (s.setFld f v).cvu = s.cvu := rfl
@[simp] theorem State.setFld_blz (s : State) (f : Fld) (v : Nat) : (s.setFld f v).blz = s.blz := rfl
@[simp] theorem State.setFld_time (s : State) (f : Fld) (v : Nat) : (s.setFld f v).time = s.time := rfl
@[simp] theorem State.setFld_ldg (s : State) (f : Fld) (v : Nat) : (s.setFld f v).ldg = s.ldg := rfl
@[simp] theorem State.setFld_pair (s : State) (f : Fld) (v : Nat) : (s.setFld f v).pair = s.pair := rfl
@[simp] theorem State.setFld_lanes (s : State) (f : Fld) (v : Nat) : (s.setFld f v).lanes = s.lanes := rfl
@[simp] theorem State.setFld_caps (s : State) (f : Fld) (v : Nat) : (s.setFld f v).caps = s.caps := rfl
@[simp] theorem State.setFld_outs (s : State) (f : Fld) (v : Nat) : (s.setFld f v).outs = s.outs := rfl
@[simp] theorem State.setFld_stands (s : State) (f : Fld) (v : Nat) : (s.setFld f v).stands = s.stands := rfl
@[simp] theorem State.setFld_gate (s : State) (f : Fld) (v : Nat) : (s.setFld f v).gate = s.gate := rfl
@[simp] theorem State.setFld_commits (s : State) (f : Fld) (v : Nat) : (s.setFld f v).commits = s.commits := rfl
@[simp] theorem State.setFld_groups (s : State) (f : Fld) (v : Nat) : (s.setFld f v).groups = s.groups := rfl
@[simp] theorem State.setFld_pools (s : State) (f : Fld) (v : Nat) : (s.setFld f v).pools = s.pools := rfl
@[simp] theorem State.setFld_lko (s : State) (f : Fld) (v : Nat) : (s.setFld f v).lko = s.lko := rfl
@[simp] theorem State.setFld_regions (s : State) (f : Fld) (v : Nat) : (s.setFld f v).regions = s.regions := rfl
@[simp] theorem State.setFld_pol (s : State) (f : Fld) (v : Nat) : (s.setFld f v).pol = s.pol := rfl
@[simp] theorem State.setFld_dcqs (s : State) (f : Fld) (v : Nat) : (s.setFld f v).dcqs = s.dcqs := rfl
@[simp] theorem State.setFld_strip (s : State) (f : Fld) (v : Nat) : (s.setFld f v).strip = s.strip := rfl
@[simp] theorem State.setFld_sys (s : State) (f : Fld) (v : Nat) : (s.setFld f v).sys = s.sys := rfl
@[simp] theorem State.setFld_flash (s : State) (f : Fld) (v : Nat) : (s.setFld f v).flash = s.flash := rfl
@[simp] theorem State.setFld_queues (s : State) (f : Fld) (v : Nat) : (s.setFld f v).queues = s.queues := rfl
@[simp] theorem State.setFld_ports (s : State) (f : Fld) (v : Nat) : (s.setFld f v).ports = s.ports := rfl
@[simp] theorem State.setFld_decs (s : State) (f : Fld) (v : Nat) : (s.setFld f v).decs = s.decs := rfl
@[simp] theorem State.setFld_decPipes (s : State) (f : Fld) (v : Nat) : (s.setFld f v).decPipes = s.decPipes := rfl
@[simp] theorem State.setFld_encs (s : State) (f : Fld) (v : Nat) : (s.setFld f v).encs = s.encs := rfl
@[simp] theorem State.setFld_encPipes (s : State) (f : Fld) (v : Nat) : (s.setFld f v).encPipes = s.encPipes := rfl
@[simp] theorem State.setFld_fwPool (s : State) (f : Fld) (v : Nat) : (s.setFld f v).fwPool = s.fwPool := rfl
@[simp] theorem State.setFld_emitted (s : State) (f : Fld) (v : Nat) : (s.setFld f v).emitted = s.emitted := rfl
@[simp] theorem State.setFld_memByte (s : State) (f : Fld) (v : Nat) (k : Nat) : (s.setFld f v).memByte k = s.memByte k := rfl

/-! ### bump -/

@[simp] theorem State.bump_pending (s : State) (a n : Nat) : (s.bump a n).pending = s.pending := rfl
@[simp] theorem State.bump_tick (s : State) (a n : Nat) : (s.bump a n).tick = s.tick := rfl
@[simp] theorem State.bump_fresh (s : State) (a n : Nat) : (s.bump a n).fresh = s.fresh := rfl
@[simp] theorem State.bump_readData (s : State) (a n : Nat) : (s.bump a n).readData = s.readData := rfl
@[simp] theorem State.bump_readPoison (s : State) (a n : Nat) : (s.bump a n).readPoison = s.readPoison := rfl
@[simp] theorem State.bump_raised (s : State) (a n : Nat) : (s.bump a n).raised = s.raised := rfl
@[simp] theorem State.bump_hbm (s : State) (a n : Nat) : (s.bump a n).hbm = s.hbm := rfl
@[simp] theorem State.bump_shadows (s : State) (a n : Nat) : (s.bump a n).shadows = s.shadows := rfl
@[simp] theorem State.bump_mem (s : State) (a n : Nat) : (s.bump a n).mem = s.mem := rfl
@[simp] theorem State.bump_hostMem (s : State) (a n : Nat) : (s.bump a n).hostMem = s.hostMem := rfl
@[simp] theorem State.bump_clk (s : State) (a n : Nat) : (s.bump a n).clk = s.clk := rfl
@[simp] theorem State.bump_msix (s : State) (a n : Nat) : (s.bump a n).msix = s.msix := rfl
@[simp] theorem State.bump_pcie (s : State) (a n : Nat) : (s.bump a n).pcie = s.pcie := rfl
@[simp] theorem State.bump_mboxes (s : State) (a n : Nat) : (s.bump a n).mboxes = s.mboxes := rfl
@[simp] theorem State.bump_arrivals (s : State) (a n : Nat) : (s.bump a n).arrivals = s.arrivals := rfl
@[simp] theorem State.bump_area (s : State) (a n : Nat) : (s.bump a n).area = s.area := rfl
@[simp] theorem State.bump_nrings (s : State) (a n : Nat) : (s.bump a n).nrings = s.nrings := rfl
@[simp] theorem State.bump_coalesce (s : State) (a n : Nat) : (s.bump a n).coalesce = s.coalesce := rfl
@[simp] theorem State.bump_parts (s : State) (a n : Nat) : (s.bump a n).parts = s.parts := rfl
@[simp] theorem State.bump_grants (s : State) (a n : Nat) : (s.bump a n).grants = s.grants := rfl
@[simp] theorem State.bump_ranger (s : State) (a n : Nat) : (s.bump a n).ranger = s.ranger := rfl
@[simp] theorem State.bump_fbk (s : State) (a n : Nat) : (s.bump a n).fbk = s.fbk := rfl
@[simp] theorem State.bump_hlt (s : State) (a n : Nat) : (s.bump a n).hlt = s.hlt := rfl
@[simp] theorem State.bump_cvu (s : State) (a n : Nat) : (s.bump a n).cvu = s.cvu := rfl
@[simp] theorem State.bump_blz (s : State) (a n : Nat) : (s.bump a n).blz = s.blz := rfl
@[simp] theorem State.bump_time (s : State) (a n : Nat) : (s.bump a n).time = s.time := rfl
@[simp] theorem State.bump_ldg (s : State) (a n : Nat) : (s.bump a n).ldg = s.ldg := rfl
@[simp] theorem State.bump_pair (s : State) (a n : Nat) : (s.bump a n).pair = s.pair := rfl
@[simp] theorem State.bump_lanes (s : State) (a n : Nat) : (s.bump a n).lanes = s.lanes := rfl
@[simp] theorem State.bump_caps (s : State) (a n : Nat) : (s.bump a n).caps = s.caps := rfl
@[simp] theorem State.bump_outs (s : State) (a n : Nat) : (s.bump a n).outs = s.outs := rfl
@[simp] theorem State.bump_stands (s : State) (a n : Nat) : (s.bump a n).stands = s.stands := rfl
@[simp] theorem State.bump_gate (s : State) (a n : Nat) : (s.bump a n).gate = s.gate := rfl
@[simp] theorem State.bump_commits (s : State) (a n : Nat) : (s.bump a n).commits = s.commits := rfl
@[simp] theorem State.bump_groups (s : State) (a n : Nat) : (s.bump a n).groups = s.groups := rfl
@[simp] theorem State.bump_pools (s : State) (a n : Nat) : (s.bump a n).pools = s.pools := rfl
@[simp] theorem State.bump_lko (s : State) (a n : Nat) : (s.bump a n).lko = s.lko := rfl
@[simp] theorem State.bump_regions (s : State) (a n : Nat) : (s.bump a n).regions = s.regions := rfl
@[simp] theorem State.bump_pol (s : State) (a n : Nat) : (s.bump a n).pol = s.pol := rfl
@[simp] theorem State.bump_dcqs (s : State) (a n : Nat) : (s.bump a n).dcqs = s.dcqs := rfl
@[simp] theorem State.bump_strip (s : State) (a n : Nat) : (s.bump a n).strip = s.strip := rfl
@[simp] theorem State.bump_sys (s : State) (a n : Nat) : (s.bump a n).sys = s.sys := rfl
@[simp] theorem State.bump_flash (s : State) (a n : Nat) : (s.bump a n).flash = s.flash := rfl
@[simp] theorem State.bump_queues (s : State) (a n : Nat) : (s.bump a n).queues = s.queues := rfl
@[simp] theorem State.bump_ports (s : State) (a n : Nat) : (s.bump a n).ports = s.ports := rfl
@[simp] theorem State.bump_decs (s : State) (a n : Nat) : (s.bump a n).decs = s.decs := rfl
@[simp] theorem State.bump_decPipes (s : State) (a n : Nat) : (s.bump a n).decPipes = s.decPipes := rfl
@[simp] theorem State.bump_encs (s : State) (a n : Nat) : (s.bump a n).encs = s.encs := rfl
@[simp] theorem State.bump_encPipes (s : State) (a n : Nat) : (s.bump a n).encPipes = s.encPipes := rfl
@[simp] theorem State.bump_fwPool (s : State) (a n : Nat) : (s.bump a n).fwPool = s.fwPool := rfl
@[simp] theorem State.bump_emitted (s : State) (a n : Nat) : (s.bump a n).emitted = s.emitted := rfl
@[simp] theorem State.bump_memByte (s : State) (a n : Nat) (k : Nat) : (s.bump a n).memByte k = s.memByte k := rfl

/-! ### bumpWrap -/

@[simp] theorem State.bumpWrap_pending (s : State) (a n : Nat) : (s.bumpWrap a n).pending = s.pending := rfl
@[simp] theorem State.bumpWrap_tick (s : State) (a n : Nat) : (s.bumpWrap a n).tick = s.tick := rfl
@[simp] theorem State.bumpWrap_fresh (s : State) (a n : Nat) : (s.bumpWrap a n).fresh = s.fresh := rfl
@[simp] theorem State.bumpWrap_readData (s : State) (a n : Nat) : (s.bumpWrap a n).readData = s.readData := rfl
@[simp] theorem State.bumpWrap_readPoison (s : State) (a n : Nat) : (s.bumpWrap a n).readPoison = s.readPoison := rfl
@[simp] theorem State.bumpWrap_raised (s : State) (a n : Nat) : (s.bumpWrap a n).raised = s.raised := rfl
@[simp] theorem State.bumpWrap_hbm (s : State) (a n : Nat) : (s.bumpWrap a n).hbm = s.hbm := rfl
@[simp] theorem State.bumpWrap_shadows (s : State) (a n : Nat) : (s.bumpWrap a n).shadows = s.shadows := rfl
@[simp] theorem State.bumpWrap_mem (s : State) (a n : Nat) : (s.bumpWrap a n).mem = s.mem := rfl
@[simp] theorem State.bumpWrap_hostMem (s : State) (a n : Nat) : (s.bumpWrap a n).hostMem = s.hostMem := rfl
@[simp] theorem State.bumpWrap_clk (s : State) (a n : Nat) : (s.bumpWrap a n).clk = s.clk := rfl
@[simp] theorem State.bumpWrap_msix (s : State) (a n : Nat) : (s.bumpWrap a n).msix = s.msix := rfl
@[simp] theorem State.bumpWrap_pcie (s : State) (a n : Nat) : (s.bumpWrap a n).pcie = s.pcie := rfl
@[simp] theorem State.bumpWrap_mboxes (s : State) (a n : Nat) : (s.bumpWrap a n).mboxes = s.mboxes := rfl
@[simp] theorem State.bumpWrap_arrivals (s : State) (a n : Nat) : (s.bumpWrap a n).arrivals = s.arrivals := rfl
@[simp] theorem State.bumpWrap_area (s : State) (a n : Nat) : (s.bumpWrap a n).area = s.area := rfl
@[simp] theorem State.bumpWrap_nrings (s : State) (a n : Nat) : (s.bumpWrap a n).nrings = s.nrings := rfl
@[simp] theorem State.bumpWrap_coalesce (s : State) (a n : Nat) : (s.bumpWrap a n).coalesce = s.coalesce := rfl
@[simp] theorem State.bumpWrap_parts (s : State) (a n : Nat) : (s.bumpWrap a n).parts = s.parts := rfl
@[simp] theorem State.bumpWrap_grants (s : State) (a n : Nat) : (s.bumpWrap a n).grants = s.grants := rfl
@[simp] theorem State.bumpWrap_ranger (s : State) (a n : Nat) : (s.bumpWrap a n).ranger = s.ranger := rfl
@[simp] theorem State.bumpWrap_fbk (s : State) (a n : Nat) : (s.bumpWrap a n).fbk = s.fbk := rfl
@[simp] theorem State.bumpWrap_hlt (s : State) (a n : Nat) : (s.bumpWrap a n).hlt = s.hlt := rfl
@[simp] theorem State.bumpWrap_cvu (s : State) (a n : Nat) : (s.bumpWrap a n).cvu = s.cvu := rfl
@[simp] theorem State.bumpWrap_blz (s : State) (a n : Nat) : (s.bumpWrap a n).blz = s.blz := rfl
@[simp] theorem State.bumpWrap_time (s : State) (a n : Nat) : (s.bumpWrap a n).time = s.time := rfl
@[simp] theorem State.bumpWrap_ldg (s : State) (a n : Nat) : (s.bumpWrap a n).ldg = s.ldg := rfl
@[simp] theorem State.bumpWrap_pair (s : State) (a n : Nat) : (s.bumpWrap a n).pair = s.pair := rfl
@[simp] theorem State.bumpWrap_lanes (s : State) (a n : Nat) : (s.bumpWrap a n).lanes = s.lanes := rfl
@[simp] theorem State.bumpWrap_caps (s : State) (a n : Nat) : (s.bumpWrap a n).caps = s.caps := rfl
@[simp] theorem State.bumpWrap_outs (s : State) (a n : Nat) : (s.bumpWrap a n).outs = s.outs := rfl
@[simp] theorem State.bumpWrap_stands (s : State) (a n : Nat) : (s.bumpWrap a n).stands = s.stands := rfl
@[simp] theorem State.bumpWrap_gate (s : State) (a n : Nat) : (s.bumpWrap a n).gate = s.gate := rfl
@[simp] theorem State.bumpWrap_commits (s : State) (a n : Nat) : (s.bumpWrap a n).commits = s.commits := rfl
@[simp] theorem State.bumpWrap_groups (s : State) (a n : Nat) : (s.bumpWrap a n).groups = s.groups := rfl
@[simp] theorem State.bumpWrap_pools (s : State) (a n : Nat) : (s.bumpWrap a n).pools = s.pools := rfl
@[simp] theorem State.bumpWrap_lko (s : State) (a n : Nat) : (s.bumpWrap a n).lko = s.lko := rfl
@[simp] theorem State.bumpWrap_regions (s : State) (a n : Nat) : (s.bumpWrap a n).regions = s.regions := rfl
@[simp] theorem State.bumpWrap_pol (s : State) (a n : Nat) : (s.bumpWrap a n).pol = s.pol := rfl
@[simp] theorem State.bumpWrap_dcqs (s : State) (a n : Nat) : (s.bumpWrap a n).dcqs = s.dcqs := rfl
@[simp] theorem State.bumpWrap_strip (s : State) (a n : Nat) : (s.bumpWrap a n).strip = s.strip := rfl
@[simp] theorem State.bumpWrap_sys (s : State) (a n : Nat) : (s.bumpWrap a n).sys = s.sys := rfl
@[simp] theorem State.bumpWrap_flash (s : State) (a n : Nat) : (s.bumpWrap a n).flash = s.flash := rfl
@[simp] theorem State.bumpWrap_queues (s : State) (a n : Nat) : (s.bumpWrap a n).queues = s.queues := rfl
@[simp] theorem State.bumpWrap_ports (s : State) (a n : Nat) : (s.bumpWrap a n).ports = s.ports := rfl
@[simp] theorem State.bumpWrap_decs (s : State) (a n : Nat) : (s.bumpWrap a n).decs = s.decs := rfl
@[simp] theorem State.bumpWrap_decPipes (s : State) (a n : Nat) : (s.bumpWrap a n).decPipes = s.decPipes := rfl
@[simp] theorem State.bumpWrap_encs (s : State) (a n : Nat) : (s.bumpWrap a n).encs = s.encs := rfl
@[simp] theorem State.bumpWrap_encPipes (s : State) (a n : Nat) : (s.bumpWrap a n).encPipes = s.encPipes := rfl
@[simp] theorem State.bumpWrap_fwPool (s : State) (a n : Nat) : (s.bumpWrap a n).fwPool = s.fwPool := rfl
@[simp] theorem State.bumpWrap_emitted (s : State) (a n : Nat) : (s.bumpWrap a n).emitted = s.emitted := rfl
@[simp] theorem State.bumpWrap_memByte (s : State) (a n : Nat) (k : Nat) : (s.bumpWrap a n).memByte k = s.memByte k := rfl

/-! ### wr64 -/

@[simp] theorem State.wr64_pending (s : State) (lo hi v : Nat) : (s.wr64 lo hi v).pending = s.pending := rfl
@[simp] theorem State.wr64_tick (s : State) (lo hi v : Nat) : (s.wr64 lo hi v).tick = s.tick := rfl
@[simp] theorem State.wr64_fresh (s : State) (lo hi v : Nat) : (s.wr64 lo hi v).fresh = s.fresh := rfl
@[simp] theorem State.wr64_readData (s : State) (lo hi v : Nat) : (s.wr64 lo hi v).readData = s.readData := rfl
@[simp] theorem State.wr64_readPoison (s : State) (lo hi v : Nat) : (s.wr64 lo hi v).readPoison = s.readPoison := rfl
@[simp] theorem State.wr64_raised (s : State) (lo hi v : Nat) : (s.wr64 lo hi v).raised = s.raised := rfl
@[simp] theorem State.wr64_hbm (s : State) (lo hi v : Nat) : (s.wr64 lo hi v).hbm = s.hbm := rfl
@[simp] theorem State.wr64_shadows (s : State) (lo hi v : Nat) : (s.wr64 lo hi v).shadows = s.shadows := rfl
@[simp] theorem State.wr64_mem (s : State) (lo hi v : Nat) : (s.wr64 lo hi v).mem = s.mem := rfl
@[simp] theorem State.wr64_hostMem (s : State) (lo hi v : Nat) : (s.wr64 lo hi v).hostMem = s.hostMem := rfl
@[simp] theorem State.wr64_clk (s : State) (lo hi v : Nat) : (s.wr64 lo hi v).clk = s.clk := rfl
@[simp] theorem State.wr64_msix (s : State) (lo hi v : Nat) : (s.wr64 lo hi v).msix = s.msix := rfl
@[simp] theorem State.wr64_pcie (s : State) (lo hi v : Nat) : (s.wr64 lo hi v).pcie = s.pcie := rfl
@[simp] theorem State.wr64_mboxes (s : State) (lo hi v : Nat) : (s.wr64 lo hi v).mboxes = s.mboxes := rfl
@[simp] theorem State.wr64_arrivals (s : State) (lo hi v : Nat) : (s.wr64 lo hi v).arrivals = s.arrivals := rfl
@[simp] theorem State.wr64_area (s : State) (lo hi v : Nat) : (s.wr64 lo hi v).area = s.area := rfl
@[simp] theorem State.wr64_nrings (s : State) (lo hi v : Nat) : (s.wr64 lo hi v).nrings = s.nrings := rfl
@[simp] theorem State.wr64_coalesce (s : State) (lo hi v : Nat) : (s.wr64 lo hi v).coalesce = s.coalesce := rfl
@[simp] theorem State.wr64_parts (s : State) (lo hi v : Nat) : (s.wr64 lo hi v).parts = s.parts := rfl
@[simp] theorem State.wr64_grants (s : State) (lo hi v : Nat) : (s.wr64 lo hi v).grants = s.grants := rfl
@[simp] theorem State.wr64_ranger (s : State) (lo hi v : Nat) : (s.wr64 lo hi v).ranger = s.ranger := rfl
@[simp] theorem State.wr64_fbk (s : State) (lo hi v : Nat) : (s.wr64 lo hi v).fbk = s.fbk := rfl
@[simp] theorem State.wr64_hlt (s : State) (lo hi v : Nat) : (s.wr64 lo hi v).hlt = s.hlt := rfl
@[simp] theorem State.wr64_cvu (s : State) (lo hi v : Nat) : (s.wr64 lo hi v).cvu = s.cvu := rfl
@[simp] theorem State.wr64_blz (s : State) (lo hi v : Nat) : (s.wr64 lo hi v).blz = s.blz := rfl
@[simp] theorem State.wr64_time (s : State) (lo hi v : Nat) : (s.wr64 lo hi v).time = s.time := rfl
@[simp] theorem State.wr64_ldg (s : State) (lo hi v : Nat) : (s.wr64 lo hi v).ldg = s.ldg := rfl
@[simp] theorem State.wr64_pair (s : State) (lo hi v : Nat) : (s.wr64 lo hi v).pair = s.pair := rfl
@[simp] theorem State.wr64_lanes (s : State) (lo hi v : Nat) : (s.wr64 lo hi v).lanes = s.lanes := rfl
@[simp] theorem State.wr64_caps (s : State) (lo hi v : Nat) : (s.wr64 lo hi v).caps = s.caps := rfl
@[simp] theorem State.wr64_outs (s : State) (lo hi v : Nat) : (s.wr64 lo hi v).outs = s.outs := rfl
@[simp] theorem State.wr64_stands (s : State) (lo hi v : Nat) : (s.wr64 lo hi v).stands = s.stands := rfl
@[simp] theorem State.wr64_gate (s : State) (lo hi v : Nat) : (s.wr64 lo hi v).gate = s.gate := rfl
@[simp] theorem State.wr64_commits (s : State) (lo hi v : Nat) : (s.wr64 lo hi v).commits = s.commits := rfl
@[simp] theorem State.wr64_groups (s : State) (lo hi v : Nat) : (s.wr64 lo hi v).groups = s.groups := rfl
@[simp] theorem State.wr64_pools (s : State) (lo hi v : Nat) : (s.wr64 lo hi v).pools = s.pools := rfl
@[simp] theorem State.wr64_lko (s : State) (lo hi v : Nat) : (s.wr64 lo hi v).lko = s.lko := rfl
@[simp] theorem State.wr64_regions (s : State) (lo hi v : Nat) : (s.wr64 lo hi v).regions = s.regions := rfl
@[simp] theorem State.wr64_pol (s : State) (lo hi v : Nat) : (s.wr64 lo hi v).pol = s.pol := rfl
@[simp] theorem State.wr64_dcqs (s : State) (lo hi v : Nat) : (s.wr64 lo hi v).dcqs = s.dcqs := rfl
@[simp] theorem State.wr64_strip (s : State) (lo hi v : Nat) : (s.wr64 lo hi v).strip = s.strip := rfl
@[simp] theorem State.wr64_sys (s : State) (lo hi v : Nat) : (s.wr64 lo hi v).sys = s.sys := rfl
@[simp] theorem State.wr64_flash (s : State) (lo hi v : Nat) : (s.wr64 lo hi v).flash = s.flash := rfl
@[simp] theorem State.wr64_queues (s : State) (lo hi v : Nat) : (s.wr64 lo hi v).queues = s.queues := rfl
@[simp] theorem State.wr64_ports (s : State) (lo hi v : Nat) : (s.wr64 lo hi v).ports = s.ports := rfl
@[simp] theorem State.wr64_decs (s : State) (lo hi v : Nat) : (s.wr64 lo hi v).decs = s.decs := rfl
@[simp] theorem State.wr64_decPipes (s : State) (lo hi v : Nat) : (s.wr64 lo hi v).decPipes = s.decPipes := rfl
@[simp] theorem State.wr64_encs (s : State) (lo hi v : Nat) : (s.wr64 lo hi v).encs = s.encs := rfl
@[simp] theorem State.wr64_encPipes (s : State) (lo hi v : Nat) : (s.wr64 lo hi v).encPipes = s.encPipes := rfl
@[simp] theorem State.wr64_fwPool (s : State) (lo hi v : Nat) : (s.wr64 lo hi v).fwPool = s.fwPool := rfl
@[simp] theorem State.wr64_emitted (s : State) (lo hi v : Nat) : (s.wr64 lo hi v).emitted = s.emitted := rfl
@[simp] theorem State.wr64_memByte (s : State) (lo hi v : Nat) (k : Nat) : (s.wr64 lo hi v).memByte k = s.memByte k := rfl

/-! ### memWrite -/

@[simp] theorem State.memWrite_pending (s : State) (a : Nat) (b : List Byte) : (s.memWrite a b).pending = s.pending := rfl
@[simp] theorem State.memWrite_tick (s : State) (a : Nat) (b : List Byte) : (s.memWrite a b).tick = s.tick := rfl
@[simp] theorem State.memWrite_fresh (s : State) (a : Nat) (b : List Byte) : (s.memWrite a b).fresh = s.fresh := rfl
@[simp] theorem State.memWrite_readData (s : State) (a : Nat) (b : List Byte) : (s.memWrite a b).readData = s.readData := rfl
@[simp] theorem State.memWrite_readPoison (s : State) (a : Nat) (b : List Byte) : (s.memWrite a b).readPoison = s.readPoison := rfl
@[simp] theorem State.memWrite_raised (s : State) (a : Nat) (b : List Byte) : (s.memWrite a b).raised = s.raised := rfl
@[simp] theorem State.memWrite_shadows (s : State) (a : Nat) (b : List Byte) : (s.memWrite a b).shadows = s.shadows := rfl
@[simp] theorem State.memWrite_regs (s : State) (a : Nat) (b : List Byte) : (s.memWrite a b).regs = s.regs := rfl
@[simp] theorem State.memWrite_hostMem (s : State) (a : Nat) (b : List Byte) : (s.memWrite a b).hostMem = s.hostMem := rfl
@[simp] theorem State.memWrite_clk (s : State) (a : Nat) (b : List Byte) : (s.memWrite a b).clk = s.clk := rfl
@[simp] theorem State.memWrite_msix (s : State) (a : Nat) (b : List Byte) : (s.memWrite a b).msix = s.msix := rfl
@[simp] theorem State.memWrite_pcie (s : State) (a : Nat) (b : List Byte) : (s.memWrite a b).pcie = s.pcie := rfl
@[simp] theorem State.memWrite_mboxes (s : State) (a : Nat) (b : List Byte) : (s.memWrite a b).mboxes = s.mboxes := rfl
@[simp] theorem State.memWrite_arrivals (s : State) (a : Nat) (b : List Byte) : (s.memWrite a b).arrivals = s.arrivals := rfl
@[simp] theorem State.memWrite_area (s : State) (a : Nat) (b : List Byte) : (s.memWrite a b).area = s.area := rfl
@[simp] theorem State.memWrite_nrings (s : State) (a : Nat) (b : List Byte) : (s.memWrite a b).nrings = s.nrings := rfl
@[simp] theorem State.memWrite_coalesce (s : State) (a : Nat) (b : List Byte) : (s.memWrite a b).coalesce = s.coalesce := rfl
@[simp] theorem State.memWrite_parts (s : State) (a : Nat) (b : List Byte) : (s.memWrite a b).parts = s.parts := rfl
@[simp] theorem State.memWrite_grants (s : State) (a : Nat) (b : List Byte) : (s.memWrite a b).grants = s.grants := rfl
@[simp] theorem State.memWrite_ranger (s : State) (a : Nat) (b : List Byte) : (s.memWrite a b).ranger = s.ranger := rfl
@[simp] theorem State.memWrite_fbk (s : State) (a : Nat) (b : List Byte) : (s.memWrite a b).fbk = s.fbk := rfl
@[simp] theorem State.memWrite_hlt (s : State) (a : Nat) (b : List Byte) : (s.memWrite a b).hlt = s.hlt := rfl
@[simp] theorem State.memWrite_cvu (s : State) (a : Nat) (b : List Byte) : (s.memWrite a b).cvu = s.cvu := rfl
@[simp] theorem State.memWrite_blz (s : State) (a : Nat) (b : List Byte) : (s.memWrite a b).blz = s.blz := rfl
@[simp] theorem State.memWrite_time (s : State) (a : Nat) (b : List Byte) : (s.memWrite a b).time = s.time := rfl
@[simp] theorem State.memWrite_ldg (s : State) (a : Nat) (b : List Byte) : (s.memWrite a b).ldg = s.ldg := rfl
@[simp] theorem State.memWrite_pair (s : State) (a : Nat) (b : List Byte) : (s.memWrite a b).pair = s.pair := rfl
@[simp] theorem State.memWrite_lanes (s : State) (a : Nat) (b : List Byte) : (s.memWrite a b).lanes = s.lanes := rfl
@[simp] theorem State.memWrite_caps (s : State) (a : Nat) (b : List Byte) : (s.memWrite a b).caps = s.caps := rfl
@[simp] theorem State.memWrite_outs (s : State) (a : Nat) (b : List Byte) : (s.memWrite a b).outs = s.outs := rfl
@[simp] theorem State.memWrite_stands (s : State) (a : Nat) (b : List Byte) : (s.memWrite a b).stands = s.stands := rfl
@[simp] theorem State.memWrite_gate (s : State) (a : Nat) (b : List Byte) : (s.memWrite a b).gate = s.gate := rfl
@[simp] theorem State.memWrite_commits (s : State) (a : Nat) (b : List Byte) : (s.memWrite a b).commits = s.commits := rfl
@[simp] theorem State.memWrite_groups (s : State) (a : Nat) (b : List Byte) : (s.memWrite a b).groups = s.groups := rfl
@[simp] theorem State.memWrite_pools (s : State) (a : Nat) (b : List Byte) : (s.memWrite a b).pools = s.pools := rfl
@[simp] theorem State.memWrite_lko (s : State) (a : Nat) (b : List Byte) : (s.memWrite a b).lko = s.lko := rfl
@[simp] theorem State.memWrite_regions (s : State) (a : Nat) (b : List Byte) : (s.memWrite a b).regions = s.regions := rfl
@[simp] theorem State.memWrite_pol (s : State) (a : Nat) (b : List Byte) : (s.memWrite a b).pol = s.pol := rfl
@[simp] theorem State.memWrite_dcqs (s : State) (a : Nat) (b : List Byte) : (s.memWrite a b).dcqs = s.dcqs := rfl
@[simp] theorem State.memWrite_strip (s : State) (a : Nat) (b : List Byte) : (s.memWrite a b).strip = s.strip := rfl
@[simp] theorem State.memWrite_sys (s : State) (a : Nat) (b : List Byte) : (s.memWrite a b).sys = s.sys := rfl
@[simp] theorem State.memWrite_flash (s : State) (a : Nat) (b : List Byte) : (s.memWrite a b).flash = s.flash := rfl
@[simp] theorem State.memWrite_queues (s : State) (a : Nat) (b : List Byte) : (s.memWrite a b).queues = s.queues := rfl
@[simp] theorem State.memWrite_ports (s : State) (a : Nat) (b : List Byte) : (s.memWrite a b).ports = s.ports := rfl
@[simp] theorem State.memWrite_decs (s : State) (a : Nat) (b : List Byte) : (s.memWrite a b).decs = s.decs := rfl
@[simp] theorem State.memWrite_decPipes (s : State) (a : Nat) (b : List Byte) : (s.memWrite a b).decPipes = s.decPipes := rfl
@[simp] theorem State.memWrite_encs (s : State) (a : Nat) (b : List Byte) : (s.memWrite a b).encs = s.encs := rfl
@[simp] theorem State.memWrite_encPipes (s : State) (a : Nat) (b : List Byte) : (s.memWrite a b).encPipes = s.encPipes := rfl
@[simp] theorem State.memWrite_fwPool (s : State) (a : Nat) (b : List Byte) : (s.memWrite a b).fwPool = s.fwPool := rfl
@[simp] theorem State.memWrite_emitted (s : State) (a : Nat) (b : List Byte) : (s.memWrite a b).emitted = s.emitted := rfl
@[simp] theorem State.memWrite_rd (s : State) (a : Nat) (b : List Byte) (r : Nat) : (s.memWrite a b).rd r = s.rd r := rfl
@[simp] theorem State.memWrite_fld (s : State) (a : Nat) (b : List Byte) (g : Fld) : (s.memWrite a b).fld g = s.fld g := rfl
@[simp] theorem State.memWrite_isSet (s : State) (a : Nat) (b : List Byte) (g : Fld) : (s.memWrite a b).isSet g = s.isSet g := rfl

/-! ### hostWrite -/

@[simp] theorem State.hostWrite_pending (s : State) (a : Nat) (b : List Byte) : (s.hostWrite a b).pending = s.pending := rfl
@[simp] theorem State.hostWrite_tick (s : State) (a : Nat) (b : List Byte) : (s.hostWrite a b).tick = s.tick := rfl
@[simp] theorem State.hostWrite_fresh (s : State) (a : Nat) (b : List Byte) : (s.hostWrite a b).fresh = s.fresh := rfl
@[simp] theorem State.hostWrite_readData (s : State) (a : Nat) (b : List Byte) : (s.hostWrite a b).readData = s.readData := rfl
@[simp] theorem State.hostWrite_readPoison (s : State) (a : Nat) (b : List Byte) : (s.hostWrite a b).readPoison = s.readPoison := rfl
@[simp] theorem State.hostWrite_raised (s : State) (a : Nat) (b : List Byte) : (s.hostWrite a b).raised = s.raised := rfl
@[simp] theorem State.hostWrite_hbm (s : State) (a : Nat) (b : List Byte) : (s.hostWrite a b).hbm = s.hbm := rfl
@[simp] theorem State.hostWrite_shadows (s : State) (a : Nat) (b : List Byte) : (s.hostWrite a b).shadows = s.shadows := rfl
@[simp] theorem State.hostWrite_regs (s : State) (a : Nat) (b : List Byte) : (s.hostWrite a b).regs = s.regs := rfl
@[simp] theorem State.hostWrite_mem (s : State) (a : Nat) (b : List Byte) : (s.hostWrite a b).mem = s.mem := rfl
@[simp] theorem State.hostWrite_clk (s : State) (a : Nat) (b : List Byte) : (s.hostWrite a b).clk = s.clk := rfl
@[simp] theorem State.hostWrite_msix (s : State) (a : Nat) (b : List Byte) : (s.hostWrite a b).msix = s.msix := rfl
@[simp] theorem State.hostWrite_pcie (s : State) (a : Nat) (b : List Byte) : (s.hostWrite a b).pcie = s.pcie := rfl
@[simp] theorem State.hostWrite_mboxes (s : State) (a : Nat) (b : List Byte) : (s.hostWrite a b).mboxes = s.mboxes := rfl
@[simp] theorem State.hostWrite_arrivals (s : State) (a : Nat) (b : List Byte) : (s.hostWrite a b).arrivals = s.arrivals := rfl
@[simp] theorem State.hostWrite_area (s : State) (a : Nat) (b : List Byte) : (s.hostWrite a b).area = s.area := rfl
@[simp] theorem State.hostWrite_nrings (s : State) (a : Nat) (b : List Byte) : (s.hostWrite a b).nrings = s.nrings := rfl
@[simp] theorem State.hostWrite_coalesce (s : State) (a : Nat) (b : List Byte) : (s.hostWrite a b).coalesce = s.coalesce := rfl
@[simp] theorem State.hostWrite_parts (s : State) (a : Nat) (b : List Byte) : (s.hostWrite a b).parts = s.parts := rfl
@[simp] theorem State.hostWrite_grants (s : State) (a : Nat) (b : List Byte) : (s.hostWrite a b).grants = s.grants := rfl
@[simp] theorem State.hostWrite_ranger (s : State) (a : Nat) (b : List Byte) : (s.hostWrite a b).ranger = s.ranger := rfl
@[simp] theorem State.hostWrite_fbk (s : State) (a : Nat) (b : List Byte) : (s.hostWrite a b).fbk = s.fbk := rfl
@[simp] theorem State.hostWrite_hlt (s : State) (a : Nat) (b : List Byte) : (s.hostWrite a b).hlt = s.hlt := rfl
@[simp] theorem State.hostWrite_cvu (s : State) (a : Nat) (b : List Byte) : (s.hostWrite a b).cvu = s.cvu := rfl
@[simp] theorem State.hostWrite_blz (s : State) (a : Nat) (b : List Byte) : (s.hostWrite a b).blz = s.blz := rfl
@[simp] theorem State.hostWrite_time (s : State) (a : Nat) (b : List Byte) : (s.hostWrite a b).time = s.time := rfl
@[simp] theorem State.hostWrite_ldg (s : State) (a : Nat) (b : List Byte) : (s.hostWrite a b).ldg = s.ldg := rfl
@[simp] theorem State.hostWrite_pair (s : State) (a : Nat) (b : List Byte) : (s.hostWrite a b).pair = s.pair := rfl
@[simp] theorem State.hostWrite_lanes (s : State) (a : Nat) (b : List Byte) : (s.hostWrite a b).lanes = s.lanes := rfl
@[simp] theorem State.hostWrite_caps (s : State) (a : Nat) (b : List Byte) : (s.hostWrite a b).caps = s.caps := rfl
@[simp] theorem State.hostWrite_outs (s : State) (a : Nat) (b : List Byte) : (s.hostWrite a b).outs = s.outs := rfl
@[simp] theorem State.hostWrite_stands (s : State) (a : Nat) (b : List Byte) : (s.hostWrite a b).stands = s.stands := rfl
@[simp] theorem State.hostWrite_gate (s : State) (a : Nat) (b : List Byte) : (s.hostWrite a b).gate = s.gate := rfl
@[simp] theorem State.hostWrite_commits (s : State) (a : Nat) (b : List Byte) : (s.hostWrite a b).commits = s.commits := rfl
@[simp] theorem State.hostWrite_groups (s : State) (a : Nat) (b : List Byte) : (s.hostWrite a b).groups = s.groups := rfl
@[simp] theorem State.hostWrite_pools (s : State) (a : Nat) (b : List Byte) : (s.hostWrite a b).pools = s.pools := rfl
@[simp] theorem State.hostWrite_lko (s : State) (a : Nat) (b : List Byte) : (s.hostWrite a b).lko = s.lko := rfl
@[simp] theorem State.hostWrite_regions (s : State) (a : Nat) (b : List Byte) : (s.hostWrite a b).regions = s.regions := rfl
@[simp] theorem State.hostWrite_pol (s : State) (a : Nat) (b : List Byte) : (s.hostWrite a b).pol = s.pol := rfl
@[simp] theorem State.hostWrite_dcqs (s : State) (a : Nat) (b : List Byte) : (s.hostWrite a b).dcqs = s.dcqs := rfl
@[simp] theorem State.hostWrite_strip (s : State) (a : Nat) (b : List Byte) : (s.hostWrite a b).strip = s.strip := rfl
@[simp] theorem State.hostWrite_sys (s : State) (a : Nat) (b : List Byte) : (s.hostWrite a b).sys = s.sys := rfl
@[simp] theorem State.hostWrite_flash (s : State) (a : Nat) (b : List Byte) : (s.hostWrite a b).flash = s.flash := rfl
@[simp] theorem State.hostWrite_queues (s : State) (a : Nat) (b : List Byte) : (s.hostWrite a b).queues = s.queues := rfl
@[simp] theorem State.hostWrite_ports (s : State) (a : Nat) (b : List Byte) : (s.hostWrite a b).ports = s.ports := rfl
@[simp] theorem State.hostWrite_decs (s : State) (a : Nat) (b : List Byte) : (s.hostWrite a b).decs = s.decs := rfl
@[simp] theorem State.hostWrite_decPipes (s : State) (a : Nat) (b : List Byte) : (s.hostWrite a b).decPipes = s.decPipes := rfl
@[simp] theorem State.hostWrite_encs (s : State) (a : Nat) (b : List Byte) : (s.hostWrite a b).encs = s.encs := rfl
@[simp] theorem State.hostWrite_encPipes (s : State) (a : Nat) (b : List Byte) : (s.hostWrite a b).encPipes = s.encPipes := rfl
@[simp] theorem State.hostWrite_fwPool (s : State) (a : Nat) (b : List Byte) : (s.hostWrite a b).fwPool = s.fwPool := rfl
@[simp] theorem State.hostWrite_emitted (s : State) (a : Nat) (b : List Byte) : (s.hostWrite a b).emitted = s.emitted := rfl
@[simp] theorem State.hostWrite_rd (s : State) (a : Nat) (b : List Byte) (r : Nat) : (s.hostWrite a b).rd r = s.rd r := rfl
@[simp] theorem State.hostWrite_fld (s : State) (a : Nat) (b : List Byte) (g : Fld) : (s.hostWrite a b).fld g = s.fld g := rfl
@[simp] theorem State.hostWrite_isSet (s : State) (a : Nat) (b : List Byte) (g : Fld) : (s.hostWrite a b).isSet g = s.isSet g := rfl
@[simp] theorem State.hostWrite_memByte (s : State) (a : Nat) (b : List Byte) (k : Nat) : (s.hostWrite a b).memByte k = s.memByte k := rfl

/-! ### areaWrite -/

@[simp] theorem State.areaWrite_pending (s : State) (m : Nat) (b : List Byte) : (s.areaWrite m b).pending = s.pending := rfl
@[simp] theorem State.areaWrite_tick (s : State) (m : Nat) (b : List Byte) : (s.areaWrite m b).tick = s.tick := rfl
@[simp] theorem State.areaWrite_fresh (s : State) (m : Nat) (b : List Byte) : (s.areaWrite m b).fresh = s.fresh := rfl
@[simp] theorem State.areaWrite_readData (s : State) (m : Nat) (b : List Byte) : (s.areaWrite m b).readData = s.readData := rfl
@[simp] theorem State.areaWrite_readPoison (s : State) (m : Nat) (b : List Byte) : (s.areaWrite m b).readPoison = s.readPoison := rfl
@[simp] theorem State.areaWrite_raised (s : State) (m : Nat) (b : List Byte) : (s.areaWrite m b).raised = s.raised := rfl
@[simp] theorem State.areaWrite_hbm (s : State) (m : Nat) (b : List Byte) : (s.areaWrite m b).hbm = s.hbm := rfl
@[simp] theorem State.areaWrite_shadows (s : State) (m : Nat) (b : List Byte) : (s.areaWrite m b).shadows = s.shadows := rfl
@[simp] theorem State.areaWrite_regs (s : State) (m : Nat) (b : List Byte) : (s.areaWrite m b).regs = s.regs := rfl
@[simp] theorem State.areaWrite_mem (s : State) (m : Nat) (b : List Byte) : (s.areaWrite m b).mem = s.mem := rfl
@[simp] theorem State.areaWrite_hostMem (s : State) (m : Nat) (b : List Byte) : (s.areaWrite m b).hostMem = s.hostMem := rfl
@[simp] theorem State.areaWrite_clk (s : State) (m : Nat) (b : List Byte) : (s.areaWrite m b).clk = s.clk := rfl
@[simp] theorem State.areaWrite_msix (s : State) (m : Nat) (b : List Byte) : (s.areaWrite m b).msix = s.msix := rfl
@[simp] theorem State.areaWrite_pcie (s : State) (m : Nat) (b : List Byte) : (s.areaWrite m b).pcie = s.pcie := rfl
@[simp] theorem State.areaWrite_mboxes (s : State) (m : Nat) (b : List Byte) : (s.areaWrite m b).mboxes = s.mboxes := rfl
@[simp] theorem State.areaWrite_arrivals (s : State) (m : Nat) (b : List Byte) : (s.areaWrite m b).arrivals = s.arrivals := rfl
@[simp] theorem State.areaWrite_nrings (s : State) (m : Nat) (b : List Byte) : (s.areaWrite m b).nrings = s.nrings := rfl
@[simp] theorem State.areaWrite_coalesce (s : State) (m : Nat) (b : List Byte) : (s.areaWrite m b).coalesce = s.coalesce := rfl
@[simp] theorem State.areaWrite_parts (s : State) (m : Nat) (b : List Byte) : (s.areaWrite m b).parts = s.parts := rfl
@[simp] theorem State.areaWrite_grants (s : State) (m : Nat) (b : List Byte) : (s.areaWrite m b).grants = s.grants := rfl
@[simp] theorem State.areaWrite_ranger (s : State) (m : Nat) (b : List Byte) : (s.areaWrite m b).ranger = s.ranger := rfl
@[simp] theorem State.areaWrite_fbk (s : State) (m : Nat) (b : List Byte) : (s.areaWrite m b).fbk = s.fbk := rfl
@[simp] theorem State.areaWrite_hlt (s : State) (m : Nat) (b : List Byte) : (s.areaWrite m b).hlt = s.hlt := rfl
@[simp] theorem State.areaWrite_cvu (s : State) (m : Nat) (b : List Byte) : (s.areaWrite m b).cvu = s.cvu := rfl
@[simp] theorem State.areaWrite_blz (s : State) (m : Nat) (b : List Byte) : (s.areaWrite m b).blz = s.blz := rfl
@[simp] theorem State.areaWrite_time (s : State) (m : Nat) (b : List Byte) : (s.areaWrite m b).time = s.time := rfl
@[simp] theorem State.areaWrite_ldg (s : State) (m : Nat) (b : List Byte) : (s.areaWrite m b).ldg = s.ldg := rfl
@[simp] theorem State.areaWrite_pair (s : State) (m : Nat) (b : List Byte) : (s.areaWrite m b).pair = s.pair := rfl
@[simp] theorem State.areaWrite_lanes (s : State) (m : Nat) (b : List Byte) : (s.areaWrite m b).lanes = s.lanes := rfl
@[simp] theorem State.areaWrite_caps (s : State) (m : Nat) (b : List Byte) : (s.areaWrite m b).caps = s.caps := rfl
@[simp] theorem State.areaWrite_outs (s : State) (m : Nat) (b : List Byte) : (s.areaWrite m b).outs = s.outs := rfl
@[simp] theorem State.areaWrite_stands (s : State) (m : Nat) (b : List Byte) : (s.areaWrite m b).stands = s.stands := rfl
@[simp] theorem State.areaWrite_gate (s : State) (m : Nat) (b : List Byte) : (s.areaWrite m b).gate = s.gate := rfl
@[simp] theorem State.areaWrite_commits (s : State) (m : Nat) (b : List Byte) : (s.areaWrite m b).commits = s.commits := rfl
@[simp] theorem State.areaWrite_groups (s : State) (m : Nat) (b : List Byte) : (s.areaWrite m b).groups = s.groups := rfl
@[simp] theorem State.areaWrite_pools (s : State) (m : Nat) (b : List Byte) : (s.areaWrite m b).pools = s.pools := rfl
@[simp] theorem State.areaWrite_lko (s : State) (m : Nat) (b : List Byte) : (s.areaWrite m b).lko = s.lko := rfl
@[simp] theorem State.areaWrite_regions (s : State) (m : Nat) (b : List Byte) : (s.areaWrite m b).regions = s.regions := rfl
@[simp] theorem State.areaWrite_pol (s : State) (m : Nat) (b : List Byte) : (s.areaWrite m b).pol = s.pol := rfl
@[simp] theorem State.areaWrite_dcqs (s : State) (m : Nat) (b : List Byte) : (s.areaWrite m b).dcqs = s.dcqs := rfl
@[simp] theorem State.areaWrite_strip (s : State) (m : Nat) (b : List Byte) : (s.areaWrite m b).strip = s.strip := rfl
@[simp] theorem State.areaWrite_sys (s : State) (m : Nat) (b : List Byte) : (s.areaWrite m b).sys = s.sys := rfl
@[simp] theorem State.areaWrite_flash (s : State) (m : Nat) (b : List Byte) : (s.areaWrite m b).flash = s.flash := rfl
@[simp] theorem State.areaWrite_queues (s : State) (m : Nat) (b : List Byte) : (s.areaWrite m b).queues = s.queues := rfl
@[simp] theorem State.areaWrite_ports (s : State) (m : Nat) (b : List Byte) : (s.areaWrite m b).ports = s.ports := rfl
@[simp] theorem State.areaWrite_decs (s : State) (m : Nat) (b : List Byte) : (s.areaWrite m b).decs = s.decs := rfl
@[simp] theorem State.areaWrite_decPipes (s : State) (m : Nat) (b : List Byte) : (s.areaWrite m b).decPipes = s.decPipes := rfl
@[simp] theorem State.areaWrite_encs (s : State) (m : Nat) (b : List Byte) : (s.areaWrite m b).encs = s.encs := rfl
@[simp] theorem State.areaWrite_encPipes (s : State) (m : Nat) (b : List Byte) : (s.areaWrite m b).encPipes = s.encPipes := rfl
@[simp] theorem State.areaWrite_fwPool (s : State) (m : Nat) (b : List Byte) : (s.areaWrite m b).fwPool = s.fwPool := rfl
@[simp] theorem State.areaWrite_emitted (s : State) (m : Nat) (b : List Byte) : (s.areaWrite m b).emitted = s.emitted := rfl
@[simp] theorem State.areaWrite_rd (s : State) (m : Nat) (b : List Byte) (r : Nat) : (s.areaWrite m b).rd r = s.rd r := rfl
@[simp] theorem State.areaWrite_fld (s : State) (m : Nat) (b : List Byte) (g : Fld) : (s.areaWrite m b).fld g = s.fld g := rfl
@[simp] theorem State.areaWrite_isSet (s : State) (m : Nat) (b : List Byte) (g : Fld) : (s.areaWrite m b).isSet g = s.isSet g := rfl
@[simp] theorem State.areaWrite_memByte (s : State) (m : Nat) (b : List Byte) (k : Nat) : (s.areaWrite m b).memByte k = s.memByte k := rfl

/-! ### emit -/

@[simp] theorem State.emit_pending (s : State) (e : Emission) : (s.emit e).pending = s.pending := rfl
@[simp] theorem State.emit_tick (s : State) (e : Emission) : (s.emit e).tick = s.tick := rfl
@[simp] theorem State.emit_fresh (s : State) (e : Emission) : (s.emit e).fresh = s.fresh := rfl
@[simp] theorem State.emit_readData (s : State) (e : Emission) : (s.emit e).readData = s.readData := rfl
@[simp] theorem State.emit_readPoison (s : State) (e : Emission) : (s.emit e).readPoison = s.readPoison := rfl
@[simp] theorem State.emit_raised (s : State) (e : Emission) : (s.emit e).raised = s.raised := rfl
@[simp] theorem State.emit_hbm (s : State) (e : Emission) : (s.emit e).hbm = s.hbm := rfl
@[simp] theorem State.emit_shadows (s : State) (e : Emission) : (s.emit e).shadows = s.shadows := rfl
@[simp] theorem State.emit_regs (s : State) (e : Emission) : (s.emit e).regs = s.regs := rfl
@[simp] theorem State.emit_mem (s : State) (e : Emission) : (s.emit e).mem = s.mem := rfl
@[simp] theorem State.emit_hostMem (s : State) (e : Emission) : (s.emit e).hostMem = s.hostMem := rfl
@[simp] theorem State.emit_clk (s : State) (e : Emission) : (s.emit e).clk = s.clk := rfl
@[simp] theorem State.emit_msix (s : State) (e : Emission) : (s.emit e).msix = s.msix := rfl
@[simp] theorem State.emit_pcie (s : State) (e : Emission) : (s.emit e).pcie = s.pcie := rfl
@[simp] theorem State.emit_mboxes (s : State) (e : Emission) : (s.emit e).mboxes = s.mboxes := rfl
@[simp] theorem State.emit_arrivals (s : State) (e : Emission) : (s.emit e).arrivals = s.arrivals := rfl
@[simp] theorem State.emit_area (s : State) (e : Emission) : (s.emit e).area = s.area := rfl
@[simp] theorem State.emit_nrings (s : State) (e : Emission) : (s.emit e).nrings = s.nrings := rfl
@[simp] theorem State.emit_coalesce (s : State) (e : Emission) : (s.emit e).coalesce = s.coalesce := rfl
@[simp] theorem State.emit_parts (s : State) (e : Emission) : (s.emit e).parts = s.parts := rfl
@[simp] theorem State.emit_grants (s : State) (e : Emission) : (s.emit e).grants = s.grants := rfl
@[simp] theorem State.emit_ranger (s : State) (e : Emission) : (s.emit e).ranger = s.ranger := rfl
@[simp] theorem State.emit_fbk (s : State) (e : Emission) : (s.emit e).fbk = s.fbk := rfl
@[simp] theorem State.emit_hlt (s : State) (e : Emission) : (s.emit e).hlt = s.hlt := rfl
@[simp] theorem State.emit_cvu (s : State) (e : Emission) : (s.emit e).cvu = s.cvu := rfl
@[simp] theorem State.emit_blz (s : State) (e : Emission) : (s.emit e).blz = s.blz := rfl
@[simp] theorem State.emit_time (s : State) (e : Emission) : (s.emit e).time = s.time := rfl
@[simp] theorem State.emit_ldg (s : State) (e : Emission) : (s.emit e).ldg = s.ldg := rfl
@[simp] theorem State.emit_pair (s : State) (e : Emission) : (s.emit e).pair = s.pair := rfl
@[simp] theorem State.emit_lanes (s : State) (e : Emission) : (s.emit e).lanes = s.lanes := rfl
@[simp] theorem State.emit_caps (s : State) (e : Emission) : (s.emit e).caps = s.caps := rfl
@[simp] theorem State.emit_outs (s : State) (e : Emission) : (s.emit e).outs = s.outs := rfl
@[simp] theorem State.emit_stands (s : State) (e : Emission) : (s.emit e).stands = s.stands := rfl
@[simp] theorem State.emit_gate (s : State) (e : Emission) : (s.emit e).gate = s.gate := rfl
@[simp] theorem State.emit_commits (s : State) (e : Emission) : (s.emit e).commits = s.commits := rfl
@[simp] theorem State.emit_groups (s : State) (e : Emission) : (s.emit e).groups = s.groups := rfl
@[simp] theorem State.emit_pools (s : State) (e : Emission) : (s.emit e).pools = s.pools := rfl
@[simp] theorem State.emit_lko (s : State) (e : Emission) : (s.emit e).lko = s.lko := rfl
@[simp] theorem State.emit_regions (s : State) (e : Emission) : (s.emit e).regions = s.regions := rfl
@[simp] theorem State.emit_pol (s : State) (e : Emission) : (s.emit e).pol = s.pol := rfl
@[simp] theorem State.emit_dcqs (s : State) (e : Emission) : (s.emit e).dcqs = s.dcqs := rfl
@[simp] theorem State.emit_strip (s : State) (e : Emission) : (s.emit e).strip = s.strip := rfl
@[simp] theorem State.emit_sys (s : State) (e : Emission) : (s.emit e).sys = s.sys := rfl
@[simp] theorem State.emit_flash (s : State) (e : Emission) : (s.emit e).flash = s.flash := rfl
@[simp] theorem State.emit_queues (s : State) (e : Emission) : (s.emit e).queues = s.queues := rfl
@[simp] theorem State.emit_ports (s : State) (e : Emission) : (s.emit e).ports = s.ports := rfl
@[simp] theorem State.emit_decs (s : State) (e : Emission) : (s.emit e).decs = s.decs := rfl
@[simp] theorem State.emit_decPipes (s : State) (e : Emission) : (s.emit e).decPipes = s.decPipes := rfl
@[simp] theorem State.emit_encs (s : State) (e : Emission) : (s.emit e).encs = s.encs := rfl
@[simp] theorem State.emit_encPipes (s : State) (e : Emission) : (s.emit e).encPipes = s.encPipes := rfl
@[simp] theorem State.emit_fwPool (s : State) (e : Emission) : (s.emit e).fwPool = s.fwPool := rfl
@[simp] theorem State.emit_rd (s : State) (e : Emission) (r : Nat) : (s.emit e).rd r = s.rd r := rfl
@[simp] theorem State.emit_fld (s : State) (e : Emission) (g : Fld) : (s.emit e).fld g = s.fld g := rfl
@[simp] theorem State.emit_isSet (s : State) (e : Emission) (g : Fld) : (s.emit e).isSet g = s.isSet g := rfl
@[simp] theorem State.emit_memByte (s : State) (e : Emission) (k : Nat) : (s.emit e).memByte k = s.memByte k := rfl

/-! ### msixRequest -/

@[simp] theorem State.msixRequest_pending (s : State) (v : Nat) : (s.msixRequest v).pending = s.pending := rfl
@[simp] theorem State.msixRequest_tick (s : State) (v : Nat) : (s.msixRequest v).tick = s.tick := rfl
@[simp] theorem State.msixRequest_fresh (s : State) (v : Nat) : (s.msixRequest v).fresh = s.fresh := rfl
@[simp] theorem State.msixRequest_readData (s : State) (v : Nat) : (s.msixRequest v).readData = s.readData := rfl
@[simp] theorem State.msixRequest_readPoison (s : State) (v : Nat) : (s.msixRequest v).readPoison = s.readPoison := rfl
@[simp] theorem State.msixRequest_raised (s : State) (v : Nat) : (s.msixRequest v).raised = s.raised := rfl
@[simp] theorem State.msixRequest_hbm (s : State) (v : Nat) : (s.msixRequest v).hbm = s.hbm := rfl
@[simp] theorem State.msixRequest_shadows (s : State) (v : Nat) : (s.msixRequest v).shadows = s.shadows := rfl
@[simp] theorem State.msixRequest_regs (s : State) (v : Nat) : (s.msixRequest v).regs = s.regs := rfl
@[simp] theorem State.msixRequest_mem (s : State) (v : Nat) : (s.msixRequest v).mem = s.mem := rfl
@[simp] theorem State.msixRequest_hostMem (s : State) (v : Nat) : (s.msixRequest v).hostMem = s.hostMem := rfl
@[simp] theorem State.msixRequest_clk (s : State) (v : Nat) : (s.msixRequest v).clk = s.clk := rfl
@[simp] theorem State.msixRequest_mboxes (s : State) (v : Nat) : (s.msixRequest v).mboxes = s.mboxes := rfl
@[simp] theorem State.msixRequest_arrivals (s : State) (v : Nat) : (s.msixRequest v).arrivals = s.arrivals := rfl
@[simp] theorem State.msixRequest_area (s : State) (v : Nat) : (s.msixRequest v).area = s.area := rfl
@[simp] theorem State.msixRequest_nrings (s : State) (v : Nat) : (s.msixRequest v).nrings = s.nrings := rfl
@[simp] theorem State.msixRequest_coalesce (s : State) (v : Nat) : (s.msixRequest v).coalesce = s.coalesce := rfl
@[simp] theorem State.msixRequest_parts (s : State) (v : Nat) : (s.msixRequest v).parts = s.parts := rfl
@[simp] theorem State.msixRequest_grants (s : State) (v : Nat) : (s.msixRequest v).grants = s.grants := rfl
@[simp] theorem State.msixRequest_ranger (s : State) (v : Nat) : (s.msixRequest v).ranger = s.ranger := rfl
@[simp] theorem State.msixRequest_fbk (s : State) (v : Nat) : (s.msixRequest v).fbk = s.fbk := rfl
@[simp] theorem State.msixRequest_hlt (s : State) (v : Nat) : (s.msixRequest v).hlt = s.hlt := rfl
@[simp] theorem State.msixRequest_cvu (s : State) (v : Nat) : (s.msixRequest v).cvu = s.cvu := rfl
@[simp] theorem State.msixRequest_blz (s : State) (v : Nat) : (s.msixRequest v).blz = s.blz := rfl
@[simp] theorem State.msixRequest_time (s : State) (v : Nat) : (s.msixRequest v).time = s.time := rfl
@[simp] theorem State.msixRequest_ldg (s : State) (v : Nat) : (s.msixRequest v).ldg = s.ldg := rfl
@[simp] theorem State.msixRequest_pair (s : State) (v : Nat) : (s.msixRequest v).pair = s.pair := rfl
@[simp] theorem State.msixRequest_lanes (s : State) (v : Nat) : (s.msixRequest v).lanes = s.lanes := rfl
@[simp] theorem State.msixRequest_caps (s : State) (v : Nat) : (s.msixRequest v).caps = s.caps := rfl
@[simp] theorem State.msixRequest_outs (s : State) (v : Nat) : (s.msixRequest v).outs = s.outs := rfl
@[simp] theorem State.msixRequest_stands (s : State) (v : Nat) : (s.msixRequest v).stands = s.stands := rfl
@[simp] theorem State.msixRequest_gate (s : State) (v : Nat) : (s.msixRequest v).gate = s.gate := rfl
@[simp] theorem State.msixRequest_commits (s : State) (v : Nat) : (s.msixRequest v).commits = s.commits := rfl
@[simp] theorem State.msixRequest_groups (s : State) (v : Nat) : (s.msixRequest v).groups = s.groups := rfl
@[simp] theorem State.msixRequest_pools (s : State) (v : Nat) : (s.msixRequest v).pools = s.pools := rfl
@[simp] theorem State.msixRequest_lko (s : State) (v : Nat) : (s.msixRequest v).lko = s.lko := rfl
@[simp] theorem State.msixRequest_regions (s : State) (v : Nat) : (s.msixRequest v).regions = s.regions := rfl
@[simp] theorem State.msixRequest_pol (s : State) (v : Nat) : (s.msixRequest v).pol = s.pol := rfl
@[simp] theorem State.msixRequest_dcqs (s : State) (v : Nat) : (s.msixRequest v).dcqs = s.dcqs := rfl
@[simp] theorem State.msixRequest_strip (s : State) (v : Nat) : (s.msixRequest v).strip = s.strip := rfl
@[simp] theorem State.msixRequest_sys (s : State) (v : Nat) : (s.msixRequest v).sys = s.sys := rfl
@[simp] theorem State.msixRequest_flash (s : State) (v : Nat) : (s.msixRequest v).flash = s.flash := rfl
@[simp] theorem State.msixRequest_queues (s : State) (v : Nat) : (s.msixRequest v).queues = s.queues := rfl
@[simp] theorem State.msixRequest_ports (s : State) (v : Nat) : (s.msixRequest v).ports = s.ports := rfl
@[simp] theorem State.msixRequest_decs (s : State) (v : Nat) : (s.msixRequest v).decs = s.decs := rfl
@[simp] theorem State.msixRequest_decPipes (s : State) (v : Nat) : (s.msixRequest v).decPipes = s.decPipes := rfl
@[simp] theorem State.msixRequest_encs (s : State) (v : Nat) : (s.msixRequest v).encs = s.encs := rfl
@[simp] theorem State.msixRequest_encPipes (s : State) (v : Nat) : (s.msixRequest v).encPipes = s.encPipes := rfl
@[simp] theorem State.msixRequest_fwPool (s : State) (v : Nat) : (s.msixRequest v).fwPool = s.fwPool := rfl
@[simp] theorem State.msixRequest_emitted (s : State) (v : Nat) : (s.msixRequest v).emitted = s.emitted := rfl
@[simp] theorem State.msixRequest_rd (s : State) (v : Nat) (r : Nat) : (s.msixRequest v).rd r = s.rd r := rfl
@[simp] theorem State.msixRequest_fld (s : State) (v : Nat) (g : Fld) : (s.msixRequest v).fld g = s.fld g := rfl
@[simp] theorem State.msixRequest_isSet (s : State) (v : Nat) (g : Fld) : (s.msixRequest v).isSet g = s.isSet g := rfl
@[simp] theorem State.msixRequest_memByte (s : State) (v : Nat) (k : Nat) : (s.msixRequest v).memByte k = s.memByte k := rfl

/-! ### setLane -/

@[simp] theorem State.setLane_pending (s : State) (i : Nat) (x : LaneSt) : (s.setLane i x).pending = s.pending := rfl
@[simp] theorem State.setLane_tick (s : State) (i : Nat) (x : LaneSt) : (s.setLane i x).tick = s.tick := rfl
@[simp] theorem State.setLane_fresh (s : State) (i : Nat) (x : LaneSt) : (s.setLane i x).fresh = s.fresh := rfl
@[simp] theorem State.setLane_readData (s : State) (i : Nat) (x : LaneSt) : (s.setLane i x).readData = s.readData := rfl
@[simp] theorem State.setLane_readPoison (s : State) (i : Nat) (x : LaneSt) : (s.setLane i x).readPoison = s.readPoison := rfl
@[simp] theorem State.setLane_raised (s : State) (i : Nat) (x : LaneSt) : (s.setLane i x).raised = s.raised := rfl
@[simp] theorem State.setLane_hbm (s : State) (i : Nat) (x : LaneSt) : (s.setLane i x).hbm = s.hbm := rfl
@[simp] theorem State.setLane_shadows (s : State) (i : Nat) (x : LaneSt) : (s.setLane i x).shadows = s.shadows := rfl
@[simp] theorem State.setLane_regs (s : State) (i : Nat) (x : LaneSt) : (s.setLane i x).regs = s.regs := rfl
@[simp] theorem State.setLane_mem (s : State) (i : Nat) (x : LaneSt) : (s.setLane i x).mem = s.mem := rfl
@[simp] theorem State.setLane_hostMem (s : State) (i : Nat) (x : LaneSt) : (s.setLane i x).hostMem = s.hostMem := rfl
@[simp] theorem State.setLane_clk (s : State) (i : Nat) (x : LaneSt) : (s.setLane i x).clk = s.clk := rfl
@[simp] theorem State.setLane_msix (s : State) (i : Nat) (x : LaneSt) : (s.setLane i x).msix = s.msix := rfl
@[simp] theorem State.setLane_pcie (s : State) (i : Nat) (x : LaneSt) : (s.setLane i x).pcie = s.pcie := rfl
@[simp] theorem State.setLane_mboxes (s : State) (i : Nat) (x : LaneSt) : (s.setLane i x).mboxes = s.mboxes := rfl
@[simp] theorem State.setLane_arrivals (s : State) (i : Nat) (x : LaneSt) : (s.setLane i x).arrivals = s.arrivals := rfl
@[simp] theorem State.setLane_area (s : State) (i : Nat) (x : LaneSt) : (s.setLane i x).area = s.area := rfl
@[simp] theorem State.setLane_nrings (s : State) (i : Nat) (x : LaneSt) : (s.setLane i x).nrings = s.nrings := rfl
@[simp] theorem State.setLane_coalesce (s : State) (i : Nat) (x : LaneSt) : (s.setLane i x).coalesce = s.coalesce := rfl
@[simp] theorem State.setLane_parts (s : State) (i : Nat) (x : LaneSt) : (s.setLane i x).parts = s.parts := rfl
@[simp] theorem State.setLane_grants (s : State) (i : Nat) (x : LaneSt) : (s.setLane i x).grants = s.grants := rfl
@[simp] theorem State.setLane_ranger (s : State) (i : Nat) (x : LaneSt) : (s.setLane i x).ranger = s.ranger := rfl
@[simp] theorem State.setLane_fbk (s : State) (i : Nat) (x : LaneSt) : (s.setLane i x).fbk = s.fbk := rfl
@[simp] theorem State.setLane_hlt (s : State) (i : Nat) (x : LaneSt) : (s.setLane i x).hlt = s.hlt := rfl
@[simp] theorem State.setLane_cvu (s : State) (i : Nat) (x : LaneSt) : (s.setLane i x).cvu = s.cvu := rfl
@[simp] theorem State.setLane_blz (s : State) (i : Nat) (x : LaneSt) : (s.setLane i x).blz = s.blz := rfl
@[simp] theorem State.setLane_time (s : State) (i : Nat) (x : LaneSt) : (s.setLane i x).time = s.time := rfl
@[simp] theorem State.setLane_ldg (s : State) (i : Nat) (x : LaneSt) : (s.setLane i x).ldg = s.ldg := rfl
@[simp] theorem State.setLane_pair (s : State) (i : Nat) (x : LaneSt) : (s.setLane i x).pair = s.pair := rfl
@[simp] theorem State.setLane_caps (s : State) (i : Nat) (x : LaneSt) : (s.setLane i x).caps = s.caps := rfl
@[simp] theorem State.setLane_outs (s : State) (i : Nat) (x : LaneSt) : (s.setLane i x).outs = s.outs := rfl
@[simp] theorem State.setLane_stands (s : State) (i : Nat) (x : LaneSt) : (s.setLane i x).stands = s.stands := rfl
@[simp] theorem State.setLane_gate (s : State) (i : Nat) (x : LaneSt) : (s.setLane i x).gate = s.gate := rfl
@[simp] theorem State.setLane_commits (s : State) (i : Nat) (x : LaneSt) : (s.setLane i x).commits = s.commits := rfl
@[simp] theorem State.setLane_groups (s : State) (i : Nat) (x : LaneSt) : (s.setLane i x).groups = s.groups := rfl
@[simp] theorem State.setLane_pools (s : State) (i : Nat) (x : LaneSt) : (s.setLane i x).pools = s.pools := rfl
@[simp] theorem State.setLane_lko (s : State) (i : Nat) (x : LaneSt) : (s.setLane i x).lko = s.lko := rfl
@[simp] theorem State.setLane_regions (s : State) (i : Nat) (x : LaneSt) : (s.setLane i x).regions = s.regions := rfl
@[simp] theorem State.setLane_pol (s : State) (i : Nat) (x : LaneSt) : (s.setLane i x).pol = s.pol := rfl
@[simp] theorem State.setLane_dcqs (s : State) (i : Nat) (x : LaneSt) : (s.setLane i x).dcqs = s.dcqs := rfl
@[simp] theorem State.setLane_strip (s : State) (i : Nat) (x : LaneSt) : (s.setLane i x).strip = s.strip := rfl
@[simp] theorem State.setLane_sys (s : State) (i : Nat) (x : LaneSt) : (s.setLane i x).sys = s.sys := rfl
@[simp] theorem State.setLane_flash (s : State) (i : Nat) (x : LaneSt) : (s.setLane i x).flash = s.flash := rfl
@[simp] theorem State.setLane_queues (s : State) (i : Nat) (x : LaneSt) : (s.setLane i x).queues = s.queues := rfl
@[simp] theorem State.setLane_ports (s : State) (i : Nat) (x : LaneSt) : (s.setLane i x).ports = s.ports := rfl
@[simp] theorem State.setLane_decs (s : State) (i : Nat) (x : LaneSt) : (s.setLane i x).decs = s.decs := rfl
@[simp] theorem State.setLane_decPipes (s : State) (i : Nat) (x : LaneSt) : (s.setLane i x).decPipes = s.decPipes := rfl
@[simp] theorem State.setLane_encs (s : State) (i : Nat) (x : LaneSt) : (s.setLane i x).encs = s.encs := rfl
@[simp] theorem State.setLane_encPipes (s : State) (i : Nat) (x : LaneSt) : (s.setLane i x).encPipes = s.encPipes := rfl
@[simp] theorem State.setLane_fwPool (s : State) (i : Nat) (x : LaneSt) : (s.setLane i x).fwPool = s.fwPool := rfl
@[simp] theorem State.setLane_emitted (s : State) (i : Nat) (x : LaneSt) : (s.setLane i x).emitted = s.emitted := rfl
@[simp] theorem State.setLane_rd (s : State) (i : Nat) (x : LaneSt) (r : Nat) : (s.setLane i x).rd r = s.rd r := rfl
@[simp] theorem State.setLane_fld (s : State) (i : Nat) (x : LaneSt) (g : Fld) : (s.setLane i x).fld g = s.fld g := rfl
@[simp] theorem State.setLane_isSet (s : State) (i : Nat) (x : LaneSt) (g : Fld) : (s.setLane i x).isSet g = s.isSet g := rfl
@[simp] theorem State.setLane_memByte (s : State) (i : Nat) (x : LaneSt) (k : Nat) : (s.setLane i x).memByte k = s.memByte k := rfl
@[simp] theorem State.setLane_lane_same (s : State) (i : Nat) (x : LaneSt) : (s.setLane i x).lane i = x := sparseGet_put_same _ _ _ _
theorem State.setLane_lane_other (s : State) (i : Nat) (x : LaneSt) {j : Nat} (h : i ≠ j) : (s.setLane i x).lane j = s.lane j := sparseGet_put_other _ _ _ h

/-! ### setCap -/

@[simp] theorem State.setCap_pending (s : State) (i : Nat) (x : CapSt) : (s.setCap i x).pending = s.pending := rfl
@[simp] theorem State.setCap_tick (s : State) (i : Nat) (x : CapSt) : (s.setCap i x).tick = s.tick := rfl
@[simp] theorem State.setCap_fresh (s : State) (i : Nat) (x : CapSt) : (s.setCap i x).fresh = s.fresh := rfl
@[simp] theorem State.setCap_readData (s : State) (i : Nat) (x : CapSt) : (s.setCap i x).readData = s.readData := rfl
@[simp] theorem State.setCap_readPoison (s : State) (i : Nat) (x : CapSt) : (s.setCap i x).readPoison = s.readPoison := rfl
@[simp] theorem State.setCap_raised (s : State) (i : Nat) (x : CapSt) : (s.setCap i x).raised = s.raised := rfl
@[simp] theorem State.setCap_hbm (s : State) (i : Nat) (x : CapSt) : (s.setCap i x).hbm = s.hbm := rfl
@[simp] theorem State.setCap_shadows (s : State) (i : Nat) (x : CapSt) : (s.setCap i x).shadows = s.shadows := rfl
@[simp] theorem State.setCap_regs (s : State) (i : Nat) (x : CapSt) : (s.setCap i x).regs = s.regs := rfl
@[simp] theorem State.setCap_mem (s : State) (i : Nat) (x : CapSt) : (s.setCap i x).mem = s.mem := rfl
@[simp] theorem State.setCap_hostMem (s : State) (i : Nat) (x : CapSt) : (s.setCap i x).hostMem = s.hostMem := rfl
@[simp] theorem State.setCap_clk (s : State) (i : Nat) (x : CapSt) : (s.setCap i x).clk = s.clk := rfl
@[simp] theorem State.setCap_msix (s : State) (i : Nat) (x : CapSt) : (s.setCap i x).msix = s.msix := rfl
@[simp] theorem State.setCap_pcie (s : State) (i : Nat) (x : CapSt) : (s.setCap i x).pcie = s.pcie := rfl
@[simp] theorem State.setCap_mboxes (s : State) (i : Nat) (x : CapSt) : (s.setCap i x).mboxes = s.mboxes := rfl
@[simp] theorem State.setCap_arrivals (s : State) (i : Nat) (x : CapSt) : (s.setCap i x).arrivals = s.arrivals := rfl
@[simp] theorem State.setCap_area (s : State) (i : Nat) (x : CapSt) : (s.setCap i x).area = s.area := rfl
@[simp] theorem State.setCap_nrings (s : State) (i : Nat) (x : CapSt) : (s.setCap i x).nrings = s.nrings := rfl
@[simp] theorem State.setCap_coalesce (s : State) (i : Nat) (x : CapSt) : (s.setCap i x).coalesce = s.coalesce := rfl
@[simp] theorem State.setCap_parts (s : State) (i : Nat) (x : CapSt) : (s.setCap i x).parts = s.parts := rfl
@[simp] theorem State.setCap_grants (s : State) (i : Nat) (x : CapSt) : (s.setCap i x).grants = s.grants := rfl
@[simp] theorem State.setCap_ranger (s : State) (i : Nat) (x : CapSt) : (s.setCap i x).ranger = s.ranger := rfl
@[simp] theorem State.setCap_fbk (s : State) (i : Nat) (x : CapSt) : (s.setCap i x).fbk = s.fbk := rfl
@[simp] theorem State.setCap_hlt (s : State) (i : Nat) (x : CapSt) : (s.setCap i x).hlt = s.hlt := rfl
@[simp] theorem State.setCap_cvu (s : State) (i : Nat) (x : CapSt) : (s.setCap i x).cvu = s.cvu := rfl
@[simp] theorem State.setCap_blz (s : State) (i : Nat) (x : CapSt) : (s.setCap i x).blz = s.blz := rfl
@[simp] theorem State.setCap_time (s : State) (i : Nat) (x : CapSt) : (s.setCap i x).time = s.time := rfl
@[simp] theorem State.setCap_ldg (s : State) (i : Nat) (x : CapSt) : (s.setCap i x).ldg = s.ldg := rfl
@[simp] theorem State.setCap_pair (s : State) (i : Nat) (x : CapSt) : (s.setCap i x).pair = s.pair := rfl
@[simp] theorem State.setCap_lanes (s : State) (i : Nat) (x : CapSt) : (s.setCap i x).lanes = s.lanes := rfl
@[simp] theorem State.setCap_outs (s : State) (i : Nat) (x : CapSt) : (s.setCap i x).outs = s.outs := rfl
@[simp] theorem State.setCap_stands (s : State) (i : Nat) (x : CapSt) : (s.setCap i x).stands = s.stands := rfl
@[simp] theorem State.setCap_gate (s : State) (i : Nat) (x : CapSt) : (s.setCap i x).gate = s.gate := rfl
@[simp] theorem State.setCap_commits (s : State) (i : Nat) (x : CapSt) : (s.setCap i x).commits = s.commits := rfl
@[simp] theorem State.setCap_groups (s : State) (i : Nat) (x : CapSt) : (s.setCap i x).groups = s.groups := rfl
@[simp] theorem State.setCap_pools (s : State) (i : Nat) (x : CapSt) : (s.setCap i x).pools = s.pools := rfl
@[simp] theorem State.setCap_lko (s : State) (i : Nat) (x : CapSt) : (s.setCap i x).lko = s.lko := rfl
@[simp] theorem State.setCap_regions (s : State) (i : Nat) (x : CapSt) : (s.setCap i x).regions = s.regions := rfl
@[simp] theorem State.setCap_pol (s : State) (i : Nat) (x : CapSt) : (s.setCap i x).pol = s.pol := rfl
@[simp] theorem State.setCap_dcqs (s : State) (i : Nat) (x : CapSt) : (s.setCap i x).dcqs = s.dcqs := rfl
@[simp] theorem State.setCap_strip (s : State) (i : Nat) (x : CapSt) : (s.setCap i x).strip = s.strip := rfl
@[simp] theorem State.setCap_sys (s : State) (i : Nat) (x : CapSt) : (s.setCap i x).sys = s.sys := rfl
@[simp] theorem State.setCap_flash (s : State) (i : Nat) (x : CapSt) : (s.setCap i x).flash = s.flash := rfl
@[simp] theorem State.setCap_queues (s : State) (i : Nat) (x : CapSt) : (s.setCap i x).queues = s.queues := rfl
@[simp] theorem State.setCap_ports (s : State) (i : Nat) (x : CapSt) : (s.setCap i x).ports = s.ports := rfl
@[simp] theorem State.setCap_decs (s : State) (i : Nat) (x : CapSt) : (s.setCap i x).decs = s.decs := rfl
@[simp] theorem State.setCap_decPipes (s : State) (i : Nat) (x : CapSt) : (s.setCap i x).decPipes = s.decPipes := rfl
@[simp] theorem State.setCap_encs (s : State) (i : Nat) (x : CapSt) : (s.setCap i x).encs = s.encs := rfl
@[simp] theorem State.setCap_encPipes (s : State) (i : Nat) (x : CapSt) : (s.setCap i x).encPipes = s.encPipes := rfl
@[simp] theorem State.setCap_fwPool (s : State) (i : Nat) (x : CapSt) : (s.setCap i x).fwPool = s.fwPool := rfl
@[simp] theorem State.setCap_emitted (s : State) (i : Nat) (x : CapSt) : (s.setCap i x).emitted = s.emitted := rfl
@[simp] theorem State.setCap_rd (s : State) (i : Nat) (x : CapSt) (r : Nat) : (s.setCap i x).rd r = s.rd r := rfl
@[simp] theorem State.setCap_fld (s : State) (i : Nat) (x : CapSt) (g : Fld) : (s.setCap i x).fld g = s.fld g := rfl
@[simp] theorem State.setCap_isSet (s : State) (i : Nat) (x : CapSt) (g : Fld) : (s.setCap i x).isSet g = s.isSet g := rfl
@[simp] theorem State.setCap_memByte (s : State) (i : Nat) (x : CapSt) (k : Nat) : (s.setCap i x).memByte k = s.memByte k := rfl
@[simp] theorem State.setCap_cap_same (s : State) (i : Nat) (x : CapSt) : (s.setCap i x).cap i = x := sparseGet_put_same _ _ _ _
theorem State.setCap_cap_other (s : State) (i : Nat) (x : CapSt) {j : Nat} (h : i ≠ j) : (s.setCap i x).cap j = s.cap j := sparseGet_put_other _ _ _ h

/-! ### setOut -/

@[simp] theorem State.setOut_pending (s : State) (i : Nat) (x : OutSt) : (s.setOut i x).pending = s.pending := rfl
@[simp] theorem State.setOut_tick (s : State) (i : Nat) (x : OutSt) : (s.setOut i x).tick = s.tick := rfl
@[simp] theorem State.setOut_fresh (s : State) (i : Nat) (x : OutSt) : (s.setOut i x).fresh = s.fresh := rfl
@[simp] theorem State.setOut_readData (s : State) (i : Nat) (x : OutSt) : (s.setOut i x).readData = s.readData := rfl
@[simp] theorem State.setOut_readPoison (s : State) (i : Nat) (x : OutSt) : (s.setOut i x).readPoison = s.readPoison := rfl
@[simp] theorem State.setOut_raised (s : State) (i : Nat) (x : OutSt) : (s.setOut i x).raised = s.raised := rfl
@[simp] theorem State.setOut_hbm (s : State) (i : Nat) (x : OutSt) : (s.setOut i x).hbm = s.hbm := rfl
@[simp] theorem State.setOut_shadows (s : State) (i : Nat) (x : OutSt) : (s.setOut i x).shadows = s.shadows := rfl
@[simp] theorem State.setOut_regs (s : State) (i : Nat) (x : OutSt) : (s.setOut i x).regs = s.regs := rfl
@[simp] theorem State.setOut_mem (s : State) (i : Nat) (x : OutSt) : (s.setOut i x).mem = s.mem := rfl
@[simp] theorem State.setOut_hostMem (s : State) (i : Nat) (x : OutSt) : (s.setOut i x).hostMem = s.hostMem := rfl
@[simp] theorem State.setOut_clk (s : State) (i : Nat) (x : OutSt) : (s.setOut i x).clk = s.clk := rfl
@[simp] theorem State.setOut_msix (s : State) (i : Nat) (x : OutSt) : (s.setOut i x).msix = s.msix := rfl
@[simp] theorem State.setOut_pcie (s : State) (i : Nat) (x : OutSt) : (s.setOut i x).pcie = s.pcie := rfl
@[simp] theorem State.setOut_mboxes (s : State) (i : Nat) (x : OutSt) : (s.setOut i x).mboxes = s.mboxes := rfl
@[simp] theorem State.setOut_arrivals (s : State) (i : Nat) (x : OutSt) : (s.setOut i x).arrivals = s.arrivals := rfl
@[simp] theorem State.setOut_area (s : State) (i : Nat) (x : OutSt) : (s.setOut i x).area = s.area := rfl
@[simp] theorem State.setOut_nrings (s : State) (i : Nat) (x : OutSt) : (s.setOut i x).nrings = s.nrings := rfl
@[simp] theorem State.setOut_coalesce (s : State) (i : Nat) (x : OutSt) : (s.setOut i x).coalesce = s.coalesce := rfl
@[simp] theorem State.setOut_parts (s : State) (i : Nat) (x : OutSt) : (s.setOut i x).parts = s.parts := rfl
@[simp] theorem State.setOut_grants (s : State) (i : Nat) (x : OutSt) : (s.setOut i x).grants = s.grants := rfl
@[simp] theorem State.setOut_ranger (s : State) (i : Nat) (x : OutSt) : (s.setOut i x).ranger = s.ranger := rfl
@[simp] theorem State.setOut_fbk (s : State) (i : Nat) (x : OutSt) : (s.setOut i x).fbk = s.fbk := rfl
@[simp] theorem State.setOut_hlt (s : State) (i : Nat) (x : OutSt) : (s.setOut i x).hlt = s.hlt := rfl
@[simp] theorem State.setOut_cvu (s : State) (i : Nat) (x : OutSt) : (s.setOut i x).cvu = s.cvu := rfl
@[simp] theorem State.setOut_blz (s : State) (i : Nat) (x : OutSt) : (s.setOut i x).blz = s.blz := rfl
@[simp] theorem State.setOut_time (s : State) (i : Nat) (x : OutSt) : (s.setOut i x).time = s.time := rfl
@[simp] theorem State.setOut_ldg (s : State) (i : Nat) (x : OutSt) : (s.setOut i x).ldg = s.ldg := rfl
@[simp] theorem State.setOut_pair (s : State) (i : Nat) (x : OutSt) : (s.setOut i x).pair = s.pair := rfl
@[simp] theorem State.setOut_lanes (s : State) (i : Nat) (x : OutSt) : (s.setOut i x).lanes = s.lanes := rfl
@[simp] theorem State.setOut_caps (s : State) (i : Nat) (x : OutSt) : (s.setOut i x).caps = s.caps := rfl
@[simp] theorem State.setOut_stands (s : State) (i : Nat) (x : OutSt) : (s.setOut i x).stands = s.stands := rfl
@[simp] theorem State.setOut_gate (s : State) (i : Nat) (x : OutSt) : (s.setOut i x).gate = s.gate := rfl
@[simp] theorem State.setOut_commits (s : State) (i : Nat) (x : OutSt) : (s.setOut i x).commits = s.commits := rfl
@[simp] theorem State.setOut_groups (s : State) (i : Nat) (x : OutSt) : (s.setOut i x).groups = s.groups := rfl
@[simp] theorem State.setOut_pools (s : State) (i : Nat) (x : OutSt) : (s.setOut i x).pools = s.pools := rfl
@[simp] theorem State.setOut_lko (s : State) (i : Nat) (x : OutSt) : (s.setOut i x).lko = s.lko := rfl
@[simp] theorem State.setOut_regions (s : State) (i : Nat) (x : OutSt) : (s.setOut i x).regions = s.regions := rfl
@[simp] theorem State.setOut_pol (s : State) (i : Nat) (x : OutSt) : (s.setOut i x).pol = s.pol := rfl
@[simp] theorem State.setOut_dcqs (s : State) (i : Nat) (x : OutSt) : (s.setOut i x).dcqs = s.dcqs := rfl
@[simp] theorem State.setOut_strip (s : State) (i : Nat) (x : OutSt) : (s.setOut i x).strip = s.strip := rfl
@[simp] theorem State.setOut_sys (s : State) (i : Nat) (x : OutSt) : (s.setOut i x).sys = s.sys := rfl
@[simp] theorem State.setOut_flash (s : State) (i : Nat) (x : OutSt) : (s.setOut i x).flash = s.flash := rfl
@[simp] theorem State.setOut_queues (s : State) (i : Nat) (x : OutSt) : (s.setOut i x).queues = s.queues := rfl
@[simp] theorem State.setOut_ports (s : State) (i : Nat) (x : OutSt) : (s.setOut i x).ports = s.ports := rfl
@[simp] theorem State.setOut_decs (s : State) (i : Nat) (x : OutSt) : (s.setOut i x).decs = s.decs := rfl
@[simp] theorem State.setOut_decPipes (s : State) (i : Nat) (x : OutSt) : (s.setOut i x).decPipes = s.decPipes := rfl
@[simp] theorem State.setOut_encs (s : State) (i : Nat) (x : OutSt) : (s.setOut i x).encs = s.encs := rfl
@[simp] theorem State.setOut_encPipes (s : State) (i : Nat) (x : OutSt) : (s.setOut i x).encPipes = s.encPipes := rfl
@[simp] theorem State.setOut_fwPool (s : State) (i : Nat) (x : OutSt) : (s.setOut i x).fwPool = s.fwPool := rfl
@[simp] theorem State.setOut_emitted (s : State) (i : Nat) (x : OutSt) : (s.setOut i x).emitted = s.emitted := rfl
@[simp] theorem State.setOut_rd (s : State) (i : Nat) (x : OutSt) (r : Nat) : (s.setOut i x).rd r = s.rd r := rfl
@[simp] theorem State.setOut_fld (s : State) (i : Nat) (x : OutSt) (g : Fld) : (s.setOut i x).fld g = s.fld g := rfl
@[simp] theorem State.setOut_isSet (s : State) (i : Nat) (x : OutSt) (g : Fld) : (s.setOut i x).isSet g = s.isSet g := rfl
@[simp] theorem State.setOut_memByte (s : State) (i : Nat) (x : OutSt) (k : Nat) : (s.setOut i x).memByte k = s.memByte k := rfl
@[simp] theorem State.setOut_out_same (s : State) (i : Nat) (x : OutSt) : (s.setOut i x).out i = x := sparseGet_put_same _ _ _ _
theorem State.setOut_out_other (s : State) (i : Nat) (x : OutSt) {j : Nat} (h : i ≠ j) : (s.setOut i x).out j = s.out j := sparseGet_put_other _ _ _ h

/-! ### setGate -/

@[simp] theorem State.setGate_pending (s : State) (i : Nat) (x : GateOut) : (s.setGate i x).pending = s.pending := rfl
@[simp] theorem State.setGate_tick (s : State) (i : Nat) (x : GateOut) : (s.setGate i x).tick = s.tick := rfl
@[simp] theorem State.setGate_fresh (s : State) (i : Nat) (x : GateOut) : (s.setGate i x).fresh = s.fresh := rfl
@[simp] theorem State.setGate_readData (s : State) (i : Nat) (x : GateOut) : (s.setGate i x).readData = s.readData := rfl
@[simp] theorem State.setGate_readPoison (s : State) (i : Nat) (x : GateOut) : (s.setGate i x).readPoison = s.readPoison := rfl
@[simp] theorem State.setGate_raised (s : State) (i : Nat) (x : GateOut) : (s.setGate i x).raised = s.raised := rfl
@[simp] theorem State.setGate_hbm (s : State) (i : Nat) (x : GateOut) : (s.setGate i x).hbm = s.hbm := rfl
@[simp] theorem State.setGate_shadows (s : State) (i : Nat) (x : GateOut) : (s.setGate i x).shadows = s.shadows := rfl
@[simp] theorem State.setGate_regs (s : State) (i : Nat) (x : GateOut) : (s.setGate i x).regs = s.regs := rfl
@[simp] theorem State.setGate_mem (s : State) (i : Nat) (x : GateOut) : (s.setGate i x).mem = s.mem := rfl
@[simp] theorem State.setGate_hostMem (s : State) (i : Nat) (x : GateOut) : (s.setGate i x).hostMem = s.hostMem := rfl
@[simp] theorem State.setGate_clk (s : State) (i : Nat) (x : GateOut) : (s.setGate i x).clk = s.clk := rfl
@[simp] theorem State.setGate_msix (s : State) (i : Nat) (x : GateOut) : (s.setGate i x).msix = s.msix := rfl
@[simp] theorem State.setGate_pcie (s : State) (i : Nat) (x : GateOut) : (s.setGate i x).pcie = s.pcie := rfl
@[simp] theorem State.setGate_mboxes (s : State) (i : Nat) (x : GateOut) : (s.setGate i x).mboxes = s.mboxes := rfl
@[simp] theorem State.setGate_arrivals (s : State) (i : Nat) (x : GateOut) : (s.setGate i x).arrivals = s.arrivals := rfl
@[simp] theorem State.setGate_area (s : State) (i : Nat) (x : GateOut) : (s.setGate i x).area = s.area := rfl
@[simp] theorem State.setGate_nrings (s : State) (i : Nat) (x : GateOut) : (s.setGate i x).nrings = s.nrings := rfl
@[simp] theorem State.setGate_coalesce (s : State) (i : Nat) (x : GateOut) : (s.setGate i x).coalesce = s.coalesce := rfl
@[simp] theorem State.setGate_parts (s : State) (i : Nat) (x : GateOut) : (s.setGate i x).parts = s.parts := rfl
@[simp] theorem State.setGate_grants (s : State) (i : Nat) (x : GateOut) : (s.setGate i x).grants = s.grants := rfl
@[simp] theorem State.setGate_ranger (s : State) (i : Nat) (x : GateOut) : (s.setGate i x).ranger = s.ranger := rfl
@[simp] theorem State.setGate_fbk (s : State) (i : Nat) (x : GateOut) : (s.setGate i x).fbk = s.fbk := rfl
@[simp] theorem State.setGate_hlt (s : State) (i : Nat) (x : GateOut) : (s.setGate i x).hlt = s.hlt := rfl
@[simp] theorem State.setGate_cvu (s : State) (i : Nat) (x : GateOut) : (s.setGate i x).cvu = s.cvu := rfl
@[simp] theorem State.setGate_blz (s : State) (i : Nat) (x : GateOut) : (s.setGate i x).blz = s.blz := rfl
@[simp] theorem State.setGate_time (s : State) (i : Nat) (x : GateOut) : (s.setGate i x).time = s.time := rfl
@[simp] theorem State.setGate_ldg (s : State) (i : Nat) (x : GateOut) : (s.setGate i x).ldg = s.ldg := rfl
@[simp] theorem State.setGate_pair (s : State) (i : Nat) (x : GateOut) : (s.setGate i x).pair = s.pair := rfl
@[simp] theorem State.setGate_lanes (s : State) (i : Nat) (x : GateOut) : (s.setGate i x).lanes = s.lanes := rfl
@[simp] theorem State.setGate_caps (s : State) (i : Nat) (x : GateOut) : (s.setGate i x).caps = s.caps := rfl
@[simp] theorem State.setGate_outs (s : State) (i : Nat) (x : GateOut) : (s.setGate i x).outs = s.outs := rfl
@[simp] theorem State.setGate_stands (s : State) (i : Nat) (x : GateOut) : (s.setGate i x).stands = s.stands := rfl
@[simp] theorem State.setGate_commits (s : State) (i : Nat) (x : GateOut) : (s.setGate i x).commits = s.commits := rfl
@[simp] theorem State.setGate_groups (s : State) (i : Nat) (x : GateOut) : (s.setGate i x).groups = s.groups := rfl
@[simp] theorem State.setGate_pools (s : State) (i : Nat) (x : GateOut) : (s.setGate i x).pools = s.pools := rfl
@[simp] theorem State.setGate_lko (s : State) (i : Nat) (x : GateOut) : (s.setGate i x).lko = s.lko := rfl
@[simp] theorem State.setGate_regions (s : State) (i : Nat) (x : GateOut) : (s.setGate i x).regions = s.regions := rfl
@[simp] theorem State.setGate_pol (s : State) (i : Nat) (x : GateOut) : (s.setGate i x).pol = s.pol := rfl
@[simp] theorem State.setGate_dcqs (s : State) (i : Nat) (x : GateOut) : (s.setGate i x).dcqs = s.dcqs := rfl
@[simp] theorem State.setGate_strip (s : State) (i : Nat) (x : GateOut) : (s.setGate i x).strip = s.strip := rfl
@[simp] theorem State.setGate_sys (s : State) (i : Nat) (x : GateOut) : (s.setGate i x).sys = s.sys := rfl
@[simp] theorem State.setGate_flash (s : State) (i : Nat) (x : GateOut) : (s.setGate i x).flash = s.flash := rfl
@[simp] theorem State.setGate_queues (s : State) (i : Nat) (x : GateOut) : (s.setGate i x).queues = s.queues := rfl
@[simp] theorem State.setGate_ports (s : State) (i : Nat) (x : GateOut) : (s.setGate i x).ports = s.ports := rfl
@[simp] theorem State.setGate_decs (s : State) (i : Nat) (x : GateOut) : (s.setGate i x).decs = s.decs := rfl
@[simp] theorem State.setGate_decPipes (s : State) (i : Nat) (x : GateOut) : (s.setGate i x).decPipes = s.decPipes := rfl
@[simp] theorem State.setGate_encs (s : State) (i : Nat) (x : GateOut) : (s.setGate i x).encs = s.encs := rfl
@[simp] theorem State.setGate_encPipes (s : State) (i : Nat) (x : GateOut) : (s.setGate i x).encPipes = s.encPipes := rfl
@[simp] theorem State.setGate_fwPool (s : State) (i : Nat) (x : GateOut) : (s.setGate i x).fwPool = s.fwPool := rfl
@[simp] theorem State.setGate_emitted (s : State) (i : Nat) (x : GateOut) : (s.setGate i x).emitted = s.emitted := rfl
@[simp] theorem State.setGate_rd (s : State) (i : Nat) (x : GateOut) (r : Nat) : (s.setGate i x).rd r = s.rd r := rfl
@[simp] theorem State.setGate_fld (s : State) (i : Nat) (x : GateOut) (g : Fld) : (s.setGate i x).fld g = s.fld g := rfl
@[simp] theorem State.setGate_isSet (s : State) (i : Nat) (x : GateOut) (g : Fld) : (s.setGate i x).isSet g = s.isSet g := rfl
@[simp] theorem State.setGate_memByte (s : State) (i : Nat) (x : GateOut) (k : Nat) : (s.setGate i x).memByte k = s.memByte k := rfl
@[simp] theorem State.setGate_gateOut_same (s : State) (i : Nat) (x : GateOut) : (s.setGate i x).gateOut i = x := sparseGet_put_same _ _ _ _
theorem State.setGate_gateOut_other (s : State) (i : Nat) (x : GateOut) {j : Nat} (h : i ≠ j) : (s.setGate i x).gateOut j = s.gateOut j := sparseGet_put_other _ _ _ h

/-! ### setCmt -/

@[simp] theorem State.setCmt_pending (s : State) (i : Nat) (x : CommitSt) : (s.setCmt i x).pending = s.pending := rfl
@[simp] theorem State.setCmt_tick (s : State) (i : Nat) (x : CommitSt) : (s.setCmt i x).tick = s.tick := rfl
@[simp] theorem State.setCmt_fresh (s : State) (i : Nat) (x : CommitSt) : (s.setCmt i x).fresh = s.fresh := rfl
@[simp] theorem State.setCmt_readData (s : State) (i : Nat) (x : CommitSt) : (s.setCmt i x).readData = s.readData := rfl
@[simp] theorem State.setCmt_readPoison (s : State) (i : Nat) (x : CommitSt) : (s.setCmt i x).readPoison = s.readPoison := rfl
@[simp] theorem State.setCmt_raised (s : State) (i : Nat) (x : CommitSt) : (s.setCmt i x).raised = s.raised := rfl
@[simp] theorem State.setCmt_hbm (s : State) (i : Nat) (x : CommitSt) : (s.setCmt i x).hbm = s.hbm := rfl
@[simp] theorem State.setCmt_shadows (s : State) (i : Nat) (x : CommitSt) : (s.setCmt i x).shadows = s.shadows := rfl
@[simp] theorem State.setCmt_regs (s : State) (i : Nat) (x : CommitSt) : (s.setCmt i x).regs = s.regs := rfl
@[simp] theorem State.setCmt_mem (s : State) (i : Nat) (x : CommitSt) : (s.setCmt i x).mem = s.mem := rfl
@[simp] theorem State.setCmt_hostMem (s : State) (i : Nat) (x : CommitSt) : (s.setCmt i x).hostMem = s.hostMem := rfl
@[simp] theorem State.setCmt_clk (s : State) (i : Nat) (x : CommitSt) : (s.setCmt i x).clk = s.clk := rfl
@[simp] theorem State.setCmt_msix (s : State) (i : Nat) (x : CommitSt) : (s.setCmt i x).msix = s.msix := rfl
@[simp] theorem State.setCmt_pcie (s : State) (i : Nat) (x : CommitSt) : (s.setCmt i x).pcie = s.pcie := rfl
@[simp] theorem State.setCmt_mboxes (s : State) (i : Nat) (x : CommitSt) : (s.setCmt i x).mboxes = s.mboxes := rfl
@[simp] theorem State.setCmt_arrivals (s : State) (i : Nat) (x : CommitSt) : (s.setCmt i x).arrivals = s.arrivals := rfl
@[simp] theorem State.setCmt_area (s : State) (i : Nat) (x : CommitSt) : (s.setCmt i x).area = s.area := rfl
@[simp] theorem State.setCmt_nrings (s : State) (i : Nat) (x : CommitSt) : (s.setCmt i x).nrings = s.nrings := rfl
@[simp] theorem State.setCmt_coalesce (s : State) (i : Nat) (x : CommitSt) : (s.setCmt i x).coalesce = s.coalesce := rfl
@[simp] theorem State.setCmt_parts (s : State) (i : Nat) (x : CommitSt) : (s.setCmt i x).parts = s.parts := rfl
@[simp] theorem State.setCmt_grants (s : State) (i : Nat) (x : CommitSt) : (s.setCmt i x).grants = s.grants := rfl
@[simp] theorem State.setCmt_ranger (s : State) (i : Nat) (x : CommitSt) : (s.setCmt i x).ranger = s.ranger := rfl
@[simp] theorem State.setCmt_fbk (s : State) (i : Nat) (x : CommitSt) : (s.setCmt i x).fbk = s.fbk := rfl
@[simp] theorem State.setCmt_hlt (s : State) (i : Nat) (x : CommitSt) : (s.setCmt i x).hlt = s.hlt := rfl
@[simp] theorem State.setCmt_cvu (s : State) (i : Nat) (x : CommitSt) : (s.setCmt i x).cvu = s.cvu := rfl
@[simp] theorem State.setCmt_blz (s : State) (i : Nat) (x : CommitSt) : (s.setCmt i x).blz = s.blz := rfl
@[simp] theorem State.setCmt_time (s : State) (i : Nat) (x : CommitSt) : (s.setCmt i x).time = s.time := rfl
@[simp] theorem State.setCmt_ldg (s : State) (i : Nat) (x : CommitSt) : (s.setCmt i x).ldg = s.ldg := rfl
@[simp] theorem State.setCmt_pair (s : State) (i : Nat) (x : CommitSt) : (s.setCmt i x).pair = s.pair := rfl
@[simp] theorem State.setCmt_lanes (s : State) (i : Nat) (x : CommitSt) : (s.setCmt i x).lanes = s.lanes := rfl
@[simp] theorem State.setCmt_caps (s : State) (i : Nat) (x : CommitSt) : (s.setCmt i x).caps = s.caps := rfl
@[simp] theorem State.setCmt_outs (s : State) (i : Nat) (x : CommitSt) : (s.setCmt i x).outs = s.outs := rfl
@[simp] theorem State.setCmt_stands (s : State) (i : Nat) (x : CommitSt) : (s.setCmt i x).stands = s.stands := rfl
@[simp] theorem State.setCmt_gate (s : State) (i : Nat) (x : CommitSt) : (s.setCmt i x).gate = s.gate := rfl
@[simp] theorem State.setCmt_groups (s : State) (i : Nat) (x : CommitSt) : (s.setCmt i x).groups = s.groups := rfl
@[simp] theorem State.setCmt_pools (s : State) (i : Nat) (x : CommitSt) : (s.setCmt i x).pools = s.pools := rfl
@[simp] theorem State.setCmt_lko (s : State) (i : Nat) (x : CommitSt) : (s.setCmt i x).lko = s.lko := rfl
@[simp] theorem State.setCmt_regions (s : State) (i : Nat) (x : CommitSt) : (s.setCmt i x).regions = s.regions := rfl
@[simp] theorem State.setCmt_pol (s : State) (i : Nat) (x : CommitSt) : (s.setCmt i x).pol = s.pol := rfl
@[simp] theorem State.setCmt_dcqs (s : State) (i : Nat) (x : CommitSt) : (s.setCmt i x).dcqs = s.dcqs := rfl
@[simp] theorem State.setCmt_strip (s : State) (i : Nat) (x : CommitSt) : (s.setCmt i x).strip = s.strip := rfl
@[simp] theorem State.setCmt_sys (s : State) (i : Nat) (x : CommitSt) : (s.setCmt i x).sys = s.sys := rfl
@[simp] theorem State.setCmt_flash (s : State) (i : Nat) (x : CommitSt) : (s.setCmt i x).flash = s.flash := rfl
@[simp] theorem State.setCmt_queues (s : State) (i : Nat) (x : CommitSt) : (s.setCmt i x).queues = s.queues := rfl
@[simp] theorem State.setCmt_ports (s : State) (i : Nat) (x : CommitSt) : (s.setCmt i x).ports = s.ports := rfl
@[simp] theorem State.setCmt_decs (s : State) (i : Nat) (x : CommitSt) : (s.setCmt i x).decs = s.decs := rfl
@[simp] theorem State.setCmt_decPipes (s : State) (i : Nat) (x : CommitSt) : (s.setCmt i x).decPipes = s.decPipes := rfl
@[simp] theorem State.setCmt_encs (s : State) (i : Nat) (x : CommitSt) : (s.setCmt i x).encs = s.encs := rfl
@[simp] theorem State.setCmt_encPipes (s : State) (i : Nat) (x : CommitSt) : (s.setCmt i x).encPipes = s.encPipes := rfl
@[simp] theorem State.setCmt_fwPool (s : State) (i : Nat) (x : CommitSt) : (s.setCmt i x).fwPool = s.fwPool := rfl
@[simp] theorem State.setCmt_emitted (s : State) (i : Nat) (x : CommitSt) : (s.setCmt i x).emitted = s.emitted := rfl
@[simp] theorem State.setCmt_rd (s : State) (i : Nat) (x : CommitSt) (r : Nat) : (s.setCmt i x).rd r = s.rd r := rfl
@[simp] theorem State.setCmt_fld (s : State) (i : Nat) (x : CommitSt) (g : Fld) : (s.setCmt i x).fld g = s.fld g := rfl
@[simp] theorem State.setCmt_isSet (s : State) (i : Nat) (x : CommitSt) (g : Fld) : (s.setCmt i x).isSet g = s.isSet g := rfl
@[simp] theorem State.setCmt_memByte (s : State) (i : Nat) (x : CommitSt) (k : Nat) : (s.setCmt i x).memByte k = s.memByte k := rfl
@[simp] theorem State.setCmt_cmt_same (s : State) (i : Nat) (x : CommitSt) : (s.setCmt i x).cmt i = x := sparseGet_put_same _ _ _ _
theorem State.setCmt_cmt_other (s : State) (i : Nat) (x : CommitSt) {j : Nat} (h : i ≠ j) : (s.setCmt i x).cmt j = s.cmt j := sparseGet_put_other _ _ _ h

/-! ### setLook -/

@[simp] theorem State.setLook_pending (s : State) (i : Nat) (x : LookOut) : (s.setLook i x).pending = s.pending := rfl
@[simp] theorem State.setLook_tick (s : State) (i : Nat) (x : LookOut) : (s.setLook i x).tick = s.tick := rfl
@[simp] theorem State.setLook_fresh (s : State) (i : Nat) (x : LookOut) : (s.setLook i x).fresh = s.fresh := rfl
@[simp] theorem State.setLook_readData (s : State) (i : Nat) (x : LookOut) : (s.setLook i x).readData = s.readData := rfl
@[simp] theorem State.setLook_readPoison (s : State) (i : Nat) (x : LookOut) : (s.setLook i x).readPoison = s.readPoison := rfl
@[simp] theorem State.setLook_raised (s : State) (i : Nat) (x : LookOut) : (s.setLook i x).raised = s.raised := rfl
@[simp] theorem State.setLook_hbm (s : State) (i : Nat) (x : LookOut) : (s.setLook i x).hbm = s.hbm := rfl
@[simp] theorem State.setLook_shadows (s : State) (i : Nat) (x : LookOut) : (s.setLook i x).shadows = s.shadows := rfl
@[simp] theorem State.setLook_regs (s : State) (i : Nat) (x : LookOut) : (s.setLook i x).regs = s.regs := rfl
@[simp] theorem State.setLook_mem (s : State) (i : Nat) (x : LookOut) : (s.setLook i x).mem = s.mem := rfl
@[simp] theorem State.setLook_hostMem (s : State) (i : Nat) (x : LookOut) : (s.setLook i x).hostMem = s.hostMem := rfl
@[simp] theorem State.setLook_clk (s : State) (i : Nat) (x : LookOut) : (s.setLook i x).clk = s.clk := rfl
@[simp] theorem State.setLook_msix (s : State) (i : Nat) (x : LookOut) : (s.setLook i x).msix = s.msix := rfl
@[simp] theorem State.setLook_pcie (s : State) (i : Nat) (x : LookOut) : (s.setLook i x).pcie = s.pcie := rfl
@[simp] theorem State.setLook_mboxes (s : State) (i : Nat) (x : LookOut) : (s.setLook i x).mboxes = s.mboxes := rfl
@[simp] theorem State.setLook_arrivals (s : State) (i : Nat) (x : LookOut) : (s.setLook i x).arrivals = s.arrivals := rfl
@[simp] theorem State.setLook_area (s : State) (i : Nat) (x : LookOut) : (s.setLook i x).area = s.area := rfl
@[simp] theorem State.setLook_nrings (s : State) (i : Nat) (x : LookOut) : (s.setLook i x).nrings = s.nrings := rfl
@[simp] theorem State.setLook_coalesce (s : State) (i : Nat) (x : LookOut) : (s.setLook i x).coalesce = s.coalesce := rfl
@[simp] theorem State.setLook_parts (s : State) (i : Nat) (x : LookOut) : (s.setLook i x).parts = s.parts := rfl
@[simp] theorem State.setLook_grants (s : State) (i : Nat) (x : LookOut) : (s.setLook i x).grants = s.grants := rfl
@[simp] theorem State.setLook_ranger (s : State) (i : Nat) (x : LookOut) : (s.setLook i x).ranger = s.ranger := rfl
@[simp] theorem State.setLook_fbk (s : State) (i : Nat) (x : LookOut) : (s.setLook i x).fbk = s.fbk := rfl
@[simp] theorem State.setLook_hlt (s : State) (i : Nat) (x : LookOut) : (s.setLook i x).hlt = s.hlt := rfl
@[simp] theorem State.setLook_cvu (s : State) (i : Nat) (x : LookOut) : (s.setLook i x).cvu = s.cvu := rfl
@[simp] theorem State.setLook_blz (s : State) (i : Nat) (x : LookOut) : (s.setLook i x).blz = s.blz := rfl
@[simp] theorem State.setLook_time (s : State) (i : Nat) (x : LookOut) : (s.setLook i x).time = s.time := rfl
@[simp] theorem State.setLook_ldg (s : State) (i : Nat) (x : LookOut) : (s.setLook i x).ldg = s.ldg := rfl
@[simp] theorem State.setLook_pair (s : State) (i : Nat) (x : LookOut) : (s.setLook i x).pair = s.pair := rfl
@[simp] theorem State.setLook_lanes (s : State) (i : Nat) (x : LookOut) : (s.setLook i x).lanes = s.lanes := rfl
@[simp] theorem State.setLook_caps (s : State) (i : Nat) (x : LookOut) : (s.setLook i x).caps = s.caps := rfl
@[simp] theorem State.setLook_outs (s : State) (i : Nat) (x : LookOut) : (s.setLook i x).outs = s.outs := rfl
@[simp] theorem State.setLook_stands (s : State) (i : Nat) (x : LookOut) : (s.setLook i x).stands = s.stands := rfl
@[simp] theorem State.setLook_gate (s : State) (i : Nat) (x : LookOut) : (s.setLook i x).gate = s.gate := rfl
@[simp] theorem State.setLook_commits (s : State) (i : Nat) (x : LookOut) : (s.setLook i x).commits = s.commits := rfl
@[simp] theorem State.setLook_groups (s : State) (i : Nat) (x : LookOut) : (s.setLook i x).groups = s.groups := rfl
@[simp] theorem State.setLook_pools (s : State) (i : Nat) (x : LookOut) : (s.setLook i x).pools = s.pools := rfl
@[simp] theorem State.setLook_regions (s : State) (i : Nat) (x : LookOut) : (s.setLook i x).regions = s.regions := rfl
@[simp] theorem State.setLook_pol (s : State) (i : Nat) (x : LookOut) : (s.setLook i x).pol = s.pol := rfl
@[simp] theorem State.setLook_dcqs (s : State) (i : Nat) (x : LookOut) : (s.setLook i x).dcqs = s.dcqs := rfl
@[simp] theorem State.setLook_strip (s : State) (i : Nat) (x : LookOut) : (s.setLook i x).strip = s.strip := rfl
@[simp] theorem State.setLook_sys (s : State) (i : Nat) (x : LookOut) : (s.setLook i x).sys = s.sys := rfl
@[simp] theorem State.setLook_flash (s : State) (i : Nat) (x : LookOut) : (s.setLook i x).flash = s.flash := rfl
@[simp] theorem State.setLook_queues (s : State) (i : Nat) (x : LookOut) : (s.setLook i x).queues = s.queues := rfl
@[simp] theorem State.setLook_ports (s : State) (i : Nat) (x : LookOut) : (s.setLook i x).ports = s.ports := rfl
@[simp] theorem State.setLook_decs (s : State) (i : Nat) (x : LookOut) : (s.setLook i x).decs = s.decs := rfl
@[simp] theorem State.setLook_decPipes (s : State) (i : Nat) (x : LookOut) : (s.setLook i x).decPipes = s.decPipes := rfl
@[simp] theorem State.setLook_encs (s : State) (i : Nat) (x : LookOut) : (s.setLook i x).encs = s.encs := rfl
@[simp] theorem State.setLook_encPipes (s : State) (i : Nat) (x : LookOut) : (s.setLook i x).encPipes = s.encPipes := rfl
@[simp] theorem State.setLook_fwPool (s : State) (i : Nat) (x : LookOut) : (s.setLook i x).fwPool = s.fwPool := rfl
@[simp] theorem State.setLook_emitted (s : State) (i : Nat) (x : LookOut) : (s.setLook i x).emitted = s.emitted := rfl
@[simp] theorem State.setLook_rd (s : State) (i : Nat) (x : LookOut) (r : Nat) : (s.setLook i x).rd r = s.rd r := rfl
@[simp] theorem State.setLook_fld (s : State) (i : Nat) (x : LookOut) (g : Fld) : (s.setLook i x).fld g = s.fld g := rfl
@[simp] theorem State.setLook_isSet (s : State) (i : Nat) (x : LookOut) (g : Fld) : (s.setLook i x).isSet g = s.isSet g := rfl
@[simp] theorem State.setLook_memByte (s : State) (i : Nat) (x : LookOut) (k : Nat) : (s.setLook i x).memByte k = s.memByte k := rfl
@[simp] theorem State.setLook_look_same (s : State) (i : Nat) (x : LookOut) : (s.setLook i x).look i = x := sparseGet_put_same _ _ _ _
theorem State.setLook_look_other (s : State) (i : Nat) (x : LookOut) {j : Nat} (h : i ≠ j) : (s.setLook i x).look j = s.look j := sparseGet_put_other _ _ _ h

/-! ### setRegion -/

@[simp] theorem State.setRegion_pending (s : State) (i : Nat) (x : RegionSt) : (s.setRegion i x).pending = s.pending := rfl
@[simp] theorem State.setRegion_tick (s : State) (i : Nat) (x : RegionSt) : (s.setRegion i x).tick = s.tick := rfl
@[simp] theorem State.setRegion_fresh (s : State) (i : Nat) (x : RegionSt) : (s.setRegion i x).fresh = s.fresh := rfl
@[simp] theorem State.setRegion_readData (s : State) (i : Nat) (x : RegionSt) : (s.setRegion i x).readData = s.readData := rfl
@[simp] theorem State.setRegion_readPoison (s : State) (i : Nat) (x : RegionSt) : (s.setRegion i x).readPoison = s.readPoison := rfl
@[simp] theorem State.setRegion_raised (s : State) (i : Nat) (x : RegionSt) : (s.setRegion i x).raised = s.raised := rfl
@[simp] theorem State.setRegion_hbm (s : State) (i : Nat) (x : RegionSt) : (s.setRegion i x).hbm = s.hbm := rfl
@[simp] theorem State.setRegion_shadows (s : State) (i : Nat) (x : RegionSt) : (s.setRegion i x).shadows = s.shadows := rfl
@[simp] theorem State.setRegion_regs (s : State) (i : Nat) (x : RegionSt) : (s.setRegion i x).regs = s.regs := rfl
@[simp] theorem State.setRegion_mem (s : State) (i : Nat) (x : RegionSt) : (s.setRegion i x).mem = s.mem := rfl
@[simp] theorem State.setRegion_hostMem (s : State) (i : Nat) (x : RegionSt) : (s.setRegion i x).hostMem = s.hostMem := rfl
@[simp] theorem State.setRegion_clk (s : State) (i : Nat) (x : RegionSt) : (s.setRegion i x).clk = s.clk := rfl
@[simp] theorem State.setRegion_msix (s : State) (i : Nat) (x : RegionSt) : (s.setRegion i x).msix = s.msix := rfl
@[simp] theorem State.setRegion_pcie (s : State) (i : Nat) (x : RegionSt) : (s.setRegion i x).pcie = s.pcie := rfl
@[simp] theorem State.setRegion_mboxes (s : State) (i : Nat) (x : RegionSt) : (s.setRegion i x).mboxes = s.mboxes := rfl
@[simp] theorem State.setRegion_arrivals (s : State) (i : Nat) (x : RegionSt) : (s.setRegion i x).arrivals = s.arrivals := rfl
@[simp] theorem State.setRegion_area (s : State) (i : Nat) (x : RegionSt) : (s.setRegion i x).area = s.area := rfl
@[simp] theorem State.setRegion_nrings (s : State) (i : Nat) (x : RegionSt) : (s.setRegion i x).nrings = s.nrings := rfl
@[simp] theorem State.setRegion_coalesce (s : State) (i : Nat) (x : RegionSt) : (s.setRegion i x).coalesce = s.coalesce := rfl
@[simp] theorem State.setRegion_parts (s : State) (i : Nat) (x : RegionSt) : (s.setRegion i x).parts = s.parts := rfl
@[simp] theorem State.setRegion_grants (s : State) (i : Nat) (x : RegionSt) : (s.setRegion i x).grants = s.grants := rfl
@[simp] theorem State.setRegion_ranger (s : State) (i : Nat) (x : RegionSt) : (s.setRegion i x).ranger = s.ranger := rfl
@[simp] theorem State.setRegion_fbk (s : State) (i : Nat) (x : RegionSt) : (s.setRegion i x).fbk = s.fbk := rfl
@[simp] theorem State.setRegion_hlt (s : State) (i : Nat) (x : RegionSt) : (s.setRegion i x).hlt = s.hlt := rfl
@[simp] theorem State.setRegion_cvu (s : State) (i : Nat) (x : RegionSt) : (s.setRegion i x).cvu = s.cvu := rfl
@[simp] theorem State.setRegion_blz (s : State) (i : Nat) (x : RegionSt) : (s.setRegion i x).blz = s.blz := rfl
@[simp] theorem State.setRegion_time (s : State) (i : Nat) (x : RegionSt) : (s.setRegion i x).time = s.time := rfl
@[simp] theorem State.setRegion_ldg (s : State) (i : Nat) (x : RegionSt) : (s.setRegion i x).ldg = s.ldg := rfl
@[simp] theorem State.setRegion_pair (s : State) (i : Nat) (x : RegionSt) : (s.setRegion i x).pair = s.pair := rfl
@[simp] theorem State.setRegion_lanes (s : State) (i : Nat) (x : RegionSt) : (s.setRegion i x).lanes = s.lanes := rfl
@[simp] theorem State.setRegion_caps (s : State) (i : Nat) (x : RegionSt) : (s.setRegion i x).caps = s.caps := rfl
@[simp] theorem State.setRegion_outs (s : State) (i : Nat) (x : RegionSt) : (s.setRegion i x).outs = s.outs := rfl
@[simp] theorem State.setRegion_stands (s : State) (i : Nat) (x : RegionSt) : (s.setRegion i x).stands = s.stands := rfl
@[simp] theorem State.setRegion_gate (s : State) (i : Nat) (x : RegionSt) : (s.setRegion i x).gate = s.gate := rfl
@[simp] theorem State.setRegion_commits (s : State) (i : Nat) (x : RegionSt) : (s.setRegion i x).commits = s.commits := rfl
@[simp] theorem State.setRegion_groups (s : State) (i : Nat) (x : RegionSt) : (s.setRegion i x).groups = s.groups := rfl
@[simp] theorem State.setRegion_pools (s : State) (i : Nat) (x : RegionSt) : (s.setRegion i x).pools = s.pools := rfl
@[simp] theorem State.setRegion_lko (s : State) (i : Nat) (x : RegionSt) : (s.setRegion i x).lko = s.lko := rfl
@[simp] theorem State.setRegion_pol (s : State) (i : Nat) (x : RegionSt) : (s.setRegion i x).pol = s.pol := rfl
@[simp] theorem State.setRegion_dcqs (s : State) (i : Nat) (x : RegionSt) : (s.setRegion i x).dcqs = s.dcqs := rfl
@[simp] theorem State.setRegion_strip (s : State) (i : Nat) (x : RegionSt) : (s.setRegion i x).strip = s.strip := rfl
@[simp] theorem State.setRegion_sys (s : State) (i : Nat) (x : RegionSt) : (s.setRegion i x).sys = s.sys := rfl
@[simp] theorem State.setRegion_flash (s : State) (i : Nat) (x : RegionSt) : (s.setRegion i x).flash = s.flash := rfl
@[simp] theorem State.setRegion_queues (s : State) (i : Nat) (x : RegionSt) : (s.setRegion i x).queues = s.queues := rfl
@[simp] theorem State.setRegion_ports (s : State) (i : Nat) (x : RegionSt) : (s.setRegion i x).ports = s.ports := rfl
@[simp] theorem State.setRegion_decs (s : State) (i : Nat) (x : RegionSt) : (s.setRegion i x).decs = s.decs := rfl
@[simp] theorem State.setRegion_decPipes (s : State) (i : Nat) (x : RegionSt) : (s.setRegion i x).decPipes = s.decPipes := rfl
@[simp] theorem State.setRegion_encs (s : State) (i : Nat) (x : RegionSt) : (s.setRegion i x).encs = s.encs := rfl
@[simp] theorem State.setRegion_encPipes (s : State) (i : Nat) (x : RegionSt) : (s.setRegion i x).encPipes = s.encPipes := rfl
@[simp] theorem State.setRegion_fwPool (s : State) (i : Nat) (x : RegionSt) : (s.setRegion i x).fwPool = s.fwPool := rfl
@[simp] theorem State.setRegion_emitted (s : State) (i : Nat) (x : RegionSt) : (s.setRegion i x).emitted = s.emitted := rfl
@[simp] theorem State.setRegion_rd (s : State) (i : Nat) (x : RegionSt) (r : Nat) : (s.setRegion i x).rd r = s.rd r := rfl
@[simp] theorem State.setRegion_fld (s : State) (i : Nat) (x : RegionSt) (g : Fld) : (s.setRegion i x).fld g = s.fld g := rfl
@[simp] theorem State.setRegion_isSet (s : State) (i : Nat) (x : RegionSt) (g : Fld) : (s.setRegion i x).isSet g = s.isSet g := rfl
@[simp] theorem State.setRegion_memByte (s : State) (i : Nat) (x : RegionSt) (k : Nat) : (s.setRegion i x).memByte k = s.memByte k := rfl
@[simp] theorem State.setRegion_region_same (s : State) (i : Nat) (x : RegionSt) : (s.setRegion i x).region i = x := sparseGet_put_same _ _ _ _
theorem State.setRegion_region_other (s : State) (i : Nat) (x : RegionSt) {j : Nat} (h : i ≠ j) : (s.setRegion i x).region j = s.region j := sparseGet_put_other _ _ _ h

/-! ### setCvu -/

@[simp] theorem State.setCvu_pending (s : State) (i : Nat) (x : CvuSt) : (s.setCvu i x).pending = s.pending := rfl
@[simp] theorem State.setCvu_tick (s : State) (i : Nat) (x : CvuSt) : (s.setCvu i x).tick = s.tick := rfl
@[simp] theorem State.setCvu_fresh (s : State) (i : Nat) (x : CvuSt) : (s.setCvu i x).fresh = s.fresh := rfl
@[simp] theorem State.setCvu_readData (s : State) (i : Nat) (x : CvuSt) : (s.setCvu i x).readData = s.readData := rfl
@[simp] theorem State.setCvu_readPoison (s : State) (i : Nat) (x : CvuSt) : (s.setCvu i x).readPoison = s.readPoison := rfl
@[simp] theorem State.setCvu_raised (s : State) (i : Nat) (x : CvuSt) : (s.setCvu i x).raised = s.raised := rfl
@[simp] theorem State.setCvu_hbm (s : State) (i : Nat) (x : CvuSt) : (s.setCvu i x).hbm = s.hbm := rfl
@[simp] theorem State.setCvu_shadows (s : State) (i : Nat) (x : CvuSt) : (s.setCvu i x).shadows = s.shadows := rfl
@[simp] theorem State.setCvu_regs (s : State) (i : Nat) (x : CvuSt) : (s.setCvu i x).regs = s.regs := rfl
@[simp] theorem State.setCvu_mem (s : State) (i : Nat) (x : CvuSt) : (s.setCvu i x).mem = s.mem := rfl
@[simp] theorem State.setCvu_hostMem (s : State) (i : Nat) (x : CvuSt) : (s.setCvu i x).hostMem = s.hostMem := rfl
@[simp] theorem State.setCvu_clk (s : State) (i : Nat) (x : CvuSt) : (s.setCvu i x).clk = s.clk := rfl
@[simp] theorem State.setCvu_msix (s : State) (i : Nat) (x : CvuSt) : (s.setCvu i x).msix = s.msix := rfl
@[simp] theorem State.setCvu_pcie (s : State) (i : Nat) (x : CvuSt) : (s.setCvu i x).pcie = s.pcie := rfl
@[simp] theorem State.setCvu_mboxes (s : State) (i : Nat) (x : CvuSt) : (s.setCvu i x).mboxes = s.mboxes := rfl
@[simp] theorem State.setCvu_arrivals (s : State) (i : Nat) (x : CvuSt) : (s.setCvu i x).arrivals = s.arrivals := rfl
@[simp] theorem State.setCvu_area (s : State) (i : Nat) (x : CvuSt) : (s.setCvu i x).area = s.area := rfl
@[simp] theorem State.setCvu_nrings (s : State) (i : Nat) (x : CvuSt) : (s.setCvu i x).nrings = s.nrings := rfl
@[simp] theorem State.setCvu_coalesce (s : State) (i : Nat) (x : CvuSt) : (s.setCvu i x).coalesce = s.coalesce := rfl
@[simp] theorem State.setCvu_parts (s : State) (i : Nat) (x : CvuSt) : (s.setCvu i x).parts = s.parts := rfl
@[simp] theorem State.setCvu_grants (s : State) (i : Nat) (x : CvuSt) : (s.setCvu i x).grants = s.grants := rfl
@[simp] theorem State.setCvu_ranger (s : State) (i : Nat) (x : CvuSt) : (s.setCvu i x).ranger = s.ranger := rfl
@[simp] theorem State.setCvu_fbk (s : State) (i : Nat) (x : CvuSt) : (s.setCvu i x).fbk = s.fbk := rfl
@[simp] theorem State.setCvu_hlt (s : State) (i : Nat) (x : CvuSt) : (s.setCvu i x).hlt = s.hlt := rfl
@[simp] theorem State.setCvu_blz (s : State) (i : Nat) (x : CvuSt) : (s.setCvu i x).blz = s.blz := rfl
@[simp] theorem State.setCvu_time (s : State) (i : Nat) (x : CvuSt) : (s.setCvu i x).time = s.time := rfl
@[simp] theorem State.setCvu_ldg (s : State) (i : Nat) (x : CvuSt) : (s.setCvu i x).ldg = s.ldg := rfl
@[simp] theorem State.setCvu_pair (s : State) (i : Nat) (x : CvuSt) : (s.setCvu i x).pair = s.pair := rfl
@[simp] theorem State.setCvu_lanes (s : State) (i : Nat) (x : CvuSt) : (s.setCvu i x).lanes = s.lanes := rfl
@[simp] theorem State.setCvu_caps (s : State) (i : Nat) (x : CvuSt) : (s.setCvu i x).caps = s.caps := rfl
@[simp] theorem State.setCvu_outs (s : State) (i : Nat) (x : CvuSt) : (s.setCvu i x).outs = s.outs := rfl
@[simp] theorem State.setCvu_stands (s : State) (i : Nat) (x : CvuSt) : (s.setCvu i x).stands = s.stands := rfl
@[simp] theorem State.setCvu_gate (s : State) (i : Nat) (x : CvuSt) : (s.setCvu i x).gate = s.gate := rfl
@[simp] theorem State.setCvu_commits (s : State) (i : Nat) (x : CvuSt) : (s.setCvu i x).commits = s.commits := rfl
@[simp] theorem State.setCvu_groups (s : State) (i : Nat) (x : CvuSt) : (s.setCvu i x).groups = s.groups := rfl
@[simp] theorem State.setCvu_pools (s : State) (i : Nat) (x : CvuSt) : (s.setCvu i x).pools = s.pools := rfl
@[simp] theorem State.setCvu_lko (s : State) (i : Nat) (x : CvuSt) : (s.setCvu i x).lko = s.lko := rfl
@[simp] theorem State.setCvu_regions (s : State) (i : Nat) (x : CvuSt) : (s.setCvu i x).regions = s.regions := rfl
@[simp] theorem State.setCvu_pol (s : State) (i : Nat) (x : CvuSt) : (s.setCvu i x).pol = s.pol := rfl
@[simp] theorem State.setCvu_dcqs (s : State) (i : Nat) (x : CvuSt) : (s.setCvu i x).dcqs = s.dcqs := rfl
@[simp] theorem State.setCvu_strip (s : State) (i : Nat) (x : CvuSt) : (s.setCvu i x).strip = s.strip := rfl
@[simp] theorem State.setCvu_sys (s : State) (i : Nat) (x : CvuSt) : (s.setCvu i x).sys = s.sys := rfl
@[simp] theorem State.setCvu_flash (s : State) (i : Nat) (x : CvuSt) : (s.setCvu i x).flash = s.flash := rfl
@[simp] theorem State.setCvu_queues (s : State) (i : Nat) (x : CvuSt) : (s.setCvu i x).queues = s.queues := rfl
@[simp] theorem State.setCvu_ports (s : State) (i : Nat) (x : CvuSt) : (s.setCvu i x).ports = s.ports := rfl
@[simp] theorem State.setCvu_decs (s : State) (i : Nat) (x : CvuSt) : (s.setCvu i x).decs = s.decs := rfl
@[simp] theorem State.setCvu_decPipes (s : State) (i : Nat) (x : CvuSt) : (s.setCvu i x).decPipes = s.decPipes := rfl
@[simp] theorem State.setCvu_encs (s : State) (i : Nat) (x : CvuSt) : (s.setCvu i x).encs = s.encs := rfl
@[simp] theorem State.setCvu_encPipes (s : State) (i : Nat) (x : CvuSt) : (s.setCvu i x).encPipes = s.encPipes := rfl
@[simp] theorem State.setCvu_fwPool (s : State) (i : Nat) (x : CvuSt) : (s.setCvu i x).fwPool = s.fwPool := rfl
@[simp] theorem State.setCvu_emitted (s : State) (i : Nat) (x : CvuSt) : (s.setCvu i x).emitted = s.emitted := rfl
@[simp] theorem State.setCvu_rd (s : State) (i : Nat) (x : CvuSt) (r : Nat) : (s.setCvu i x).rd r = s.rd r := rfl
@[simp] theorem State.setCvu_fld (s : State) (i : Nat) (x : CvuSt) (g : Fld) : (s.setCvu i x).fld g = s.fld g := rfl
@[simp] theorem State.setCvu_isSet (s : State) (i : Nat) (x : CvuSt) (g : Fld) : (s.setCvu i x).isSet g = s.isSet g := rfl
@[simp] theorem State.setCvu_memByte (s : State) (i : Nat) (x : CvuSt) (k : Nat) : (s.setCvu i x).memByte k = s.memByte k := rfl
@[simp] theorem State.setCvu_cvuSt_same (s : State) (i : Nat) (x : CvuSt) : (s.setCvu i x).cvuSt i = x := sparseGet_put_same _ _ _ _
theorem State.setCvu_cvuSt_other (s : State) (i : Nat) (x : CvuSt) {j : Nat} (h : i ≠ j) : (s.setCvu i x).cvuSt j = s.cvuSt j := sparseGet_put_other _ _ _ h

/-! ### setDcq -/

@[simp] theorem State.setDcq_pending (s : State) (i : Nat) (x : DcqSt) : (s.setDcq i x).pending = s.pending := rfl
@[simp] theorem State.setDcq_tick (s : State) (i : Nat) (x : DcqSt) : (s.setDcq i x).tick = s.tick := rfl
@[simp] theorem State.setDcq_fresh (s : State) (i : Nat) (x : DcqSt) : (s.setDcq i x).fresh = s.fresh := rfl
@[simp] theorem State.setDcq_readData (s : State) (i : Nat) (x : DcqSt) : (s.setDcq i x).readData = s.readData := rfl
@[simp] theorem State.setDcq_readPoison (s : State) (i : Nat) (x : DcqSt) : (s.setDcq i x).readPoison = s.readPoison := rfl
@[simp] theorem State.setDcq_raised (s : State) (i : Nat) (x : DcqSt) : (s.setDcq i x).raised = s.raised := rfl
@[simp] theorem State.setDcq_hbm (s : State) (i : Nat) (x : DcqSt) : (s.setDcq i x).hbm = s.hbm := rfl
@[simp] theorem State.setDcq_shadows (s : State) (i : Nat) (x : DcqSt) : (s.setDcq i x).shadows = s.shadows := rfl
@[simp] theorem State.setDcq_regs (s : State) (i : Nat) (x : DcqSt) : (s.setDcq i x).regs = s.regs := rfl
@[simp] theorem State.setDcq_mem (s : State) (i : Nat) (x : DcqSt) : (s.setDcq i x).mem = s.mem := rfl
@[simp] theorem State.setDcq_hostMem (s : State) (i : Nat) (x : DcqSt) : (s.setDcq i x).hostMem = s.hostMem := rfl
@[simp] theorem State.setDcq_clk (s : State) (i : Nat) (x : DcqSt) : (s.setDcq i x).clk = s.clk := rfl
@[simp] theorem State.setDcq_msix (s : State) (i : Nat) (x : DcqSt) : (s.setDcq i x).msix = s.msix := rfl
@[simp] theorem State.setDcq_pcie (s : State) (i : Nat) (x : DcqSt) : (s.setDcq i x).pcie = s.pcie := rfl
@[simp] theorem State.setDcq_mboxes (s : State) (i : Nat) (x : DcqSt) : (s.setDcq i x).mboxes = s.mboxes := rfl
@[simp] theorem State.setDcq_arrivals (s : State) (i : Nat) (x : DcqSt) : (s.setDcq i x).arrivals = s.arrivals := rfl
@[simp] theorem State.setDcq_area (s : State) (i : Nat) (x : DcqSt) : (s.setDcq i x).area = s.area := rfl
@[simp] theorem State.setDcq_nrings (s : State) (i : Nat) (x : DcqSt) : (s.setDcq i x).nrings = s.nrings := rfl
@[simp] theorem State.setDcq_coalesce (s : State) (i : Nat) (x : DcqSt) : (s.setDcq i x).coalesce = s.coalesce := rfl
@[simp] theorem State.setDcq_parts (s : State) (i : Nat) (x : DcqSt) : (s.setDcq i x).parts = s.parts := rfl
@[simp] theorem State.setDcq_grants (s : State) (i : Nat) (x : DcqSt) : (s.setDcq i x).grants = s.grants := rfl
@[simp] theorem State.setDcq_ranger (s : State) (i : Nat) (x : DcqSt) : (s.setDcq i x).ranger = s.ranger := rfl
@[simp] theorem State.setDcq_fbk (s : State) (i : Nat) (x : DcqSt) : (s.setDcq i x).fbk = s.fbk := rfl
@[simp] theorem State.setDcq_hlt (s : State) (i : Nat) (x : DcqSt) : (s.setDcq i x).hlt = s.hlt := rfl
@[simp] theorem State.setDcq_cvu (s : State) (i : Nat) (x : DcqSt) : (s.setDcq i x).cvu = s.cvu := rfl
@[simp] theorem State.setDcq_blz (s : State) (i : Nat) (x : DcqSt) : (s.setDcq i x).blz = s.blz := rfl
@[simp] theorem State.setDcq_time (s : State) (i : Nat) (x : DcqSt) : (s.setDcq i x).time = s.time := rfl
@[simp] theorem State.setDcq_ldg (s : State) (i : Nat) (x : DcqSt) : (s.setDcq i x).ldg = s.ldg := rfl
@[simp] theorem State.setDcq_pair (s : State) (i : Nat) (x : DcqSt) : (s.setDcq i x).pair = s.pair := rfl
@[simp] theorem State.setDcq_lanes (s : State) (i : Nat) (x : DcqSt) : (s.setDcq i x).lanes = s.lanes := rfl
@[simp] theorem State.setDcq_caps (s : State) (i : Nat) (x : DcqSt) : (s.setDcq i x).caps = s.caps := rfl
@[simp] theorem State.setDcq_outs (s : State) (i : Nat) (x : DcqSt) : (s.setDcq i x).outs = s.outs := rfl
@[simp] theorem State.setDcq_stands (s : State) (i : Nat) (x : DcqSt) : (s.setDcq i x).stands = s.stands := rfl
@[simp] theorem State.setDcq_gate (s : State) (i : Nat) (x : DcqSt) : (s.setDcq i x).gate = s.gate := rfl
@[simp] theorem State.setDcq_commits (s : State) (i : Nat) (x : DcqSt) : (s.setDcq i x).commits = s.commits := rfl
@[simp] theorem State.setDcq_groups (s : State) (i : Nat) (x : DcqSt) : (s.setDcq i x).groups = s.groups := rfl
@[simp] theorem State.setDcq_pools (s : State) (i : Nat) (x : DcqSt) : (s.setDcq i x).pools = s.pools := rfl
@[simp] theorem State.setDcq_lko (s : State) (i : Nat) (x : DcqSt) : (s.setDcq i x).lko = s.lko := rfl
@[simp] theorem State.setDcq_regions (s : State) (i : Nat) (x : DcqSt) : (s.setDcq i x).regions = s.regions := rfl
@[simp] theorem State.setDcq_pol (s : State) (i : Nat) (x : DcqSt) : (s.setDcq i x).pol = s.pol := rfl
@[simp] theorem State.setDcq_strip (s : State) (i : Nat) (x : DcqSt) : (s.setDcq i x).strip = s.strip := rfl
@[simp] theorem State.setDcq_sys (s : State) (i : Nat) (x : DcqSt) : (s.setDcq i x).sys = s.sys := rfl
@[simp] theorem State.setDcq_flash (s : State) (i : Nat) (x : DcqSt) : (s.setDcq i x).flash = s.flash := rfl
@[simp] theorem State.setDcq_queues (s : State) (i : Nat) (x : DcqSt) : (s.setDcq i x).queues = s.queues := rfl
@[simp] theorem State.setDcq_ports (s : State) (i : Nat) (x : DcqSt) : (s.setDcq i x).ports = s.ports := rfl
@[simp] theorem State.setDcq_decs (s : State) (i : Nat) (x : DcqSt) : (s.setDcq i x).decs = s.decs := rfl
@[simp] theorem State.setDcq_decPipes (s : State) (i : Nat) (x : DcqSt) : (s.setDcq i x).decPipes = s.decPipes := rfl
@[simp] theorem State.setDcq_encs (s : State) (i : Nat) (x : DcqSt) : (s.setDcq i x).encs = s.encs := rfl
@[simp] theorem State.setDcq_encPipes (s : State) (i : Nat) (x : DcqSt) : (s.setDcq i x).encPipes = s.encPipes := rfl
@[simp] theorem State.setDcq_fwPool (s : State) (i : Nat) (x : DcqSt) : (s.setDcq i x).fwPool = s.fwPool := rfl
@[simp] theorem State.setDcq_emitted (s : State) (i : Nat) (x : DcqSt) : (s.setDcq i x).emitted = s.emitted := rfl
@[simp] theorem State.setDcq_rd (s : State) (i : Nat) (x : DcqSt) (r : Nat) : (s.setDcq i x).rd r = s.rd r := rfl
@[simp] theorem State.setDcq_fld (s : State) (i : Nat) (x : DcqSt) (g : Fld) : (s.setDcq i x).fld g = s.fld g := rfl
@[simp] theorem State.setDcq_isSet (s : State) (i : Nat) (x : DcqSt) (g : Fld) : (s.setDcq i x).isSet g = s.isSet g := rfl
@[simp] theorem State.setDcq_memByte (s : State) (i : Nat) (x : DcqSt) (k : Nat) : (s.setDcq i x).memByte k = s.memByte k := rfl
@[simp] theorem State.setDcq_dcq_same (s : State) (i : Nat) (x : DcqSt) : (s.setDcq i x).dcq i = x := sparseGet_put_same _ _ _ _
theorem State.setDcq_dcq_other (s : State) (i : Nat) (x : DcqSt) {j : Nat} (h : i ≠ j) : (s.setDcq i x).dcq j = s.dcq j := sparseGet_put_other _ _ _ h

/-! ### setEnc -/

@[simp] theorem State.setEnc_pending (s : State) (i : Nat) (x : EncSes) : (s.setEnc i x).pending = s.pending := rfl
@[simp] theorem State.setEnc_tick (s : State) (i : Nat) (x : EncSes) : (s.setEnc i x).tick = s.tick := rfl
@[simp] theorem State.setEnc_fresh (s : State) (i : Nat) (x : EncSes) : (s.setEnc i x).fresh = s.fresh := rfl
@[simp] theorem State.setEnc_readData (s : State) (i : Nat) (x : EncSes) : (s.setEnc i x).readData = s.readData := rfl
@[simp] theorem State.setEnc_readPoison (s : State) (i : Nat) (x : EncSes) : (s.setEnc i x).readPoison = s.readPoison := rfl
@[simp] theorem State.setEnc_raised (s : State) (i : Nat) (x : EncSes) : (s.setEnc i x).raised = s.raised := rfl
@[simp] theorem State.setEnc_hbm (s : State) (i : Nat) (x : EncSes) : (s.setEnc i x).hbm = s.hbm := rfl
@[simp] theorem State.setEnc_shadows (s : State) (i : Nat) (x : EncSes) : (s.setEnc i x).shadows = s.shadows := rfl
@[simp] theorem State.setEnc_regs (s : State) (i : Nat) (x : EncSes) : (s.setEnc i x).regs = s.regs := rfl
@[simp] theorem State.setEnc_mem (s : State) (i : Nat) (x : EncSes) : (s.setEnc i x).mem = s.mem := rfl
@[simp] theorem State.setEnc_hostMem (s : State) (i : Nat) (x : EncSes) : (s.setEnc i x).hostMem = s.hostMem := rfl
@[simp] theorem State.setEnc_clk (s : State) (i : Nat) (x : EncSes) : (s.setEnc i x).clk = s.clk := rfl
@[simp] theorem State.setEnc_msix (s : State) (i : Nat) (x : EncSes) : (s.setEnc i x).msix = s.msix := rfl
@[simp] theorem State.setEnc_pcie (s : State) (i : Nat) (x : EncSes) : (s.setEnc i x).pcie = s.pcie := rfl
@[simp] theorem State.setEnc_mboxes (s : State) (i : Nat) (x : EncSes) : (s.setEnc i x).mboxes = s.mboxes := rfl
@[simp] theorem State.setEnc_arrivals (s : State) (i : Nat) (x : EncSes) : (s.setEnc i x).arrivals = s.arrivals := rfl
@[simp] theorem State.setEnc_area (s : State) (i : Nat) (x : EncSes) : (s.setEnc i x).area = s.area := rfl
@[simp] theorem State.setEnc_nrings (s : State) (i : Nat) (x : EncSes) : (s.setEnc i x).nrings = s.nrings := rfl
@[simp] theorem State.setEnc_coalesce (s : State) (i : Nat) (x : EncSes) : (s.setEnc i x).coalesce = s.coalesce := rfl
@[simp] theorem State.setEnc_parts (s : State) (i : Nat) (x : EncSes) : (s.setEnc i x).parts = s.parts := rfl
@[simp] theorem State.setEnc_grants (s : State) (i : Nat) (x : EncSes) : (s.setEnc i x).grants = s.grants := rfl
@[simp] theorem State.setEnc_ranger (s : State) (i : Nat) (x : EncSes) : (s.setEnc i x).ranger = s.ranger := rfl
@[simp] theorem State.setEnc_fbk (s : State) (i : Nat) (x : EncSes) : (s.setEnc i x).fbk = s.fbk := rfl
@[simp] theorem State.setEnc_hlt (s : State) (i : Nat) (x : EncSes) : (s.setEnc i x).hlt = s.hlt := rfl
@[simp] theorem State.setEnc_cvu (s : State) (i : Nat) (x : EncSes) : (s.setEnc i x).cvu = s.cvu := rfl
@[simp] theorem State.setEnc_blz (s : State) (i : Nat) (x : EncSes) : (s.setEnc i x).blz = s.blz := rfl
@[simp] theorem State.setEnc_time (s : State) (i : Nat) (x : EncSes) : (s.setEnc i x).time = s.time := rfl
@[simp] theorem State.setEnc_ldg (s : State) (i : Nat) (x : EncSes) : (s.setEnc i x).ldg = s.ldg := rfl
@[simp] theorem State.setEnc_pair (s : State) (i : Nat) (x : EncSes) : (s.setEnc i x).pair = s.pair := rfl
@[simp] theorem State.setEnc_lanes (s : State) (i : Nat) (x : EncSes) : (s.setEnc i x).lanes = s.lanes := rfl
@[simp] theorem State.setEnc_caps (s : State) (i : Nat) (x : EncSes) : (s.setEnc i x).caps = s.caps := rfl
@[simp] theorem State.setEnc_outs (s : State) (i : Nat) (x : EncSes) : (s.setEnc i x).outs = s.outs := rfl
@[simp] theorem State.setEnc_stands (s : State) (i : Nat) (x : EncSes) : (s.setEnc i x).stands = s.stands := rfl
@[simp] theorem State.setEnc_gate (s : State) (i : Nat) (x : EncSes) : (s.setEnc i x).gate = s.gate := rfl
@[simp] theorem State.setEnc_commits (s : State) (i : Nat) (x : EncSes) : (s.setEnc i x).commits = s.commits := rfl
@[simp] theorem State.setEnc_groups (s : State) (i : Nat) (x : EncSes) : (s.setEnc i x).groups = s.groups := rfl
@[simp] theorem State.setEnc_pools (s : State) (i : Nat) (x : EncSes) : (s.setEnc i x).pools = s.pools := rfl
@[simp] theorem State.setEnc_lko (s : State) (i : Nat) (x : EncSes) : (s.setEnc i x).lko = s.lko := rfl
@[simp] theorem State.setEnc_regions (s : State) (i : Nat) (x : EncSes) : (s.setEnc i x).regions = s.regions := rfl
@[simp] theorem State.setEnc_pol (s : State) (i : Nat) (x : EncSes) : (s.setEnc i x).pol = s.pol := rfl
@[simp] theorem State.setEnc_dcqs (s : State) (i : Nat) (x : EncSes) : (s.setEnc i x).dcqs = s.dcqs := rfl
@[simp] theorem State.setEnc_strip (s : State) (i : Nat) (x : EncSes) : (s.setEnc i x).strip = s.strip := rfl
@[simp] theorem State.setEnc_sys (s : State) (i : Nat) (x : EncSes) : (s.setEnc i x).sys = s.sys := rfl
@[simp] theorem State.setEnc_flash (s : State) (i : Nat) (x : EncSes) : (s.setEnc i x).flash = s.flash := rfl
@[simp] theorem State.setEnc_queues (s : State) (i : Nat) (x : EncSes) : (s.setEnc i x).queues = s.queues := rfl
@[simp] theorem State.setEnc_ports (s : State) (i : Nat) (x : EncSes) : (s.setEnc i x).ports = s.ports := rfl
@[simp] theorem State.setEnc_decs (s : State) (i : Nat) (x : EncSes) : (s.setEnc i x).decs = s.decs := rfl
@[simp] theorem State.setEnc_decPipes (s : State) (i : Nat) (x : EncSes) : (s.setEnc i x).decPipes = s.decPipes := rfl
@[simp] theorem State.setEnc_encPipes (s : State) (i : Nat) (x : EncSes) : (s.setEnc i x).encPipes = s.encPipes := rfl
@[simp] theorem State.setEnc_fwPool (s : State) (i : Nat) (x : EncSes) : (s.setEnc i x).fwPool = s.fwPool := rfl
@[simp] theorem State.setEnc_emitted (s : State) (i : Nat) (x : EncSes) : (s.setEnc i x).emitted = s.emitted := rfl
@[simp] theorem State.setEnc_rd (s : State) (i : Nat) (x : EncSes) (r : Nat) : (s.setEnc i x).rd r = s.rd r := rfl
@[simp] theorem State.setEnc_fld (s : State) (i : Nat) (x : EncSes) (g : Fld) : (s.setEnc i x).fld g = s.fld g := rfl
@[simp] theorem State.setEnc_isSet (s : State) (i : Nat) (x : EncSes) (g : Fld) : (s.setEnc i x).isSet g = s.isSet g := rfl
@[simp] theorem State.setEnc_memByte (s : State) (i : Nat) (x : EncSes) (k : Nat) : (s.setEnc i x).memByte k = s.memByte k := rfl
@[simp] theorem State.setEnc_enc_same (s : State) (i : Nat) (x : EncSes) : (s.setEnc i x).enc i = x := sparseGet_put_same _ _ _ _
theorem State.setEnc_enc_other (s : State) (i : Nat) (x : EncSes) {j : Nat} (h : i ≠ j) : (s.setEnc i x).enc j = s.enc j := sparseGet_put_other _ _ _ h

/-! ### setDec -/

@[simp] theorem State.setDec_pending (s : State) (i : Nat) (x : DecSes) : (s.setDec i x).pending = s.pending := rfl
@[simp] theorem State.setDec_tick (s : State) (i : Nat) (x : DecSes) : (s.setDec i x).tick = s.tick := rfl
@[simp] theorem State.setDec_fresh (s : State) (i : Nat) (x : DecSes) : (s.setDec i x).fresh = s.fresh := rfl
@[simp] theorem State.setDec_readData (s : State) (i : Nat) (x : DecSes) : (s.setDec i x).readData = s.readData := rfl
@[simp] theorem State.setDec_readPoison (s : State) (i : Nat) (x : DecSes) : (s.setDec i x).readPoison = s.readPoison := rfl
@[simp] theorem State.setDec_raised (s : State) (i : Nat) (x : DecSes) : (s.setDec i x).raised = s.raised := rfl
@[simp] theorem State.setDec_hbm (s : State) (i : Nat) (x : DecSes) : (s.setDec i x).hbm = s.hbm := rfl
@[simp] theorem State.setDec_shadows (s : State) (i : Nat) (x : DecSes) : (s.setDec i x).shadows = s.shadows := rfl
@[simp] theorem State.setDec_regs (s : State) (i : Nat) (x : DecSes) : (s.setDec i x).regs = s.regs := rfl
@[simp] theorem State.setDec_mem (s : State) (i : Nat) (x : DecSes) : (s.setDec i x).mem = s.mem := rfl
@[simp] theorem State.setDec_hostMem (s : State) (i : Nat) (x : DecSes) : (s.setDec i x).hostMem = s.hostMem := rfl
@[simp] theorem State.setDec_clk (s : State) (i : Nat) (x : DecSes) : (s.setDec i x).clk = s.clk := rfl
@[simp] theorem State.setDec_msix (s : State) (i : Nat) (x : DecSes) : (s.setDec i x).msix = s.msix := rfl
@[simp] theorem State.setDec_pcie (s : State) (i : Nat) (x : DecSes) : (s.setDec i x).pcie = s.pcie := rfl
@[simp] theorem State.setDec_mboxes (s : State) (i : Nat) (x : DecSes) : (s.setDec i x).mboxes = s.mboxes := rfl
@[simp] theorem State.setDec_arrivals (s : State) (i : Nat) (x : DecSes) : (s.setDec i x).arrivals = s.arrivals := rfl
@[simp] theorem State.setDec_area (s : State) (i : Nat) (x : DecSes) : (s.setDec i x).area = s.area := rfl
@[simp] theorem State.setDec_nrings (s : State) (i : Nat) (x : DecSes) : (s.setDec i x).nrings = s.nrings := rfl
@[simp] theorem State.setDec_coalesce (s : State) (i : Nat) (x : DecSes) : (s.setDec i x).coalesce = s.coalesce := rfl
@[simp] theorem State.setDec_parts (s : State) (i : Nat) (x : DecSes) : (s.setDec i x).parts = s.parts := rfl
@[simp] theorem State.setDec_grants (s : State) (i : Nat) (x : DecSes) : (s.setDec i x).grants = s.grants := rfl
@[simp] theorem State.setDec_ranger (s : State) (i : Nat) (x : DecSes) : (s.setDec i x).ranger = s.ranger := rfl
@[simp] theorem State.setDec_fbk (s : State) (i : Nat) (x : DecSes) : (s.setDec i x).fbk = s.fbk := rfl
@[simp] theorem State.setDec_hlt (s : State) (i : Nat) (x : DecSes) : (s.setDec i x).hlt = s.hlt := rfl
@[simp] theorem State.setDec_cvu (s : State) (i : Nat) (x : DecSes) : (s.setDec i x).cvu = s.cvu := rfl
@[simp] theorem State.setDec_blz (s : State) (i : Nat) (x : DecSes) : (s.setDec i x).blz = s.blz := rfl
@[simp] theorem State.setDec_time (s : State) (i : Nat) (x : DecSes) : (s.setDec i x).time = s.time := rfl
@[simp] theorem State.setDec_ldg (s : State) (i : Nat) (x : DecSes) : (s.setDec i x).ldg = s.ldg := rfl
@[simp] theorem State.setDec_pair (s : State) (i : Nat) (x : DecSes) : (s.setDec i x).pair = s.pair := rfl
@[simp] theorem State.setDec_lanes (s : State) (i : Nat) (x : DecSes) : (s.setDec i x).lanes = s.lanes := rfl
@[simp] theorem State.setDec_caps (s : State) (i : Nat) (x : DecSes) : (s.setDec i x).caps = s.caps := rfl
@[simp] theorem State.setDec_outs (s : State) (i : Nat) (x : DecSes) : (s.setDec i x).outs = s.outs := rfl
@[simp] theorem State.setDec_stands (s : State) (i : Nat) (x : DecSes) : (s.setDec i x).stands = s.stands := rfl
@[simp] theorem State.setDec_gate (s : State) (i : Nat) (x : DecSes) : (s.setDec i x).gate = s.gate := rfl
@[simp] theorem State.setDec_commits (s : State) (i : Nat) (x : DecSes) : (s.setDec i x).commits = s.commits := rfl
@[simp] theorem State.setDec_groups (s : State) (i : Nat) (x : DecSes) : (s.setDec i x).groups = s.groups := rfl
@[simp] theorem State.setDec_pools (s : State) (i : Nat) (x : DecSes) : (s.setDec i x).pools = s.pools := rfl
@[simp] theorem State.setDec_lko (s : State) (i : Nat) (x : DecSes) : (s.setDec i x).lko = s.lko := rfl
@[simp] theorem State.setDec_regions (s : State) (i : Nat) (x : DecSes) : (s.setDec i x).regions = s.regions := rfl
@[simp] theorem State.setDec_pol (s : State) (i : Nat) (x : DecSes) : (s.setDec i x).pol = s.pol := rfl
@[simp] theorem State.setDec_dcqs (s : State) (i : Nat) (x : DecSes) : (s.setDec i x).dcqs = s.dcqs := rfl
@[simp] theorem State.setDec_strip (s : State) (i : Nat) (x : DecSes) : (s.setDec i x).strip = s.strip := rfl
@[simp] theorem State.setDec_sys (s : State) (i : Nat) (x : DecSes) : (s.setDec i x).sys = s.sys := rfl
@[simp] theorem State.setDec_flash (s : State) (i : Nat) (x : DecSes) : (s.setDec i x).flash = s.flash := rfl
@[simp] theorem State.setDec_queues (s : State) (i : Nat) (x : DecSes) : (s.setDec i x).queues = s.queues := rfl
@[simp] theorem State.setDec_ports (s : State) (i : Nat) (x : DecSes) : (s.setDec i x).ports = s.ports := rfl
@[simp] theorem State.setDec_decPipes (s : State) (i : Nat) (x : DecSes) : (s.setDec i x).decPipes = s.decPipes := rfl
@[simp] theorem State.setDec_encs (s : State) (i : Nat) (x : DecSes) : (s.setDec i x).encs = s.encs := rfl
@[simp] theorem State.setDec_encPipes (s : State) (i : Nat) (x : DecSes) : (s.setDec i x).encPipes = s.encPipes := rfl
@[simp] theorem State.setDec_fwPool (s : State) (i : Nat) (x : DecSes) : (s.setDec i x).fwPool = s.fwPool := rfl
@[simp] theorem State.setDec_emitted (s : State) (i : Nat) (x : DecSes) : (s.setDec i x).emitted = s.emitted := rfl
@[simp] theorem State.setDec_rd (s : State) (i : Nat) (x : DecSes) (r : Nat) : (s.setDec i x).rd r = s.rd r := rfl
@[simp] theorem State.setDec_fld (s : State) (i : Nat) (x : DecSes) (g : Fld) : (s.setDec i x).fld g = s.fld g := rfl
@[simp] theorem State.setDec_isSet (s : State) (i : Nat) (x : DecSes) (g : Fld) : (s.setDec i x).isSet g = s.isSet g := rfl
@[simp] theorem State.setDec_memByte (s : State) (i : Nat) (x : DecSes) (k : Nat) : (s.setDec i x).memByte k = s.memByte k := rfl
@[simp] theorem State.setDec_dec_same (s : State) (i : Nat) (x : DecSes) : (s.setDec i x).dec i = x := sparseGet_put_same _ _ _ _
theorem State.setDec_dec_other (s : State) (i : Nat) (x : DecSes) {j : Nat} (h : i ≠ j) : (s.setDec i x).dec j = s.dec j := sparseGet_put_other _ _ _ h

/-! ### setQueue -/

@[simp] theorem State.setQueue_pending (s : State) (i : Nat) (x : QueueSt) : (s.setQueue i x).pending = s.pending := rfl
@[simp] theorem State.setQueue_tick (s : State) (i : Nat) (x : QueueSt) : (s.setQueue i x).tick = s.tick := rfl
@[simp] theorem State.setQueue_fresh (s : State) (i : Nat) (x : QueueSt) : (s.setQueue i x).fresh = s.fresh := rfl
@[simp] theorem State.setQueue_readData (s : State) (i : Nat) (x : QueueSt) : (s.setQueue i x).readData = s.readData := rfl
@[simp] theorem State.setQueue_readPoison (s : State) (i : Nat) (x : QueueSt) : (s.setQueue i x).readPoison = s.readPoison := rfl
@[simp] theorem State.setQueue_raised (s : State) (i : Nat) (x : QueueSt) : (s.setQueue i x).raised = s.raised := rfl
@[simp] theorem State.setQueue_hbm (s : State) (i : Nat) (x : QueueSt) : (s.setQueue i x).hbm = s.hbm := rfl
@[simp] theorem State.setQueue_shadows (s : State) (i : Nat) (x : QueueSt) : (s.setQueue i x).shadows = s.shadows := rfl
@[simp] theorem State.setQueue_regs (s : State) (i : Nat) (x : QueueSt) : (s.setQueue i x).regs = s.regs := rfl
@[simp] theorem State.setQueue_mem (s : State) (i : Nat) (x : QueueSt) : (s.setQueue i x).mem = s.mem := rfl
@[simp] theorem State.setQueue_hostMem (s : State) (i : Nat) (x : QueueSt) : (s.setQueue i x).hostMem = s.hostMem := rfl
@[simp] theorem State.setQueue_clk (s : State) (i : Nat) (x : QueueSt) : (s.setQueue i x).clk = s.clk := rfl
@[simp] theorem State.setQueue_msix (s : State) (i : Nat) (x : QueueSt) : (s.setQueue i x).msix = s.msix := rfl
@[simp] theorem State.setQueue_pcie (s : State) (i : Nat) (x : QueueSt) : (s.setQueue i x).pcie = s.pcie := rfl
@[simp] theorem State.setQueue_mboxes (s : State) (i : Nat) (x : QueueSt) : (s.setQueue i x).mboxes = s.mboxes := rfl
@[simp] theorem State.setQueue_arrivals (s : State) (i : Nat) (x : QueueSt) : (s.setQueue i x).arrivals = s.arrivals := rfl
@[simp] theorem State.setQueue_area (s : State) (i : Nat) (x : QueueSt) : (s.setQueue i x).area = s.area := rfl
@[simp] theorem State.setQueue_nrings (s : State) (i : Nat) (x : QueueSt) : (s.setQueue i x).nrings = s.nrings := rfl
@[simp] theorem State.setQueue_coalesce (s : State) (i : Nat) (x : QueueSt) : (s.setQueue i x).coalesce = s.coalesce := rfl
@[simp] theorem State.setQueue_parts (s : State) (i : Nat) (x : QueueSt) : (s.setQueue i x).parts = s.parts := rfl
@[simp] theorem State.setQueue_grants (s : State) (i : Nat) (x : QueueSt) : (s.setQueue i x).grants = s.grants := rfl
@[simp] theorem State.setQueue_ranger (s : State) (i : Nat) (x : QueueSt) : (s.setQueue i x).ranger = s.ranger := rfl
@[simp] theorem State.setQueue_fbk (s : State) (i : Nat) (x : QueueSt) : (s.setQueue i x).fbk = s.fbk := rfl
@[simp] theorem State.setQueue_hlt (s : State) (i : Nat) (x : QueueSt) : (s.setQueue i x).hlt = s.hlt := rfl
@[simp] theorem State.setQueue_cvu (s : State) (i : Nat) (x : QueueSt) : (s.setQueue i x).cvu = s.cvu := rfl
@[simp] theorem State.setQueue_blz (s : State) (i : Nat) (x : QueueSt) : (s.setQueue i x).blz = s.blz := rfl
@[simp] theorem State.setQueue_time (s : State) (i : Nat) (x : QueueSt) : (s.setQueue i x).time = s.time := rfl
@[simp] theorem State.setQueue_ldg (s : State) (i : Nat) (x : QueueSt) : (s.setQueue i x).ldg = s.ldg := rfl
@[simp] theorem State.setQueue_pair (s : State) (i : Nat) (x : QueueSt) : (s.setQueue i x).pair = s.pair := rfl
@[simp] theorem State.setQueue_lanes (s : State) (i : Nat) (x : QueueSt) : (s.setQueue i x).lanes = s.lanes := rfl
@[simp] theorem State.setQueue_caps (s : State) (i : Nat) (x : QueueSt) : (s.setQueue i x).caps = s.caps := rfl
@[simp] theorem State.setQueue_outs (s : State) (i : Nat) (x : QueueSt) : (s.setQueue i x).outs = s.outs := rfl
@[simp] theorem State.setQueue_stands (s : State) (i : Nat) (x : QueueSt) : (s.setQueue i x).stands = s.stands := rfl
@[simp] theorem State.setQueue_gate (s : State) (i : Nat) (x : QueueSt) : (s.setQueue i x).gate = s.gate := rfl
@[simp] theorem State.setQueue_commits (s : State) (i : Nat) (x : QueueSt) : (s.setQueue i x).commits = s.commits := rfl
@[simp] theorem State.setQueue_groups (s : State) (i : Nat) (x : QueueSt) : (s.setQueue i x).groups = s.groups := rfl
@[simp] theorem State.setQueue_pools (s : State) (i : Nat) (x : QueueSt) : (s.setQueue i x).pools = s.pools := rfl
@[simp] theorem State.setQueue_lko (s : State) (i : Nat) (x : QueueSt) : (s.setQueue i x).lko = s.lko := rfl
@[simp] theorem State.setQueue_regions (s : State) (i : Nat) (x : QueueSt) : (s.setQueue i x).regions = s.regions := rfl
@[simp] theorem State.setQueue_pol (s : State) (i : Nat) (x : QueueSt) : (s.setQueue i x).pol = s.pol := rfl
@[simp] theorem State.setQueue_dcqs (s : State) (i : Nat) (x : QueueSt) : (s.setQueue i x).dcqs = s.dcqs := rfl
@[simp] theorem State.setQueue_strip (s : State) (i : Nat) (x : QueueSt) : (s.setQueue i x).strip = s.strip := rfl
@[simp] theorem State.setQueue_sys (s : State) (i : Nat) (x : QueueSt) : (s.setQueue i x).sys = s.sys := rfl
@[simp] theorem State.setQueue_flash (s : State) (i : Nat) (x : QueueSt) : (s.setQueue i x).flash = s.flash := rfl
@[simp] theorem State.setQueue_ports (s : State) (i : Nat) (x : QueueSt) : (s.setQueue i x).ports = s.ports := rfl
@[simp] theorem State.setQueue_decs (s : State) (i : Nat) (x : QueueSt) : (s.setQueue i x).decs = s.decs := rfl
@[simp] theorem State.setQueue_decPipes (s : State) (i : Nat) (x : QueueSt) : (s.setQueue i x).decPipes = s.decPipes := rfl
@[simp] theorem State.setQueue_encs (s : State) (i : Nat) (x : QueueSt) : (s.setQueue i x).encs = s.encs := rfl
@[simp] theorem State.setQueue_encPipes (s : State) (i : Nat) (x : QueueSt) : (s.setQueue i x).encPipes = s.encPipes := rfl
@[simp] theorem State.setQueue_fwPool (s : State) (i : Nat) (x : QueueSt) : (s.setQueue i x).fwPool = s.fwPool := rfl
@[simp] theorem State.setQueue_emitted (s : State) (i : Nat) (x : QueueSt) : (s.setQueue i x).emitted = s.emitted := rfl
@[simp] theorem State.setQueue_rd (s : State) (i : Nat) (x : QueueSt) (r : Nat) : (s.setQueue i x).rd r = s.rd r := rfl
@[simp] theorem State.setQueue_fld (s : State) (i : Nat) (x : QueueSt) (g : Fld) : (s.setQueue i x).fld g = s.fld g := rfl
@[simp] theorem State.setQueue_isSet (s : State) (i : Nat) (x : QueueSt) (g : Fld) : (s.setQueue i x).isSet g = s.isSet g := rfl
@[simp] theorem State.setQueue_memByte (s : State) (i : Nat) (x : QueueSt) (k : Nat) : (s.setQueue i x).memByte k = s.memByte k := rfl
@[simp] theorem State.setQueue_queue_same (s : State) (i : Nat) (x : QueueSt) : (s.setQueue i x).queue i = x := sparseGet_put_same _ _ _ _
theorem State.setQueue_queue_other (s : State) (i : Nat) (x : QueueSt) {j : Nat} (h : i ≠ j) : (s.setQueue i x).queue j = s.queue j := sparseGet_put_other _ _ _ h

/-! ### setPort -/

@[simp] theorem State.setPort_pending (s : State) (i : Nat) (x : PortSt) : (s.setPort i x).pending = s.pending := rfl
@[simp] theorem State.setPort_tick (s : State) (i : Nat) (x : PortSt) : (s.setPort i x).tick = s.tick := rfl
@[simp] theorem State.setPort_fresh (s : State) (i : Nat) (x : PortSt) : (s.setPort i x).fresh = s.fresh := rfl
@[simp] theorem State.setPort_readData (s : State) (i : Nat) (x : PortSt) : (s.setPort i x).readData = s.readData := rfl
@[simp] theorem State.setPort_readPoison (s : State) (i : Nat) (x : PortSt) : (s.setPort i x).readPoison = s.readPoison := rfl
@[simp] theorem State.setPort_raised (s : State) (i : Nat) (x : PortSt) : (s.setPort i x).raised = s.raised := rfl
@[simp] theorem State.setPort_hbm (s : State) (i : Nat) (x : PortSt) : (s.setPort i x).hbm = s.hbm := rfl
@[simp] theorem State.setPort_shadows (s : State) (i : Nat) (x : PortSt) : (s.setPort i x).shadows = s.shadows := rfl
@[simp] theorem State.setPort_regs (s : State) (i : Nat) (x : PortSt) : (s.setPort i x).regs = s.regs := rfl
@[simp] theorem State.setPort_mem (s : State) (i : Nat) (x : PortSt) : (s.setPort i x).mem = s.mem := rfl
@[simp] theorem State.setPort_hostMem (s : State) (i : Nat) (x : PortSt) : (s.setPort i x).hostMem = s.hostMem := rfl
@[simp] theorem State.setPort_clk (s : State) (i : Nat) (x : PortSt) : (s.setPort i x).clk = s.clk := rfl
@[simp] theorem State.setPort_msix (s : State) (i : Nat) (x : PortSt) : (s.setPort i x).msix = s.msix := rfl
@[simp] theorem State.setPort_pcie (s : State) (i : Nat) (x : PortSt) : (s.setPort i x).pcie = s.pcie := rfl
@[simp] theorem State.setPort_mboxes (s : State) (i : Nat) (x : PortSt) : (s.setPort i x).mboxes = s.mboxes := rfl
@[simp] theorem State.setPort_arrivals (s : State) (i : Nat) (x : PortSt) : (s.setPort i x).arrivals = s.arrivals := rfl
@[simp] theorem State.setPort_area (s : State) (i : Nat) (x : PortSt) : (s.setPort i x).area = s.area := rfl
@[simp] theorem State.setPort_nrings (s : State) (i : Nat) (x : PortSt) : (s.setPort i x).nrings = s.nrings := rfl
@[simp] theorem State.setPort_coalesce (s : State) (i : Nat) (x : PortSt) : (s.setPort i x).coalesce = s.coalesce := rfl
@[simp] theorem State.setPort_parts (s : State) (i : Nat) (x : PortSt) : (s.setPort i x).parts = s.parts := rfl
@[simp] theorem State.setPort_grants (s : State) (i : Nat) (x : PortSt) : (s.setPort i x).grants = s.grants := rfl
@[simp] theorem State.setPort_ranger (s : State) (i : Nat) (x : PortSt) : (s.setPort i x).ranger = s.ranger := rfl
@[simp] theorem State.setPort_fbk (s : State) (i : Nat) (x : PortSt) : (s.setPort i x).fbk = s.fbk := rfl
@[simp] theorem State.setPort_hlt (s : State) (i : Nat) (x : PortSt) : (s.setPort i x).hlt = s.hlt := rfl
@[simp] theorem State.setPort_cvu (s : State) (i : Nat) (x : PortSt) : (s.setPort i x).cvu = s.cvu := rfl
@[simp] theorem State.setPort_blz (s : State) (i : Nat) (x : PortSt) : (s.setPort i x).blz = s.blz := rfl
@[simp] theorem State.setPort_time (s : State) (i : Nat) (x : PortSt) : (s.setPort i x).time = s.time := rfl
@[simp] theorem State.setPort_ldg (s : State) (i : Nat) (x : PortSt) : (s.setPort i x).ldg = s.ldg := rfl
@[simp] theorem State.setPort_pair (s : State) (i : Nat) (x : PortSt) : (s.setPort i x).pair = s.pair := rfl
@[simp] theorem State.setPort_lanes (s : State) (i : Nat) (x : PortSt) : (s.setPort i x).lanes = s.lanes := rfl
@[simp] theorem State.setPort_caps (s : State) (i : Nat) (x : PortSt) : (s.setPort i x).caps = s.caps := rfl
@[simp] theorem State.setPort_outs (s : State) (i : Nat) (x : PortSt) : (s.setPort i x).outs = s.outs := rfl
@[simp] theorem State.setPort_stands (s : State) (i : Nat) (x : PortSt) : (s.setPort i x).stands = s.stands := rfl
@[simp] theorem State.setPort_gate (s : State) (i : Nat) (x : PortSt) : (s.setPort i x).gate = s.gate := rfl
@[simp] theorem State.setPort_commits (s : State) (i : Nat) (x : PortSt) : (s.setPort i x).commits = s.commits := rfl
@[simp] theorem State.setPort_groups (s : State) (i : Nat) (x : PortSt) : (s.setPort i x).groups = s.groups := rfl
@[simp] theorem State.setPort_pools (s : State) (i : Nat) (x : PortSt) : (s.setPort i x).pools = s.pools := rfl
@[simp] theorem State.setPort_lko (s : State) (i : Nat) (x : PortSt) : (s.setPort i x).lko = s.lko := rfl
@[simp] theorem State.setPort_regions (s : State) (i : Nat) (x : PortSt) : (s.setPort i x).regions = s.regions := rfl
@[simp] theorem State.setPort_pol (s : State) (i : Nat) (x : PortSt) : (s.setPort i x).pol = s.pol := rfl
@[simp] theorem State.setPort_dcqs (s : State) (i : Nat) (x : PortSt) : (s.setPort i x).dcqs = s.dcqs := rfl
@[simp] theorem State.setPort_strip (s : State) (i : Nat) (x : PortSt) : (s.setPort i x).strip = s.strip := rfl
@[simp] theorem State.setPort_sys (s : State) (i : Nat) (x : PortSt) : (s.setPort i x).sys = s.sys := rfl
@[simp] theorem State.setPort_flash (s : State) (i : Nat) (x : PortSt) : (s.setPort i x).flash = s.flash := rfl
@[simp] theorem State.setPort_queues (s : State) (i : Nat) (x : PortSt) : (s.setPort i x).queues = s.queues := rfl
@[simp] theorem State.setPort_decs (s : State) (i : Nat) (x : PortSt) : (s.setPort i x).decs = s.decs := rfl
@[simp] theorem State.setPort_decPipes (s : State) (i : Nat) (x : PortSt) : (s.setPort i x).decPipes = s.decPipes := rfl
@[simp] theorem State.setPort_encs (s : State) (i : Nat) (x : PortSt) : (s.setPort i x).encs = s.encs := rfl
@[simp] theorem State.setPort_encPipes (s : State) (i : Nat) (x : PortSt) : (s.setPort i x).encPipes = s.encPipes := rfl
@[simp] theorem State.setPort_fwPool (s : State) (i : Nat) (x : PortSt) : (s.setPort i x).fwPool = s.fwPool := rfl
@[simp] theorem State.setPort_emitted (s : State) (i : Nat) (x : PortSt) : (s.setPort i x).emitted = s.emitted := rfl
@[simp] theorem State.setPort_rd (s : State) (i : Nat) (x : PortSt) (r : Nat) : (s.setPort i x).rd r = s.rd r := rfl
@[simp] theorem State.setPort_fld (s : State) (i : Nat) (x : PortSt) (g : Fld) : (s.setPort i x).fld g = s.fld g := rfl
@[simp] theorem State.setPort_isSet (s : State) (i : Nat) (x : PortSt) (g : Fld) : (s.setPort i x).isSet g = s.isSet g := rfl
@[simp] theorem State.setPort_memByte (s : State) (i : Nat) (x : PortSt) (k : Nat) : (s.setPort i x).memByte k = s.memByte k := rfl
@[simp] theorem State.setPort_portSt_same (s : State) (i : Nat) (x : PortSt) : (s.setPort i x).portSt i = x := sparseGet_put_same _ _ _ _
theorem State.setPort_portSt_other (s : State) (i : Nat) (x : PortSt) {j : Nat} (h : i ≠ j) : (s.setPort i x).portSt j = s.portSt j := sparseGet_put_other _ _ _ h

/-! ### setMbox -/

@[simp] theorem State.setMbox_pending (s : State) (i : Nat) (x : MailboxSt) : (s.setMbox i x).pending = s.pending := rfl
@[simp] theorem State.setMbox_tick (s : State) (i : Nat) (x : MailboxSt) : (s.setMbox i x).tick = s.tick := rfl
@[simp] theorem State.setMbox_fresh (s : State) (i : Nat) (x : MailboxSt) : (s.setMbox i x).fresh = s.fresh := rfl
@[simp] theorem State.setMbox_readData (s : State) (i : Nat) (x : MailboxSt) : (s.setMbox i x).readData = s.readData := rfl
@[simp] theorem State.setMbox_readPoison (s : State) (i : Nat) (x : MailboxSt) : (s.setMbox i x).readPoison = s.readPoison := rfl
@[simp] theorem State.setMbox_raised (s : State) (i : Nat) (x : MailboxSt) : (s.setMbox i x).raised = s.raised := rfl
@[simp] theorem State.setMbox_hbm (s : State) (i : Nat) (x : MailboxSt) : (s.setMbox i x).hbm = s.hbm := rfl
@[simp] theorem State.setMbox_shadows (s : State) (i : Nat) (x : MailboxSt) : (s.setMbox i x).shadows = s.shadows := rfl
@[simp] theorem State.setMbox_regs (s : State) (i : Nat) (x : MailboxSt) : (s.setMbox i x).regs = s.regs := rfl
@[simp] theorem State.setMbox_mem (s : State) (i : Nat) (x : MailboxSt) : (s.setMbox i x).mem = s.mem := rfl
@[simp] theorem State.setMbox_hostMem (s : State) (i : Nat) (x : MailboxSt) : (s.setMbox i x).hostMem = s.hostMem := rfl
@[simp] theorem State.setMbox_clk (s : State) (i : Nat) (x : MailboxSt) : (s.setMbox i x).clk = s.clk := rfl
@[simp] theorem State.setMbox_msix (s : State) (i : Nat) (x : MailboxSt) : (s.setMbox i x).msix = s.msix := rfl
@[simp] theorem State.setMbox_pcie (s : State) (i : Nat) (x : MailboxSt) : (s.setMbox i x).pcie = s.pcie := rfl
@[simp] theorem State.setMbox_arrivals (s : State) (i : Nat) (x : MailboxSt) : (s.setMbox i x).arrivals = s.arrivals := rfl
@[simp] theorem State.setMbox_area (s : State) (i : Nat) (x : MailboxSt) : (s.setMbox i x).area = s.area := rfl
@[simp] theorem State.setMbox_nrings (s : State) (i : Nat) (x : MailboxSt) : (s.setMbox i x).nrings = s.nrings := rfl
@[simp] theorem State.setMbox_coalesce (s : State) (i : Nat) (x : MailboxSt) : (s.setMbox i x).coalesce = s.coalesce := rfl
@[simp] theorem State.setMbox_parts (s : State) (i : Nat) (x : MailboxSt) : (s.setMbox i x).parts = s.parts := rfl
@[simp] theorem State.setMbox_grants (s : State) (i : Nat) (x : MailboxSt) : (s.setMbox i x).grants = s.grants := rfl
@[simp] theorem State.setMbox_ranger (s : State) (i : Nat) (x : MailboxSt) : (s.setMbox i x).ranger = s.ranger := rfl
@[simp] theorem State.setMbox_fbk (s : State) (i : Nat) (x : MailboxSt) : (s.setMbox i x).fbk = s.fbk := rfl
@[simp] theorem State.setMbox_hlt (s : State) (i : Nat) (x : MailboxSt) : (s.setMbox i x).hlt = s.hlt := rfl
@[simp] theorem State.setMbox_cvu (s : State) (i : Nat) (x : MailboxSt) : (s.setMbox i x).cvu = s.cvu := rfl
@[simp] theorem State.setMbox_blz (s : State) (i : Nat) (x : MailboxSt) : (s.setMbox i x).blz = s.blz := rfl
@[simp] theorem State.setMbox_time (s : State) (i : Nat) (x : MailboxSt) : (s.setMbox i x).time = s.time := rfl
@[simp] theorem State.setMbox_ldg (s : State) (i : Nat) (x : MailboxSt) : (s.setMbox i x).ldg = s.ldg := rfl
@[simp] theorem State.setMbox_pair (s : State) (i : Nat) (x : MailboxSt) : (s.setMbox i x).pair = s.pair := rfl
@[simp] theorem State.setMbox_lanes (s : State) (i : Nat) (x : MailboxSt) : (s.setMbox i x).lanes = s.lanes := rfl
@[simp] theorem State.setMbox_caps (s : State) (i : Nat) (x : MailboxSt) : (s.setMbox i x).caps = s.caps := rfl
@[simp] theorem State.setMbox_outs (s : State) (i : Nat) (x : MailboxSt) : (s.setMbox i x).outs = s.outs := rfl
@[simp] theorem State.setMbox_stands (s : State) (i : Nat) (x : MailboxSt) : (s.setMbox i x).stands = s.stands := rfl
@[simp] theorem State.setMbox_gate (s : State) (i : Nat) (x : MailboxSt) : (s.setMbox i x).gate = s.gate := rfl
@[simp] theorem State.setMbox_commits (s : State) (i : Nat) (x : MailboxSt) : (s.setMbox i x).commits = s.commits := rfl
@[simp] theorem State.setMbox_groups (s : State) (i : Nat) (x : MailboxSt) : (s.setMbox i x).groups = s.groups := rfl
@[simp] theorem State.setMbox_pools (s : State) (i : Nat) (x : MailboxSt) : (s.setMbox i x).pools = s.pools := rfl
@[simp] theorem State.setMbox_lko (s : State) (i : Nat) (x : MailboxSt) : (s.setMbox i x).lko = s.lko := rfl
@[simp] theorem State.setMbox_regions (s : State) (i : Nat) (x : MailboxSt) : (s.setMbox i x).regions = s.regions := rfl
@[simp] theorem State.setMbox_pol (s : State) (i : Nat) (x : MailboxSt) : (s.setMbox i x).pol = s.pol := rfl
@[simp] theorem State.setMbox_dcqs (s : State) (i : Nat) (x : MailboxSt) : (s.setMbox i x).dcqs = s.dcqs := rfl
@[simp] theorem State.setMbox_strip (s : State) (i : Nat) (x : MailboxSt) : (s.setMbox i x).strip = s.strip := rfl
@[simp] theorem State.setMbox_sys (s : State) (i : Nat) (x : MailboxSt) : (s.setMbox i x).sys = s.sys := rfl
@[simp] theorem State.setMbox_flash (s : State) (i : Nat) (x : MailboxSt) : (s.setMbox i x).flash = s.flash := rfl
@[simp] theorem State.setMbox_queues (s : State) (i : Nat) (x : MailboxSt) : (s.setMbox i x).queues = s.queues := rfl
@[simp] theorem State.setMbox_ports (s : State) (i : Nat) (x : MailboxSt) : (s.setMbox i x).ports = s.ports := rfl
@[simp] theorem State.setMbox_decs (s : State) (i : Nat) (x : MailboxSt) : (s.setMbox i x).decs = s.decs := rfl
@[simp] theorem State.setMbox_decPipes (s : State) (i : Nat) (x : MailboxSt) : (s.setMbox i x).decPipes = s.decPipes := rfl
@[simp] theorem State.setMbox_encs (s : State) (i : Nat) (x : MailboxSt) : (s.setMbox i x).encs = s.encs := rfl
@[simp] theorem State.setMbox_encPipes (s : State) (i : Nat) (x : MailboxSt) : (s.setMbox i x).encPipes = s.encPipes := rfl
@[simp] theorem State.setMbox_fwPool (s : State) (i : Nat) (x : MailboxSt) : (s.setMbox i x).fwPool = s.fwPool := rfl
@[simp] theorem State.setMbox_emitted (s : State) (i : Nat) (x : MailboxSt) : (s.setMbox i x).emitted = s.emitted := rfl
@[simp] theorem State.setMbox_rd (s : State) (i : Nat) (x : MailboxSt) (r : Nat) : (s.setMbox i x).rd r = s.rd r := rfl
@[simp] theorem State.setMbox_fld (s : State) (i : Nat) (x : MailboxSt) (g : Fld) : (s.setMbox i x).fld g = s.fld g := rfl
@[simp] theorem State.setMbox_isSet (s : State) (i : Nat) (x : MailboxSt) (g : Fld) : (s.setMbox i x).isSet g = s.isSet g := rfl
@[simp] theorem State.setMbox_memByte (s : State) (i : Nat) (x : MailboxSt) (k : Nat) : (s.setMbox i x).memByte k = s.memByte k := rfl
@[simp] theorem State.setMbox_mbox_same (s : State) (i : Nat) (x : MailboxSt) : (s.setMbox i x).mbox i = x := sparseGet_put_same _ _ _ _
theorem State.setMbox_mbox_other (s : State) (i : Nat) (x : MailboxSt) {j : Nat} (h : i ≠ j) : (s.setMbox i x).mbox j = s.mbox j := sparseGet_put_other _ _ _ h

/-! ### setNring -/

@[simp] theorem State.setNring_pending (s : State) (i : Nat) (x : NringSt) : (s.setNring i x).pending = s.pending := rfl
@[simp] theorem State.setNring_tick (s : State) (i : Nat) (x : NringSt) : (s.setNring i x).tick = s.tick := rfl
@[simp] theorem State.setNring_fresh (s : State) (i : Nat) (x : NringSt) : (s.setNring i x).fresh = s.fresh := rfl
@[simp] theorem State.setNring_readData (s : State) (i : Nat) (x : NringSt) : (s.setNring i x).readData = s.readData := rfl
@[simp] theorem State.setNring_readPoison (s : State) (i : Nat) (x : NringSt) : (s.setNring i x).readPoison = s.readPoison := rfl
@[simp] theorem State.setNring_raised (s : State) (i : Nat) (x : NringSt) : (s.setNring i x).raised = s.raised := rfl
@[simp] theorem State.setNring_hbm (s : State) (i : Nat) (x : NringSt) : (s.setNring i x).hbm = s.hbm := rfl
@[simp] theorem State.setNring_shadows (s : State) (i : Nat) (x : NringSt) : (s.setNring i x).shadows = s.shadows := rfl
@[simp] theorem State.setNring_regs (s : State) (i : Nat) (x : NringSt) : (s.setNring i x).regs = s.regs := rfl
@[simp] theorem State.setNring_mem (s : State) (i : Nat) (x : NringSt) : (s.setNring i x).mem = s.mem := rfl
@[simp] theorem State.setNring_hostMem (s : State) (i : Nat) (x : NringSt) : (s.setNring i x).hostMem = s.hostMem := rfl
@[simp] theorem State.setNring_clk (s : State) (i : Nat) (x : NringSt) : (s.setNring i x).clk = s.clk := rfl
@[simp] theorem State.setNring_msix (s : State) (i : Nat) (x : NringSt) : (s.setNring i x).msix = s.msix := rfl
@[simp] theorem State.setNring_pcie (s : State) (i : Nat) (x : NringSt) : (s.setNring i x).pcie = s.pcie := rfl
@[simp] theorem State.setNring_mboxes (s : State) (i : Nat) (x : NringSt) : (s.setNring i x).mboxes = s.mboxes := rfl
@[simp] theorem State.setNring_arrivals (s : State) (i : Nat) (x : NringSt) : (s.setNring i x).arrivals = s.arrivals := rfl
@[simp] theorem State.setNring_area (s : State) (i : Nat) (x : NringSt) : (s.setNring i x).area = s.area := rfl
@[simp] theorem State.setNring_coalesce (s : State) (i : Nat) (x : NringSt) : (s.setNring i x).coalesce = s.coalesce := rfl
@[simp] theorem State.setNring_parts (s : State) (i : Nat) (x : NringSt) : (s.setNring i x).parts = s.parts := rfl
@[simp] theorem State.setNring_grants (s : State) (i : Nat) (x : NringSt) : (s.setNring i x).grants = s.grants := rfl
@[simp] theorem State.setNring_ranger (s : State) (i : Nat) (x : NringSt) : (s.setNring i x).ranger = s.ranger := rfl
@[simp] theorem State.setNring_fbk (s : State) (i : Nat) (x : NringSt) : (s.setNring i x).fbk = s.fbk := rfl
@[simp] theorem State.setNring_hlt (s : State) (i : Nat) (x : NringSt) : (s.setNring i x).hlt = s.hlt := rfl
@[simp] theorem State.setNring_cvu (s : State) (i : Nat) (x : NringSt) : (s.setNring i x).cvu = s.cvu := rfl
@[simp] theorem State.setNring_blz (s : State) (i : Nat) (x : NringSt) : (s.setNring i x).blz = s.blz := rfl
@[simp] theorem State.setNring_time (s : State) (i : Nat) (x : NringSt) : (s.setNring i x).time = s.time := rfl
@[simp] theorem State.setNring_ldg (s : State) (i : Nat) (x : NringSt) : (s.setNring i x).ldg = s.ldg := rfl
@[simp] theorem State.setNring_pair (s : State) (i : Nat) (x : NringSt) : (s.setNring i x).pair = s.pair := rfl
@[simp] theorem State.setNring_lanes (s : State) (i : Nat) (x : NringSt) : (s.setNring i x).lanes = s.lanes := rfl
@[simp] theorem State.setNring_caps (s : State) (i : Nat) (x : NringSt) : (s.setNring i x).caps = s.caps := rfl
@[simp] theorem State.setNring_outs (s : State) (i : Nat) (x : NringSt) : (s.setNring i x).outs = s.outs := rfl
@[simp] theorem State.setNring_stands (s : State) (i : Nat) (x : NringSt) : (s.setNring i x).stands = s.stands := rfl
@[simp] theorem State.setNring_gate (s : State) (i : Nat) (x : NringSt) : (s.setNring i x).gate = s.gate := rfl
@[simp] theorem State.setNring_commits (s : State) (i : Nat) (x : NringSt) : (s.setNring i x).commits = s.commits := rfl
@[simp] theorem State.setNring_groups (s : State) (i : Nat) (x : NringSt) : (s.setNring i x).groups = s.groups := rfl
@[simp] theorem State.setNring_pools (s : State) (i : Nat) (x : NringSt) : (s.setNring i x).pools = s.pools := rfl
@[simp] theorem State.setNring_lko (s : State) (i : Nat) (x : NringSt) : (s.setNring i x).lko = s.lko := rfl
@[simp] theorem State.setNring_regions (s : State) (i : Nat) (x : NringSt) : (s.setNring i x).regions = s.regions := rfl
@[simp] theorem State.setNring_pol (s : State) (i : Nat) (x : NringSt) : (s.setNring i x).pol = s.pol := rfl
@[simp] theorem State.setNring_dcqs (s : State) (i : Nat) (x : NringSt) : (s.setNring i x).dcqs = s.dcqs := rfl
@[simp] theorem State.setNring_strip (s : State) (i : Nat) (x : NringSt) : (s.setNring i x).strip = s.strip := rfl
@[simp] theorem State.setNring_sys (s : State) (i : Nat) (x : NringSt) : (s.setNring i x).sys = s.sys := rfl
@[simp] theorem State.setNring_flash (s : State) (i : Nat) (x : NringSt) : (s.setNring i x).flash = s.flash := rfl
@[simp] theorem State.setNring_queues (s : State) (i : Nat) (x : NringSt) : (s.setNring i x).queues = s.queues := rfl
@[simp] theorem State.setNring_ports (s : State) (i : Nat) (x : NringSt) : (s.setNring i x).ports = s.ports := rfl
@[simp] theorem State.setNring_decs (s : State) (i : Nat) (x : NringSt) : (s.setNring i x).decs = s.decs := rfl
@[simp] theorem State.setNring_decPipes (s : State) (i : Nat) (x : NringSt) : (s.setNring i x).decPipes = s.decPipes := rfl
@[simp] theorem State.setNring_encs (s : State) (i : Nat) (x : NringSt) : (s.setNring i x).encs = s.encs := rfl
@[simp] theorem State.setNring_encPipes (s : State) (i : Nat) (x : NringSt) : (s.setNring i x).encPipes = s.encPipes := rfl
@[simp] theorem State.setNring_fwPool (s : State) (i : Nat) (x : NringSt) : (s.setNring i x).fwPool = s.fwPool := rfl
@[simp] theorem State.setNring_emitted (s : State) (i : Nat) (x : NringSt) : (s.setNring i x).emitted = s.emitted := rfl
@[simp] theorem State.setNring_rd (s : State) (i : Nat) (x : NringSt) (r : Nat) : (s.setNring i x).rd r = s.rd r := rfl
@[simp] theorem State.setNring_fld (s : State) (i : Nat) (x : NringSt) (g : Fld) : (s.setNring i x).fld g = s.fld g := rfl
@[simp] theorem State.setNring_isSet (s : State) (i : Nat) (x : NringSt) (g : Fld) : (s.setNring i x).isSet g = s.isSet g := rfl
@[simp] theorem State.setNring_memByte (s : State) (i : Nat) (x : NringSt) (k : Nat) : (s.setNring i x).memByte k = s.memByte k := rfl
@[simp] theorem State.setNring_nring_same (s : State) (i : Nat) (x : NringSt) : (s.setNring i x).nring i = x := sparseGet_put_same _ _ _ _
theorem State.setNring_nring_other (s : State) (i : Nat) (x : NringSt) {j : Nat} (h : i ≠ j) : (s.setNring i x).nring j = s.nring j := sparseGet_put_other _ _ _ h

/-! ### setDecPipe -/

@[simp] theorem State.setDecPipe_pending (s : State) (i : Nat) (x : PipeSt) : (s.setDecPipe i x).pending = s.pending := rfl
@[simp] theorem State.setDecPipe_tick (s : State) (i : Nat) (x : PipeSt) : (s.setDecPipe i x).tick = s.tick := rfl
@[simp] theorem State.setDecPipe_fresh (s : State) (i : Nat) (x : PipeSt) : (s.setDecPipe i x).fresh = s.fresh := rfl
@[simp] theorem State.setDecPipe_readData (s : State) (i : Nat) (x : PipeSt) : (s.setDecPipe i x).readData = s.readData := rfl
@[simp] theorem State.setDecPipe_readPoison (s : State) (i : Nat) (x : PipeSt) : (s.setDecPipe i x).readPoison = s.readPoison := rfl
@[simp] theorem State.setDecPipe_raised (s : State) (i : Nat) (x : PipeSt) : (s.setDecPipe i x).raised = s.raised := rfl
@[simp] theorem State.setDecPipe_hbm (s : State) (i : Nat) (x : PipeSt) : (s.setDecPipe i x).hbm = s.hbm := rfl
@[simp] theorem State.setDecPipe_shadows (s : State) (i : Nat) (x : PipeSt) : (s.setDecPipe i x).shadows = s.shadows := rfl
@[simp] theorem State.setDecPipe_regs (s : State) (i : Nat) (x : PipeSt) : (s.setDecPipe i x).regs = s.regs := rfl
@[simp] theorem State.setDecPipe_mem (s : State) (i : Nat) (x : PipeSt) : (s.setDecPipe i x).mem = s.mem := rfl
@[simp] theorem State.setDecPipe_hostMem (s : State) (i : Nat) (x : PipeSt) : (s.setDecPipe i x).hostMem = s.hostMem := rfl
@[simp] theorem State.setDecPipe_clk (s : State) (i : Nat) (x : PipeSt) : (s.setDecPipe i x).clk = s.clk := rfl
@[simp] theorem State.setDecPipe_msix (s : State) (i : Nat) (x : PipeSt) : (s.setDecPipe i x).msix = s.msix := rfl
@[simp] theorem State.setDecPipe_pcie (s : State) (i : Nat) (x : PipeSt) : (s.setDecPipe i x).pcie = s.pcie := rfl
@[simp] theorem State.setDecPipe_mboxes (s : State) (i : Nat) (x : PipeSt) : (s.setDecPipe i x).mboxes = s.mboxes := rfl
@[simp] theorem State.setDecPipe_arrivals (s : State) (i : Nat) (x : PipeSt) : (s.setDecPipe i x).arrivals = s.arrivals := rfl
@[simp] theorem State.setDecPipe_area (s : State) (i : Nat) (x : PipeSt) : (s.setDecPipe i x).area = s.area := rfl
@[simp] theorem State.setDecPipe_nrings (s : State) (i : Nat) (x : PipeSt) : (s.setDecPipe i x).nrings = s.nrings := rfl
@[simp] theorem State.setDecPipe_coalesce (s : State) (i : Nat) (x : PipeSt) : (s.setDecPipe i x).coalesce = s.coalesce := rfl
@[simp] theorem State.setDecPipe_parts (s : State) (i : Nat) (x : PipeSt) : (s.setDecPipe i x).parts = s.parts := rfl
@[simp] theorem State.setDecPipe_grants (s : State) (i : Nat) (x : PipeSt) : (s.setDecPipe i x).grants = s.grants := rfl
@[simp] theorem State.setDecPipe_ranger (s : State) (i : Nat) (x : PipeSt) : (s.setDecPipe i x).ranger = s.ranger := rfl
@[simp] theorem State.setDecPipe_fbk (s : State) (i : Nat) (x : PipeSt) : (s.setDecPipe i x).fbk = s.fbk := rfl
@[simp] theorem State.setDecPipe_hlt (s : State) (i : Nat) (x : PipeSt) : (s.setDecPipe i x).hlt = s.hlt := rfl
@[simp] theorem State.setDecPipe_cvu (s : State) (i : Nat) (x : PipeSt) : (s.setDecPipe i x).cvu = s.cvu := rfl
@[simp] theorem State.setDecPipe_blz (s : State) (i : Nat) (x : PipeSt) : (s.setDecPipe i x).blz = s.blz := rfl
@[simp] theorem State.setDecPipe_time (s : State) (i : Nat) (x : PipeSt) : (s.setDecPipe i x).time = s.time := rfl
@[simp] theorem State.setDecPipe_ldg (s : State) (i : Nat) (x : PipeSt) : (s.setDecPipe i x).ldg = s.ldg := rfl
@[simp] theorem State.setDecPipe_pair (s : State) (i : Nat) (x : PipeSt) : (s.setDecPipe i x).pair = s.pair := rfl
@[simp] theorem State.setDecPipe_lanes (s : State) (i : Nat) (x : PipeSt) : (s.setDecPipe i x).lanes = s.lanes := rfl
@[simp] theorem State.setDecPipe_caps (s : State) (i : Nat) (x : PipeSt) : (s.setDecPipe i x).caps = s.caps := rfl
@[simp] theorem State.setDecPipe_outs (s : State) (i : Nat) (x : PipeSt) : (s.setDecPipe i x).outs = s.outs := rfl
@[simp] theorem State.setDecPipe_stands (s : State) (i : Nat) (x : PipeSt) : (s.setDecPipe i x).stands = s.stands := rfl
@[simp] theorem State.setDecPipe_gate (s : State) (i : Nat) (x : PipeSt) : (s.setDecPipe i x).gate = s.gate := rfl
@[simp] theorem State.setDecPipe_commits (s : State) (i : Nat) (x : PipeSt) : (s.setDecPipe i x).commits = s.commits := rfl
@[simp] theorem State.setDecPipe_groups (s : State) (i : Nat) (x : PipeSt) : (s.setDecPipe i x).groups = s.groups := rfl
@[simp] theorem State.setDecPipe_pools (s : State) (i : Nat) (x : PipeSt) : (s.setDecPipe i x).pools = s.pools := rfl
@[simp] theorem State.setDecPipe_lko (s : State) (i : Nat) (x : PipeSt) : (s.setDecPipe i x).lko = s.lko := rfl
@[simp] theorem State.setDecPipe_regions (s : State) (i : Nat) (x : PipeSt) : (s.setDecPipe i x).regions = s.regions := rfl
@[simp] theorem State.setDecPipe_pol (s : State) (i : Nat) (x : PipeSt) : (s.setDecPipe i x).pol = s.pol := rfl
@[simp] theorem State.setDecPipe_dcqs (s : State) (i : Nat) (x : PipeSt) : (s.setDecPipe i x).dcqs = s.dcqs := rfl
@[simp] theorem State.setDecPipe_strip (s : State) (i : Nat) (x : PipeSt) : (s.setDecPipe i x).strip = s.strip := rfl
@[simp] theorem State.setDecPipe_sys (s : State) (i : Nat) (x : PipeSt) : (s.setDecPipe i x).sys = s.sys := rfl
@[simp] theorem State.setDecPipe_flash (s : State) (i : Nat) (x : PipeSt) : (s.setDecPipe i x).flash = s.flash := rfl
@[simp] theorem State.setDecPipe_queues (s : State) (i : Nat) (x : PipeSt) : (s.setDecPipe i x).queues = s.queues := rfl
@[simp] theorem State.setDecPipe_ports (s : State) (i : Nat) (x : PipeSt) : (s.setDecPipe i x).ports = s.ports := rfl
@[simp] theorem State.setDecPipe_decs (s : State) (i : Nat) (x : PipeSt) : (s.setDecPipe i x).decs = s.decs := rfl
@[simp] theorem State.setDecPipe_encs (s : State) (i : Nat) (x : PipeSt) : (s.setDecPipe i x).encs = s.encs := rfl
@[simp] theorem State.setDecPipe_encPipes (s : State) (i : Nat) (x : PipeSt) : (s.setDecPipe i x).encPipes = s.encPipes := rfl
@[simp] theorem State.setDecPipe_fwPool (s : State) (i : Nat) (x : PipeSt) : (s.setDecPipe i x).fwPool = s.fwPool := rfl
@[simp] theorem State.setDecPipe_emitted (s : State) (i : Nat) (x : PipeSt) : (s.setDecPipe i x).emitted = s.emitted := rfl
@[simp] theorem State.setDecPipe_rd (s : State) (i : Nat) (x : PipeSt) (r : Nat) : (s.setDecPipe i x).rd r = s.rd r := rfl
@[simp] theorem State.setDecPipe_fld (s : State) (i : Nat) (x : PipeSt) (g : Fld) : (s.setDecPipe i x).fld g = s.fld g := rfl
@[simp] theorem State.setDecPipe_isSet (s : State) (i : Nat) (x : PipeSt) (g : Fld) : (s.setDecPipe i x).isSet g = s.isSet g := rfl
@[simp] theorem State.setDecPipe_memByte (s : State) (i : Nat) (x : PipeSt) (k : Nat) : (s.setDecPipe i x).memByte k = s.memByte k := rfl
@[simp] theorem State.setDecPipe_decPipe_same (s : State) (i : Nat) (x : PipeSt) : (s.setDecPipe i x).decPipe i = x := sparseGet_put_same _ _ _ _
theorem State.setDecPipe_decPipe_other (s : State) (i : Nat) (x : PipeSt) {j : Nat} (h : i ≠ j) : (s.setDecPipe i x).decPipe j = s.decPipe j := sparseGet_put_other _ _ _ h

/-! ### setEncPipe -/

@[simp] theorem State.setEncPipe_pending (s : State) (i : Nat) (x : PipeSt) : (s.setEncPipe i x).pending = s.pending := rfl
@[simp] theorem State.setEncPipe_tick (s : State) (i : Nat) (x : PipeSt) : (s.setEncPipe i x).tick = s.tick := rfl
@[simp] theorem State.setEncPipe_fresh (s : State) (i : Nat) (x : PipeSt) : (s.setEncPipe i x).fresh = s.fresh := rfl
@[simp] theorem State.setEncPipe_readData (s : State) (i : Nat) (x : PipeSt) : (s.setEncPipe i x).readData = s.readData := rfl
@[simp] theorem State.setEncPipe_readPoison (s : State) (i : Nat) (x : PipeSt) : (s.setEncPipe i x).readPoison = s.readPoison := rfl
@[simp] theorem State.setEncPipe_raised (s : State) (i : Nat) (x : PipeSt) : (s.setEncPipe i x).raised = s.raised := rfl
@[simp] theorem State.setEncPipe_hbm (s : State) (i : Nat) (x : PipeSt) : (s.setEncPipe i x).hbm = s.hbm := rfl
@[simp] theorem State.setEncPipe_shadows (s : State) (i : Nat) (x : PipeSt) : (s.setEncPipe i x).shadows = s.shadows := rfl
@[simp] theorem State.setEncPipe_regs (s : State) (i : Nat) (x : PipeSt) : (s.setEncPipe i x).regs = s.regs := rfl
@[simp] theorem State.setEncPipe_mem (s : State) (i : Nat) (x : PipeSt) : (s.setEncPipe i x).mem = s.mem := rfl
@[simp] theorem State.setEncPipe_hostMem (s : State) (i : Nat) (x : PipeSt) : (s.setEncPipe i x).hostMem = s.hostMem := rfl
@[simp] theorem State.setEncPipe_clk (s : State) (i : Nat) (x : PipeSt) : (s.setEncPipe i x).clk = s.clk := rfl
@[simp] theorem State.setEncPipe_msix (s : State) (i : Nat) (x : PipeSt) : (s.setEncPipe i x).msix = s.msix := rfl
@[simp] theorem State.setEncPipe_pcie (s : State) (i : Nat) (x : PipeSt) : (s.setEncPipe i x).pcie = s.pcie := rfl
@[simp] theorem State.setEncPipe_mboxes (s : State) (i : Nat) (x : PipeSt) : (s.setEncPipe i x).mboxes = s.mboxes := rfl
@[simp] theorem State.setEncPipe_arrivals (s : State) (i : Nat) (x : PipeSt) : (s.setEncPipe i x).arrivals = s.arrivals := rfl
@[simp] theorem State.setEncPipe_area (s : State) (i : Nat) (x : PipeSt) : (s.setEncPipe i x).area = s.area := rfl
@[simp] theorem State.setEncPipe_nrings (s : State) (i : Nat) (x : PipeSt) : (s.setEncPipe i x).nrings = s.nrings := rfl
@[simp] theorem State.setEncPipe_coalesce (s : State) (i : Nat) (x : PipeSt) : (s.setEncPipe i x).coalesce = s.coalesce := rfl
@[simp] theorem State.setEncPipe_parts (s : State) (i : Nat) (x : PipeSt) : (s.setEncPipe i x).parts = s.parts := rfl
@[simp] theorem State.setEncPipe_grants (s : State) (i : Nat) (x : PipeSt) : (s.setEncPipe i x).grants = s.grants := rfl
@[simp] theorem State.setEncPipe_ranger (s : State) (i : Nat) (x : PipeSt) : (s.setEncPipe i x).ranger = s.ranger := rfl
@[simp] theorem State.setEncPipe_fbk (s : State) (i : Nat) (x : PipeSt) : (s.setEncPipe i x).fbk = s.fbk := rfl
@[simp] theorem State.setEncPipe_hlt (s : State) (i : Nat) (x : PipeSt) : (s.setEncPipe i x).hlt = s.hlt := rfl
@[simp] theorem State.setEncPipe_cvu (s : State) (i : Nat) (x : PipeSt) : (s.setEncPipe i x).cvu = s.cvu := rfl
@[simp] theorem State.setEncPipe_blz (s : State) (i : Nat) (x : PipeSt) : (s.setEncPipe i x).blz = s.blz := rfl
@[simp] theorem State.setEncPipe_time (s : State) (i : Nat) (x : PipeSt) : (s.setEncPipe i x).time = s.time := rfl
@[simp] theorem State.setEncPipe_ldg (s : State) (i : Nat) (x : PipeSt) : (s.setEncPipe i x).ldg = s.ldg := rfl
@[simp] theorem State.setEncPipe_pair (s : State) (i : Nat) (x : PipeSt) : (s.setEncPipe i x).pair = s.pair := rfl
@[simp] theorem State.setEncPipe_lanes (s : State) (i : Nat) (x : PipeSt) : (s.setEncPipe i x).lanes = s.lanes := rfl
@[simp] theorem State.setEncPipe_caps (s : State) (i : Nat) (x : PipeSt) : (s.setEncPipe i x).caps = s.caps := rfl
@[simp] theorem State.setEncPipe_outs (s : State) (i : Nat) (x : PipeSt) : (s.setEncPipe i x).outs = s.outs := rfl
@[simp] theorem State.setEncPipe_stands (s : State) (i : Nat) (x : PipeSt) : (s.setEncPipe i x).stands = s.stands := rfl
@[simp] theorem State.setEncPipe_gate (s : State) (i : Nat) (x : PipeSt) : (s.setEncPipe i x).gate = s.gate := rfl
@[simp] theorem State.setEncPipe_commits (s : State) (i : Nat) (x : PipeSt) : (s.setEncPipe i x).commits = s.commits := rfl
@[simp] theorem State.setEncPipe_groups (s : State) (i : Nat) (x : PipeSt) : (s.setEncPipe i x).groups = s.groups := rfl
@[simp] theorem State.setEncPipe_pools (s : State) (i : Nat) (x : PipeSt) : (s.setEncPipe i x).pools = s.pools := rfl
@[simp] theorem State.setEncPipe_lko (s : State) (i : Nat) (x : PipeSt) : (s.setEncPipe i x).lko = s.lko := rfl
@[simp] theorem State.setEncPipe_regions (s : State) (i : Nat) (x : PipeSt) : (s.setEncPipe i x).regions = s.regions := rfl
@[simp] theorem State.setEncPipe_pol (s : State) (i : Nat) (x : PipeSt) : (s.setEncPipe i x).pol = s.pol := rfl
@[simp] theorem State.setEncPipe_dcqs (s : State) (i : Nat) (x : PipeSt) : (s.setEncPipe i x).dcqs = s.dcqs := rfl
@[simp] theorem State.setEncPipe_strip (s : State) (i : Nat) (x : PipeSt) : (s.setEncPipe i x).strip = s.strip := rfl
@[simp] theorem State.setEncPipe_sys (s : State) (i : Nat) (x : PipeSt) : (s.setEncPipe i x).sys = s.sys := rfl
@[simp] theorem State.setEncPipe_flash (s : State) (i : Nat) (x : PipeSt) : (s.setEncPipe i x).flash = s.flash := rfl
@[simp] theorem State.setEncPipe_queues (s : State) (i : Nat) (x : PipeSt) : (s.setEncPipe i x).queues = s.queues := rfl
@[simp] theorem State.setEncPipe_ports (s : State) (i : Nat) (x : PipeSt) : (s.setEncPipe i x).ports = s.ports := rfl
@[simp] theorem State.setEncPipe_decs (s : State) (i : Nat) (x : PipeSt) : (s.setEncPipe i x).decs = s.decs := rfl
@[simp] theorem State.setEncPipe_decPipes (s : State) (i : Nat) (x : PipeSt) : (s.setEncPipe i x).decPipes = s.decPipes := rfl
@[simp] theorem State.setEncPipe_encs (s : State) (i : Nat) (x : PipeSt) : (s.setEncPipe i x).encs = s.encs := rfl
@[simp] theorem State.setEncPipe_fwPool (s : State) (i : Nat) (x : PipeSt) : (s.setEncPipe i x).fwPool = s.fwPool := rfl
@[simp] theorem State.setEncPipe_emitted (s : State) (i : Nat) (x : PipeSt) : (s.setEncPipe i x).emitted = s.emitted := rfl
@[simp] theorem State.setEncPipe_rd (s : State) (i : Nat) (x : PipeSt) (r : Nat) : (s.setEncPipe i x).rd r = s.rd r := rfl
@[simp] theorem State.setEncPipe_fld (s : State) (i : Nat) (x : PipeSt) (g : Fld) : (s.setEncPipe i x).fld g = s.fld g := rfl
@[simp] theorem State.setEncPipe_isSet (s : State) (i : Nat) (x : PipeSt) (g : Fld) : (s.setEncPipe i x).isSet g = s.isSet g := rfl
@[simp] theorem State.setEncPipe_memByte (s : State) (i : Nat) (x : PipeSt) (k : Nat) : (s.setEncPipe i x).memByte k = s.memByte k := rfl
@[simp] theorem State.setEncPipe_encPipe_same (s : State) (i : Nat) (x : PipeSt) : (s.setEncPipe i x).encPipe i = x := sparseGet_put_same _ _ _ _
theorem State.setEncPipe_encPipe_other (s : State) (i : Nat) (x : PipeSt) {j : Nat} (h : i ≠ j) : (s.setEncPipe i x).encPipe j = s.encPipe j := sparseGet_put_other _ _ _ h

/-! ### setHlt -/

@[simp] theorem State.setHlt_pending (s : State) (x : HltSt) : (s.setHlt x).pending = s.pending := rfl
@[simp] theorem State.setHlt_tick (s : State) (x : HltSt) : (s.setHlt x).tick = s.tick := rfl
@[simp] theorem State.setHlt_fresh (s : State) (x : HltSt) : (s.setHlt x).fresh = s.fresh := rfl
@[simp] theorem State.setHlt_readData (s : State) (x : HltSt) : (s.setHlt x).readData = s.readData := rfl
@[simp] theorem State.setHlt_readPoison (s : State) (x : HltSt) : (s.setHlt x).readPoison = s.readPoison := rfl
@[simp] theorem State.setHlt_raised (s : State) (x : HltSt) : (s.setHlt x).raised = s.raised := rfl
@[simp] theorem State.setHlt_hbm (s : State) (x : HltSt) : (s.setHlt x).hbm = s.hbm := rfl
@[simp] theorem State.setHlt_shadows (s : State) (x : HltSt) : (s.setHlt x).shadows = s.shadows := rfl
@[simp] theorem State.setHlt_regs (s : State) (x : HltSt) : (s.setHlt x).regs = s.regs := rfl
@[simp] theorem State.setHlt_mem (s : State) (x : HltSt) : (s.setHlt x).mem = s.mem := rfl
@[simp] theorem State.setHlt_hostMem (s : State) (x : HltSt) : (s.setHlt x).hostMem = s.hostMem := rfl
@[simp] theorem State.setHlt_clk (s : State) (x : HltSt) : (s.setHlt x).clk = s.clk := rfl
@[simp] theorem State.setHlt_msix (s : State) (x : HltSt) : (s.setHlt x).msix = s.msix := rfl
@[simp] theorem State.setHlt_pcie (s : State) (x : HltSt) : (s.setHlt x).pcie = s.pcie := rfl
@[simp] theorem State.setHlt_mboxes (s : State) (x : HltSt) : (s.setHlt x).mboxes = s.mboxes := rfl
@[simp] theorem State.setHlt_arrivals (s : State) (x : HltSt) : (s.setHlt x).arrivals = s.arrivals := rfl
@[simp] theorem State.setHlt_area (s : State) (x : HltSt) : (s.setHlt x).area = s.area := rfl
@[simp] theorem State.setHlt_nrings (s : State) (x : HltSt) : (s.setHlt x).nrings = s.nrings := rfl
@[simp] theorem State.setHlt_coalesce (s : State) (x : HltSt) : (s.setHlt x).coalesce = s.coalesce := rfl
@[simp] theorem State.setHlt_parts (s : State) (x : HltSt) : (s.setHlt x).parts = s.parts := rfl
@[simp] theorem State.setHlt_grants (s : State) (x : HltSt) : (s.setHlt x).grants = s.grants := rfl
@[simp] theorem State.setHlt_ranger (s : State) (x : HltSt) : (s.setHlt x).ranger = s.ranger := rfl
@[simp] theorem State.setHlt_fbk (s : State) (x : HltSt) : (s.setHlt x).fbk = s.fbk := rfl
@[simp] theorem State.setHlt_cvu (s : State) (x : HltSt) : (s.setHlt x).cvu = s.cvu := rfl
@[simp] theorem State.setHlt_blz (s : State) (x : HltSt) : (s.setHlt x).blz = s.blz := rfl
@[simp] theorem State.setHlt_time (s : State) (x : HltSt) : (s.setHlt x).time = s.time := rfl
@[simp] theorem State.setHlt_ldg (s : State) (x : HltSt) : (s.setHlt x).ldg = s.ldg := rfl
@[simp] theorem State.setHlt_pair (s : State) (x : HltSt) : (s.setHlt x).pair = s.pair := rfl
@[simp] theorem State.setHlt_lanes (s : State) (x : HltSt) : (s.setHlt x).lanes = s.lanes := rfl
@[simp] theorem State.setHlt_caps (s : State) (x : HltSt) : (s.setHlt x).caps = s.caps := rfl
@[simp] theorem State.setHlt_outs (s : State) (x : HltSt) : (s.setHlt x).outs = s.outs := rfl
@[simp] theorem State.setHlt_stands (s : State) (x : HltSt) : (s.setHlt x).stands = s.stands := rfl
@[simp] theorem State.setHlt_gate (s : State) (x : HltSt) : (s.setHlt x).gate = s.gate := rfl
@[simp] theorem State.setHlt_commits (s : State) (x : HltSt) : (s.setHlt x).commits = s.commits := rfl
@[simp] theorem State.setHlt_groups (s : State) (x : HltSt) : (s.setHlt x).groups = s.groups := rfl
@[simp] theorem State.setHlt_pools (s : State) (x : HltSt) : (s.setHlt x).pools = s.pools := rfl
@[simp] theorem State.setHlt_lko (s : State) (x : HltSt) : (s.setHlt x).lko = s.lko := rfl
@[simp] theorem State.setHlt_regions (s : State) (x : HltSt) : (s.setHlt x).regions = s.regions := rfl
@[simp] theorem State.setHlt_pol (s : State) (x : HltSt) : (s.setHlt x).pol = s.pol := rfl
@[simp] theorem State.setHlt_dcqs (s : State) (x : HltSt) : (s.setHlt x).dcqs = s.dcqs := rfl
@[simp] theorem State.setHlt_strip (s : State) (x : HltSt) : (s.setHlt x).strip = s.strip := rfl
@[simp] theorem State.setHlt_sys (s : State) (x : HltSt) : (s.setHlt x).sys = s.sys := rfl
@[simp] theorem State.setHlt_flash (s : State) (x : HltSt) : (s.setHlt x).flash = s.flash := rfl
@[simp] theorem State.setHlt_queues (s : State) (x : HltSt) : (s.setHlt x).queues = s.queues := rfl
@[simp] theorem State.setHlt_ports (s : State) (x : HltSt) : (s.setHlt x).ports = s.ports := rfl
@[simp] theorem State.setHlt_decs (s : State) (x : HltSt) : (s.setHlt x).decs = s.decs := rfl
@[simp] theorem State.setHlt_decPipes (s : State) (x : HltSt) : (s.setHlt x).decPipes = s.decPipes := rfl
@[simp] theorem State.setHlt_encs (s : State) (x : HltSt) : (s.setHlt x).encs = s.encs := rfl
@[simp] theorem State.setHlt_encPipes (s : State) (x : HltSt) : (s.setHlt x).encPipes = s.encPipes := rfl
@[simp] theorem State.setHlt_fwPool (s : State) (x : HltSt) : (s.setHlt x).fwPool = s.fwPool := rfl
@[simp] theorem State.setHlt_emitted (s : State) (x : HltSt) : (s.setHlt x).emitted = s.emitted := rfl
@[simp] theorem State.setHlt_rd (s : State) (x : HltSt) (r : Nat) : (s.setHlt x).rd r = s.rd r := rfl
@[simp] theorem State.setHlt_fld (s : State) (x : HltSt) (g : Fld) : (s.setHlt x).fld g = s.fld g := rfl
@[simp] theorem State.setHlt_isSet (s : State) (x : HltSt) (g : Fld) : (s.setHlt x).isSet g = s.isSet g := rfl
@[simp] theorem State.setHlt_memByte (s : State) (x : HltSt) (k : Nat) : (s.setHlt x).memByte k = s.memByte k := rfl
@[simp] theorem State.setHlt_hlt (s : State) (x : HltSt) : (s.setHlt x).hlt = x := rfl

/-! ### setPol -/

@[simp] theorem State.setPol_pending (s : State) (x : PolSt) : (s.setPol x).pending = s.pending := rfl
@[simp] theorem State.setPol_tick (s : State) (x : PolSt) : (s.setPol x).tick = s.tick := rfl
@[simp] theorem State.setPol_fresh (s : State) (x : PolSt) : (s.setPol x).fresh = s.fresh := rfl
@[simp] theorem State.setPol_readData (s : State) (x : PolSt) : (s.setPol x).readData = s.readData := rfl
@[simp] theorem State.setPol_readPoison (s : State) (x : PolSt) : (s.setPol x).readPoison = s.readPoison := rfl
@[simp] theorem State.setPol_raised (s : State) (x : PolSt) : (s.setPol x).raised = s.raised := rfl
@[simp] theorem State.setPol_hbm (s : State) (x : PolSt) : (s.setPol x).hbm = s.hbm := rfl
@[simp] theorem State.setPol_shadows (s : State) (x : PolSt) : (s.setPol x).shadows = s.shadows := rfl
@[simp] theorem State.setPol_regs (s : State) (x : PolSt) : (s.setPol x).regs = s.regs := rfl
@[simp] theorem State.setPol_mem (s : State) (x : PolSt) : (s.setPol x).mem = s.mem := rfl
@[simp] theorem State.setPol_hostMem (s : State) (x : PolSt) : (s.setPol x).hostMem = s.hostMem := rfl
@[simp] theorem State.setPol_clk (s : State) (x : PolSt) : (s.setPol x).clk = s.clk := rfl
@[simp] theorem State.setPol_msix (s : State) (x : PolSt) : (s.setPol x).msix = s.msix := rfl
@[simp] theorem State.setPol_pcie (s : State) (x : PolSt) : (s.setPol x).pcie = s.pcie := rfl
@[simp] theorem State.setPol_mboxes (s : State) (x : PolSt) : (s.setPol x).mboxes = s.mboxes := rfl
@[simp] theorem State.setPol_arrivals (s : State) (x : PolSt) : (s.setPol x).arrivals = s.arrivals := rfl
@[simp] theorem State.setPol_area (s : State) (x : PolSt) : (s.setPol x).area = s.area := rfl
@[simp] theorem State.setPol_nrings (s : State) (x : PolSt) : (s.setPol x).nrings = s.nrings := rfl
@[simp] theorem State.setPol_coalesce (s : State) (x : PolSt) : (s.setPol x).coalesce = s.coalesce := rfl
@[simp] theorem State.setPol_parts (s : State) (x : PolSt) : (s.setPol x).parts = s.parts := rfl
@[simp] theorem State.setPol_grants (s : State) (x : PolSt) : (s.setPol x).grants = s.grants := rfl
@[simp] theorem State.setPol_ranger (s : State) (x : PolSt) : (s.setPol x).ranger = s.ranger := rfl
@[simp] theorem State.setPol_fbk (s : State) (x : PolSt) : (s.setPol x).fbk = s.fbk := rfl
@[simp] theorem State.setPol_hlt (s : State) (x : PolSt) : (s.setPol x).hlt = s.hlt := rfl
@[simp] theorem State.setPol_cvu (s : State) (x : PolSt) : (s.setPol x).cvu = s.cvu := rfl
@[simp] theorem State.setPol_blz (s : State) (x : PolSt) : (s.setPol x).blz = s.blz := rfl
@[simp] theorem State.setPol_time (s : State) (x : PolSt) : (s.setPol x).time = s.time := rfl
@[simp] theorem State.setPol_ldg (s : State) (x : PolSt) : (s.setPol x).ldg = s.ldg := rfl
@[simp] theorem State.setPol_pair (s : State) (x : PolSt) : (s.setPol x).pair = s.pair := rfl
@[simp] theorem State.setPol_lanes (s : State) (x : PolSt) : (s.setPol x).lanes = s.lanes := rfl
@[simp] theorem State.setPol_caps (s : State) (x : PolSt) : (s.setPol x).caps = s.caps := rfl
@[simp] theorem State.setPol_outs (s : State) (x : PolSt) : (s.setPol x).outs = s.outs := rfl
@[simp] theorem State.setPol_stands (s : State) (x : PolSt) : (s.setPol x).stands = s.stands := rfl
@[simp] theorem State.setPol_gate (s : State) (x : PolSt) : (s.setPol x).gate = s.gate := rfl
@[simp] theorem State.setPol_commits (s : State) (x : PolSt) : (s.setPol x).commits = s.commits := rfl
@[simp] theorem State.setPol_groups (s : State) (x : PolSt) : (s.setPol x).groups = s.groups := rfl
@[simp] theorem State.setPol_pools (s : State) (x : PolSt) : (s.setPol x).pools = s.pools := rfl
@[simp] theorem State.setPol_lko (s : State) (x : PolSt) : (s.setPol x).lko = s.lko := rfl
@[simp] theorem State.setPol_regions (s : State) (x : PolSt) : (s.setPol x).regions = s.regions := rfl
@[simp] theorem State.setPol_dcqs (s : State) (x : PolSt) : (s.setPol x).dcqs = s.dcqs := rfl
@[simp] theorem State.setPol_strip (s : State) (x : PolSt) : (s.setPol x).strip = s.strip := rfl
@[simp] theorem State.setPol_sys (s : State) (x : PolSt) : (s.setPol x).sys = s.sys := rfl
@[simp] theorem State.setPol_flash (s : State) (x : PolSt) : (s.setPol x).flash = s.flash := rfl
@[simp] theorem State.setPol_queues (s : State) (x : PolSt) : (s.setPol x).queues = s.queues := rfl
@[simp] theorem State.setPol_ports (s : State) (x : PolSt) : (s.setPol x).ports = s.ports := rfl
@[simp] theorem State.setPol_decs (s : State) (x : PolSt) : (s.setPol x).decs = s.decs := rfl
@[simp] theorem State.setPol_decPipes (s : State) (x : PolSt) : (s.setPol x).decPipes = s.decPipes := rfl
@[simp] theorem State.setPol_encs (s : State) (x : PolSt) : (s.setPol x).encs = s.encs := rfl
@[simp] theorem State.setPol_encPipes (s : State) (x : PolSt) : (s.setPol x).encPipes = s.encPipes := rfl
@[simp] theorem State.setPol_fwPool (s : State) (x : PolSt) : (s.setPol x).fwPool = s.fwPool := rfl
@[simp] theorem State.setPol_emitted (s : State) (x : PolSt) : (s.setPol x).emitted = s.emitted := rfl
@[simp] theorem State.setPol_rd (s : State) (x : PolSt) (r : Nat) : (s.setPol x).rd r = s.rd r := rfl
@[simp] theorem State.setPol_fld (s : State) (x : PolSt) (g : Fld) : (s.setPol x).fld g = s.fld g := rfl
@[simp] theorem State.setPol_isSet (s : State) (x : PolSt) (g : Fld) : (s.setPol x).isSet g = s.isSet g := rfl
@[simp] theorem State.setPol_memByte (s : State) (x : PolSt) (k : Nat) : (s.setPol x).memByte k = s.memByte k := rfl
@[simp] theorem State.setPol_pol (s : State) (x : PolSt) : (s.setPol x).pol = x := rfl

/-! ### setPair -/

@[simp] theorem State.setPair_pending (s : State) (x : PairSt) : (s.setPair x).pending = s.pending := rfl
@[simp] theorem State.setPair_tick (s : State) (x : PairSt) : (s.setPair x).tick = s.tick := rfl
@[simp] theorem State.setPair_fresh (s : State) (x : PairSt) : (s.setPair x).fresh = s.fresh := rfl
@[simp] theorem State.setPair_readData (s : State) (x : PairSt) : (s.setPair x).readData = s.readData := rfl
@[simp] theorem State.setPair_readPoison (s : State) (x : PairSt) : (s.setPair x).readPoison = s.readPoison := rfl
@[simp] theorem State.setPair_raised (s : State) (x : PairSt) : (s.setPair x).raised = s.raised := rfl
@[simp] theorem State.setPair_hbm (s : State) (x : PairSt) : (s.setPair x).hbm = s.hbm := rfl
@[simp] theorem State.setPair_shadows (s : State) (x : PairSt) : (s.setPair x).shadows = s.shadows := rfl
@[simp] theorem State.setPair_regs (s : State) (x : PairSt) : (s.setPair x).regs = s.regs := rfl
@[simp] theorem State.setPair_mem (s : State) (x : PairSt) : (s.setPair x).mem = s.mem := rfl
@[simp] theorem State.setPair_hostMem (s : State) (x : PairSt) : (s.setPair x).hostMem = s.hostMem := rfl
@[simp] theorem State.setPair_clk (s : State) (x : PairSt) : (s.setPair x).clk = s.clk := rfl
@[simp] theorem State.setPair_msix (s : State) (x : PairSt) : (s.setPair x).msix = s.msix := rfl
@[simp] theorem State.setPair_pcie (s : State) (x : PairSt) : (s.setPair x).pcie = s.pcie := rfl
@[simp] theorem State.setPair_mboxes (s : State) (x : PairSt) : (s.setPair x).mboxes = s.mboxes := rfl
@[simp] theorem State.setPair_arrivals (s : State) (x : PairSt) : (s.setPair x).arrivals = s.arrivals := rfl
@[simp] theorem State.setPair_area (s : State) (x : PairSt) : (s.setPair x).area = s.area := rfl
@[simp] theorem State.setPair_nrings (s : State) (x : PairSt) : (s.setPair x).nrings = s.nrings := rfl
@[simp] theorem State.setPair_coalesce (s : State) (x : PairSt) : (s.setPair x).coalesce = s.coalesce := rfl
@[simp] theorem State.setPair_parts (s : State) (x : PairSt) : (s.setPair x).parts = s.parts := rfl
@[simp] theorem State.setPair_grants (s : State) (x : PairSt) : (s.setPair x).grants = s.grants := rfl
@[simp] theorem State.setPair_ranger (s : State) (x : PairSt) : (s.setPair x).ranger = s.ranger := rfl
@[simp] theorem State.setPair_fbk (s : State) (x : PairSt) : (s.setPair x).fbk = s.fbk := rfl
@[simp] theorem State.setPair_hlt (s : State) (x : PairSt) : (s.setPair x).hlt = s.hlt := rfl
@[simp] theorem State.setPair_cvu (s : State) (x : PairSt) : (s.setPair x).cvu = s.cvu := rfl
@[simp] theorem State.setPair_blz (s : State) (x : PairSt) : (s.setPair x).blz = s.blz := rfl
@[simp] theorem State.setPair_time (s : State) (x : PairSt) : (s.setPair x).time = s.time := rfl
@[simp] theorem State.setPair_ldg (s : State) (x : PairSt) : (s.setPair x).ldg = s.ldg := rfl
@[simp] theorem State.setPair_lanes (s : State) (x : PairSt) : (s.setPair x).lanes = s.lanes := rfl
@[simp] theorem State.setPair_caps (s : State) (x : PairSt) : (s.setPair x).caps = s.caps := rfl
@[simp] theorem State.setPair_outs (s : State) (x : PairSt) : (s.setPair x).outs = s.outs := rfl
@[simp] theorem State.setPair_stands (s : State) (x : PairSt) : (s.setPair x).stands = s.stands := rfl
@[simp] theorem State.setPair_gate (s : State) (x : PairSt) : (s.setPair x).gate = s.gate := rfl
@[simp] theorem State.setPair_commits (s : State) (x : PairSt) : (s.setPair x).commits = s.commits := rfl
@[simp] theorem State.setPair_groups (s : State) (x : PairSt) : (s.setPair x).groups = s.groups := rfl
@[simp] theorem State.setPair_pools (s : State) (x : PairSt) : (s.setPair x).pools = s.pools := rfl
@[simp] theorem State.setPair_lko (s : State) (x : PairSt) : (s.setPair x).lko = s.lko := rfl
@[simp] theorem State.setPair_regions (s : State) (x : PairSt) : (s.setPair x).regions = s.regions := rfl
@[simp] theorem State.setPair_pol (s : State) (x : PairSt) : (s.setPair x).pol = s.pol := rfl
@[simp] theorem State.setPair_dcqs (s : State) (x : PairSt) : (s.setPair x).dcqs = s.dcqs := rfl
@[simp] theorem State.setPair_strip (s : State) (x : PairSt) : (s.setPair x).strip = s.strip := rfl
@[simp] theorem State.setPair_sys (s : State) (x : PairSt) : (s.setPair x).sys = s.sys := rfl
@[simp] theorem State.setPair_flash (s : State) (x : PairSt) : (s.setPair x).flash = s.flash := rfl
@[simp] theorem State.setPair_queues (s : State) (x : PairSt) : (s.setPair x).queues = s.queues := rfl
@[simp] theorem State.setPair_ports (s : State) (x : PairSt) : (s.setPair x).ports = s.ports := rfl
@[simp] theorem State.setPair_decs (s : State) (x : PairSt) : (s.setPair x).decs = s.decs := rfl
@[simp] theorem State.setPair_decPipes (s : State) (x : PairSt) : (s.setPair x).decPipes = s.decPipes := rfl
@[simp] theorem State.setPair_encs (s : State) (x : PairSt) : (s.setPair x).encs = s.encs := rfl
@[simp] theorem State.setPair_encPipes (s : State) (x : PairSt) : (s.setPair x).encPipes = s.encPipes := rfl
@[simp] theorem State.setPair_fwPool (s : State) (x : PairSt) : (s.setPair x).fwPool = s.fwPool := rfl
@[simp] theorem State.setPair_emitted (s : State) (x : PairSt) : (s.setPair x).emitted = s.emitted := rfl
@[simp] theorem State.setPair_rd (s : State) (x : PairSt) (r : Nat) : (s.setPair x).rd r = s.rd r := rfl
@[simp] theorem State.setPair_fld (s : State) (x : PairSt) (g : Fld) : (s.setPair x).fld g = s.fld g := rfl
@[simp] theorem State.setPair_isSet (s : State) (x : PairSt) (g : Fld) : (s.setPair x).isSet g = s.isSet g := rfl
@[simp] theorem State.setPair_memByte (s : State) (x : PairSt) (k : Nat) : (s.setPair x).memByte k = s.memByte k := rfl
@[simp] theorem State.setPair_pair (s : State) (x : PairSt) : (s.setPair x).pair = x := rfl

/-! ### setSys -/

@[simp] theorem State.setSys_pending (s : State) (x : SysSt) : (s.setSys x).pending = s.pending := rfl
@[simp] theorem State.setSys_tick (s : State) (x : SysSt) : (s.setSys x).tick = s.tick := rfl
@[simp] theorem State.setSys_fresh (s : State) (x : SysSt) : (s.setSys x).fresh = s.fresh := rfl
@[simp] theorem State.setSys_readData (s : State) (x : SysSt) : (s.setSys x).readData = s.readData := rfl
@[simp] theorem State.setSys_readPoison (s : State) (x : SysSt) : (s.setSys x).readPoison = s.readPoison := rfl
@[simp] theorem State.setSys_raised (s : State) (x : SysSt) : (s.setSys x).raised = s.raised := rfl
@[simp] theorem State.setSys_hbm (s : State) (x : SysSt) : (s.setSys x).hbm = s.hbm := rfl
@[simp] theorem State.setSys_shadows (s : State) (x : SysSt) : (s.setSys x).shadows = s.shadows := rfl
@[simp] theorem State.setSys_regs (s : State) (x : SysSt) : (s.setSys x).regs = s.regs := rfl
@[simp] theorem State.setSys_mem (s : State) (x : SysSt) : (s.setSys x).mem = s.mem := rfl
@[simp] theorem State.setSys_hostMem (s : State) (x : SysSt) : (s.setSys x).hostMem = s.hostMem := rfl
@[simp] theorem State.setSys_clk (s : State) (x : SysSt) : (s.setSys x).clk = s.clk := rfl
@[simp] theorem State.setSys_msix (s : State) (x : SysSt) : (s.setSys x).msix = s.msix := rfl
@[simp] theorem State.setSys_pcie (s : State) (x : SysSt) : (s.setSys x).pcie = s.pcie := rfl
@[simp] theorem State.setSys_mboxes (s : State) (x : SysSt) : (s.setSys x).mboxes = s.mboxes := rfl
@[simp] theorem State.setSys_arrivals (s : State) (x : SysSt) : (s.setSys x).arrivals = s.arrivals := rfl
@[simp] theorem State.setSys_area (s : State) (x : SysSt) : (s.setSys x).area = s.area := rfl
@[simp] theorem State.setSys_nrings (s : State) (x : SysSt) : (s.setSys x).nrings = s.nrings := rfl
@[simp] theorem State.setSys_coalesce (s : State) (x : SysSt) : (s.setSys x).coalesce = s.coalesce := rfl
@[simp] theorem State.setSys_parts (s : State) (x : SysSt) : (s.setSys x).parts = s.parts := rfl
@[simp] theorem State.setSys_grants (s : State) (x : SysSt) : (s.setSys x).grants = s.grants := rfl
@[simp] theorem State.setSys_ranger (s : State) (x : SysSt) : (s.setSys x).ranger = s.ranger := rfl
@[simp] theorem State.setSys_fbk (s : State) (x : SysSt) : (s.setSys x).fbk = s.fbk := rfl
@[simp] theorem State.setSys_hlt (s : State) (x : SysSt) : (s.setSys x).hlt = s.hlt := rfl
@[simp] theorem State.setSys_cvu (s : State) (x : SysSt) : (s.setSys x).cvu = s.cvu := rfl
@[simp] theorem State.setSys_blz (s : State) (x : SysSt) : (s.setSys x).blz = s.blz := rfl
@[simp] theorem State.setSys_time (s : State) (x : SysSt) : (s.setSys x).time = s.time := rfl
@[simp] theorem State.setSys_ldg (s : State) (x : SysSt) : (s.setSys x).ldg = s.ldg := rfl
@[simp] theorem State.setSys_pair (s : State) (x : SysSt) : (s.setSys x).pair = s.pair := rfl
@[simp] theorem State.setSys_lanes (s : State) (x : SysSt) : (s.setSys x).lanes = s.lanes := rfl
@[simp] theorem State.setSys_caps (s : State) (x : SysSt) : (s.setSys x).caps = s.caps := rfl
@[simp] theorem State.setSys_outs (s : State) (x : SysSt) : (s.setSys x).outs = s.outs := rfl
@[simp] theorem State.setSys_stands (s : State) (x : SysSt) : (s.setSys x).stands = s.stands := rfl
@[simp] theorem State.setSys_gate (s : State) (x : SysSt) : (s.setSys x).gate = s.gate := rfl
@[simp] theorem State.setSys_commits (s : State) (x : SysSt) : (s.setSys x).commits = s.commits := rfl
@[simp] theorem State.setSys_groups (s : State) (x : SysSt) : (s.setSys x).groups = s.groups := rfl
@[simp] theorem State.setSys_pools (s : State) (x : SysSt) : (s.setSys x).pools = s.pools := rfl
@[simp] theorem State.setSys_lko (s : State) (x : SysSt) : (s.setSys x).lko = s.lko := rfl
@[simp] theorem State.setSys_regions (s : State) (x : SysSt) : (s.setSys x).regions = s.regions := rfl
@[simp] theorem State.setSys_pol (s : State) (x : SysSt) : (s.setSys x).pol = s.pol := rfl
@[simp] theorem State.setSys_dcqs (s : State) (x : SysSt) : (s.setSys x).dcqs = s.dcqs := rfl
@[simp] theorem State.setSys_strip (s : State) (x : SysSt) : (s.setSys x).strip = s.strip := rfl
@[simp] theorem State.setSys_flash (s : State) (x : SysSt) : (s.setSys x).flash = s.flash := rfl
@[simp] theorem State.setSys_queues (s : State) (x : SysSt) : (s.setSys x).queues = s.queues := rfl
@[simp] theorem State.setSys_ports (s : State) (x : SysSt) : (s.setSys x).ports = s.ports := rfl
@[simp] theorem State.setSys_decs (s : State) (x : SysSt) : (s.setSys x).decs = s.decs := rfl
@[simp] theorem State.setSys_decPipes (s : State) (x : SysSt) : (s.setSys x).decPipes = s.decPipes := rfl
@[simp] theorem State.setSys_encs (s : State) (x : SysSt) : (s.setSys x).encs = s.encs := rfl
@[simp] theorem State.setSys_encPipes (s : State) (x : SysSt) : (s.setSys x).encPipes = s.encPipes := rfl
@[simp] theorem State.setSys_fwPool (s : State) (x : SysSt) : (s.setSys x).fwPool = s.fwPool := rfl
@[simp] theorem State.setSys_emitted (s : State) (x : SysSt) : (s.setSys x).emitted = s.emitted := rfl
@[simp] theorem State.setSys_rd (s : State) (x : SysSt) (r : Nat) : (s.setSys x).rd r = s.rd r := rfl
@[simp] theorem State.setSys_fld (s : State) (x : SysSt) (g : Fld) : (s.setSys x).fld g = s.fld g := rfl
@[simp] theorem State.setSys_isSet (s : State) (x : SysSt) (g : Fld) : (s.setSys x).isSet g = s.isSet g := rfl
@[simp] theorem State.setSys_memByte (s : State) (x : SysSt) (k : Nat) : (s.setSys x).memByte k = s.memByte k := rfl
@[simp] theorem State.setSys_sys (s : State) (x : SysSt) : (s.setSys x).sys = x := rfl

/-! ### setBlz -/

@[simp] theorem State.setBlz_pending (s : State) (x : BlzSt) : (s.setBlz x).pending = s.pending := rfl
@[simp] theorem State.setBlz_tick (s : State) (x : BlzSt) : (s.setBlz x).tick = s.tick := rfl
@[simp] theorem State.setBlz_fresh (s : State) (x : BlzSt) : (s.setBlz x).fresh = s.fresh := rfl
@[simp] theorem State.setBlz_readData (s : State) (x : BlzSt) : (s.setBlz x).readData = s.readData := rfl
@[simp] theorem State.setBlz_readPoison (s : State) (x : BlzSt) : (s.setBlz x).readPoison = s.readPoison := rfl
@[simp] theorem State.setBlz_raised (s : State) (x : BlzSt) : (s.setBlz x).raised = s.raised := rfl
@[simp] theorem State.setBlz_hbm (s : State) (x : BlzSt) : (s.setBlz x).hbm = s.hbm := rfl
@[simp] theorem State.setBlz_shadows (s : State) (x : BlzSt) : (s.setBlz x).shadows = s.shadows := rfl
@[simp] theorem State.setBlz_regs (s : State) (x : BlzSt) : (s.setBlz x).regs = s.regs := rfl
@[simp] theorem State.setBlz_mem (s : State) (x : BlzSt) : (s.setBlz x).mem = s.mem := rfl
@[simp] theorem State.setBlz_hostMem (s : State) (x : BlzSt) : (s.setBlz x).hostMem = s.hostMem := rfl
@[simp] theorem State.setBlz_clk (s : State) (x : BlzSt) : (s.setBlz x).clk = s.clk := rfl
@[simp] theorem State.setBlz_msix (s : State) (x : BlzSt) : (s.setBlz x).msix = s.msix := rfl
@[simp] theorem State.setBlz_pcie (s : State) (x : BlzSt) : (s.setBlz x).pcie = s.pcie := rfl
@[simp] theorem State.setBlz_mboxes (s : State) (x : BlzSt) : (s.setBlz x).mboxes = s.mboxes := rfl
@[simp] theorem State.setBlz_arrivals (s : State) (x : BlzSt) : (s.setBlz x).arrivals = s.arrivals := rfl
@[simp] theorem State.setBlz_area (s : State) (x : BlzSt) : (s.setBlz x).area = s.area := rfl
@[simp] theorem State.setBlz_nrings (s : State) (x : BlzSt) : (s.setBlz x).nrings = s.nrings := rfl
@[simp] theorem State.setBlz_coalesce (s : State) (x : BlzSt) : (s.setBlz x).coalesce = s.coalesce := rfl
@[simp] theorem State.setBlz_parts (s : State) (x : BlzSt) : (s.setBlz x).parts = s.parts := rfl
@[simp] theorem State.setBlz_grants (s : State) (x : BlzSt) : (s.setBlz x).grants = s.grants := rfl
@[simp] theorem State.setBlz_ranger (s : State) (x : BlzSt) : (s.setBlz x).ranger = s.ranger := rfl
@[simp] theorem State.setBlz_fbk (s : State) (x : BlzSt) : (s.setBlz x).fbk = s.fbk := rfl
@[simp] theorem State.setBlz_hlt (s : State) (x : BlzSt) : (s.setBlz x).hlt = s.hlt := rfl
@[simp] theorem State.setBlz_cvu (s : State) (x : BlzSt) : (s.setBlz x).cvu = s.cvu := rfl
@[simp] theorem State.setBlz_time (s : State) (x : BlzSt) : (s.setBlz x).time = s.time := rfl
@[simp] theorem State.setBlz_ldg (s : State) (x : BlzSt) : (s.setBlz x).ldg = s.ldg := rfl
@[simp] theorem State.setBlz_pair (s : State) (x : BlzSt) : (s.setBlz x).pair = s.pair := rfl
@[simp] theorem State.setBlz_lanes (s : State) (x : BlzSt) : (s.setBlz x).lanes = s.lanes := rfl
@[simp] theorem State.setBlz_caps (s : State) (x : BlzSt) : (s.setBlz x).caps = s.caps := rfl
@[simp] theorem State.setBlz_outs (s : State) (x : BlzSt) : (s.setBlz x).outs = s.outs := rfl
@[simp] theorem State.setBlz_stands (s : State) (x : BlzSt) : (s.setBlz x).stands = s.stands := rfl
@[simp] theorem State.setBlz_gate (s : State) (x : BlzSt) : (s.setBlz x).gate = s.gate := rfl
@[simp] theorem State.setBlz_commits (s : State) (x : BlzSt) : (s.setBlz x).commits = s.commits := rfl
@[simp] theorem State.setBlz_groups (s : State) (x : BlzSt) : (s.setBlz x).groups = s.groups := rfl
@[simp] theorem State.setBlz_pools (s : State) (x : BlzSt) : (s.setBlz x).pools = s.pools := rfl
@[simp] theorem State.setBlz_lko (s : State) (x : BlzSt) : (s.setBlz x).lko = s.lko := rfl
@[simp] theorem State.setBlz_regions (s : State) (x : BlzSt) : (s.setBlz x).regions = s.regions := rfl
@[simp] theorem State.setBlz_pol (s : State) (x : BlzSt) : (s.setBlz x).pol = s.pol := rfl
@[simp] theorem State.setBlz_dcqs (s : State) (x : BlzSt) : (s.setBlz x).dcqs = s.dcqs := rfl
@[simp] theorem State.setBlz_strip (s : State) (x : BlzSt) : (s.setBlz x).strip = s.strip := rfl
@[simp] theorem State.setBlz_sys (s : State) (x : BlzSt) : (s.setBlz x).sys = s.sys := rfl
@[simp] theorem State.setBlz_flash (s : State) (x : BlzSt) : (s.setBlz x).flash = s.flash := rfl
@[simp] theorem State.setBlz_queues (s : State) (x : BlzSt) : (s.setBlz x).queues = s.queues := rfl
@[simp] theorem State.setBlz_ports (s : State) (x : BlzSt) : (s.setBlz x).ports = s.ports := rfl
@[simp] theorem State.setBlz_decs (s : State) (x : BlzSt) : (s.setBlz x).decs = s.decs := rfl
@[simp] theorem State.setBlz_decPipes (s : State) (x : BlzSt) : (s.setBlz x).decPipes = s.decPipes := rfl
@[simp] theorem State.setBlz_encs (s : State) (x : BlzSt) : (s.setBlz x).encs = s.encs := rfl
@[simp] theorem State.setBlz_encPipes (s : State) (x : BlzSt) : (s.setBlz x).encPipes = s.encPipes := rfl
@[simp] theorem State.setBlz_fwPool (s : State) (x : BlzSt) : (s.setBlz x).fwPool = s.fwPool := rfl
@[simp] theorem State.setBlz_emitted (s : State) (x : BlzSt) : (s.setBlz x).emitted = s.emitted := rfl
@[simp] theorem State.setBlz_rd (s : State) (x : BlzSt) (r : Nat) : (s.setBlz x).rd r = s.rd r := rfl
@[simp] theorem State.setBlz_fld (s : State) (x : BlzSt) (g : Fld) : (s.setBlz x).fld g = s.fld g := rfl
@[simp] theorem State.setBlz_isSet (s : State) (x : BlzSt) (g : Fld) : (s.setBlz x).isSet g = s.isSet g := rfl
@[simp] theorem State.setBlz_memByte (s : State) (x : BlzSt) (k : Nat) : (s.setBlz x).memByte k = s.memByte k := rfl
@[simp] theorem State.setBlz_blz (s : State) (x : BlzSt) : (s.setBlz x).blz = x := rfl

/-! ### setStrip -/

@[simp] theorem State.setStrip_pending (s : State) (x : StripSt) : (s.setStrip x).pending = s.pending := rfl
@[simp] theorem State.setStrip_tick (s : State) (x : StripSt) : (s.setStrip x).tick = s.tick := rfl
@[simp] theorem State.setStrip_fresh (s : State) (x : StripSt) : (s.setStrip x).fresh = s.fresh := rfl
@[simp] theorem State.setStrip_readData (s : State) (x : StripSt) : (s.setStrip x).readData = s.readData := rfl
@[simp] theorem State.setStrip_readPoison (s : State) (x : StripSt) : (s.setStrip x).readPoison = s.readPoison := rfl
@[simp] theorem State.setStrip_raised (s : State) (x : StripSt) : (s.setStrip x).raised = s.raised := rfl
@[simp] theorem State.setStrip_hbm (s : State) (x : StripSt) : (s.setStrip x).hbm = s.hbm := rfl
@[simp] theorem State.setStrip_shadows (s : State) (x : StripSt) : (s.setStrip x).shadows = s.shadows := rfl
@[simp] theorem State.setStrip_regs (s : State) (x : StripSt) : (s.setStrip x).regs = s.regs := rfl
@[simp] theorem State.setStrip_mem (s : State) (x : StripSt) : (s.setStrip x).mem = s.mem := rfl
@[simp] theorem State.setStrip_hostMem (s : State) (x : StripSt) : (s.setStrip x).hostMem = s.hostMem := rfl
@[simp] theorem State.setStrip_clk (s : State) (x : StripSt) : (s.setStrip x).clk = s.clk := rfl
@[simp] theorem State.setStrip_msix (s : State) (x : StripSt) : (s.setStrip x).msix = s.msix := rfl
@[simp] theorem State.setStrip_pcie (s : State) (x : StripSt) : (s.setStrip x).pcie = s.pcie := rfl
@[simp] theorem State.setStrip_mboxes (s : State) (x : StripSt) : (s.setStrip x).mboxes = s.mboxes := rfl
@[simp] theorem State.setStrip_arrivals (s : State) (x : StripSt) : (s.setStrip x).arrivals = s.arrivals := rfl
@[simp] theorem State.setStrip_area (s : State) (x : StripSt) : (s.setStrip x).area = s.area := rfl
@[simp] theorem State.setStrip_nrings (s : State) (x : StripSt) : (s.setStrip x).nrings = s.nrings := rfl
@[simp] theorem State.setStrip_coalesce (s : State) (x : StripSt) : (s.setStrip x).coalesce = s.coalesce := rfl
@[simp] theorem State.setStrip_parts (s : State) (x : StripSt) : (s.setStrip x).parts = s.parts := rfl
@[simp] theorem State.setStrip_grants (s : State) (x : StripSt) : (s.setStrip x).grants = s.grants := rfl
@[simp] theorem State.setStrip_ranger (s : State) (x : StripSt) : (s.setStrip x).ranger = s.ranger := rfl
@[simp] theorem State.setStrip_fbk (s : State) (x : StripSt) : (s.setStrip x).fbk = s.fbk := rfl
@[simp] theorem State.setStrip_hlt (s : State) (x : StripSt) : (s.setStrip x).hlt = s.hlt := rfl
@[simp] theorem State.setStrip_cvu (s : State) (x : StripSt) : (s.setStrip x).cvu = s.cvu := rfl
@[simp] theorem State.setStrip_blz (s : State) (x : StripSt) : (s.setStrip x).blz = s.blz := rfl
@[simp] theorem State.setStrip_time (s : State) (x : StripSt) : (s.setStrip x).time = s.time := rfl
@[simp] theorem State.setStrip_ldg (s : State) (x : StripSt) : (s.setStrip x).ldg = s.ldg := rfl
@[simp] theorem State.setStrip_pair (s : State) (x : StripSt) : (s.setStrip x).pair = s.pair := rfl
@[simp] theorem State.setStrip_lanes (s : State) (x : StripSt) : (s.setStrip x).lanes = s.lanes := rfl
@[simp] theorem State.setStrip_caps (s : State) (x : StripSt) : (s.setStrip x).caps = s.caps := rfl
@[simp] theorem State.setStrip_outs (s : State) (x : StripSt) : (s.setStrip x).outs = s.outs := rfl
@[simp] theorem State.setStrip_stands (s : State) (x : StripSt) : (s.setStrip x).stands = s.stands := rfl
@[simp] theorem State.setStrip_gate (s : State) (x : StripSt) : (s.setStrip x).gate = s.gate := rfl
@[simp] theorem State.setStrip_commits (s : State) (x : StripSt) : (s.setStrip x).commits = s.commits := rfl
@[simp] theorem State.setStrip_groups (s : State) (x : StripSt) : (s.setStrip x).groups = s.groups := rfl
@[simp] theorem State.setStrip_pools (s : State) (x : StripSt) : (s.setStrip x).pools = s.pools := rfl
@[simp] theorem State.setStrip_lko (s : State) (x : StripSt) : (s.setStrip x).lko = s.lko := rfl
@[simp] theorem State.setStrip_regions (s : State) (x : StripSt) : (s.setStrip x).regions = s.regions := rfl
@[simp] theorem State.setStrip_pol (s : State) (x : StripSt) : (s.setStrip x).pol = s.pol := rfl
@[simp] theorem State.setStrip_dcqs (s : State) (x : StripSt) : (s.setStrip x).dcqs = s.dcqs := rfl
@[simp] theorem State.setStrip_sys (s : State) (x : StripSt) : (s.setStrip x).sys = s.sys := rfl
@[simp] theorem State.setStrip_flash (s : State) (x : StripSt) : (s.setStrip x).flash = s.flash := rfl
@[simp] theorem State.setStrip_queues (s : State) (x : StripSt) : (s.setStrip x).queues = s.queues := rfl
@[simp] theorem State.setStrip_ports (s : State) (x : StripSt) : (s.setStrip x).ports = s.ports := rfl
@[simp] theorem State.setStrip_decs (s : State) (x : StripSt) : (s.setStrip x).decs = s.decs := rfl
@[simp] theorem State.setStrip_decPipes (s : State) (x : StripSt) : (s.setStrip x).decPipes = s.decPipes := rfl
@[simp] theorem State.setStrip_encs (s : State) (x : StripSt) : (s.setStrip x).encs = s.encs := rfl
@[simp] theorem State.setStrip_encPipes (s : State) (x : StripSt) : (s.setStrip x).encPipes = s.encPipes := rfl
@[simp] theorem State.setStrip_fwPool (s : State) (x : StripSt) : (s.setStrip x).fwPool = s.fwPool := rfl
@[simp] theorem State.setStrip_emitted (s : State) (x : StripSt) : (s.setStrip x).emitted = s.emitted := rfl
@[simp] theorem State.setStrip_rd (s : State) (x : StripSt) (r : Nat) : (s.setStrip x).rd r = s.rd r := rfl
@[simp] theorem State.setStrip_fld (s : State) (x : StripSt) (g : Fld) : (s.setStrip x).fld g = s.fld g := rfl
@[simp] theorem State.setStrip_isSet (s : State) (x : StripSt) (g : Fld) : (s.setStrip x).isSet g = s.isSet g := rfl
@[simp] theorem State.setStrip_memByte (s : State) (x : StripSt) (k : Nat) : (s.setStrip x).memByte k = s.memByte k := rfl
@[simp] theorem State.setStrip_strip (s : State) (x : StripSt) : (s.setStrip x).strip = x := rfl

/-! ### setRanger -/

@[simp] theorem State.setRanger_pending (s : State) (x : RangerSt) : (s.setRanger x).pending = s.pending := rfl
@[simp] theorem State.setRanger_tick (s : State) (x : RangerSt) : (s.setRanger x).tick = s.tick := rfl
@[simp] theorem State.setRanger_fresh (s : State) (x : RangerSt) : (s.setRanger x).fresh = s.fresh := rfl
@[simp] theorem State.setRanger_readData (s : State) (x : RangerSt) : (s.setRanger x).readData = s.readData := rfl
@[simp] theorem State.setRanger_readPoison (s : State) (x : RangerSt) : (s.setRanger x).readPoison = s.readPoison := rfl
@[simp] theorem State.setRanger_raised (s : State) (x : RangerSt) : (s.setRanger x).raised = s.raised := rfl
@[simp] theorem State.setRanger_hbm (s : State) (x : RangerSt) : (s.setRanger x).hbm = s.hbm := rfl
@[simp] theorem State.setRanger_shadows (s : State) (x : RangerSt) : (s.setRanger x).shadows = s.shadows := rfl
@[simp] theorem State.setRanger_regs (s : State) (x : RangerSt) : (s.setRanger x).regs = s.regs := rfl
@[simp] theorem State.setRanger_mem (s : State) (x : RangerSt) : (s.setRanger x).mem = s.mem := rfl
@[simp] theorem State.setRanger_hostMem (s : State) (x : RangerSt) : (s.setRanger x).hostMem = s.hostMem := rfl
@[simp] theorem State.setRanger_clk (s : State) (x : RangerSt) : (s.setRanger x).clk = s.clk := rfl
@[simp] theorem State.setRanger_msix (s : State) (x : RangerSt) : (s.setRanger x).msix = s.msix := rfl
@[simp] theorem State.setRanger_pcie (s : State) (x : RangerSt) : (s.setRanger x).pcie = s.pcie := rfl
@[simp] theorem State.setRanger_mboxes (s : State) (x : RangerSt) : (s.setRanger x).mboxes = s.mboxes := rfl
@[simp] theorem State.setRanger_arrivals (s : State) (x : RangerSt) : (s.setRanger x).arrivals = s.arrivals := rfl
@[simp] theorem State.setRanger_area (s : State) (x : RangerSt) : (s.setRanger x).area = s.area := rfl
@[simp] theorem State.setRanger_nrings (s : State) (x : RangerSt) : (s.setRanger x).nrings = s.nrings := rfl
@[simp] theorem State.setRanger_coalesce (s : State) (x : RangerSt) : (s.setRanger x).coalesce = s.coalesce := rfl
@[simp] theorem State.setRanger_parts (s : State) (x : RangerSt) : (s.setRanger x).parts = s.parts := rfl
@[simp] theorem State.setRanger_grants (s : State) (x : RangerSt) : (s.setRanger x).grants = s.grants := rfl
@[simp] theorem State.setRanger_fbk (s : State) (x : RangerSt) : (s.setRanger x).fbk = s.fbk := rfl
@[simp] theorem State.setRanger_hlt (s : State) (x : RangerSt) : (s.setRanger x).hlt = s.hlt := rfl
@[simp] theorem State.setRanger_cvu (s : State) (x : RangerSt) : (s.setRanger x).cvu = s.cvu := rfl
@[simp] theorem State.setRanger_blz (s : State) (x : RangerSt) : (s.setRanger x).blz = s.blz := rfl
@[simp] theorem State.setRanger_time (s : State) (x : RangerSt) : (s.setRanger x).time = s.time := rfl
@[simp] theorem State.setRanger_ldg (s : State) (x : RangerSt) : (s.setRanger x).ldg = s.ldg := rfl
@[simp] theorem State.setRanger_pair (s : State) (x : RangerSt) : (s.setRanger x).pair = s.pair := rfl
@[simp] theorem State.setRanger_lanes (s : State) (x : RangerSt) : (s.setRanger x).lanes = s.lanes := rfl
@[simp] theorem State.setRanger_caps (s : State) (x : RangerSt) : (s.setRanger x).caps = s.caps := rfl
@[simp] theorem State.setRanger_outs (s : State) (x : RangerSt) : (s.setRanger x).outs = s.outs := rfl
@[simp] theorem State.setRanger_stands (s : State) (x : RangerSt) : (s.setRanger x).stands = s.stands := rfl
@[simp] theorem State.setRanger_gate (s : State) (x : RangerSt) : (s.setRanger x).gate = s.gate := rfl
@[simp] theorem State.setRanger_commits (s : State) (x : RangerSt) : (s.setRanger x).commits = s.commits := rfl
@[simp] theorem State.setRanger_groups (s : State) (x : RangerSt) : (s.setRanger x).groups = s.groups := rfl
@[simp] theorem State.setRanger_pools (s : State) (x : RangerSt) : (s.setRanger x).pools = s.pools := rfl
@[simp] theorem State.setRanger_lko (s : State) (x : RangerSt) : (s.setRanger x).lko = s.lko := rfl
@[simp] theorem State.setRanger_regions (s : State) (x : RangerSt) : (s.setRanger x).regions = s.regions := rfl
@[simp] theorem State.setRanger_pol (s : State) (x : RangerSt) : (s.setRanger x).pol = s.pol := rfl
@[simp] theorem State.setRanger_dcqs (s : State) (x : RangerSt) : (s.setRanger x).dcqs = s.dcqs := rfl
@[simp] theorem State.setRanger_strip (s : State) (x : RangerSt) : (s.setRanger x).strip = s.strip := rfl
@[simp] theorem State.setRanger_sys (s : State) (x : RangerSt) : (s.setRanger x).sys = s.sys := rfl
@[simp] theorem State.setRanger_flash (s : State) (x : RangerSt) : (s.setRanger x).flash = s.flash := rfl
@[simp] theorem State.setRanger_queues (s : State) (x : RangerSt) : (s.setRanger x).queues = s.queues := rfl
@[simp] theorem State.setRanger_ports (s : State) (x : RangerSt) : (s.setRanger x).ports = s.ports := rfl
@[simp] theorem State.setRanger_decs (s : State) (x : RangerSt) : (s.setRanger x).decs = s.decs := rfl
@[simp] theorem State.setRanger_decPipes (s : State) (x : RangerSt) : (s.setRanger x).decPipes = s.decPipes := rfl
@[simp] theorem State.setRanger_encs (s : State) (x : RangerSt) : (s.setRanger x).encs = s.encs := rfl
@[simp] theorem State.setRanger_encPipes (s : State) (x : RangerSt) : (s.setRanger x).encPipes = s.encPipes := rfl
@[simp] theorem State.setRanger_fwPool (s : State) (x : RangerSt) : (s.setRanger x).fwPool = s.fwPool := rfl
@[simp] theorem State.setRanger_emitted (s : State) (x : RangerSt) : (s.setRanger x).emitted = s.emitted := rfl
@[simp] theorem State.setRanger_rd (s : State) (x : RangerSt) (r : Nat) : (s.setRanger x).rd r = s.rd r := rfl
@[simp] theorem State.setRanger_fld (s : State) (x : RangerSt) (g : Fld) : (s.setRanger x).fld g = s.fld g := rfl
@[simp] theorem State.setRanger_isSet (s : State) (x : RangerSt) (g : Fld) : (s.setRanger x).isSet g = s.isSet g := rfl
@[simp] theorem State.setRanger_memByte (s : State) (x : RangerSt) (k : Nat) : (s.setRanger x).memByte k = s.memByte k := rfl
@[simp] theorem State.setRanger_ranger (s : State) (x : RangerSt) : (s.setRanger x).ranger = x := rfl

end Sys2Proof.Machine
end

