-- ==== Sys2Proof/Tests/Slice0.lean ====
section
/-! SUPPORT. Tests of the model: terms that are not well formed, results computed by hand from the specification, and for
every obligation (named in each docstring) states and operands that meet the hypotheses of each of its clauses. -/

namespace Sys2Proof.Machine.Tests

open Sys2Proof Sys2Proof.Machine

set_option Elab.async false

/-! ### Small states -/

/-- `s` with register fields set. -/
def fields (s : State) (l : List (Fld × Nat)) : State := l.foldl (fun t p => t.setFld p.1 p.2) s

/-- `s` with registers set. -/
def words (s : State) (l : List (Nat × Nat)) : State := l.foldl (fun t p => t.wr p.1 p.2) s

/-- A device whose firmware, ledger and memory are ready, role SOLO, with one grant of 256 MiB to partition 1. -/
def dev : State :=
  { fields State.reset [(Reg.MBX_STATUS_READY, 1), (Reg.LDG_STATUS_READY, 1), (Reg.MEM_STATUS_READY0, 1), (Reg.MEM_STATUS_READY1, 1),
      (Reg.PAIR_STATUS_ROLE, 0), (Reg.SYS_START_STAT_STEP, 0), (Reg.SYS_START_STAT_COLD_DONE, 1), (Reg.SYS_PWR_STATE, 0)] with
    parts := [(0, { present := true }), (1, { present := true })]
    grants := [{ part := 1, base := 0x20000000, log2 := 28, region := 0 }]
    fbk := { active := (List.range 28).map fun u => (64 * u, { base := 0, cfg := 0xE0000024 }) } }

/-- `s` with the message of opcode `op` from partition `part` and body `b` posted in mailbox 0. -/
def postAs (part : Nat) (s : State) (op : Nat) (b : List (Nat × Nat)) : State :=
  let body := pack b
  fields (s.areaWrite 0 (pack [(2, op), (2, 7), (2, 16 + body.length), (2, 0), (2, part), (6, 0)] ++ body))
    [(Reg.MBX_CMPL_STATE 0, 1), (Reg.MBX_BIND_PARTITION 0, part)]

def post (s : State) (op : Nat) (b : List (Nat × Nat)) : State := postAs 1 s op b

/-- The message in mailbox 0 of `s` is taken up as opcode `op`, with no check of `chk` failing and `more` holding of the request. -/
def taken (s : State) (op : Nat) (chk : Req → State → List (Bool × Nat × Nat)) (more : Req → State → Bool := fun _ _ => true) : Bool :=
  let u := s.pass 0
  let r := u.request 0
  u.takesUp 0 op && passes (chk r u) && more r u

/-- Every one of the conditions holds. -/
def holds (l : List Bool) : Bool := l.all id

/-! ### Witnesses: states and operands that meet the hypotheses of every clause of an obligation -/

/-- O1, accesses to memory. -/
theorem witness_HostAccessesComplete_memory : holds (
    let u := (fields dev [(Reg.SYS_STRAPS_DBG_EN, 1)]).pass 0
    [u.hostPort, u.fld Reg.SYS_PWR_STATE != 2, !u.isSet Reg.PAIR_MIRROR_THROTTLE, u.pair.hostWait.isEmpty,
      ((fields u [(Reg.PAIR_MIRROR_THROTTLE, 1)]).pass 0).isSet Reg.PAIR_MIRROR_THROTTLE, accessOk (2 ^ 36) 0xFF8 8, inDeviceMem 0xFF8, u.drives, (u.windowAt 0xFF8).isNone,
      (u.fbkDenies fbkHost 0xFF8 true).isNone, !u.pair.mirroring, (u.fbkDenies fbkHost 0xFF8 false).isNone,
      u.memFree 0xFF8 8, accessOk (2 ^ 48) 0xBFFFFF000 4096, (u.fbkCheck 2 0xBFFFFF000 true 4096).1, (u.fbkCheck 2 0xBFFFFF000 true 4096).2.2.memFree 0xBFFFFF000 4096,
      accessOk (2 ^ 48) 0xFF00FFFFFC 4, within 0xFF00000000 0xFF00FFFFFF 0xFF00FFFFFC, u.isSet Reg.SYS_STRAPS_DBG_EN, !u.fbkLocked 0xFF8,
      (u.fbkDenies fbkDbg 0xFF8 true).isNone, !within 0xFF00000000 0xFF00FFFFFF 0xFF8]) = true := by decide +kernel

/-- O1, power states, the scrubber at the end of its walk and registers. -/
theorem witness_HostAccessesComplete_rest : holds (
    let u := (words (fields dev [(Reg.MEM_TOL_MIN_TOL_NS, 4000), (Reg.MEM_SCRUB_CTRL_EN, 1)]) [(Reg.MEM_SCRUB_POS_LO, 0xFFFFFFC0),
      (Reg.MEM_SCRUB_POS_HI, 0xB)]).pass 1000
    let w := { u with hbm := { u.hbm with waiting := [{ level := 3, since := 0 }] } }
    [u.isSet (memReadyField 1), u.fld (pdField 1) != 2, 4000 ≤ u.fld Reg.MEM_TOL_MIN_TOL_NS, u.idleFor 63 80, !u.hbm.down.contains 63,
      u.stackIdle 1 (10 * ticksPerUs), u.hbm.waiting.isEmpty, w.hbm.waiting.any fun r => r.level == 3 && w.since r.since (2 * ticksPerUs),
      u.isSet Reg.MEM_SCRUB_CTRL_EN, u.isSet (memReadyField (stackOf 0xBFFFFFFC0)), u.scrubDue, u.hostPort, inBlock 0x08FFFC, 0x08FFFC % 4 == 0,
      inBlock 0x08FFF8, 0x08FFF8 % 8 == 0]) = true := by decide +kernel

/-- O2: kind 1, the last of its queues; kind 0, fault 0 resumed after its reset. -/
theorem witness_QueueFaultsComplete : holds (
    let u := dev.pass 0
    let v := (dev.setDcq 0 { at_ := 1 }).pass 0
    let w := (dev.setDcq 0 { at_ := 1, resumed := true }).pass 0
    let d := fun (c : PointerCopies) => (DcqSt.hold {} c).differs c.bits
    [0 < queueCount 1, (u.injTake 0x03 (256 + (queueCount 1 - 1))).1.isNone, (u.dcq (256 + (queueCount 1 - 1))).at_ == 0, !(u.dcq 256).lasting,
      d { own0 := 1 }, d { syn1 := 3 }, d { syn1 := 1, apart := 4 }, !d { syn1 := 1, apart := 3 },
      (v.dcq 0).at_ != 0, !(v.dcq 0).lasting, (w.dcq 0).at_ != 0, !(w.dcq 0).lasting, (w.dcq 0).resumed]) = true := by decide +kernel

/-- Confirm ring 63 open, of 64 records, all but one of them full. -/
def ringFull : State := words (fields dev [(Reg.LDG_CRING_CFG_OPEN 63, 1), (Reg.LDG_CRING_CFG_LOG2_SIZE 63, 6)]) [(Reg.LDG_CRING_PROD 63, 63)]

/-- O3: rings, confirmations, the wheel, the sweeper, the service window, a batch. -/
theorem witness_LedgerEventsComplete : holds (
    let u := ringFull.pass 0
    let c := ({ dev with ldg := { dev.ldg with conf := [{}] } } : State).pass 0
    let w := ({ dev with ldg := { dev.ldg with scanned := 2 ^ 30 - 1 } } : State).pass 0
    let l := ({ dev with ldg := { dev.ldg with lapDue := true } } : State).pass 0
    let v := (fields dev [(Reg.LDG_STATUS_SVC, 1)]).pass 0
    let d := v.svcCmd true 1048575
    let b := ({ dev with ldg := { dev.ldg with notify := [(4095, { total := 1 })] } } : State).pass 0
    [u.drives, u.isSet (Reg.LDG_CRING_CFG_OPEN 63), (sparseFind u.ldg.closing 63).isNone,
      wrapSub 32 64 (u.rd (Reg.LDG_CRING_CONS 63)) ≤ 2 ^ u.fld (Reg.LDG_CRING_CFG_LOG2_SIZE 63),
      wrapSub 32 64 (u.rd (Reg.LDG_CRING_PROD 63)) < 2 ^ 31, u.ledgerRuns, u.servedRing == some 63, (v.svcCmd false 1048575).cellRead 1048575 false |>.1,
      c.ledgerRuns, c.ldg.conf.length == 1, u.ldg.scanned == u.slotNow,
      w.ledgerRuns, w.ldg.scanned != w.slotNow, w.ldg.candidates.isEmpty, (w.ldg.scanned + 1) % 2 ^ 30 == w.slotNow, !u.ldg.lapDue, l.ldg.lapDue,
      v.isSet Reg.LDG_STATUS_SVC,
      !d.svcDenied 1048575 (cellOfImage ((List.range 4).flatMap fun k => leBytes 4 (d.rd (Reg.LDG_SVC_DATA k)))),
      (b.notifyOf 4095).total != 0, (b.notifyOf 4095).endTick ≤ b.tick]) = true := by decide +kernel

/-- `dev` with 4,096 cells at the partition's disposal: cell 4096 up allocated to partition 1, host-owned. -/
def withCell (n : Nat) (c : Cell) (s : State := dev) : State := { s with ldg := { s.ldg with cells := sparseIns s.ldg.cells n c } }

def hostCell : Cell := { ownerKind := 1, partition := 1, limit := 100, slot := 255, cls := 1 }

/-- O4, one message for each command; the last cell of the ledger; ring 63. -/
theorem witness_LedgerCommandsComplete : holds (
    let c := withCell 1048575 hostCell
    let m := fields ringFull [(Reg.LDG_CRING_CFG_PARTITION 63, 1)]
    [taken (post dev 0x0201 [(4, 2048), (4, 0xFFFFFF), (1, 1), (1, 1), (1, 1), (1, 0)]) 0x0201 chkLdgCellAlloc
        fun r u => (u.placeCells true (r.u32 16)).isSome,
      taken (post c 0x0202 [(4, 1048575), (4, 1)]) 0x0202 chkLdgCellFree,
      taken (post c 0x0203 [(4, 1048575), (4, 1), (4, 15), (4, 1), (1, 1), (1, 1), (1, 1), (1, 0)]) 0x0203 chkLdgCellSet,
      taken (post c 0x0204 [(4, 1048575), (4, 1), (1, 3), (3, 0)]) 0x0204 chkLdgCellForce,
      taken (post c 0x0205 [(4, 1048575), (4, 1)]) 0x0205 chkLdgCellQuery,
      taken (post c 0x0206 [(4, 1048575), (4, 1)]) 0x0206 chkLdgStickyRelease,
      taken (post dev 0x0207 [(8, 0x20000000), (1, 6), (3, 0), (4, 1048575)]) 0x0207 chkLdgRingOpen
        fun _ u => (List.range 64).find? (fun n => !u.isSet (Reg.LDG_CRING_CFG_OPEN n)) == some 0,
      taken (post m 0x0208 [(4, 63)]) 0x0208 chkLdgRingClose fun _ u => u.rd (Reg.LDG_CRING_CONS 63) != u.rd (Reg.LDG_CRING_PROD 63),
      taken (post (words m [(Reg.LDG_CRING_CONS 63, 63)]) 0x0208 [(4, 63)]) 0x0208 chkLdgRingClose
        fun _ u => u.rd (Reg.LDG_CRING_CONS 63) == u.rd (Reg.LDG_CRING_PROD 63),
      taken (post dev 0x0209 [(4, 1048575), (4, 960)]) 0x0209 chkLdgNonliveList,
      taken (post dev 0x020A [(2, 1000), (2, 1)]) 0x020A chkLdgNotifyCfg]) = true := by decide +kernel

/-- `s` with output 31 of mode 23 in `STATE` `st`, owned by partition 1, with `o` beside its registers. -/
def output (st : Nat) (o : OutSt := {}) (s : State := dev) : State :=
  { fields s [(Reg.CNP_OUT_CTRL_EN 31, 1), (Reg.CNP_OUT_CTRL_STATE 31, st), (Reg.CNP_OUT_CTRL_MODE 31, 23), (Reg.CNP_OUT_OWNER_PARTITION 31, 1)] with
    outs := [(31, o)] }

/-- O5: output 31 at the point of its frame where each event is due. -/
theorem witness_FrameEventsComplete : holds (
    let st := (output osStarting).pass 500000000
    let h := st.beforeFrame 31
    let v := (output osRunning { line := 5, sampled := 5, latched := false }).pass 500000000
    let w := (output osRunning { line := 5, sampled := 6 }).pass 500000000
    let e := (output osRunning { line := (modeOf 23).h, sampled := (modeOf 23).h }).pass 500000000
    let p := (output osRunning { ended := true, posted := false, latched := false }).pass 500000000
    let f := (output osRunning { ended := true, sampled := 1 }).pass 500000000
    let b := (fields (output osRunning { ended := true, latched := false }) [(Reg.PAIR_STATUS_ROLE, roStandby), (Reg.KLN_STAT_STATE 31, lsActive)]).pass 500000000
    let d := (output osDraining { ended := true }).pass 500000000
    let t := (output osDraining { drainAt := some 0 }).pass 500000000
    [st.sampleDue 31 0, h.sampleDue 31 0, v.sampleDue 31 5, w.lineDue 31 5, e.endDue 31, p.postDue 31, p.latchDue 31, p.role != roStandby,
      b.latchDue 31, b.role == roStandby, f.startDue 31, d.drainDone 31, t.drainTimedOut 31, b.laneActive 31, b.rxTakes 31]) = true := by decide +kernel

/-- Layer 7 of output 31 as the stand uses it: a full-screen host source with one span over cell 4096. -/
def shownOutput : State :=
  let s := withCell 4096 { hostCell with standMask := 255 } (output osRunning)
  { s with commits := [(31, { stage := some { slots := (List.replicate 7 ({} : StageSlot)) ++
      [{ en := true, id := 1023, cell := 4096, crop := ⟨0, 0, 64, 64⟩, dst := ⟨0, 0, 64, 64⟩, fmt := 0, srcW := 64, srcH := 64 }] } })] }

/-- O6, the GATE_, STAND_ and OUT_ commands. -/
theorem witness_OutputCommandsComplete_outputs : holds (
    let o := output osRunning
    [taken (post shownOutput 0x0301 [(1, 31), (1, 7), (1, 1), (1, 0), (2, 1), (2, 0), (2, 0), (2, 0), (2, 64), (2, 64), (4, 4096), (1, 0), (3, 0)]) 0x0301
        fun r u => match chkGateBindSet r u with | none => [] | some (a, b) => [(true, a, b)],
      taken (post shownOutput 0x0302 [(1, 31), (1, 7), (2, 0)]) 0x0302
        fun r u => match chkGateBindClear r u with | none => [] | some (a, b) => [(true, a, b)],
      taken (post o 0x0303 [(1, 31), (1, 1), (2, 0), (4, 0), (4, 254)]) 0x0303 chkGateSpanQuery,
      taken (post dev 0x0304 [(4, 0x401), (4, 0x3FFFFFFF), (36, 0), (1, 255), (1, 128), (2, 0)]) 0x0304 chkGateTreatCfg,
      taken (post o 0x0305 [(1, 31), (1, 1), (1, 1), (1, 3), (1, 255), (1, 1), (2, 0)]) 0x0305 chkGateOutputCfg,
      taken (post dev 0x0401 [(1, 7), (3, 0), (4, 999999999)]) 0x0401 chkStandCfg,
      taken (post dev 0x0402 [(1, 31), (1, 23), (1, 7), (1, 1), (1, 255), (1, 0), (2, 0xFFFF), (2, 1), (2, 0)]) 0x0402 chkOutEnable,
      taken (post o 0x0403 [(1, 31), (1, 0), (2, 1000)]) 0x0403 chkOutDisable,
      taken (post o 0x0404 [(1, 31), (1, 7), (1, 1), (1, 255), (2, (modeOf 23).h), (2, 0)]) 0x0404 chkOutSet,
      taken (post o 0x0405 [(1, 31), (3, 0)]) 0x0405 chkOutQuery]) = true := by decide +kernel

/-- O6, the CNP_ commands. -/
theorem witness_OutputCommandsComplete_layers : holds (
    let o := output osRunning
    let c := fields o [(Reg.CNP_CRING_CFG_OPEN 31, 1), (Reg.CNP_CRING_CFG_LOG2_SIZE 31, 4)]
    [taken (post o 0x0411 [(1, 31), (1, 7), (2, 1023), (2, 4096), (2, 4096), (8, 0x20000000), (4, 4096), (4, 0), (8, 0x2FFFFC00)]) 0x0411 chkCnpBufSet,
      taken (post o 0x0412 [(1, 31), (1, 0), (2, 1023)]) 0x0412 chkCnpBufClear,
      taken (post o 0x0413 [(1, 31), (15, 0), (384, 0)]) 0x0413 chkCnpLayoutPrepare fun r u =>
        (u.allotted 31 (u.preparedSlots r 31)).any fun l => (u.admission 31 (u.mode 31) l).isNone,
      taken (post o 0x0414 [(1, 31), (1, 10), (6, 0), (8, 0x20000000)]) 0x0414 chkCnpCringOpen,
      taken (post c 0x0415 [(1, 31), (3, 0)]) 0x0415 chkCnpCringClose fun _ u => u.rd (Reg.CNP_CRING_CONS 31) == u.rd (Reg.CNP_CRING_PROD 31),
      taken (post (words c [(Reg.CNP_CRING_PROD 31, 16)]) 0x0415 [(1, 31), (3, 0)]) 0x0415 chkCnpCringClose fun _ u =>
        u.rd (Reg.CNP_CRING_CONS 31) != u.rd (Reg.CNP_CRING_PROD 31)]) = true := by decide +kernel

/-- A region of kind 4 on output 31 in the last entry of the table. -/
def withRegion : State := { words (withCell 4096 hostCell (output osRunning)) [(regionBase 16383, 0x02000C1F)] with regions := [(16383, { owner := 1 })] }

/-- O6, the LKO_ commands. -/
theorem witness_OutputCommandsComplete_regions : holds (
    [taken (post withRegion 0x0501 [(4, 1), (12, 0), (4, 16383), (4, 0x02000C1F), (4, 0x00010000), (4, 0x00010000), (4, 0), (4, 0), (4, 0)]) 0x0501 chkLkoRegionSet,
      taken (post withRegion 0x0502 [(4, 16383), (4, 1)]) 0x0502 chkLkoRegionClear,
      taken (post withRegion 0x0503 [(4, 1), (12, 0), (4, 16383), (4, 0xFFFFFFFF), (4, 2 ^ 31)]) 0x0503 chkLkoRefSet,
      taken (post withRegion 0x0504 [(4, 16257), (4, 127)]) 0x0504 chkLkoRegionQuery]) = true := by decide +kernel

/-- O7: the gate's, output 31's and Lookout's service windows open; commit ring 31 with room for 16 more. -/
theorem witness_OutputWritesComplete : holds (
    let u := (fields (output osRunning) [(Reg.GATE_STATUS_SVC, 1), (Reg.CNP_OUT_CTRL_SVC 31, 1), (Reg.LKO_STATUS_SVC, 1),
      (Reg.CNP_CRING_CFG_OPEN 31, 1), (Reg.CNP_CRING_CFG_LOG2_SIZE 31, 4)]).pass 0
    [u.isSet Reg.GATE_STATUS_SVC, u.isSet (Reg.CNP_OUT_CTRL_SVC 31), u.isSet (Reg.CNP_OUT_CTRL_EN 31), u.drives,
      u.isSet (Reg.CNP_CRING_CFG_OPEN 31), (u.cmt 31).closing.isNone,
      wrapSub 32 16 (u.rd (Reg.CNP_CRING_CONS 31)) ≤ 2 ^ u.fld (Reg.CNP_CRING_CFG_LOG2_SIZE 31), wrapSub 32 16 (u.rd (Reg.CNP_CRING_PROD 31)) < 2 ^ 31,
      u.isSet Reg.LKO_STATUS_SVC, u.regionAdjusted 16383 4 0xFFFFFFFF == 0xFFFFFFFF, u.rd (regionBase 16383 + 16) != 0xFFFFFFFF]) = true := by decide +kernel

/-- Decode session 127 open for partition 1 on pipe 7 in `STATE` `st`, with `d` beside its registers. -/
def decoder (st : Nat) (d : DecSes := {}) (s : State := dev) : State :=
  (fields s [(Reg.DEC_SES_CTRL_OPEN 127, 1), (Reg.DEC_SES_CTRL_STATE 127, st), (Reg.DEC_SES_CTRL_PIPE 127, 7), (Reg.DEC_PIPE_STAT_EN 7, 1),
    (Reg.DEC_PIPE_STAT_EN 6, 1), (Reg.DEC_SES_CELL_CELL 127, 4096)]).setDec 127 d |> withCell 4096 hostCell

/-- O8: decode session 127 with a picture under way, at a new picture, with one to show, timed out, draining. -/
theorem witness_DecodeEventsComplete : holds (
    let c := (decoder dsRunning { cur := some {}, rateMhz := 10 ^ 12 + 1, drainAt := some 0 }).pass 5000000
    let n := (decoder dsRunning).pass 5000000
    let w := (decoder dsWaitParams).pass 0
    let row : DecRow := { head := some {}, nals := [{ kind := 1 }] }
    let r := (decoder dsResetting).pass 0
    let o := (decoder dsRunning { out := [{}] }).pass 0
    let d := (decoder dsDraining { drainAt := some 0 }).pass 0
    let p := (decoder dsRunning { drainAt := some 0, pipeDrain := true }).pass 0
    [c.isSet (Reg.DEC_SES_CTRL_OPEN 127), c.decState 127 != dsResetting, !(c.dec 127).parked, !(c.dec 127).stuck,
      c.isSet (Reg.DEC_PIPE_STAT_EN (c.fld (Reg.DEC_SES_CTRL_PIPE 127))), c.queueTakes 0x08 14, c.queueTakes 0x08 15, c.decTurn 127, n.decTurn 127, w.decTurn 127, (c.dec 127).cur.isSome,
      ({} : DecRow).head.isNone, !n.skipsPictures 127, (n.dec 127).cur.isNone, row.head.isSome, n.decState 127 != dsDraining, !(n.dec 127).pipeDrain, w.decState 127 == dsWaitParams,
      rowParams row, r.decState 127 == dsResetting, d.decState 127 != dsResetting, p.decState 127 != dsResetting, ((o.dec 127).out[0]?).isSome, (c.dec 127).lastPacket + ceilDiv (10 ^ 12) (c.dec 127).rateMhz ≤ c.tick,
      (n.dec 127).winAt + 10 * ticksPerMs ≤ n.tick,
      (d.dec 127).drainAt.isSome, (d.dec 127).cur.isNone, !(d.dec 127).stuck, !(d.dec 127).pipeDrain,
      (p.dec 127).drainAt.isSome, (p.dec 127).cur.isNone, !(p.dec 127).stuck, (p.dec 127).pipeDrain,
      (p.dec 127).drainAt.any fun t => t ≤ p.tick, (c.dec 127).drainAt.any fun t => t ≤ c.tick]) = true := by decide +kernel

/-- Encode session 31 open on pipe 3 with `d` beside its registers. -/
def encoder (d : EncSes := {}) (s : State := dev) : State :=
  (fields s [(Reg.ENC_SES_CTRL_OPEN 31, 1), (Reg.ENC_SES_CTRL_STATE 31, 1), (Reg.ENC_SES_CTRL_PIPE 31, 3), (Reg.ENC_PIPE_STAT_EN 3, 1),
    (Reg.ENC_PIPE_STAT_EN 2, 1), (Reg.ENC_SES_CELL_CELL 31, 4096)]).setEnc 31 d |> withCell 4096 { hostCell with ownerKind := 5, partition := 0 }

/-- O9: encode session 31 with a row ready, with a picture handed on, with one record in its ring, draining. -/
theorem witness_EncodeEventsComplete : holds (
    let o := fields (output osRunning) [(Reg.ENC_SES_CTRL_OUTPUT 31, 31)]
    let x : EncSrc := { lines := 4096, whole := true }
    let op : EncCode := { sets := [[1], [2], [3]] }
    let c := (encoder { crop := ⟨0, 0, 64, 64⟩, divX := 0, cur := some { src := x, intra := true } } o).pass 0
    let n := (encoder { crop := ⟨0, 0, 64, 64⟩, divX := 0, sources := [x] } o).pass 0
    let p := (encoder { drainAt := some 0, pipeDrain := true }).pass 0
    let r := (fields (encoder {}) [(Reg.ENC_SES_CTRL_STATE 31, esResetting)]).pass 0
    let h := (words (encoder { handed := some 5, drainAt := some 0 }) [(Reg.ENC_SES_RING_PROD 31, 1)]).pass 0
    [c.isSet (Reg.ENC_SES_CTRL_OPEN 31), !(c.enc 31).parked, !(c.enc 31).stuck, c.isSet (Reg.ENC_PIPE_STAT_EN (c.fld (Reg.ENC_SES_CTRL_PIPE 31))),
      c.queueTakes 0x09 6, c.queueTakes 0x09 7, c.encState 31 != esResetting, (c.enc 31).cur.any fun x => c.rowReady 31 x.src x.row,
      ((c.rowReads 31 x 0).2.2.2.encAfter 31 (c.rowReads 31 x 0).1).rowObeys 31 op, !(c.rowReads 31 x 0).2.2.1, n.encState 31 != esResetting, (n.enc 31).cur.isNone,
      (n.enc 31).sources.head? == some x, !(n.enc 31).pipeDrain, n.rowReady 31 x 0, ((n.beginCode 31 x op).serveEnc 31 x 0 op).isSome,
      (p.enc 31).pipeDrain, (p.enc 31).drainAt.isSome, (p.enc 31).cur.isNone, !(p.enc 31).stuck, p.encState 31 != esResetting, r.encState 31 == esResetting, (h.enc 31).handed.isSome,
      wrapSub 32 1 (h.rd (Reg.ENC_SES_RING_CONS 31)) ≤ wrapSub 32 (h.rd (Reg.ENC_SES_RING_PROD 31)) (h.rd (Reg.ENC_SES_RING_CONS 31)),
      (h.enc 31).drainAt.any fun t => t ≤ h.tick, (h.enc 31).cur.isNone, !(h.enc 31).stuck, !(h.enc 31).pipeDrain]) = true := by decide +kernel

/-- The bodies of the two session-opening commands of the pools. -/
def decOpenBody : List (Nat × Nat) :=
  [(1, 5), (1, 15), (1, 32), (1, 16), (2, 4096), (2, 2304), (4, 1000), (4, 200000), (4, 16777215), (1, 255), (1, 1), (1, 255), (1, 28), (4, 1048575), (4, 0)]
def encOpenBody : List (Nat × Nat) :=
  [(1, 31), (1, 2), (1, 26), (1, 5), (2, 0), (2, 0), (2, 1280), (2, 720), (1, 8), (1, 0), (1, 51), (1, 26), (4, 20000), (2, 600), (1, 12), (1, 0),
    (4, 16777215), (1, 255), (1, 28), (2, 0), (8, 0x20000000)]

/-- O10, the two opening commands. -/
theorem witness_PoolCommandsComplete_open : holds (
    let d := decoder dsRunning
    let e := encoder {} (output osRunning)
    [taken (post d 0x0601 decOpenBody) 0x0601 (fun r u => decOpenChecks r ++ [(overQuota r.part (u.decsOf r.part) 1 (u.partOf r.part).decQuota 0xFF,
        stNoSpace, noField)]) fun r u =>
        let rows := if bitAt (r.u8 17) 0 then ceilDiv (r.u16 22) rowCellLines else 0
        let slots := r.u8 19 + r.u8 18 + 2
        !u.rung 5 && ((List.range 128).find? fun n => !u.isSet (Reg.DEC_SES_CTRL_OPEN n)).isSome && ((u.decCells r rows).any fun x =>
          (x.2.2.takeMemory [log2Up 12 (slots * decSlotBytes (r.u8 16) (r.u16 20) (r.u16 22)), log2Up 12 (slots * 8192), r.u8 39]).isSome) &&
        (findPipe decPix decKbps u.decPipesUp u.decTable (newDecSlotted r)).isSome,
      taken (post e 0x0701 encOpenBody) 0x0701 (fun r u => u.encOpenChecks r ++ [(overQuota r.part (u.encsOf r.part) 1 (u.partOf r.part).encQuota 0xFF,
        stNoSpace, noField)]) fun r u =>
        let (w, h) := encSize r
        let mode := u.mode (r.u8 16)
        let a := encAllot mode w h (max 1 (r.u8 28))
        let (src, rcn) := encMemory (r.u8 17) (ofBool (bitAt (r.u8 18) 0)) w h
        !u.rung 5 && encFloor mode (encUnit (r.u8 17)) w h (r.u32 32) (r.u8 28) &&
        ((List.range 32).find? fun n => !u.isSet (Reg.ENC_SES_CTRL_OPEN n)).isSome && ((u.placeCells false 1).any fun cell =>
          ((u.allocCells cell 1 5 0 (r.u32 40) (ofBool (bitAt (r.u8 18) 3)) (bitAt (r.u8 18) 4) (r.u8 44)).takeMemory
            ([log2Up 12 src, log2Up 12 rcn] ++ if bitAt (r.u8 18) 1 then [] else [20])).isSome) &&
        (findPipe encPix encKbps u.encPipesUp u.encTable { id := 32, num := a.1, den := a.2, kbps := r.u32 32 }).isSome]) = true := by decide +kernel

/-- O10, the other commands. -/
theorem witness_PoolCommandsComplete : holds (
    let d := decoder dsRunning
    let e := encoder {} (output osRunning)
    let off := fields d [(Reg.DEC_PIPE_STAT_EN 7, 0), (Reg.ENC_PIPE_STAT_EN 3, 0)]
    [taken (post d 0x0602 [(2, 127), (2, 1000)]) 0x0602 chkDecSessionClose,
      taken (post d 0x0603 [(2, 127), (2, 8), (2, 6), (6, 0x0146)]) 0x0603 chkDecSessionParams,
      taken (post d 0x0604 [(2, 127), (2, 1), (4, 0xFFFFFFFF), (4, 999999999), (4, 0xFFFFFFFF)]) 0x0604 chkDecSessionAnchor,
      taken (post d 0x0605 [(2, 127), (2, 0)]) 0x0605 chkDecSessionQuery,
      taken (post off 0x0606 [(1, 7), (1, 1), (2, 0)]) 0x0606 chkDecPipeCtrl fun r u => r.u8 17 == 1 && !u.isSet (Reg.DEC_PIPE_STAT_EN (r.u8 16)),
      taken (post (decoder dsRunning { cur := some {} }) 0x0606 [(1, 7), (1, 0), (2, 1000)]) 0x0606 chkDecPipeCtrl fun r u =>
        r.u8 17 != 1 && u.isSet (Reg.DEC_PIPE_STAT_EN (r.u8 16)) && (u.drainDecPipe (r.u8 16) (drainMs (r.u16 18)) r.waiter).pipeDraining (r.u8 16),
      taken (post e 0x0702 [(2, 31), (2, 1000)]) 0x0702 chkEncSessionClose,
      taken (post e 0x0703 [(2, 31), (1, 6), (1, 0), (4, 0), (1, 0), (1, 51), (1, 51), (1, 12)]) 0x0703 chkEncSessionSet fun r _ => !bitAt (r.u8 18) 0,
      taken (post e 0x0704 [(2, 31), (2, 0)]) 0x0704 chkEncRefresh,
      taken (post e 0x0705 [(2, 31), (2, 0)]) 0x0705 chkEncSessionQuery,
      taken (post off 0x0706 [(1, 3), (1, 1), (2, 0)]) 0x0706 chkEncPipeCtrl fun r u => r.u8 17 == 1 && !u.isSet (Reg.ENC_PIPE_STAT_EN (r.u8 16)),
      taken (post (encoder { cur := some {} }) 0x0706 [(1, 3), (1, 0), (2, 1000)]) 0x0706 chkEncPipeCtrl fun r u =>
        r.u8 17 != 1 && u.isSet (Reg.ENC_PIPE_STAT_EN (r.u8 16)) && (u.drainEncPipe (r.u8 16) (drainMs (r.u16 18)) r.waiter).encPipeDraining (r.u8 16)]) = true := by decide +kernel

/-- O11: the packet ports. -/
theorem witness_PacketEventsComplete_ports : holds (
    let up := fields dev [(Reg.PKT_PORT_STAT_LINK 1, 1), (Reg.PKT_PORT_STAT_PFC_TX 1, 128), (Reg.PKT_STATUS_READY, 1)]
    let u := ({ up with ports := [(1, { pfcAt := [(7, 0)], pausedSince := [(7, 0)], pausedTill := [(7, 5)] })] } : State).pass 25000001
    let v := (words (fields up [(Reg.PKT_PORT_STAT_LINK 1, 0)]) [(Reg.KLN_EQ0 53, 0x00180001)]).pass 0
    let f := List.replicate 60 (0 : Byte) ++ ethCrc (List.replicate 60 0)
    let w := u.countFec 1 0 0
    [w.linkUp 1, (w.injTake 0x13 1).1.isNone, w.queueTakes 0x07 2, within 64 9216 f.length, ethCrc (f.take (f.length - 4)) == f.drop (f.length - 4), 64 * 4095 + f.length ≤ 262144,
      (sparseFind (u.portSt 1).pfcAt 7).any fun t => t + 500 * ticksPerUs ≤ u.tick, bitAt (u.fld (Reg.PKT_PORT_STAT_PFC_TX 1)) 7,
      (sparseFind (u.portSt 1).pausedSince 7).any fun t => t + 50 * ticksPerMs < u.tick,
      (sparseFind (u.portSt 1).pausedTill 7).any fun t => t ≤ u.tick,
      !v.linkUp 1, !(v.portSt 1).down, v.isSet Reg.PKT_STATUS_READY, v.laneUsable 53]) = true := by decide +kernel

/-- O11: ingest queue 127 with an item before its read index and one after, and without; a transmit flow with a report due. -/
theorem witness_PacketEventsComplete_queues : holds (
    let s := fields (decoder dsRunning) [(Reg.PKT_Q_CTRL_OPEN 127, 1), (Reg.PKT_Q_CTRL_LOG2_SIZE 127, 20), (Reg.PKT_Q_CTRL_MARK_VALID 127, 8), (Reg.PKT_STATUS_SVC, 1)]
    let u := (words s [(Reg.PKT_Q_RD 127, 64), (Reg.PKT_Q_WR 127, 128)]).pass 0
    let e := (words s [(Reg.PKT_Q_RD 127, 64), (Reg.PKT_Q_WR 127, 64)]).pass 0
    let l := u.loadDecPipe 127
    let t := (fields (encoder { flow := some { srMs := 100 } }) [(Reg.PKT_TX_CTRL_OPEN 31, 1), (Reg.PKT_TX_CTRL_SENDING 31, 1)]).pass 50000000
    let y := (fields (encoder { flow := some { srMs := 100 } }) [(Reg.PKT_TX_CTRL_OPEN 31, 1), (Reg.PKT_TX_CTRL_SENDING 31, 1), (Reg.TIM_STATUS_TRUSTED, 1),
      (Reg.PKT_PORT_STAT_LINK 0, 1)]).pass 50000000
    [u.isSet (Reg.PKT_Q_CTRL_OPEN 127), (List.range 4).find? (fun m => !(u.qMarks 127).contains m) == some 0, (u.qMarks 127).contains 3,
      e.rd (Reg.PKT_Q_RD 127) == e.rd (Reg.PKT_Q_WR 127), u.rd (Reg.PKT_Q_RD 127) != u.rd (Reg.PKT_Q_WR 127),
      !(u.dec 127).skipping, l.rd (Reg.PKT_Q_RD 127) == 64, l.rd (Reg.PKT_Q_WR 127) == 128,
      (let (h, b) := l.qHeader (fbkDec 7) 127 64; !(b.unitLoad (fbkDec 7) (b.qAddr 127 64) (b.headSize 127 64 h)).2.2.2.1),
      (t.enc 31).flow.any fun f => f.srMs != 0 && f.srAt + f.srMs * ticksPerMs ≤ t.tick, t.isSet (Reg.PKT_TX_CTRL_OPEN 31), t.txSends 31, !t.trusted, y.trusted,
      (y.enc 31).flow.any fun f => keyReady f.srtp (f.keys.reportKey (y.rd (Reg.PKT_TX_ROC 31) * 65536 + y.fld (Reg.PKT_TX_CTRL_SEQ 31))), y.linkUp (y.fld (Reg.PKT_TX_CTRL_PORT 31)),
      u.isSet Reg.PKT_STATUS_SVC, bitAt (2 ^ 31 + 127) 31, (2 ^ 31 + 127) % 128 == 127]) = true := by decide +kernel

/-- O12, one message for each command and form. -/
theorem witness_PacketCommandsComplete : holds (
    let d := fields (decoder dsRunning) [(Reg.PKT_Q_CTRL_OPEN 127, 1), (Reg.PKT_Q_CTRL_LOG2_SIZE 127, 20)]
    let e := (encoder { flow := some {}, port := 1 }).setPort 1 { addrs := [{ addr := List.replicate 16 0, v6 := true }] }
    let flow (ports : Nat) : List (Nat × Nat) :=
      [(2, 127), (1, ports), (1, 127), (2, 0xFFFF), (1, 7), (1, 127), (16, 0), (16, 0), (2, 65535), (2, 0), (4, 0), (2, 0), (2, 0xFFFF)]
    [taken (post dev 0x0801 [(1, 1), (1, 4), (1, 255), (1, 0), (16, 0), (1, 128), (1, 1), (2, 0), (16, 0), (1, 32), (1, 0), (2, 0), (20, 0), (20, 0)]) 0x0801
        chkPktPortCfg,
      taken (post d 0x0802 (flow 0)) 0x0802 chkPktFlowSet fun r _ => (flowOf r).ports == 0,
      taken (post d 0x0802 (flow 3)) 0x0802 chkPktFlowSet fun r _ => (flowOf r).ports != 0,
      taken (post d 0x0803 [(2, 127), (2, 0), (8, 2 ^ 48 - 1), (16, 0), (12, 0)]) 0x0803 chkPktFlowKey fun r _ => r.u16 16 < 0x8000,
      taken (post e 0x0803 [(2, 0x801F), (2, 0), (8, 0), (16, 0), (12, 0)]) 0x0803 chkPktFlowKey fun r _ => 0x8000 ≤ r.u16 16,
      taken (post e 0x0804 [(2, 31), (1, 3), (1, 7), (2, 4094), (1, 63), (1, 1), (6, 0), (1, 96), (1, 0), (16, 0), (16, 0), (2, 0), (2, 65535), (4, 0), (2, 0),
        (2, 8900), (2, 5000), (2, 0)]) 0x0804 chkPktTxFlowSet,
      taken (post (words d [(Reg.PKT_Q_WR 127, 64)]) 0x0805 [(2, 127), (1, 0), (1, 0), (2, 1000), (2, 1024)]) 0x0805 chkPktQueueRead fun r u =>
        r.u8 18 == 0 && u.rd (Reg.PKT_Q_RD 127) != u.rd (Reg.PKT_Q_WR 127),
      taken (post d 0x0805 [(2, 127), (1, 1), (1, 0), (2, 1000), (2, 1024)]) 0x0805 chkPktQueueRead fun _ u =>
        u.rd (Reg.PKT_Q_RD 127) == u.rd (Reg.PKT_Q_WR 127),
      taken (post dev 0x0806 [(1, 1), (3, 0)]) 0x0806 chkPktPortQuery]) = true := by decide +kernel

/-- O13: a servo that runs with a master, in HOLDOVER past its time, a stamp waiting, the pulse due, up and over. -/
theorem witness_TimeComplete_events : holds (
    let s := fields dev [(Reg.TIM_STATUS_MASTER, 1), (Reg.TIM_STATUS_PORT, 1), (Reg.PKT_PORT_STAT_LINK 1, 1), (Reg.TIM_STATUS_STATE, tsHoldover),
      (Reg.TIM_HOLDOVER_SEC, 0), (Reg.TIM_PPS_CTRL_EN, 1), (Reg.TIM_PPS_CTRL_WIDTH_US, 0),
      (Reg.TIM_PPS_CTRL_GATE, 0)]
    let u := ({ s with time := { s.time with ports := 2, txq := [{}], widthPending := some 500000 } } : State).pass 0
    let o := fields u [(Reg.PAIR_STATUS_ROLE, 2)]
    let b : PtpMaster := { id := 7, gm := 9, port := 1, every := ticksPerS }
    let m := { u with time := { u.time with masters := [b] } }
    let h := ({ s with time := { s.time with ppsHigh := true, ppsRoseAt := some 0 } } : State).pass 0
    let x := { m with time := { m.time with heardSync := some { t1 := some 5, t2 := 6 }, request := some (1, some 7), response := some 8 } }
    [u.servoRuns, bitAt u.time.ports 1, u.heardTimes.isNone, u.bestMaster.isNone, m.servoRuns, m.heardTimes.isNone, m.bestMaster == some b,
      x.bestMaster == some b, x.heardTimes == some ((5, 6, 7, 8) : Int × Int × Int × Int), !o.servoRuns, o.timeState == tsHoldover,
      o.since o.time.holdoverAt (o.fld Reg.TIM_HOLDOVER_SEC * ticksPerS), u.isSet Reg.TIM_STATUS_MASTER, u.masterGone, u.timeState == tsHoldover,
      u.since u.time.holdoverAt (u.fld Reg.TIM_HOLDOVER_SEC * ticksPerS), u.time.txq.length == 1, u.linkUp (u.fld Reg.TIM_STATUS_PORT),
      u.isSet Reg.TIM_PPS_CTRL_EN, !u.isSet Reg.TIM_PPS_CTRL_GATE, u.ptpNs % 10 ^ 9 < 4, u.time.ppsRoseAt.isNone, !u.time.ppsHigh, u.time.widthPending.isSome,
      h.time.ppsHigh, h.time.ppsRoseAt == some 0, h.since 0 (h.fld Reg.TIM_PPS_CTRL_WIDTH_US * ticksPerUs), u.time.ppsInCheck == 0]) = true := by decide +kernel

/-- O13, the TIM_ commands; with settings that move the master and with the same. -/
theorem witness_TimeComplete_commands : holds (
    let cfg : List (Nat × Nat) := [(1, 127), (1, 3), (1, 2), (1, 7), (4, 1000000000), (2, 3600), (2, 4094)]
    let b := fields { dev with time := { dev.time with ports := 3, transport := 2, vlan := 4094 } } [(Reg.TIM_STATUS_DOMAIN, 127)]
    let l := fields dev [(Reg.TIM_STATUS_STATE, 1), (Reg.TIM_STATUS_PERMIT, 0)]
    [taken (post b 0x0901 cfg) 0x0901 chkTimCfg fun r u =>
        (u.fld Reg.TIM_STATUS_DOMAIN, u.time.ports, u.time.transport, u.time.vlan) == (r.u8 16, r.u8 17, r.u8 18, r.u16 26),
      taken (post dev 0x0901 cfg) 0x0901 chkTimCfg fun r u => u.role != 2 &&
        (u.fld Reg.TIM_STATUS_DOMAIN, u.time.ports, u.time.transport, u.time.vlan) != (r.u8 16, r.u8 17, r.u8 18, r.u16 26),
      taken (post l 0x0902 [(4, 0)]) 0x0902 chkTimReEpoch,
      taken (post dev 0x0903 [(1, 1), (1, 1), (2, 0), (4, 500000), (4, 1000000)]) 0x0903 chkTimPpsCfg,
      taken (post dev 0x0904 [(4, 0)]) 0x0904 chkTimQuery]) = true := by decide +kernel

/-- Lane `i` in `STATE` `st` with `l` beside its registers. -/
def lane (i st : Nat) (l : LaneSt := {}) : State := (fields dev [(Reg.KLN_STAT_STATE i, st)]).setLane i l

set_option maxRecDepth 100000 in
/-- O14: lane 51 in each state; lane 47 with news for its partner. -/
theorem witness_LaneEventsComplete : holds (
    let o := (lane 51 lsOff { powerAt := some 0 }).pass 2000000
    let d := (lane 51 lsDetect).pass 2000000
    let t := (lane 51 lsTrain).pass 2000000
    let c := (lane 51 lsCaps).pass 2000000
    let s := lane 51 lsActive { out := [{}] }
    let a := (words s [(Reg.KLN_PCAP_LO 51 1, 2 ^ 17)]).pass 200000000
    let f := List.replicate 2044 (0 : Byte) ++ leBytes 4 (crc32 (List.replicate 2044 0))
    let e := (lane 47 lsActive { said := 1 }).pass 0
    [(o.lane 51).powerAt == some 0, o.laneState 51 == lsOff, o.since 0 (400 * ticksPerUs), d.laneState 51 == lsDetect, (d.lane 51).probeAt ≤ d.tick,
      t.laneState 51 == lsTrain, t.since (t.lane 51).since (2500 * ticksPerUs), c.laneState 51 == lsCaps, c.since (c.lane 51).since ticksPerMs,
      a.laneActive 51, a.since (a.lane 51).validAt (10 * ticksPerUs), (a.injTake 0x08 51).1.isNone, f.length == 2048,
      fieldAt f 2044 4 == crc32 (f.take 2044), fieldAt f 0 2 == a.fld (Reg.KLN_RX_SEQ_EXPECTED 51), !(a.lane 51).wantReplay,
      (a.lane 51).out.any fun x => a.since x.sentAt ackTicks, bitAt (a.partnerWord 51 1) 17, a.since (a.lane 51).statusAt (300 * ticksPerMs),
      !a.isSet (Reg.KLN_STAT_PARTNER_SILENT 51), e.laneActive 47, fieldAt (e.deviceSays 47) 0 4 != (e.lane 47).said]) = true := by decide +kernel

/-- Capture input 15 of partition 1 in `STATE` `st`. -/
def capture (st : Nat) (c : CapSt := {}) : State :=
  (fields dev [(Reg.KLN_CAP_CTRL_EN 47, 1), (Reg.KLN_CAP_CTRL_STATE 47, st), (Reg.KLN_CAP_CTRL_PARTITION 47, 1)]).setCap 15 c

/-- O15: a whole picture, a drain done and one timed out, each command. -/
theorem witness_CaptureComplete : holds (
    let p := (capture 2 { cur := some { mode := true } }).pass 0
    let d := (capture ciDraining { drainAt := some 0 }).pass 0
    let off := words dev [(Reg.KLN_EQ0 47, 0x00180001)]
    [(p.cap 15).cur.any fun x => !x.big && x.mode && x.lines == x.h, (p.injTake 0x12 15).1.isNone,
      d.capState 15 == ciDraining, (d.cap 15).cur.isNone, !(d.cap 15).stuck, (d.cap 15).drainAt.any fun t => t ≤ d.tick, ((capture ciResetting).pass 0).capState 15 == ciResetting,
      taken (post off 0x0A01 [(1, 47), (1, 2), (2, 0)]) 0x0A01 chkKlnLaneCtrl,
      taken (post dev 0x0A02 [(1, 53), (3, 0)]) 0x0A02 chkKlnLaneQuery,
      taken (post off 0x0A03 [(1, 15), (1, 7), (1, 32), (1, 255), (2, 4096), (2, 2160), (4, 16777215), (4, 0xFFFFFFFF)]) 0x0A03
        (fun r u => u.capEnableChecks r) fun r u => !u.rung 5 && (u.placeCells false 1).isSome &&
          (u.takeMemory [log2Up 12 ((r.u8 18 + 2) * capSlotBytes (r.u16 20) (r.u16 22))]).isSome,
      taken (post (capture 2) 0x0A04 [(1, 15), (1, 0), (2, 1000)]) 0x0A04 chkCapDisable fun r u => (u.injTake 0x19 (0x300 + r.u8 16)).1.isNone,
      taken (post (capture 2) 0x0A05 [(1, 15), (3, 0)]) 0x0A05 chkCapQuery]) = true := by decide +kernel

/-- `s` in role `ro` and phase `ph`, its pair subsystem ready, with `p` beside its registers. -/
def paired (ro ph : Nat) (p : PairSt := {}) (s : State := dev) : State :=
  { fields s [(Reg.PAIR_STATUS_READY, 1), (Reg.PAIR_STATUS_PRESENT, 1), (Reg.PAIR_STATUS_ROLE, ro), (Reg.PAIR_STATUS_PHASE, ph), (Reg.PAIR_TLOSS_US, 4000),
    (Reg.KLN_STAT_STATE 51, lsActive), (Reg.KLN_STAT_STATE 31, lsActive)] with pair := p }

/-- O16: the heartbeat, the loss of a partner and of the link, start-up of the pair. -/
theorem witness_PairEventsComplete_heartbeat : holds (
    let u := (paired roSolo 0).pass 0
    let l := ((paired roStandby 0 { pinAt := some 0, linkAt := some 0 }).pass 4000000).showAlive
    let k := ((paired roStandby 0 { pinAt := some 2000000, linkAt := some 0 }).pass 2000001).showAlive
    let f := (paired roBlind phFinding { startedAt := some 0 }).pass 1000000000
    let e := ((paired roActive 0 { egressAt := some 0 }).pass 4000000).showAlive
    let v := (paired roActive 0 { voids := [31] }).pass 500000000
    [u.heartRuns, u.role != roFaulted, u.ageNs % 50000 ≤ 20, u.pair.toggledAt.isNone, (u.injTake 0x15 0).1.isNone, u.pair.hbHeld ≤ u.tick, u.checkDual == u, u.pair.sentAt.isNone, u.pair.pinAt.isNone,
      u.role == roSolo, u.isSet Reg.PAIR_STATUS_READY, u.laneActive (pairLane 3),
      l.isSet Reg.PAIR_STATUS_READY, !l.pair.lost, !l.alive l.pair.pinAt, !l.alive l.pair.linkAt, l.pair.pinAt.isSome,
      k.isSet Reg.PAIR_STATUS_READY, k.pair.linkAt.isSome, !k.alive k.pair.linkAt, k.alive k.pair.pinAt, k.role == roStandby,
      f.pair.startedAt == some 0, f.role == roBlind, f.pairPhase == phFinding, f.since (max 0 (max (f.pair.pinAt.getD 0) (f.pair.linkAt.getD 0))) (2 * ticksPerS),
      e.pair.egressAt == some 0, e.since 0 (8 * ticksPerMs), e.egressMissing.isEmpty,
      v.pair.voids.contains 31, v.laneActive 31, v.since (v.lane 31).since ticksPerS]) = true := by decide +kernel

/-- O16: the selector, the interlock, a switchover, a join. -/
theorem witness_PairEventsComplete_roles : holds (
    let y := (paired roSolo 0 { ownAt := some 0, selLowAt := some 650000 }).pass 8983500
    let u := (paired roSolo 0).pass 0
    let i := (fields (paired roBlind 0 { ilkWaitAt := some 0 }) [(Reg.PAIR_PINS_ILK_IN, 0)]).pass 10000000
    let c := (fields (paired roBlind 0 { claimAt := some 0 }) [(Reg.PAIR_PINS_ILK_IN, 0)]).pass 500000
    let o := (paired roBlind 0 { ilkWaitAt := some 0, lost := true }).pass 0
    let a := (paired roActive phSynced { swAt := some 0 }).pass 0
    let b := (paired roStandby phSynced { swAt := some 0 }).pass 5000
    let j := (paired roBlind phJoining { aligned := true, xferDone := true, adopted := some default }).pass 0
    let g := (paired roStandby phSynced { gapAt := some 0, retx := true }).pass 50000
    [y.pair.ownAt == some 0, y.pair.selLowAt == some 650000, y.pairPresent, !y.ilkMode, y.role == roSolo, y.since (max (0 + tSel) 650000) tYield,
      u.pair.ownAt.isNone, i.pair.ilkWaitAt == some 0, i.pair.claimAt.isNone, i.pair.retryAt.isNone, i.ilkHigh == some 0, i.since 0 (20 * ticksPerMs), i.mayClaim, c.mayClaim, o.pair.ilkWaitAt.isSome, o.pair.claimAt.isNone, o.pair.retryAt.isNone, o.pair.lost,
      c.pair.claimAt == some 0, c.since 0 ticksPerMs, !c.isSet Reg.PAIR_PINS_ILK_IN,
      a.pair.swAt == some 0, a.role == roActive, 0 ≤ a.ptpNs, b.pair.swAt == some 0 && a.ready && b.ready, b.role == roStandby, 0 + 10000 ≤ b.ptpNs, !b.ilkMode,
      j.role == roBlind, j.pair.aligned, j.pair.xferDone, !j.pair.ageRate, j.ready, j.pairPhase != phResync, j.atLatchLine, j.pair.adopted == some default,
      g.pair.gapAt == some 0, g.since 0 (100 * ticksPerUs), g.pair.retx, g.role == roStandby]) = true := by decide +kernel

/-- O17: the next message in order at a standby; the four commands. -/
theorem witness_PairMessagesComplete : holds (
    let s := paired roStandby phSynced {} (words dev [(Reg.PAIR_PSEQ_RX, 0xFFFFFFFF)])
    let u := s.pass 0
    [u.pairHears, 0xFFFFFFFF == u.rd Reg.PAIR_PSEQ_RX, u.pair.held.isEmpty, (u.wr Reg.PAIR_PSEQ_RX (wrapAdd 32 0xFFFFFFFF 1)).mirrors,
      taken (post dev 0x0B01 [(1, 1), (3, 0), (2, 100), (2, 0)]) 0x0B01 chkPairCfg fun r _ => r.u8 16 == 1,
      taken (post (paired roBlind 0) 0x0B02 [(1, 1), (3, 0)]) 0x0B02 chkPairSwitchover fun r _ => bitAt (r.u8 16) 0,
      taken (post (paired roActive phSynced { partnerRole := roStandby }) 0x0B02 [(4, 0)]) 0x0B02 chkPairSwitchover fun r _ => !bitAt (r.u8 16) 0,
      taken (post (paired roBlind phIsolated) 0x0B03 [(4, 0)]) 0x0B03 chkPairRejoin,
      taken (post dev 0x0B04 [(4, 0)]) 0x0B04 chkPairQuery]) = true := by decide +kernel

/-- O18: mailboxes 0 and 7, ring 7, a restart that is due, the two ring commands. -/
theorem witness_MailboxEventsComplete : holds (
    let p := post dev 0x0101 []
    let u := (fields p [(Reg.MBX_CMPL_STATE 0, mbDone)]).pass 0
    let v := ((u.setMbox 0 { irq := true, serial := (u.mbox 0).serial + 1 }).setFld (Reg.MBX_CMPL_DONE 0) 0).setFld (Reg.MBX_CMPL_STATE 0) mbPosted
    let n := (words (fields dev [(Reg.MBX_NRING_CFG_OPEN 7, 1), (Reg.MBX_NRING_CFG_PARTITION 7, 1)]) [(Reg.MBX_NRING_PROD 7, 128)]).pass 0
    let r := ({ dev with ranger := { dev.ranger with restartDue := some 0 } } : State).pass 0
    [u.mbState 0 != mbPosted, u.mbState 0 != mbBusy, u.isSet Reg.MBX_STATUS_READY, (v.headerCheck 0).isNone, u.mbState 0 == mbDone,
      (Instr.mbxAreaWrite 0 0 4088 (List.replicate 8 255)).wf, n.isSet (Reg.MBX_NRING_CFG_OPEN 7), 128 % 64 == 0,
      wrapSub 32 128 (n.rd (Reg.MBX_NRING_CONS 7)) ≤ wrapSub 32 (n.rd (Reg.MBX_NRING_PROD 7)) (n.rd (Reg.MBX_NRING_CONS 7)),
      r.ranger.restartDue.isSome, !r.isSet Reg.MBX_STATUS_RECOVERY, !r.isSet Reg.HLT_STATUS_FATAL,
      taken (post dev 0x0C01 [(1, 24), (1, 1), (2, 0), (4, 2 ^ 24), (8, 2 ^ 24)]) 0x0C01 chkMbxNringOpen fun _ u =>
        ((List.range 8).find? fun n => !u.isSet (Reg.MBX_NRING_CFG_OPEN n)).isSome,
      taken (post n 0x0C02 [(4, 7)]) 0x0C02 chkMbxNringClose]) = true := by decide +kernel

/-- O19, one message for each command. -/
theorem witness_SystemCommandsComplete : holds (
    [taken (post dev 0x0101 []) 0x0101 (fun _ _ => []), taken (post dev 0x0102 []) 0x0102 (fun _ _ => []),
      taken (post dev 0x0103 [(1, 1), (1, 0), (2, 3600), (2, 0x5E7C), (2, 0)]) 0x0103 chkSysService,
      taken (post dev 0x0104 [(4, 0)]) 0x0104 chkSysFwRestart,
      taken (post dev 0x0105 [(4, 0xFFFFFFFF), (1, 128), (1, 32), (1, 16), (1, 64)]) 0x0105 chkSysPartCreate fun _ u =>
        (List.range 4094).find? (fun i => !(u.partOf (i + 2)).present) == some 0,
      taken (post { dev with parts := [(4095, { present := true })] } 0x0106 [(2, 4095), (1, 0), (1, 12), (4, 0), (8, 0x30000000)]) 0x0106 chkSysPartGrant fun r u =>
        r.u8 18 == 0 && ((List.range 40).find? fun i => !u.grants.any fun g => g.region == i).isSome,
      taken (post { dev with parts := [(4095, { present := true })] } 0x0107 [(2, 4095), (2, 0)]) 0x0107 chkSysPartDestroy,
      taken (post dev 0x0108 [(2, 1), (2, 0)]) 0x0108 chkSysPartQuery,
      taken (post dev 0x0109 [(1, 7), (1, 0), (2, 1)]) 0x0109 chkSysMbxBind, dev.ranger.svcEnd ≤ dev.tick]) = true := by decide +kernel

/-- O20: reset, its release, a warm start due and one refused, the last step of a start but one, a restart of firmware. -/
theorem witness_StartComplete : holds (
    let r := ({ State.reset with sys := { State.reset.sys with resetLow := true } } : State).pass 5000
    let u := ({ dev with sys := { dev.sys with warmDue := some 0, resetLow := false, deep := false } } : State).pass 0
    let f := (fields ({ dev with sys := u.sys }) [(Reg.MBX_STATUS_RECOVERY, 1), (Reg.SYS_PWR_STATE, 4)]).pass 0
    let g := (fields ({ dev with sys := u.sys }) [(Reg.SYS_START_STAT_STEP, 13)]).pass 0
    let m := (fields dev [(Reg.MBX_STATUS_RESTARTING, 1), (Reg.SYS_PWR_STATE, 0)]).pass 0
    [r.sys.resetLow, r.since r.sys.startAt (10 * ticksPerUs), !u.sys.resetLow, !u.sys.deep, u.fld Reg.SYS_PWR_STATE != 2, u.fld Reg.SYS_PWR_STATE != 4,
      !u.warmRefused, u.sys.warmDue.isSome, f.sys.warmDue.isSome, f.warmRefused, g.startStep == 13, !g.sys.resetLow, !g.sys.deep, g.fld Reg.SYS_PWR_STATE != 4,
      m.isSet Reg.MBX_STATUS_RESTARTING, m.startStep == 0, !m.sys.resetLow, m.fld Reg.SYS_PWR_STATE != 2]) = true := by decide +kernel

/-- O21: power failure, its end before the first cold start was done and after, power states, an image being written. -/
theorem witness_PowerEventsComplete : holds (
    let u := ({ dev with sys := { dev.sys with resetLow := false, deep := false, imgWrite := some { slot := 0, item := 0, length := 4, source := 0 } } } : State).pass 0
    let fail (done : Nat) := ({ fields dev [(Reg.SYS_START_STAT_COLD_DONE, done), (Reg.SYS_PWR_STATE, 4), (Reg.BLZ_STATUS_PF_DONE, 1)] with
      sys := { dev.sys with pfLow := false, pfHighAt := some 0 } } : State).pass 5000000
    let f := fail 0
    let g := fail 1
    let x (st : Nat) := ({ fields dev [(Reg.SYS_PWR_STATE, 1)] with sys := { dev.sys with powerDue := some (st, 0) } } : State).pass 0
    let w := (fields dev [(Reg.SYS_PWR_STATE, 2)]).pass 0
    [!u.sys.resetLow, !u.sys.deep, u.fld Reg.SYS_PWR_STATE != 4, f.sys.pfHighAt == some 0, !f.sys.pfLow, f.fld Reg.SYS_PWR_STATE == 4,
      f.since 0 (10 * ticksPerMs), f.isSet Reg.BLZ_STATUS_PF_DONE, !f.isSet Reg.SYS_START_STAT_COLD_DONE, g.sys.pfHighAt == some 0, !g.sys.pfLow,
      g.fld Reg.SYS_PWR_STATE == 4, g.since 0 (10 * ticksPerMs), g.isSet Reg.BLZ_STATUS_PF_DONE, g.isSet Reg.SYS_START_STAT_COLD_DONE,
      !g.isSet Reg.HLT_STATUS_FATAL, (x 2).sys.powerDue == some (2, 0), (x 2).fld Reg.SYS_PWR_STATE == 1, (x 3).sys.powerDue == some (3, 0),
      (x 3).fld Reg.SYS_PWR_STATE == 1, w.hostPort, w.fld Reg.SYS_PWR_STATE == 2, bitsAt 0x5A57 15 0 == 0x5A57, bitsAt 0x5A56 15 0 != 0x5A57,
      u.sys.imgWrite.isSome]) = true := by decide +kernel

/-- O22, one message for each command. Of an image's checks, its judgement rests on free values (log 20): here stand the others. -/
theorem witness_StartCommandsComplete : holds (
    [taken (post dev 0x1101 []) 0x1101 (fun _ _ => []), taken (post dev 0x1102 [(4, 0)]) 0x1102 chkSysWarmStart, taken (post dev 0x1103 []) 0x1103 (fun _ _ => []),
      taken (post dev 0x1104 [(1, 1), (1, 1), (2, 0), (4, 4096), (8, 0x20000000)]) 0x1104 (fun r u => (chkSysImageWrite r u).eraseIdx 6)
        fun r u => u.granted r.part (r.u64 24) (r.u32 20),
      taken (post dev 0x1105 [(1, 1), (3, 0)]) 0x1105 chkSysPower]) = true := by decide +kernel

/-- O23: watchdogs, sensors, injection, Firebreak's registers, the CRC units. -/
theorem witness_HealthComplete : holds (
    let u := dev.pass 0
    let a := ({ dev with hlt := { dev.hlt with key1At := none, armedUntil := some 0 } } : State).pass 0
    let b := (fields dev [(Reg.CVU_CTRL_BUSY 3, 1)]).pass 0
    let inj := (post dev 0x0F03 [(1, 0x10), (1, 0), (2, 27), (4, 2), (8, 0)]).pass 0
    let r := inj.request 0
    let x := ((inj.setFld Reg.HLT_INJ_STAT_DONE 0).setFld Reg.HLT_INJ_STAT_EXPIRED 0).setFld Reg.HLT_INJ_STAT_REFUSED 0
    let y := ((x.wr Reg.HLT_INJ_SEL (r.u8 16 * 2 ^ 24 + r.u16 18)).wr Reg.HLT_INJ_PARAM (r.u32 20)).wr64 Reg.HLT_INJ_ADDR_LO Reg.HLT_INJ_ADDR_HI (r.u64 24 / 64 * 64)
    let v := ((y.injKey 0x1E57).injKey 0xA11C).injGo
    [!u.isSet Reg.HLT_STATUS_FATAL, !u.isSet Reg.MBX_STATUS_RESTARTING, u.isSet Reg.MBX_STATUS_READY, (u.injTake 6 2 (fun _ => 1)).1.isNone,
      (u.injTake 5 0 (fun _ => 1)).1.isNone, a.hlt.key1At.isNone, a.hlt.armedUntil == some 0, bitAt (2 ^ 31) 31, 47 < fbkCount 0,
      !bitAt (u.fbkStaged 0 47).cfg 28, cvuMayWrite 3 true, cvuMayWrite 1 false, b.isSet (Reg.CVU_CTRL_BUSY 3),
      (u.cvuConfigWrite 3 0).isSet (Reg.CVU_CTRL_BUSY 3) || (b.cvuConfigWrite 3 0).isSet (Reg.CVU_CTRL_BUSY 3),
      !u.isSet (Reg.CVU_CTRL_BUSY 3), u.fld (Reg.CVU_CTRL_FEED_BYTES 3) == 0, !(b.cvuSt 3).aborting, (b.cvuSt 3).waiter.isNone,
      taken (post dev 0x0E01 [(1, 27), (3, 0)]) 0x0E01 chkFbkQuery, taken (post dev 0x0F01 []) 0x0F01 (fun _ _ => []),
      taken (post dev 0x0F02 [(4, 0)]) 0x0F02 chkHltAck,
      taken (post dev 0x0F03 [(1, 0x10), (1, 0), (2, 27), (4, 2), (8, 0)]) 0x0F03 chkHltInject, !v.isSet Reg.HLT_INJ_STAT_REFUSED, !v.isSet Reg.HLT_INJ_STAT_DONE,
      taken (post dev 0x0F04 [(1, 3), (1, 0), (2, 1000), (4, 0), (8, 0), (8, 0), (8, 0), (8, 0x20000000), (8, 2 ^ 28)]) 0x0F04 chkCvuCheck]) = true := by decide +kernel

/-- O24: Blaze idle and flushing; one message for each command. -/
theorem witness_BlazeComplete : holds (
    let b := (fields dev [(Reg.BLZ_STATUS_FLUSHING, 1)]).pass 0
    [dev.blz.flushWaiters.isEmpty, b.isSet Reg.BLZ_STATUS_FLUSHING, taken (post dev 0x1001 []) 0x1001 (fun _ _ => []),
      taken (post dev 0x1002 [(1, 0), (3, 0), (4, 0xFFFFFFFF), (4, 255)]) 0x1002 chkBlzRead fun r u => u.blz.records.isEmpty && r.u8 16 == 0,
      taken (post (fields dev [(Reg.BLZ_BUF_UNFLUSHED_BYTES, 64)]) 0x1003 [(4, 0)]) 0x1003 chkBlzFlush fun _ u => u.fld Reg.BLZ_BUF_UNFLUSHED_BYTES != 0,
      taken (post dev 0x1004 [(1, 15), (1, 1), (2, 0), (4, 0), (1, 60), (3, 0), (8, 2 ^ 48)]) 0x1004 chkBlzListSet,
      taken (post dev 0x1005 [(16, 1)]) 0x1005 (fun _ _ => []) fun r u =>
        let mine (x : State) : Nat := (x.blz.queue.filter fun e => e.type == 5 && e.source == r.part).length
        mine (u.blzTrigger 5 r.part 0 (r.bytes 16 16)) != 0,
      taken (post (fields dev [(Reg.SYS_SVC_ACTIVE, 1)]) 0x1006 [(2, 0xB1C0), (2, 0)]) 0x1006 chkBlzLogClear]) = true := by decide +kernel

/-- O25: a scan that is due, the supply in both conditions, the end of a window; one message for each command. -/
theorem witness_StripPolicyComplete : holds (
    let s := fields dev [(Reg.STRIP_STATUS_OFF, 0), (Reg.SYS_AVS_STAT_READY, 1), (Reg.STRIP_SCAN_PULSES, 1024)]
    let all (x : State) : State := { x with strip := { x.strip with drv := 0xFFF, sns := 0xFFF } }
    let u := (all s).pass 500000000
    let f := (fields s [(Reg.SYS_AVS_STAT_FAIL, 1)]).pass 0
    let c := all s
    [u.scanDue, !u.sys.resetLow, u.avsRuns, !u.isSet Reg.SYS_AVS_STAT_FAIL, u.since u.sys.avsAt ticksPerMs, f.avsRuns, f.isSet Reg.SYS_AVS_STAT_FAIL,
      f.sys.avsRetryAt ≤ f.tick, u.isSet Reg.MBX_STATUS_READY, u.since u.pol.startAt (100 * ticksPerMs),
      taken (post s 0x1201 [(4, 1024 * 65536 + 100 * 256 + 255), (4, 0x02010000), (4, 0xE10FF000), (4, 0x000FD388)]) 0x1201 chkStripCfg fun r u =>
        u.fld Reg.STRIP_SCAN_PULSES == bitsAt (r.u32 16) 26 16,
      taken (post c 0x1202 [(1, 15), (1, 3), (1, 12), (1, 0), (1, 11), (1, 10), (1, 9), (1, 8), (1, 7), (1, 6), (1, 5), (1, 4), (1, 3), (1, 2), (1, 1), (1, 0)]) 0x1202
        chkStripControlSet,
      taken (post s 0x1203 [(18, 2 ^ 143), (2, 0)]) 0x1203 chkStripRebaseline, taken (post s 0x1204 []) 0x1204 (fun _ _ => []),
      taken (post dev 0x0D01 [(1, 17), (1, 20), (1, 10), (1, 60), (1, 90), (3, 0)]) 0x0D01 chkPolCfg fun _ u => u.pol.rungs == 0,
      taken (post dev 0x0D02 []) 0x0D02 (fun _ _ => []), taken (post dev 0x0D03 []) 0x0D03 (fun _ _ => [])]) = true := by decide +kernel

/-- O28: a command that is well formed, at the boundary of R439. O29: lengths 0, over the block, over the space. -/
theorem witness_accesses : holds (
    [(Instr.hostBar2Read 0 (2 ^ 36 - 4096) 4096 {}).wf, !accessOk (2 ^ 36) 0 0, !accessOk (2 ^ 36) 4095 2, !accessOk (2 ^ 36) (2 ^ 36) 1, !accessOk (2 ^ 48) (2 ^ 48) 1,
      accessOk (2 ^ 48) (2 ^ 48 - 1) 1]) = true := by decide +kernel

/-- O26, O27 and O31: a state with a command in front, one with none; both in canonical form. -/
theorem witness_queue : holds (
    [({ dev with pending := [.hbPinToggle 0] } : State).pending == [.hbPinToggle 0], State.reset.pending.isEmpty, dev.memOk,
      match step { dev with pending := [.hbPinToggle 0] } with | .next t => t.memOk | _ => false]) = true := by decide +kernel

/-- O33 to O35: the boundary of the register blocks, a pair, a register with no row of its own. -/
theorem witness_registers : holds (
    let u := dev.pass 0
    [u.hostPort, inBlock 0x08FFFC, 0x08FFFC % 4 == 0, inBlock 0x87FFF8, 0x87FFF8 % 8 == 0, 6 % 4 != 0,
      shadowsOf Reg.TIM_AGE_LO == [Reg.TIM_AGE_LO + 4], Reg.TIM_AGE_LO % 4 == 0, inBlock Reg.TIM_AGE_LO, inBlock (Reg.TIM_AGE_LO + 4), u.servesBar0 Reg.TIM_AGE_LO,
      u.servesBar0 (Reg.TIM_AGE_LO + 4), Reg.HLT_CTRL % 4 == 0, inBlock Reg.HLT_CTRL, (u.ownWrite Reg.HLT_CTRL 0).isNone, u.serviceWrite Reg.HLT_CTRL 0 == u, !within 0x050000 0x0503FF Reg.HLT_CTRL,
      !within 0x200110 0x20012F Reg.HLT_CTRL, (List.range 8).all fun m => Reg.HLT_CTRL != Reg.MBX_CMPL m]) = true := by decide +kernel

/-- O37: a device whose warm start clears nothing of the clock, and one in DEEP. -/
theorem witness_AgeClock : holds (
    let d := ({ dev with sys := { dev.sys with deep := true } } : State).pass 0
    [d.sys.deep, !(dev.pass 0).sys.deep]) = true := by decide +kernel

/-- O38 to O41: a host write through, one a window drops, a read that Firebreak denies, engines' and the debug master's accesses. -/
theorem witness_memory_frames : holds (
    let w := (fields dev [(Reg.FBK_WIN_CFG_ARMED 511, 1), (Reg.FBK_WIN_CFG_LOG2_SIZE 511, 12)]).pass 0
    let n := ({ dev with fbk := {} } : State).pass 0
    let u := dev.pass 0
    [u.windowAt 0xFF8 == none, w.windowAt 0xFF8 == some 511, w.hostPort, w.fld Reg.SYS_PWR_STATE != 2, inDeviceMem 0xFF8, w.drives, !w.isSet Reg.PAIR_MIRROR_THROTTLE, w.pair.hostWait.isEmpty,
      accessOk (2 ^ 36) 0xFF8 8, (w.fbkDenies fbkHost 0xFF8 false).isNone, n.fbkDenies fbkHost 0xFF8 false == some 0, !inDeviceMem 0xC00000000,
      (u.fbkCheck 27 0xBFFFFFFFF true 1).1, (u.fbkCheck 27 0xBFFFFFFFF false 1).1, !within 0xFF00000000 0xFF00FFFFFF 0xFF8,
      match exec (.hostBar2Write 0 0xFF8 ⟨List.replicate 8 1, false⟩) dev with | .next t => t.memByte 0xFFF == 1 | _ => false,
      match exec (.hostBar2Write 0 0xFF8 ⟨List.replicate 8 1, false⟩) (fields dev [(Reg.FBK_WIN_CFG_ARMED 511, 1), (Reg.FBK_WIN_CFG_LOG2_SIZE 511, 12)]) with
        | .next t => t.memByte 0xFFF == 0 && t.rd (Reg.FBK_WIN_HITS 511) == 1 | _ => false,
      (u.fbkCheck 27 0xBFFFFFFFF true 1).2.2.memFree 0xBFFFFFFFF 1, w.memFree 0xFF8 8, u.waitingStore 0xFF8 == false,
      match exec (.engineMemoryAccess 0 27 true 0xBFFFFFFFF [7] 0 {}) dev with | .next t => t.memByte 0xBFFFFFFFF == 7 | _ => false,
      match exec (.debugAccess 0 true 0xFF8 [7] {}) (fields dev [(Reg.SYS_STRAPS_DBG_EN, 1)]) with | .next t => t.memByte 0xFF8 == 7 | _ => false]) = true := by decide +kernel

/-- O42: a cell of ring 63's partition, a foreign one, a generation that differs, a VOID record. -/
theorem witness_HostRecordChecks : holds (
    let s := withCell 1048575 { hostCell with gen := 255 } (fields dev [(Reg.LDG_CRING_CFG_PARTITION 63, 1)])
    let rec_ (g a k : Nat) (time : Nat := 0) : List Byte := pack [(4, 1048575 + g * 2 ^ 20), (1, a), (1, k), (2, 0), (8, time)]
    let c := s.cell 1048575
    [c.ownerKind == 1, c.partition == s.fld (Reg.LDG_CRING_CFG_PARTITION 63), !c.damaged, (s.cell 5).ownerKind == 0,
      (s.hostConfirm 63 (rec_ 255 2 2) false).1.isNone, (s.hostConfirm 63 (rec_ 254 2 2) false).1 == some Reg.LDG_CNT_GEN,
      (s.hostConfirm 63 (rec_ 255 3 2) false).1 == some Reg.LDG_CNT_FORMAT, (s.hostConfirm 63 (rec_ 255 0 1 (10 ^ 9)) false).1 == some Reg.LDG_CNT_FORMAT,
      (s.hostConfirm 62 (rec_ 255 2 2) false).1 == some Reg.LDG_CNT_OWNER,
      (s.hostConfirm 63 (pack [(4, 5), (1, 0), (1, 2), (2, 0), (8, 0)]) false).1 == some Reg.LDG_CNT_UNALLOC]) = true := by decide +kernel

/-- O43: a confirmation in time and one whose deadline has passed; a cell whose expiry is not suppressed. O44, O45. -/
theorem witness_ConfirmTransitions : holds (
    let s := withCell 4096 { hostCell with state := csVoid } (dev.pass 100000000)
    let c (t : Nat) : Cell := { s.cell 4096 with confirmedAt := t, aged := false }
    let f := withCell 1048575 hostCell
    [passed s.now40 (c 0).deadline, !passed s.now40 (c s.now40).deadline, !s.ldg.suppressed.contains 4096, (s.cellAllowed 4096).1, 4096 < cellCount,
      ((s.applyConfirm 4096 0 0).cell 4096).state == csStale,
      match exec (.ldgCellForce 0 0) (post f 0x0204 [(4, 1048575), (4, 1), (1, 3), (3, 0)]) with | .next t => (t.cell 1048575).state == 3 | _ => false,
      match exec (.ldgStickyRelease 0 0) (post f 0x0206 [(4, 1048575), (4, 1)]) with | .next t => !(t.cell 1048575).sticky | _ => false]) = true := by decide +kernel

/-- O46 to O48 and O50: the gate's service window, a RECOVERING span, first and later frame starts, an index beyond PROD. -/
theorem witness_gate_and_frames : holds (
    let u := (fields dev [(Reg.GATE_STATUS_SVC, 1)]).pass 0
    let p : LineSpan := { state := csRecovering }
    let st := (output osStarting { sampled := 1 }).pass 0
    let f := (output osRunning { ended := true, sampled := 1 }).pass 500000000
    [u.isSet Reg.GATE_STATUS_SVC, p.eff == csRecovering, st.startDue 31, st.outState 31 == osStarting, f.startDue 31, f.outState 31 != osStarting,
      wrapSub 32 (u.rd (Reg.ENC_SES_RING_PROD 31)) (u.rd (Reg.ENC_SES_RING_CONS 31)) < wrapSub 32 1 (u.rd (Reg.ENC_SES_RING_CONS 31))]) = true := by decide +kernel

/-- O51 to O56: a body of the greatest length, a doorbell without firmware, the highest class, HLT_ACK, a CRC unit, FATAL and not. -/
theorem witness_rings_and_faults : holds (
    let u := (fields dev [(Reg.MBX_STATUS_READY, 0)]).pass 0
    let f := fields dev [(Reg.HLT_STATUS_FATAL, 1)]
    [(List.replicate 4080 (0 : Byte)).length ≤ 4080, u.mbState 7 != mbPosted, u.mbState 7 != mbBusy, !u.isSet Reg.MBX_STATUS_READY, 3 < 4,
      taken (post dev 0x0F02 [(4, 0)]) 0x0F02 chkHltAck, cvuMayWrite 3 true, !u.isSet (Reg.CVU_CTRL_BUSY 3), 15 < 16, !dev.isSet Reg.HLT_STATUS_FATAL,
      f.isSet Reg.HLT_STATUS_FATAL]) = true := by decide +kernel

/-- O57: a warm start that is not refused. O58: a query that is answered. O59: each listed command refused by a check. -/
theorem witness_starts_and_refusals : holds (
    let u := ({ dev with sys := { dev.sys with resetLow := false, deep := false } } : State).pass 0
    let bad (s : State) (op : Nat) (b : List (Nat × Nat)) (chk : Req → State → List (Bool × Nat × Nat)) : Bool :=
      let v := (post s op b).pass 0
      v.takesUp 0 op && (firstBad (chk (v.request 0) v)).isSome
    [!u.sys.resetLow, !u.sys.deep, u.fld Reg.SYS_PWR_STATE != 2, !u.warmRefused,
      match exec (.timQuery 0 0) (post dev 0x0904 [(4, 0)]) with | .next t => t.mbState 0 == mbDone | _ => false,
      bad dev 0x0203 [(4, 0), (4, 1), (4, 15), (4, 1), (4, 0)] chkLdgCellSet, bad dev 0x0401 [(1, 8), (3, 0), (4, 0)] chkStandCfg,
      bad dev 0x0402 [(1, 32), (1, 24), (10, 0)] chkOutEnable, bad dev 0x0403 [(1, 31), (3, 0)] chkOutDisable, bad dev 0x0404 [(1, 31), (7, 0)] chkOutSet,
      bad dev 0x0501 [(4, 1), (11, 0), (1, 1), (28, 0)] chkLkoRegionSet, bad dev 0x0704 [(2, 32), (2, 0)] chkEncRefresh, bad dev 0x0B01 [(1, 8), (7, 0)] chkPairCfg,
      bad dev 0x1201 [(16, 0)] chkStripCfg]) = true := by decide +kernel

/-- O60: a safety-class message before a standard-class one, the earlier of two of one class, and one that concerns no output. -/
theorem witness_SafetyWorkFirst : holds (
    let two (op : Nat) (later : List (Nat × Nat)) : State :=
      let p := post dev 0x0404 [(1, 3), (7, 0)]
      let b := pack later
      { fields (p.areaWrite 7 (pack [(2, op), (2, 8), (2, 16 + b.length), (2, 0), (2, 1), (6, 0)] ++ b))
          [(Reg.MBX_CMPL_STATE 7, 1), (Reg.MBX_BIND_PARTITION 7, 1), (Reg.CNP_OUT_CTRL_CLASS 3, 1), (Reg.CNP_OUT_CTRL_CLASS 4, 1)] with arrivals := [0, 7] }
    let c (s : State) (m : Nat) : Option Bool := (s.pass 0).workClass m
    let std := two 0x0404 [(1, 5), (7, 0)]
    let same := two 0x0404 [(1, 4), (7, 0)]
    let free := two 0x0904 [(4, 0)]
    [(std.pass 0).mbState 0 == mbPosted, c std 0 == some true, c std 7 == some false, c same 0 == c same 7, (c same 0).isSome,
      (same.pass 0).arrivals.idxOf 0 < (same.pass 0).arrivals.idxOf 7, c free 7 == none, (free.pass 0).mbState 0 == mbPosted,
      !(std.pass 0).takesUp 7 0x0404, (std.pass 0).takesUp 0 0x0404, (free.pass 0).takesUp 7 0x0904]) = true := by decide +kernel

/-! ### Terms that are not well formed -/

/-- One term for each check of `Instr.wf`, which it refuses. -/
theorem test_ill_formed : holds (
    let eight : List Byte := List.replicate 8 0
    [!(Instr.hostBar2Write 0 4095 ⟨List.replicate 2 0, false⟩).wf, !(Instr.hostBar2Read 0 0 0 {}).wf,
      !(Instr.engineMemoryAccess 0 2 false (2 ^ 48) [] 1 {}).wf, !(Instr.debugAccess 0 true 0 [] ⟨1, []⟩).wf, !(Instr.lineSamplePoint 0 0 2160 false []).wf, !(Instr.lineStart 0 0 2160 [] [] 0).wf,
      !(Instr.lineStart 0 0 0 [] [8] 0).wf, !(Instr.lineStart 0 0 0 [] [] 1537).wf, !(Instr.returnSigReceived 0 0 eight).wf, !(Instr.ethFrameReceived 0 0 [] {}).wf,
      !(Instr.klnBlockReceived 0 0 0 [] 8 0).wf, !(Instr.statusMsgReceived 0 0 []).wf, !(Instr.hotplugMsgReceived 0 0 eight).wf,
      !(Instr.heartbeatReceived 0 0 eight).wf, !(Instr.mbxAreaWrite 0 0 4 eight).wf, !(Instr.mbxAreaWrite 0 0 4096 eight).wf, !(Instr.mbxAreaWrite 0 0 0 []).wf,
      !(Instr.firmwareStop 0 6 0).wf, !(Instr.tempSample 0 []).wf, !(Instr.stripScan 0 []).wf, !(Instr.avsReadback 0 65536 0 0 []).wf]) = true := by decide +kernel

/-! ### Results computed from the specification -/

/-- R13's worked example: with 8 bits, 3 is newer than 250. -/
theorem test_serial_order : holds ([newer 8 3 250, !newer 8 250 3]) = true := by decide +kernel

/-- R163: the check value of CRC-32C. -/
theorem test_crc32c : crc32c [0x31, 0x32, 0x33, 0x34, 0x35, 0x36, 0x37, 0x38, 0x39] = 0xE3069283 := by decide +kernel

/-- R47: an accepted confirmation of a VOID cell whose new deadline has passed makes it STALE. -/
theorem test_void_confirmed_late :
    let s := withCell 4096 { hostCell with state := csVoid } (dev.pass 100000000)
    ((s.applyConfirm 4096 0 0).cell 4096).state = csStale := by decide +kernel

/-- R439: an access over a 4 KiB boundary stops. -/
theorem test_bad_access : (match exec (.hostBar2Read 0 4095 2 {}) dev with | .fault f => f == .badAccess | _ => false) = true := by decide +kernel

/-- R6: a misaligned register read returns zero. -/
theorem test_misaligned_read : (match exec (.regReadLowHalf 0 2 4) dev with | .next t => t.readData == 0 | _ => false) = true := by decide +kernel

/-- R277 and R276: 500,000,000 ticks of 2 ns are one second of the age clock. -/
theorem test_age_second : (dev.pass 500000000).ageNs = 10 ^ 9 := by decide +kernel

/-- R461: a FATAL fault drives FAULT_N low. -/
theorem test_fault_pin : (dev.fatal 1 4 0 false).faultN = true := by decide +kernel

/-- A message of partition 2 in mailbox 0, which partition 1 holds. -/
def setPart : State := fields (postAs 2 dev 0x0101 []) [(Reg.MBX_BIND_PARTITION 0, 1)]

/-- R393: a message whose PARTITION is not the mailbox's binding is refused with PARTITION. -/
theorem test_wrong_partition : setPart.headerCheck 0 = some (stPartition, noField) := by decide +kernel


end Sys2Proof.Machine.Tests
end

-- Registers, their accesses and serial numbers (spec/00_scope.md): O33 to O36.
section
/-! PROOF. How the host's register accesses, a write by field type and the shadows of 64-bit pairs behave, what the passing of time leaves
alone, and serial-number order. -/

namespace Sys2Proof.Machine

open Sys2Proof

/-! ### Serial numbers (R13) -/

/-- The difference that `newer` compares is that of R13, taken modulo `2^n`. -/
theorem wrapSub_cast (n a b : Nat) : (wrapSub n a b : Int) = ((a : Int) - b) % 2 ^ n := by
  have hle : b % 2 ^ n ≤ a + 2 ^ n := Nat.le_add_left_of_le (Nat.mod_lt b (Nat.two_pow_pos n)).le
  have hb : (b : Int) % 2 ^ n = b - 2 ^ n * (b / 2 ^ n) := Int.emod_def _ _
  calc (wrapSub n a b : Int) = ((a : Int) + 2 ^ n - b % 2 ^ n) % 2 ^ n := by simp [wrapSub, Int.ofNat_sub hle]
    _ = ((a : Int) - b + 2 ^ n * (1 + b / 2 ^ n)) % 2 ^ n := by rw [hb]; ring_nf
    _ = ((a : Int) - b) % 2 ^ n := Int.add_mul_emod_self_left _ _ _

/-- R13's definition of newer. -/
theorem newer_iff (n a b : Nat) :
    newer n a b = true ↔ 1 ≤ ((a : Int) - b) % 2 ^ n ∧ ((a : Int) - b) % 2 ^ n < 2 ^ (n - 1) := by
  rw [← wrapSub_cast]
  simp only [newer, Bool.and_eq_true, decide_eq_true_eq]
  norm_cast

/-- Settles O36: `newer` is R13's comparison, and its worked example is evaluated. -/
theorem serialOrder : Obligations.SerialOrder :=
  ⟨fun n a b _ => newer_iff n a b, by decide, by decide, by decide, by decide⟩

/-! ### Register accesses by size and alignment (R6) -/

theorem exec_regReadLowHalf (dt a size : Nat) (s : State) :
    exec (.regReadLowHalf dt a size) s = .next ((s.pass dt).hostRegRead a size) := rfl

theorem exec_regWrite (dt a size v : Nat) (s : State) :
    exec (.regWrite dt a size v) s = .next ((s.pass dt).hostRegWrite a size v) := rfl

/-- Every register block ends below 0x880000 (R29), so an access that starts in one stays inside BAR0. -/
theorem access_inside_bar0 {a n : Nat} (h : inBlock a = true) (hn : n ≤ 8) : a + n ≤ 0x1000000 := by
  simp only [inBlock, within, Bool.or_eq_true, Bool.and_eq_true, decide_eq_true_eq] at h
  omega

/-- The model's test of an access fails on every size and alignment that R6 does not name. -/
theorem access_refused {a size : Nat} (h : (size ≠ 4 ∧ size ≠ 8) ∨ a % size ≠ 0) :
    ((size == 4 || size == 8) && a % size == 0) = false := by
  rcases h with ⟨h4, h8⟩ | hal
  · simp [h4, h8]
  · simp [hal]

theorem State.hostRegWrite_refused (s : State) {a size : Nat} (v : Nat) (h : (size ≠ 4 ∧ size ≠ 8) ∨ a % size ≠ 0) :
    s.hostRegWrite a size v = s := by
  simp [State.hostRegWrite, Bool.and_assoc, access_refused h]

section
variable {s : State} {a : Nat} (hp : s.hostPort = true)
include hp

theorem State.hostRegRead_refused {size : Nat} (h : (size ≠ 4 ∧ size ≠ 8) ∨ a % size ≠ 0) :
    s.hostRegRead a size = { s with readData := 0 } := by
  simp [State.hostRegRead, hp, access_refused h]

theorem State.hostRegRead_word (ha : a % 4 = 0) (hb : inBlock a = true) : s.hostRegRead a 4 = s.readReg a := by
  have hin : a + 4 ≤ 0x1000000 := access_inside_bar0 hb (by decide)
  simp [State.hostRegRead, hp, ha, hb, hin]

theorem State.hostRegWrite_word (v : Nat) (ha : a % 4 = 0) (hb : inBlock a = true) :
    s.hostRegWrite a 4 v = s.regWrite a (v % 2 ^ 32) := by
  have hin : a + 4 ≤ 0x1000000 := access_inside_bar0 hb (by decide)
  simp [State.hostRegWrite, hp, ha, hb, hin]

theorem State.hostRegRead_pair (ha : a % 8 = 0) (hb : inBlock a = true) :
    s.hostRegRead a 8 = { (s.readReg a).readReg (a + 4) with
      readData := (s.readReg a).readData + 2 ^ 32 * ((s.readReg a).readReg (a + 4)).readData } := by
  have hin : a + 8 ≤ 0x1000000 := access_inside_bar0 hb (by decide)
  simp [State.hostRegRead, hp, ha, hb, hin]

theorem State.hostRegWrite_pair (v : Nat) (ha : a % 8 = 0) (hb : inBlock a = true) :
    s.hostRegWrite a 8 v = (s.regWrite a (v % 2 ^ 32)).regWrite (a + 4) (v / 2 ^ 32 % 2 ^ 32) := by
  have hin : a + 8 ≤ 0x1000000 := access_inside_bar0 hb (by decide)
  simp [State.hostRegWrite, hp, ha, hb, hin]

end

/-- Settles O33: each register is a 32-bit word, and the host's access is cut by its size and alignment. -/
theorem registerAccessSizes : Obligations.RegisterAccessSizes := by
  refine ⟨State.rd_lt, ?_⟩
  intro s dt a size v u hp
  refine ⟨fun h => ⟨?_, ?_⟩, fun ha hb => ⟨?_, ?_⟩, fun ha hb => ⟨⟨_, rfl, ?_⟩, ?_⟩⟩
  · rw [exec_regReadLowHalf, State.hostRegRead_refused hp h]
  · rw [exec_regWrite, State.hostRegWrite_refused _ v h]
  · rw [exec_regReadLowHalf, State.hostRegRead_word hp ha hb]
  · rw [exec_regWrite, State.hostRegWrite_word hp v ha hb]
  · rw [State.hostRegRead_pair hp ha hb]
  · rw [exec_regWrite, State.hostRegWrite_pair hp v ha hb]

/-! ### A write by field type (R8, R9) -/

theorem bitAt_eq_testBit (x i : Nat) : bitAt x i = x.testBit i := by
  rw [Nat.testBit_eq_decide_div_mod_eq, bitAt, beq_eq_decide]

theorem bitAt_toNat (w : Word) (i : Nat) : bitAt w.toNat i = w.getLsbD i := by
  rw [bitAt_eq_testBit, BitVec.testBit_toNat]

theorem bitAt_mod_two_pow (v : Nat) {n i : Nat} (hi : i < n) : bitAt (v % 2 ^ n) i = bitAt v i := by
  simp [bitAt_eq_testBit, Nat.testBit_mod_two_pow, hi]

/-- The word that a write by field type stores, bit by bit: R8's write column, with R9's exception for an event of the same tick. -/
theorem State.bitAt_rd_typeWrite (s : State) (a v : Nat) {i : Nat} (hi : i < 32) :
    bitAt ((s.typeWrite a v).rd a) i =
      (if bitAt (w1cMask a) i && bitAt v i && !bitAt (s.raisedBits a) i then false
       else if bitAt (rwMask a) i then bitAt v i else bitAt (s.rd a) i) := by
  rw [State.typeWrite, State.rd_wr_same, Nat.mod_eq_of_lt (BitVec.isLt _), bitAt_toNat]
  simp only [BitVec.getLsbD_and, BitVec.getLsbD_or, BitVec.getLsbD_not, BitVec.getLsbD_ofNat, hi, decide_true, Bool.true_and,
    ← bitAt_eq_testBit]
  cases bitAt (w1cMask a) i && bitAt v i && !bitAt (s.raisedBits a) i with
  | true => simp
  | false => cases bitAt (rwMask a) i <;> simp

theorem State.rd_typeWrite_other (s : State) {a b : Nat} (v : Nat) (h : b ≠ a) : (s.typeWrite a v).rd b = s.rd b :=
  s.rd_wr_other _ h.symm

@[simp] theorem State.typeWrite_memByte (s : State) (a v b : Nat) : (s.typeWrite a v).memByte b = s.memByte b := rfl
@[simp] theorem State.typeWrite_ldg (s : State) (a v : Nat) : (s.typeWrite a v).ldg = s.ldg := rfl
@[simp] theorem State.typeWrite_clk (s : State) (a v : Nat) : (s.typeWrite a v).clk = s.clk := rfl

theorem indexOf_eq_none {a count : Nat} {reg : Nat → Nat} (h : ∀ n, n < count → a ≠ reg n) : indexOf a count reg = none := by
  simpa [indexOf] using h

/-- A register whose write has no effect of its own is written by its field types. -/
theorem State.regWrite_eq_typeWrite {s : State} {a v : Nat} (hown : s.ownWrite a v = none) (hsvc : s.serviceWrite a v = s)
    (hcvu : within 0x050000 0x0503FF a = false) (hldg : within 0x200110 0x20012F a = false)
    (hmbx : ∀ m, m < 8 → a ≠ Reg.MBX_CMPL m) : s.regWrite a v = s.typeWrite a v := by
  simp [State.regWrite, hcvu, hldg, hown, indexOf_eq_none hmbx, hsvc]

/-- Settles O35: such a write is `typeWrite`, whose bits and frame are given above. -/
theorem registerWriteEffect : Obligations.RegisterWriteEffect := by
  intro s dt a v u hp ha hb hown hsvc hcvu hldg hmbx
  refine ⟨u.typeWrite a (v % 2 ^ 32), ?_, fun i hi => ?_, fun b h => u.rd_typeWrite_other _ h, fun b => ?_, ?_, ?_⟩
  · rw [exec_regWrite, State.hostRegWrite_word hp v ha hb, State.regWrite_eq_typeWrite hown hsvc hcvu hldg hmbx]
  · rw [u.bitAt_rd_typeWrite a _ hi, bitAt_mod_two_pow v hi]
  · exact u.typeWrite_memByte a _ b
  · exact u.typeWrite_ldg a _
  · exact u.typeWrite_clk a _

/-! ### What the passing of time leaves alone (log 2) -/

/-- `s` with every field blanked that the passing of time can touch: two states with one `untimed` agree in every other field. -/
def State.untimed (s : State) : State :=
  { s with tick := 0, clk := {}, emitted := [], raised := [], regs := [], hbm := {}, hostMem := [], msix := [], pcie := {},
           nrings := [], coalesce := [], ranger := {}, blz := {}, hlt := {}, fbk := {} }

/-! The updates of one field. Their proofs stand in parentheses so that `simp` rewrites with them one update at a time; where it may take
them for definitional unfoldings, the kernel compares the register tables of nested updates. -/

@[simp] theorem State.wr_untimed (s : State) (a v : Nat) : (s.wr a v).untimed = s.untimed := (rfl)
@[simp] theorem State.setFld_untimed (s : State) (f : Fld) (v : Nat) : (s.setFld f v).untimed = s.untimed := (rfl)
@[simp] theorem State.raise_untimed (s : State) (f : Fld) : (s.raise f).untimed = s.untimed := (rfl)
@[simp] theorem State.bump_untimed (s : State) (a n : Nat) : (s.bump a n).untimed = s.untimed := (rfl)
@[simp] theorem State.bumpWrap_untimed (s : State) (a n : Nat) : (s.bumpWrap a n).untimed = s.untimed := (rfl)
@[simp] theorem State.msixRequest_untimed (s : State) (v : Nat) : (s.msixRequest v).untimed = s.untimed := (rfl)
@[simp] theorem State.hostWrite_untimed (s : State) (a : Nat) (b : List Byte) : (s.hostWrite a b).untimed = s.untimed := (rfl)
@[simp] theorem State.setNring_untimed (s : State) (n : Nat) (r : NringSt) : (s.setNring n r).untimed = s.untimed := (rfl)
@[simp] theorem State.setRun_untimed (s : State) (d i : Nat) (r : FaultRun) : (s.setRun d i r).untimed = s.untimed := (rfl)
@[simp] theorem State.elapse_untimed (s : State) (dt : Nat) : (s.elapse dt).untimed = s.untimed := (rfl)
@[simp] theorem State.updBlz_untimed (s : State) (x : BlzSt) : ({ s with blz := x } : State).untimed = s.untimed := (rfl)
@[simp] theorem State.updFbk_untimed (s : State) (x : FbkSt) : ({ s with fbk := x } : State).untimed = s.untimed := (rfl)

/-- A loop each of whose turns leaves the rest of the state alone leaves it alone. -/
theorem State.foldl_untimed {α : Type} (l : List α) (g : State → α → State) (s : State)
    (h : ∀ t x, (g t x).untimed = t.untimed) : (l.foldl g s).untimed = s.untimed :=
  List.foldlRecOn (motive := fun t => t.untimed = s.untimed) l g rfl fun t ht x _ => (h t x).trans ht

/-! #### Notices (R380 to R384) -/

@[simp] theorem State.nringAdvance_untimed (s : State) (n k : Nat) : (s.nringAdvance n k).untimed = s.untimed := by
  dsimp only [State.nringAdvance]
  split <;> simp

@[simp] theorem State.nringPlace_untimed (s : State) (n size kind stamp part flags c : Nat) (p : List Byte) :
    (s.nringPlace n size kind stamp part flags c p).untimed = s.untimed := by
  simp [State.nringPlace]

@[simp] theorem State.nringWrite_untimed (s : State) (n kind stamp part flags c : Nat) (p : List Byte) :
    (s.nringWrite n kind stamp part flags c p).untimed = s.untimed := by
  dsimp only [State.nringWrite]
  split <;> simp

@[simp] theorem State.nringLeave_untimed (s : State) (n : Nat) (x : Notice) (never : Bool) :
    (s.nringLeave n x never).untimed = s.untimed := by
  simp only [State.nringLeave]
  split
  · simp
  · split <;> simp

@[simp] theorem State.nringDrain_untimed (s : State) (n k : Nat) : (s.nringDrain n k).untimed = s.untimed := by
  induction k generalizing s with
  | zero => rfl
  | succ k ih =>
    dsimp only [State.nringDrain]
    split
    · rfl
    · split
      · simp [ih]
      · rfl

@[simp] theorem State.nringCatchUp_untimed (s : State) (n : Nat) : (s.nringCatchUp n).untimed = s.untimed := by
  dsimp only [State.nringCatchUp]
  split
  · rfl
  · split
    · simp
    · split <;> simp

/-- What a ring owes is caught up with first; then the notice is written or left. -/
@[simp] theorem State.nringTake_untimed (s : State) (n : Nat) (x : Notice) (never : Bool) :
    (s.nringTake n x never).untimed = s.untimed := by
  have howed : (if s.nringOwes n then s.nringCatchUp n else s).untimed = s.untimed := by split <;> simp
  simp only [State.nringTake]
  generalize (if s.nringOwes n then s.nringCatchUp n else s) = t at howed ⊢
  rw [← howed]
  split <;> simp

@[simp] theorem State.deliver_untimed (s : State) (kind obj : Nat) (dests : List Nat) (p : List Byte) (c : Nat) (never : Bool) :
    (s.deliver kind obj dests p c never).untimed = s.untimed := by
  refine State.foldl_untimed _ _ _ fun t n => ?_
  split <;> simp

@[simp] theorem State.raiseNotice_untimed (s : State) (kind obj : Nat) (dests : List Nat) (p : List Byte) (never : Bool) :
    (s.raiseNotice kind obj dests p never).untimed = s.untimed := by
  dsimp only [State.raiseNotice]
  split
  · simp
  · split
    · rfl
    · exact State.deliver_untimed ..

@[simp] theorem State.notice_untimed (s : State) (kind obj : Nat) (dests : List Nat) (p : List Byte) (never : Bool) :
    (s.notice kind obj dests p never).untimed = s.untimed := by
  dsimp only [State.notice]
  split
  · simp
  · rfl

/-! #### The fault collector (R460, R486) and the rest of a pass -/

@[simp] theorem State.blzTrigger_untimed (s : State) (type source sev : Nat) (d : List Byte) (fatal : Bool) :
    (s.blzTrigger type source sev d fatal).untimed = s.untimed := by
  simp only [State.blzTrigger]
  split
  · simp
  · generalize (if sev ≤ 1 then 16 else if sev == 2 then 4 else 1) = need
    split <;> simp

@[simp] theorem State.logFault_untimed (s : State) (det cls inst : Nat) (injected : Bool) (detail : Nat) :
    (s.logFault det cls inst injected detail).untimed = s.untimed := by
  simp [State.logFault, apply_ite State.untimed]

theorem State.fbkSettle_untimed (s : State) : s.fbkSettle.untimed = s.untimed := by
  refine State.foldl_untimed _ _ _ fun t p => ?_
  dsimp only
  split
  · split
    · rw [State.notice_untimed, State.logFault_untimed, State.updFbk_untimed, State.setRun_untimed]
    · simp
  · rfl

theorem State.writeBackDone_untimed (s : State) : s.writeBackDone.untimed = s.untimed := by
  unfold State.writeBackDone
  split <;> rfl

theorem State.rxDrain_untimed (s : State) (p dt : Nat) : (s.rxDrain p dt).untimed = s.untimed := by
  dsimp only [State.rxDrain]
  split
  · rfl
  · split <;> simp

theorem State.pass_untimed (s : State) (dt : Nat) : (s.pass dt).untimed = s.untimed := by
  rw [State.pass, State.fbkSettle_untimed]
  split
  · rfl
  · simp [State.rxDrain_untimed, State.writeBackDone_untimed]

/-- Time does not touch the shadows of 64-bit pairs. -/
@[simp] theorem State.pass_shadows (s : State) (dt : Nat) : (s.pass dt).shadows = s.shadows := by
  have h : (s.pass dt).untimed.shadows = s.untimed.shadows := by rw [State.pass_untimed]
  exact h

/-! ### Pair reads (R7) -/

/-- A read that is served returns the shadow held for the register, or else its value. -/
theorem State.readReg_readData {s : State} {a : Nat} (h : s.servesBar0 a = true) :
    (s.readReg a).readData = (sparseFind s.shadows a).getD (s.view a) := by
  simp [State.readReg, h]

/-- A read of the low half captures the high half as it is then. -/
theorem State.readReg_captures {s : State} {a : Nat} (h : s.servesBar0 a = true) (hs : shadowsOf a = [a + 4]) :
    sparseFind (s.readReg a).shadows (a + 4) = some (s.view (a + 4)) := by
  simp [State.readReg, h, hs, sparseFind_ins]

/-- Settles O34: the low read leaves the high half in its shadow, which time leaves alone and the high read returns. -/
theorem pairReadsAreCoherent : Obligations.PairReadsAreCoherent := by
  intro s v dt dt2 a u hs ha hb hb4 hp hserves
  refine ⟨u.readReg a, ?_, fun hv hp2 hserves2 => ⟨(v.pass dt2).readReg (a + 4), ?_, ?_⟩⟩
  · rw [exec_regReadLowHalf, State.hostRegRead_word hp ha hb]
  · rw [exec_regReadLowHalf, State.hostRegRead_word hp2 (by omega) hb4]
  · rw [State.readReg_readData hserves2, State.pass_shadows, hv, State.readReg_captures hserves hs, Option.getD_some]

end Sys2Proof.Machine
end

-- The gate (spec/03_scan_gate.md): O47.
section
/-! PROOF. What the gate paints in a RECOVERING span (R95). -/

namespace Sys2Proof.Machine

open Sys2Proof

/-! ### The lattice (R95) -/

/-- A RECOVERING span is neither cleared nor hatched: the lattice alone treats it. -/
theorem treatPixel_recovering {p : LineSpan} (hp : p.eff = csRecovering) (g : GateOut) (n x y i : Nat) :
    treatPixel g n p x y i = if x % 16 < 2 ∧ y % 16 < 2 then some (g.latch.col 4) else none := by
  have hvoid : csRecovering ≠ csVoid := by decide
  have hstale : csRecovering ≠ csStale := by decide
  simp [treatPixel, hvoid, hstale, hp]

/-- In a 16 × 16 tile whose pixel k stands in column k % 16 and row k / 16, the lattice is the 2 × 2 square at the corner. -/
theorem lattice_tile : ((List.range 256).filter fun k => k % 16 < 2 && k / 16 < 2) = [0, 1, 16, 17] := by decide

/-- Settles O47: no other treatment reaches a RECOVERING span, and the four pixels of a tile are 1/64 of it. -/
theorem recoveringLattice : Obligations.RecoveringLattice := by
  refine ⟨fun g n p x y i hp => treatPixel_recovering hp g n x y i, ?_⟩
  rw [lattice_tile]
  rfl

end Sys2Proof.Machine
end

-- Lookout (spec/06_lookout.md): O49.
section
/-! PROOF. The signature's bytewise CRC-32C (R163) is the parametric CRC of the check-value units (R468, R469). -/

namespace Sys2Proof.Machine

open Sys2Proof

/-! ### A CRC with reflected input (R468) -/

/-- With REFIN the shift register takes the steps of the reflected CRC by the reversed polynomial. -/
theorem CrcModel.bits_eq_crcSteps {m : CrcModel} (h : m.refin = true) (k r : Nat) :
    m.bits k r = crcSteps (reflectBits m.w m.poly) k r := by
  induction k generalizing r with
  | zero => rfl
  | succ k ih => simp only [CrcModel.bits, CrcModel.bit, crcSteps, h, if_true, ih]

theorem CrcModel.feed_eq_crcByte {m : CrcModel} (h : m.refin = true) (r : Nat) (b : Byte) :
    m.feed r b = crcByte (reflectBits m.w m.poly) r b.toNat := by
  simp only [CrcModel.feed, crcByte, h, if_true, CrcModel.bits_eq_crcSteps h]

/-- Input and output reflected alike: RESULT is the register itself, but for the final XOR. -/
theorem CrcModel.result_of_refin_eq_refout {m : CrcModel} (h : m.refin = m.refout) (r : Nat) :
    m.result r = xorNat r m.xorout := by
  simp [CrcModel.result, h]

/-! ### CRC-32C (R163) -/

/-- R163's generator polynomial, its bits reversed. -/
theorem reflectBits_poly32c : reflectBits 32 0x1EDC6F41 = poly32c := by decide

theorem crc32c_check_value : crc32c [0x31, 0x32, 0x33, 0x34, 0x35, 0x36, 0x37, 0x38, 0x39] = 0xE3069283 := by
  decide +kernel

/-- Settles O49: byte for byte both feed the same register, by the reversed polynomial, and both end in the same XOR. -/
theorem signatureIsCrc32c : Obligations.SignatureIsCrc32c := by
  unfold Obligations.SignatureIsCrc32c
  intro m
  refine ⟨fun l => ?_, crc32c_check_value⟩
  have hfeed : m.feed = fun c b => crcByte poly32c c b.toNat := by
    funext c b
    rw [CrcModel.feed_eq_crcByte rfl, ← reflectBits_poly32c]
  rw [CrcModel.result_of_refin_eq_refout rfl, hfeed]
  rfl

end Sys2Proof.Machine
end

-- The time unit (spec/10_time_unit.md): O37.
section
/-! PROOF. The age clock's rate (R276), and what leaves both clocks alone: notices, the classing of faults, and the start of a warm start.

The updates of `Laws/State.lean` are true by `rfl`. Here `simp` is told to rewrite with them (`-implicitDefEqProofs`) and not to take them for
definitional unfoldings, where the kernel would compare the register tables of nested updates. -/

namespace Sys2Proof.Machine

open Sys2Proof

/-! ### What leaves the clocks alone -/

/-- A loop each of whose turns leaves the clocks alone leaves them alone. -/
theorem State.foldl_clk {α : Type} (l : List α) (g : State → α → State) (s : State)
    (h : ∀ t x, (g t x).clk = t.clk) : (l.foldl g s).clk = s.clk :=
  List.foldlRecOn (motive := fun t => t.clk = s.clk) l g rfl fun t ht x _ => (h t x).trans ht

/-- The same with each turn's result named, for a turn under a large numeric guard, which the kernel would evaluate to compare clocks. -/
theorem State.foldl_clk_of_turns {α : Type} (l : List α) (g : State → α → State) (s : State)
    (h : ∀ t x u, g t x = u → u.clk = t.clk) : (l.foldl g s).clk = s.clk :=
  State.foldl_clk l g s fun t x => h t x _ rfl

@[simp] theorem State.raise_clk (s : State) (f : Fld) : (s.raise f).clk = s.clk := rfl
@[simp] theorem State.setRun_clk (s : State) (d i : Nat) (r : FaultRun) : (s.setRun d i r).clk = s.clk := rfl
theorem State.updFbk_clk (s : State) (x : FbkSt) : ({ s with fbk := x } : State).clk = s.clk := rfl
@[simp] theorem State.nextFree_clk (s : State) : s.nextFree.clk = s.clk := rfl
@[simp] theorem State.setReplay_clk (s : State) (i : Nat) (l : List Flit) : (s.setReplay i l).clk = s.clk := rfl

@[simp] theorem State.dropMirror_clk (s : State) : s.dropMirror.clk = s.clk := by
  simp -implicitDefEqProofs [State.dropMirror]

@[simp] theorem State.cancelInjection_clk (s : State) : s.cancelInjection.clk = s.clk := by
  simp -implicitDefEqProofs [State.cancelInjection]

/-! #### Notices (R380 to R384) -/

@[simp] theorem State.nringAdvance_clk (s : State) (n k : Nat) : (s.nringAdvance n k).clk = s.clk := by
  simp -implicitDefEqProofs [State.nringAdvance, apply_ite State.clk]

@[simp] theorem State.nringPlace_clk (s : State) (n size kind stamp part flags c : Nat) (p : List Byte) :
    (s.nringPlace n size kind stamp part flags c p).clk = s.clk := by
  simp -implicitDefEqProofs [State.nringPlace]

@[simp] theorem State.nringWrite_clk (s : State) (n kind stamp part flags c : Nat) (p : List Byte) :
    (s.nringWrite n kind stamp part flags c p).clk = s.clk := by
  simp -implicitDefEqProofs [State.nringWrite, apply_ite State.clk]

@[simp] theorem State.nringLeave_clk (s : State) (n : Nat) (x : Notice) (never : Bool) : (s.nringLeave n x never).clk = s.clk := by
  simp -implicitDefEqProofs [State.nringLeave, apply_ite State.clk]

@[simp] theorem State.nringDrain_clk (s : State) (n k : Nat) : (s.nringDrain n k).clk = s.clk := by
  induction k generalizing s with
  | zero => rfl
  | succ k ih =>
    rw [State.nringDrain]
    split
    · rfl
    · simp -implicitDefEqProofs [ih, apply_ite State.clk]

@[simp] theorem State.nringCatchUp_clk (s : State) (n : Nat) : (s.nringCatchUp n).clk = s.clk := by
  simp -implicitDefEqProofs [State.nringCatchUp, apply_ite State.clk]

@[simp] theorem State.nringTake_clk (s : State) (n : Nat) (x : Notice) (never : Bool) : (s.nringTake n x never).clk = s.clk := by
  simp -implicitDefEqProofs [State.nringTake, apply_ite State.clk]

@[simp] theorem State.deliver_clk (s : State) (kind obj : Nat) (dests : List Nat) (p : List Byte) (c : Nat) (never : Bool) :
    (s.deliver kind obj dests p c never).clk = s.clk := by
  refine State.foldl_clk _ _ _ fun t n => ?_
  split <;> simp -implicitDefEqProofs

@[simp] theorem State.raiseNotice_clk (s : State) (kind obj : Nat) (dests : List Nat) (p : List Byte) (never : Bool) :
    (s.raiseNotice kind obj dests p never).clk = s.clk := by
  simp -implicitDefEqProofs [State.raiseNotice, apply_ite State.clk]

@[simp] theorem State.notice_clk (s : State) (kind obj : Nat) (dests : List Nat) (p : List Byte) (never : Bool) :
    (s.notice kind obj dests p never).clk = s.clk := by
  simp -implicitDefEqProofs [State.notice, apply_ite State.clk]

/-- The occurrences lost with Ranger A1 are noted on the rings alone. -/
@[simp] theorem State.loseFolded_clk (s : State) : s.loseFolded.clk = s.clk := by
  refine State.foldl_clk _ _ _ fun t c => State.foldl_clk _ _ _ fun u n => ?_
  simp -implicitDefEqProofs [apply_ite State.clk]

/-! #### Blaze's triggers and the fault collector (R460, R486) -/

@[simp] theorem State.blzTrigger_clk (s : State) (type source sev : Nat) (d : List Byte) (fatal : Bool) :
    (s.blzTrigger type source sev d fatal).clk = s.clk := by
  simp -implicitDefEqProofs only [State.blzTrigger]
  split
  · simp -implicitDefEqProofs
  · simp -implicitDefEqProofs [apply_ite State.clk]

@[simp] theorem State.blzEvent_clk (s : State) (kind low : Nat) : (s.blzEvent kind low).clk = s.clk := by
  simp -implicitDefEqProofs [State.blzEvent]

@[simp] theorem State.logFault_clk (s : State) (det cls inst : Nat) (injected : Bool) (detail : Nat) :
    (s.logFault det cls inst injected detail).clk = s.clk := by
  simp -implicitDefEqProofs [State.logFault, apply_ite State.clk]

/-! #### The pair link and answers to commands -/

@[simp] theorem State.setRole_clk (s : State) (role phase cause : Nat) (blind : Bool) : (s.setRole role phase cause blind).clk = s.clk := by
  simp -implicitDefEqProofs [State.setRole, apply_ite State.clk]

@[simp] theorem State.diverge_clk (s : State) : s.diverge.clk = s.clk := by
  simp -implicitDefEqProofs [State.diverge, apply_ite State.clk]

@[simp] theorem State.mirrorEnd_clk (s : State) (serial status : Nat) (body : List Byte) :
    (s.mirrorEnd serial status body).clk = s.clk := by
  rw [State.mirrorEnd]
  split
  · rfl
  · simp -implicitDefEqProofs [apply_ite State.clk]

@[simp] theorem State.transmit_clk (s : State) (i : Nat) (f : Flit) : (s.transmit i f).clk = s.clk := by
  simp -implicitDefEqProofs [State.transmit]

@[simp] theorem State.sendFlit_clk (s : State) (i : Nat) (f : Flit) : (s.sendFlit i f).clk = s.clk := by
  simp -implicitDefEqProofs [State.sendFlit, apply_ite State.clk]

@[simp] theorem State.settleThrottle_clk (s : State) : s.settleThrottle.clk = s.clk := by
  simp -implicitDefEqProofs [State.settleThrottle, apply_ite State.clk]

@[simp] theorem State.pairFlit_clk (s : State) (m : PairMsg) (flags : Nat) : (s.pairFlit m flags).clk = s.clk := by
  simp -implicitDefEqProofs [State.pairFlit, apply_ite State.clk]

@[simp] theorem State.pairSend_clk (s : State) (type : Nat) (body : List Byte) : (s.pairSend type body).clk = s.clk := by
  simp -implicitDefEqProofs [State.pairSend, State.pairOrdered, apply_ite State.clk]

@[simp] theorem State.forwardLcs_clk (s : State) (msg : List Byte) (status : Nat) (body : List Byte) :
    (s.forwardLcs msg status body).clk = s.clk :=
  State.foldl_clk _ _ _ fun t _ => t.pairSend_clk _ _

@[simp] theorem State.complete_clk (s : State) (m : Nat) (hw more : Bool) (status detail : Nat) (body : List Byte) :
    (s.complete m hw more status detail body).clk = s.clk := by
  simp -implicitDefEqProofs [State.complete, apply_ite State.clk]

@[simp] theorem State.answer_clk (s : State) (w : Option Waiter) (status : Nat) (body : List Byte) :
    (s.answer w status body).clk = s.clk := by
  cases w with
  | none => rfl
  | some w => simp -implicitDefEqProofs [State.answer, apply_ite State.clk]

/-! #### A pass, and the start of a warm start (R386, R514) -/

@[simp] theorem State.writeBackDone_clk (s : State) : s.writeBackDone.clk = s.clk := by
  rw [State.writeBackDone]
  split <;> rfl

@[simp] theorem State.rxDrain_clk (s : State) (p dt : Nat) : (s.rxDrain p dt).clk = s.clk := by
  simp -implicitDefEqProofs [State.rxDrain, apply_ite State.clk]

@[simp] theorem State.fbkSettle_clk (s : State) : s.fbkSettle.clk = s.clk := by
  refine State.foldl_clk_of_turns _ _ _ fun t p u hu => ?_
  dsimp only at hu
  split at hu
  · split at hu
    · rw [← hu, State.notice_clk, State.logFault_clk, State.updFbk_clk, State.setRun_clk]
    · rw [← hu, State.updFbk_clk, State.setRun_clk]
  · rw [hu]

/-- Of what a pass does, the clocks see the time that passes and nothing else. -/
theorem State.pass_clk (s : State) (dt : Nat) : (s.pass dt).clk = (s.elapse dt).clk := by
  simp -implicitDefEqProofs [State.pass, apply_ite State.clk]

@[simp] theorem State.setSvc_clk (s : State) (v : Bool) : (s.setSvc v).clk = s.clk := by
  simp -implicitDefEqProofs only [State.setSvc]
  rw [State.foldl_clk _ _ _ fun t _ => t.setFld_clk _ _]
  simp -implicitDefEqProofs

@[simp] theorem State.endService_clk (s : State) (cause : Nat) : (s.endService cause).clk = s.clk := by
  have hcmts (t : State) : ((List.range 32).foldl (fun t n => t.setCmt n { t.cmt n with svc := [], restore := true }) t).clk = t.clk :=
    State.foldl_clk _ _ _ fun t n => t.setCmt_clk n _
  simp -implicitDefEqProofs [State.endService, State.svcNotice, hcmts, apply_ite State.clk]

@[simp] theorem State.abortMailbox_clk (s : State) (m : Nat) : (s.abortMailbox m).clk = s.clk := by
  simp -implicitDefEqProofs [State.abortMailbox, apply_ite State.clk]

@[simp] theorem State.rangerStop_clk (s : State) (restarting : Bool) : (s.rangerStop restarting).clk = s.clk := by
  refine (State.foldl_clk _ _ _ fun t m => t.abortMailbox_clk m).trans ?_
  simp -implicitDefEqProofs [apply_ite State.clk]

@[simp] theorem State.restartBegins_clk (s : State) (cause : Nat) : (s.restartBegins cause).clk = s.clk := by
  simp -implicitDefEqProofs [State.restartBegins]

@[simp] theorem State.cvuStopAll_clk (s : State) : s.cvuStopAll.clk = s.clk := by
  refine State.foldl_clk _ _ _ fun t u => ?_
  simp -implicitDefEqProofs [State.cvuEnd, apply_ite State.clk]

@[simp] theorem State.warmRegisters_clk (s : State) : s.warmRegisters.clk = s.clk :=
  State.foldl_clk _ _ _ fun t p => t.wr_clk p.1 _

@[simp] theorem State.warmHolds_clk (s : State) : s.warmHolds.clk = s.clk := by
  simp -implicitDefEqProofs only [State.warmHolds, State.setPol_clk]
  refine State.foldl_clk _ _ _ fun t n => ?_
  simp -implicitDefEqProofs [apply_ite State.clk]

@[simp] theorem State.warmCommon_clk (s : State) (cause step form : Nat) : (s.warmCommon cause step form).clk = s.clk := by
  simp -implicitDefEqProofs [State.warmCommon]

@[simp] theorem State.beginWarm_clk (s : State) (cause : Nat) : (s.beginWarm cause).clk = s.clk := by
  simp -implicitDefEqProofs [State.beginWarm, apply_ite State.clk]

/-- The exit from retention leaves the clocks alone. -/
@[simp] theorem State.wake_clk (s : State) (src : Nat) : (s.wake src).clk = s.clk := by
  simp -implicitDefEqProofs [State.wake, State.powerNotice]

/-! ### The age clock (R276) -/

theorem toInt_32_ge (x : Nat) : -2 ^ 31 ≤ toInt 32 x := by
  simp only [toInt]
  split <;> omega

/-- Even the slowest rate that a register can hold moves the age clock forward, so that the model's period is R276's. -/
theorem State.agePeriod_cast (s : State) : (s.agePeriod : Int) = 2 * 2 ^ 32 + toInt 32 (s.rd Reg.TIM_AGE_ADJ) := by
  have hge := toInt_32_ge (s.rd Reg.TIM_AGE_ADJ)
  exact Int.toNat_of_nonneg (by omega)

theorem State.elapse_age (s : State) (dt : Nat) : (s.elapse dt).clk.age = (s.clk.age + dt * s.agePeriod) % 2 ^ 96 := rfl

/-- A cold start begins with the clocks of the reset state. -/
@[simp] theorem State.coldState_clk (s : State) (cause : Nat) : (s.coldState cause).clk = {} := by
  simp -implicitDefEqProofs [State.coldState, State.keepPins, State.reset]

theorem exec_resetAssert (dt : Nat) (s : State) :
    exec (.resetAssert dt) s =
      .next (((s.pass dt).coldState 1).setSys { ((s.pass dt).coldState 1).sys with resetLow := true }) := rfl

/-- What a low level on WARM_N does after its time has passed: nothing during RESET_N, a wake in a power state, a warm start where none
is refused. -/
def State.warmN (s : State) : State :=
  if s.sys.resetLow then s
  else if s.sys.deep || s.fld Reg.SYS_PWR_STATE == 2 then s.wakeFrom 3
  else if s.warmRefused then s.raise Reg.SYS_START_STAT_WARM_REFUSED
  else s.beginWarm 2

theorem exec_warmNAssert (dt : Nat) (s : State) : exec (.warmNAssert dt) s = .next (s.pass dt).warmN := rfl

theorem State.wakeFrom_clk {s : State} (src : Nat) (h : s.sys.deep = false) : (s.wakeFrom src).clk = s.clk := by
  simp -implicitDefEqProofs [State.wakeFrom, h, apply_ite State.clk]

/-- Outside deep standby, whose end is a cold start (R519), WARM_N leaves the clocks alone. -/
theorem State.warmN_clk {s : State} (h : s.sys.deep = false) : s.warmN.clk = s.clk := by
  simp -implicitDefEqProofs [State.warmN, State.wakeFrom_clk, h, apply_ite State.clk]

/-- Settles O37: a pass only lets the time elapse, a cold start begins with zeroed clocks, and nothing a warm start does reaches them. -/
theorem ageClock : Obligations.AgeClock := by
  refine ⟨fun s dt => ?_, fun s dt => ⟨_, exec_resetAssert dt s, ?_⟩, fun s dt => ⟨_, exec_warmNAssert dt s, ?_⟩⟩
  · rw [State.pass_clk, State.elapse_age, ← State.agePeriod_cast]
    norm_cast
  · rw [State.setSys_clk, State.coldState_clk]
  · cases hdeep : (s.pass dt).sys.deep with
    | true => exact .inr rfl
    | false => exact .inl (by rw [State.warmN_clk hdeep])

end Sys2Proof.Machine
end

-- Commands that complete, and accesses that break R439 (spec/16_firebreak.md): O28, O29.
section
/-! PROOF. Four commands make an access to memory and stop where it breaks the form of R439, which is the model's choice (log 8). Every
other command answers a next state whatever its operands are. -/

namespace Sys2Proof.Machine

open Sys2Proof

/-- How a command ends whose access of `n` bytes at `a`, made in a space of `size` bytes, leads to `t`: it stops where the access breaks the
form of R439 (log 8). -/
def accessOutcome (size a n : Nat) (t : State) : Host.Outcome State Fault Refusal :=
  if accessOk size a n then .next t else .fault .badAccess

theorem accessOutcome_ok {size a n : Nat} {t : State} (h : accessOk size a n = true) : accessOutcome size a n t = .next t :=
  if_pos h

theorem accessOutcome_broken {size a n : Nat} {t : State} (h : accessOk size a n = false) :
    accessOutcome size a n t = .fault .badAccess :=
  if_neg (Bool.not_eq_true _ ▸ h)

/-- The commands test for the three ways to break the form of R439, which `accessOk` excludes. -/
theorem accessBroken_eq_not_accessOk (size a n : Nat) :
    (n == 0 || 4096 < a % 4096 + n || size ≤ a : Bool) = !accessOk size a n := by
  rw [Bool.eq_iff_iff]
  simp only [accessOk, Bool.or_eq_true, Bool.not_eq_true', Bool.and_eq_false_iff, beq_iff_eq, decide_eq_true_eq, decide_eq_false_iff_not]
  omega

theorem ite_accessBroken (size a n : Nat) (t : State) :
    (if n == 0 || 4096 < a % 4096 + n || size ≤ a then .fault .badAccess else .next t) = accessOutcome size a n t := by
  rw [accessBroken_eq_not_accessOk, accessOutcome]
  cases accessOk size a n <;> rfl

/-! ### The four commands that make an access -/

theorem exec_hostBar2Write (dt addr : Nat) (data : HostData) (s : State) :
    exec (.hostBar2Write dt addr data) s =
      accessOutcome (2 ^ 36) addr data.bytes.length ((s.pass dt).bar2Post addr data.bytes data.held) := by
  have hempty : data.bytes.isEmpty = (data.bytes.length == 0) := by
    rw [Bool.eq_iff_iff, List.isEmpty_iff_length_eq_zero, beq_iff_eq]
  change execHostBar2Write dt addr data s = _
  rw [execHostBar2Write, hempty]
  exact ite_accessBroken 0x1000000000 addr data.bytes.length _

theorem exec_hostBar2Read (dt addr len : Nat) (met : MemMet) (s : State) :
    exec (.hostBar2Read dt addr len met) s =
      accessOutcome (2 ^ 36) addr len ((s.pass dt).bar2Read addr len (met.ecc.map Fin.val) met.held) :=
  ite_accessBroken 0x1000000000 addr len _

/-- What an engine's access in the form of R439 comes to: the host and the debug master (units 0 and 1) make theirs by commands of their own,
and a Ranger core reaches registers as well. -/
def State.engineRequest (s : State) (u : Nat) (addr : Nat) (write : Bool) (data : List Byte) (len : Nat) (met : MemMet) : State :=
  if u < 2 then s
  else if within 2 4 u && within 0xFF00000000 0xFF00FFFFFF addr then s.rangerReg (u - 2) (addr - 0xFF00000000) write data len
  else s.engineAccess u addr write data len (met.ecc.map Fin.val) met.held

theorem exec_engineMemoryAccess (dt : Nat) (unit : Fin 28) (write : Bool) (addr : Nat) (data : List Byte) (len : Nat) (met : MemMet)
    (s : State) :
    exec (.engineMemoryAccess dt unit write addr data len met) s =
      accessOutcome (2 ^ 48) addr (if write then data.length else len) ((s.pass dt).engineRequest unit.val addr write data len met) :=
  ite_accessBroken (2 ^ 48) addr _ _

theorem exec_debugAccess (dt : Nat) (write : Bool) (addr : Nat) (data : List Byte) (read : DebugRead) (s : State) :
    exec (.debugAccess dt write addr data read) s =
      accessOutcome (2 ^ 48) addr (if write then data.length else read.len)
        ((s.pass dt).debugAccess addr write data read.len (read.ecc.map Fin.val)) :=
  ite_accessBroken (2 ^ 48) addr _ _

/-- Settles O29: each of the four commands ends as `accessOutcome` says, whose stop is the model's choice (log 8). -/
theorem brokenAccessesStop : Obligations.BrokenAccessesStop := by
  intro s dt a ecc held
  refine ⟨fun data h => ?_, fun n h => ?_, fun u data n => ⟨fun h => ?_, fun h => ?_⟩, fun data n => ⟨fun h => ?_, fun h => ?_⟩⟩
  · exact (exec_hostBar2Write dt a ⟨data, held⟩ s).trans (accessOutcome_broken h)
  · exact (exec_hostBar2Read dt a n ⟨ecc, held⟩ s).trans (accessOutcome_broken h)
  · exact (exec_engineMemoryAccess dt u true a data n ⟨ecc, held⟩ s).trans (accessOutcome_broken h)
  · exact (exec_engineMemoryAccess dt u false a data n ⟨ecc, held⟩ s).trans (accessOutcome_broken h)
  · exact (exec_debugAccess dt true a data ⟨n, ecc⟩ s).trans (accessOutcome_broken h)
  · exact (exec_debugAccess dt false a data ⟨n, ecc⟩ s).trans (accessOutcome_broken h)

/-! ### Every command -/

/-- A command whose operands are well formed where its access keeps the form of R439 completes there, and stops elsewhere. -/
theorem completes_or_stops_of_access {c : Instr} {s t : State} {size a n : Nat} (hwf : c.wf = accessOk size a n)
    (he : exec c s = accessOutcome size a n t) : Completes c s ∨ c.wf = false ∧ exec c s = .fault .badAccess := by
  rw [hwf, he]
  cases h : accessOk size a n with
  | true => exact .inl ⟨t, he.trans (accessOutcome_ok h)⟩
  | false => exact .inr ⟨rfl, accessOutcome_broken h⟩

/-- The two ways a command can end: only an access outside the form of R439, which is no well-formed command, stops. -/
theorem exec_completes_or_stops (c : Instr) (s : State) : Completes c s ∨ c.wf = false ∧ exec c s = .fault .badAccess := by
  cases c with
  | hostBar2Write dt a data => exact completes_or_stops_of_access rfl (exec_hostBar2Write dt a data s)
  | hostBar2Read dt a n met => exact completes_or_stops_of_access rfl (exec_hostBar2Read dt a n met s)
  | engineMemoryAccess dt u w a data n met => exact completes_or_stops_of_access rfl (exec_engineMemoryAccess dt u w a data n met s)
  | debugAccess dt w a data read => exact completes_or_stops_of_access rfl (exec_debugAccess dt w a data read s)
  | _ => exact .inl ⟨_, rfl⟩

/-- Settles O28: of the two ways a command can end, a stop is not open to a well-formed one, and neither is a refusal. -/
theorem wellFormedCommandsComplete : Obligations.WellFormedCommandsComplete := by
  intro c s
  rcases exec_completes_or_stops c s with ⟨t, ht⟩ | ⟨hwf, hstop⟩
  · exact ⟨fun _ => ⟨t, ht⟩, fun r => by simp [ht]⟩
  · exact ⟨fun h => by simp [hwf] at h, fun r => by simp [hstop]⟩

end Sys2Proof.Machine
end

-- Faults and check-value units (spec/17_faults_checks_injection.md): O53, O55.
section
/-! PROOF. How a logged fault reaches vector 17 (R462), which no notification ring's vector is (R384), and what a write to CVU_DATA feeds
(R470).

As above, `simp` is told to rewrite with the lemmas of updates (`-implicitDefEqProofs`) and not to unfold them. -/

namespace Sys2Proof.Machine

open Sys2Proof

/-! ### Requests of vectors (R385) -/

/-- How often vector `v` has been requested. -/
def requestsOf (v : Nat) (s : State) : Nat := sparseGet 0 s.msix v

theorem requestsOf_eq_of_msix {s t : State} (v : Nat) (h : t.msix = s.msix) : requestsOf v t = requestsOf v s := by
  rw [requestsOf, requestsOf, h]

theorem State.msixRequest_msix (s : State) (v : Nat) : (s.msixRequest v).msix = sparsePut 0 s.msix v (sparseGet 0 s.msix v + 1) := rfl

theorem requestsOf_msixRequest_same (v : Nat) (s : State) : requestsOf v (s.msixRequest v) = requestsOf v s + 1 := by
  rw [requestsOf, State.msixRequest_msix, sparseGet_put_same, requestsOf]

theorem requestsOf_msixRequest_other {v w : Nat} (s : State) (h : w ≠ v) : requestsOf v (s.msixRequest w) = requestsOf v s := by
  rw [requestsOf, State.msixRequest_msix, sparseGet_put_other _ _ _ h, requestsOf]

/-- A loop each of whose turns requests no vector `v` requests none. -/
theorem requestsOf_foldl {α : Type} (v : Nat) (l : List α) (g : State → α → State) (s : State)
    (h : ∀ t x, x ∈ l → requestsOf v (g t x) = requestsOf v t) : requestsOf v (l.foldl g s) = requestsOf v s :=
  List.foldlRecOn (motive := fun t => requestsOf v t = requestsOf v s) l g rfl fun t ht x hx => (h t x hx).trans ht

@[simp] theorem State.raise_msix (s : State) (f : Fld) : (s.raise f).msix = s.msix := rfl

/-- A notice left unwritten on a ring requests no vector. -/
theorem State.nringLeave_msix (s : State) (n : Nat) (x : Notice) (never : Bool) : (s.nringLeave n x never).msix = s.msix := by
  simp -implicitDefEqProofs [State.nringLeave, apply_ite State.msix]

/-! #### A ring's vector is 9 more than its number (R384) -/

section
variable {v n : Nat} (hv : 9 + n ≠ v)
include hv

theorem requestsOf_nringAdvance (s : State) (k : Nat) : requestsOf v (s.nringAdvance n k) = requestsOf v s := by
  dsimp only [State.nringAdvance]
  split
  · exact requestsOf_msixRequest_other _ hv
  · rfl

theorem requestsOf_nringPlace (s : State) (size kind stamp part flags c : Nat) (p : List Byte) :
    requestsOf v (s.nringPlace n size kind stamp part flags c p) = requestsOf v s :=
  requestsOf_nringAdvance hv _ _

theorem requestsOf_nringWrite (s : State) (kind stamp part flags c : Nat) (p : List Byte) :
    requestsOf v (s.nringWrite n kind stamp part flags c p) = requestsOf v s := by
  dsimp only [State.nringWrite]
  rw [requestsOf_nringPlace hv]
  split
  · rfl
  · exact requestsOf_nringPlace hv ..

theorem requestsOf_nringDrain (s : State) (k : Nat) : requestsOf v (s.nringDrain n k) = requestsOf v s := by
  induction k generalizing s with
  | zero => rfl
  | succ k ih =>
    rw [State.nringDrain]
    split
    · rfl
    · split
      · exact (ih _).trans (requestsOf_nringWrite hv ..)
      · rfl

theorem requestsOf_nringCatchUp (s : State) : requestsOf v (s.nringCatchUp n) = requestsOf v s := by
  dsimp only [State.nringCatchUp]
  split
  · rfl
  · split
    · exact requestsOf_nringDrain hv ..
    · split
      · exact (requestsOf_nringDrain hv ..).trans (requestsOf_nringWrite hv ..)
      · rfl

/-- What the ring owes is caught up with first; then the notice is written or left. -/
theorem requestsOf_nringTake (s : State) (x : Notice) (never : Bool) : requestsOf v (s.nringTake n x never) = requestsOf v s := by
  have howed : requestsOf v (if s.nringOwes n then s.nringCatchUp n else s) = requestsOf v s := by
    split
    · exact requestsOf_nringCatchUp hv s
    · rfl
  dsimp only [State.nringTake]
  generalize (if s.nringOwes n then s.nringCatchUp n else s) = t at howed ⊢
  rw [← howed]
  split
  · exact requestsOf_nringWrite hv ..
  · exact requestsOf_eq_of_msix v (t.nringLeave_msix n x never)

end

/-! #### Notices and Blaze's triggers: the last ring's vector is 16 -/

section
variable {v : Nat} (hv : 16 < v)
include hv

theorem requestsOf_deliver (s : State) (kind obj : Nat) (dests : List Nat) (p : List Byte) (c : Nat) (never : Bool) :
    requestsOf v (s.deliver kind obj dests p c never) = requestsOf v s := by
  refine requestsOf_foldl v _ _ _ fun t n hn => ?_
  have hring : 9 + n ≠ v := by have := List.mem_range.mp hn; omega
  split
  · rfl
  · exact requestsOf_nringTake hring ..

theorem requestsOf_raiseNotice (s : State) (kind obj : Nat) (dests : List Nat) (p : List Byte) (never : Bool) :
    requestsOf v (s.raiseNotice kind obj dests p never) = requestsOf v s := by
  dsimp only [State.raiseNotice]
  split
  · exact requestsOf_deliver hv ..
  · split
    · rfl
    · exact requestsOf_deliver hv ..

theorem requestsOf_notice (s : State) (kind obj : Nat) (dests : List Nat) (p : List Byte) (never : Bool) :
    requestsOf v (s.notice kind obj dests p never) = requestsOf v s := by
  dsimp only [State.notice]
  split
  · exact requestsOf_raiseNotice hv ..
  · rfl

/-- A trigger requests no vector itself; one that is dropped raises a notice. -/
theorem requestsOf_blzTrigger (s : State) (type source sev : Nat) (d : List Byte) (fatal : Bool) :
    requestsOf v (s.blzTrigger type source sev d fatal) = requestsOf v s := by
  simp -implicitDefEqProofs only [State.blzTrigger]
  split
  · rfl
  · generalize (if sev ≤ 1 then 16 else if sev == 2 then 4 else 1) = need
    split
    · exact requestsOf_eq_of_msix v (State.setFld_msix ..)
    · refine (requestsOf_notice hv ..).trans (requestsOf_eq_of_msix v ?_)
      simp -implicitDefEqProofs

end

/-! ### Vector 17 (R462) -/

theorem State.rd_raise_other (s : State) {f : Fld} {b : Nat} (h : f.addr ≠ b) : (s.raise f).rd b = s.rd b :=
  s.rd_setFld_other f 1 b h

theorem State.rd_bump_other (s : State) {a b : Nat} (h : a ≠ b) (n : Nat) : (s.bump a n).rd b = s.rd b := by
  rw [State.bump, State.rd_wr_other _ _ h]

theorem State.rd_bumpWrap_other (s : State) {a b : Nat} (h : a ≠ b) (n : Nat) : (s.bumpWrap a n).rd b = s.rd b := by
  rw [State.bumpWrap, State.rd_wr_other _ _ h]

/-- The registers of a logged event of class `cls` with the log entry `e`: the log, PROD, the counter of its class and LASTING_PEND. -/
def State.logRecord (s : State) (cls : Nat) (e : List Byte) : State :=
  let slot := 4 * (s.rd Reg.HLT_LOG_PROD % 64)
  let t := (((s.wr (Reg.HLT_LOG slot) (fieldAt e 0 4)).wr (Reg.HLT_LOG (slot + 1)) (fieldAt e 4 4)).wr
    (Reg.HLT_LOG (slot + 2)) (fieldAt e 8 4)).wr (Reg.HLT_LOG (slot + 3)) (fieldAt e 12 4)
  let u := (t.bumpWrap Reg.HLT_LOG_PROD).bump (classCounter cls)
  if cls == 2 then u.raise Reg.HLT_STATUS_LASTING_PEND else u

/-- The collector's order: the record, vector 17 by IRQ_CLASS, Blaze's trigger, the notice. -/
theorem State.logFault_eq (s : State) (det cls inst detail : Nat) (inj : Bool) :
    s.logFault det cls inst inj detail =
      let e := logEntry s.now40 det cls inst (ofBool inj) detail
      let r := s.logRecord cls e
      ((if r.fld Reg.HLT_CTRL_IRQ_CLASS ≤ cls then r.msixRequest 17 else r).blzTrigger 1 (det * 2 ^ 24 + cls * 2 ^ 16 + inst)
        (if cls ≤ 1 then 1 else cls) e (cls == 3)).notice 0x0F01 ((det * 65536 + inst) * 4 + cls) [0] (e ++ leBytes 4 0)
        (cls == 3 || inj) := rfl

theorem State.logRecord_msix (s : State) (cls : Nat) (e : List Byte) : (s.logRecord cls e).msix = s.msix := by
  simp -implicitDefEqProofs [State.logRecord, apply_ite State.msix]

/-- HLT_CTRL is none of the registers of a logged event. -/
theorem State.logRecord_ctrl (s : State) (cls : Nat) (e : List Byte) : (s.logRecord cls e).rd Reg.HLT_CTRL = s.rd Reg.HLT_CTRL := by
  have hlog (i : Nat) : Reg.HLT_LOG i ≠ Reg.HLT_CTRL := by rw [Reg.HLT_LOG, Reg.HLT_CTRL]; omega
  have hprod : Reg.HLT_LOG_PROD ≠ Reg.HLT_CTRL := by decide
  have hcnt : classCounter cls ≠ Reg.HLT_CTRL := by rw [classCounter, Reg.HLT_CNT_CORRECTED, Reg.HLT_CTRL]; omega
  have hpend : Reg.HLT_STATUS_LASTING_PEND.addr ≠ Reg.HLT_CTRL := by decide
  dsimp only [State.logRecord]
  split
  · simp only [State.rd_raise_other _ hpend, State.rd_bump_other _ hcnt, State.rd_bumpWrap_other _ hprod, State.rd_wr_other _ _ (hlog _)]
  · simp only [State.rd_bump_other _ hcnt, State.rd_bumpWrap_other _ hprod, State.rd_wr_other _ _ (hlog _)]

/-- R462: what a logged event adds to the requests of vector 17. -/
theorem requestsOf_logFault (s : State) (det cls inst detail : Nat) (inj : Bool) :
    requestsOf 17 (s.logFault det cls inst inj detail) =
      requestsOf 17 s + (if s.fld Reg.HLT_CTRL_IRQ_CLASS ≤ cls then 1 else 0) := by
  have hcls (e : List Byte) : (s.logRecord cls e).fld Reg.HLT_CTRL_IRQ_CLASS = s.fld Reg.HLT_CTRL_IRQ_CLASS :=
    congrArg (bitsAt · 1 0) (s.logRecord_ctrl cls e)
  have hkept (e : List Byte) : requestsOf 17 (s.logRecord cls e) = requestsOf 17 s := requestsOf_eq_of_msix 17 (s.logRecord_msix cls e)
  rw [State.logFault_eq]
  dsimp only
  rw [requestsOf_notice (by decide), requestsOf_blzTrigger (by decide), hcls]
  split
  · rw [requestsOf_msixRequest_same, hkept]
  · exact hkept _

/-- Settles O53: the collector requests vector 17 by IRQ_CLASS, and neither Blaze's trigger nor the notice that follow request it. -/
theorem faultVector : Obligations.FaultVector :=
  ⟨fun s det cls inst detail inj _ => requestsOf_logFault s det cls inst detail inj, by decide⟩

/-! ### CVU_DATA (R470) -/

theorem exec_cvuDataWrite (dt : Nat) (k : Fin 4) (h : Bool) (l : List Word) (s : State) :
    exec (.cvuDataWrite dt k h l) s =
      .next (if cvuMayWrite k.val h then (s.pass dt).cvuDataWrite k.val (l.map BitVec.toNat) else s.pass dt) := rfl

/-- What an idle unit is fed of the words written to CVU_DATA, of which an access holds two at most. -/
theorem State.cvuDataWrite_idle {s : State} {k : Nat} (l : List Nat) (h : s.isSet (Reg.CVU_CTRL_BUSY k) = false) :
    s.cvuDataWrite k l =
      let f := if s.fld (Reg.CVU_CTRL_FEED_BYTES k) = 0 then 4 else s.fld (Reg.CVU_CTRL_FEED_BYTES k)
      s.cvuFeed k ((l.take 2).flatMap fun w => (leBytes 4 w).take f) := by
  simp [State.cvuDataWrite, h]

/-- Settles O55: an idle unit takes the bytes of each word in the order of the words. -/
theorem checkUnitFeed : Obligations.CheckUnitFeed := by
  intro s dt k h w x u hmay hidle f
  have hfeed (l : List Word) : exec (.cvuDataWrite dt k h l) s =
      .next (u.cvuFeed k.val (((l.map BitVec.toNat).take 2).flatMap fun w => (leBytes 4 w).take f)) := by
    rw [exec_cvuDataWrite, if_pos hmay, State.cvuDataWrite_idle _ hidle]
  exact ⟨by simpa using hfeed [w], by simpa using hfeed [w, x]⟩

end Sys2Proof.Machine
end

-- What every command keeps (spec/01_architecture.md, spec/opcode_table.json): O30, O31, O32.
section
/-! PROOF. No command touches the queue behind it, sets the tick back or leaves a memory out of canonical form. `Keeps` says that of one
state and another; each function of the model that gives a state keeps what its parts keep, which is one lemma for each function, in the
order of the model. `Keeps` also names the bytes of device memory that may be stored to: `anywhere` where it matters to nobody.

A proof that opens a `match` on a pair does so by `split` and reads the state off by `Keeps.at2` and its kin. -/

namespace Sys2Proof.Machine

open Sys2Proof

/-- `s` comes from `s₀` by work that touches neither the queue behind the command nor the form of any memory, never sets the tick back, and
stores to device memory at bytes of `W` alone. -/
structure Keeps (W : Nat → Prop) (s₀ s : State) : Prop where
  pending : s.pending = s₀.pending
  tick : s₀.tick ≤ s.tick
  memOk : s₀.memOk = true → s.memOk = true
  memByte : ∀ b, ¬ W b → s.memByte b = s₀.memByte b

/-- Every byte may be stored to. -/
def anywhere : Nat → Prop := fun _ => True

section
variable {W : Nat → Prop} {s₀ s : State}

theorem Keeps.refl (s : State) : Keeps W s s := ⟨rfl, Nat.le_refl _, id, fun _ _ => rfl⟩

theorem Keeps.trans {t : State} (h : Keeps W s₀ s) (g : Keeps W s t) : Keeps W s₀ t :=
  ⟨g.pending.trans h.pending, h.tick.trans g.tick, g.memOk ∘ h.memOk, fun b hb => (g.memByte b hb).trans (h.memByte b hb)⟩

/-- What may store to fewer bytes may store to more. -/
theorem Keeps.mono {V : Nat → Prop} (h : Keeps V s₀ s) (hVW : ∀ b, V b → W b) : Keeps W s₀ s :=
  ⟨h.pending, h.tick, h.memOk, fun b hb => h.memByte b fun hv => hb (hVW b hv)⟩

/-- A part of a proof named, to be used more than once. -/
theorem Keeps.via {t u : State} (ht : Keeps W s₀ t) (k : Keeps W s₀ t → Keeps W s₀ u) : Keeps W s₀ u := k ht

/-! #### Branches and loops, of states and of tuples that hold one -/

theorem Keeps.ite {c : Prop} {d : Decidable c} {a b : State} (ha : Keeps W s₀ a) (hb : Keeps W s₀ b) :
    Keeps W s₀ (if c then a else b) := by split <;> assumption

section
variable {α β γ δ ι : Type} {c : Prop} {d : Decidable c} {l : List ι}

theorem Keeps.ite1 {a b : State × α} (ha : Keeps W s₀ a.1) (hb : Keeps W s₀ b.1) : Keeps W s₀ (if c then a else b).1 := by
  split <;> assumption

theorem Keeps.ite2 {a b : α × State} (ha : Keeps W s₀ a.2) (hb : Keeps W s₀ b.2) : Keeps W s₀ (if c then a else b).2 := by
  split <;> assumption

theorem Keeps.ite22 {a b : α × β × State} (ha : Keeps W s₀ a.2.2) (hb : Keeps W s₀ b.2.2) : Keeps W s₀ (if c then a else b).2.2 := by
  split <;> assumption

theorem Keeps.ite222 {a b : α × β × γ × State} (ha : Keeps W s₀ a.2.2.2) (hb : Keeps W s₀ b.2.2.2) :
    Keeps W s₀ (if c then a else b).2.2.2 := by split <;> assumption

theorem Keeps.ite2222 {a b : α × β × γ × δ × State} (ha : Keeps W s₀ a.2.2.2.2) (hb : Keeps W s₀ b.2.2.2.2) :
    Keeps W s₀ (if c then a else b).2.2.2.2 := by split <;> assumption

/-- A loop each of whose turns keeps what its state keeps; `π` finds the state in what the loop carries. -/
theorem Keeps.foldlOn (π : α → State) {g : α → ι → α} {a : α} (h : Keeps W s₀ (π a))
    (hg : ∀ p x, Keeps W s₀ (π p) → Keeps W s₀ (π (g p x))) : Keeps W s₀ (π (l.foldl g a)) :=
  List.foldlRecOn (motive := fun p => Keeps W s₀ (π p)) l g h fun p hp x _ => hg p x hp

theorem Keeps.foldl {g : State → ι → State} (h : Keeps W s₀ s) (hg : ∀ p x, Keeps W s₀ p → Keeps W s₀ (g p x)) :
    Keeps W s₀ (l.foldl g s) := Keeps.foldlOn id h hg

theorem Keeps.foldl1 {g : State × α → ι → State × α} {a : State × α} (h : Keeps W s₀ a.1)
    (hg : ∀ p x, Keeps W s₀ p.1 → Keeps W s₀ (g p x).1) : Keeps W s₀ (l.foldl g a).1 := Keeps.foldlOn Prod.fst h hg

theorem Keeps.foldl2 {g : α × State → ι → α × State} {a : α × State} (h : Keeps W s₀ a.2)
    (hg : ∀ p x, Keeps W s₀ p.2 → Keeps W s₀ (g p x).2) : Keeps W s₀ (l.foldl g a).2 := Keeps.foldlOn Prod.snd h hg

/-- The same, where a turn is known by an equation for what it carries on. -/
theorem Keeps.foldl2' {g : α × State → ι → α × State} {a : α × State} (h : Keeps W s₀ a.2)
    (hg : ∀ p x, Keeps W s₀ p.2 → ∀ q, g p x = q → Keeps W s₀ q.2) : Keeps W s₀ (l.foldl g a).2 :=
  h.foldl2 fun p x hp => hg p x hp _ rfl

theorem Keeps.foldl22 {g : α × β × State → ι → α × β × State} {a : α × β × State} (h : Keeps W s₀ a.2.2)
    (hg : ∀ p x, Keeps W s₀ p.2.2 → Keeps W s₀ (g p x).2.2) : Keeps W s₀ (l.foldl g a).2.2 :=
  Keeps.foldlOn (fun p : α × β × State => p.2.2) h hg

theorem Keeps.foldl222 {g : α × β × γ × State → ι → α × β × γ × State} {a : α × β × γ × State} (h : Keeps W s₀ a.2.2.2)
    (hg : ∀ p x, Keeps W s₀ p.2.2.2 → Keeps W s₀ (g p x).2.2.2) : Keeps W s₀ (l.foldl g a).2.2.2 :=
  Keeps.foldlOn (fun p : α × β × γ × State => p.2.2.2) h hg

theorem Keeps.foldl2222 {g : α × β × γ × δ × State → ι → α × β × γ × δ × State} {a : α × β × γ × δ × State}
    (h : Keeps W s₀ a.2.2.2.2) (hg : ∀ p x, Keeps W s₀ p.2.2.2.2 → Keeps W s₀ (g p x).2.2.2.2) : Keeps W s₀ (l.foldl g a).2.2.2.2 :=
  Keeps.foldlOn (fun p : α × β × γ × δ × State => p.2.2.2.2) h hg

/-- The state of a pair that a `match` has taken apart. -/
theorem Keeps.at2 {x : α × State} {a : α} {t : State} (h : Keeps W s₀ x.2) (e : x = (a, t)) : Keeps W s₀ t := by
  rw [e] at h; exact h

theorem Keeps.at22 {x : α × β × State} {a : α} {b : β} {t : State} (h : Keeps W s₀ x.2.2) (e : x = (a, b, t)) : Keeps W s₀ t := by
  rw [e] at h; exact h

theorem Keeps.at222 {x : α × β × γ × State} {a : α} {b : β} {c : γ} {t : State} (h : Keeps W s₀ x.2.2.2)
    (e : x = (a, b, c, t)) : Keeps W s₀ t := by rw [e] at h; exact h

theorem Keeps.at2222 {x : α × β × γ × δ × State} {a : α} {b : β} {c : γ} {d : δ} {t : State} (h : Keeps W s₀ x.2.2.2.2)
    (e : x = (a, b, c, d, t)) : Keeps W s₀ t := by rw [e] at h; exact h

theorem Keeps.at1 {x : State × α} {a : α} {t : State} (h : Keeps W s₀ x.1) (e : x = (t, a)) : Keeps W s₀ t := by
  rw [e] at h; exact h

end

/-- What an attempt gives, or the state left as it is. -/
theorem Keeps.getD {x : Option State} (h : Keeps W s₀ s) (hx : ∀ t, x = some t → Keeps W s₀ t) : Keeps W s₀ (x.getD s) := by
  cases x with
  | none => exact h
  | some t => exact hx t rfl

theorem Keeps.refuseOr {l : List (Bool × Nat × Nat)} {k : State × Resp} (h : Keeps W s₀ s) (hk : Keeps W s₀ k.1) :
    Keeps W s₀ (s.refuseOr l k).1 := by
  dsimp only [State.refuseOr]
  split
  · exact h
  · exact hk

/-! #### Fields that are no memory -/

theorem Keeps.updFresh (h : Keeps W s₀ s) {x : Nat} : Keeps W s₀ { s with fresh := x } := ⟨h.pending, h.tick, h.memOk, h.memByte⟩
theorem Keeps.updReadData (h : Keeps W s₀ s) {x : Nat} : Keeps W s₀ { s with readData := x } := ⟨h.pending, h.tick, h.memOk, h.memByte⟩
theorem Keeps.updReadPoison (h : Keeps W s₀ s) {x : Bool} : Keeps W s₀ { s with readPoison := x } :=
  ⟨h.pending, h.tick, h.memOk, h.memByte⟩
theorem Keeps.updRaised (h : Keeps W s₀ s) {x : List (Nat × Nat)} : Keeps W s₀ { s with raised := x } :=
  ⟨h.pending, h.tick, h.memOk, h.memByte⟩
theorem Keeps.updHbm (h : Keeps W s₀ s) {x : HbmSt} : Keeps W s₀ { s with hbm := x } := ⟨h.pending, h.tick, h.memOk, h.memByte⟩
theorem Keeps.updShadows (h : Keeps W s₀ s) {x : List (Nat × Nat)} : Keeps W s₀ { s with shadows := x } :=
  ⟨h.pending, h.tick, h.memOk, h.memByte⟩
theorem Keeps.updRegs (h : Keeps W s₀ s) {x : List (Nat × Word)} : Keeps W s₀ { s with regs := x } :=
  ⟨h.pending, h.tick, h.memOk, h.memByte⟩
theorem Keeps.updClk (h : Keeps W s₀ s) {x : ClockSt} : Keeps W s₀ { s with clk := x } := ⟨h.pending, h.tick, h.memOk, h.memByte⟩
theorem Keeps.updPcie (h : Keeps W s₀ s) {x : PcieSt} : Keeps W s₀ { s with pcie := x } := ⟨h.pending, h.tick, h.memOk, h.memByte⟩
theorem Keeps.updMboxes (h : Keeps W s₀ s) {x : List (Nat × MailboxSt)} : Keeps W s₀ { s with mboxes := x } :=
  ⟨h.pending, h.tick, h.memOk, h.memByte⟩
theorem Keeps.updArrivals (h : Keeps W s₀ s) {x : List Nat} : Keeps W s₀ { s with arrivals := x } :=
  ⟨h.pending, h.tick, h.memOk, h.memByte⟩
theorem Keeps.updNrings (h : Keeps W s₀ s) {x : List (Nat × NringSt)} : Keeps W s₀ { s with nrings := x } :=
  ⟨h.pending, h.tick, h.memOk, h.memByte⟩
theorem Keeps.updCoalesce (h : Keeps W s₀ s) {x : List Coalesce} : Keeps W s₀ { s with coalesce := x } :=
  ⟨h.pending, h.tick, h.memOk, h.memByte⟩
theorem Keeps.updParts (h : Keeps W s₀ s) {x : List (Nat × Partition)} : Keeps W s₀ { s with parts := x } :=
  ⟨h.pending, h.tick, h.memOk, h.memByte⟩
theorem Keeps.updGrants (h : Keeps W s₀ s) {x : List Grant} : Keeps W s₀ { s with grants := x } := ⟨h.pending, h.tick, h.memOk, h.memByte⟩
theorem Keeps.updRanger (h : Keeps W s₀ s) {x : RangerSt} : Keeps W s₀ { s with ranger := x } := ⟨h.pending, h.tick, h.memOk, h.memByte⟩
theorem Keeps.updFbk (h : Keeps W s₀ s) {x : FbkSt} : Keeps W s₀ { s with fbk := x } := ⟨h.pending, h.tick, h.memOk, h.memByte⟩
theorem Keeps.updHlt (h : Keeps W s₀ s) {x : HltSt} : Keeps W s₀ { s with hlt := x } := ⟨h.pending, h.tick, h.memOk, h.memByte⟩
theorem Keeps.updCvu (h : Keeps W s₀ s) {x : List (Nat × CvuSt)} : Keeps W s₀ { s with cvu := x } :=
  ⟨h.pending, h.tick, h.memOk, h.memByte⟩
theorem Keeps.updTime (h : Keeps W s₀ s) {x : TimeSt} : Keeps W s₀ { s with time := x } := ⟨h.pending, h.tick, h.memOk, h.memByte⟩
theorem Keeps.updLdg (h : Keeps W s₀ s) {x : LedgerSt} : Keeps W s₀ { s with ldg := x } := ⟨h.pending, h.tick, h.memOk, h.memByte⟩
theorem Keeps.updPair (h : Keeps W s₀ s) {x : PairSt} : Keeps W s₀ { s with pair := x } := ⟨h.pending, h.tick, h.memOk, h.memByte⟩
theorem Keeps.updLanes (h : Keeps W s₀ s) {x : List (Nat × LaneSt)} : Keeps W s₀ { s with lanes := x } :=
  ⟨h.pending, h.tick, h.memOk, h.memByte⟩
theorem Keeps.updCaps (h : Keeps W s₀ s) {x : List (Nat × CapSt)} : Keeps W s₀ { s with caps := x } :=
  ⟨h.pending, h.tick, h.memOk, h.memByte⟩
theorem Keeps.updOuts (h : Keeps W s₀ s) {x : List (Nat × OutSt)} : Keeps W s₀ { s with outs := x } :=
  ⟨h.pending, h.tick, h.memOk, h.memByte⟩
theorem Keeps.updStands (h : Keeps W s₀ s) {x : List (Nat × Nat)} : Keeps W s₀ { s with stands := x } :=
  ⟨h.pending, h.tick, h.memOk, h.memByte⟩
theorem Keeps.updGate (h : Keeps W s₀ s) {x : List (Nat × GateOut)} : Keeps W s₀ { s with gate := x } :=
  ⟨h.pending, h.tick, h.memOk, h.memByte⟩
theorem Keeps.updCommits (h : Keeps W s₀ s) {x : List (Nat × CommitSt)} : Keeps W s₀ { s with commits := x } :=
  ⟨h.pending, h.tick, h.memOk, h.memByte⟩
theorem Keeps.updGroups (h : Keeps W s₀ s) {x : List Group} : Keeps W s₀ { s with groups := x } := ⟨h.pending, h.tick, h.memOk, h.memByte⟩
theorem Keeps.updPools (h : Keeps W s₀ s) {x : List (Nat × PicPool)} : Keeps W s₀ { s with pools := x } :=
  ⟨h.pending, h.tick, h.memOk, h.memByte⟩
theorem Keeps.updLko (h : Keeps W s₀ s) {x : List (Nat × LookOut)} : Keeps W s₀ { s with lko := x } :=
  ⟨h.pending, h.tick, h.memOk, h.memByte⟩
theorem Keeps.updRegions (h : Keeps W s₀ s) {x : List (Nat × RegionSt)} : Keeps W s₀ { s with regions := x } :=
  ⟨h.pending, h.tick, h.memOk, h.memByte⟩
theorem Keeps.updPol (h : Keeps W s₀ s) {x : PolSt} : Keeps W s₀ { s with pol := x } := ⟨h.pending, h.tick, h.memOk, h.memByte⟩
theorem Keeps.updDcqs (h : Keeps W s₀ s) {x : List (Nat × DcqSt)} : Keeps W s₀ { s with dcqs := x } :=
  ⟨h.pending, h.tick, h.memOk, h.memByte⟩
theorem Keeps.updStrip (h : Keeps W s₀ s) {x : StripSt} : Keeps W s₀ { s with strip := x } := ⟨h.pending, h.tick, h.memOk, h.memByte⟩
theorem Keeps.updSys (h : Keeps W s₀ s) {x : SysSt} : Keeps W s₀ { s with sys := x } := ⟨h.pending, h.tick, h.memOk, h.memByte⟩
theorem Keeps.updQueues (h : Keeps W s₀ s) {x : List (Nat × QueueSt)} : Keeps W s₀ { s with queues := x } :=
  ⟨h.pending, h.tick, h.memOk, h.memByte⟩
theorem Keeps.updPorts (h : Keeps W s₀ s) {x : List (Nat × PortSt)} : Keeps W s₀ { s with ports := x } :=
  ⟨h.pending, h.tick, h.memOk, h.memByte⟩
theorem Keeps.updDecs (h : Keeps W s₀ s) {x : List (Nat × DecSes)} : Keeps W s₀ { s with decs := x } :=
  ⟨h.pending, h.tick, h.memOk, h.memByte⟩
theorem Keeps.updDecPipes (h : Keeps W s₀ s) {x : List (Nat × PipeSt)} : Keeps W s₀ { s with decPipes := x } :=
  ⟨h.pending, h.tick, h.memOk, h.memByte⟩
theorem Keeps.updEncs (h : Keeps W s₀ s) {x : List (Nat × EncSes)} : Keeps W s₀ { s with encs := x } :=
  ⟨h.pending, h.tick, h.memOk, h.memByte⟩
theorem Keeps.updEncPipes (h : Keeps W s₀ s) {x : List (Nat × PipeSt)} : Keeps W s₀ { s with encPipes := x } :=
  ⟨h.pending, h.tick, h.memOk, h.memByte⟩
theorem Keeps.updFwPool (h : Keeps W s₀ s) {x : List (Nat × Nat)} : Keeps W s₀ { s with fwPool := x } :=
  ⟨h.pending, h.tick, h.memOk, h.memByte⟩
theorem Keeps.updEmitted (h : Keeps W s₀ s) {x : List Emission} : Keeps W s₀ { s with emitted := x } :=
  ⟨h.pending, h.tick, h.memOk, h.memByte⟩

/-! Several fields at once. -/

theorem Keeps.updVectors (h : Keeps W s₀ s) {a : List (Nat × Nat)} {b : PcieSt} :
    Keeps W s₀ { s with msix := a, pcie := b } :=
  ⟨h.pending, h.tick, h.memOk, h.memByte⟩
theorem Keeps.updRead (h : Keeps W s₀ s) {a : Nat} {b : Bool} :
    Keeps W s₀ { s with readData := a, readPoison := b } :=
  ⟨h.pending, h.tick, h.memOk, h.memByte⟩
theorem Keeps.updCells (h : Keeps W s₀ s) {a : HbmSt} {b : LedgerSt} :
    Keeps W s₀ { s with hbm := a, ldg := b } :=
  ⟨h.pending, h.tick, h.memOk, h.memByte⟩
theorem Keeps.updClocks (h : Keeps W s₀ s) {a : ClockSt} {b : TimeSt} {c : LedgerSt} :
    Keeps W s₀ { s with clk := a, time := b, ldg := c } :=
  ⟨h.pending, h.tick, h.memOk, h.memByte⟩
theorem Keeps.updStripSys (h : Keeps W s₀ s) {a : StripSt} {b : SysSt} :
    Keeps W s₀ { s with strip := a, sys := b } :=
  ⟨h.pending, h.tick, h.memOk, h.memByte⟩
theorem Keeps.updSettings (h : Keeps W s₀ s) {a : List (Nat × Partition)} {b : List Grant} {c : TimeSt}
    {d : LedgerSt} {e : List (Nat × OutSt)} {f : List (Nat × Nat)} {g : List (Nat × GateOut)} {n : List (Nat × CommitSt)}
    {i : List Group} {j : List (Nat × PicPool)} {k : List (Nat × RegionSt)} {l : PolSt} {m : List (Nat × Nat)} :
    Keeps W s₀ { s with
      parts := a, grants := b, time := c, ldg := d, outs := e, stands := f, gate := g, commits := n,
      groups := i, pools := j, regions := k, pol := l, fwPool := m } :=
  ⟨h.pending, h.tick, h.memOk, h.memByte⟩

/-! #### The five memories -/

/-- The canonical form, memory by memory. -/
theorem State.memOk_iff (s : State) : s.memOk = true ↔ Memory.wf 0 s.mem = true ∧ Memory.wf 0 s.hostMem = true ∧
    Memory.wf 0 s.area = true ∧ Memory.wf flashErased s.flash = true ∧ Memory.wf 0 s.blz.chip = true := by
  simp only [State.memOk, Bool.and_eq_true, and_assoc]

/-- Blaze's record changes and the log chip stays. -/
theorem Keeps.updBlz {x : BlzSt} (h : Keeps W s₀ s) (hx : x.chip = s.blz.chip := by rfl) : Keeps W s₀ { s with blz := x } :=
  ⟨h.pending, h.tick, fun h₀ => by simpa only [State.memOk, hx] using h.memOk h₀, h.memByte⟩

/-- The log chip keeps its form. -/
theorem Keeps.updChip {x : BlzSt} (h : Keeps W s₀ s) (hx : Memory.wf 0 s.blz.chip = true → Memory.wf 0 x.chip = true) :
    Keeps W s₀ { s with blz := x } := by
  refine ⟨h.pending, h.tick, fun h₀ => ?_, h.memByte⟩
  obtain ⟨hm, hh, ha, hf, hc⟩ := s.memOk_iff.mp (h.memOk h₀)
  exact (State.memOk_iff _).mpr ⟨hm, hh, ha, hf, hx hc⟩

/-- The log chip as it is after other work from the same start. -/
theorem Keeps.updChipOf {t : State} {x : BlzSt} (h : Keeps W s₀ s) (ht : Keeps W s₀ t) (hx : x.chip = t.blz.chip := by rfl) :
    Keeps W s₀ { s with blz := x } := by
  refine ⟨h.pending, h.tick, fun h₀ => ?_, h.memByte⟩
  obtain ⟨hm, hh, ha, hf, -⟩ := s.memOk_iff.mp (h.memOk h₀)
  obtain ⟨-, -, -, -, hc⟩ := t.memOk_iff.mp (ht.memOk h₀)
  exact (State.memOk_iff _).mpr ⟨hm, hh, ha, hf, hx ▸ hc⟩

theorem Keeps.updHostMem {a : Nat} {b : List Byte} (h : Keeps W s₀ s) :
    Keeps W s₀ { s with hostMem := sparsePutRange 0 s.hostMem a b } :=
  ⟨h.pending, h.tick, fun h₀ => s.hostWrite_memOk a b (h.memOk h₀), h.memByte⟩

theorem Keeps.updArea {a : Nat} {b : List Byte} (h : Keeps W s₀ s) : Keeps W s₀ { s with area := sparsePutRange 0 s.area a b } := by
  refine ⟨h.pending, h.tick, fun h₀ => ?_, h.memByte⟩
  obtain ⟨hm, hh, ha, hf, hc⟩ := s.memOk_iff.mp (h.memOk h₀)
  exact (State.memOk_iff _).mpr ⟨hm, hh, sparsePutRange_wf a b ha, hf, hc⟩

/-- An item's space erased and programmed. -/
theorem Keeps.updFlash {f : Host.Cell → Bool} {a : Nat} {b : List Byte} (h : Keeps W s₀ s) :
    Keeps W s₀ { s with flash := sparsePutRange flashErased (s.flash.filter f) a b } := by
  refine ⟨h.pending, h.tick, fun h₀ => ?_, h.memByte⟩
  obtain ⟨hm, hh, ha, hf, hc⟩ := s.memOk_iff.mp (h.memOk h₀)
  exact (State.memOk_iff _).mpr ⟨hm, hh, ha, sparsePutRange_wf a b (sparseFilter_wf f hf), hc⟩

/-- Bytes of device memory cleared. -/
theorem Keeps.updMem {f : Host.Cell → Bool} (h : Keeps anywhere s₀ s) : Keeps anywhere s₀ { s with mem := s.mem.filter f } := by
  refine ⟨h.pending, h.tick, fun h₀ => ?_, fun b hb => (hb trivial).elim⟩
  obtain ⟨hm, hh, ha, hf, hc⟩ := s.memOk_iff.mp (h.memOk h₀)
  exact (State.memOk_iff _).mpr ⟨sparseFilter_wf f hm, hh, ha, hf, hc⟩

/-- Bytes stored where they may be. -/
theorem Keeps.memWriteIn {a : Nat} {b : List Byte} (h : Keeps W s₀ s) (hW : ∀ i, a ≤ i → i < a + b.length → W i) :
    Keeps W s₀ (s.memWrite a b) :=
  ⟨h.pending, h.tick, fun h₀ => s.memWrite_memOk a b (h.memOk h₀), fun i hi =>
    (s.memByte_memWrite_other b fun hab => hi (hW i hab.1 hab.2)).trans (h.memByte i hi)⟩

theorem Keeps.memWrite {a : Nat} {b : List Byte} (h : Keeps anywhere s₀ s) : Keeps anywhere s₀ (s.memWrite a b) :=
  h.memWriteIn fun _ _ _ => trivial

/-! ### The functions of the model -/

/-! #### Sys2Proof/Machine/Ops.lean -/

theorem Keeps.wr (h : Keeps W s₀ s) {a v : Nat} : Keeps W s₀ (s.wr a v) := h.updRegs

theorem Keeps.setFld (h : Keeps W s₀ s) {f : Fld} {v : Nat} : Keeps W s₀ (s.setFld f v) := h.wr

theorem Keeps.raise (h : Keeps W s₀ s) {f : Fld} : Keeps W s₀ (s.raise f) := h.setFld.updRaised

theorem Keeps.w1c (h : Keeps W s₀ s) {f : Fld} : Keeps W s₀ (s.w1c f) := .ite h h.setFld

theorem Keeps.bump (h : Keeps W s₀ s) {a n : Nat} : Keeps W s₀ (s.bump a n) := h.wr

theorem Keeps.bumpWrap (h : Keeps W s₀ s) {a n : Nat} : Keeps W s₀ (s.bumpWrap a n) := h.wr

theorem Keeps.wr64 (h : Keeps W s₀ s) {lo hi v : Nat} : Keeps W s₀ (s.wr64 lo hi v) := h.wr.wr

theorem Keeps.elapse (h : Keeps W s₀ s) {dt : Nat} : Keeps W s₀ (s.elapse dt) :=
  ⟨h.pending, Nat.le_add_right_of_le h.tick, h.memOk, h.memByte⟩

theorem Keeps.nextFree (h : Keeps W s₀ s) : Keeps W s₀ s.nextFree := h.updFresh

theorem Keeps.hostWrite (h : Keeps W s₀ s) {a : Nat} {b : List Byte} : Keeps W s₀ (s.hostWrite a b) := h.updHostMem

theorem Keeps.emit (h : Keeps W s₀ s) {e : Emission} : Keeps W s₀ (s.emit e) := h.updEmitted

theorem Keeps.msixRequest (h : Keeps W s₀ s) {v : Nat} : Keeps W s₀ (s.msixRequest v) := h.updVectors

theorem Keeps.setNring (h : Keeps W s₀ s) {n : Nat} {r : NringSt} : Keeps W s₀ (s.setNring n r) := h.updNrings

theorem Keeps.nringAdvance (h : Keeps W s₀ s) {n bytes : Nat} : Keeps W s₀ (s.nringAdvance n bytes) := .ite h.wr.msixRequest h.wr

theorem Keeps.nringPlace (h : Keeps W s₀ s) {n size kind stamp part flags coalesced : Nat} {payload : List Byte} :
    Keeps W s₀ (s.nringPlace n size kind stamp part flags coalesced payload) := h.hostWrite.setNring.nringAdvance

theorem Keeps.nringWrite (h : Keeps W s₀ s) {n kind stamp part flags coalesced : Nat} {payload : List Byte} :
    Keeps W s₀ (s.nringWrite n kind stamp part flags coalesced payload) := .nringPlace (.ite h h.nringPlace)

theorem Keeps.nringLeave (h : Keeps W s₀ s) {n : Nat} {x : Notice} {never : Bool} : Keeps W s₀ (s.nringLeave n x never) :=
  .ite h.setNring.raise (.ite h.setNring.raise.setFld h.setNring.raise.raise.bump)

theorem Keeps.nringDrain (h : Keeps W s₀ s) {n k : Nat} : Keeps W s₀ (s.nringDrain n k) := by
  induction k generalizing s with
  | zero => exact h
  | succ k ih =>
    rw [State.nringDrain]
    split
    · exact h
    · exact .ite (ih h.setNring.setFld.nringWrite) h

theorem Keeps.nringCatchUp (h : Keeps W s₀ s) {n : Nat} : Keeps W s₀ (s.nringCatchUp n) :=
  .ite h (.ite h.nringDrain (.ite h.setNring.nringWrite.nringDrain h))

theorem Keeps.nringTake (h : Keeps W s₀ s) {n : Nat} {x : Notice} {never : Bool} : Keeps W s₀ (s.nringTake n x never) :=
  .ite (.nringWrite (.setNring (.ite h.nringCatchUp h))) (.nringLeave (.ite h.nringCatchUp h))

theorem Keeps.deliver (h : Keeps W s₀ s) {kind obj : Nat} {dests : List Nat} {payload : List Byte} {coalesced : Nat}
    {never : Bool} : Keeps W s₀ (s.deliver kind obj dests payload coalesced never) := .foldl h fun _ _ ht => by split; exacts [ht,
    ht.nringTake]

theorem Keeps.raiseNotice (h : Keeps W s₀ s) {kind obj : Nat} {dests : List Nat} {payload : List Byte} {never : Bool} :
    Keeps W s₀ (s.raiseNotice kind obj dests payload never) := .ite h.deliver (.ite h.updCoalesce h.updCoalesce.deliver)

theorem Keeps.notice (h : Keeps W s₀ s) {kind obj : Nat} {dests : List Nat} {payload : List Byte} {never : Bool} :
    Keeps W s₀ (s.notice kind obj dests payload never) := .ite h.raiseNotice h.updRanger

theorem Keeps.tellUntold (h : Keeps W s₀ s) : Keeps W s₀ s.tellUntold := h.updRanger.foldl fun _ _ ht => ht.notice

theorem Keeps.loseFolded (h : Keeps W s₀ s) : Keeps W s₀ s.loseFolded :=
  (h.foldl fun _ _ ht => (ht.foldl fun _ _ ht2 => .ite ht2.setNring ht2)).updCoalesce

theorem Keeps.blzTrigger (h : Keeps W s₀ s) {type source severity : Nat} {detail : List Byte} {fatal : Bool} :
    Keeps W s₀ (s.blzTrigger type source severity detail fatal) := .ite h.updBlz.bump (.ite h.updBlz.setFld h.updBlz.bump.raise.notice)

theorem Keeps.logFault (h : Keeps W s₀ s) {det cls inst : Nat} {injected : Bool} {detail : Nat} :
    Keeps W s₀ (s.logFault det cls inst injected detail) :=
  .via h.wr.wr.wr.wr.bumpWrap.bump fun h1 =>
  .notice (.blzTrigger (.ite (.msixRequest (.ite h1.raise h1)) (.ite h1.raise h1)))

theorem Keeps.setRun (h : Keeps W s₀ s) {det inst : Nat} {r : FaultRun} : Keeps W s₀ (s.setRun det inst r) := h.updHlt

theorem Keeps.detFail (h : Keeps W s₀ s) {det inst : Nat} {injected : Bool} {word : Nat} :
    Keeps W s₀ (s.detFail det inst injected word).2 := .ite2 h.setRun (.ite2 h.setRun.logFault h)

theorem Keeps.detPass (h : Keeps W s₀ s) {det inst : Nat} : Keeps W s₀ (s.detPass det inst).2 := .ite2 h.setRun.logFault h.setRun

theorem Keeps.setDcq (h : Keeps W s₀ s) {q : Nat} {x : DcqSt} : Keeps W s₀ (s.setDcq q x) := h.updDcqs

theorem Keeps.injTake (h : Keeps W s₀ s) {det inst : Nat} {count : Nat → Nat} : Keeps W s₀ (s.injTake det inst count).2 := by
  dsimp only [State.injTake]
  split
  · exact h.updHlt
  · split
    · exact .ite2 h.updHlt.setFld.raise.bump h
    · exact h

theorem Keeps.fbkCapture (h : Keeps W s₀ s) {u a : Nat} {write : Bool} {len cause : Nat} :
    Keeps W s₀ (s.fbkCapture u a write len cause) := .ite h.bump.raise h.bump.raise.setFld.setFld.setFld.wr.setFld

theorem Keeps.fbkViolate (h : Keeps W s₀ s) {u a : Nat} {write : Bool} {len cause : Nat} {injected : Bool} :
    Keeps W s₀ (s.fbkViolate u a write len cause injected).2 := .ite2 (.ite2 h.fbkCapture.updFbk.setRun.logFault.notice
    h.fbkCapture.updFbk) h.fbkCapture.updFbk.setRun

theorem Keeps.fbkSettle (h : Keeps W s₀ s) : Keeps W s₀ s.fbkSettle :=
  h.foldl fun _ _ ht => .ite (.ite ht.setRun.updFbk.logFault.notice ht.setRun.updFbk) ht

theorem Keeps.keepError (h : Keeps W s₀ s) {a e : Nat} : Keeps W s₀ (s.keepError a e) := h.updHbm

theorem Keeps.writeBackDone (h : Keeps W s₀ s) : Keeps W s₀ s.writeBackDone := by
  dsimp only [State.writeBackDone]
  split
  · exact h
  · exact h.updHbm

theorem Keeps.rxDrain (h : Keeps W s₀ s) {p dt : Nat} : Keeps W s₀ (s.rxDrain p dt) := .ite h (.ite h.setFld.setFld h.setFld)

theorem Keeps.pass (h : Keeps W s₀ s) {dt : Nat} : Keeps W s₀ (s.pass dt) :=
  .fbkSettle (.ite h.elapse h.elapse.writeBackDone.rxDrain.rxDrain)

theorem Keeps.fbkCheck (h : Keeps W s₀ s) {u a : Nat} {write : Bool} {len : Nat} : Keeps W s₀ (s.fbkCheck u a write len).2.2 := by
  dsimp only [State.fbkCheck]
  split
  · exact h.injTake
  · exact h.injTake.fbkViolate
  · exact h.injTake.fbkViolate

/-! #### Sys2Proof/Machine/Cells.lean -/

theorem Keeps.putCell (h : Keeps W s₀ s) {n : Nat} {c : Cell} : Keeps W s₀ (s.putCell n c) := h.updCells

/-! #### Sys2Proof/Machine/Fabric.lean -/

theorem Keeps.showDown (h : Keeps W s₀ s) {k : Nat} : Keeps W s₀ (s.showDown k) := h.setFld

theorem Keeps.touch (h : Keeps W s₀ s) {a n : Nat} : Keeps W s₀ (s.touch a n) := .ite h (h.updHbm.foldl fun _ _ ht => .ite ht.showDown ht)

theorem Keeps.blockInjection (h : Keeps W s₀ s) {det a : Nat} : Keeps W s₀ (s.blockInjection det a).2 := .ite2 h.injTake h

theorem Keeps.eccFound (h : Keeps W s₀ s) {a e : Nat} {injected : Bool} : Keeps W s₀ (s.eccFound a e injected) :=
  .ite h (.ite h.bump.logFault (.ite h.bump.logFault h.bump.wr.setFld.raise.logFault))

theorem Keeps.eccBlock (h : Keeps W s₀ s) {a : Nat} {met : List Nat} : Keeps W s₀ (s.eccBlock a met).2 := by
  unfold State.eccBlock
  extract_lets b words
  have h1 := h.blockInjection (det := 1) (a := b)
  generalize s.blockInjection 1 b = x at h1 ⊢
  obtain ⟨i1, s1⟩ := x
  dsimp -zeta only
  have h2 := Keeps.blockInjection h1 (det := 2) (a := b)
  dsimp only at h2
  generalize s1.blockInjection 2 b = y at h2 ⊢
  obtain ⟨i2, s2⟩ := y
  dsimp -zeta only
  extract_lets s3 struck own
  have h3 : Keeps W s₀ s3 := Keeps.foldl h2 fun _ _ ht => .ite ht.keepError ht
  clear_value s3 struck own
  cases i2 with
  | none => exact h3.foldl fun _ _ ht => ht.eccFound
  | some _ => exact .eccFound (h3.foldl fun _ _ ht => ht.eccFound)

theorem Keeps.eccSpan (h : Keeps W s₀ s) {a n : Nat} {ecc : List Nat} : Keeps W s₀ (s.eccSpan a n ecc).2 :=
  .ite2 h (h.foldl2 fun _ _ ht => ht.eccBlock)

theorem Keeps.storeMem (h : Keeps anywhere s₀ s) {a : Nat} {b : List Byte} : Keeps anywhere s₀ (s.storeMem a b) :=
  .ite h.touch.memWrite (h.touch.foldl fun _ _ ht => .ite ht ht.memWrite)

theorem Keeps.meetRead (h : Keeps W s₀ s) {a n : Nat} {ecc : List Nat} : Keeps W s₀ (s.meetRead a n ecc).2 :=
  .ite2 h.touch.eccSpan (h.touch.foldl2 fun _ _ ht => .ite2 ht ht.eccSpan)

theorem Keeps.loadMem (h : Keeps W s₀ s) {a n : Nat} {ecc : List Nat} : Keeps W s₀ (s.loadMem a n ecc).2.2 := h.meetRead

theorem Keeps.serveReq (h : Keeps anywhere s₀ s) {r : MemReq} : Keeps anywhere s₀ (s.serveReq r) := .ite h.storeMem h.loadMem.updRead

theorem Keeps.serveDue (h : Keeps anywhere s₀ s) {sel : MemReq × Nat → Bool} : Keeps anywhere s₀ (s.serveDue sel) :=
  h.updHbm.foldl fun _ _ ht => ht.serveReq

theorem Keeps.raisedFor (h : Keeps W s₀ s) {r : MemReq} : Keeps W s₀ (s.raisedFor r) := h.updHbm

theorem Keeps.arrive (h : Keeps anywhere s₀ s) {r : MemReq} : Keeps anywhere s₀ (s.arrive r) := .ite h h.raisedFor.serveDue

theorem Keeps.askMem (h : Keeps anywhere s₀ s) {u a : Nat} {write : Bool} {data : List Byte} {len : Nat} {ecc : List Nat}
    {held low : Bool} : Keeps anywhere s₀ (s.askMem u a write data len ecc held low) := .ite h.serveReq (.ite h.raisedFor.updHbm
    h.arrive.serveReq)

theorem Keeps.unitStore (h : Keeps anywhere s₀ s) {u a : Nat} {b : List Byte} : Keeps anywhere s₀ (s.unitStore u a b).2.2 :=
  h.foldl22 fun _ _ ht => .ite ht.fbkCheck.arrive.storeMem ht.fbkCheck

theorem Keeps.loadAt (h : Keeps anywhere s₀ s) {u level a n : Nat} {ecc : List Nat} :
    Keeps anywhere s₀ (s.loadAt u level a n ecc).2.2.2.2 := h.foldl2222 fun _ _ ht => .ite2222 ht.fbkCheck.arrive.loadMem ht.fbkCheck

theorem Keeps.unitLoad (h : Keeps anywhere s₀ s) {u a n : Nat} : Keeps anywhere s₀ (s.unitLoad u a n).2.2.2.2 := h.loadAt

theorem Keeps.haltUnit (h : Keeps W s₀ s) {u : Nat} : Keeps W s₀ (s.haltUnit u) := .ite h.updHlt h

theorem Keeps.fwRead (h : Keeps anywhere s₀ s) {a n : Nat} : Keeps anywhere s₀ (s.fwRead a n).2 := .ite h.unitLoad.haltUnit h.unitLoad

theorem Keeps.fwWrite (h : Keeps anywhere s₀ s) {a : Nat} {b : List Byte} : Keeps anywhere s₀ (s.fwWrite a b) :=
  .ite h.unitStore.haltUnit h.unitStore

theorem Keeps.fillLoad (h : Keeps anywhere s₀ s) {n a len : Nat} : Keeps anywhere s₀ (s.fillLoad n a len).2.2.2.2 := h.loadAt

/-! #### Sys2Proof/Machine/Links.lean -/

theorem Keeps.setLane (h : Keeps W s₀ s) {i : Nat} {x : LaneSt} : Keeps W s₀ (s.setLane i x) := h.updLanes

theorem Keeps.setCap (h : Keeps W s₀ s) {i : Nat} {x : CapSt} : Keeps W s₀ (s.setCap i x) := h.updCaps

theorem Keeps.setReplay (h : Keeps W s₀ s) {i : Nat} {l : List Flit} : Keeps W s₀ (s.setReplay i l) := h.setLane.setFld

theorem Keeps.transmit (h : Keeps W s₀ s) {i : Nat} {f : Flit} : Keeps W s₀ (s.transmit i f) := h.setLane.setReplay.setFld.bumpWrap.emit

theorem Keeps.sendFlit (h : Keeps W s₀ s) {i : Nat} {f : Flit} : Keeps W s₀ (s.sendFlit i f) := .ite h (.ite h.transmit h.setLane)

theorem Keeps.pumpLane (h : Keeps W s₀ s) {i k : Nat} : Keeps W s₀ (s.pumpLane i k) := by
  induction k generalizing s with
  | zero => exact h
  | succ k ih =>
    rw [State.pumpLane]
    split
    · exact h
    · exact .ite (ih h.setLane.transmit) h

theorem Keeps.sendMsg (h : Keeps W s₀ s) {i type : Nat} {body : List Byte} : Keeps W s₀ (s.sendMsg i type body) := h.sendFlit

theorem Keeps.settleThrottle (h : Keeps W s₀ s) : Keeps W s₀ s.settleThrottle :=
  .ite h.setFld.setFld (.ite h.setFld.setFld (.ite h.setFld.setFld h.setFld))

theorem Keeps.pairFlit (h : Keeps W s₀ s) {m : PairMsg} {flags : Nat} : Keeps W s₀ (s.pairFlit m flags) :=
  .ite h h.sendFlit.settleThrottle

theorem Keeps.pairOrdered (h : Keeps W s₀ s) {type : Nat} {body : List Byte} : Keeps W s₀ (s.pairOrdered type body) :=
  h.updPair.wr.pairFlit

theorem Keeps.pairSend (h : Keeps W s₀ s) {type : Nat} {body : List Byte} : Keeps W s₀ (s.pairSend type body) := .ite h.pairOrdered h

theorem Keeps.pairLoose (h : Keeps W s₀ s) {type : Nat} {body : List Byte} : Keeps W s₀ (s.pairLoose type body) := h.pairFlit

/-! #### Sys2Proof/Machine/Lcs.lean -/

theorem Keeps.setMbox (h : Keeps W s₀ s) {m : Nat} {b : MailboxSt} : Keeps W s₀ (s.setMbox m b) := h.updMboxes

theorem Keeps.areaWrite (h : Keeps W s₀ s) {m : Nat} {b : List Byte} : Keeps W s₀ (s.areaWrite m b) := h.updArea

theorem Keeps.complete (h : Keeps W s₀ s) {m : Nat} {hw more : Bool} {status detail : Nat} {body : List Byte} :
    Keeps W s₀ (s.complete m hw more status detail body) := .ite h.areaWrite.raise.setFld.setFld.setFld.msixRequest
    h.areaWrite.raise.setFld.setFld.setFld

theorem Keeps.sendParts (h : Keeps W s₀ s) {whole : List Byte} : Keeps W s₀ (s.sendParts whole) := h.foldl fun _ _ ht => ht.pairSend

theorem Keeps.forwardLcs (h : Keeps W s₀ s) {msg : List Byte} {status : Nat} {body : List Byte} :
    Keeps W s₀ (s.forwardLcs msg status body) := h.sendParts

theorem Keeps.blzEvent (h : Keeps W s₀ s) {kind low : Nat} : Keeps W s₀ (s.blzEvent kind low) := h.nextFree.blzTrigger

theorem Keeps.setRole (h : Keeps W s₀ s) {role phase cause : Nat} {blind : Bool} : Keeps W s₀ (s.setRole role phase cause blind) :=
  .ite (.notice (.ite h.setFld.setFld h.setFld.setFld.setFld.blzEvent)) (.ite h.setFld.setFld h.setFld.setFld.setFld.blzEvent)

theorem Keeps.dropMirror (h : Keeps W s₀ s) : Keeps W s₀ s.dropMirror := h.updPair.setFld

theorem Keeps.diverge (h : Keeps W s₀ s) : Keeps W s₀ s.diverge := .ite h.raise.dropMirror.setRole h

theorem Keeps.mirrorEnd (h : Keeps W s₀ s) {serial status : Nat} {body : List Byte} : Keeps W s₀ (s.mirrorEnd serial status body) := by
  dsimp only [State.mirrorEnd]
  split
  · exact h
  · exact .ite h.updPair h.updPair.diverge

/-- A command taken up in a mailbox keeps what its own part keeps. -/
theorem Keeps.lcs {m op : Nat} {f : Req → State → State × Resp} (h : Keeps W s₀ s) (hf : ∀ r, Keeps W s₀ (f r s).1) :
    Keeps W s₀ (s.lcs m op f) := by
  dsimp only [State.lcs]
  split
  · have hr := hf (s.request m)
    split
    next e => exact .ite (hr.at1 e).complete.forwardLcs (hr.at1 e).complete
    next e => exact (hr.at1 e).complete
    next => exact h.complete
    next e => exact (hr.at1 e).complete
    next e => exact (hr.at1 e).setFld
  · split
    · exact .ite h.complete h
    · exact h

theorem Keeps.answer (h : Keeps W s₀ s) {w : Option Waiter} {status : Nat} {body : List Byte} : Keeps W s₀ (s.answer w status body) := by
  dsimp only [State.answer]
  split
  · exact h
  · exact .ite h.mirrorEnd (.ite (.ite h.complete.forwardLcs h.complete) h)

/-! #### Sys2Proof/Machine/TimeOps.lean -/

theorem Keeps.takePair (h : Keeps W s₀ s) : Keeps W s₀ s.takePair := h.updTime

theorem Keeps.resetHistory (h : Keeps W s₀ s) : Keeps W s₀ s.resetHistory := h.updTime

theorem Keeps.setPtpAdj (h : Keeps W s₀ s) {v : Int} : Keeps W s₀ (s.setPtpAdj v) :=
  .ite (.ite h h.raise) (.takePair (.wr (.ite h h.raise)))

theorem Keeps.setAgeAdj (h : Keeps W s₀ s) {v : Int} : Keeps W s₀ (s.setAgeAdj v) :=
  .ite (.ite h h.raise) (.takePair (.wr (.ite h h.raise)))

theorem Keeps.setPtpNs (h : Keeps W s₀ s) {ns : Nat} : Keeps W s₀ (s.setPtpNs ns) := h.updClk

theorem Keeps.putTxStamp (h : Keeps W s₀ s) {x : TxStamp} : Keeps W s₀ (s.putTxStamp x) := h.wr.wr.setFld

/-! #### Sys2Proof/Machine/Ledger.lean -/

theorem Keeps.putStaleBit (h : Keeps W s₀ s) {r n : Nat} {b : Bool} : Keeps W s₀ (s.putStaleBit r n b) := h.updLdg

theorem Keeps.putStaleBits (h : Keeps W s₀ s) {n : Nat} {b : Bool} : Keeps W s₀ (s.putStaleBits n b) :=
  h.putStaleBit.putStaleBit.putStaleBit.putStaleBit

theorem Keeps.windfallWait (h : Keeps W s₀ s) {e : Windfall} : Keeps W s₀ (s.windfallWait e) := .ite h.updLdg.raise h.updLdg.raise.notice

theorem Keeps.windfallInstall (h : Keeps W s₀ s) {e : Windfall} : Keeps W s₀ (s.windfallInstall e) := by
  dsimp only [State.windfallInstall]
  split
  · exact h.updLdg
  · split
    · split
      · exact h.updLdg.windfallWait
      · exact h.windfallWait
    · exact h.windfallWait

theorem Keeps.windfallPromote (h : Keeps W s₀ s) {k : Nat} : Keeps W s₀ (s.windfallPromote k) := by
  induction k generalizing s with
  | zero => exact h
  | succ k ih =>
    rw [State.windfallPromote]
    split
    · exact h
    · dsimp only
      split
      · exact h
      · exact ih h.updLdg

theorem Keeps.windfallRemove (h : Keeps W s₀ s) {n : Nat} : Keeps W s₀ (s.windfallRemove n) := h.updLdg.windfallPromote

theorem Keeps.windfallFollow (h : Keeps W s₀ s) {n : Nat} {old new : Cell} : Keeps W s₀ (s.windfallFollow n old new) :=
  .ite h.updLdg (.ite h.updLdg h.windfallInstall)

theorem Keeps.setNotify (h : Keeps W s₀ s) {p : Nat} {x : NotifySt} : Keeps W s₀ (s.setNotify p x) := h.updLdg

theorem Keeps.raiseBatch (h : Keeps W s₀ s) {p : Nat} : Keeps W s₀ (s.raiseBatch p) := .ite h h.setNotify.notice

theorem Keeps.staleBatch (h : Keeps W s₀ s) {p : Nat} : Keeps W s₀ (s.staleBatch p) := .ite h.raiseBatch h

theorem Keeps.gatherStale (h : Keeps W s₀ s) {n : Nat} {c : Cell} : Keeps W s₀ (s.gatherStale n c) :=
  .ite h.staleBatch h.staleBatch.setNotify

theorem Keeps.settleCell (h : Keeps W s₀ s) {n : Nat} {new : Cell} : Keeps W s₀ (s.settleCell n new) :=
  .ite h.putCell.windfallRemove.putStaleBits (.ite h.putCell.putStaleBits.windfallRemove (.ite
  h.putCell.windfallFollow.putStaleBits.bump.gatherStale h.putCell.windfallFollow.putStaleBits))

theorem Keeps.appendSlot (h : Keeps W s₀ s) {n slot : Nat} : Keeps W s₀ (s.appendSlot n slot) := h.settleCell.updLdg

theorem Keeps.dropCandidate (h : Keeps W s₀ s) {n : Nat} : Keeps W s₀ (s.dropCandidate n) := h.updLdg

theorem Keeps.fileCell (h : Keeps W s₀ s) {n : Nat} : Keeps W s₀ (s.fileCell n) :=
  .ite h.settleCell.dropCandidate (.ite (.ite h.dropCandidate.updLdg h.dropCandidate.appendSlot) (.ite h h.appendSlot))

theorem Keeps.scanEntry (h : Keeps W s₀ s) {n slot : Nat} : Keeps W s₀ (s.scanEntry n slot) :=
  .ite h (.ite h.settleCell (.ite h.settleCell (.ite h.putCell.appendSlot (.ite h h.updLdg))))

theorem Keeps.rebuildCell (h : Keeps W s₀ s) {n : Nat} : Keeps W s₀ (s.rebuildCell n) := .ite h h.settleCell.bump.notice

theorem Keeps.cellAllowed (h : Keeps W s₀ s) {n : Nat} : Keeps W s₀ (s.cellAllowed n).2 := .ite2 h (.ite2 h.fbkCheck h.fbkCheck.fbkCheck)

theorem Keeps.cellRead (h : Keeps anywhere s₀ s) {n : Nat} {poisoned : Bool} : Keeps anywhere s₀ (s.cellRead n poisoned).2 :=
  .ite2 h.cellAllowed (.ite h.cellAllowed.arrive.meetRead.rebuildCell h.cellAllowed.arrive.meetRead)

theorem Keeps.onCell {n : Nat} {f : State → State} (h : Keeps anywhere s₀ s)
    (hf : ∀ t, Keeps anywhere s₀ t → Keeps anywhere s₀ (f t)) : Keeps anywhere s₀ (s.onCell n f) :=
  .ite (hf _ h.cellRead) h.cellRead

theorem Keeps.bump64 (h : Keeps W s₀ s) {lo hi : Nat} : Keeps W s₀ (s.bump64 lo hi) := h.wr64

theorem Keeps.applyVoid (h : Keeps W s₀ s) {n : Nat} : Keeps W s₀ (s.applyVoid n) := h.settleCell.bump64

theorem Keeps.applyConfirm (h : Keeps W s₀ s) {n action t : Nat} : Keeps W s₀ (s.applyConfirm n action t) :=
  .ite h.bump64.settleCell.dropCandidate h.bump64.settleCell.fileCell

theorem Keeps.confirmFrom (h : Keeps W s₀ s) {n action kind : Nat} {stamp : Option Nat} {epochOk : Bool} {transit : Nat} :
    Keeps W s₀ (s.confirmFrom n action kind stamp epochOk transit).2 := by
  unfold State.confirmFrom
  -- nothing here turns on what `acceptTime` says
  obtain ⟨accept, ha⟩ := exists_eq (a' := acceptTime)
  rw [← ha]
  refine .ite2 h ?_
  split
  next s1 e =>
  have h1 : Keeps W s₀ s1 := .at2 (.ite2 h (.ite2 h.bump (.ite2 h.bump h))) e
  split
  · exact h1
  · split
    · exact h1
    · exact .ite2 h1 (.applyConfirm (.ite h1.bump h1))

theorem Keeps.hostConfirm (h : Keeps anywhere s₀ s) {r : Nat} {rec : List Byte} {poisoned : Bool} :
    Keeps anywhere s₀ (s.hostConfirm r rec poisoned).2 := .ite2 h.cellRead (.ite2 h.cellRead (.ite2 h.cellRead (.ite2 h.cellRead (.ite2
    h.cellRead.applyVoid h.cellRead.confirmFrom))))

theorem Keeps.engineConfirm (h : Keeps anywhere s₀ s) {e : EngineConf} {poisoned : Bool} :
    Keeps anywhere s₀ (s.engineConfirm e poisoned) := by
  dsimp only [State.engineConfirm]
  refine .ite h.cellRead.bump (.ite h.cellRead.bump (.ite h.cellRead.applyVoid ?_))
  split
  next hx => exact h.cellRead.confirmFrom.at2 hx
  next hx => exact (h.cellRead.confirmFrom.at2 hx).bump

theorem Keeps.sendConfirm (h : Keeps W s₀ s) {e : EngineConf} : Keeps W s₀ (s.sendConfirm e) := h.updLdg

theorem Keeps.ringFault (h : Keeps W s₀ s) {r cause prod : Nat} : Keeps W s₀ (s.ringFault r cause prod) := h.notice

theorem Keeps.ringCloseIfDone (h : Keeps W s₀ s) {r : Nat} : Keeps W s₀ (s.ringCloseIfDone r) := by
  dsimp only [State.ringCloseIfDone]
  split
  · exact h
  · exact .ite h.updLdg.setFld.answer h

theorem Keeps.consumeRecord (h : Keeps anywhere s₀ s) {r : Nat} {poisoned : Bool} :
    Keeps anywhere s₀ (s.consumeRecord r poisoned) := by
  rw [State.consumeRecord]
  split
  next s1 e =>
  have h1 : Keeps anywhere s₀ s1 := h.unitLoad.at2222 e
  refine .ringCloseIfDone (.wr (.ite ?_ (.ite h1.raise.bump.bump h1.raise.bump.bump.ringFault)))
  split
  next hx => exact h1.hostConfirm.at2 hx
  next hx => exact (h1.hostConfirm.at2 hx).bump.bump

theorem Keeps.sweepCatch (h : Keeps W s₀ s) {n kind cls : Nat} : Keeps W s₀ (s.sweepCatch n kind cls) := h.notice

theorem Keeps.sweepWrap (h : Keeps W s₀ s) {n : Nat} : Keeps W s₀ (s.sweepWrap n) := .ite h.settleCell.dropCandidate.bump h

theorem Keeps.sweepWheel (h : Keeps W s₀ s) {n : Nat} : Keeps W s₀ (s.sweepWheel n) := .ite h.settleCell.dropCandidate.bump.updLdg h

theorem Keeps.sweepBit (h : Keeps W s₀ s) {n r : Nat} : Keeps W s₀ (s.sweepBit n r) := .ite h (.ite h h.putStaleBit.bump.updLdg)

theorem Keeps.sweepFile (h : Keeps W s₀ s) {n : Nat} : Keeps W s₀ (s.sweepFile n) := .ite h.fileCell h

theorem Keeps.sweepCell (h : Keeps anywhere s₀ s) {n : Nat} {poisoned : Bool} : Keeps anywhere s₀ (s.sweepCell n poisoned) :=
  .ite h.cellRead (.sweepFile (.sweepBit (.sweepBit (.sweepBit (.sweepBit (.ite h.cellRead h.cellRead.sweepWrap.sweepWheel))))))

theorem Keeps.lapClass (h : Keeps W s₀ s) {det inst kind : Nat} {caught : Option Nat} : Keeps W s₀ (s.lapClass det inst kind caught) := by
  dsimp only [State.lapClass]
  split
  · exact .ite h.injTake.detFail.sweepCatch h.injTake.detFail
  · exact .ite h.detPass.sweepCatch h.detPass

theorem Keeps.allocCell (h : Keeps anywhere s₀ s) {n kind part limit cls : Nat} {latch : Bool} {mask : Nat} :
    Keeps anywhere s₀ (s.allocCell n kind part limit cls latch mask) := h.onCell fun _ ht => ht.settleCell

theorem Keeps.allocCells (h : Keeps anywhere s₀ s) {first count kind part limit cls : Nat} {latch : Bool} {mask : Nat} :
    Keeps anywhere s₀ (s.allocCells first count kind part limit cls latch mask) := h.foldl fun _ _ ht => ht.allocCell

theorem Keeps.freeCell (h : Keeps anywhere s₀ s) {n : Nat} : Keeps anywhere s₀ (s.freeCell n) :=
  h.onCell fun _ ht => ht.settleCell.dropCandidate.updLdg

theorem Keeps.freeCells (h : Keeps anywhere s₀ s) {first count : Nat} : Keeps anywhere s₀ (s.freeCells first count) :=
  h.foldl fun _ _ ht => ht.freeCell

/-! #### Sys2Proof/Machine/Scan.lean -/

theorem Keeps.setOut (h : Keeps W s₀ s) {n : Nat} {o : OutSt} : Keeps W s₀ (s.setOut n o) := h.updOuts

theorem Keeps.setGate (h : Keeps W s₀ s) {n : Nat} {g : GateOut} : Keeps W s₀ (s.setGate n g) := h.updGate

theorem Keeps.setCmt (h : Keeps W s₀ s) {n : Nat} {c : CommitSt} : Keeps W s₀ (s.setCmt n c) := h.updCommits

theorem Keeps.setLook (h : Keeps W s₀ s) {n : Nat} {l : LookOut} : Keeps W s₀ (s.setLook n l) := h.updLko

theorem Keeps.setOutState (h : Keeps W s₀ s) {n v : Nat} : Keeps W s₀ (s.setOutState n v) := h.setFld.setFld

theorem Keeps.setStandPhase (h : Keeps W s₀ s) {k phase : Nat} : Keeps W s₀ (s.setStandPhase k phase) :=
  h.updStands.foldl fun _ _ ht => ht.wr

theorem Keeps.schedule (h : Keeps W s₀ s) {n cause : Nat} : Keeps W s₀ (s.schedule n cause) := h.setOut

theorem Keeps.scheduleFirst (h : Keeps W s₀ s) {n : Nat} : Keeps W s₀ (s.scheduleFirst n) := h.setOut

theorem Keeps.rephaseOutput (h : Keeps W s₀ s) {n cause : Nat} {delta : Int} : Keeps W s₀ (s.rephaseOutput n cause delta) :=
  .ite h (.ite h.setOut.scheduleFirst (.ite (.ite h.setOut h.setOut.schedule) h))

theorem Keeps.rephaseAll (h : Keeps W s₀ s) {cause : Nat} {delta : Int} : Keeps W s₀ (s.rephaseAll cause delta) :=
  h.foldl fun _ _ ht => ht.rephaseOutput

theorem Keeps.tolChanged (h : Keeps W s₀ s) : Keeps W s₀ s.tolChanged :=
  .ite (.showDown (.updHbm (.ite h.setFld.updHbm.showDown h.setFld))) (.ite h.setFld.updHbm.showDown h.setFld)

theorem Keeps.setTol (h : Keeps W s₀ s) {n v : Nat} : Keeps W s₀ (s.setTol n v) := h.setFld.tolChanged

theorem Keeps.putFstart (h : Keeps W s₀ s) {n : Nat} {t : Int} : Keeps W s₀ (s.putFstart n t) := h.wr.wr.setFld

theorem Keeps.outNotice (h : Keeps W s₀ s) {n flags f : Nat} : Keeps W s₀ (s.outNotice n flags f) := h.notice

/-! #### Sys2Proof/Machine/Gate.lean -/

theorem Keeps.spanSet (h : Keeps anywhere s₀ s) {n k count : Nat} : Keeps anywhere s₀ (s.spanSet n k count).2 := h.fwRead

theorem Keeps.writeSpans (h : Keeps anywhere s₀ s) {n k : Nat} {l : List SpanEnt} : Keeps anywhere s₀ (s.writeSpans n k l) := h.fwWrite

theorem Keeps.fetchSpan (h : Keeps anywhere s₀ s) {n i : Nat} : Keeps anywhere s₀ (s.fetchSpan n i).2 := by
  rw [State.fetchSpan]
  split
  next e => exact h.fillLoad.at2222 e

theorem Keeps.loadFrom (h : Keeps anywhere s₀ s) {n y i k : Nat} : Keeps anywhere s₀ (s.loadFrom n y i k).2 := by
  induction k generalizing s i with
  | zero => exact h
  | succ k ih =>
    rw [State.loadFrom]
    split
    next e =>
      have h1 := h.fetchSpan.at2 e
      refine .ite2 h1 ?_
      split
      next e2 => exact (ih h1).at2 e2

theorem Keeps.loadLine (h : Keeps anywhere s₀ s) {n y : Nat} : Keeps anywhere s₀ (s.loadLine n y) := by
  rw [State.loadLine]
  split
  next e =>
    have h1 := h.loadFrom.at2 e
    refine .ite ?_ h1.setGate
    split
    next e2 =>
      refine .setGate (Keeps.at2 (h1.setGate.foldl2' fun p i ht q e3 => ?_) e2)
      split at e3
      next e4 => cases e3; exact ht.fetchSpan.at2 e4

theorem Keeps.gateFault (h : Keeps W s₀ s) {n bit : Nat} : Keeps W s₀ (s.gateFault n bit) :=
  .via (.ite h.raise h.raise.notice) fun h1 =>
  .ite h1 (.ite (.ite h1.setGate.setRun.logFault h1.setGate) h1.setGate.setRun)

/-! #### Sys2Proof/Machine/Lookout.lean -/

theorem Keeps.putTx (h : Keeps W s₀ s) {n v : Nat} : Keeps W s₀ (s.putTx n v) := h.setFld.setFld

theorem Keeps.settleTx (h : Keeps W s₀ s) {n : Nat} : Keeps W s₀ (s.settleTx n) := .ite h.putTx h

theorem Keeps.setRegion (h : Keeps W s₀ s) {r : Nat} {x : RegionSt} : Keeps W s₀ (s.setRegion r x) := h.updRegions

theorem Keeps.rgSet (h : Keeps W s₀ s) {r hi lo v : Nat} : Keeps W s₀ (s.rgSet r hi lo v) := h.wr

theorem Keeps.regionGone (h : Keeps W s₀ s) {r cause : Nat} : Keeps W s₀ (s.regionGone r cause) := h.notice

theorem Keeps.tornFollow (h : Keeps W s₀ s) {n k : Nat} : Keeps W s₀ (s.tornFollow n k) := h.setFld

theorem Keeps.setLayer (h : Keeps W s₀ s) {n k : Nat} {l : LayerSt} : Keeps W s₀ (s.setLayer n k l) := h.setCmt

theorem Keeps.freezeFollow (h : Keeps W s₀ s) {n k : Nat} : Keeps W s₀ (s.freezeFollow n k) := h.setLayer.tornFollow

theorem Keeps.dropRun (h : Keeps W s₀ s) {r : Nat} : Keeps W s₀ (s.dropRun r) := h.foldl fun _ _ ht => .ite ht.setLook ht

theorem Keeps.clearRegion (h : Keeps W s₀ s) {r : Nat} : Keeps W s₀ (s.clearRegion r) :=
  .freezeFollow (.setRun (.rgSet (.ite h.dropRun.setRegion.rgSet.rgSet h.dropRun.setRegion.rgSet)))

theorem Keeps.forceStale (h : Keeps anywhere s₀ s) {r n : Nat} : Keeps anywhere s₀ (s.forceStale r n) :=
  .ite h (h.onCell fun _ ht => ht.settleCell.setRegion)

theorem Keeps.releaseForced (h : Keeps anywhere s₀ s) {r : Nat} : Keeps anywhere s₀ (s.releaseForced r) := by
  dsimp only [State.releaseForced]
  split
  · exact h
  · exact (h.setRegion.onCell fun _ ht => .ite ht ht.settleCell.fileCell)

theorem Keeps.frozenNotice (h : Keeps W s₀ s) {r f action : Nat} {pipe cleared : Bool} :
    Keeps W s₀ (s.frozenNotice r f action pipe cleared) := h.notice

theorem Keeps.thaw (h : Keeps W s₀ s) {r f : Nat} : Keeps W s₀ (s.thaw r f) :=
  .ite h h.rgSet.rgSet.rgSet.setRegion.freezeFollow.frozenNotice

theorem Keeps.freeze (h : Keeps anywhere s₀ s) {r f : Nat} {pipe : Bool} : Keeps anywhere s₀ (s.freeze r f pipe) :=
  .frozenNotice (.ite h.rgSet.rgSet.bump.rgSet.freezeFollow.logFault (.ite h.rgSet.rgSet.bump.forceStale h.rgSet.rgSet.bump))

theorem Keeps.readEntry (h : Keeps W s₀ s) {m : Mode} {r ecc : Nat} : Keeps W s₀ (s.readEntry m r ecc).2 := by
  rw [State.readEntry]
  split
  next e =>
    have h1 := h.injTake.at2 e
    refine .ite2 h1.detPass (.ite2 h1.bump.detPass ?_)
    split
    next e2 =>
      have h2 := h1.bump.detFail.at2 e2
      exact .ite h2.wr.clearRegion.regionGone h2

theorem Keeps.latchRegions (h : Keeps W s₀ s) {n : Nat} {ecc : List (Nat × Nat)} : Keeps W s₀ (s.latchRegions n ecc) := by
  dsimp only [State.latchRegions]
  refine .setLook (.foldl2 h fun _ _ ht => ?_)
  split
  next hx => exact ht.readEntry.at2 hx
  next hx => exact ht.readEntry.at2 hx

theorem Keeps.lookLine (h : Keeps W s₀ s) {n y : Nat} {a b : List Nat} {t : List Bool} : Keeps W s₀ (s.lookLine n y a b t) :=
  .ite h.setLook h.setLook.raise

theorem Keeps.rgVerdict (h : Keeps W s₀ s) {r verdict run : Nat} : Keeps W s₀ (s.rgVerdict r verdict run) := h.rgSet.rgSet

theorem Keeps.rgPost (h : Keeps W s₀ s) {r verdict run f : Nat} : Keeps W s₀ (s.rgPost r verdict run f) := h.rgVerdict.rgSet

theorem Keeps.inconsNotice (h : Keeps W s₀ s) {r n f src cls : Nat} {dests : List Nat} :
    Keeps W s₀ (s.inconsNotice r n f src cls dests) := h.notice

theorem Keeps.inconsistent (h : Keeps W s₀ s) {n r f src : Nat} {bad injected : Bool} :
    Keeps W s₀ (s.inconsistent n r f src bad injected) := .ite (.ite h.inconsNotice h) (.ite (.ite h.detFail.inconsNotice h.detFail)
    (.ite h.detPass.inconsNotice h.detPass))

theorem Keeps.mustChange (h : Keeps anywhere s₀ s) {n f : Nat} {r : RegionRun} {changed pAdv cAdv injected : Bool} :
    Keeps anywhere s₀ (s.mustChange n f r changed pAdv cAdv injected) :=
  .ite h.rgPost.setRegion.inconsistent (.ite h.rgPost.setRegion.bump.inconsistent
    (.ite h.rgPost.setRegion.inconsistent.freeze h.rgPost.setRegion.inconsistent))

theorem Keeps.compareRef (h : Keeps anywhere s₀ s) {n f : Nat} {r : RegionRun} {sig ref : Nat} {hold : Bool} :
    Keeps anywhere s₀ (s.compareRef n f r sig ref hold) := .ite h.rgPost.rgSet (.ite (.ite h.rgPost.rgSet.bump.notice.forceStale
    h.rgPost.rgSet.bump.notice) h.rgPost)

theorem Keeps.verdictOf (h : Keeps anywhere s₀ s) {n f : Nat} {r : RegionRun} {sig : Nat} {changed pAdv cAdv injected : Bool} :
    Keeps anywhere s₀ (s.verdictOf n f r sig changed pAdv cAdv injected) := .ite h.rgPost (.ite h.rgPost (.ite h.mustChange (.ite (.ite
    h.wr.wr.wr.rgPost h.compareRef) (.ite h.rgPost h.compareRef))))

theorem Keeps.judge (h : Keeps anywhere s₀ s) {n f : Nat} {r : RegionRun} : Keeps anywhere s₀ (s.judge n f r) :=
  .via (.rgVerdict (.ite2 h.injTake h)) fun h1 =>
  .via (.setRegion (.ite2 h.injTake h)) fun h2 =>
  .ite h.rgVerdict (.ite (.thaw (.ite h1.setRegion (.ite h2.rgVerdict h2.wr.verdictOf))) (.ite h1.setRegion (.ite h2.rgVerdict
    h2.wr.verdictOf)))

theorem Keeps.selfNotice (h : Keeps W s₀ s) {n f region cls : Nat} : Keeps W s₀ (s.selfNotice n f region cls) := h.notice

theorem Keeps.selfClass (h : Keeps W s₀ s) {n f r : Nat} {differs injected : Bool} : Keeps W s₀ (s.selfClass n f r differs injected).2 :=
  .ite2 (.ite2 h.setRun (.ite2 h.setRun.logFault.selfNotice h)) (.ite h.setRun.logFault.selfNotice h.setRun)

theorem Keeps.selfCheck (h : Keeps W s₀ s) {n f : Nat} : Keeps W s₀ (s.selfCheck n f).2.2 :=
  .foldl2 (.ite (.bump (.ite2 h h.injTake)) (.ite2 h h.injTake)) fun _ _ ht => ht.selfClass

theorem Keeps.returnNotice (h : Keeps W s₀ s) {n tag bad cls : Nat} {missing : Bool} :
    Keeps W s₀ (s.returnNotice n tag bad cls missing) := .ite h.notice h.notice

theorem Keeps.returnRunEnd (h : Keeps W s₀ s) {n : Nat} {missing : Bool} : Keeps W s₀ (s.returnRunEnd n missing) :=
  .ite h.setRun.logFault.returnNotice h.setRun

theorem Keeps.returnClass (h : Keeps W s₀ s) {n : Nat} {e : SentFrame} : Keeps W s₀ (s.returnClass n e).2 :=
  .ite2 h (.ite2 h.returnRunEnd.returnRunEnd (.ite2 h.returnRunEnd.setRun (.ite2 h.returnRunEnd.setRun.logFault.raise.returnNotice
  h.returnRunEnd)))

theorem Keeps.classReturns (h : Keeps W s₀ s) {n : Nat} : Keeps W s₀ (s.classReturns n).2 := h.setLook.foldl2 fun _ _ ht => ht.returnClass

theorem Keeps.showResult (h : Keeps W s₀ s) {n tag result : Nat} : Keeps W s₀ (s.showResult n tag result) :=
  .ite h.setFld.setFld.setFld.bump (.ite h.setFld.setFld.setFld.bump.raise (.ite h.setFld.setFld.setFld.bump.raise
  h.setFld.setFld.setFld))

theorem Keeps.returnResult (h : Keeps W s₀ s) {n f result bad : Nat} {injected : Bool} :
    Keeps W s₀ (s.returnResult n f result bad injected).2 := h.setLook.showResult.classReturns

/-! #### Sys2Proof/Machine/Pictures.lean -/

theorem Keeps.setPool (h : Keeps W s₀ s) {source id : Nat} {p : PicPool} : Keeps W s₀ (s.setPool source id p) := h.updPools

theorem Keeps.holdPic (h : Keeps W s₀ s) {source id i key : Nat} : Keeps W s₀ (s.holdPic source id i key) := h.setPool

theorem Keeps.dropPic (h : Keeps W s₀ s) {source id i key : Nat} : Keeps W s₀ (s.dropPic source id i key) := h.setPool

/-! #### Sys2Proof/Machine/Layers.lean -/

theorem Keeps.armWindow (h : Keeps W s₀ s) {n k plane base size : Nat} : Keeps W s₀ (s.armWindow n k plane base size) :=
  h.wr.wr.wr.setFld.setFld.setFld.setFld.setFld

theorem Keeps.disarmLayer (h : Keeps W s₀ s) {n k : Nat} : Keeps W s₀ (s.disarmLayer n k) := h.foldl fun _ _ ht => ht.setFld

theorem Keeps.armLayer (h : Keeps W s₀ s) {n k : Nat} {p : Pic} : Keeps W s₀ (s.armLayer n k p) := h.foldl fun _ _ ht => ht.armWindow

theorem Keeps.buildStage (h : Keeps anywhere s₀ s) {n : Nat} {slots : List StageSlot} : Keeps anywhere s₀ (s.buildStage n slots) :=
  h.writeSpans.wr.setCmt.setGate.setFld.setFld

theorem Keeps.restageOutput (h : Keeps anywhere s₀ s) {n : Nat} {hit : Nat → Bool} {keep : Bool} :
    Keeps anywhere s₀ (s.restageOutput n hit keep) := .ite h.spanSet.spanSet.setGate h.spanSet.spanSet.setGate.setCmt

theorem Keeps.restageFreed (h : Keeps anywhere s₀ s) {first count : Nat} : Keeps anywhere s₀ (s.restageFreed first count) :=
  h.foldl fun _ _ ht => ht.restageOutput

theorem Keeps.restageStands (h : Keeps anywhere s₀ s) {first count lost : Nat} : Keeps anywhere s₀ (s.restageStands first count lost) :=
  h.foldl fun _ _ ht => .ite ht.restageOutput ht

theorem Keeps.applyRestage (h : Keeps anywhere s₀ s) {n : Nat} : Keeps anywhere s₀ (s.applyRestage n) := by
  rw [State.applyRestage]
  refine h.setGate.foldl fun t x ht => ?_
  extract_lets a
  split
  next e => exact (ht.fwRead.at2 e).fwWrite

theorem Keeps.cringFault (h : Keeps W s₀ s) {n cause prod : Nat} : Keeps W s₀ (s.cringFault n cause prod) := h.notice

theorem Keeps.cringDenied (h : Keeps W s₀ s) {n : Nat} : Keeps W s₀ (s.cringDenied n) := .ite h.raise h.raise.cringFault

theorem Keeps.readDesc (h : Keeps anywhere s₀ s) {n i : Nat} : Keeps anywhere s₀ (s.readDesc n i).2 := by
  rw [State.readDesc]
  split
  next e =>
    have h1 := h.unitLoad.at2222 e
    exact .ite h1 h1.cringDenied

theorem Keeps.readFences (h : Keeps anywhere s₀ s) {n : Nat} {l : List Fence} : Keeps anywhere s₀ (s.readFences n l).2 := by
  rw [State.readFences]
  refine h.foldl2' fun p x ht q e => ?_
  split at e
  next e1 =>
    have h1 := ht.unitLoad.at2222 e1
    rw [← e]
    exact .ite2 (.ite h1 h1.cringDenied) (.ite h1 h1.cringDenied)

theorem Keeps.joinGroup (h : Keeps W s₀ s) {n i : Nat} {d : Desc} : Keeps W s₀ (s.joinGroup n i d) := .ite h.updGroups h.updGroups

theorem Keeps.groupBell (h : Keeps anywhere s₀ s) {n old : Nat} : Keeps anywhere s₀ (s.groupBell n old) := by
  rw [State.groupBell]
  refine h.foldl fun t x ht => ?_
  split
  next e =>
    have h1 := ht.readDesc.at2 e
    exact .ite h1.setCmt.joinGroup h1.setCmt

theorem Keeps.dropDescs (h : Keeps W s₀ s) {n : Nat} : Keeps W s₀ (s.dropDescs n) := h.setCmt

theorem Keeps.putGroup (h : Keeps W s₀ s) {g : Group} : Keeps W s₀ (s.putGroup g) := h.updGroups

theorem Keeps.seeBells (h : Keeps W s₀ s) {n f : Nat} : Keeps W s₀ (s.seeBells n f) := h.setCmt

theorem Keeps.decideGroup (h : Keeps anywhere s₀ s) {g : Group} {t f : Nat} : Keeps anywhere s₀ (s.decideGroup g t f) := by
  rw [State.decideGroup]
  split
  next e =>
    have h1 := Keeps.at2 (h.foldl2 fun p x ht => by split; next e2 => exact ht.readFences.at2 e2) e
    exact .ite h1.putGroup (.ite h1.putGroup h1.putGroup)

theorem Keeps.decideGroups (h : Keeps anywhere s₀ s) {n f : Nat} : Keeps anywhere s₀ (s.decideGroups n f) :=
  .foldl h fun _ _ ht => by split; exacts [ht, .ite ht ht.decideGroup]

theorem Keeps.groupVerdict (h : Keeps W s₀ s) {n f i : Nat} : Keeps W s₀ (s.groupVerdict n f i).2 := by
  dsimp only [State.groupVerdict]
  split
  · exact h
  · exact .ite2 h (.ite2 (.ite2 h.putGroup h) (.ite2 h h))

theorem Keeps.groupDone (h : Keeps W s₀ s) {n i : Nat} : Keeps W s₀ (s.groupDone n i) := h.updGroups

theorem Keeps.groupsCancel (h : Keeps W s₀ s) {n : Nat} : Keeps W s₀ (s.groupsCancel n) := h.updGroups

theorem Keeps.decideFrom (h : Keeps anywhere s₀ s) {n f room k : Nat} {staged : Bool} {l : List Nat} :
    Keeps anywhere s₀ (s.decideFrom n f staged room k l).2.2.2 := by
  induction k generalizing s staged room l with
  | zero => exact h
  | succ k ih =>
    cases l with
    | nil => exact h
    | cons i rest =>
      dsimp only [State.decideFrom]
      refine .ite222 h (.ite222 h ?_)
      split
      · exact ih h.setCmt
      · split
        · split
          next hx => exact ih (h.groupVerdict.at2 hx).setCmt
          next hx => exact ih (h.groupVerdict.at2 hx).setCmt
          next hx => exact (h.groupVerdict.at2 hx).setCmt.bump
        · exact .ite222 (ih h.readFences.setCmt) (.ite222 (ih h.readFences.setCmt)
            (.ite222 (ih h.readFences.setCmt) h.readFences.setCmt.bump))

theorem Keeps.releaseNotice (h : Keeps W s₀ s) {n k id gen lastF : Nat} {notShown : Bool} :
    Keeps W s₀ (s.releaseNotice n k id gen lastF notShown) := h.notice

theorem Keeps.flipNotice (h : Keeps W s₀ s) {n f : Nat} {d : Decision} : Keeps W s₀ (s.flipNotice n f d) := h.notice

theorem Keeps.giveUp (h : Keeps W s₀ s) {n k f : Nat} : Keeps W s₀ (s.giveUp n k f) := by
  dsimp only [State.giveUp]
  split
  · exact h
  · exact .ite h.disarmLayer.setLayer.releaseNotice h.disarmLayer.setLayer.dropPic

theorem Keeps.noteFlip (h : Keeps W s₀ s) {n k : Nat} : Keeps W s₀ (s.noteFlip n k) := h.setLook

theorem Keeps.showStream (h : Keeps W s₀ s) {n k : Nat} {p : Pic} : Keeps W s₀ (s.showStream n k p) := h.setFld.setFld.setFld

theorem Keeps.takePic (h : Keeps W s₀ s) {n k id : Nat} {p : Pic} : Keeps W s₀ (s.takePic n k id p) :=
  .noteFlip (.ite h.armLayer.setLayer.setFld.setFld h.armLayer.setLayer.setFld.setFld.showStream.holdPic)

theorem Keeps.putBuffer (h : Keeps W s₀ s) {n k f id gen : Nat} : Keeps W s₀ (s.putBuffer n k f id gen) :=
  .ite h.noteFlip h.giveUp.takePic

theorem Keeps.writeSlot (h : Keeps W s₀ s) {n k : Nat} {q : StageSlot} : Keeps W s₀ (s.writeSlot n k q) :=
  h.setFld.setFld.setFld.setFld.setFld.setFld.setFld.setFld.setFld.setFld.setFld.setFld.setFld.wr.wr.wr.wr.wr.wr.wr.setFld.setLayer

theorem Keeps.dropRegions (h : Keeps W s₀ s) {n k : Nat} : Keeps W s₀ (s.dropRegions n k) :=
  h.foldl fun _ _ ht => ht.wr.clearRegion.regionGone

theorem Keeps.applySlot (h : Keeps W s₀ s) {n k f : Nat} {q : StageSlot} {take : Option (Nat × Nat)} :
    Keeps W s₀ (s.applySlot n k f q take) := by
  unfold State.applySlot
  extract_lets old keep s1 s2 s3
  have h2 : Keeps W s₀ s2 := .writeSlot (.ite h h.giveUp)
  have h3 : Keeps W s₀ s3 := by
    unfold s3
    split
    · exact .ite h2 h2.showStream
    · exact h2
  exact .ite h3.dropRegions h3

theorem Keeps.stageTol (h : Keeps W s₀ s) {n tol : Nat} : Keeps W s₀ (s.stageTol n tol) := .ite h.setOut.setTol h.setOut

theorem Keeps.swapSpans (h : Keeps W s₀ s) {n : Nat} : Keeps W s₀ (s.swapSpans n) := h.setFld.setFld.setFld

theorem Keeps.applyStage (h : Keeps W s₀ s) {n f : Nat} {plan : List (Option (Nat × Nat))} : Keeps W s₀ (s.applyStage n f plan) := by
  dsimp only [State.applyStage]
  split
  · exact h
  · exact .setLook (.stageTol (.ite (h.foldl fun _ _ ht => ht.applySlot) (h.foldl fun _ _ ht => ht.applySlot).setCmt.swapSpans))

theorem Keeps.refsOnCommit (h : Keeps W s₀ s) {n f : Nat} : Keeps W s₀ (s.refsOnCommit n f) :=
  .foldl h fun _ _ ht => by split; exacts [ht, ht.setRegion.wr.wr]

theorem Keeps.performCommits (h : Keeps W s₀ s) {n f : Nat} {ds : List Decision} {lp : LatchPlan} :
    Keeps W s₀ (s.performCommits n f ds lp) := by
  unfold State.performCommits
  extract_lets nf cons done plan s1 s2 hidden s3 c s4 s5
  have h1 : Keeps W s₀ s1 := .ite h.applyStage h
  have h2 : Keeps W s₀ s2 := by
    refine h1.foldl fun _ _ ht => ?_
    split
    · exact ht
    · exact ht.putBuffer
  have h3 : Keeps W s₀ s3 := h2.foldl fun _ _ ht => ht.releaseNotice
  have h5 : Keeps W s₀ s5 := .ite h3.wr.bump.bump h3.wr.bump.bump.wr.refsOnCommit
  exact h5.setCmt.dropDescs.foldl fun _ _ ht => ht.groupDone.flipNotice

theorem Keeps.takeNewest (h : Keeps W s₀ s) {n f : Nat} : Keeps W s₀ (s.takeNewest n f) := by
  refine .foldl h fun t k ht => .ite ht (.ite ht (.ite ht ?_))
  split
  next e =>
    have h1 := ht.injTake.at2 e
    refine .ite h1 ?_
    split
    · exact h1
    · exact .ite h1 h1.giveUp.takePic

theorem Keeps.ladderLatch (h : Keeps anywhere s₀ s) {n : Nat} : Keeps anywhere s₀ (s.ladderLatch n) := by
  unfold State.ladderLatch
  extract_lets std fresh
  split
  next e =>
    have h1 := Keeps.at2 (h.foldl2 fun p k ht => .ite2 ht.setFld.setLayer.setFld ht.setFld) e
    exact .ite h1 h1.writeSpans.setFld.setLook

/-! #### Sys2Proof/Machine/Frames.lean -/

theorem Keeps.layerReader (h : Keeps anywhere s₀ s) {n k y : Nat} {slots : List StageSlot} :
    Keeps anywhere s₀ (s.layerReader n k y slots).2.2 := by
  unfold State.layerReader
  extract_lets q above lim
  split
  · exact h
  · refine .ite22 h ?_
    split
    next e =>
      have h1 := Keeps.at2 (.ite2 (by split; next e2 => exact (h.fillLoad.at2222 e2).setLayer) h) e
      extract_lets pieces
      split
      next e3 =>
        refine Keeps.at22 (h1.foldl22 fun p r ht => ?_) e3
        split
        next e4 => exact ht.fillLoad.at2222 e4

theorem Keeps.tornNotice (h : Keeps W s₀ s) {n k cls : Nat} : Keeps W s₀ (s.tornNotice n k cls) := h.notice

theorem Keeps.torn (h : Keeps W s₀ s) {n k f check line : Nat} {injected : Bool} : Keeps W s₀ (s.torn n k f check line injected) :=
  .ite h (.ite h.setLayer.tornFollow.raise.bump.detFail.tornNotice h.setLayer.tornFollow.raise.bump.detFail)

theorem Keeps.startChecks (h : Keeps W s₀ s) {n : Nat} : Keeps W s₀ (s.startChecks n) := h.foldl fun _ _ ht => .ite ht.torn ht

theorem Keeps.endChecks (h : Keeps W s₀ s) {n : Nat} : Keeps W s₀ (s.endChecks n) := by
  refine h.foldl fun t k ht => ?_
  split
  next e =>
    have h0 := ht.injTake.at2 e
    extract_lets t1 l
    have h1 : Keeps W s₀ t1 := .ite h0.torn h0
    refine .ite h1.setLayer ?_
    split
    next e2 =>
      have h2 := h1.detPass.at2 e2
      exact .tornFollow (.setLayer (.ite h2.tornNotice h2))

theorem Keeps.latchFrame (h : Keeps W s₀ s) {n : Nat} : Keeps W s₀ (s.latchFrame n) := h.setGate

theorem Keeps.spanInjection (h : Keeps W s₀ s) {n y : Nat} : Keeps W s₀ (s.spanInjection n y).2 := .ite2 h.injTake h

theorem Keeps.sampleSpans (h : Keeps anywhere s₀ s) {n y : Nat} {late : Bool} : Keeps anywhere s₀ (s.sampleSpans n y late) :=
  .via h.loadLine.spanInjection.setGate fun h1 =>
  .via (.gateFault (.ite h1.bump h1)) fun h2 =>
  .via (.ite h2 (.ite h1.bump h1)) fun h3 =>
  .via (.gateFault (.ite h3.gateFault h3)) fun h4 =>
  .via (.ite h4 (.ite h3.gateFault h3)) fun h5 =>
  .ite (.gateFault (.ite h5.gateFault h5)) (.ite h5.gateFault h5)

theorem Keeps.samplePoint (h : Keeps anywhere s₀ s) {n y : Nat} {late : Bool} {ecc : List (Nat × Nat)} :
    Keeps anywhere s₀ (s.samplePoint n y late ecc) := .ite h (.setOut (.sampleSpans (.ite h.startChecks.latchFrame.latchRegions h)))

theorem Keeps.composeLine (h : Keeps anywhere s₀ s) {n y : Nat} {gaps : List (Nat × Nat)} :
    Keeps anywhere s₀ (s.composeLine n y gaps).2.2.2 := by
  unfold State.composeLine
  extract_lets m o
  split
  next e =>
    have h0 := Keeps.at2 (.ite2 h.injTake h) e
    extract_lets noFill slots
    split
    next e2 =>
      have h1 := Keeps.at22 (h0.foldl22 fun p k ht => by split; next e3 => exact ht.layerReader.at22 e3) e2
      exact .setOut (.ite h1.nextFree h1)

theorem Keeps.lineStart (h : Keeps anywhere s₀ s) {n y : Nat} {gaps : List (Nat × Nat)} {poison : List Nat} {pool : Nat} :
    Keeps anywhere s₀ (s.lineStart n y gaps poison pool).2 := by
  unfold State.lineStart
  refine .ite2 h ?_
  extract_lets m f
  split
  next e =>
    have h1 := h.composeLine.at222 e
    extract_lets g px out painted omits deepRuns s2 s3 s4 s5 l s6 o s7 s8 s9
    have h4 : Keeps anywhere s₀ s4 := .ite h1.setGate.bump.bump h1.setGate.bump.bump.gateFault
    have h6 : Keeps anywhere s₀ s6 := .ite h4.lookLine.bump.setLook h4.lookLine
    exact h6.setOut.setFld.foldl fun t k ht => .ite ht.torn ht

theorem Keeps.underrunNotice (h : Keeps W s₀ s) {n cls lines f : Nat} : Keeps W s₀ (s.underrunNotice n cls lines f) := h.notice

theorem Keeps.judgeUnderrun (h : Keeps W s₀ s) {n : Nat} : Keeps W s₀ (s.judgeUnderrun n).2 :=
  .ite2 (.ite2 h.raise.bump.detFail.raise.underrunNotice h.raise.bump.detFail) (.ite h.detPass.underrunNotice h.detPass)

theorem Keeps.fetchFigures (h : Keeps W s₀ s) {n : Nat} : Keeps W s₀ (s.fetchFigures n) := h.foldl fun _ _ ht => ht.setFld

theorem Keeps.frameEndOps (h : Keeps W s₀ s) {n : Nat} : Keeps W s₀ (s.frameEndOps n).2 :=
  h.endChecks.judgeUnderrun.fetchFigures.setFld.wr.wr.setOut

theorem Keeps.postSigs (h : Keeps W s₀ s) {n f : Nat} : Keeps W s₀ (s.postSigs n f) := h.wr.wr.wr.foldl fun _ _ ht => ht.wr

theorem Keeps.pushSent (h : Keeps W s₀ s) {n f : Nat} {lost : Bool} : Keeps W s₀ (s.pushSent n f lost).2 :=
  .ite2 h.setLook.returnResult h.setLook

theorem Keeps.lookoutPost (h : Keeps anywhere s₀ s) {n : Nat} : Keeps anywhere s₀ (s.lookoutPost n).2.2.2 :=
  .via (.selfCheck (.ite (h.foldl fun _ _ ht => .ite ht.rgVerdict ht.judge).bump (h.foldl fun _ _ ht => .ite ht.rgVerdict ht.judge))) fun
    h1 =>
  .setOut (.setLook (.pushSent (.ite (.ite22 (.ite (h.foldl fun _ _ ht => .ite ht.rgVerdict ht.judge).bump (h.foldl fun _ _ ht => .ite
    ht.rgVerdict ht.judge)) h1) (.postSigs (.ite22 (.ite (h.foldl fun _ _ ht => .ite ht.rgVerdict ht.judge).bump (h.foldl fun _ _ ht =>
    .ite ht.rgVerdict ht.judge)) h1)))))

theorem Keeps.serviceChecks (h : Keeps W s₀ s) {n k : Nat} : Keeps W s₀ (s.serviceChecks n k) :=
  .via (.setFld (.ite h.setFld.raise h)) fun h1 =>
  .ite h.setFld (.ite (.raise (.setFld (.ite h1.raise (.ite h.setFld.raise h)))) (.setFld (.ite h1.raise (.ite h.setFld.raise h))))

theorem Keeps.readStamps (h : Keeps W s₀ s) {n : Nat} : Keeps W s₀ (s.readStamps n) := h.setLook

theorem Keeps.cringCloseIfDone (h : Keeps W s₀ s) {n : Nat} : Keeps W s₀ (s.cringCloseIfDone n) := by
  dsimp only [State.cringCloseIfDone]
  split
  · exact h
  · exact .ite h.setCmt.setFld.answer h

theorem Keeps.raiseTol (h : Keeps W s₀ s) {n : Nat} : Keeps W s₀ (s.raiseTol n) := by
  dsimp only [State.raiseTol]
  split
  · exact h
  · exact h.setOut.setTol

theorem Keeps.restoreSlot (h : Keeps W s₀ s) {n k : Nat} : Keeps W s₀ (s.restoreSlot n k) :=
  h.setFld.setFld.setFld.setFld.setFld.setFld.setFld.setFld.wr.wr.wr.wr

theorem Keeps.latchService (h : Keeps W s₀ s) {n : Nat} : Keeps W s₀ (s.latchService n) := by
  unfold State.latchService
  extract_lets c s1 u s2
  have h1 : Keeps W s₀ s1 := h.setCmt.foldl fun _ _ ht => ht.wr
  have hu : Keeps W s₀ u := h1.foldl fun _ _ ht => ht.restoreSlot
  have h2 : Keeps W s₀ s2 := by
    unfold s2
    split
    · exact h1
    · split
      · exact hu.wr
      · exact hu.wr
  exact h2.foldl fun _ _ ht => .ite ht.dropRegions ht

theorem Keeps.latchPrep (h : Keeps anywhere s₀ s) {n : Nat} : Keeps anywhere s₀ (s.latchPrep n) :=
  .applyRestage (.ite h.setLook.raiseTol.latchService.swapSpans h.setLook.raiseTol.latchService)

theorem Keeps.latchWith {n f deferred : Nat} {work : List (List Decision × LatchPlan)} {waiting : Bool} {take : State → State}
    (h : Keeps anywhere s₀ s) (ht : ∀ t, Keeps anywhere s₀ t → Keeps anywhere s₀ (take t)) :
    Keeps anywhere s₀ (s.latchWith n f work deferred waiting take) :=
  .cringCloseIfDone (.setOut (.readStamps (.setFld (.bump (.foldl (ht _ (h.foldl fun _ _ hp => hp.performCommits).ladderLatch)
    fun _ _ hp => hp.serviceChecks)))))

theorem Keeps.decideLatch (h : Keeps anywhere s₀ s) {n : Nat} : Keeps anywhere s₀ (s.decideLatch n).2.2.2 :=
  h.seeBells.decideGroups.decideFrom

theorem Keeps.applyOutSet (h : Keeps W s₀ s) {n : Nat} : Keeps W s₀ (s.applyOutSet n) :=
  .setOut (.ite (.setFld (.ite (.setFld (.ite h.setFld h)) (.ite h.setFld h))) (.ite (.setFld (.ite h.setFld h)) (.ite h.setFld h)))

theorem Keeps.rephaseNotice (h : Keeps W s₀ s) {n cause added : Nat} : Keeps W s₀ (s.rephaseNotice n cause added) := h.notice

theorem Keeps.missingReturn (h : Keeps W s₀ s) {n f : Nat} : Keeps W s₀ (s.missingReturn n f).2 := h.foldl2 fun _ _ ht => ht.returnResult

theorem Keeps.frameStartOps (h : Keeps W s₀ s) {n : Nat} : Keeps W s₀ (s.frameStartOps n).2 := by
  unfold State.frameStartOps
  extract_lets o first start f l s1 s2 o2 s3 s4 s5 s6 s7 tx s8
  have h3 : Keeps W s₀ s3 := h.setLook.setOut.wr.putFstart.applyOutSet.setOut
  have h4 : Keeps W s₀ s4 := .ite h3.setOutState h3
  have h5 : Keeps W s₀ s5 := by
    unfold s5
    split
    · exact h4
    · exact .ite h4 h4.raise.bump.rephaseNotice
  have h6 : Keeps W s₀ s6 := by
    unfold s6
    split
    · exact h5
    · exact h5.schedule
  have h7 : Keeps W s₀ s7 := .ite h6.outNotice h6
  exact .missingReturn (.ite h7.settleTx (.ite h7.putTx h7))

theorem Keeps.cancelCommits (h : Keeps W s₀ s) {n : Nat} : Keeps W s₀ (s.cancelCommits n) :=
  (h.foldl fun _ _ ht => (ht.foldl fun _ _ ht2 => ht2.releaseNotice)).wr.setCmt.groupsCancel.dropDescs.cringCloseIfDone

theorem Keeps.regionsNone (h : Keeps W s₀ s) {n : Nat} : Keeps W s₀ (s.regionsNone n) := h.foldl fun _ _ ht => ht.rgSet

theorem Keeps.outOff (h : Keeps W s₀ s) {n reset : Nat} : Keeps W s₀ (s.outOff n reset) :=
  .answer (.outNotice (.ite ((h.foldl fun _ _ ht => ht.giveUp).foldl fun _ _ ht =>
  ht.writeSlot.setLayer).setOutState.setTol.setCmt.setFld.wr.setFld.settleTx.setGate.setOut.setLook.regionsNone.raise.logFault ((h.foldl
  fun _ _ ht => ht.giveUp).foldl fun _ _ ht =>
  ht.writeSlot.setLayer).setOutState.setTol.setCmt.setFld.wr.setFld.settleTx.setGate.setOut.setLook.regionsNone))

/-! #### Sys2Proof/Machine/Views.lean -/

theorem Keeps.readReg (h : Keeps W s₀ s) {a : Nat} : Keeps W s₀ (s.readReg a) := by
  unfold State.readReg
  refine .ite h.updReadData ?_
  extract_lets v s0 s1
  have h0 : Keeps W s₀ s0 := by
    unfold s0
    split
    · exact .ite h.putTxStamp h
    · exact h
  have h1 : Keeps W s₀ s1 := ⟨h0.pending, h0.tick, h0.memOk, h0.memByte⟩
  exact h1.updShadows

/-! #### Sys2Proof/Machine/Blaze.lean -/

theorem Keeps.setBlz (h : Keeps W s₀ s) {b : BlzSt} (hb : b.chip = s.blz.chip := by rfl) : Keeps W s₀ (s.setBlz b) := h.updBlz hb

theorem Keeps.snapBlock (h : Keeps anywhere s₀ s) {d : Nat} : Keeps anywhere s₀ (s.snapBlock d).2 := .ite2 (.ite2 h.unitLoad h.unitLoad) h

theorem Keeps.snapshot (h : Keeps anywhere s₀ s) {l : List Nat} : Keeps anywhere s₀ (s.snapshot l).2 := by
  induction l generalizing s with
  | nil => exact h
  | cons d l ih => exact ih h.snapBlock

theorem Keeps.blzFigures (h : Keeps W s₀ s) : Keeps W s₀ s.blzFigures := h.setFld.setFld.setFld

theorem Keeps.blzDropped (h : Keeps W s₀ s) {dropped overwritten : Nat} : Keeps W s₀ (s.blzDropped dropped overwritten) :=
  .via (.ite h h.setBlz.bump.raise) fun h1 =>
  .ite (.ite h1 h1.bump.raise) (.notice (.ite h1 h1.bump.raise))

theorem Keeps.blzAnswerMarks (h : Keeps W s₀ s) {e : BlzEntry} {seq : Option Nat} : Keeps W s₀ (s.blzAnswerMarks e seq) :=
  .ite h (.foldl h.setBlz fun _ _ ht => by split; exacts [ht.answer, ht.answer])

theorem Keeps.blzWrite (h : Keeps anywhere s₀ s) {e : BlzEntry} {bytes : List Byte} : Keeps anywhere s₀ (s.blzWrite e bytes) :=
  .ite h.blzDropped.blzAnswerMarks.blzFigures h.memWrite.setBlz.setFld.bumpWrap.bumpWrap.blzDropped.blzAnswerMarks.blzFigures

theorem Keeps.blzCompose (h : Keeps anywhere s₀ s) : Keeps anywhere s₀ s.blzCompose := by
  dsimp only [State.blzCompose]
  split
  · exact h
  · exact h.setBlz.snapshot.blzWrite

theorem Keeps.blzUncommit (h : Keeps W s₀ s) {l : List BlzRecord} : Keeps W s₀ (s.blzUncommit l) :=
  h.updChip fun hc => List.foldlRecOn (motive := fun c => Memory.wf 0 c = true) l _ hc fun _ hp _ _ => sparsePut_wf _ _ hp

theorem Keeps.blzPersist (h : Keeps W s₀ s) {r : BlzRecord} : Keeps W s₀ (s.blzPersist r) := by
  unfold State.blzPersist
  extract_lets high head old
  split
  extract_lets p gone s1 kept chip b0 b1
  have h1 : Keeps W s₀ s1 := h.blzUncommit
  have hb : Memory.wf 0 s1.blz.chip = true → Memory.wf 0 b1.chip = true := fun hc => sparsePutRange_wf _ _ hc
  exact .wr (h1.updChip hb)

theorem Keeps.blzFlushAll (h : Keeps W s₀ s) : Keeps W s₀ s.blzFlushAll :=
  .foldl (.ite (h.foldl fun _ _ ht => ht.blzPersist).setBlz.setFld.blzFigures.setFld (h.foldl fun _ _ ht =>
  ht.blzPersist).setBlz.setFld.blzFigures) fun _ _ ht => ht.answer

theorem Keeps.blzStart (h : Keeps W s₀ s) : Keeps W s₀ s.blzStart := .ite h.setFld h

theorem Keeps.blzOrder (h : Keeps W s₀ s) : Keeps W s₀ s.blzOrder := h.setBlz.blzStart

theorem Keeps.blzPowerFail (h : Keeps W s₀ s) : Keeps W s₀ s.blzPowerFail :=
  .blzOrder (.blzFigures (.setFld (.setBlz (.foldl (.ite h.setBlz h.setBlz.blzDropped) fun _ _ ht => ht.blzAnswerMarks))))

theorem Keeps.blzJudge (h : Keeps W s₀ s) {bytes : List Byte} {seq source : Nat} : Keeps W s₀ (s.blzJudge bytes seq source).2 := by
  rw [State.blzJudge]
  split
  next e =>
    have h1 := h.injTake.at2 e
    exact .ite2 h1.logFault (.ite2 h1.logFault.raise.bump (.ite2 h1.logFault.raise.bump.notice h1))

theorem Keeps.blzScan (h : Keeps W s₀ s) : Keeps W s₀ s.blzScan := by
  unfold State.blzScan
  split
  extract_lets b
  split
  extract_lets s1 s2 s3 s4
  have h2 : Keeps W s₀ s2 := h.setBlz.wr.wr
  have h3 : Keeps W s₀ s3 := by
    unfold s3
    split
    · exact h2.wr
    · exact h2
  exact .ite h (Keeps.ite h3 h3.bump.raise).setFld

/-! #### Sys2Proof/Machine/BlzCmds.lean -/

theorem Keeps.cmdBlzQuery (h : Keeps W s₀ s) {x : Req} : Keeps W s₀ (cmdBlzQuery x s).1 := h

theorem Keeps.blzEntries (h : Keeps W s₀ s) {source room : Nat} {l : List (BlzRecord × List Byte)} :
    Keeps W s₀ (s.blzEntries source room l).2.2.2 := by
  induction l generalizing s room with
  | nil => exact h
  | cons x l ih =>
    dsimp only [State.blzEntries]
    exact .ite222 h (ih h.blzJudge)

theorem Keeps.cmdBlzRead (h : Keeps W s₀ s) {r : Req} : Keeps W s₀ (cmdBlzRead r s).1 := h.refuseOr h.blzEntries

theorem Keeps.cmdBlzFlush (h : Keeps W s₀ s) {r : Req} : Keeps W s₀ (cmdBlzFlush r s).1 := h.refuseOr (.ite1 h h.setFld.setBlz.blzStart)

theorem Keeps.cmdBlzListSet (h : Keeps W s₀ s) {r : Req} : Keeps W s₀ (cmdBlzListSet r s).1 := h.refuseOr h.setBlz

theorem Keeps.cmdBlzMark (h : Keeps W s₀ s) {r : Req} : Keeps W s₀ (cmdBlzMark r s).1 := .ite1 h.blzTrigger.setBlz h.blzTrigger

theorem Keeps.cmdBlzLogClear (h : Keeps W s₀ s) {r : Req} : Keeps W s₀ (cmdBlzLogClear r s).1 := h.refuseOr h.blzUncommit.setBlz

/-! #### Sys2Proof/Machine/EncTap.lean -/

theorem Keeps.setEnc (h : Keeps W s₀ s) {n : Nat} {d : EncSes} : Keeps W s₀ (s.setEnc n d) := h.updEncs

theorem Keeps.encStateNotice (h : Keeps W s₀ s) {n st : Nat} {wasReset : Bool} : Keeps W s₀ (s.encStateNotice n st wasReset) := h.notice

theorem Keeps.setEncState (h : Keeps W s₀ s) {n st : Nat} : Keeps W s₀ (s.setEncState n st) :=
  .ite h.setFld.setFld.encStateNotice h.setFld.setFld

theorem Keeps.encSourceNotice (h : Keeps W s₀ s) {n cause : Nat} : Keeps W s₀ (s.encSourceNotice n cause) := h.notice

theorem Keeps.abortOwed (h : Keeps W s₀ s) {n : Nat} {always : Bool} : Keeps W s₀ (s.abortOwed n always) := by
  dsimp only [State.abortOwed]
  split
  · exact .ite h.setEnc h
  · exact h

theorem Keeps.encBoundary (h : Keeps W s₀ s) {n : Nat} : Keeps W s₀ (s.encBoundary n) := by
  dsimp only [State.encBoundary]
  split
  · exact .ite h.setFld.setEnc h
  · exact h

theorem Keeps.encLose (h : Keeps W s₀ s) {n cause : Nat} : Keeps W s₀ (s.encLose n cause) :=
  .encSourceNotice (.setEncState (.encBoundary (.bump (.setEnc (.ite h.abortOwed h)))))

theorem Keeps.encSourceLost (h : Keeps W s₀ s) {out : Nat} : Keeps W s₀ (s.encSourceLost out) := h.foldl fun _ _ ht => ht.encLose

theorem Keeps.encNewMode (h : Keeps W s₀ s) {old : State} {out : Nat} : Keeps W s₀ (s.encNewMode old out) :=
  h.foldl fun _ _ ht => ht.encSourceNotice

/-! #### Sys2Proof/Machine/LedgerCmds.lean -/

theorem Keeps.ringProd (h : Keeps W s₀ s) {r v : Nat} : Keeps W s₀ (s.ringProd r v) := .ite h (.ite h.wr (.ite h.raise h.raise.ringFault))

theorem Keeps.hostRingProd (h : Keeps W s₀ s) {r v : Nat} : Keeps W s₀ (s.hostRingProd r v) := .ite h.ringProd.pairSend h

theorem Keeps.takeTurn (h : Keeps W s₀ s) {r : Nat} : Keeps W s₀ (s.takeTurn r) := h.updLdg

theorem Keeps.hostRecord (h : Keeps anywhere s₀ s) {r : Nat} {poisoned : Bool} : Keeps anywhere s₀ (s.hostRecord r poisoned) :=
  .ite h.takeTurn.consumeRecord h

theorem Keeps.takeConfirm (h : Keeps anywhere s₀ s) {poisoned : Bool} : Keeps anywhere s₀ (s.takeConfirm poisoned) := by
  dsimp only [State.takeConfirm]
  split
  · exact h
  · exact .ite h.updLdg.engineConfirm h

theorem Keeps.scanSlot (h : Keeps anywhere s₀ s) {slot : Nat} {poisoned : List Nat} : Keeps anywhere s₀ (s.scanSlot slot poisoned) :=
  h.updLdg.foldl fun _ _ ht => .ite ht.cellRead.scanEntry ht.cellRead

theorem Keeps.wheelScan (h : Keeps anywhere s₀ s) {poisoned : List Nat} : Keeps anywhere s₀ (s.wheelScan poisoned) :=
  .ite h (.ite h.scanSlot (.ite h h.updLdg.scanSlot))

theorem Keeps.expireCell (h : Keeps anywhere s₀ s) {n : Nat} : Keeps anywhere s₀ (s.expireCell n) :=
  .ite h.updLdg.dropCandidate (h.onCell fun _ ht => ht.settleCell).dropCandidate

theorem Keeps.wheelExpire (h : Keeps anywhere s₀ s) : Keeps anywhere s₀ s.wheelExpire :=
  .ite h (h.scanSlot.foldl fun _ _ ht => ht.expireCell)

theorem Keeps.sweepVisit (h : Keeps anywhere s₀ s) {poisoned : Bool} : Keeps anywhere s₀ (s.sweepVisit poisoned) :=
  .ite h (.ite h.sweepCell.setFld.updLdg h.sweepCell.setFld)

theorem Keeps.sweepLapEnd (h : Keeps W s₀ s) : Keeps W s₀ s.sweepLapEnd :=
  .ite h (h.updLdg.bumpWrap.lapClass.foldl fun _ _ ht => ht.lapClass)

theorem Keeps.svcCmd (h : Keeps W s₀ s) {write : Bool} {n : Nat} : Keeps W s₀ (s.svcCmd write n) := h.wr

theorem Keeps.svcRead (h : Keeps anywhere s₀ s) {n : Nat} {poisoned : Bool} : Keeps anywhere s₀ (s.svcRead n poisoned) :=
  .ite h (h.svcCmd.cellRead.foldl fun _ _ ht => ht.wr)

theorem Keeps.svcWrite (h : Keeps anywhere s₀ s) {n : Nat} : Keeps anywhere s₀ (s.svcWrite n) :=
  .ite (.raise (.ite h.svcCmd h)) (.onCell (.ite h.svcCmd h) fun _ ht => .ite (.raise (.ite ht.dropCandidate.settleCell.fileCell
  ht.dropCandidate.settleCell)) (.ite ht.dropCandidate.settleCell.fileCell ht.dropCandidate.settleCell))

theorem Keeps.cmdLdgCellAlloc (h : Keeps anywhere s₀ s) {r : Req} : Keeps anywhere s₀ (cmdLdgCellAlloc r s).1 :=
  .refuseOr h (by split; exacts [h, h.allocCells])

theorem Keeps.cmdLdgCellFree (h : Keeps anywhere s₀ s) {r : Req} : Keeps anywhere s₀ (cmdLdgCellFree r s).1 :=
  h.refuseOr h.freeCells.restageFreed

theorem Keeps.refileCell (h : Keeps W s₀ s) {n : Nat} : Keeps W s₀ (s.refileCell n) :=
  .ite h.dropCandidate.settleCell.fileCell h.dropCandidate.settleCell

theorem Keeps.setCell (h : Keeps anywhere s₀ s) {r : Req} {n : Nat} : Keeps anywhere s₀ (s.setCell r n) :=
  h.onCell fun _ ht => .ite ht.settleCell.refileCell ht.settleCell

theorem Keeps.cmdLdgCellSet (h : Keeps anywhere s₀ s) {r : Req} : Keeps anywhere s₀ (cmdLdgCellSet r s).1 :=
  h.refuseOr (.ite (h.foldl fun _ _ ht => ht.setCell) (h.foldl fun _ _ ht => ht.setCell).restageStands)

theorem Keeps.forceCell (h : Keeps anywhere s₀ s) {n st : Nat} : Keeps anywhere s₀ (s.forceCell n st) :=
  h.onCell fun _ ht => ht.settleCell

theorem Keeps.cmdLdgCellForce (h : Keeps anywhere s₀ s) {r : Req} : Keeps anywhere s₀ (cmdLdgCellForce r s).1 :=
  h.refuseOr (h.foldl fun _ _ ht => ht.forceCell)

theorem Keeps.cellImages (h : Keeps anywhere s₀ s) {first count : Nat} : Keeps anywhere s₀ (s.cellImages first count).2 :=
  h.foldl2 fun _ _ ht => ht.cellRead

theorem Keeps.cmdLdgCellQuery (h : Keeps anywhere s₀ s) {r : Req} : Keeps anywhere s₀ (cmdLdgCellQuery r s).1 := h.refuseOr h.cellImages

theorem Keeps.cmdLdgStickyRelease (h : Keeps anywhere s₀ s) {r : Req} : Keeps anywhere s₀ (cmdLdgStickyRelease r s).1 :=
  h.refuseOr (h.foldl fun _ _ ht => (ht.onCell fun _ ht2 => ht2.settleCell))

theorem Keeps.cmdLdgRingOpen (h : Keeps W s₀ s) {r : Req} : Keeps W s₀ (cmdLdgRingOpen r s).1 :=
  .refuseOr h (by split; exacts [h, h.wr.wr.wr.wr.wr.wr])

theorem Keeps.cmdLdgRingClose (h : Keeps W s₀ s) {r : Req} : Keeps W s₀ (cmdLdgRingClose r s).1 := h.refuseOr (.ite1 h.setFld h.updLdg)

theorem Keeps.cmdLdgNonliveList (h : Keeps W s₀ s) {r : Req} : Keeps W s₀ (cmdLdgNonliveList r s).1 := h.refuseOr h

theorem Keeps.cmdLdgNotifyCfg (h : Keeps W s₀ s) {r : Req} : Keeps W s₀ (cmdLdgNotifyCfg r s).1 := h.refuseOr h.raiseBatch.setNotify

/-! #### Sys2Proof/Machine/GateCmds.lean -/

theorem Keeps.gateColourWrite (h : Keeps W s₀ s) {k v : Nat} : Keeps W s₀ (s.gateColourWrite k v) := .ite h.wr h.wr.raise

theorem Keeps.gateAlphaWrite (h : Keeps W s₀ s) {v : Nat} : Keeps W s₀ (s.gateAlphaWrite v) := .ite h.wr h.wr.raise

theorem Keeps.gateVoidWrite (h : Keeps W s₀ s) {n v : Nat} : Keeps W s₀ (s.gateVoidWrite n v) := .ite h.raise h.setFld

theorem Keeps.gateSvcWrite (h : Keeps W s₀ s) {a v : Nat} : Keeps W s₀ (s.gateSvcWrite a v) := by
  dsimp only [State.gateSvcWrite]
  split
  · exact h
  · split
    · exact h.gateColourWrite
    · split
      · exact h.gateAlphaWrite
      · split
        · exact .ite h.gateVoidWrite h.wr
        · exact h

theorem Keeps.cmdGateBindSet (h : Keeps anywhere s₀ s) {r : Req} : Keeps anywhere s₀ (cmdGateBindSet r s).1 := by
  dsimp only [Machine.cmdGateBindSet]
  split
  · exact h
  · exact h.buildStage

theorem Keeps.cmdGateBindClear (h : Keeps anywhere s₀ s) {r : Req} : Keeps anywhere s₀ (cmdGateBindClear r s).1 := by
  dsimp only [Machine.cmdGateBindClear]
  split
  · exact h
  · exact h.buildStage

theorem Keeps.cmdGateSpanQuery (h : Keeps anywhere s₀ s) {r : Req} : Keeps anywhere s₀ (cmdGateSpanQuery r s).1 := h.refuseOr h.fwRead

theorem Keeps.cmdGateTreatCfg (h : Keeps W s₀ s) {r : Req} : Keeps W s₀ (cmdGateTreatCfg r s).1 :=
  h.refuseOr (.ite (h.foldl fun _ _ ht => .ite ht.wr ht).wr (h.foldl fun _ _ ht => .ite ht.wr ht))

theorem Keeps.pulseDrops (h : Keeps W s₀ s) {n : Nat} : Keeps W s₀ (s.pulseDrops n) := h.foldl fun _ _ ht => ht.wr.clearRegion.regionGone

theorem Keeps.cmdGateOutputCfg (h : Keeps W s₀ s) {r : Req} : Keeps W s₀ (cmdGateOutputCfg r s).1 :=
  h.refuseOr h.setFld.setFld.setFld.setFld.setFld.pulseDrops

/-! #### Sys2Proof/Machine/OutputCmds.lean -/

theorem Keeps.changePhase (h : Keeps W s₀ s) {k phase : Nat} : Keeps W s₀ (s.changePhase k phase) :=
  .ite h (h.setStandPhase.foldl fun _ _ ht => ht.rephaseOutput)

theorem Keeps.cmdStandCfg (h : Keeps W s₀ s) {r : Req} : Keeps W s₀ (cmdStandCfg r s).1 := h.refuseOr h.changePhase

theorem Keeps.checkRegions (h : Keeps W s₀ s) {n : Nat} : Keeps W s₀ (s.checkRegions n) :=
  h.foldl fun _ _ ht => .ite ht.wr.clearRegion.regionGone ht.clearRegion

theorem Keeps.enableOutput (h : Keeps W s₀ s) {n mode stand cls prio latch owner : Nat} :
    Keeps W s₀ (s.enableOutput n mode stand cls prio latch owner) := by
  have h1 : Keeps W s₀ (if (s.standOutputs stand).isEmpty then s.setStandPhase stand ((modeOf mode).reduce (s.standPhase stand)) else s) :=
    .ite h.setStandPhase h
  exact h1.setFld.setFld.setFld.setFld.setFld.setFld.wr.setOutState.setTol.setOut.scheduleFirst.setCmt.checkRegions.setFld.encNewMode

theorem Keeps.cmdOutEnable (h : Keeps W s₀ s) {r : Req} : Keeps W s₀ (cmdOutEnable r s).1 := h.refuseOr h.enableOutput

theorem Keeps.disableOutput (h : Keeps W s₀ s) {n ms : Nat} {w : Option Waiter} : Keeps W s₀ (s.disableOutput n ms w) := by
  rw [State.disableOutput]
  split
  next e => exact (h.injTake.at2 e).setOut.setOutState.encSourceLost.cancelCommits

theorem Keeps.cmdOutDisable (h : Keeps W s₀ s) {r : Req} : Keeps W s₀ (cmdOutDisable r s).1 := by
  rw [Machine.cmdOutDisable]
  refine h.refuseOr ?_
  dsimp only
  exact h.disableOutput

theorem Keeps.cmdOutSet (h : Keeps W s₀ s) {r : Req} : Keeps W s₀ (cmdOutSet r s).1 := h.refuseOr h.setOut

theorem Keeps.cmdOutQuery (h : Keeps W s₀ s) {r : Req} : Keeps W s₀ (cmdOutQuery r s).1 := h.refuseOr h

theorem Keeps.latchWrite (h : Keeps W s₀ s) {n v : Nat} : Keeps W s₀ (s.latchWrite n v) := .ite h (.ite h.setFld h.setFld.raise)

/-! #### Sys2Proof/Machine/LookoutCmds.lean -/

theorem Keeps.regionSvcWrite (h : Keeps W s₀ s) {a v : Nat} : Keeps W s₀ (s.regionSvcWrite a v) :=
  .ite h (.ite h.raise (.ite (.ite h h.raise) (.ite (.freezeFollow (.clearRegion (.wr (.ite h h.raise)))) (.wr (.ite h h.raise)))))

theorem Keeps.regionWrite (h : Keeps W s₀ s) {part : Nat} {x : RegionRec} : Keeps W s₀ (s.regionWrite part x) :=
  .ite (h.setRegion.foldl fun _ _ ht => ht.wr) (h.setRegion.foldl fun _ _ ht => ht.wr).clearRegion.freezeFollow

theorem Keeps.cmdLkoRegionSet (h : Keeps W s₀ s) {r : Req} : Keeps W s₀ (cmdLkoRegionSet r s).1 :=
  h.refuseOr (h.foldl fun _ _ ht => ht.regionWrite)

theorem Keeps.regionOff (h : Keeps anywhere s₀ s) {num : Nat} : Keeps anywhere s₀ (s.regionOff num) := h.thaw.wr.clearRegion.releaseForced

theorem Keeps.cmdLkoRegionClear (h : Keeps anywhere s₀ s) {r : Req} : Keeps anywhere s₀ (cmdLkoRegionClear r s).1 :=
  h.refuseOr (h.foldl fun _ _ ht => ht.regionOff)

theorem Keeps.refSet (h : Keeps W s₀ s) {num ref when_ : Nat} : Keeps W s₀ (s.refSet num ref when_) := .ite h.setRegion h.setRegion.wr.wr

theorem Keeps.cmdLkoRefSet (h : Keeps W s₀ s) {r : Req} : Keeps W s₀ (cmdLkoRefSet r s).1 := h.refuseOr (h.foldl fun _ _ ht => ht.refSet)

theorem Keeps.cmdLkoRegionQuery (h : Keeps W s₀ s) {r : Req} : Keeps W s₀ (cmdLkoRegionQuery r s).1 := h.refuseOr h

/-! #### Sys2Proof/Machine/LayerCmds.lean -/

theorem Keeps.commitProd (h : Keeps anywhere s₀ s) {n v : Nat} : Keeps anywhere s₀ (s.commitProd n v) :=
  .ite h (.ite h.wr.setCmt.groupBell (.ite h.raise h.raise.cringFault))

theorem Keeps.hostCommitProd (h : Keeps anywhere s₀ s) {n v : Nat} : Keeps anywhere s₀ (s.hostCommitProd n v) :=
  .ite h.commitProd.pairSend h

theorem Keeps.layerSvcWrite (h : Keeps W s₀ s) {a v : Nat} : Keeps W s₀ (s.layerSvcWrite a v) := .ite h (.ite h.wr h.setCmt)

theorem Keeps.cmdCnpBufSet (h : Keeps W s₀ s) {r : Req} : Keeps W s₀ (cmdCnpBufSet r s).1 := h.refuseOr h.setCmt

theorem Keeps.cmdCnpBufClear (h : Keeps W s₀ s) {r : Req} : Keeps W s₀ (cmdCnpBufClear r s).1 := h.refuseOr h.setCmt

theorem Keeps.cmdCnpLayoutPrepare (h : Keeps anywhere s₀ s) {r : Req} : Keeps anywhere s₀ (cmdCnpLayoutPrepare r s).1 := by
  refine h.refuseOr ?_
  split
  · exact h
  · split
    · exact h
    · exact h.buildStage

theorem Keeps.cmdCnpCringOpen (h : Keeps W s₀ s) {r : Req} : Keeps W s₀ (cmdCnpCringOpen r s).1 := h.refuseOr h.wr.wr.wr.wr.wr.setCmt

theorem Keeps.cmdCnpCringClose (h : Keeps W s₀ s) {r : Req} : Keeps W s₀ (cmdCnpCringClose r s).1 := h.refuseOr (.ite1 h.setFld h.setCmt)

/-! #### Sys2Proof/Machine/FwMem.lean -/

theorem Keeps.takeMemory {l m : List Nat} {t : State} (h : Keeps W s₀ s) (e : s.takeMemory l = some (m, t)) : Keeps W s₀ t := by
  induction l generalizing s m with
  | nil => cases e; exact h
  | cons k l ih =>
    rw [State.takeMemory] at e
    split at e
    · cases e
    · split at e
      · cases e
      next hx => cases e; exact ih h.updFwPool hx

theorem Keeps.giveMemory (h : Keeps W s₀ s) {l : List Nat} : Keeps W s₀ (s.giveMemory l) := h.updFwPool

theorem Keeps.setFbkRegion (h : Keeps W s₀ s) {u k base cfg : Nat} : Keeps W s₀ (s.setFbkRegion u k base cfg) := .ite h h.wr.wr.wr.updFbk

theorem Keeps.loadRegions (h : Keeps W s₀ s) {u : Nat} {l : List (Nat × Nat)} : Keeps W s₀ (s.loadRegions u l) :=
  h.foldl fun _ _ ht => ht.setFbkRegion

theorem Keeps.fbkActivate (h : Keeps W s₀ s) {u : Nat} : Keeps W s₀ (s.fbkActivate u) := h.foldl fun _ _ ht => ht.updFbk

theorem Keeps.fbkGo (h : Keeps W s₀ s) {u inFlight : Nat} : Keeps W s₀ (s.fbkGo u inFlight) := h.fbkActivate.updHbm.setFld.setFld

theorem Keeps.fbkDone (h : Keeps W s₀ s) {u finished : Nat} : Keeps W s₀ (s.fbkDone u finished) := .ite h.setFld.setFld h.setFld

theorem Keeps.fbkAwait (h : Keeps anywhere s₀ s) {u : Nat} : Keeps anywhere s₀ (s.fbkAwait u) := h.fbkGo.serveDue.fbkDone

/-! #### Sys2Proof/Machine/Ports.lean -/

theorem Keeps.setPort (h : Keeps W s₀ s) {p : Nat} {x : PortSt} : Keeps W s₀ (s.setPort p x) := h.updPorts

theorem Keeps.setQueue (h : Keeps W s₀ s) {n : Nat} {q : QueueSt} : Keeps W s₀ (s.setQueue n q) := h.updQueues

theorem Keeps.sendFrame (h : Keeps W s₀ s) {p : Nat} {f : List Byte} : Keeps W s₀ (s.sendFrame p f) := h.bumpWrap.emit

theorem Keeps.sendTx (h : Keeps W s₀ s) {p : Nat} {f : TxFrame} : Keeps W s₀ (s.sendTx p f) := by
  dsimp only [State.sendTx]
  split
  · exact h.sendFrame.bumpWrap
  · exact h.sendFrame

theorem Keeps.drainTx (h : Keeps W s₀ s) {p : Nat} : Keeps W s₀ (s.drainTx p) := .ite h (h.setPort.foldl fun _ _ ht => ht.sendTx)

theorem Keeps.lostFrames (h : Keeps W s₀ s) {l : List TxFrame} : Keeps W s₀ (s.lostFrames l) :=
  .foldl h fun _ _ ht => by split; exacts [ht.bump, ht]

theorem Keeps.txLoss (h : Keeps W s₀ s) {p session count owner : Nat} : Keeps W s₀ (s.txLoss p session count owner) :=
  .ite h (.ite h.bump h.bump.raise.notice)

theorem Keeps.sendPfc (h : Keeps W s₀ s) {p c quanta : Nat} : Keeps W s₀ (s.sendPfc p c quanta) := .ite h h.bump.emit.setPort

theorem Keeps.settlePort (h : Keeps W s₀ s) {p : Nat} : Keeps W s₀ (s.settlePort p) :=
  .setFld (.ite ((h.foldl fun _ _ ht => ht.sendPfc).foldl fun _ _ ht => ht.sendPfc).setFld h.setFld)

theorem Keeps.settlePorts (h : Keeps W s₀ s) : Keeps W s₀ s.settlePorts := h.settlePort.settlePort

theorem Keeps.setHeld (h : Keeps W s₀ s) {n : Nat} {v : Bool} : Keeps W s₀ (s.setHeld n v) :=
  .ite h (.settlePorts (.notice (.ite h.setFld.bump h.setFld)))

theorem Keeps.qRetail (h : Keeps W s₀ s) {n : Nat} : Keeps W s₀ (s.qRetail n) := .ite h.wr.wr.setHeld h.wr.wr

theorem Keeps.closeQueue (h : Keeps W s₀ s) {n : Nat} : Keeps W s₀ (s.closeQueue n) :=
  ((h.setHeld.setQueue.foldl fun _ _ ht => ht.answer).wr.foldl fun _ _ ht => ht.wr)

theorem Keeps.openQueue (h : Keeps W s₀ s) {n base log2 : Nat} : Keeps W s₀ (s.openQueue n base log2) :=
  (h.foldl fun _ _ ht => ht.wr).wr.setQueue

/-! #### Sys2Proof/Machine/DecPool.lean -/

theorem Keeps.setDec (h : Keeps W s₀ s) {n : Nat} {d : DecSes} : Keeps W s₀ (s.setDec n d) := h.updDecs

theorem Keeps.setDecPipe (h : Keeps W s₀ s) {p : Nat} {x : PipeSt} : Keeps W s₀ (s.setDecPipe p x) := h.updDecPipes

theorem Keeps.decStateNotice (h : Keeps W s₀ s) {n st : Nat} {wasReset : Bool} : Keeps W s₀ (s.decStateNotice n st wasReset) := h.notice

theorem Keeps.setDecState (h : Keeps W s₀ s) {n st : Nat} : Keeps W s₀ (s.setDecState n st) :=
  .ite h.setFld.setFld.decStateNotice h.setFld.setFld

theorem Keeps.setMarkValid (h : Keeps W s₀ s) {n m : Nat} {v : Bool} : Keeps W s₀ (s.setMarkValid n m v) := h.setFld

theorem Keeps.qRelease (h : Keeps W s₀ s) {n m : Nat} : Keeps W s₀ (s.qRelease n m) := .ite h h.setDec.setMarkValid.qRetail

theorem Keeps.releasePic (h : Keeps W s₀ s) {n : Nat} {p : DecPic} : Keeps W s₀ (s.releasePic n p) := by
  dsimp only [State.releasePic]
  split
  · exact h.qRelease
  · exact h

theorem Keeps.releaseCur (h : Keeps W s₀ s) {n : Nat} : Keeps W s₀ (s.releaseCur n) := by
  dsimp only [State.releaseCur]
  split
  · exact h.releasePic
  · exact h

theorem Keeps.decFigures (h : Keeps W s₀ s) : Keeps W s₀ s.decFigures := (h.foldl fun _ _ ht => ht.setFld.setFld.setFld).setFld.setFld

theorem Keeps.parkNotice (h : Keeps W s₀ s) {kind id pipe : Nat} {parked : Bool} : Keeps W s₀ (s.parkNotice kind id pipe parked) :=
  h.notice

theorem Keeps.moveDec (h : Keeps W s₀ s) {n p : Nat} : Keeps W s₀ (s.moveDec n p) := .ite h.setDec h.setFld.setDec

theorem Keeps.applyDecPlaces (h : Keeps W s₀ s) {l : List Slotted} : Keeps W s₀ (s.applyDecPlaces l) := by
  refine .decFigures (.foldl h fun t x ht => ?_)
  extract_lets d
  split
  · exact .ite ht ht.releaseCur.setDec.parkNotice
  · exact .ite ht.setFld.setDec.parkNotice ht.moveDec

theorem Keeps.sendDecision (h : Keeps W s₀ s) {kind n : Nat} {moves : List (Nat × Nat)} : Keeps W s₀ (s.sendDecision kind n moves) :=
  .ite h.forwardLcs h

theorem Keeps.decideDecs (h : Keeps W s₀ s) {l : List Slotted} : Keeps W s₀ (s.decideDecs l) := h.applyDecPlaces.sendDecision

theorem Keeps.resumeDecs (h : Keeps W s₀ s) : Keeps W s₀ s.resumeDecs := .ite h h.decideDecs

theorem Keeps.loadDecPipe (h : Keeps W s₀ s) {n : Nat} : Keeps W s₀ (s.loadDecPipe n) := .ite h h.loadRegions.setDecPipe

theorem Keeps.unitWrite (h : Keeps anywhere s₀ s) {u a : Nat} {b : List Byte} {run : WriteRun} :
    Keeps anywhere s₀ (s.unitWrite u a b run).2 := .ite2 h h.unitStore

theorem Keeps.putRun (h : Keeps anywhere s₀ s) {u b : Nat} {p : DecPic} {r : DecRun} {run : WriteRun} :
    Keeps anywhere s₀ (s.putRun u b p r run).2 := .ite2 h.unitLoad.unitWrite h.unitWrite

theorem Keeps.copyRun (h : Keeps anywhere s₀ s) {u b : Nat} {from_ : Option Nat} {p : DecPic} {r : DecRun} {n : Nat}
    {run : WriteRun} : Keeps anywhere s₀ (s.copyRun u b from_ p r n run).2 := by
  dsimp only [State.copyRun]
  split
  · exact h.putRun
  · exact h.unitLoad.putRun

theorem Keeps.concealUnit (h : Keeps anywhere s₀ s) {n : Nat} {p : DecPic} {i : Nat} {run : WriteRun} :
    Keeps anywhere s₀ (s.concealUnit n p i run).2 := h.foldl2 fun _ _ ht => ht.copyRun

theorem Keeps.decError (h : Keeps W s₀ s) {n cls conceal : Nat} : Keeps W s₀ (s.decError n cls conceal) := by
  dsimp only [State.decError]
  split
  · exact h.bump
  · exact .ite h.bump.raise h.bump.raise.notice

theorem Keeps.decPipeNotice (h : Keeps W s₀ s) {p cause cls moved : Nat} {ids : List Nat} :
    Keeps W s₀ (s.decPipeNotice p cause cls moved ids) := h.notice

theorem Keeps.atBoundary (h : Keeps W s₀ s) {n : Nat} : Keeps W s₀ (s.atBoundary n) := by
  dsimp only [State.atBoundary]
  split
  · exact .ite h.setFld.setDec h
  · exact h

theorem Keeps.endPicture (h : Keeps W s₀ s) {n : Nat} : Keeps W s₀ (s.endPicture n) := by
  dsimp only [State.endPicture]
  split
  · exact h
  · exact .atBoundary (.ite h.setDec h.setDec.releasePic)

theorem Keeps.concealLeft (h : Keeps anywhere s₀ s) {n cls : Nat} {broken : Bool} : Keeps anywhere s₀ (s.concealLeft n cls broken).2 := by
  dsimp only [State.concealLeft]
  split
  · exact h
  · exact .via (.setDec (.ite2 h (h.foldl2 fun _ _ ht => ht.concealUnit))) fun h1 =>
      .endPicture (.ite h1.bump.decError.decError h1.bump.decError)

theorem Keeps.firePressure (h : Keeps W s₀ s) {b : Nat} : Keeps W s₀ (s.firePressure b) := .ite h h.updPol

theorem Keeps.dropInFlight (h : Keeps anywhere s₀ s) {p : Nat} : Keeps anywhere s₀ (s.dropInFlight p) :=
  h.foldl fun _ _ ht => .ite ht.concealLeft ht.concealLeft.bump

theorem Keeps.removeDecPipe (h : Keeps anywhere s₀ s) {p cause : Nat} : Keeps anywhere s₀ (s.removeDecPipe p cause) :=
  .ite h.firePressure.dropInFlight.setFld.setFld.decFigures.decPipeNotice
  h.firePressure.dropInFlight.setFld.setFld.applyDecPlaces.sendDecision.decPipeNotice

theorem Keeps.decViolation (h : Keeps anywhere s₀ s) {p : Nat} {run : WriteRun} : Keeps anywhere s₀ (s.decViolation p run) :=
  .ite h (.ite h.bump.removeDecPipe h.bump.decPipeNotice)

theorem Keeps.concealRest (h : Keeps anywhere s₀ s) {n cls : Nat} {broken : Bool} : Keeps anywhere s₀ (s.concealRest n cls broken) :=
  h.concealLeft.decViolation

theorem Keeps.abandonDec (h : Keeps anywhere s₀ s) {p : Nat} : Keeps anywhere s₀ (s.abandonDec p) := h.foldl fun _ _ ht => ht.concealRest

theorem Keeps.decAfter (h : Keeps anywhere s₀ s) {n : Nat} {run : WriteRun} : Keeps anywhere s₀ (s.decAfter n run) :=
  .ite h (.decViolation (.ite h.concealLeft h.concealLeft.bump))

theorem Keeps.decMarkLost (h : Keeps anywhere s₀ s) {n : Nat} {m : Option Nat} : Keeps anywhere s₀ (s.decMarkLost n m) := by
  dsimp only [State.decMarkLost]
  split
  · split
    · exact h.raise.setDec
    · exact h.raise
  · exact h.raise.concealRest.setDec

theorem Keeps.setAnchor (h : Keeps W s₀ s) {n : Nat} {a : Anchor} : Keeps W s₀ (s.setAnchor n a) := by
  dsimp only [State.setAnchor]
  split
  · exact h
  · split
    · exact .ite h.setDec.raise.notice h.setDec
    · exact h.setDec

theorem Keeps.dropAnchors (h : Keeps W s₀ s) : Keeps W s₀ s.dropAnchors := h.foldl fun _ _ ht => .ite ht.setDec ht

theorem Keeps.confirmCell (h : Keeps W s₀ s) {cell action : Nat} {t : Option Nat} {old : Int} :
    Keeps W s₀ (s.confirmCell cell action t old) := by
  dsimp only [State.confirmCell]
  split
  · exact h.sendConfirm
  · exact .ite h.sendConfirm h.bump.bump

theorem Keeps.confirmPicture (h : Keeps W s₀ s) {n : Nat} {p : DecPic} {stamp : Option Nat} : Keeps W s₀ (s.confirmPicture n p stamp) :=
  .ite (h.confirmCell.foldl fun _ _ ht => ht.confirmCell) (.foldl (.ite h.confirmCell h.confirmCell) fun _ _ ht => ht.confirmCell)

theorem Keeps.countClean (h : Keeps W s₀ s) {n : Nat} {clean : Bool} : Keeps W s₀ (s.countClean n clean) := by
  dsimp only [State.countClean]
  split
  · exact h
  · exact h.setDec.notice
  · exact h.setDec
  · exact h.setDec

theorem Keeps.completePicture (h : Keeps W s₀ s) {n : Nat} {p : DecPic} : Keeps W s₀ (s.completePicture n p) :=
  .via h.setFld.confirmPicture.bump fun h1 =>
  .via (.ite h1 h.setFld.confirmPicture) fun h2 =>
  .ite h2.releasePic.bumpWrap.setFld.setFld.wr.setFld.setFld.countClean
    h2.releasePic.bumpWrap.setFld.setFld.wr.setFld.setFld.countClean.setPool

theorem Keeps.finishDecClose (h : Keeps anywhere s₀ s) {n : Nat} : Keeps anywhere s₀ (s.finishDecClose n) :=
  ((h.closeQueue.foldl fun _ _ ht => .ite ht.setDecPipe
  ht).freeCells.freeCells.giveMemory.setPool.updLdg.setDec.setDecState.decStateNotice.foldl fun _ _ ht =>
  ht.wr).decFigures.answer.resumeDecs

theorem Keeps.flushOut (h : Keeps W s₀ s) {n : Nat} : Keeps W s₀ (s.flushOut n) := h.setDec.foldl fun _ _ ht => ht.completePicture

theorem Keeps.resetDec (h : Keeps anywhere s₀ s) {n : Nat} : Keeps anywhere s₀ (s.resetDec n) :=
  .raise (.setDec (.ite (h.concealRest.bump.setDec.foldl fun _ _ ht => ht.completePicture) h.concealRest.bump.flushOut))

theorem Keeps.pipeMoved (h : Keeps W s₀ s) {p : Nat} : Keeps W s₀ (s.pipeMoved p) :=
  .ite h (.answer (.setDecPipe (.ite h.setFld.decideDecs h.setFld)))

/-! #### Sys2Proof/Machine/Queues.lean -/

theorem Keeps.qHeader (h : Keeps anywhere s₀ s) {u n c : Nat} : Keeps anywhere s₀ (s.qHeader u n c).2 := by
  rw [State.qHeader]
  split
  next e => exact h.unitLoad.at2222 e

theorem Keeps.takeMark (h : Keeps W s₀ s) {n : Nat} : Keeps W s₀ (s.takeMark n).2 := by
  dsimp only [State.takeMark]
  split
  · exact h
  · exact h.wr.setMarkValid.qRetail

theorem Keeps.qSetMark (h : Keeps anywhere s₀ s) {n : Nat} : Keeps anywhere s₀ (s.qSetMark n) := by
  dsimp only [State.qSetMark]
  refine .ite h ?_
  split
  · exact h.decMarkLost
  next hx => exact (h.takeMark.at2 hx).setDec

theorem Keeps.qRewind (h : Keeps anywhere s₀ s) {n m : Nat} : Keeps anywhere s₀ (s.qRewind n m) :=
  .ite h (.ite h.wr.setQueue.setDec.qRetail h.decMarkLost)

theorem Keeps.beginUnit (h : Keeps anywhere s₀ s) {n : Nat} : Keeps anywhere s₀ (s.beginUnit n) := by
  dsimp only [State.beginUnit]
  refine .ite h ?_
  split
  · exact .ite h.setDec.qRewind h.setDec.decMarkLost
  · split
    · exact h.decMarkLost
    next hx => exact (h.takeMark.at2 hx).setDec

theorem Keeps.skipItems (h : Keeps anywhere s₀ s) {u n ts k : Nat} : Keeps anywhere s₀ (s.skipItems u n ts k) := by
  induction k generalizing s with
  | zero => exact h
  | succ k ih =>
    rw [State.skipItems]
    refine .ite h ?_
    split
    next e =>
      have h1 := h.qHeader.at2 e
      exact .ite h1 (ih h1.wr.qRetail)

theorem Keeps.qRead (h : Keeps anywhere s₀ s) {n : Nat} {whole : Bool} : Keeps anywhere s₀ (s.qRead n whole) := by
  unfold State.qRead
  refine .ite h ?_
  extract_lets d u s0 s1 rd
  have h1 : Keeps anywhere s₀ s1 := .ite h.loadDecPipe.skipItems.setDec h.loadDecPipe
  refine .ite h1.updReadData.setDec ?_
  split
  next e =>
    have h2 := h1.qHeader.at2 e
    extract_lets size
    split
    next e3 =>
      have h2' := h2.unitLoad.at2222 e3
      extract_lets s3 s4 s5
      have h3 : Keeps anywhere s₀ s3 := h2'.updReadData
      have h4 : Keeps anywhere s₀ s4 := .ite h3.decError h3
      exact .decAfter (.ite h4.wr.setQueue.setDec.qRetail h4.setQueue)

theorem Keeps.queueLoss (h : Keeps W s₀ s) {n lost marks : Nat} : Keeps W s₀ (s.queueLoss n lost marks) := h.notice

theorem Keeps.forgetMark (h : Keeps W s₀ s) {n m : Nat} : Keeps W s₀ (s.forgetMark n m) := h.setDec

theorem Keeps.cancelMark (h : Keeps anywhere s₀ s) {n m : Nat} : Keeps anywhere s₀ (s.cancelMark n m) :=
  .forgetMark (.decMarkLost (.ite h.setMarkValid.bump.qRetail h.setMarkValid.bump.qRetail.raise.queueLoss))

theorem Keeps.overtaken (h : Keeps W s₀ s) {n rd : Nat} : Keeps W s₀ (s.overtaken n rd) := .ite h.updReadData.setQueue h

theorem Keeps.discardItem (h : Keeps anywhere s₀ s) {n : Nat} : Keeps anywhere s₀ (s.discardItem n) := by
  rw [State.discardItem]
  split
  next e =>
    have h0 := h.qHeader.at2 e
    exact .ite h0.overtaken.wr.qRetail (.ite h0.overtaken.wr.qRetail.bump h0.overtaken.wr.qRetail.bump.raise.queueLoss)

theorem Keeps.freeQueue (h : Keeps anywhere s₀ s) {n need k : Nat} : Keeps anywhere s₀ (s.freeQueue n need k) := by
  induction k generalizing s with
  | zero => exact h
  | succ k ih =>
    rw [State.freeQueue]
    refine .ite h ?_
    split
    · exact ih h.cancelMark
    · exact .ite h (ih h.discardItem)

theorem Keeps.qAppend (h : Keeps anywhere s₀ s) {n : Nat} {b : List Byte} {size : Nat} : Keeps anywhere s₀ (s.qAppend n b size) :=
  h.unitStore.wr

theorem Keeps.queueCopy (h : Keeps anywhere s₀ s) {n c most : Nat} : Keeps anywhere s₀ (s.queueCopy n c most).2 := by
  rw [State.queueCopy]
  split
  next e =>
    split
    next e2 => exact (h.qHeader.at2 e).fwRead.at2 e2

theorem Keeps.qPut (h : Keeps anywhere s₀ s) {n flags pt seq ts ssrc arrival : Nat} {payload : List Byte} :
    Keeps anywhere s₀ (s.qPut n flags pt seq ts ssrc arrival payload) := by
  unfold State.qPut
  extract_lets size left pad s1 q s2 c s3 s4 s5
  have h2 : Keeps anywhere s₀ s2 := .ite h.freeQueue h.freeQueue.qAppend
  have h5 : Keeps anywhere s₀ s5 := .ite h2.qAppend.setQueue.bumpWrap.qRetail.setHeld h2.qAppend.setQueue.bumpWrap.qRetail
  refine h5.foldl fun t w ht => ?_
  split
  next e => exact (ht.queueCopy.at2 e).answer

/-! #### Sys2Proof/Machine/DecCmds.lean -/

theorem Keeps.decCells {r : Req} {rows c f : Nat} {t : State} (h : Keeps anywhere s₀ s) (e : s.decCells r rows = some (c, f, t)) :
    Keeps anywhere s₀ t := by
  simp only [State.decCells, Option.bind_eq_some_iff] at e
  obtain ⟨c', -, e⟩ := e
  split at e
  · cases e; exact h.allocCells
  · obtain ⟨f', -, e⟩ := Option.map_eq_some_iff.mp e
    cases e; exact h.allocCells.allocCells

theorem Keeps.openDec (h : Keeps W s₀ s) {r : Req} {n pipe cell row rows : Nat} {mem : List Nat} {picLog metaLog : Nat} :
    Keeps W s₀ (s.openDec r n pipe cell row rows mem picLog metaLog) := (h.setDec.setPool.openQueue.updLdg.foldl fun _ _ ht =>
    ht.wr).wr.wr.wr.decFigures

theorem Keeps.cmdDecSessionOpen (h : Keeps anywhere s₀ s) {r : Req} : Keeps anywhere s₀ (cmdDecSessionOpen r s).1 := by
  dsimp only [Machine.cmdDecSessionOpen]
  split
  · exact h
  · split
    next hc =>
      split
      · exact h
      · exact h
      next hm _ => exact .ite1 h ((h.decCells hc).takeMemory hm).openDec
    · exact h

theorem Keeps.drainDec (h : Keeps W s₀ s) {n ms : Nat} {w : Option Waiter} {pipe : Bool} : Keeps W s₀ (s.drainDec n ms w pipe) := by
  rw [State.drainDec]
  split
  next e => exact .ite (h.injTake.at2 e).setDec.setDec (h.injTake.at2 e).setDec.setDecState

theorem Keeps.cmdDecSessionClose (h : Keeps W s₀ s) {r : Req} : Keeps W s₀ (cmdDecSessionClose r s).1 := by
  rw [Machine.cmdDecSessionClose]
  refine h.refuseOr ?_
  dsimp only
  exact h.drainDec

theorem Keeps.cmdDecSessionParams (h : Keeps W s₀ s) {r : Req} : Keeps W s₀ (cmdDecSessionParams r s).1 :=
  h.refuseOr (.ite h.setDec.setDecState h.setDec)

theorem Keeps.cmdDecSessionAnchor (h : Keeps W s₀ s) {r : Req} : Keeps W s₀ (cmdDecSessionAnchor r s).1 := h.refuseOr h.setAnchor

theorem Keeps.cmdDecSessionQuery (h : Keeps W s₀ s) {r : Req} : Keeps W s₀ (cmdDecSessionQuery r s).1 := h.refuseOr h

theorem Keeps.drainDecPipe (h : Keeps W s₀ s) {p ms : Nat} {w : Waiter} : Keeps W s₀ (s.drainDecPipe p ms w) :=
  h.setFld.setFld.setDecPipe.decFigures.foldl fun _ _ ht => ht.drainDec

theorem Keeps.cmdDecPipeCtrl (h : Keeps W s₀ s) {r : Req} : Keeps W s₀ (cmdDecPipeCtrl r s).1 :=
  h.refuseOr (.ite1 (.ite1 h h.setFld.decFigures.resumeDecs) (.ite1 h (.ite1 h.drainDecPipe
  h.drainDecPipe.updDecPipes.setDecPipe.pipeMoved)))

theorem Keeps.renewSlot (h : Keeps W s₀ s) {n i : Nat} : Keeps W s₀ (s.renewSlot n i) := h.setPool

theorem Keeps.beginPicture (h : Keeps anywhere s₀ s) {n : Nat} {h' : DecHead} : Keeps anywhere s₀ (s.beginPicture n h') := by
  dsimp only [State.beginPicture]
  split
  · exact .endPicture (.decError (.beginUnit (.setDec (.ite (.decError (.ite h.setDec.setDecState h.setDec)) (.ite h.setDec.setDecState
    h.setDec)))))
  · split
    · exact .ite (.decError (.ite h.setDec.setDecState h.setDec)) (.ite h.setDec.setDecState h.setDec)
    · exact .via (.ite h.setDec.setDecState h.setDec) fun h1 =>
        .ite (.concealRest (.beginUnit (.setDec (.renewSlot (.ite h1.decError h1))))) (.beginUnit (.setDec (.renewSlot (.ite h1.decError
          h1))))

theorem Keeps.makePhantom (h : Keeps anywhere s₀ s) {n : Nat} {p : DecPic} {poc : Int} : Keeps anywhere s₀ (s.makePhantom n p poc) := by
  dsimp only [State.makePhantom]
  split
  · exact h.decError
  · exact (h.renewSlot.setDec.foldl2 fun _ _ ht => ht.concealUnit).setDec.decError.decAfter

theorem Keeps.rowOps (h : Keeps anywhere s₀ s) {n : Nat} {r : DecRow} : Keeps anywhere s₀ (s.rowOps n r) := by
  dsimp only [State.rowOps]
  split
  · exact h
  · split
    · exact (h.loadDecPipe.injTake.foldl fun _ _ ht => ht.makePhantom)
    · exact .ite (((h.loadDecPipe.injTake.foldl fun _ _ ht => ht.makePhantom).foldl2 fun _ _ ht => ht.putRun).foldl2 fun _ _ ht =>
      ht.concealUnit).decAfter (.ite (.endPicture (.ite ((((h.loadDecPipe.injTake.foldl fun _ _ ht => ht.makePhantom).foldl2 fun _ _ ht
      => ht.putRun).foldl2 fun _ _ ht => ht.concealUnit).setDec.bump.bumpWrap.foldl fun _ _ ht => ht.decError).bump.bump.decError
      ((((h.loadDecPipe.injTake.foldl fun _ _ ht => ht.makePhantom).foldl2 fun _ _ ht => ht.putRun).foldl2 fun _ _ ht =>
      ht.concealUnit).setDec.bump.bumpWrap.foldl fun _ _ ht => ht.decError))) (.ite (.concealRest (.ite ((((h.loadDecPipe.injTake.foldl
      fun _ _ ht => ht.makePhantom).foldl2 fun _ _ ht => ht.putRun).foldl2 fun _ _ ht => ht.concealUnit).setDec.bump.bumpWrap.foldl fun _
      _ ht => ht.decError).bump.bump.decError ((((h.loadDecPipe.injTake.foldl fun _ _ ht => ht.makePhantom).foldl2 fun _ _ ht =>
      ht.putRun).foldl2 fun _ _ ht => ht.concealUnit).setDec.bump.bumpWrap.foldl fun _ _ ht => ht.decError))) (.ite
      ((((h.loadDecPipe.injTake.foldl fun _ _ ht => ht.makePhantom).foldl2 fun _ _ ht => ht.putRun).foldl2 fun _ _ ht =>
      ht.concealUnit).setDec.bump.bumpWrap.foldl fun _ _ ht => ht.decError).bump.bump.decError ((((h.loadDecPipe.injTake.foldl fun _ _ ht
      => ht.makePhantom).foldl2 fun _ _ ht => ht.putRun).foldl2 fun _ _ ht => ht.concealUnit).setDec.bump.bumpWrap.foldl fun _ _ ht =>
      ht.decError))))

theorem Keeps.serve (h : Keeps W s₀ s) {n pix : Nat} : Keeps W s₀ (s.serve n pix) := h.setDecPipe

theorem Keeps.serveRow (h : Keeps anywhere s₀ s) {n : Nat} {r : DecRow} : Keeps anywhere s₀ (s.serveRow n r) := h.serve.rowOps

theorem Keeps.decRow (h : Keeps anywhere s₀ s) {n : Nat} {r : DecRow} : Keeps anywhere s₀ (s.decRow n r) := by
  unfold State.decRow
  extract_lets p d works
  refine .ite h ?_
  split
  · exact h.serveRow
  · exact h
  next =>
    have h1 : Keeps anywhere s₀ (if d.cur.isSome then s.concealRest n deDataLost false else s) := .ite h.concealRest h
    exact .ite h1 (.ite (h1.foldl fun _ _ ht => ht.decError) (.ite h1.setDec (.ite h1.setDec h1.beginPicture.serveRow)))

theorem Keeps.outputPicture (h : Keeps W s₀ s) {n index : Nat} : Keeps W s₀ (s.outputPicture n index) := by
  dsimp only [State.outputPicture]
  split
  · exact h
  · exact .ite h h.setDec.completePicture

theorem Keeps.pictureTimeout (h : Keeps anywhere s₀ s) {n : Nat} : Keeps anywhere s₀ (s.pictureTimeout n) := .ite h.concealRest h

theorem Keeps.rateWindow (h : Keeps W s₀ s) {n : Nat} : Keeps W s₀ (s.rateWindow n) := .ite h (.ite h.setDec.bump.raise h.setDec)

theorem Keeps.decDrained (h : Keeps anywhere s₀ s) {n : Nat} : Keeps anywhere s₀ (s.decDrained n) :=
  .ite h.finishDecClose (.ite h (.ite h.setDec.atBoundary.pipeMoved h.flushOut.finishDecClose))

theorem Keeps.decDrainTimeout (h : Keeps anywhere s₀ s) {n : Nat} : Keeps anywhere s₀ (s.decDrainTimeout n) := by
  dsimp only [State.decDrainTimeout]
  split
  · exact h
  · exact .ite h (.ite (.pipeMoved (.atBoundary (.setDec (.logFault (.resetDec (.ite h h.setDecState)))))) (.logFault (.resetDec (.ite h
    h.setDecState))))

/-! #### Sys2Proof/Machine/EncPool.lean -/

theorem Keeps.setEncPipe (h : Keeps W s₀ s) {p : Nat} {x : PipeSt} : Keeps W s₀ (s.setEncPipe p x) := h.updEncPipes

theorem Keeps.encFigures (h : Keeps W s₀ s) : Keeps W s₀ s.encFigures := (h.foldl fun _ _ ht => ht.setFld.setFld.setFld).setFld.setFld

theorem Keeps.moveEnc (h : Keeps W s₀ s) {n p : Nat} : Keeps W s₀ (s.moveEnc n p) := .ite h.setEnc h.setFld.setEnc

theorem Keeps.applyEncPlaces (h : Keeps W s₀ s) {l : List Slotted} : Keeps W s₀ (s.applyEncPlaces l) := by
  refine .encFigures (.foldl h fun t x ht => ?_)
  extract_lets d
  split
  · exact .ite ht ht.abortOwed.bump.setEnc.parkNotice
  · exact .ite ht.setFld.setEnc.parkNotice ht.moveEnc

theorem Keeps.decideEncs (h : Keeps W s₀ s) {l : List Slotted} : Keeps W s₀ (s.decideEncs l) := h.applyEncPlaces.sendDecision

theorem Keeps.resumeEncs (h : Keeps W s₀ s) : Keeps W s₀ s.resumeEncs := .ite h h.decideEncs

theorem Keeps.loadEncPipe (h : Keeps W s₀ s) {n : Nat} : Keeps W s₀ (s.loadEncPipe n) := .ite h h.loadRegions.setEncPipe

theorem Keeps.encPipeNotice (h : Keeps W s₀ s) {p cause cls moved : Nat} {ids : List Nat} :
    Keeps W s₀ (s.encPipeNotice p cause cls moved ids) := h.notice

theorem Keeps.skipRest (h : Keeps W s₀ s) {p : Nat} : Keeps W s₀ (s.skipRest p) := by
  refine .foldl h fun t n ht => ?_
  extract_lets d
  split
  · exact ht
  · exact ht.setEnc

theorem Keeps.removeEncPipe (h : Keeps W s₀ s) {p cause : Nat} : Keeps W s₀ (s.removeEncPipe p cause) :=
  .ite h.firePressure.skipRest.setFld.setFld.encFigures.encPipeNotice
  h.firePressure.skipRest.setFld.setFld.applyEncPlaces.sendDecision.encPipeNotice

theorem Keeps.encAfter (h : Keeps W s₀ s) {n : Nat} {run : WriteRun} : Keeps W s₀ (s.encAfter n run) :=
  .ite h (.ite h.bump.skipRest.removeEncPipe h.bump.skipRest.encPipeNotice)

theorem Keeps.coppice (h : Keeps W s₀ s) {n : Nat} : Keeps W s₀ (s.coppice n) := h.setEnc

theorem Keeps.encDrop (h : Keeps W s₀ s) {n cause : Nat} : Keeps W s₀ (s.encDrop n cause) := h.bump.setEnc.notice

theorem Keeps.tapRows (h : Keeps anywhere s₀ s) {n : Nat} {src : EncSrc} : Keeps anywhere s₀ (s.tapRows n src) := by
  unfold State.tapRows
  extract_lets
  split
  split
  next e1 =>
    split
    next e2 =>
      split
      next e3 => exact (((h.loadEncPipe.unitWrite.at2 e1).unitWrite.at2 e2).unitWrite.at2 e3).encAfter

theorem Keeps.tapLine (h : Keeps anywhere s₀ s) {n y : Nat} {px : List Nat} : Keeps anywhere s₀ (s.tapLine n y px) := by
  dsimp only [State.tapLine]
  split
  · exact h
  · exact .ite h (.ite h.setEnc h.setEnc.tapRows.setEnc)

theorem Keeps.encTap (h : Keeps anywhere s₀ s) {out y : Nat} {px : List Nat} : Keeps anywhere s₀ (s.encTap out y px) :=
  h.foldl fun _ _ ht => ht.tapLine

theorem Keeps.tapFrame (h : Keeps W s₀ s) {n f : Nat} : Keeps W s₀ (s.tapFrame n f) := .ite h (.ite h.raise.encDrop h.setEnc)

theorem Keeps.encFrameStart (h : Keeps W s₀ s) {out f : Nat} : Keeps W s₀ (s.encFrameStart out f) :=
  h.foldl fun _ _ ht => .ite (.tapFrame (.ite ht.setEncState.coppice (.ite ht.encLose ht))) (.ite ht.setEncState.coppice (.ite ht.encLose
  ht))

theorem Keeps.reconRow (h : Keeps anywhere s₀ s) {n r : Nat} {skip : Bool} {l : List DecRun} :
    Keeps anywhere s₀ (s.reconRow n r skip l).2 := .ite2 (h.foldl2 fun _ _ ht => ht.copyRun) (h.foldl2 fun _ _ ht => ht.putRun)

theorem Keeps.advanceSeq (h : Keeps W s₀ s) {n : Nat} : Keeps W s₀ (s.advanceSeq n) := .ite h.setFld.wr h.setFld

theorem Keeps.txPut (h : Keeps W s₀ s) {p : Nat} {f : TxFrame} : Keeps W s₀ (s.txPut p f).2 := .ite2 h (.ite2 h h.setPort.drainTx)

theorem Keeps.txPacket (h : Keeps W s₀ s) {n : Nat} {f : TxFlow} {marker : Bool} {ts : Nat} {payload : List Byte} :
    Keeps W s₀ (s.txPacket n f marker ts payload).2 := .ite2 h.advanceSeq (.ite2 h.advanceSeq.bump (.ite2 h.advanceSeq.txPut
    h.advanceSeq.txPut.setEnc))

theorem Keeps.stage (h : Keeps anywhere s₀ s) {n : Nat} {b : List Byte} : Keeps anywhere s₀ (s.stage n b) := by
  rw [State.stage]
  split
  next e => exact (h.loadEncPipe.unitWrite.at2 e).setEnc.encAfter

theorem Keeps.txChunk (h : Keeps anywhere s₀ s) {n : Nat} {f : TxFlow} {ts : Nat} {last : Bool} {nals : List (List Byte)} :
    Keeps anywhere s₀ (s.txChunk n f ts last nals).2 := h.foldl2 fun _ _ ht => .ite2 ht (.txPacket (.ite ht.stage ht))

theorem Keeps.encRingFault (h : Keeps W s₀ s) {n cause cons : Nat} : Keeps W s₀ (s.encRingFault n cause cons) := h.notice

theorem Keeps.ringPut (h : Keeps anywhere s₀ s) {n : Nat} {b : List Byte} {size : Nat} : Keeps anywhere s₀ (s.ringPut n b size) := by
  rw [State.ringPut]
  split
  next e =>
    have h1 := (h.loadEncPipe.unitWrite.at2 e)
    exact .ite h1.wr (.encAfter (.ite h1.wr h1.wr.raise.encRingFault))

theorem Keeps.ringChunk (h : Keeps anywhere s₀ s) {n len flags first count : Nat} {src : EncSrc} {payload : List Byte} :
    Keeps anywhere s₀ (s.ringChunk n len flags first count src payload).2 := .ite2 h (.ringPut (.ite h h.ringPut))

theorem Keeps.abortFlush (h : Keeps anywhere s₀ s) {n : Nat} : Keeps anywhere s₀ (s.abortFlush n) := by
  rw [State.abortFlush]
  obtain ⟨chunk, hc⟩ := exists_eq (a' := State.ringChunk)
  rw [← hc]
  split
  · exact h
  · split
    next e =>
      rw [hc] at e
      exact .ite (h.ringChunk.at2 e).setEnc h

theorem Keeps.encAbort (h : Keeps anywhere s₀ s) {n : Nat} {always : Bool} : Keeps anywhere s₀ (s.encAbort n always) := by
  dsimp only [State.encAbort]
  split
  · exact h
  · exact h.abortOwed.abortFlush.setEnc.encBoundary

theorem Keeps.loseChunk (h : Keeps anywhere s₀ s) {n port count : Nat} : Keeps anywhere s₀ (s.loseChunk n port count) :=
  h.txLoss.bump.encAbort.encDrop

theorem Keeps.handChunk (h : Keeps anywhere s₀ s) {n : Nat} {c : EncCur} {first count : Nat} {isFirst isLast : Bool}
    {nals rest : List (List Byte)} : Keeps anywhere s₀ (s.handChunk n c first count isFirst isLast nals rest) := by
  unfold State.handChunk
  extract_lets d carried sent
  refine .ite (.ite h ?_) ?_
  · extract_lets
    split
    next e => exact .ite (h.abortFlush.ringChunk.at2 e).setEnc h.encAbort.raise.encDrop
  · split
    · exact h.loseChunk
    · split
      next e => exact .ite (h.txChunk.at2 e).setEnc (h.txChunk.at2 e).loseChunk

theorem Keeps.handPicture (h : Keeps anywhere s₀ s) {n : Nat} {c : EncCur} : Keeps anywhere s₀ (s.handPicture n c) :=
  h.foldl fun _ _ ht => .ite ht ht.handChunk

/-! #### Sys2Proof/Machine/EncCmds.lean -/

theorem Keeps.openEnc (h : Keeps W s₀ s) {r : Req} {n pipe cell : Nat} {mem : List Nat} {srcLog recLog : Nat} :
    Keeps W s₀ (s.openEnc r n pipe cell mem srcLog recLog) := .encFigures (.setEncState (.ite (h.setEnc.updLdg.foldl fun _ _ ht =>
    ht.wr).wr.wr.wr.wr.wr.wr.wr (h.setEnc.updLdg.foldl fun _ _ ht => ht.wr).wr.wr.wr.wr))

theorem Keeps.cmdEncSessionOpen (h : Keeps anywhere s₀ s) {r : Req} : Keeps anywhere s₀ (cmdEncSessionOpen r s).1 := by
  dsimp only [Machine.cmdEncSessionOpen]
  split
  · exact h
  · split
    · split
      · exact h
      · exact h
      next hm _ => exact .ite1 h (h.allocCells.takeMemory hm).openEnc
    · exact h

theorem Keeps.drainEnc (h : Keeps W s₀ s) {n ms : Nat} {w : Option Waiter} {pipe : Bool} : Keeps W s₀ (s.drainEnc n ms w pipe) := by
  rw [State.drainEnc]
  split
  next e => exact .ite (h.injTake.at2 e).setEnc (h.injTake.at2 e).setEnc.bump.setEncState

theorem Keeps.cmdEncSessionClose (h : Keeps W s₀ s) {r : Req} : Keeps W s₀ (cmdEncSessionClose r s).1 := by
  rw [Machine.cmdEncSessionClose]
  refine h.refuseOr ?_
  dsimp only
  exact h.drainEnc

theorem Keeps.cmdEncSessionSet (h : Keeps W s₀ s) {r : Req} : Keeps W s₀ (cmdEncSessionSet r s).1 :=
  h.refuseOr (.ite (.resumeEncs (.ite h.setEnc.setEnc.encFigures h.setEnc)) (.ite h.setEnc.setEnc.encFigures h.setEnc))

theorem Keeps.cmdEncRefresh (h : Keeps W s₀ s) {r : Req} : Keeps W s₀ (cmdEncRefresh r s).1 := h.refuseOr h.coppice

theorem Keeps.cmdEncSessionQuery (h : Keeps W s₀ s) {r : Req} : Keeps W s₀ (cmdEncSessionQuery r s).1 := h.refuseOr h

theorem Keeps.encPipeMoved (h : Keeps W s₀ s) {p : Nat} : Keeps W s₀ (s.encPipeMoved p) :=
  .ite h (.answer (.setEncPipe (.ite h.setFld.decideEncs h.setFld)))

theorem Keeps.drainEncPipe (h : Keeps W s₀ s) {p ms : Nat} {w : Waiter} : Keeps W s₀ (s.drainEncPipe p ms w) :=
  h.setFld.setFld.setEncPipe.encFigures.foldl fun _ _ ht => ht.drainEnc

theorem Keeps.cmdEncPipeCtrl (h : Keeps W s₀ s) {r : Req} : Keeps W s₀ (cmdEncPipeCtrl r s).1 :=
  h.refuseOr (.ite1 (.ite1 h h.setFld.encFigures.resumeEncs) (.ite1 h (.ite1 h.drainEncPipe h.drainEncPipe.setEncPipe.encPipeMoved)))

theorem Keeps.beginCode (h : Keeps W s₀ s) {n : Nat} {src : EncSrc} {op : EncCode} : Keeps W s₀ (s.beginCode n src op) :=
  .ite h.setEnc.wr.wr.raise h.setEnc.wr.wr

theorem Keeps.countLate (h : Keeps W s₀ s) {n : Nat} {late : Bool} : Keeps W s₀ (s.countLate n late) := .ite h.setEnc.raise.bump h.setEnc

theorem Keeps.encBudget (h : Keeps W s₀ s) {n skips overrun : Nat} : Keeps W s₀ (s.encBudget n skips overrun) := h.notice

theorem Keeps.endCode (h : Keeps anywhere s₀ s) {n : Nat} : Keeps anywhere s₀ (s.endCode n) := by
  dsimp only [State.endCode]
  split
  · exact h
  · exact .via (.ite h.setEnc.handPicture h.setEnc) fun h1 =>
      .via (.foldl h1 fun _ _ ht => ht.countLate) fun h2 =>
      .via (.ite h1.countLate (.ite h2 h1)) fun h3 =>
      .via h3.setFld.setFld.setFld.raise fun h4 =>
      .via (.ite h4 h3.setFld.setFld.setFld) fun h5 =>
      .via (.raise (.ite h5 h5.raise)) fun h6 =>
      .wr (.setFld (.bumpWrap (.encBoundary (.setEnc (.ite (.encBudget (.ite (.ite h5 h5.raise) h6.bump)) (.ite (.ite h5 h5.raise)
        h6.bump))))))

theorem Keeps.codeRow (h : Keeps anywhere s₀ s) {n : Nat} {op : EncCode} : Keeps anywhere s₀ (s.codeRow n op) := by
  dsimp only [State.codeRow]
  split
  · exact h
  · exact .via h.reconRow.encAfter.setEnc.bumpWrap fun h1 =>
      .via (.raise (.ite h1.bump.bump h1)) fun h2 =>
      .via (.ite h2 (.ite h1.bump.bump h1)) fun h3 =>
      .ite (.endCode (.ite (.countLate (.ite h3.handChunk h3)) (.ite h3.handChunk h3))) (.ite (.countLate (.ite h3.handChunk h3)) (.ite
        h3.handChunk h3))

theorem Keeps.rowReads (h : Keeps anywhere s₀ s) {n : Nat} {x : EncSrc} {r : Nat} : Keeps anywhere s₀ (s.rowReads n x r).2.2.2 :=
  .ite222 h.loadEncPipe.unitLoad h.loadEncPipe.unitLoad.unitLoad

theorem Keeps.serveEnc {t : State} {n r : Nat} {x : EncSrc} {op : EncCode} (h : Keeps anywhere s₀ s)
    (e : s.serveEnc n x r op = some t) : Keeps anywhere s₀ t := by
  unfold State.serveEnc at e
  split at e
  next run _ _ u e1 =>
  have h1 : Keeps anywhere s₀ (u.encAfter n run) := (h.rowReads.at222 e1).encAfter
  extract_lets u1 poisoned d v at e
  have h2 : Keeps anywhere s₀ v := .ite h1.setEnc h1
  split at e
  · cases e; exact h2.codeRow
  · cases e

theorem Keeps.encRow (h : Keeps anywhere s₀ s) {n : Nat} {op : EncCode} : Keeps anywhere s₀ (s.encRow n op) := by
  unfold State.encRow
  extract_lets d p works
  refine .ite h ?_
  split
  · exact .ite (h.getD fun _ e => h.serveEnc e) h
  · split
    · exact h
    · exact .ite h (h.getD fun _ e => h.beginCode.serveEnc e)

theorem Keeps.encDone (h : Keeps W s₀ s) {n : Nat} : Keeps W s₀ (s.encDone n) := by
  dsimp only [State.encDone]
  split
  · exact h
  · exact h.setEnc.sendConfirm

theorem Keeps.encCons (h : Keeps anywhere s₀ s) {n v : Nat} : Keeps anywhere s₀ (s.encCons n v) :=
  .ite h.wr.abortFlush (.ite h.raise h.raise.encRingFault)

theorem Keeps.finishEncClose (h : Keeps anywhere s₀ s) {n : Nat} : Keeps anywhere s₀ (s.finishEncClose n) :=
  (h.foldl fun _ _ ht => .ite ht.setEncPipe
  ht).freeCells.giveMemory.updLdg.setEnc.setEncState.encStateNotice.wr.wr.wr.wr.encFigures.answer.resumeEncs

theorem Keeps.encDrained (h : Keeps anywhere s₀ s) {n : Nat} : Keeps anywhere s₀ (s.encDrained n) :=
  .ite h.finishEncClose (.ite h (.ite h.setEnc.encBoundary.encPipeMoved h.encDone.finishEncClose))

theorem Keeps.encDrainTimeout (h : Keeps anywhere s₀ s) {n : Nat} : Keeps anywhere s₀ (s.encDrainTimeout n) := by
  dsimp only [State.encDrainTimeout]
  split
  · exact h
  · exact .via (.bump (.ite h h.setEncState)) fun h1 =>
      .via (.ite h1 (.ite h h.setEncState)) fun h2 =>
      .ite h (.ite h2.encAbort.bump.raise.setEnc.logFault.encBoundary.encPipeMoved h2.encAbort.bump.raise.setEnc.logFault)

theorem Keeps.cmdPktTxFlowSet (h : Keeps W s₀ s) {r : Req} : Keeps W s₀ (cmdPktTxFlowSet r s).1 := h.refuseOr h.setEnc.wr.wr

theorem Keeps.senderReport (h : Keeps W s₀ s) {n : Nat} : Keeps W s₀ (s.senderReport n) := by
  dsimp only [State.senderReport]
  split
  · exact h
  · exact .ite h (.ite h.setEnc (.ite h.setEnc.bump (.ite h.setEnc.txPut h.setEnc.txPut.bump)))

/-! #### Sys2Proof/Machine/LaneOps.lean -/

theorem Keeps.partnerNotice (h : Keeps W s₀ s) {i : Nat} : Keeps W s₀ (s.partnerNotice i) := h.notice

theorem Keeps.loadLane (h : Keeps W s₀ s) {i : Nat} {rec : List Byte} : Keeps W s₀ (s.loadLane i rec) :=
  .ite h.wr.wr.wr.setFld.logFault h.wr.wr.wr

theorem Keeps.setCapState (h : Keeps W s₀ s) {i v : Nat} : Keeps W s₀ (s.setCapState i v) := h.setFld.setFld

theorem Keeps.capNotice (h : Keeps W s₀ s) {i flags : Nat} : Keeps W s₀ (s.capNotice i flags) := h.notice

theorem Keeps.capTornNotice (h : Keeps W s₀ s) {i cause cls pics : Nat} : Keeps W s₀ (s.capTornNotice i cause cls pics) := h.notice

theorem Keeps.tearCapture (h : Keeps W s₀ s) {i cause : Nat} {injected : Bool} : Keeps W s₀ (s.tearCapture i cause injected) := by
  dsimp only [State.tearCapture]
  split
  · exact h
  · exact .ite h.setCap (.ite h.setCap.raise.bump.bump.detFail.capTornNotice h.setCap.raise.bump.bump.detFail)

theorem Keeps.capComplete (h : Keeps W s₀ s) {i : Nat} : Keeps W s₀ (s.capComplete i) := by
  rw [State.capComplete]
  obtain ⟨take, hi⟩ := exists_eq (a' := @State.injTake)
  rw [← hi]
  split
  · exact h
  · refine .ite h ?_
    split
    next e =>
    rw [hi] at e
    have h1 := h.injTake.at2 e
    refine .ite h1.tearCapture ?_
    extract_lets n
    split
    extract_lets pic x s1 s2 s3 s4 first
    have h2 : Keeps W s₀ s2 := h1.setPool.setCap.wr.bumpWrap.setFld.setFld
    have h3 : Keeps W s₀ s3 := .ite h2.bump h2
    have h4 : Keeps W s₀ s4 := by
      unfold s4
      split
      · exact h3.wr64
      · exact h3
    split
    next e5 =>
    have h5 := h4.confirmCell.detPass.at2 e5
    exact .ite h5.capTornNotice h5

theorem Keeps.capFrameStart (h : Keeps W s₀ s) {i tag : Nat} : Keeps W s₀ (s.capFrameStart i tag) := by
  unfold State.capFrameStart
  extract_lets s1 s2 x
  have h2 : Keeps W s₀ s2 := .ite h.capComplete.tearCapture.setCapState.capNotice h.capComplete.tearCapture
  refine .ite h2 ?_
  split
  · exact h2
  · exact h2.setCap

theorem Keeps.capMode (h : Keeps W s₀ s) {i : Nat} {m : List Byte} : Keeps W s₀ (s.capMode i m) := by
  dsimp only [State.capMode]
  split
  · exact h
  · exact .ite h.raise.tearCapture (.ite h.setCap.confirmCell.raise.bump.capTornNotice h.setCap)

theorem Keeps.capLineStart (h : Keeps W s₀ s) {i y tag : Nat} : Keeps W s₀ (s.capLineStart i y tag) := by
  dsimp only [State.capLineStart]
  split
  · exact h
  · exact .ite h (.ite h.tearCapture h.setCap)

theorem Keeps.capPixels (h : Keeps anywhere s₀ s) {i tag line first count : Nat} {last : Bool} {payload : List Byte} :
    Keeps anywhere s₀ (s.capPixels i tag line first count last payload) := by
  dsimp only [State.capPixels]
  split
  · exact h
  · exact .ite h (.ite h.tearCapture (.ite (.tearCapture (.unitStore (.ite h.setPool h))) (.setCap (.unitStore (.ite h.setPool h)))))

theorem Keeps.finishCap (h : Keeps anywhere s₀ s) {i reset : Nat} : Keeps anywhere s₀ (s.finishCap i reset) :=
  h.setFbkRegion.freeCells.giveMemory.setPool.updLdg.setCap.setCapState.capNotice.wr.wr.answer

theorem Keeps.showPairLanes (h : Keeps W s₀ s) : Keeps W s₀ s.showPairLanes := h.setFld

theorem Keeps.settleUnsupp (h : Keeps W s₀ s) {n : Nat} : Keeps W s₀ (s.settleUnsupp n) := .ite h h.setFld.partnerNotice

theorem Keeps.laneTo (h : Keeps W s₀ s) {i st cause : Nat} : Keeps W s₀ (s.laneTo i st cause) :=
  .via (.ite h.setFld.setLane h.setFld.setLane.setFld) fun h1 =>
  .via (.ite h1.setFld.setFld.setFld h1) fun h2 =>
  .via (.ite h2.setFld.setFld.setFld h2) fun h3 =>
  .via (.ite h3.setFld.setFld.setFld h3) fun h4 =>
  .via h4.settleTx.settleUnsupp fun h5 =>
  .ite (.notice (.ite h5 (.ite (.ite h4.tearCapture h4) h4.showPairLanes))) (.ite h5 (.ite (.ite h4.tearCapture h4) h4.showPairLanes))

theorem Keeps.powerLane (h : Keeps W s₀ s) {i : Nat} : Keeps W s₀ (s.powerLane i) := .ite h.setFld.setLane h

theorem Keeps.laneUp (h : Keeps W s₀ s) {i : Nat} : Keeps W s₀ (s.laneUp i) := .ite h.laneTo.setFld h.laneTo

theorem Keeps.retrainLane (h : Keeps W s₀ s) {i : Nat} : Keeps W s₀ (s.retrainLane i) := .ite h.laneTo (.ite h.laneTo h)

theorem Keeps.sendAck (h : Keeps W s₀ s) {i : Nat} {nak : Bool} {seq : Nat} : Keeps W s₀ (s.sendAck i nak seq) := h.emit

theorem Keeps.replayGood (h : Keeps W s₀ s) {i : Nat} : Keeps W s₀ (s.replayGood i) := .ite h.setRun h.setLane.setRun.detPass

theorem Keeps.ackFlit (h : Keeps W s₀ s) {i seq : Nat} : Keeps W s₀ (s.ackFlit i seq) :=
  .via h.setReplay.setLane.replayGood fun h1 =>
  .ite h (.ite (.settleThrottle (.pumpLane (.ite h.setReplay h1))) (.pumpLane (.ite h.setReplay h1)))

theorem Keeps.replayFrom (h : Keeps W s₀ s) {i seq : Nat} : Keeps W s₀ (s.replayFrom i seq) :=
  .ite h.setReplay.bump.raise.setLane.setRun.detFail.setRun.notice.laneTo (h.bump.setRun.setLane.emit.foldl fun _ _ ht => ht.emit)

theorem Keeps.nakFlit (h : Keeps W s₀ s) {i seq : Nat} : Keeps W s₀ (s.nakFlit i seq) := .ite h.replayFrom h

theorem Keeps.sendFrameStart (h : Keeps W s₀ s) {n : Nat} {resumed : Bool} : Keeps W s₀ (s.sendFrameStart n resumed) := h.emit.sendFlit

theorem Keeps.sendLine (h : Keeps W s₀ s) {n y : Nat} {px : List Nat} : Keeps W s₀ (s.sendLine n y px) := by
  rw [State.sendLine]
  split
  next e =>
    have h1 := Keeps.at2 (h.emit.foldl2 fun p f ht => .ite2 (a := (true, p.2)) ht ht.sendFlit) e
    exact .ite h1.bump h1

/-! #### Sys2Proof/Machine/Policy.lean -/

theorem Keeps.setPol (h : Keeps W s₀ s) {x : PolSt} : Keeps W s₀ (s.setPol x) := h.updPol

theorem Keeps.restartWindows (h : Keeps W s₀ s) : Keeps W s₀ s.restartWindows := h.setPol

theorem Keeps.tradeNotice (h : Keeps W s₀ s) {kept broken cause n mask : Nat} : Keeps W s₀ (s.tradeNotice kept broken cause n mask) :=
  h.notice

theorem Keeps.capEncs (h : Keeps W s₀ s) {pct : Option Nat} : Keeps W s₀ (s.capEncs pct) := h.foldl fun _ _ ht => ht.setEnc

theorem Keeps.setRung (h : Keeps W s₀ s) {r : Nat} {on : Bool} {moves : List (Nat × Nat)} : Keeps W s₀ (s.setRung r on moves) :=
  .ite h.setPol.applyDecPlaces (.ite h.setPol.capEncs h.setPol)

theorem Keeps.placeLost (h : Keeps W s₀ s) : Keeps W s₀ s.placeLost :=
  .ite h (.ite (.ite h h.decideDecs) (.decideEncs (.ite h h.decideDecs)))

theorem Keeps.settlePlaces (h : Keeps W s₀ s) : Keeps W s₀ s.settlePlaces :=
  ((((h.foldl fun _ _ ht => ht.atBoundary).foldl fun _ _ ht => ht.encBoundary).foldl fun _ _ ht => ht.pipeMoved).foldl fun _ _ ht =>
  ht.encPipeMoved).placeLost.resumeDecs.resumeEncs

theorem Keeps.parkSession (h : Keeps W s₀ s) {enc : Bool} {n : Nat} : Keeps W s₀ (s.parkSession enc n) :=
  .ite h.applyEncPlaces h.applyDecPlaces

theorem Keeps.underrunTrade (h : Keeps W s₀ s) {n lines : Nat} {lasting : Bool} : Keeps W s₀ (s.underrunTrade n lines lasting) := by
  dsimp only [State.underrunTrade]
  split
  · exact h.setPol
  · split
    · exact .ite h.setPol h
    · split
      · exact h
      · split
        · exact h
        · exact .ite h h.setPol.parkSession.sendDecision.tradeNotice

theorem Keeps.frameMeasure (h : Keeps W s₀ s) {n minLast lines : Nat} {lasting : Bool} :
    Keeps W s₀ (s.frameMeasure n minLast lines lasting) := .underrunTrade (.ite h.setPol.firePressure h.setPol)

theorem Keeps.waitTrade (h : Keeps W s₀ s) {kind n : Nat} : Keeps W s₀ (s.waitTrade kind n) := .ite h h.setPol

theorem Keeps.returnRetrain (h : Keeps W s₀ s) {n : Nat} : Keeps W s₀ (s.returnRetrain n) :=
  .ite h (.ite h.waitTrade h.setPol.retrainLane.tradeNotice)

theorem Keeps.retrainDone (h : Keeps W s₀ s) {n : Nat} : Keeps W s₀ (s.retrainDone n) := .ite h.setPol h

theorem Keeps.voidSlice (h : Keeps W s₀ s) {n : Nat} : Keeps W s₀ (s.voidSlice n) :=
  .ite h (.ite h.waitTrade (.ite h (h.foldl fun _ _ ht => ht.setGate.setFld).setPol.tradeNotice))

theorem Keeps.settleTrades (h : Keeps W s₀ s) : Keeps W s₀ s.settleTrades :=
  h.setPol.foldl fun _ _ ht => .ite ht.returnRetrain ht.voidSlice

/-! #### Sys2Proof/Machine/TimeCmds.lean -/

theorem Keeps.timeChanged (h : Keeps W s₀ s) {old : Nat} {trusted : Bool} : Keeps W s₀ (s.timeChanged old trusted) :=
  .ite h.updTime.notice h.updTime

theorem Keeps.countUntrusted (h : Keeps W s₀ s) {old : Nat} : Keeps W s₀ (s.countUntrusted old) := .ite h.bump.raise h

theorem Keeps.servoTo (h : Keeps W s₀ s) {st : Nat} : Keeps W s₀ (s.servoTo st) := h.setFld.setFld.updTime.countUntrusted.timeChanged

theorem Keeps.sendTime (h : Keeps W s₀ s) {kind at_ : Nat} {delta : Int} : Keeps W s₀ (s.sendTime kind at_ delta) := .ite h.pairSend h

theorem Keeps.ptpMoved (h : Keeps W s₀ s) {delta : Int} {cause : Nat} : Keeps W s₀ (s.ptpMoved delta cause) :=
  h.resetHistory.bump.raise.wr64.notice.rephaseAll

theorem Keeps.stepPtp (h : Keeps W s₀ s) {delta : Int} {cause : Nat} : Keeps W s₀ (s.stepPtp delta cause).2 :=
  .ite2 h.bump h.setPtpNs.setFld.setFld.dropAnchors.ptpMoved.sendTime

theorem Keeps.servoWrite (h : Keeps W s₀ s) {v : Int} : Keeps W s₀ (s.servoWrite v) := .ite h.setPtpAdj h.setPtpAdj.sendTime

theorem Keeps.selectMaster (h : Keeps W s₀ s) {port master gm : Nat} : Keeps W s₀ (s.selectMaster port master gm) :=
  .ite (.servoTo (.ite h.setFld.setFld.wr64 h.setFld.setFld.wr64.updTime)) (.ite h.setFld.setFld.wr64 h.setFld.setFld.wr64.updTime)

theorem Keeps.hearAnnounce (h : Keeps W s₀ s) {p : Nat} {message : List Byte} : Keeps W s₀ (s.hearAnnounce p message) := by
  dsimp only [State.hearAnnounce]
  split
  · exact .ite h.updTime.selectMaster h.updTime
  · exact h.updTime

theorem Keeps.hearPtp (h : Keeps W s₀ s) {p : Nat} {message : List Byte} {stamp : Nat} : Keeps W s₀ (s.hearPtp p message stamp) :=
  .ite h (.ite h.hearAnnounce (.ite h (.ite h.updTime (.ite h.updTime (.ite h.updTime h)))))

theorem Keeps.gather (h : Keeps W s₀ s) {t offset : Int} : Keeps W s₀ (s.gather t offset) := by
  dsimp only [State.gather]
  refine .ite h (.ite h.updTime ?_)
  split
  next hx => exact h.updTime.stepPtp.at2 hx
  next hx => exact (h.updTime.stepPtp.at2 hx).servoWrite.updTime.servoTo

theorem Keeps.nearOffset (h : Keeps W s₀ s) {t offset : Int} : Keeps W s₀ (s.nearOffset t offset) :=
  .via (.ite h.updTime h.updTime.servoTo) fun h1 =>
  .via (.ite h.updTime.servoTo h.updTime.updTime) fun h2 =>
  .gather (.ite (.servoWrite (.nextFree (.ite h1 (.ite h2 h.updTime)))) (.ite h1 (.ite h2 h.updTime)))

theorem Keeps.farOffset (h : Keeps W s₀ s) {t offset : Int} : Keeps W s₀ (s.farOffset t offset) :=
  .ite (.ite h.updTime.bump h.servoTo.gather) h.updTime.gather

theorem Keeps.measure (h : Keeps W s₀ s) {port master gm : Nat} {t1 t2 t3 t4 : Int} : Keeps W s₀ (s.measure port master gm t1 t2 t3 t4) :=
  .ite h.selectMaster.wr.wr.nearOffset h.selectMaster.wr.wr.farOffset

theorem Keeps.takeMeasure (h : Keeps W s₀ s) {port master gm : Nat} {t1 t2 t3 t4 : Int} :
    Keeps W s₀ (s.takeMeasure port master gm t1 t2 t3 t4) := .ite h h.measure.updTime

theorem Keeps.loseMaster (h : Keeps W s₀ s) : Keeps W s₀ s.loseMaster := .ite h.setFld.updTime.servoTo h.setFld.updTime

theorem Keeps.holdoverOver (h : Keeps W s₀ s) : Keeps W s₀ s.holdoverOver := .ite h (.ite h.servoTo h.setFld.timeChanged)

theorem Keeps.setTxq (h : Keeps W s₀ s) {l : List TxStamp} : Keeps W s₀ (s.setTxq l) := h.updTime.wr.setFld

theorem Keeps.pushTxStamp (h : Keeps W s₀ s) {x : TxStamp} : Keeps W s₀ (s.pushTxStamp x) := .ite h.setTxq h.bump.raise.notice

theorem Keeps.sendDelayReq (h : Keeps W s₀ s) {message : List Byte} : Keeps W s₀ (s.sendDelayReq message) :=
  .ite h.emit.updTime.pushTxStamp h

theorem Keeps.cmdTimCfg (h : Keeps W s₀ s) {r : Req} : Keeps W s₀ (cmdTimCfg r s).1 :=
  h.refuseOr (.ite h.setFld.setFld.setFld.updTime.loseMaster h.setFld.setFld.setFld.updTime)

theorem Keeps.cmdTimReEpoch (h : Keeps W s₀ s) {r : Req} : Keeps W s₀ (cmdTimReEpoch r s).1 := h.refuseOr h.setFld.updTime

theorem Keeps.cmdTimPpsCfg (h : Keeps W s₀ s) {r : Req} : Keeps W s₀ (cmdTimPpsCfg r s).1 := h.refuseOr h.setFld.setFld.updTime

theorem Keeps.cmdTimQuery (h : Keeps W s₀ s) {r : Req} : Keeps W s₀ (cmdTimQuery r s).1 := h.refuseOr h

/-! #### Sys2Proof/Machine/PairOps.lean -/

theorem Keeps.setPair (h : Keeps W s₀ s) {p : PairSt} : Keeps W s₀ (s.setPair p) := h.updPair

theorem Keeps.setPairOut (h : Keeps W s₀ s) {n : Nat} {x : PairOut} : Keeps W s₀ (s.setPairOut n x) := h.setPair

theorem Keeps.showAlive (h : Keeps W s₀ s) : Keeps W s₀ s.showAlive := h.setFld.setFld

theorem Keeps.setOwn (h : Keeps W s₀ s) {v : Bool} : Keeps W s₀ (s.setOwn v) := .setPair (.ite h.setFld.setFld h.setFld)

theorem Keeps.egressOn (h : Keeps W s₀ s) : Keeps W s₀ s.egressOn := h.foldl fun _ _ ht => ht.powerLane

theorem Keeps.egressOff (h : Keeps W s₀ s) : Keeps W s₀ s.egressOff := .ite h (h.foldl fun _ _ ht => .ite ht.laneTo ht)

theorem Keeps.settleSends (h : Keeps W s₀ s) : Keeps W s₀ s.settleSends :=
  ((h.foldl fun _ _ ht => ht.settleTx).foldl fun _ _ ht => .ite ht.setFld ht)

theorem Keeps.stopMirror (h : Keeps W s₀ s) : Keeps W s₀ s.stopMirror := (h.setPair.setFld.foldl fun _ _ ht => ht.setLane).settleThrottle

theorem Keeps.dropClaim (h : Keeps W s₀ s) : Keeps W s₀ s.dropClaim := h.setFld.setPair

theorem Keeps.endSwitch (h : Keeps W s₀ s) {r : Nat} : Keeps W s₀ (s.endSwitch r) := h.setPair.answer

theorem Keeps.refreshEncs (h : Keeps W s₀ s) : Keeps W s₀ s.refreshEncs := h.foldl fun _ _ ht => .ite ht.coppice ht

theorem Keeps.claimDisplays (h : Keeps W s₀ s) {switching : Bool} : Keeps W s₀ (s.claimDisplays switching) :=
  h.setOwn.egressOn.setPair.refreshEncs

theorem Keeps.takeOver (h : Keeps W s₀ s) {cause : Nat} {blind : Bool} : Keeps W s₀ (s.takeOver cause blind) :=
  h.dropMirror.claimDisplays.bump.raise.stopMirror.setPair.setRole.settleSends.placeLost

theorem Keeps.isolate (h : Keeps W s₀ s) {cause : Nat} : Keeps W s₀ (s.isolate cause) := h.dropMirror.dropClaim.setRole.endSwitch

theorem Keeps.beginTakeover (h : Keeps W s₀ s) {cause : Nat} : Keeps W s₀ (s.beginTakeover cause) :=
  .ite h.takeOver (.ite h.isolate (.ite h h.setPair))

theorem Keeps.enterFaulted (h : Keeps W s₀ s) {cause : Nat} : Keeps W s₀ (s.enterFaulted cause) :=
  h.dropMirror.stopMirror.setOwn.dropClaim.setFld.setRole.setPair.egressOff.settleSends.endSwitch

theorem Keeps.partnerGone (h : Keeps W s₀ s) {cause : Nat} : Keeps W s₀ (s.partnerGone cause) :=
  .ite h.stopMirror.setRole.settleSends.endSwitch (.ite h.beginTakeover (.ite h.beginTakeover h))

theorem Keeps.alignAge (h : Keeps W s₀ s) {d : Int} : Keeps W s₀ (s.alignAge d) := .ite h.raise h.updClk.wr64.resetHistory

theorem Keeps.alignJoin (h : Keeps W s₀ s) {d : Int} : Keeps W s₀ (s.alignJoin d) :=
  .ite h.alignAge (.ite h.alignAge (.ite h.setPair.setAgeAdj (.ite h h.alignAge.raise.enterFaulted)))

theorem Keeps.alignPtp (h : Keeps W s₀ s) {d : Int} {status : Nat} : Keeps W s₀ (s.alignPtp d status) :=
  h.setPtpNs.setFld.setFld.setFld.setFld.dropAnchors.updTime.setFld.ptpMoved.countUntrusted.timeChanged

theorem Keeps.clearConverged (h : Keeps W s₀ s) {n : Nat} : Keeps W s₀ (s.clearConverged n) := h.setFld.setPairOut

theorem Keeps.startTransfer (h : Keeps anywhere s₀ s) : Keeps anywhere s₀ s.startTransfer := by
  unfold State.startTransfer
  extract_lets s00 p s0 send s1 s1b s2 s3
  have hs (t : State) (b : List Byte) (ht : Keeps anywhere s₀ t) : Keeps anywhere s₀ (send t b) := ht.pairSend.setPair
  have h00 : Keeps anywhere s₀ s00 := h.foldl fun _ _ ht => ht.clearConverged
  have h1 : Keeps anywhere s₀ s1b := (hs _ _ h00.setPair.wr.wr.nextFree).foldl fun t g ht => hs t _ ht
  have h2 : Keeps anywhere s₀ s2 := by
    refine h1.foldl fun t b ht => ?_
    split
    next e => exact hs _ _ (ht.unitLoad.at2222 e)
  exact (h2.foldl fun t c ht => hs t _ ht).pairSend

theorem Keeps.disagreeNotice (h : Keeps W s₀ s) {n cls f region attrib : Nat} : Keeps W s₀ (s.disagreeNotice n cls f region attrib) :=
  h.notice

theorem Keeps.disputeLater (h : Keeps W s₀ s) {n f : Nat} {l : List Rect} : Keeps W s₀ (s.disputeLater n f l) := h.setPairOut

theorem Keeps.writeDisputes (h : Keeps W s₀ s) {n : Nat} {l : List Rect} : Keeps W s₀ (s.writeDisputes n l) :=
  (h.foldl fun _ _ ht => ht.wr.wr).setFld

theorem Keeps.applyDisputes (h : Keeps W s₀ s) {n f : Nat} : Keeps W s₀ (s.applyDisputes n f) :=
  .ite h (h.setPairOut.foldl fun _ _ ht => ht.writeDisputes)

theorem Keeps.tellDisputes (h : Keeps W s₀ s) {n f : Nat} {old new : List Dispute} : Keeps W s₀ (s.tellDisputes n f old new) :=
  ((h.foldl fun _ _ ht => ht.notice).foldl fun _ _ ht => ht.notice)

theorem Keeps.setDisputes (h : Keeps W s₀ s) {n f : Nat} {l : List Dispute} : Keeps W s₀ (s.setDisputes n f l) :=
  h.setPairOut.pairSend.disputeLater.tellDisputes

theorem Keeps.ageDisputes (h : Keeps W s₀ s) {n f : Nat} {compared bad : List Nat} : Keeps W s₀ (s.ageDisputes n f compared bad) :=
  .ite h.setPairOut h.setDisputes

theorem Keeps.markOwn (h : Keeps W s₀ s) {n f : Nat} {l : List Nat} : Keeps W s₀ (s.markOwn n f l) := .ite h h.setDisputes.tradeNotice

theorem Keeps.ageOwn (h : Keeps W s₀ s) {n f : Nat} : Keeps W s₀ (s.ageOwn n f) := .ite h (.ite h.setPairOut h.setDisputes)

theorem Keeps.performAct (h : Keeps W s₀ s) {x : PairAct} : Keeps W s₀ (s.performAct x) :=
  .ite (.ite h.enterFaulted (.ite h (.ite h.voidSlice h.markOwn))) (.ite (.ite h h.setDisputes) h)

theorem Keeps.disagreeAction (h : Keeps W s₀ s) {x : PairAct} : Keeps W s₀ (s.disagreeAction x) := .ite h.performAct h.setPair

theorem Keeps.runActs (h : Keeps W s₀ s) : Keeps W s₀ s.runActs := h.setPair.foldl fun _ _ ht => ht.performAct

theorem Keeps.disagree (h : Keeps W s₀ s) {n : Nat} {a b : SigRec} {bad : List (RegionSig × RegionSig)} {injected : Bool} :
    Keeps W s₀ (s.disagree n a b bad injected) := .ite h.setFld.setFld.setFld.setFld.wr.setPairOut.bump.logFault.disagreeNotice (.ite
    (.ite h.setFld.setFld.setFld.setFld.wr.setPairOut.bump.raise.logFault.disagreeNotice.disagreeAction
    h.setFld.setFld.setFld.setFld.wr.setPairOut.bump.raise.logFault.disagreeNotice) h.setFld.setFld.setFld.setFld.wr.setPairOut)

theorem Keeps.agree (h : Keeps W s₀ s) {n : Nat} : Keeps W s₀ (s.agree n) :=
  .ite h.setFld.setFld.setFld.setFld.wr.setPairOut.setFld h.setFld.setFld.setFld.setFld.wr.setPairOut

theorem Keeps.exclude (h : Keeps W s₀ s) {n cause : Nat} : Keeps W s₀ (s.exclude n cause) := h.setFld.setFld.setFld.wr

theorem Keeps.compareRecords (h : Keeps W s₀ s) {n : Nat} {a b : SigRec} {injected : Bool} :
    Keeps W s₀ (s.compareRecords n a b injected) := .ite h.wr.exclude (.ite (.ageDisputes (.ite h.wr.agree h.wr.disagree)) (.ite
    h.wr.agree h.wr.disagree))

theorem Keeps.matchRecords (h : Keeps W s₀ s) {n : Nat} : Keeps W s₀ (s.matchRecords n) :=
  .foldl h fun _ _ ht => by split; exacts [ht, ht.setPairOut.compareRecords]

theorem Keeps.missingRecords (h : Keeps W s₀ s) {n f : Nat} : Keeps W s₀ (s.missingRecords n f) :=
  .ite h (h.setPairOut.foldl fun _ _ ht => ht.bump.wr.exclude)

theorem Keeps.postRecord (h : Keeps W s₀ s) {n : Nat} {diff : Bool} : Keeps W s₀ (s.postRecord n diff) := by
  rw [State.postRecord]
  refine .ite h ?_
  split
  next e => exact .matchRecords ((h.injTake.at2 e).setPairOut.foldl fun _ _ ht => ht.pairLoose)

/-! #### Sys2Proof/Machine/Ranger.lean -/

theorem Keeps.setSys (h : Keeps W s₀ s) {x : SysSt} : Keeps W s₀ (s.setSys x) := h.updSys

theorem Keeps.setRanger (h : Keeps W s₀ s) {r : RangerSt} : Keeps W s₀ (s.setRanger r) := h.updRanger

theorem Keeps.setHlt (h : Keeps W s₀ s) {h' : HltSt} : Keeps W s₀ (s.setHlt h') := h.updHlt

theorem Keeps.setSvc (h : Keeps W s₀ s) {v : Bool} : Keeps W s₀ (s.setSvc v) :=
  h.setFld.setFld.setFld.setFld.setFld.foldl fun _ _ ht => ht.setFld

theorem Keeps.svcNotice (h : Keeps W s₀ s) {state cause remain : Nat} : Keeps W s₀ (s.svcNotice state cause remain) := h.notice

theorem Keeps.endService (h : Keeps W s₀ s) {cause : Nat} : Keeps W s₀ (s.endService cause) :=
  .ite h (h.setSvc.foldl fun _ _ ht => ht.setCmt).svcNotice

theorem Keeps.cancelInjection (h : Keeps W s₀ s) : Keeps W s₀ s.cancelInjection := h.setHlt.setFld.setFld

theorem Keeps.abortMailbox (h : Keeps W s₀ s) {m : Nat} : Keeps W s₀ (s.abortMailbox m) := .ite h.complete (.ite h.complete h)

theorem Keeps.rangerStop (h : Keeps W s₀ s) {restarting : Bool} : Keeps W s₀ (s.rangerStop restarting) :=
  .foldl (.loseFolded (.ite h.setFld.setFld.msixRequest h.setFld.setFld)) fun _ _ ht => ht.abortMailbox

theorem Keeps.restartBegins (h : Keeps W s₀ s) {cause : Nat} : Keeps W s₀ (s.restartBegins cause) :=
  h.rangerStop.endService.cancelInjection.setFld.setRanger

theorem Keeps.fatal (h : Keeps W s₀ s) {cause det inst : Nat} {injected : Bool} : Keeps W s₀ (s.fatal cause det inst injected) :=
  .ite h.logFault (.blzOrder (.foldl (.ite h.logFault.setFld.setFld.rangerStop.setRanger.enterFaulted
  h.logFault.setFld.setFld.rangerStop.setRanger.setFld.setFld) fun _ _ ht => .ite ht.setGate ht))

theorem Keeps.classRestart (h : Keeps W s₀ s) : Keeps W s₀ s.classRestart := by
  dsimp only [State.classRestart]
  split
  · exact .ite h.setRun.setRanger.logFault h
  · exact h

theorem Keeps.faultRestart (h : Keeps W s₀ s) {cause : Nat} {injected : Bool} : Keeps W s₀ (s.faultRestart cause injected) := by
  dsimp only [State.faultRestart]
  split
  · exact h.classRestart.setRun.fatal
  · exact h.classRestart.setRun.restartBegins.setRanger

theorem Keeps.reportReady (h : Keeps W s₀ s) {restart : Bool} {kind : Nat} : Keeps W s₀ (s.reportReady restart kind) :=
  .settleTrades (.settlePlaces (.restartWindows (.tellUntold (.setRanger (.blzEvent (.updHlt (.setRanger (.ite
  h.setFld.setFld.msixRequest.setFld h.setFld.setFld.msixRequest))))))))

/-! #### Sys2Proof/Machine/Checks.lean -/

theorem Keeps.setCvu (h : Keeps W s₀ s) {u : Nat} {c : CvuSt} : Keeps W s₀ (s.setCvu u c) := h.updCvu

theorem Keeps.cvuErr (h : Keeps W s₀ s) {u : Nat} : Keeps W s₀ (s.cvuErr u) := h.raise

theorem Keeps.setRunReg (h : Keeps W s₀ s) {u v : Nat} : Keeps W s₀ (s.setRunReg u v) := h.wr64

theorem Keeps.setCvuPos (h : Keeps W s₀ s) {u v : Nat} : Keeps W s₀ (s.setCvuPos u v) := h.wr64

theorem Keeps.cvuReset (h : Keeps W s₀ s) {u : Nat} : Keeps W s₀ (s.cvuReset u) := .ite h.cvuErr h.setRunReg

theorem Keeps.cvuFeed (h : Keeps W s₀ s) {u : Nat} {b : List Byte} : Keeps W s₀ (s.cvuFeed u b) := h.setRunReg

theorem Keeps.cvuConfigWrite (h : Keeps W s₀ s) {u v : Nat} : Keeps W s₀ (s.cvuConfigWrite u v) :=
  .via (.ite (.w1c (.ite h.w1c h)) (.ite h.w1c h)) fun h1 =>
  .ite (.ite h1 h1.cvuErr) (.ite h1.wr.cvuErr h1.wr)

theorem Keeps.cvuGo (h : Keeps W s₀ s) {u : Nat} : Keeps W s₀ (s.cvuGo u) := .ite h.cvuErr h.setFld.setCvuPos.setCvu

theorem Keeps.cvuBlocks (h : Keeps anywhere s₀ s) {u stop k : Nat} {poison : Option Nat} :
    Keeps anywhere s₀ (s.cvuBlocks u stop poison k).2 := by
  induction k generalizing s with
  | zero => exact h
  | succ k ih =>
    dsimp only [State.cvuBlocks]
    exact .ite2 h (.ite2 h (.ite2 h.fbkCheck (.ite2 h.fbkCheck.arrive.loadMem (ih h.fbkCheck.arrive.loadMem.cvuFeed.setCvuPos))))

theorem Keeps.cvuEnd (h : Keeps W s₀ s) {u status : Nat} {late : Bool} : Keeps W s₀ (s.cvuEnd u status late) :=
  h.setFld.raise.setFld.setCvu.answer

theorem Keeps.cvuStopAll (h : Keeps W s₀ s) : Keeps W s₀ s.cvuStopAll := h.foldl fun _ _ ht => .ite ht.cvuEnd ht

theorem Keeps.injRefuse (h : Keeps W s₀ s) {cause : Nat} : Keeps W s₀ (s.injRefuse cause) := h.raise.setFld

theorem Keeps.injAttach (h : Keeps W s₀ s) {det inst p : Nat} : Keeps W s₀ (s.injAttach det inst p) :=
  .bump (.raise (.setHlt (.ite h.updLdg h.updLdg)))

theorem Keeps.injGo (h : Keeps W s₀ s) : Keeps W s₀ s.injGo := by
  unfold State.injGo
  extract_lets det inst p addr armed x s1 i
  have h1 : Keeps W s₀ s1 := h.setHlt.setFld
  exact .ite h.injRefuse (.ite h1.injRefuse (.ite h1.injRefuse (.ite h1.injRefuse (.ite h1.injAttach h1.setHlt.setFld))))

theorem Keeps.injKey (h : Keeps W s₀ s) {key : Nat} : Keeps W s₀ (s.injKey key) :=
  .ite h.cancelInjection.injRefuse (.ite h.setHlt.setFld.setHlt (.ite h.setHlt.setFld.setHlt.setFld h.setHlt.setFld))

theorem Keeps.injExpire (h : Keeps W s₀ s) : Keeps W s₀ s.injExpire := by
  dsimp only [State.injExpire]
  split
  · exact .ite h.setHlt.setFld.raise h
  · exact h

theorem Keeps.injSettle (h : Keeps W s₀ s) : Keeps W s₀ s.injSettle := by
  dsimp only [State.injSettle]
  split
  · exact h
  · exact .ite h.setHlt.answer (.ite h.setHlt.answer h)

/-! #### Sys2Proof/Machine/HltCmds.lean -/

theorem Keeps.sensor (h : Keeps W s₀ s) {k : Nat} {t : Int} : Keeps W s₀ (s.sensor k t).2 := by
  unfold State.sensor
  split
  next e =>
    have h1 := h.injTake.at2 e
    extract_lets x s2
    have h2 : Keeps W s₀ s2 := by
      unfold s2
      split
      · exact h1.setHlt
      · exact h1
    split
    · exact .ite2 h2 h2.setHlt
    · exact h2

theorem Keeps.readSensors (h : Keeps W s₀ s) {ts : List Int} : Keeps W s₀ (s.readSensors ts) := h.foldl fun _ _ ht => ht.sensor.setFld

theorem Keeps.judgeHeat (h : Keeps W s₀ s) : Keeps W s₀ s.judgeHeat :=
  .ite (.fatal (.ite h.setFld.setFld.setHlt.firePressure h.setFld.setFld.setHlt)) (.ite h.setFld.setFld.setHlt.firePressure
  h.setFld.setFld.setHlt)

theorem Keeps.cvuControl (h : Keeps W s₀ s) {u v : Nat} : Keeps W s₀ (s.cvuControl u v) :=
  .via h.cvuConfigWrite.cvuReset fun h1 =>
  .via (.ite h1 h.cvuConfigWrite) fun h2 =>
  .ite (.setCvu (.ite h2.cvuGo h2)) (.ite h2.cvuGo h2)

theorem Keeps.cvuRunWrite (h : Keeps W s₀ s) {u lo : Nat} {hi : Option Nat} : Keeps W s₀ (s.cvuRunWrite u lo hi) :=
  .ite h.cvuErr h.setRunReg.setCvu

theorem Keeps.cvuDataWrite (h : Keeps W s₀ s) {u : Nat} {words : List Nat} : Keeps W s₀ (s.cvuDataWrite u words) :=
  .ite h.cvuErr h.cvuFeed

theorem Keeps.cmdHltQuery (h : Keeps W s₀ s) {x : Req} : Keeps W s₀ (cmdHltQuery x s).1 := h

theorem Keeps.cmdHltAck (h : Keeps W s₀ s) {r : Req} : Keeps W s₀ (cmdHltAck r s).1 := h.refuseOr h.w1c

theorem Keeps.cmdHltInject (h : Keeps W s₀ s) {r : Req} : Keeps W s₀ (cmdHltInject r s).1 :=
  h.refuseOr (.ite1 h.w1c.w1c.w1c.wr.wr.wr64.injKey.injKey.injGo (.ite1 h.w1c.w1c.w1c.wr.wr.wr64.injKey.injKey.injGo
  h.w1c.w1c.w1c.wr.wr.wr64.injKey.injKey.injGo.setHlt))

theorem Keeps.cmdCvuCheck (h : Keeps W s₀ s) {r : Req} : Keeps W s₀ (cmdCvuCheck r s).1 :=
  h.refuseOr h.cvuConfigWrite.wr64.wr64.wr64.wr64.wr64.cvuReset.cvuGo.setCvu

/-! #### Sys2Proof/Machine/FbkCmds.lean -/

theorem Keeps.fbkRegionWrite (h : Keeps W s₀ s) {u k word value : Nat} : Keeps W s₀ (s.fbkRegionWrite u k word value) :=
  .ite h (.ite h.raise (.ite h.wr.wr.wr h.wr.wr.wr.raise))

theorem Keeps.cmdFbkQuery (h : Keeps W s₀ s) {r : Req} : Keeps W s₀ (cmdFbkQuery r s).1 := h.refuseOr h

/-! #### Sys2Proof/Machine/MbxCmds.lean -/

theorem Keeps.doorbell (h : Keeps anywhere s₀ s) {m : Nat} {irq : Bool} : Keeps anywhere s₀ (s.doorbell m irq) := by
  dsimp only [State.doorbell]
  split
  · exact h.raise
  · split
    · exact h.serveDue.updArrivals.setMbox.setFld.setFld.complete
    · split
      · exact h.serveDue.updArrivals.setMbox.setFld.setFld
      · split
        · exact h.serveDue.updArrivals.setMbox.setFld.setFld.complete
        · exact h.serveDue.updArrivals.setMbox.setFld.setFld

theorem Keeps.doneClear (h : Keeps W s₀ s) {m : Nat} : Keeps W s₀ (s.doneClear m) := .ite h.w1c.setFld h

theorem Keeps.hostArea (h : Keeps W s₀ s) {m off : Nat} {data : List Byte} : Keeps W s₀ (s.hostArea m off data) :=
  .ite h (.ite h.raise h.updArea)

theorem Keeps.nringCons (h : Keeps W s₀ s) {n v : Nat} : Keeps W s₀ (s.nringCons n v) := .ite h (.ite h.wr h.raise)

theorem Keeps.nringLevel (h : Keeps W s₀ s) {n w : Nat} : Keeps W s₀ (s.nringLevel n w) := h.setFld

theorem Keeps.coalesceEnd (h : Keeps W s₀ s) {c : Coalesce} : Keeps W s₀ (s.coalesceEnd c) :=
  .ite h (.ite h.updCoalesce h.updCoalesce.deliver)

theorem Keeps.cmdMbxNringOpen (h : Keeps W s₀ s) {r : Req} : Keeps W s₀ (cmdMbxNringOpen r s).1 :=
  h.refuseOr h.setNring.wr64.wr.wr.wr.wr.setFld

theorem Keeps.nringClose (h : Keeps W s₀ s) {n : Nat} : Keeps W s₀ (s.nringClose n) := h.setNring.setFld.setFld

theorem Keeps.cmdMbxNringClose (h : Keeps W s₀ s) {r : Req} : Keeps W s₀ (cmdMbxNringClose r s).1 := h.refuseOr h.nringClose

theorem Keeps.functionReset (h : Keeps W s₀ s) : Keeps W s₀ s.functionReset :=
  ((h.updPcie.foldl fun _ _ ht => ht.setMbox.setFld.setFld.setFld).foldl fun _ _ ht => ht.nringClose)

/-! #### Sys2Proof/Machine/PacketCmds.lean -/

theorem Keeps.groupReport (h : Keeps W s₀ s) {p : Nat} {v6 : Bool} {l : List (List Byte)} : Keeps W s₀ (s.groupReport p v6 l) := by
  dsimp only [State.groupReport]
  split
  · exact h.txPut
  · exact h

theorem Keeps.arpIn (h : Keeps W s₀ s) {p : Nat} {b : List Byte} : Keeps W s₀ (s.arpIn p b) := .ite h.txPut h

theorem Keeps.icmpIn (h : Keeps W s₀ s) {p : Nat} {mac : List Byte} {ip : IpView} : Keeps W s₀ (s.icmpIn p mac ip) :=
  .ite h.txPut (.ite h.groupReport (.ite h.txPut (.ite h.txPut (.ite (.ite h.groupReport h) h))))

theorem Keeps.toFirmware {p : Nat} {reply : State → State} (h : Keeps W s₀ s) (hr : ∀ t, Keeps W s₀ t → Keeps W s₀ (reply t)) :
    Keeps W s₀ (s.toFirmware p reply) :=
  .ite h.setPort.bump (hr _ h.setPort)

theorem Keeps.ptpIn (h : Keeps W s₀ s) {p transport : Nat} {message : List Byte} : Keeps W s₀ (s.ptpIn p transport message) :=
  .ite h (.ite h.updTime.hearPtp h.updTime)

theorem Keeps.setPfcRx (h : Keeps W s₀ s) {p c : Nat} {v : Bool} : Keeps W s₀ (s.setPfcRx p c v) := h.setFld

theorem Keeps.pauseClass (h : Keeps W s₀ s) {p c quanta : Nat} : Keeps W s₀ (s.pauseClass p c quanta) :=
  .ite h.setPort.setPfcRx.drainTx h.setPort.setPfcRx

theorem Keeps.controlFrame (h : Keeps W s₀ s) {p : Nat} {b : List Byte} : Keeps W s₀ (s.controlFrame p b) :=
  .ite (h.bump.foldl fun _ _ ht => .ite ht.pauseClass ht) (.ite h.bump h.bump)

theorem Keeps.rejectRtp (h : Keeps W s₀ s) {p n : Nat} {auth : Bool} : Keeps W s₀ (s.rejectRtp p n auth) :=
  .ite h.bump.raise h.bump.raise.bump.raise.notice

theorem Keeps.rtpPacket (h : Keeps anywhere s₀ s) {p n : Nat} {f : Flow} {b : List Byte} : Keeps anywhere s₀ (s.rtpPacket p n f b) := by
  unfold State.rtpPacket
  extract_lets q seq ssrc pt secure i opened
  refine .ite h.rejectRtp (.ite h.rejectRtp (.ite h.rejectRtp ?_))
  clear_value opened
  split
  · exact h.rejectRtp
  · exact .ite h.rejectRtp h.setQueue.setDec.qPut

theorem Keeps.rtcpPacket (h : Keeps W s₀ s) {p n : Nat} {f : Flow} {b : List Byte} : Keeps W s₀ (s.rtcpPacket p n f b) := by
  dsimp only [State.rtcpPacket]
  split
  · exact h.rejectRtp
  · exact .ite (.setAnchor (.ite h.setQueue h)) (.ite h.setQueue h)

theorem Keeps.udpIn (h : Keeps anywhere s₀ s) {p : Nat} {vlan : Option Nat} {ip : IpView} : Keeps anywhere s₀ (s.udpIn p vlan ip) := by
  dsimp only [State.udpIn]
  split
  · exact h.ptpIn
  · split
    · exact h.bump
    · exact .ite h.rtpPacket h.rtcpPacket

theorem Keeps.frameIn (h : Keeps anywhere s₀ s) {p : Nat} {f : List Byte} : Keeps anywhere s₀ (s.frameIn p f) := by
  dsimp only [State.frameIn]
  split
  · exact h.bump
  · split
    · exact h.bump
    · split
      · exact h.controlFrame
      · split
        · exact h.ptpIn
        · split
          · exact (h.toFirmware fun _ ht => ht.arpIn)
          · split
            · exact h.bump
            · split
              · exact h.bump
              · exact .ite (.ite h.udpIn h.bump) (.ite (h.toFirmware fun _ ht => ht.icmpIn) h.bump)

theorem Keeps.countFec (h : Keeps W s₀ s) {p corrected uncorrectable : Nat} : Keeps W s₀ (s.countFec p corrected uncorrectable) :=
  .ite h.bump.bump h

theorem Keeps.ethFrame (h : Keeps anywhere s₀ s) {p : Nat} {f : List Byte} {level : Nat} : Keeps anywhere s₀ (s.ethFrame p f level) := by
  rw [State.ethFrame]
  refine .ite h ?_
  split
  next e =>
    have h1 := h.injTake.at2 e
    exact .ite h1.bumpWrap.setFld.bump.settlePorts (.ite h1.bumpWrap.setFld.raise.bump.settlePorts
      h1.bumpWrap.setFld.settlePorts.frameIn.settlePorts)

theorem Keeps.pfcRenew (h : Keeps W s₀ s) {p c : Nat} : Keeps W s₀ (s.pfcRenew p c) := by
  dsimp only [State.pfcRenew]
  split
  · exact h
  · exact .ite h.sendPfc h

theorem Keeps.pauseTimeout (h : Keeps W s₀ s) {p c : Nat} : Keeps W s₀ (s.pauseTimeout p c) := by
  dsimp only [State.pauseTimeout]
  split
  · exact h
  · exact .ite h h.setPort.lostFrames.txLoss

theorem Keeps.pauseExpiry (h : Keeps W s₀ s) {p c : Nat} : Keeps W s₀ (s.pauseExpiry p c) := by
  dsimp only [State.pauseExpiry]
  split
  · exact h
  · exact .ite h.pauseClass h

theorem Keeps.portLink (h : Keeps W s₀ s) {p : Nat} {up : Bool} : Keeps W s₀ (s.portLink p up) :=
  .via (.setFld (.ite h h.lostFrames)) fun h1 =>
  .ite h (.settlePorts (.notice (.ite h1.setFld.setFld.setFld.setFld.setPort h1.setFld.setFld.setFld.setFld.setPort.setFld.setFld)))

theorem Keeps.qdiag (h : Keeps anywhere s₀ s) {v : Nat} : Keeps anywhere s₀ (s.qdiag v) := by
  rw [State.qdiag]
  refine .ite h (.ite h.setFld (.ite h.setFld.setFld ?_))
  split
  next e => exact (h.setFld.qHeader.at2 e).setFld.foldl fun _ _ ht => ht.wr

theorem Keeps.wmarkWrite (h : Keeps W s₀ s) {n v : Nat} : Keeps W s₀ (s.wmarkWrite n v) := .ite h (.ite h.raise (.ite h.wr h.wr.raise))

theorem Keeps.cmdPktPortCfg (h : Keeps W s₀ s) {r : Req} : Keeps W s₀ (cmdPktPortCfg r s).1 := h.refuseOr h.setPort.setFld

theorem Keeps.cmdPktPortQuery (h : Keeps W s₀ s) {r : Req} : Keeps W s₀ (cmdPktPortQuery r s).1 := h.refuseOr h

theorem Keeps.joinGroups (h : Keeps W s₀ s) {n : Nat} {f : Flow} : Keeps W s₀ (s.joinGroups n f) :=
  .ite h (h.foldl fun _ _ ht => .ite ht.groupReport ht)

theorem Keeps.cmdPktFlowSet (h : Keeps W s₀ s) {r : Req} : Keeps W s₀ (cmdPktFlowSet r s).1 :=
  h.refuseOr (.joinGroups (.settlePorts (.ite h.setQueue.setFld.setFld.setFld.setFld.setFld.setFld.setFld
  h.setQueue.setFld.setFld.setFld.setFld.setFld.setFld.setFld.wr)))

theorem Keeps.cmdPktFlowKey (h : Keeps W s₀ s) {r : Req} : Keeps W s₀ (cmdPktFlowKey r s).1 := h.refuseOr (.ite1 h.setEnc h.setQueue)

theorem Keeps.cmdPktQueueRead (h : Keeps anywhere s₀ s) {r : Req} : Keeps anywhere s₀ (cmdPktQueueRead r s).1 := by
  rw [Machine.cmdPktQueueRead]
  refine h.refuseOr ?_
  split
  · split
    next e => exact h.queueCopy.at2 e
  · exact h.setQueue

theorem Keeps.queueReadTimeout (h : Keeps W s₀ s) {n : Nat} : Keeps W s₀ (s.queueReadTimeout n) :=
  h.setQueue.foldl fun _ _ ht => ht.answer

/-! #### Sys2Proof/Machine/SysCmds.lean -/

theorem Keeps.cmdSysIdentify (h : Keeps W s₀ s) {x : Req} : Keeps W s₀ (cmdSysIdentify x s).1 := h

theorem Keeps.cmdSysHealth (h : Keeps W s₀ s) {x : Req} : Keeps W s₀ (cmdSysHealth x s).1 := h

theorem Keeps.enterService (h : Keeps W s₀ s) {secs : Nat} : Keeps W s₀ (s.enterService secs) :=
  .ite h.setRanger h.setRanger.setSvc.svcNotice

theorem Keeps.lockService (h : Keeps W s₀ s) : Keeps W s₀ s.lockService := .ite h h.setFld.endService.svcNotice

theorem Keeps.cmdSysService (h : Keeps W s₀ s) {r : Req} : Keeps W s₀ (cmdSysService r s).1 :=
  h.refuseOr (.ite h.endService (.ite h.enterService h.lockService))

theorem Keeps.cmdSysFwRestart (h : Keeps W s₀ s) {r : Req} : Keeps W s₀ (cmdSysFwRestart r s).1 := h.refuseOr h.setRanger

theorem Keeps.partNotice (h : Keeps W s₀ s) {p event log2 base : Nat} : Keeps W s₀ (s.partNotice p event log2 base) := h.notice

theorem Keeps.cmdSysPartCreate (h : Keeps W s₀ s) {r : Req} : Keeps W s₀ (cmdSysPartCreate r s).1 := by
  unfold Machine.cmdSysPartCreate
  extract_lets cells free p x
  exact h.refuseOr (.partNotice (.setNotify h.updParts))

theorem Keeps.cmdSysPartGrant (h : Keeps anywhere s₀ s) {r : Req} : Keeps anywhere s₀ (cmdSysPartGrant r s).1 :=
  h.refuseOr (.ite1 h.updGrants.setFbkRegion.partNotice h.updGrants.setFbkRegion.fbkAwait.partNotice)

theorem Keeps.cmdSysPartDestroy (h : Keeps W s₀ s) {r : Req} : Keeps W s₀ (cmdSysPartDestroy r s).1 :=
  h.refuseOr (h.foldl fun _ _ ht => .ite ht.setFld ht).updParts.setNotify.partNotice

theorem Keeps.cmdSysPartQuery (h : Keeps W s₀ s) {r : Req} : Keeps W s₀ (cmdSysPartQuery r s).1 := h.refuseOr h

theorem Keeps.cmdSysMbxBind (h : Keeps W s₀ s) {r : Req} : Keeps W s₀ (cmdSysMbxBind r s).1 := h.refuseOr h.setFld

/-! #### Sys2Proof/Machine/PolCmds.lean -/

theorem Keeps.moveRung (h : Keeps W s₀ s) {r : Nat} {on : Bool} {moves : List (Nat × Nat)} : Keeps W s₀ (s.moveRung r on moves) :=
  .notice (.ite h.setRung.sendDecision h.setRung.sendDecision.setPol)

theorem Keeps.applyRungs (h : Keeps W s₀ s) {press : List Nat} {hot : Bool} {moves : List (Nat × Nat)} :
    Keeps W s₀ (s.applyRungs press hot moves) := .ite (h.foldl fun _ _ ht => ht.moveRung) (.ite h h.moveRung)

theorem Keeps.releaseRung (h : Keeps W s₀ s) : Keeps W s₀ s.releaseRung := by
  dsimp only [State.releaseRung]
  split
  · exact h
  · exact h.moveRung

theorem Keeps.followCheck (h : Keeps W s₀ s) : Keeps W s₀ s.followCheck := .ite h.enterFaulted h

theorem Keeps.endWindow (h : Keeps W s₀ s) {m : PolMeasure} : Keeps W s₀ (s.endWindow m) :=
  .ite (((h.foldl fun _ _ ht => ht.setFld).foldl fun _ _ ht => ht.setFld).foldl fun _ _ ht => ht.setEnc).setPol.followCheck (.releaseRung
  (.applyRungs (.ite (((h.foldl fun _ _ ht => ht.setFld).foldl fun _ _ ht => ht.setFld).foldl fun _ _ ht => ht.setEnc).setPol.notice
  (((h.foldl fun _ _ ht => ht.setFld).foldl fun _ _ ht => ht.setFld).foldl fun _ _ ht => ht.setEnc).setPol)))

theorem Keeps.takeDecision (h : Keeps W s₀ s) {msg : List Byte} : Keeps W s₀ (s.takeDecision msg) :=
  .ite h.enterFaulted (.ite h.setRung (.ite h.parkSession (.ite h.setFld.applyDecPlaces.followCheck (.ite
  h.setFld.applyEncPlaces.followCheck (.ite h.applyDecPlaces.followCheck h.applyEncPlaces.followCheck)))))

theorem Keeps.cmdPolCfg (h : Keeps W s₀ s) {r : Req} : Keeps W s₀ (cmdPolCfg r s).1 :=
  h.refuseOr (.foldl (.ite h.setPol.capEncs h.setPol) fun _ _ ht => ht.moveRung)

theorem Keeps.cmdPolQuery (h : Keeps W s₀ s) {x : Req} : Keeps W s₀ (cmdPolQuery x s).1 := h

theorem Keeps.cmdPolMeasure (h : Keeps W s₀ s) {x : Req} : Keeps W s₀ (cmdPolMeasure x s).1 := h

/-! #### Sys2Proof/Machine/Strip.lean -/

theorem Keeps.setStrip (h : Keeps W s₀ s) {x : StripSt} : Keeps W s₀ (s.setStrip x) := h.updStrip

theorem Keeps.setNode (h : Keeps W s₀ s) {n : Nat} {x : StripNode} : Keeps W s₀ (s.setNode n x) := h.setStrip

theorem Keeps.setCtl (h : Keeps W s₀ s) {c : Nat} {x : StripCtl} : Keeps W s₀ (s.setCtl c x) := h.setStrip

theorem Keeps.showDelta (h : Keeps W s₀ s) {n : Nat} : Keeps W s₀ (s.showDelta n) := h.setFld

theorem Keeps.setBase (h : Keeps W s₀ s) {n v : Nat} : Keeps W s₀ (s.setBase n v) := h.setFld.showDelta

theorem Keeps.touchNotice (h : Keeps W s₀ s) {c event : Nat} : Keeps W s₀ (s.touchNotice c event) := h.setCtl.notice

theorem Keeps.settleCtl (h : Keeps W s₀ s) {c : Nat} : Keeps W s₀ (s.settleCtl c) :=
  .ite (.ite h.setFld.setCtl.touchNotice h) (.ite h.setFld.setFld.setCtl.touchNotice (.ite h.setFld.setFld.setCtl.touchNotice
  h.setFld.setFld.setCtl))

theorem Keeps.showTouched (h : Keeps W s₀ s) : Keeps W s₀ s.showTouched := h.setFld

theorem Keeps.settleCtls (h : Keeps W s₀ s) : Keeps W s₀ s.settleCtls := (h.foldl fun _ _ ht => ht.settleCtl).showTouched

theorem Keeps.endTouch (h : Keeps W s₀ s) {n : Nat} : Keeps W s₀ (s.endTouch n) := h.setFld.setNode

theorem Keeps.stuck (h : Keeps W s₀ s) {n cause : Nat} : Keeps W s₀ (s.stuck n cause) := by
  unfold State.stuck
  -- which control the node belongs to decides nothing here
  obtain ⟨ctl, hc⟩ := exists_eq (a' := State.ctlOf)
  rw [← hc]
  extract_lets ms s1 x s2 s3 s4
  have h3 : Keeps W s₀ s3 := h.setBase.endTouch.setNode.setFld.raise.bump
  refine .notice ?_
  unfold s4
  split
  · exact h3.setCtl
  · exact h3

theorem Keeps.nodeStuck (h : Keeps W s₀ s) {n : Nat} : Keeps W s₀ (s.nodeStuck n) :=
  .ite h (.ite (.ite h.stuck h) (.ite h.setNode.stuck h.setNode))

theorem Keeps.nodeAnti (h : Keeps W s₀ s) {n : Nat} : Keeps W s₀ (s.nodeAnti n) :=
  .ite h (.ite (.ite h.setNode.setBase.bump.raise h.setNode) h.setNode)

theorem Keeps.unbar (h : Keeps W s₀ s) {n : Nat} : Keeps W s₀ (s.unbar n) := .ite h.setNode.setFld h

theorem Keeps.nodeBegin (h : Keeps W s₀ s) {n : Nat} : Keeps W s₀ (s.nodeBegin n) :=
  .ite h (.ite (.ite h.setNode.setFld h.setNode) h.setNode)

theorem Keeps.nodeEnd (h : Keeps W s₀ s) {n : Nat} : Keeps W s₀ (s.nodeEnd n) := .ite h (.ite (.ite h.endTouch h.setNode) h.setNode)

theorem Keeps.nodeTrack (h : Keeps W s₀ s) {n : Nat} : Keeps W s₀ (s.nodeTrack n) := .ite h (.ite h.setNode.setBase h.setNode)

theorem Keeps.nodeRules (h : Keeps W s₀ s) {n : Nat} : Keeps W s₀ (s.nodeRules n) :=
  .ite h.showDelta.unbar.nodeStuck.nodeAnti.nodeBegin.nodeEnd.nodeTrack (.ite h.setNode.setBase h.setNode)

theorem Keeps.rebaseline (h : Keeps W s₀ s) {l : List Nat} : Keeps W s₀ (s.rebaseline l) := h.foldl fun _ _ ht => ht.setFld.setNode

theorem Keeps.startStrip (h : Keeps W s₀ s) {drv sns : Nat} : Keeps W s₀ (s.startStrip drv sns) := h.setStrip.setFld.rebaseline

theorem Keeps.judgeGesture (h : Keeps W s₀ s) : Keeps W s₀ (s.judgeGesture).2 := .ite2 h.setCtl.raise.notice h

theorem Keeps.stripScan (h : Keeps W s₀ s) {cm : List Nat} : Keeps W s₀ (s.stripScan cm).2 :=
  .judgeGesture (.ite ((h.setStrip.bumpWrap.foldl fun _ _ ht => ht.setFld).foldl fun _ _ ht => ht.nodeRules).settleCtls.setFld
  ((h.setStrip.bumpWrap.foldl fun _ _ ht => ht.setFld).foldl fun _ _ ht => ht.nodeRules).settleCtls)

theorem Keeps.stopStrip (h : Keeps W s₀ s) : Keeps W s₀ s.stopStrip := h.setFld.setFld.foldl fun _ _ ht => ht.setFld

theorem Keeps.resendStrip (h : Keeps W s₀ s) : Keeps W s₀ s.resendStrip := h.foldl fun _ _ ht => ht.touchNotice

/-! #### Sys2Proof/Machine/Start.lean -/

theorem Keeps.keepPins {t : State} (h : Keeps W s₀ t) : Keeps W s₀ (t.keepPins s) := h.wr.setFld.setFld.wr.setSys

/-- A cold start keeps the queue, the tick, host memory, the boot flash and the log chip; device memory and the message areas are empty. -/
theorem Keeps.coldState (h : Keeps anywhere s₀ s) {cause : Nat} : Keeps anywhere s₀ (s.coldState cause) := by
  unfold State.coldState
  extract_lets _ _ t
  have ht : Keeps anywhere s₀ t := by
    refine ⟨h.pending, h.tick, fun h₀ => ?_, fun b hb => (hb trivial).elim⟩
    obtain ⟨-, hh, -, hf, hc⟩ := s.memOk_iff.mp (h.memOk h₀)
    exact (State.memOk_iff _).mpr ⟨rfl, hh, rfl, hf, hc⟩
  exact ht.keepPins.setFld

theorem Keeps.warmRegisters (h : Keeps W s₀ s) : Keeps W s₀ s.warmRegisters := h.foldl fun _ _ ht => ht.wr

theorem Keeps.warmHolds (h : Keeps W s₀ s) : Keeps W s₀ s.warmHolds :=
  (h.foldl fun _ _ ht => .ite ht (.ite ht.setGate.setFld ht.setGate)).setPol

theorem Keeps.warmCommon (h : Keeps W s₀ s) {cause step form : Nat} : Keeps W s₀ (s.warmCommon cause step form) :=
  h.restartBegins.cvuStopAll.warmRegisters.warmHolds.setFld.setFld.setFld.setFld.bumpWrap.setSys

theorem Keeps.beginWarm (h : Keeps W s₀ s) {cause : Nat} : Keeps W s₀ (s.beginWarm cause) :=
  .ite h.warmCommon.setFld.setPair.setRole h.warmCommon.setFld

theorem Keeps.powerNotice (h : Keeps W s₀ s) : Keeps W s₀ s.powerNotice := h.notice

theorem Keeps.leavePair (h : Keeps W s₀ s) : Keeps W s₀ s.leavePair := h.setOwn.dropClaim.setFld

theorem Keeps.linksOff (h : Keeps W s₀ s) : Keeps W s₀ s.linksOff := (h.foldl fun _ _ ht => .ite ht.laneTo ht).portLink.portLink.setFld

theorem Keeps.flushForSleep (h : Keeps W s₀ s) : Keeps W s₀ s.flushForSleep := .ite h.blzFlushAll h

theorem Keeps.enterRetention (h : Keeps W s₀ s) : Keeps W s₀ s.enterRetention :=
  h.flushForSleep.leavePair.setFld.linksOff.rangerStop.cancelInjection.setFld.setFld.setFld.setFld.setFld.setFld.setFld.setFld.setPair.setSys

theorem Keeps.enterDeep (h : Keeps anywhere s₀ s) : Keeps anywhere s₀ s.enterDeep :=
  (h.flushForSleep.leavePair.coldState.foldl fun _ _ ht => ht.wr).updStripSys

theorem Keeps.leaveDeep (h : Keeps anywhere s₀ s) : Keeps anywhere s₀ s.leaveDeep := h.coldState

theorem Keeps.wake (h : Keeps W s₀ s) {src : Nat} : Keeps W s₀ (s.wake src) := h.warmCommon.setFld.setFld.powerNotice

theorem Keeps.wakeFrom (h : Keeps anywhere s₀ s) {src : Nat} : Keeps anywhere s₀ (s.wakeFrom src) := .ite h.leaveDeep (.ite h.wake h)

theorem Keeps.judgeItem (h : Keeps W s₀ s) {altered : List (Nat × Nat × Nat)} {slot item : Nat} :
    Keeps W s₀ (s.judgeItem altered slot item).2 := by
  rw [State.judgeItem]
  split
  exact .ite h.setFld h.setFld.logFault

theorem Keeps.trySlots (h : Keeps W s₀ s) {altered : List (Nat × Nat × Nat)} {l : List Nat} : Keeps W s₀ (s.trySlots altered l).2 := by
  induction l generalizing s with
  | nil => exact h
  | cons k l ih =>
    rw [State.trySlots]
    split
    next e1 =>
      split
      next e2 =>
        have h2 := (h.judgeItem.at2 e1).judgeItem.at2 e2
        exact .ite2 h2 (ih h2)

theorem Keeps.copyImage (h : Keeps anywhere s₀ s) {slot item dst : Nat} : Keeps anywhere s₀ (s.copyImage slot item dst) := h.storeMem

theorem Keeps.readCopy (h : Keeps W s₀ s) {item a : Nat} : Keeps W s₀ (s.readCopy item a).2 := h.loadMem

theorem Keeps.copyDigests (h : Keeps W s₀ s) : Keeps W s₀ (s.copyDigests).2 := by
  generalize e : s.copyDigests = x
  conv at e => lhs; fun; delta State.copyDigests
  -- nothing here turns on what `readCopy` reads
  obtain ⟨read, hr⟩ := exists_eq (a' := State.readCopy)
  rw [← hr] at e
  split at e
  next e1 =>
    split at e
    next e2 =>
      rw [hr] at e1 e2
      cases e
      exact (h.readCopy.at2 e1).readCopy.at2 e2

theorem Keeps.takeBoard (h : Keeps W s₀ s) {slot : Nat} : Keeps W s₀ (s.takeBoard slot) := h.setSys

theorem Keeps.bindAll (h : Keeps W s₀ s) : Keeps W s₀ s.bindAll := h.foldl fun _ _ ht => ht.setFld

theorem Keeps.coverMemory (h : Keeps W s₀ s) {u k : Nat} {r w : Bool} : Keeps W s₀ (coverMemory s u k r w) := h.setFbkRegion.setFbkRegion

theorem Keeps.hostRules (h : Keeps W s₀ s) : Keeps W s₀ s.hostRules := by
  refine .foldl h fun _ _ ht => ?_
  split
  · exact .ite ht.setFbkRegion (.ite ht.setFbkRegion ht.setFbkRegion)
  · split
    · exact ht.setFbkRegion
    · exact ht.setFbkRegion

theorem Keeps.cvuRules (h : Keeps W s₀ s) {n : Nat} : Keeps W s₀ (s.cvuRules n) := .ite h.coverMemory h.setFbkRegion.setFbkRegion

theorem Keeps.enterRecovery (h : Keeps W s₀ s) : Keeps W s₀ s.enterRecovery :=
  .setRole (.bindAll (.ite h.setFld.setFld.setFld.linksOff.leavePair.setFld.hostRules.cvuRules.cvuRules
  h.setFld.setFld.setFld.linksOff.leavePair.setFld))

theorem Keeps.loadImages (h : Keeps anywhere s₀ s) {f : StartFacts} : Keeps anywhere s₀ (s.loadImages f) := by
  unfold State.loadImages
  -- nothing here turns on what the copies hold or on what an item is judged to be
  obtain ⟨digest, hd⟩ := exists_eq (a' := State.copyDigests)
  obtain ⟨judge, hj⟩ := exists_eq (a' := State.judgeItem)
  rw [← hd, ← hj]
  extract_lets order s0
  split
  next hx =>
    have h1 := h.wr.setFld.setFld.setFld.trySlots.at2 hx
    extract_lets s2
    have h2 : Keeps anywhere s₀ s2 := h1.copyImage.copyImage.takeBoard
    split
    next e => rw [hd] at e; exact (h2.copyDigests.at2 e).setSys.setFld.setFld
  next s1 hx =>
    have h1 : Keeps anywhere s₀ s1 := h.wr.setFld.setFld.setFld.trySlots.at2 hx
    extract_lets judged all
    have h2 : Keeps anywhere s₀ judged := by
      unfold judged
      split
      · split
        next e =>
          rw [hj] at e ⊢
          exact .ite (h1.judgeItem.at2 e) (h1.judgeItem.at2 e).judgeItem
      · exact h1
    split
    · exact h2.takeBoard.enterRecovery
    · exact h2.setSys.enterRecovery

theorem Keeps.stepImages (h : Keeps anywhere s₀ s) {f : StartFacts} : Keeps anywhere s₀ (s.stepImages f) := by
  rw [State.stepImages]
  refine .ite h.loadImages ?_
  split
  next e => exact .ite (h.copyDigests.at2 e) (h.copyDigests.at2 e).loadImages

theorem Keeps.stepRanger (h : Keeps anywhere s₀ s) : Keeps anywhere s₀ s.stepRanger := .wr (.ite h.updMem.bindAll h)

theorem Keeps.stepRules (h : Keeps W s₀ s) {f : StartFacts} : Keeps W s₀ (s.stepRules f) := by
  unfold State.stepRules
  extract_lets s1 s2 s3 buffer s4 s5 b
  have hb (t : State) (u k : Nat) (ht : Keeps W s₀ t) : Keeps W s₀ (buffer t u k) := ht.setFbkRegion
  have h3 : Keeps W s₀ s3 := h.hostRules.coverMemory.setFbkRegion.setFbkRegion.coverMemory.setFbkRegion.setFbkRegion
  have h4 : Keeps W s₀ s4 := h3.foldl fun t u ht => hb _ _ _ ht.setFbkRegion.setFbkRegion.setFbkRegion.coverMemory
  have h5 : Keeps W s₀ s5 := hb _ _ _ (h4.foldl fun _ _ ht => ht.coverMemory)
  exact ((h5.foldl fun _ _ ht => ht.cvuRules).updChipOf h5).setFld

theorem Keeps.stepLog (h : Keeps W s₀ s) {f : StartFacts} : Keeps W s₀ (s.stepLog f) := .ite h h.setFld.setFld.blzScan

theorem Keeps.catchUp (h : Keeps W s₀ s) : Keeps W s₀ s.catchUp :=
  (h.foldl fun _ _ ht => .ite ht (.sweepFile (.sweepBit (.sweepBit (.sweepBit (.sweepBit (.ite ht.sweepWrap.settleCell
  ht.sweepWrap))))))).updLdg

theorem Keeps.stepLedger (h : Keeps W s₀ s) : Keeps W s₀ s.stepLedger :=
  .setFld (.ite h.catchUp (.ite h (h.updLdg.wr64.wr64.foldl fun _ _ ht => ht.wr64)))

theorem Keeps.stepTime (h : Keeps W s₀ s) : Keeps W s₀ s.stepTime := .ite h h.updClocks.setFld

theorem Keeps.stepLanes (h : Keeps W s₀ s) {f : StartFacts} : Keeps W s₀ (s.stepLanes f) :=
  .via (.foldl (.ite ((h.foldl fun _ _ ht => .ite ht.loadLane ht).foldl fun _ _ ht => ht.powerLane) (((h.foldl fun _ _ ht => .ite
    ht.loadLane ht).foldl fun _ _ ht => ht.powerLane).foldl fun _ _ ht => ht.powerLane)) fun _ _ ht => ht.setFld) fun h1 =>
  .ite h (.setFld (.ite (.foldl h1 fun _ _ ht => ht.wr64) h1))

theorem Keeps.startPair (h : Keeps W s₀ s) : Keeps W s₀ s.startPair :=
  .ite (h.setPair.setRole.setFld.foldl fun _ _ ht => ht.powerLane) h.setFld.setOwn.setRole.settleSends

theorem Keeps.startNotice (h : Keeps W s₀ s) {ms : Nat} : Keeps W s₀ (s.startNotice ms) := h.notice

theorem Keeps.stepReady (h : Keeps W s₀ s) {f : StartFacts} : Keeps W s₀ (s.stepReady f) :=
  .via (.setOwn (.ite h.setFld.setFld h)) fun h1 =>
  .via (.ite (.ite h.setFld.setFld h) h1) fun h2 =>
  .via (.startPair (.ite h.setFld.setFld h)) fun h3 =>
  .via (.ite (.ite h.setFld.setFld h) (.ite h2 h3)) fun h4 =>
  .via (.foldl h4 fun _ _ ht => ht.setFld) fun h5 =>
  .via (.foldl h5.setFld fun _ _ ht => ht.setFld) fun h6 =>
  .via (.foldl h6 fun _ _ ht => ht.setFld) fun h7 =>
  .via h7.decFigures.encFigures fun h8 =>
  .via (.reportReady (.ite h8 h5.setFld)) fun h9 =>
  .ite h9.startNotice.wr.setFld.setFld.powerNotice h9.startNotice.wr.setFld

theorem Keeps.runStep (h : Keeps anywhere s₀ s) {f : StartFacts} : Keeps anywhere s₀ (s.runStep f) := by
  dsimp only [State.runStep]
  split
  · exact h.setFld.setFld.setSys
  · exact h.setFld.setSys
  · exact .ite h h.setFld.setFld.setFld.setFld
  · exact h.updMem.setFld.setFld
  · exact h.stepImages
  · exact h.stepRanger
  · exact h.stepRules
  · exact h.stepLog
  · exact h.stepLedger
  · exact h.stepTime
  · exact .ite h.stepLanes.startStrip h.stepLanes
  · exact h
  · exact h.stepReady
  · exact h

theorem Keeps.startStepDone (h : Keeps anywhere s₀ s) {f : StartFacts} : Keeps anywhere s₀ (s.startStepDone f) := .ite h h.runStep.setFld

/-! #### Sys2Proof/Machine/StripCmds.lean -/

theorem Keeps.scanStrip (h : Keeps anywhere s₀ s) {cm : List Nat} : Keeps anywhere s₀ (s.scanStrip cm) :=
  .ite (.ite h.stripScan.wakeFrom h.stripScan) h

theorem Keeps.cmdStripCfg (h : Keeps W s₀ s) {r : Req} : Keeps W s₀ (cmdStripCfg r s).1 :=
  h.refuseOr (.ite h.wr.wr.wr.wr.rebaseline.settleCtls h.wr.wr.wr.wr)

theorem Keeps.putControls (h : Keeps W s₀ s) {l : List (Nat × List Nat)} : Keeps W s₀ (s.putControls l) :=
  ((h.foldl1 fun _ _ ht => ht.wr).foldl fun _ _ ht => ht.wr)

theorem Keeps.dropTouch (h : Keeps W s₀ s) {c : Nat} : Keeps W s₀ (s.dropTouch c) :=
  .ite h.setFld.touchNotice.setFld.setCtl.showTouched h.setFld.setCtl

theorem Keeps.cmdStripControlSet (h : Keeps W s₀ s) {r : Req} : Keeps W s₀ (cmdStripControlSet r s).1 :=
  h.refuseOr h.dropTouch.putControls

theorem Keeps.cmdStripRebaseline (h : Keeps W s₀ s) {r : Req} : Keeps W s₀ (cmdStripRebaseline r s).1 :=
  h.refuseOr h.rebaseline.settleCtls

theorem Keeps.cmdStripQuery (h : Keeps W s₀ s) {x : Req} : Keeps W s₀ (cmdStripQuery x s).1 := h

theorem Keeps.avsTransaction (h : Keeps W s₀ s) {tries : List Bool} : Keeps W s₀ (s.avsTransaction tries).2 :=
  .ite2 h.setFld (.ite2 h.setFld.bump h.setFld.raise.setSys)

theorem Keeps.avsUpdate (h : Keeps W s₀ s) {up : Bool} {tries : List Bool} : Keeps W s₀ (s.avsUpdate up tries) :=
  .ite h (.ite h.avsTransaction.setSys.setFld h.avsTransaction.setSys)

theorem Keeps.showSupply (h : Keeps W s₀ s) {vout iout power : Nat} : Keeps W s₀ (s.showSupply vout iout power) := h.setFld.setFld.setFld

/-! #### Sys2Proof/Machine/HostCmds.lean -/

theorem Keeps.accessError (h : Keeps W s₀ s) {kind a : Nat} : Keeps W s₀ (s.accessError kind a) :=
  .ite (.ite h.raise.setSys.raise.setFld.wr.setFld h.raise.setSys) h.raise.setFld.wr.setFld.setSys.notice

theorem Keeps.unpopulated (h : Keeps W s₀ s) {bar2 write : Bool} {a : Nat} : Keeps W s₀ (s.unpopulated bar2 write a) :=
  .ite h (.ite (.ite h h.updReadData) (.ite (.ite (.ite h.accessError h.updReadData.accessError) h)
    (.ite (.ite h.accessError h.updReadData.accessError) h)))

theorem Keeps.promote (h : Keeps W s₀ s) : Keeps W s₀ s.promote := h.updHbm

theorem Keeps.powerDown (h : Keeps W s₀ s) {c : Nat} : Keeps W s₀ (s.powerDown c) := .ite h.updHbm.showDown h

theorem Keeps.selfRefresh (h : Keeps W s₀ s) {k : Nat} : Keeps W s₀ (s.selfRefresh k) := .ite h.updHbm.setFld h

theorem Keeps.scrub (h : Keeps W s₀ s) {ecc : List Nat} : Keeps W s₀ (s.scrub ecc) := .ite h h.touch.eccBlock.updHbm.wr64

theorem Keeps.scrubCtrl (h : Keeps W s₀ s) {v : Nat} : Keeps W s₀ (s.scrubCtrl v) := h.setFld.setFld

theorem Keeps.windowHit (h : Keeps W s₀ s) {w a : Nat} : Keeps W s₀ (s.windowHit w a) := h.bump.bump.bump.notice

theorem Keeps.hostViolation (h : Keeps W s₀ s) {a : Nat} {write : Bool} {len cause : Nat} :
    Keeps W s₀ (s.hostViolation a write len cause) := h.fbkCapture.notice

theorem Keeps.bar2Write (h : Keeps anywhere s₀ s) {a : Nat} {data : List Byte} {held : Bool} :
    Keeps anywhere s₀ (s.bar2Write a data held) := by
  dsimp only [State.bar2Write]
  split
  · exact h
  · split
    · exact h.accessError
    · split
      · exact h.bump
      · exact .foldl (by split; exacts [h.windowHit, h.hostViolation, h.askMem]) fun _ _ ht => ht.pairSend

theorem Keeps.returnCredits (h : Keeps anywhere s₀ s) : Keeps anywhere s₀ s.returnCredits :=
  .foldl h fun _ _ ht => by split; exacts [ht, .ite ht ht.setPair.bar2Write]

theorem Keeps.bar2Post (h : Keeps anywhere s₀ s) {a : Nat} {data : List Byte} {held : Bool} :
    Keeps anywhere s₀ (s.bar2Post a data held) := .ite h.returnCredits.setPair h.returnCredits.bar2Write

theorem Keeps.bar2Read (h : Keeps anywhere s₀ s) {a len : Nat} {ecc : List Nat} {held : Bool} :
    Keeps anywhere s₀ (s.bar2Read a len ecc held) := by
  dsimp only [State.bar2Read]
  split
  · exact h
  · split
    · exact h.updRead
    · split
      · exact h.updRead.accessError
      · split
        · exact h.updRead.hostViolation
        · exact h.askMem

theorem Keeps.violationEnds (h : Keeps anywhere s₀ s) {u : Nat} : Keeps anywhere s₀ (s.violationEnds u) :=
  .ite h.haltUnit (.ite h.removeDecPipe (.ite h.removeEncPipe (.ite h.diverge h)))

theorem Keeps.pipeViolation (h : Keeps anywhere s₀ s) {u : Nat} {lasting : Bool} : Keeps anywhere s₀ (s.pipeViolation u lasting) :=
  .ite (.ite h.bump.abandonDec h.bump.abandonDec.decPipeNotice) (.ite (.ite h.bump.skipRest h.bump.skipRest.encPipeNotice) h)

theorem Keeps.sramRead (h : Keeps W s₀ s) {a ecc : Nat} : Keeps W s₀ (s.sramRead a ecc) := by
  rw [State.sramRead]
  split
  next e =>
    have h1 := h.injTake.at2 e
    exact .ite h1 (.ite h1.bump.logFault (.ite h1.logFault (.ite h1 h1.logFault.restartBegins)))

theorem Keeps.engineAccess (h : Keeps anywhere s₀ s) {u a : Nat} {write : Bool} {data : List Byte} {len : Nat} {ecc : List Nat}
    {held : Bool} : Keeps anywhere s₀ (s.engineAccess u a write data len ecc held) := by
  rw [State.engineAccess]
  split
  next e =>
    have h1 := h.fbkCheck.at22 e
    exact .ite (.ite (.violationEnds (.pipeViolation (.ite h1 h1.updRead))) (.pipeViolation (.ite h1 h1.updRead)))
      (.ite h1.askMem.sramRead h1.askMem)

theorem Keeps.typeWrite (h : Keeps W s₀ s) {a v : Nat} : Keeps W s₀ (s.typeWrite a v) := h.wr

theorem Keeps.wakeWrite (h : Keeps W s₀ s) {v : Nat} : Keeps W s₀ (s.wakeWrite v) := .ite h.wake h

theorem Keeps.serviceWrite (h : Keeps W s₀ s) {a v : Nat} : Keeps W s₀ (s.serviceWrite a v) :=
  .ite h.layerSvcWrite (.ite h.gateSvcWrite (.ite h.regionSvcWrite h))

theorem Keeps.cvuRegWrite (h : Keeps W s₀ s) {u a v : Nat} : Keeps W s₀ (s.cvuRegWrite u a v) :=
  .ite h (.ite h.cvuControl (.ite h.cvuDataWrite (.ite h.cvuRunWrite (.ite h.cvuErr (.ite h.setCvu h.typeWrite)))))

/-- A register named by its index, whose write has the effect `g`. -/
theorem Keeps.ofIndex {x : Option Nat} {g : Nat → State} {t : State} (hg : ∀ n, Keeps W s₀ (g n)) (e : x.map g = some t) : Keeps W s₀ t := by
  obtain ⟨n, -, rfl⟩ := Option.map_eq_some_iff.mp e
  exact hg n

theorem Keeps.ofOr {x y : Option State} {t : State} (hx : x = some t → Keeps W s₀ t) (hy : y = some t → Keeps W s₀ t)
    (e : x.or y = some t) : Keeps W s₀ t := by
  cases x with
  | none => exact hy e
  | some _ => exact hx e

theorem Keeps.ownWrite {a v : Nat} {t : State} (h : Keeps anywhere s₀ s) (e : s.ownWrite a v = some t) : Keeps anywhere s₀ t := by
  unfold State.ownWrite at e
  split at e
  · split at e
    · cases e; exact h.wakeWrite
    · cases e
  split at e
  · split at e
    · cases e; exact h.hostArea
    · exact .ofOr (.ofIndex fun _ => h.nringCons) (.ofOr (.ofIndex fun _ => h.nringLevel) (.ofIndex fun _ => .ite h.doorbell h)) e
  split at e
  · split at e
    · cases e; exact h.injKey.injSettle
    · split at e
      · cases e; exact .ite h.injGo.injSettle h
      · cases e
  split at e
  · exact .ofOr (.ofIndex fun _ => h.hostCommitProd) (.ofIndex fun _ => h.latchWrite) e
  split at e
  · split at e
    · cases e; exact .ite (.ite h.svcWrite h) (.ite h.svcCmd (.ite h.svcWrite h.svcRead))
    · exact .ofIndex (fun _ => h.hostRingProd) e
  split at e
  · exact .ofIndex (fun _ => h.encCons) e
  split at e
  · split at e
    · cases e; exact h.qdiag
    · exact .ofIndex (fun _ => h.wmarkWrite) e
  split at e
  · cases e; exact h.scrubCtrl
  · cases e

theorem Keeps.regWrite (h : Keeps anywhere s₀ s) {a v : Nat} : Keeps anywhere s₀ (s.regWrite a v) := by
  dsimp only [State.regWrite]
  refine .ite h.cvuRegWrite (.ite h ?_)
  split
  next hx => exact h.ownWrite hx
  · split
    · exact .ite h.typeWrite.setFld.doneClear h.typeWrite.setFld
    · exact h.serviceWrite.typeWrite

theorem Keeps.hostRegWrite (h : Keeps anywhere s₀ s) {a size v : Nat} : Keeps anywhere s₀ (s.hostRegWrite a size v) :=
  .ite h (.ite (.ite h h.accessError) (.ite h.regWrite h.regWrite.regWrite))

theorem Keeps.hostRegRead (h : Keeps W s₀ s) {a size : Nat} : Keeps W s₀ (s.hostRegRead a size) :=
  .ite h (.ite h.updReadData (.ite (.ite h.updReadData h.updReadData.accessError) (.ite h.readReg h.readReg.readReg.updReadData)))

theorem Keeps.fbkRegWrite (h : Keeps W s₀ s) {a v : Nat} : Keeps W s₀ (s.fbkRegWrite a v) :=
  .ite (.ite h.fbkGo h) (.ite (.ite h h.fbkRegionWrite) h.typeWrite)

theorem Keeps.rangerReg (h : Keeps anywhere s₀ s) {c o : Nat} {write : Bool} {data : List Byte} {len : Nat} :
    Keeps anywhere s₀ (s.rangerReg c o write data len) := .ite (.ite h h.updRead) (.ite (h.foldl fun _ _ ht => .ite (.ite ht.fbkRegWrite
    ht) ht.regWrite) (.updReadPoison (.ite h.readReg h.readReg.readReg.updReadData)))

theorem Keeps.debugDenied (h : Keeps W s₀ s) {a : Nat} {write : Bool} {len cause : Nat} : Keeps W s₀ (s.debugDenied a write len cause) :=
  .via h.fbkCapture.notice.blzTrigger fun h1 =>
  .ite (.ite h1.raise h1) (.updReadData (.ite h1.raise h1))

theorem Keeps.debugAccess (h : Keeps anywhere s₀ s) {a : Nat} {write : Bool} {data : List Byte} {len : Nat} {ecc : List Nat} :
    Keeps anywhere s₀ (s.debugAccess a write data len ecc) := by
  dsimp only [State.debugAccess]
  split
  · exact h.debugDenied
  · split
    · exact h
    · split
      · exact .ite (.ite h h.updReadData) (.ite (.ite h h.regWrite) h.readReg)
      · split
        · exact h.debugDenied
        · exact h.askMem

theorem Keeps.reissue (h : Keeps W s₀ s) {c lost : Nat} : Keeps W s₀ (s.reissue c lost) :=
  h.updHbm.foldl fun _ _ ht => ht.eccFound.updRead

theorem Keeps.hostQueueReset (h : Keeps W s₀ s) : Keeps W s₀ s.hostQueueReset := h.updHbm.emit.foldl fun _ _ ht => .ite ht ht.emit

theorem Keeps.loseTx (h : Keeps W s₀ s) {p : Nat} : Keeps W s₀ (s.loseTx p) :=
  ((h.setPort.lostFrames.foldl fun _ _ ht => ht.txLoss).foldl fun _ _ ht => ht.coppice)

theorem Keeps.loseReturn (h : Keeps W s₀ s) {n : Nat} : Keeps W s₀ (s.loseReturn n) := by
  dsimp only [State.loseReturn]
  split
  · exact h
  · exact .ite h.returnResult.returnRetrain h.returnResult

theorem Keeps.queueReset (h : Keeps anywhere s₀ s) {kind i lost : Nat} : Keeps anywhere s₀ (s.queueReset kind i lost) := by
  dsimp only [State.queueReset]
  split
  · exact h.setOut
  · exact h.setLane.setOut
  · exact h.loseReturn
  · exact h.tearCapture
  · exact .ite h.setLane h
  · exact .ite h.bump h.loseTx
  · exact h.bump.abandonDec
  · exact h.bump.skipRest
  · exact h.reissue
  · exact h.hostQueueReset
  · exact (h.foldl fun _ _ ht => ht.setLook)
  · exact h.updClk
  · exact h.resendStrip
  · exact h

theorem Keeps.queueStop (h : Keeps anywhere s₀ s) {kind i : Nat} {injected : Bool} : Keeps anywhere s₀ (s.queueStop kind i injected) := by
  dsimp only [State.queueStop]
  split
  · exact .setFld (.setGate (.ite h h.logFault))
  · exact .setFld (.ite h h.logFault)
  · exact .setLane (.laneTo (.ite h h.logFault))
  · exact .setLook (.ite h h.logFault)
  · exact .setCap (.ite h h.logFault)
  · exact .setLane (.laneTo (.ite h h.logFault))
  · exact .portLink (.setPort (.ite h h.logFault))
  · exact .removeDecPipe (.ite h h.logFault)
  · exact .removeEncPipe (.ite h h.logFault)
  · exact .fatal (.updHbm (.ite h h.logFault))
  · exact .setSys (.ite h h.logFault)
  · exact .setFld (.foldl (.ite h h.logFault) fun _ _ ht => ht.setLook)
  · exact .fatal (.ite h h.logFault)
  · exact .fatal (.ite h h.logFault)
  · exact .stopStrip (.ite h h.logFault)
  · exact .ite h h.logFault

theorem Keeps.queueClass (h : Keeps W s₀ s) {kind i : Nat} : Keeps W s₀ (s.queueClass kind i) :=
  .ite h.setDcq.logFault.decPipeNotice (.ite h.setDcq.logFault.encPipeNotice h.setDcq.logFault)

theorem Keeps.queueMismatch (h : Keeps anywhere s₀ s) {kind i : Nat} {c : PointerCopies} : Keeps anywhere s₀ (s.queueMismatch kind i c) := by
  rw [State.queueMismatch]
  refine .ite h ?_
  extract_lets q
  split
  next e =>
    have h1 := h.injTake.at2 e
    exact .ite h1 (.ite h1.setDcq (.ite h1.queueReset.queueStop.setDcq (.setDcq (.queueReset (.ite h1.queueClass h1)))))

theorem Keeps.queueResume (h : Keeps W s₀ s) {q : Nat} : Keeps W s₀ (s.queueResume q) := .ite h (.ite h.setDcq.updClk h.setDcq)

/-! #### Sys2Proof/Machine/LinkCmds.lean -/

theorem Keeps.laneAction (h : Keeps W s₀ s) {i action : Nat} : Keeps W s₀ (s.laneAction i action) :=
  .ite h.laneTo (.ite (.ite h.laneTo h.powerLane) h.retrainLane)

theorem Keeps.cmdKlnLaneCtrl (h : Keeps W s₀ s) {r : Req} : Keeps W s₀ (cmdKlnLaneCtrl r s).1 := h.refuseOr h.laneAction

theorem Keeps.cmdKlnLaneQuery (h : Keeps W s₀ s) {r : Req} : Keeps W s₀ (cmdKlnLaneQuery r s).1 := h.refuseOr h

theorem Keeps.enableCap (h : Keeps anywhere s₀ s) {r : Req} {cell base log2 : Nat} : Keeps anywhere s₀ (s.enableCap r cell base log2) :=
  h.setCap.setPool.setFbkRegion.allocCells.updLdg.wr.wr.setCapState.capNotice

theorem Keeps.cmdCapEnable (h : Keeps anywhere s₀ s) {r : Req} : Keeps anywhere s₀ (cmdCapEnable r s).1 := by
  dsimp only [Machine.cmdCapEnable]
  split
  · exact h
  next hm => exact .ite1 h (h.takeMemory hm).enableCap
  · exact h

theorem Keeps.cmdCapDisable (h : Keeps W s₀ s) {r : Req} : Keeps W s₀ (cmdCapDisable r s).1 := h.refuseOr h.injTake.setCap.setCapState

theorem Keeps.cmdCapQuery (h : Keeps W s₀ s) {r : Req} : Keeps W s₀ (cmdCapQuery r s).1 := h.refuseOr h

theorem Keeps.capDrained (h : Keeps anywhere s₀ s) {i : Nat} : Keeps anywhere s₀ (s.capDrained i) := .ite h.finishCap (.ite h h.finishCap)

theorem Keeps.capDrainTimeout (h : Keeps W s₀ s) {i : Nat} : Keeps W s₀ (s.capDrainTimeout i) := by
  dsimp only [State.capDrainTimeout]
  split
  · exact h
  · exact .ite h h.setCap.setCapState.raise.logFault

/-! #### Sys2Proof/Machine/PairCmds.lean -/

theorem Keeps.dualNotice (h : Keeps W s₀ s) {side us : Nat} : Keeps W s₀ (s.dualNotice side us) := h.notice

theorem Keeps.checkDual (h : Keeps W s₀ s) : Keeps W s₀ s.checkDual := by
  dsimp only [State.checkDual]
  split
  · exact h
  · exact .ite h.setPair (.ite (.ite h.setPair h.setPair.raise.dualNotice) h)

theorem Keeps.showOffsets (h : Keeps W s₀ s) {d p : Int} : Keeps W s₀ (s.showOffsets d p) := h.wr.wr

theorem Keeps.pairRates (h : Keeps W s₀ s) {d : Int} : Keeps W s₀ (s.pairRates d) :=
  .via h.setPair.nextFree.setAgeAdj fun h1 =>
  .ite (.setPtpAdj (.nextFree (.ite h (.ite (.ite h1 h) h.nextFree.setAgeAdj)))) (.ite h (.ite (.ite h1 h) h.nextFree.setAgeAdj))

theorem Keeps.beginJoin (h : Keeps W s₀ s) {phase : Nat} {d p : Int} {status tloss : Nat} :
    Keeps W s₀ (s.beginJoin phase d p status tloss) := .ite h.setRole.setFld.alignJoin h.setRole.setFld.alignJoin.alignPtp.wr.wr.setPair

theorem Keeps.meetPartner (h : Keeps anywhere s₀ s) {d p : Int} {status tloss join : Nat} {holds : Bool} :
    Keeps anywhere s₀ (s.meetPartner d p status tloss join holds) :=
  .via (.setPair (.ite h.alignAge h)) fun h1 =>
  .ite (.ite h (.ite h.partnerGone (.ite (.ite h (.ite h.beginJoin h.beginJoin)) (.ite h.setOwn.egressOn.setPair.setRole.settleSends
    h)))) (.ite (.ite h.setRole.setFld (.ite h1.startTransfer h)) (.ite (.ite h.partnerGone (.ite (.ite h.setFld h) (.ite
    h1.startTransfer (.ite h.stopMirror h)))) (.ite (.ite h.partnerGone h) h)))

theorem Keeps.tellLinkLost (h : Keeps W s₀ s) : Keeps W s₀ s.tellLinkLost := .ite h.setPair.notice h

theorem Keeps.dueSteps (h : Keeps W s₀ s) : Keeps W s₀ s.dueSteps := by
  refine h.setPair.foldl fun _ _ ht => ?_
  split
  next hx => exact (ht.stepPtp.at2 hx).servoTo
  next hx => exact ht.stepPtp.at2 hx

theorem Keeps.heartbeatIn (h : Keeps anywhere s₀ s) {k : Nat} {b : List Byte} : Keeps anywhere s₀ (s.heartbeatIn k b) := by
  unfold State.heartbeatIn
  extract_lets lat s1 age q s2
  have h1 : Keeps anywhere s₀ s1 := by
    unfold s1
    split
    · exact .ite h.bump h
    · exact h
  split
  extract_lets p s3 s4
  have h3 : Keeps anywhere s₀ s3 := h1.setPair.showAlive.setFld.showOffsets
  exact (Keeps.ite h3 h3.notice).meetPartner.dueSteps.pairRates

theorem Keeps.egressNotice (h : Keeps W s₀ s) {retaken : Bool} {l : List Nat} : Keeps W s₀ (s.egressNotice retaken l) := h.notice

theorem Keeps.egressDone (h : Keeps W s₀ s) : Keeps W s₀ s.egressDone := .ite h (.answer (.ite h.setPair.pairOrdered h.setPair))

theorem Keeps.syncFrames (h : Keeps W s₀ s) : Keeps W s₀ s.syncFrames := h.foldl fun _ _ ht => .ite ht ht.setOut.wr

theorem Keeps.applyHotEgress (h : Keeps W s₀ s) : Keeps W s₀ s.applyHotEgress := .ite h (.ite h.egressOn h.egressOff)

theorem Keeps.clearDisputes (h : Keeps W s₀ s) : Keeps W s₀ s.clearDisputes :=
  h.foldl fun _ _ ht => .ite ht ht.setPairOut.writeDisputes.tellDisputes

theorem Keeps.cmdPairCfg (h : Keeps W s₀ s) {r : Req} : Keeps W s₀ (cmdPairCfg r s).1 :=
  h.refuseOr (.ite (.clearDisputes (.ite (.setFld (.ite (.applyHotEgress (.setFld (.ite h.setFld h))) (.ite h.setFld h))) (.ite
  (.applyHotEgress (.setFld (.ite h.setFld h))) (.ite h.setFld h)))) (.ite (.setFld (.ite (.applyHotEgress (.setFld (.ite h.setFld h)))
  (.ite h.setFld h))) (.ite (.applyHotEgress (.setFld (.ite h.setFld h))) (.ite h.setFld h))))

theorem Keeps.cmdPairSwitchover (h : Keeps W s₀ s) {r : Req} : Keeps W s₀ (cmdPairSwitchover r s).1 :=
  h.refuseOr (.ite1 h.setPair.beginTakeover h.setPair.pairOrdered)

theorem Keeps.cmdPairRejoin (h : Keeps W s₀ s) {r : Req} : Keeps W s₀ (cmdPairRejoin r s).1 := h.refuseOr h.setPair.setRole

theorem Keeps.cmdPairQuery (h : Keeps W s₀ s) {r : Req} : Keeps W s₀ (cmdPairQuery r s).1 := h.refuseOr h

/-! #### Sys2Proof/Machine/Mirror.lean -/

theorem Keeps.mirrorFail (h : Keeps W s₀ s) : Keeps W s₀ s.mirrorFail := .ite h.diverge h.dropMirror

theorem Keeps.mirrorDiffers (h : Keeps W s₀ s) {op : Nat} : Keeps W s₀ (s.mirrorDiffers op) := .ite h.enterFaulted h.mirrorFail

/-- A command found in a table. -/
theorem Keeps.ofEntry {f g : Req → State → State × Resp} {r : Req} (e : some g = some f) (hg : Keeps W s₀ (g r s).1) :
    Keeps W s₀ (f r s).1 := Option.some.inj e ▸ hg

/-- Every command that the standby executes for the active. -/
theorem Keeps.mirrorLow {op : Nat} {f : Req → State → State × Resp} (h : Keeps anywhere s₀ s) (e : Machine.mirrorLow op = some f) (r : Req) :
    Keeps anywhere s₀ (f r s).1 := by
  unfold Machine.mirrorLow at e
  split at e
  · exact .ofEntry e h.cmdSysPartCreate
  · exact .ofEntry e h.cmdSysPartGrant
  · exact .ofEntry e h.cmdSysPartDestroy
  · exact .ofEntry e h.cmdLdgCellAlloc
  · exact .ofEntry e h.cmdLdgCellFree
  · exact .ofEntry e h.cmdLdgCellSet
  · exact .ofEntry e h.cmdLdgCellForce
  · exact .ofEntry e h.cmdLdgStickyRelease
  · exact .ofEntry e h.cmdLdgRingOpen
  · exact .ofEntry e h.cmdLdgRingClose
  · exact .ofEntry e h.cmdLdgNotifyCfg
  · exact .ofEntry e h.cmdGateBindSet
  · exact .ofEntry e h.cmdGateBindClear
  · exact .ofEntry e h.cmdGateTreatCfg
  · exact .ofEntry e h.cmdGateOutputCfg
  · exact .ofEntry e h.cmdStandCfg
  · exact .ofEntry e h.cmdOutEnable
  · exact .ofEntry e h.cmdOutDisable
  · exact .ofEntry e h.cmdOutSet
  · exact .ofEntry e h.cmdCnpBufSet
  · exact .ofEntry e h.cmdCnpBufClear
  · exact .ofEntry e h.cmdCnpLayoutPrepare
  · exact .ofEntry e h.cmdCnpCringOpen
  · exact .ofEntry e h.cmdCnpCringClose
  · cases e

theorem Keeps.mirrorHigh {op : Nat} {f : Req → State → State × Resp} (h : Keeps anywhere s₀ s) (e : Machine.mirrorHigh op = some f) (r : Req) :
    Keeps anywhere s₀ (f r s).1 := by
  unfold Machine.mirrorHigh at e
  split at e
  · exact .ofEntry e h.cmdLkoRegionSet
  · exact .ofEntry e h.cmdLkoRegionClear
  · exact .ofEntry e h.cmdLkoRefSet
  · exact .ofEntry e h.cmdDecSessionOpen
  · exact .ofEntry e h.cmdDecSessionClose
  · exact .ofEntry e h.cmdDecSessionParams
  · exact .ofEntry e h.cmdDecSessionAnchor
  · exact .ofEntry e h.cmdDecPipeCtrl
  · exact .ofEntry e h.cmdEncSessionOpen
  · exact .ofEntry e h.cmdEncSessionClose
  · exact .ofEntry e h.cmdEncSessionSet
  · exact .ofEntry e h.cmdEncRefresh
  · exact .ofEntry e h.cmdEncPipeCtrl
  · exact .ofEntry e h.cmdPktPortCfg
  · exact .ofEntry e h.cmdPktFlowSet
  · exact .ofEntry e h.cmdPktFlowKey
  · exact .ofEntry e h.cmdPktTxFlowSet
  · exact .ofEntry e h.cmdTimCfg
  · exact .ofEntry e h.cmdTimReEpoch
  · exact .ofEntry e h.cmdTimPpsCfg
  · exact .ofEntry e h.cmdKlnLaneCtrl
  · exact .ofEntry e h.cmdCapEnable
  · exact .ofEntry e h.cmdCapDisable
  · exact .ofEntry e h.cmdPairCfg
  · exact .ofEntry e h.cmdPolCfg
  · cases e

theorem Keeps.runMirrored (h : Keeps anywhere s₀ s) {whole : List Byte} : Keeps anywhere s₀ (s.runMirrored whole) := by
  dsimp only [State.runMirrored]
  refine .ite h.takeDecision ?_
  split
  · exact h.mirrorFail
  next f hf =>
    have hr (r : Req) (t : State) (ht : Keeps anywhere s₀ t) : Keeps anywhere s₀ (f r t).1 := by
      rcases Option.or_eq_some_iff.mp hf with hl | ⟨-, hh⟩
      · exact ht.mirrorLow hl r
      · exact ht.mirrorHigh hh r
    split
    next hx => exact .ite ((hr _ _ h.setPair).at1 hx) ((hr _ _ h.setPair).at1 hx).mirrorDiffers
    next hx => exact .ite ((hr _ _ h.setPair).at1 hx) ((hr _ _ h.setPair).at1 hx).mirrorDiffers
    next => exact .ite h.setPair h.setPair.mirrorDiffers
    next hx => exact .ite ((hr _ _ h.setPair).at1 hx) ((hr _ _ h.setPair).at1 hx).mirrorDiffers
    next hx => exact ((hr _ _ h.setPair).at1 hx).setPair

theorem Keeps.takeForwarded (h : Keeps anywhere s₀ s) {whole : List Byte} : Keeps anywhere s₀ (s.takeForwarded whole) :=
  .ite h.runMirrored (.ite h.mirrorFail h.setPair)

theorem Keeps.runWaiting (h : Keeps anywhere s₀ s) : Keeps anywhere s₀ s.runWaiting :=
  (h.setPair.foldl fun _ _ ht => .ite ht.runMirrored ht).runActs

theorem Keeps.lcsPart (h : Keeps anywhere s₀ s) {b : List Byte} : Keeps anywhere s₀ (s.lcsPart b) :=
  .ite h.mirrorFail (.ite h.setPair h.setPair.takeForwarded)

theorem Keeps.mirrorWrite (h : Keeps anywhere s₀ s) {b : List Byte} : Keeps anywhere s₀ (s.mirrorWrite b) :=
  .ite h (.ite h.unitStore h.unitStore.mirrorFail)

theorem Keeps.mirrorDoorbell (h : Keeps anywhere s₀ s) {b : List Byte} : Keeps anywhere s₀ (s.mirrorDoorbell b) := by
  dsimp only [State.mirrorDoorbell]
  split
  · exact h.ringProd
  · split
    · exact h.commitProd
    · exact h

theorem Keeps.latchDecisions (h : Keeps anywhere s₀ s) {n c : Nat} {b : List Byte} : Keeps anywhere s₀ (s.latchDecisions n c b).2 := by
  rw [State.latchDecisions]
  refine h.foldl2' fun p i ht q e => ?_
  split at e
  next e1 => cases e; exact ht.readDesc.at2 e1

theorem Keeps.takeNamed (h : Keeps W s₀ s) {n f : Nat} {ids : List (Option Nat)} : Keeps W s₀ (s.takeNamed n f ids) := by
  refine .foldl h fun t k ht => ?_
  extract_lets src id
  split
  · exact ht
  · refine .ite ht ?_
    split
    next e =>
      have h1 := ht.injTake.at2 e
      extract_lets found x t2
      have h2 : Keeps W s₀ t2 := .ite h1 (.ite h1 h1.setPairOut.bump)
      refine .ite h2 ?_
      split
      · exact h2
      · exact .ite h2 h2.giveUp.takePic

theorem Keeps.standbyLatch (h : Keeps anywhere s₀ s) {n : Nat} : Keeps anywhere s₀ (s.standbyLatch n) := by
  unfold State.standbyLatch
  extract_lets f nf x due s0
  split
  · exact h.latchPrep.latchWith fun _ ht => ht
  · extract_lets s1
    split
    next e =>
      have h2 := Keeps.at222 (h.latchPrep.setPairOut.foldl222 fun p _ ht => by
        split
        next e1 => exact ht.latchDecisions.at2 e1) e
      exact .ite (h2.latchWith fun _ ht => ht.takeNamed) (h2.latchWith fun _ ht => ht.takeNamed).mirrorFail

theorem Keeps.latchIn (h : Keeps anywhere s₀ s) {b : List Byte} : Keeps anywhere s₀ (s.latchIn b) :=
  .ite h.setPairOut.standbyLatch h.setPairOut

theorem Keeps.markLate (h : Keeps W s₀ s) {n f : Nat} : Keeps W s₀ (s.markLate n f) := .ite h h.setPairOut.bump

theorem Keeps.openAdopted (h : Keeps W s₀ s) {x : Settings} : Keeps W s₀ (s.openAdopted x) :=
  (((h.foldl fun _ _ ht => .ite ht ht.openQueue.setQueue.setDec.setFld).foldl fun _ _ ht => .ite ht.setEnc ht).foldl fun _ _ ht => .ite
  ht.setCap.setFbkRegion.setCapState ht)

theorem Keeps.dropOwnCells (h : Keeps W s₀ s) : Keeps W s₀ s.dropOwnCells := h.foldl fun _ _ ht => ht.settleCell

theorem Keeps.adopt (h : Keeps W s₀ s) {x : Settings} : Keeps W s₀ (s.adopt x) := by
  unfold State.adopt
  extract_lets s0 p s1 a b c s2 s3 s4 s5 s6 s7
  have h1 : Keeps W s₀ s1 := h.dropOwnCells.setPair.foldl fun _ _ ht => .ite ht.wr ht
  have h2 : Keeps W s₀ s2 := h1.updSettings
  have h3 : Keeps W s₀ s3 := h2.foldl fun _ _ ht => ht.settleCell
  have h4 : Keeps W s₀ s4 := h3.foldl fun _ _ ht => ht.setFbkRegion
  have h5 : Keeps W s₀ s5 := h4.foldl fun _ _ ht => ht.setPairOut.writeDisputes
  have h6 : Keeps W s₀ s6 := h5.foldl fun _ _ ht => ht.setPort
  exact h6.setFld.setFld.applyHotEgress.settleSends

theorem Keeps.cutOver (h : Keeps W s₀ s) : Keeps W s₀ s.cutOver := by
  unfold State.cutOver
  extract_lets resync p s1 s2 s3 s4
  have h1 : Keeps W s₀ s1 := by
    unfold s1
    split
    · exact h.setPair.openAdopted
    · exact h
  have h2 : Keeps W s₀ s2 := h1.syncFrames.foldl fun _ _ ht => ht.clearConverged
  have h3 : Keeps W s₀ s3 := h2.bump.setFld.setRole
  exact (Keeps.ite h3.raise.notice h3).applyHotEgress.settleSends

theorem Keeps.xferIn (h : Keeps anywhere s₀ s) {b : List Byte} {settings : Option Settings} : Keeps anywhere s₀ (s.xferIn b settings) := by
  unfold State.xferIn
  extract_lets kind a data p s1 size
  refine .ite h ?_
  have h1 : Keeps anywhere s₀ s1 := h.setPair
  refine .ite ?_ (.ite ?_ (.ite h1.settleCell (.ite ?_ (.ite h.setPair h1))))
  · split
    next e => exact .ite (h1.unitStore.at22 e) (h1.unitStore.at22 e).mirrorFail
  · split
    next e => exact .ite (h1.fbkCheck.at22 e).updMem (h1.fbkCheck.at22 e).mirrorFail
  · split
    · exact h1.adopt
    · exact h1

theorem Keeps.roleIn (h : Keeps W s₀ s) {b : List Byte} : Keeps W s₀ (s.roleIn b) :=
  .ite (.ite h.setPair h) (.ite (.ite h.beginTakeover h) (.ite h.setPair.answer h))

theorem Keeps.disputeIn (h : Keeps W s₀ s) {b : List Byte} : Keeps W s₀ (s.disputeIn b) := .ite h h.setPairOut.disputeLater.tellDisputes

theorem Keeps.sigRecIn (h : Keeps anywhere s₀ s) {b : List Byte} : Keeps anywhere s₀ (s.sigRecIn b) :=
  .ite h h.setPairOut.matchRecords.returnCredits

theorem Keeps.timeIn (h : Keeps W s₀ s) {b : List Byte} : Keeps W s₀ (s.timeIn b) := .ite (.ite h.setPtpAdj h) (.ite h.setPair.dueSteps h)

theorem Keeps.retxIn (h : Keeps W s₀ s) {b : List Byte} : Keeps W s₀ (s.retxIn b) := h.foldl fun _ _ ht => ht.pairFlit.bump

theorem Keeps.pairDeliver (h : Keeps anywhere s₀ s) {m : PairMsg} : Keeps anywhere s₀ (s.pairDeliver m) := by
  dsimp only [State.pairDeliver]
  split
  · exact .ite h.lcsPart h
  · exact .ite h.mirrorWrite h
  · exact .ite h.mirrorDoorbell h
  · exact .ite h.latchIn h
  · exact h.disputeIn
  · exact h.roleIn
  · exact h.xferIn
  · exact h.timeIn
  · exact h

theorem Keeps.drainHeld (h : Keeps anywhere s₀ s) {k : Nat} : Keeps anywhere s₀ (s.drainHeld k) := by
  induction k generalizing s with
  | zero => exact h
  | succ k ih =>
    rw [State.drainHeld]
    dsimp only
    split
    · exact h
    · exact ih h.setPair.wr.pairDeliver

theorem Keeps.orderedIn (h : Keeps anywhere s₀ s) {m : PairMsg} : Keeps anywhere s₀ (s.orderedIn m) :=
  .ite h.wr.pairDeliver.drainHeld.setPair (.ite h.setPair h)

theorem Keeps.pairIn (h : Keeps anywhere s₀ s) {m : PairMsg} {k : Nat} : Keeps anywhere s₀ (s.pairIn m k) := by
  dsimp only [State.pairIn]
  split
  · exact h
  · split
    · exact .ite h.heartbeatIn h
    · exact h.sigRecIn
    · exact h.retxIn
    · exact h.orderedIn

/-! #### Sys2Proof/Machine/LaneCmds.lean -/

theorem Keeps.powerUpDone (h : Keeps W s₀ s) {i : Nat} : Keeps W s₀ (s.powerUpDone i) := by
  dsimp only [State.powerUpDone]
  split
  · exact h
  · exact .ite h.laneTo h

theorem Keeps.detectProbe (h : Keeps W s₀ s) {i : Nat} {found : Bool} : Keeps W s₀ (s.detectProbe i found) :=
  .ite h (.ite h.setFld.laneTo h.setFld.setLane)

theorem Keeps.bringupFail (h : Keeps W s₀ s) {i cause : Nat} : Keeps W s₀ (s.bringupFail i cause) := h.bump.raise.laneTo

theorem Keeps.laneReady (h : Keeps W s₀ s) {i : Nat} : Keeps W s₀ (s.laneReady i) := .ite h.laneUp.retrainDone.egressDone h.laneUp

theorem Keeps.statusIn (h : Keeps W s₀ s) {i : Nat} {b : List Byte} : Keeps W s₀ (s.statusIn i b) :=
  .ite h.setLane.setFld.setFld.setFld.partnerNotice h.setLane.setFld.setFld.setFld

theorem Keeps.hotplugIn (h : Keeps W s₀ s) {i : Nat} {b : List Byte} : Keeps W s₀ (s.hotplugIn i b) :=
  .ite h.setLane.setFld.partnerNotice h.setLane.setFld

theorem Keeps.returnIn (h : Keeps W s₀ s) {n : Nat} {b : List Byte} : Keeps W s₀ (s.returnIn n b) := by
  dsimp only [State.returnIn]
  split
  · exact h.bump
  · exact .ite h (.ite h.injTake (.ite h.injTake.setFld.setFld.wr.returnResult.returnRetrain h.injTake.setFld.setFld.wr.returnResult))

theorem Keeps.msgIn (h : Keeps W s₀ s) {i type : Nat} {b : List Byte} : Keeps W s₀ (s.msgIn i type b) :=
  .ite h (.ite h.returnIn (.ite h.statusIn (.ite h.hotplugIn h)))

theorem Keeps.nakNow (h : Keeps W s₀ s) {i : Nat} : Keeps W s₀ (s.nakNow i) := h.sendAck.setLane

theorem Keeps.failFlit (h : Keeps W s₀ s) {i : Nat} : Keeps W s₀ (s.failFlit i) := h.bump.raise.nakNow

theorem Keeps.useFlit (h : Keeps anywhere s₀ s) {i : Nat} {f : List Byte} : Keeps anywhere s₀ (s.useFlit i f) :=
  .ite (.ite h.tearCapture h) (.ite h.capPixels (.ite h.capMode (.ite (h.foldl fun _ _ ht => ht.msgIn) (.ite (h.foldl fun _ _ ht =>
  ht.pairIn) h))))

theorem Keeps.acceptFlit (h : Keeps anywhere s₀ s) {i : Nat} {f : List Byte} : Keeps anywhere s₀ (s.acceptFlit i f) :=
  h.setFld.bumpWrap.setLane.sendAck.useFlit

theorem Keeps.takeFlit (h : Keeps anywhere s₀ s) {i : Nat} {f : List Byte} {spoilt : Bool} : Keeps anywhere s₀ (s.takeFlit i f spoilt) := by
  rw [State.takeFlit]
  refine .ite h ?_
  split
  next e =>
    have h1 := h.injTake.at2 e
    exact .ite h1.failFlit (.ite (.ite h1.acceptFlit h1) (.ite h1.acceptFlit (.ite h1.nakNow h1)))

theorem Keeps.ackNakIn (h : Keeps anywhere s₀ s) {i : Nat} {nak : Bool} {seq : Nat} : Keeps anywhere s₀ (s.ackNakIn i nak seq) :=
  .ite h (.ite h.nakFlit (.ite h.ackFlit.returnCredits h.ackFlit))

theorem Keeps.replayTimeout (h : Keeps W s₀ s) {i : Nat} : Keeps W s₀ (s.replayTimeout i) := by
  dsimp only [State.replayTimeout]
  split
  · exact h
  · exact .ite h.bump.replayFrom h

theorem Keeps.scrAdvance (h : Keeps W s₀ s) {i : Nat} : Keeps W s₀ (s.scrAdvance i).2 := h.setLane

theorem Keeps.lockLost (h : Keeps W s₀ s) {i cause : Nat} : Keeps W s₀ (s.lockLost i cause) := .ite h.bump.raise.laneTo h.bump.raise

theorem Keeps.badOrder (h : Keeps W s₀ s) {i : Nat} : Keeps W s₀ (s.badOrder i) := .ite h.bump.raise.failFlit h.bump.raise

theorem Keeps.skipIn (h : Keeps W s₀ s) {i fill : Nat} {b : List Byte} : Keeps W s₀ (s.skipIn i fill b) :=
  .via (.ite h.bump (.ite h.bump h)) fun h1 =>
  .ite h1 (.ite h1.setLane (.ite h1.setLane h1.setFld.lockLost))

theorem Keeps.ts1In (h : Keeps W s₀ s) {i : Nat} {b : List Byte} : Keeps W s₀ (s.ts1In i b) :=
  .ite h.laneTo (.ite (.laneTo (.ite h.setLane.setFld h.setLane)) (.ite h.setLane.setFld h.setLane))

theorem Keeps.capsDone (h : Keeps W s₀ s) {i : Nat} : Keeps W s₀ (s.capsDone i) := .ite h (.ite h.laneTo (.ite h.laneReady h))

theorem Keeps.ts2In (h : Keeps W s₀ s) {i : Nat} {b : List Byte} : Keeps W s₀ (s.ts2In i b) := .ite h h.setLane.capsDone

theorem Keeps.capWordIn (h : Keeps W s₀ s) {i : Nat} {b : List Byte} : Keeps W s₀ (s.capWordIn i b) :=
  .ite h (.ite h.setLane (.ite h.setLane (h.setLane.foldl fun _ _ ht => ht.wr.wr).capsDone))

theorem Keeps.pictureOrder (h : Keeps W s₀ s) {i : Nat} {b : List Byte} : Keeps W s₀ (s.pictureOrder i b) :=
  .ite h (.ite h.capFrameStart h.capLineStart)

theorem Keeps.controlIn (h : Keeps anywhere s₀ s) {i fill : Nat} {b : List Byte} : Keeps anywhere s₀ (s.controlIn i fill b) :=
  .via (.badOrder (.ite2 h.scrAdvance h)) fun h1 =>
  .ite (.ite h1 (.setLane (.ite2 h.scrAdvance h))) (.ite h1 (.ite (.skipIn (.ite2 h.scrAdvance h)) (.ite (.pictureOrder (.ite2
    h.scrAdvance h)) (.ite (.ackNakIn (.ite2 h.scrAdvance h)) (.ite h1 (.ite (.ts1In (.ite2 h.scrAdvance h)) (.ite (.ts2In (.ite2
    h.scrAdvance h)) (.ite (.capWordIn (.ite2 h.scrAdvance h)) h1))))))))

theorem Keeps.dataIn (h : Keeps anywhere s₀ s) {i : Nat} {b : List Byte} : Keeps anywhere s₀ (s.dataIn i b) := by
  rw [State.dataIn]
  split
  next e =>
    have h1 := h.scrAdvance.at2 e
    exact .ite h1 (.ite h1.setLane h1.setLane.takeFlit)

theorem Keeps.headerIn (h : Keeps W s₀ s) {i : Nat} {bad : Bool} : Keeps W s₀ (s.headerIn i bad) :=
  .via (.ite h.setLane.bump.failFlit h.setLane.bump) fun h1 =>
  .ite (.ite h1.setFld.lockLost h1) (.ite h.setLane.setFld h.setLane)

theorem Keeps.offsetLoop (h : Keeps W s₀ s) {i : Nat} {adapts : Bool} {offset : Int} : Keeps W s₀ (s.offsetLoop i adapts offset) :=
  .ite h.setFld.setFld h.setFld

theorem Keeps.blockIn (h : Keeps anywhere s₀ s) {i sync : Nat} {b : List Byte} {fill : Nat} {offset : Int} :
    Keeps anywhere s₀ (s.blockIn i sync b fill offset) := .ite h.headerIn.offsetLoop (.ite (.ite h.headerIn.offsetLoop.dataIn
    h.headerIn.offsetLoop) h.headerIn.offsetLoop.controlIn)

theorem Keeps.etherBlock (h : Keeps W s₀ s) {i sync fill : Nat} {offset : Int} : Keeps W s₀ (s.etherBlock i sync fill offset) :=
  .via (.ite h.setLane.setFld.bump h.setLane.setFld) fun h1 =>
  .offsetLoop (.ite (.ite h1.portLink h1) (.ite h1.setFld.portLink h1))

theorem Keeps.blockSlips (h : Keeps anywhere s₀ s) {i sync : Nat} {b : List Byte} {fill : Nat} {offset : Int} :
    Keeps anywhere s₀ (s.blockSlips i sync b fill offset) := .ite (.ite h.bump.raise.blockIn h.bump.raise.blockIn.blockIn) (.ite
    h.bump.raise.bump h.bump.raise)

theorem Keeps.blockReceived (h : Keeps anywhere s₀ s) {i sync : Nat} {b : List Byte} {fill : Nat} {offset : Int} :
    Keeps anywhere s₀ (s.blockReceived i sync b fill offset) := .ite (.ite h.etherBlock h) (.ite h (.ite h.setFld.blockSlips
    h.setFld.blockIn))

theorem Keeps.sendDeviceStatus (h : Keeps W s₀ s) {i : Nat} : Keeps W s₀ (s.sendDeviceStatus i) := .ite h.setLane.sendMsg h

/-! #### Sys2Proof/Machine/ScanCmds.lean -/

theorem Keeps.beforeFrame (h : Keeps W s₀ s) {n : Nat} : Keeps W s₀ (s.beforeFrame n) := .applyDisputes (.ite h.setGate h)

theorem Keeps.linePoint (h : Keeps anywhere s₀ s) {n y : Nat} {late : Bool} {ecc : List (Nat × Nat)} :
    Keeps anywhere s₀ (s.linePoint n y late ecc) := .ite h (.samplePoint (.ite h.beforeFrame h))

theorem Keeps.startFrame (h : Keeps W s₀ s) {n : Nat} : Keeps W s₀ (s.startFrame n) :=
  .via h.frameStartOps.markLate fun h1 =>
  .via h.frameStartOps.clearConverged fun h2 =>
  .via (.settleUnsupp (.ite h2 h1)) fun h3 =>
  .via h3.missingRecords.encFrameStart fun h4 =>
  .ite h (.ite (.returnRetrain (.ite h4.sendFrameStart h4)) (.ite h4.sendFrameStart h4))

theorem Keeps.runLine (h : Keeps anywhere s₀ s) {n y : Nat} {gaps : List (Nat × Nat)} {poison : List Nat} {pool : Nat} :
    Keeps anywhere s₀ (s.runLine n y gaps poison pool) := .ite h (.emit (.ite h.lineStart.encTap.sendLine h.lineStart.encTap))

theorem Keeps.endFrame (h : Keeps W s₀ s) {n : Nat} : Keeps W s₀ (s.endFrame n) := .ite h h.frameEndOps.frameMeasure

theorem Keeps.postFrame (h : Keeps anywhere s₀ s) {n : Nat} : Keeps anywhere s₀ (s.postFrame n) :=
  .via h.lookoutPost.setLook.postRecord fun h1 =>
  .via (.ite h.lookoutPost.setLook h1) fun h2 =>
  .ite h (.returnCredits (.ite (.voidSlice (.ite h2.ageOwn.returnRetrain h2.ageOwn)) (.ite h2.ageOwn.returnRetrain h2.ageOwn)))

theorem Keeps.latchLine (h : Keeps anywhere s₀ s) {n : Nat} : Keeps anywhere s₀ (s.latchLine n) := by
  unfold State.latchLine
  refine .ite h (.ite h.standbyLatch ?_)
  extract_lets f
  split
  next e =>
    extract_lets s2 plan s3
    have h3 : Keeps anywhere s₀ s3 := (h.decideLatch.at222 e).latchPrep.latchWith fun _ ht => ht.takeNewest
    exact .ite h3.pairSend h3

theorem Keeps.leaveScreen (h : Keeps W s₀ s) {n reset : Nat} : Keeps W s₀ (s.leaveScreen n reset) := h.encSourceLost.setPairOut.outOff

/-! #### Sys2Proof/Machine/StartCmds.lean -/

theorem Keeps.pwrRecover (h : Keeps anywhere s₀ s) : Keeps anywhere s₀ s.pwrRecover := by
  dsimp only [State.pwrRecover]
  split
  · exact h
  · exact .ite h (.ite h.coldState (.ite h.setFld.setFld.setFld.setSys.beginWarm h.setFld.setFld.setFld.setSys.warmCommon))

theorem Keeps.cmdSysPower (h : Keeps W s₀ s) {r : Req} : Keeps W s₀ (cmdSysPower r s).1 := h.refuseOr h.setFld.powerNotice.setSys

theorem Keeps.cmdSysStartQuery (h : Keeps W s₀ s) {x : Req} : Keeps W s₀ (cmdSysStartQuery x s).1 := h

theorem Keeps.cmdSysWarmStart (h : Keeps W s₀ s) {r : Req} : Keeps W s₀ (cmdSysWarmStart r s).1 := h.refuseOr h.setSys

theorem Keeps.cmdSysImageQuery (h : Keeps W s₀ s) {x : Req} : Keeps W s₀ (cmdSysImageQuery x s).1 := h

theorem Keeps.cmdSysImageWrite (h : Keeps anywhere s₀ s) {r : Req} : Keeps anywhere s₀ (cmdSysImageWrite r s).1 :=
  h.refuseOr h.fwRead.setSys

theorem Keeps.imageWritten (h : Keeps anywhere s₀ s) {failed : Bool} {altered : List (Nat × Nat × Nat)} :
    Keeps anywhere s₀ (s.imageWritten failed altered) := by
  dsimp only [State.imageWritten]
  split
  · exact h
  · exact h.fwRead.nextFree.updFlash.judgeItem.setSys.notice

end

/-! ### The commands -/

/-- Where the command ends in a state, it ends in one that keeps what `Keeps` says. -/
def Delivers (W : Nat → Prop) (s : State) (o : Host.Outcome State Fault Refusal) : Prop := ∀ t, o = .next t → Keeps W s t

theorem Delivers.next {W : Nat → Prop} {s t : State} (h : Keeps W s t) : Delivers W s (.next t) := fun _ e => by cases e; exact h

theorem Delivers.access {W : Nat → Prop} {s t : State} {size a n : Nat} {o : Host.Outcome State Fault Refusal} (h : Keeps W s t)
    (ho : o = accessOutcome size a n t) : Delivers W s o := fun u e => by
  rw [ho, accessOutcome] at e
  split at e
  · cases e; exact h
  · cases e

theorem Keeps.engineRequest {s₀ s : State} (h : Keeps anywhere s₀ s) {u a : Nat} {write : Bool} {data : List Byte} {len : Nat}
    {met : MemMet} : Keeps anywhere s₀ (s.engineRequest u a write data len met) := .ite h (.ite h.rangerReg h.engineAccess)

section
variable {dt : Nat} {s : State}

theorem delivers_execTimTxqHeadPop : Delivers anywhere s (execTimTxqHeadPop dt s) := by
  have h := (Keeps.refl (W := anywhere) s).pass (dt := dt)
  refine .next ?_
  split
  · exact h.updReadData
  · exact h.setTxq.putTxStamp.updReadData

theorem delivers_execPpsOutRise : Delivers anywhere s (execPpsOutRise dt s) := by
  have h := (Keeps.refl (W := anywhere) s).pass (dt := dt)
  refine .next (.ite (.updTime ?_) h)
  split
  · exact h
  · exact h.setFld

theorem delivers_execWatchdogExpiry {unit : Fin 3} : Delivers anywhere s (execWatchdogExpiry dt unit s) := by
  have h := (Keeps.refl (W := anywhere) s).pass (dt := dt)
  refine .next (.ite h (.ite (.ite h.raise.faultRestart h) (.ite h ?_)))
  split
  next e => exact (h.injTake.at2 e).raise.faultRestart

theorem delivers_execLockstepMismatch : Delivers anywhere s (execLockstepMismatch dt s) := by
  have h := (Keeps.refl (W := anywhere) s).pass (dt := dt)
  refine .next (.ite h ?_)
  split
  next e => exact (h.injTake.at2 e).bump.faultRestart

theorem delivers_execCvuScanComplete {unit : Fin 4} {done : Nat} {poison : Option Nat} :
    Delivers anywhere s (execCvuScanComplete dt unit done poison s) := by
  have h := (Keeps.refl (W := anywhere) s).pass (dt := dt)
  refine .next (.ite h ?_)
  extract_lets
  split
  next e => exact (h.cvuBlocks.at2 e).cvuEnd

theorem delivers_execAvsReadback {vout iout power : Nat} {tries : List Bool} :
    Delivers anywhere s (execAvsReadback dt vout iout power tries s) := by
  have h := (Keeps.refl (W := anywhere) s).pass (dt := dt)
  refine .next (.ite h ?_)
  split
  next e => exact (h.setSys.avsTransaction.at2 e).showSupply
  next e => exact h.setSys.avsTransaction.at2 e

theorem delivers_execHbPinToggle : Delivers anywhere s (execHbPinToggle dt s) := by
  have h := ((Keeps.refl (W := anywhere) s).pass (dt := dt)).checkDual
  refine .next (.ite ?_ h)
  split
  next e =>
  have h2 := h.setPair.injTake.at2 e
  extract_lets p s3
  have h3 : Keeps anywhere s s3 := by
    unfold s3
    split
    · exact h2.setPair
    · exact h2
  exact .ite h3 h3.setFld

theorem delivers_execHbPinEdge {level : Bool} : Delivers anywhere s (execHbPinEdge dt level s) := by
  have h := (Keeps.refl (W := anywhere) s).pass (dt := dt)
  unfold execHbPinEdge
  extract_lets s1 s2 p s3
  have h1 : Keeps anywhere s s1 := h.setFld
  have h2 : Keeps anywhere s s2 := by
    unfold s2
    split
    · exact .ite h1.bump h1
    · exact h1
  have h3 : Keeps anywhere s s3 := h2.setPair.showAlive
  exact .next (.ite h3.nextFree.setAgeAdj h3)

theorem delivers_execFindingTimeout : Delivers anywhere s (execFindingTimeout dt s) := by
  have h := (Keeps.refl (W := anywhere) s).pass (dt := dt)
  refine .next ?_
  split
  · exact h
  · exact .ite h.setOwn.egressOn.setPair.setRole.settleSends h

theorem delivers_execEgressBringupTimeout : Delivers anywhere s (execEgressBringupTimeout dt s) := by
  have h := ((Keeps.refl (W := anywhere) s).pass (dt := dt)).showAlive
  refine .next ?_
  split
  · exact h
  · exact .ite h (.ite h.egressDone (.ite h.raise.setPair.pairOrdered.egressNotice.enterFaulted.answer.returnCredits
      (h.raise.setPair.foldl fun _ _ ht => ht.setGate.logFault).setPair.egressNotice.answer))

theorem delivers_execSelStatusChange {level : Bool} : Delivers anywhere s (execSelStatusChange dt level s) := by
  have h := ((Keeps.refl (W := anywhere) s).pass (dt := dt))
  refine .next ?_
  split
  · exact h.setFld
  · exact h.setFld.setPair.checkDual

theorem delivers_execYield : Delivers anywhere s (execYield dt s) := by
  have h := (Keeps.refl (W := anywhere) s).pass (dt := dt)
  refine .next ?_
  split
  · exact .ite h.setOwn.stopMirror.raise.raise.bump.setPair.setRole.egressOff.settleSends.dualNotice.endSwitch.returnCredits h
  · exact h

theorem delivers_execIlkWaitExpiry : Delivers anywhere s (execIlkWaitExpiry dt s) := by
  have h := (Keeps.refl (W := anywhere) s).pass (dt := dt)
  refine .next ?_
  split
  · exact .ite h.setFld.setPair h
  · exact h

theorem delivers_execIlkSample : Delivers anywhere s (execIlkSample dt s) := by
  have h := (Keeps.refl (W := anywhere) s).pass (dt := dt)
  refine .next ?_
  split
  · exact .ite h (.ite h.takeOver h.setFld.setPair)
  · exact h

theorem delivers_execSwitchoverInstant : Delivers anywhere s (execSwitchoverInstant dt s) := by
  have h := (Keeps.refl (W := anywhere) s).pass (dt := dt)
  refine .next ?_
  split
  · exact h
  · exact .ite (.ite h h.setOwn.stopMirror.setRole.setPair.setFld.egressOff.settleSends.returnCredits)
      (.ite (.ite h h.claimDisplays.setRole.setPair.setFld.settleSends) h.setPair)

theorem delivers_execPairGapTimeout : Delivers anywhere s (execPairGapTimeout dt s) := by
  have h := (Keeps.refl (W := anywhere) s).pass (dt := dt)
  refine .next ?_
  split
  · exact h
  · exact .ite h (.ite h.setPair.pairLoose (.ite h.dropMirror.setRole h.setPair))

theorem delivers_execWarmStartBegin : Delivers anywhere s (execWarmStartBegin dt s) := by
  have h := (Keeps.refl (W := anywhere) s).pass (dt := dt)
  refine .next ?_
  split
  · exact h
  · exact .ite h.setSys h.beginWarm.setSys

theorem delivers_execPowerStateEntryDone : Delivers anywhere s (execPowerStateEntryDone dt s) := by
  have h := (Keeps.refl (W := anywhere) s).pass (dt := dt)
  refine .next ?_
  split
  · exact h
  · exact .ite h (.ite h.enterRetention h.enterDeep)

theorem delivers_execHostBar2Write {addr : Nat} {data : HostData} : Delivers anywhere s (execHostBar2Write dt addr data s) :=
  .access (Keeps.refl s).pass.bar2Post (exec_hostBar2Write dt addr data s)

theorem delivers_execHostBar2Read {addr len : Nat} {met : MemMet} : Delivers anywhere s (execHostBar2Read dt addr len met s) :=
  .access (Keeps.refl s).pass.bar2Read (exec_hostBar2Read dt addr len met s)

theorem delivers_execEngineMemoryAccess {unit : Fin 28} {write : Bool} {addr : Nat} {data : List Byte} {len : Nat} {met : MemMet} :
    Delivers anywhere s (execEngineMemoryAccess dt unit write addr data len met s) :=
  .access (Keeps.refl s).pass.engineRequest (exec_engineMemoryAccess dt unit write addr data len met s)

theorem delivers_execDebugAccess {write : Bool} {addr : Nat} {data : List Byte} {read : DebugRead} :
    Delivers anywhere s (execDebugAccess dt write addr data read s) :=
  .access (Keeps.refl s).pass.debugAccess (exec_debugAccess dt write addr data read s)

end

/-- Every command that ends keeps the queue behind it, the form of the memories and the order of time. -/
theorem exec_delivers (c : Instr) (s : State) : Delivers anywhere s (exec c s) := by
  have h := Keeps.refl (W := anywhere) s
  cases c with
  | queuePointerMismatch => exact .next h.pass.queueMismatch
  | queueResume => exact .next h.pass.queueResume
  | queueFaultClass => exact .next (.ite h.pass.queueClass h.pass)
  | hostUnpopulatedAccess => exact .next h.pass.unpopulated
  | hostBar2Write => exact delivers_execHostBar2Write
  | hostBar2Read => exact delivers_execHostBar2Read
  | engineMemoryAccess => exact delivers_execEngineMemoryAccess
  | debugAccess => exact delivers_execDebugAccess
  | scrubBlockVisit => exact .next h.pass.scrub
  | hbmPowerDownEntry => exact .next h.pass.powerDown
  | hbmSelfRefreshEntry => exact .next h.pass.selfRefresh
  | urgencyPromotion => exact .next h.pass.promote.serveDue
  | regReadLowHalf => exact .next h.pass.hostRegRead
  | regWrite => exact .next h.pass.hostRegWrite
  | memScrubCtrlWrite => exact .next h.pass.scrubCtrl
  | ldgCringProdWrite => exact .next h.pass.hostRingProd
  | hostConfirmRecord => exact .next h.pass.hostRecord
  | engineConfirm => exact .next h.pass.takeConfirm
  | wheelSlotScan => exact .next h.pass.wheelScan
  | wheelSlotExpiry => exact .next h.pass.wheelExpire
  | sweeperCellVisit => exact .next h.pass.sweepVisit
  | sweeperLapEnd => exact .next h.pass.sweepLapEnd
  | ldgSvcRead => exact .next h.pass.svcRead
  | ldgSvcWrite => exact .next h.pass.svcWrite
  | ldgCellAlloc => exact .next (h.pass.lcs fun _ => h.pass.cmdLdgCellAlloc)
  | ldgCellFree => exact .next (h.pass.lcs fun _ => h.pass.cmdLdgCellFree)
  | ldgCellSet => exact .next (h.pass.lcs fun _ => h.pass.cmdLdgCellSet)
  | ldgCellForce => exact .next (h.pass.lcs fun _ => h.pass.cmdLdgCellForce)
  | ldgCellQuery => exact .next (h.pass.lcs fun _ => h.pass.cmdLdgCellQuery)
  | ldgStickyRelease => exact .next (h.pass.lcs fun _ => h.pass.cmdLdgStickyRelease)
  | ldgRingOpen => exact .next (h.pass.lcs fun _ => h.pass.cmdLdgRingOpen)
  | ldgRingClose => exact .next (h.pass.lcs fun _ => h.pass.cmdLdgRingClose)
  | ldgNonliveList => exact .next (h.pass.lcs fun _ => h.pass.cmdLdgNonliveList)
  | ldgNotifyCfg => exact .next (h.pass.lcs fun _ => h.pass.cmdLdgNotifyCfg)
  | ldgStaleBatch => exact .next h.pass.staleBatch
  | lineSamplePoint => exact .next h.pass.linePoint
  | gateSvcWrite => exact .next h.pass.gateSvcWrite
  | gateBindSet => exact .next (h.pass.lcs fun _ => h.pass.cmdGateBindSet)
  | gateBindClear => exact .next (h.pass.lcs fun _ => h.pass.cmdGateBindClear)
  | gateSpanQuery => exact .next (h.pass.lcs fun _ => h.pass.cmdGateSpanQuery)
  | gateTreatCfg => exact .next (h.pass.lcs fun _ => h.pass.cmdGateTreatCfg)
  | gateOutputCfg => exact .next (h.pass.lcs fun _ => h.pass.cmdGateOutputCfg)
  | standCfg => exact .next (h.pass.lcs fun _ => h.pass.cmdStandCfg)
  | outEnable => exact .next (h.pass.lcs fun _ => h.pass.cmdOutEnable)
  | outDisable => exact .next (h.pass.lcs fun _ => h.pass.cmdOutDisable)
  | outSet => exact .next (h.pass.lcs fun _ => h.pass.cmdOutSet)
  | outQuery => exact .next (h.pass.lcs fun _ => h.pass.cmdOutQuery)
  | frameStart => exact .next h.pass.startFrame
  | lineStart => exact .next h.pass.runLine
  | frameEnd => exact .next h.pass.endFrame
  | outDrainComplete => exact .next (.ite h.pass.leaveScreen h.pass)
  | outDrainTimeout => exact .next (.ite h.pass.setOutState.leaveScreen h.pass)
  | cnpOutLatchWrite => exact .next h.pass.latchWrite
  | cnpFstartNsRead => exact .next h.pass.readReg
  | cnpCringProdWrite => exact .next h.pass.hostCommitProd
  | latchLine => exact .next h.pass.latchLine
  | cnpLayerSvcWrite => exact .next h.pass.layerSvcWrite
  | cnpBufSet => exact .next (h.pass.lcs fun _ => h.pass.cmdCnpBufSet)
  | cnpBufClear => exact .next (h.pass.lcs fun _ => h.pass.cmdCnpBufClear)
  | cnpLayoutPrepare => exact .next (h.pass.lcs fun _ => h.pass.cmdCnpLayoutPrepare)
  | cnpCringOpen => exact .next (h.pass.lcs fun _ => h.pass.cmdCnpCringOpen)
  | cnpCringClose => exact .next (h.pass.lcs fun _ => h.pass.cmdCnpCringClose)
  | lookoutFramePost => exact .next h.pass.postFrame
  | returnSigReceived => exact .next (.ite h.pass.msgIn h.pass)
  | lkoRegionSvcWrite => exact .next h.pass.regionSvcWrite
  | lkoRegionSet => exact .next (h.pass.lcs fun _ => h.pass.cmdLkoRegionSet)
  | lkoRegionClear => exact .next (h.pass.lcs fun _ => h.pass.cmdLkoRegionClear)
  | lkoRefSet => exact .next (h.pass.lcs fun _ => h.pass.cmdLkoRefSet)
  | lkoRegionQuery => exact .next (h.pass.lcs fun _ => h.pass.cmdLkoRegionQuery)
  | decSessionOpen => exact .next (h.pass.lcs fun _ => h.pass.cmdDecSessionOpen)
  | decSessionClose => exact .next (h.pass.lcs fun _ => h.pass.cmdDecSessionClose)
  | decSessionParams => exact .next (h.pass.lcs fun _ => h.pass.cmdDecSessionParams)
  | decSessionAnchor => exact .next (h.pass.lcs fun _ => h.pass.cmdDecSessionAnchor)
  | decSessionQuery => exact .next (h.pass.lcs fun _ => h.pass.cmdDecSessionQuery)
  | decPipeCtrl => exact .next (h.pass.lcs fun _ => h.pass.cmdDecPipeCtrl)
  | decRowDecode => exact .next h.pass.decRow
  | decPictureComplete => exact .next h.pass.outputPicture
  | decPictureTimeout => exact .next h.pass.pictureTimeout
  | decRateWindowEnd => exact .next h.pass.rateWindow
  | decDrainComplete => exact .next h.pass.decDrained
  | decDrainTimeout => exact .next h.pass.decDrainTimeout
  | encSessionOpen => exact .next (h.pass.lcs fun _ => h.pass.cmdEncSessionOpen)
  | encSessionClose => exact .next (h.pass.lcs fun _ => h.pass.cmdEncSessionClose)
  | encSessionSet => exact .next (h.pass.lcs fun _ => h.pass.cmdEncSessionSet)
  | encRefresh => exact .next (h.pass.lcs fun _ => h.pass.cmdEncRefresh)
  | encSessionQuery => exact .next (h.pass.lcs fun _ => h.pass.cmdEncSessionQuery)
  | encPipeCtrl => exact .next (h.pass.lcs fun _ => h.pass.cmdEncPipeCtrl)
  | encRowCode => exact .next h.pass.encRow
  | encPictureDone => exact .next h.pass.encDone
  | encSesRingConsWrite => exact .next h.pass.encCons
  | encDrainComplete => exact .next h.pass.encDrained
  | encDrainTimeout => exact .next h.pass.encDrainTimeout
  | ethFrameReceived => exact .next (.ite h.pass.countFec.ethFrame h.pass.countFec.bump)
  | pfcRenew => exact .next h.pass.pfcRenew
  | pfcPauseTimeout => exact .next h.pass.pauseTimeout
  | queueSetMark => exact .next h.pass.qSetMark
  | queueRewind => exact .next h.pass.qRewind
  | queueRelease => exact .next h.pass.qRelease
  | queueRead => exact .next h.pass.qRead
  | portLinkChange => exact .next h.pass.portLink
  | txSenderReport => exact .next h.pass.senderReport
  | pktQdiagGo => exact .next h.pass.qdiag
  | pktQWmarkWrite => exact .next h.pass.wmarkWrite
  | pktPortCfg => exact .next (h.pass.lcs fun _ => h.pass.cmdPktPortCfg)
  | pktFlowSet => exact .next (h.pass.lcs fun _ => h.pass.cmdPktFlowSet)
  | pktFlowKey => exact .next (h.pass.lcs fun _ => h.pass.cmdPktFlowKey)
  | pktTxFlowSet => exact .next (h.pass.lcs fun _ => h.pass.cmdPktTxFlowSet)
  | pktQueueRead => exact .next (h.pass.lcs fun _ => h.pass.cmdPktQueueRead)
  | pktQueueReadTimeout => exact .next h.pass.queueReadTimeout
  | pktPortQuery => exact .next (h.pass.lcs fun _ => h.pass.cmdPktPortQuery)
  | ptpMeasurement => exact .next h.pass.takeMeasure
  | masterLoss => exact .next (.ite h.pass.loseMaster h.pass)
  | holdoverExpiry => exact .next h.pass.holdoverOver
  | timTxqHeadPop => exact delivers_execTimTxqHeadPop
  | timNsRead => exact .next h.pass.readReg
  | ppsOutRise => exact delivers_execPpsOutRise
  | ppsOutFall => exact .next (.ite h.pass.updTime h.pass)
  | ppsInEdge => exact .next (.ite h.pass.wr.wr.setFld.raise.raise.notice h.pass.wr.wr.setFld.raise)
  | timCfg => exact .next (h.pass.lcs fun _ => h.pass.cmdTimCfg)
  | timReEpoch => exact .next (h.pass.lcs fun _ => h.pass.cmdTimReEpoch)
  | timPpsCfg => exact .next (h.pass.lcs fun _ => h.pass.cmdTimPpsCfg)
  | timQuery => exact .next (h.pass.lcs fun _ => h.pass.cmdTimQuery)
  | lanePowerUpDone => exact .next h.pass.powerUpDone
  | detectProbe => exact .next h.pass.detectProbe
  | laneTrainTimeout => exact .next (.ite h.pass.bringupFail h.pass)
  | laneCapsTimeout => exact .next (.ite h.pass.bringupFail h.pass)
  | klnBlockReceived => exact .next h.pass.blockReceived
  | klnFlitReceived => exact .next h.pass.takeFlit
  | ackNakReceived => exact .next h.pass.ackNakIn
  | replayTimeout => exact .next h.pass.replayTimeout
  | laneSignalLoss => exact .next (.ite h.pass.laneTo h.pass)
  | statusMsgReceived => exact .next (.ite h.pass.msgIn h.pass)
  | hotplugMsgReceived => exact .next (.ite h.pass.msgIn h.pass)
  | partnerSilentTimeout => exact .next (.ite h.pass.setFld.partnerNotice h.pass)
  | deviceStatusSend => exact .next h.pass.sendDeviceStatus
  | capPictureComplete => exact .next h.pass.capComplete
  | capDrainComplete => exact .next h.pass.capDrained
  | capDrainTimeout => exact .next h.pass.capDrainTimeout
  | klnLaneCtrl => exact .next (h.pass.lcs fun _ => h.pass.cmdKlnLaneCtrl)
  | klnLaneQuery => exact .next (h.pass.lcs fun _ => h.pass.cmdKlnLaneQuery)
  | capEnable => exact .next (h.pass.lcs fun _ => h.pass.cmdCapEnable)
  | capDisable => exact .next (h.pass.lcs fun _ => h.pass.cmdCapDisable)
  | capQuery => exact .next (h.pass.lcs fun _ => h.pass.cmdCapQuery)
  | hbPinToggle => exact delivers_execHbPinToggle
  | heartbeatSend => exact .next (.ite (h.pass.checkDual.setPair.foldl fun _ _ ht => ht.sendFlit) h.pass.checkDual)
  | hbPinEdge => exact delivers_execHbPinEdge
  | heartbeatReceived => exact .next (.ite h.pass.heartbeatIn.returnCredits h.pass)
  | partnerLost => exact .next (.ite h.pass.showAlive.tellLinkLost.setPair.partnerGone.returnCredits h.pass.showAlive)
  | pairLinkLost => exact .next (.ite (.ite h.pass.showAlive.raise.tellLinkLost.dropMirror.setRole.endSwitch (.ite
      h.pass.showAlive.raise.tellLinkLost.stopMirror.returnCredits (.ite h.pass.showAlive.raise.tellLinkLost.dropMirror.setRole
      h.pass.showAlive.tellLinkLost))) h.pass.showAlive)
  | findingTimeout => exact delivers_execFindingTimeout
  | pairLcsReceived => exact .next h.pass.pairIn
  | pairHostWriteReceived => exact .next h.pass.pairIn
  | pairDoorbellReceived => exact .next h.pass.pairIn
  | pairLatchReceived => exact .next h.pass.pairIn
  | pairSigrecReceived => exact .next h.pass.pairIn
  | pairDisputeReceived => exact .next h.pass.pairIn
  | pairRoleReceived => exact .next h.pass.pairIn
  | pairXferReceived => exact .next h.pass.pairIn
  | pairRetxReceived => exact .next h.pass.pairIn
  | pairTimeReceived => exact .next h.pass.pairIn
  | pairGapTimeout => exact delivers_execPairGapTimeout
  | joinCutover => exact .next (.ite h.pass.cutOver h.pass)
  | egressBringupTimeout => exact delivers_execEgressBringupTimeout
  | forceVoidHoldRelease => exact .next (.ite h.pass.setGate.setPair h.pass)
  | selStatusChange => exact delivers_execSelStatusChange
  | yield => exact delivers_execYield
  | ilkWaitExpiry => exact delivers_execIlkWaitExpiry
  | ilkSample => exact delivers_execIlkSample
  | switchoverInstant => exact delivers_execSwitchoverInstant
  | pairCfg => exact .next (h.pass.lcs fun _ => h.pass.cmdPairCfg)
  | pairSwitchover => exact .next (h.pass.lcs fun _ => h.pass.cmdPairSwitchover)
  | pairRejoin => exact .next (h.pass.lcs fun _ => h.pass.cmdPairRejoin)
  | pairQuery => exact .next (h.pass.lcs fun _ => h.pass.cmdPairQuery)
  | mbxDoorbell => exact .next (.ite h.pass.doorbell h.pass)
  | mbxDoneClear => exact .next h.pass.doneClear
  | mbxAreaWrite => exact .next h.pass.hostArea
  | mbxNringConsWrite => exact .next h.pass.nringCons
  | mbxNringLevelWrite => exact .next h.pass.nringLevel
  | noticeBacklogWrite => exact .next h.pass.nringCatchUp
  | noticeCoalesceExpiry => exact .next ((h.pass.foldl fun _ _ ht => ht.coalesceEnd))
  | firmwareStop => exact .next (.ite (.ite h.pass.restartBegins.setFld.setSys h.pass.restartBegins) (.ite h.pass.logFault.restartBegins
      h.pass))
  | firmwareReady => exact .next (.ite h.pass.reportReady.runWaiting h.pass)
  | restartClassExpiry => exact .next h.pass.classRestart
  | pcieFunctionReset => exact .next (.ite h.pass.functionReset.updSys h.pass.functionReset)
  | mbxNringOpen => exact .next (h.pass.lcs fun _ => h.pass.cmdMbxNringOpen)
  | mbxNringClose => exact .next (h.pass.lcs fun _ => h.pass.cmdMbxNringClose)
  | sysIdentify => exact .next (h.pass.lcs fun _ => h.pass.cmdSysIdentify)
  | sysHealth => exact .next (h.pass.lcs fun _ => h.pass.cmdSysHealth)
  | sysService => exact .next (h.pass.lcs fun _ => h.pass.cmdSysService)
  | serviceTimeout => exact .next (.ite h.pass.endService h.pass)
  | sysFwRestart => exact .next (h.pass.lcs fun _ => h.pass.cmdSysFwRestart)
  | sysPartCreate => exact .next (h.pass.lcs fun _ => h.pass.cmdSysPartCreate)
  | sysPartGrant => exact .next (h.pass.lcs fun _ => h.pass.cmdSysPartGrant)
  | sysPartDestroy => exact .next (h.pass.lcs fun _ => h.pass.cmdSysPartDestroy)
  | sysPartQuery => exact .next (h.pass.lcs fun _ => h.pass.cmdSysPartQuery)
  | sysMbxBind => exact .next (h.pass.lcs fun _ => h.pass.cmdSysMbxBind)
  | polWindowEnd => exact .next (.ite h.pass.endWindow h.pass)
  | polCfg => exact .next (h.pass.lcs fun _ => h.pass.cmdPolCfg)
  | polQuery => exact .next (h.pass.lcs fun _ => h.pass.cmdPolQuery)
  | polMeasure => exact .next (h.pass.lcs fun _ => h.pass.cmdPolMeasure)
  | fbkBarrierGo => exact .next (.ite h.pass.fbkGo h.pass)
  | fbkBarrierComplete => exact .next h.pass.fbkDone
  | fbkRegionWrite => exact .next (.ite h.pass.fbkRegionWrite h.pass)
  | fbkQuery => exact .next (h.pass.lcs fun _ => h.pass.cmdFbkQuery)
  | watchdogExpiry => exact delivers_execWatchdogExpiry
  | lockstepMismatch => exact delivers_execLockstepMismatch
  | tempSample => exact .next (.ite h.pass.readSensors.judgeHeat.injSettle h.pass.injSettle)
  | hltInjArmWrite => exact .next h.pass.injKey.injSettle
  | injArmExpiry => exact .next (.ite (.setFld (.setHlt (.ite h.pass.setHlt h.pass))) (.ite h.pass.setHlt h.pass))
  | hltInjGo => exact .next (.ite h.pass.injGo.injSettle h.pass)
  | injectionExpiry => exact .next h.pass.injExpire.injSettle
  | cvuGo => exact .next (.ite h.pass.cvuControl h.pass)
  | cvuAbort => exact .next (.ite h.pass.cvuControl h.pass)
  | cvuReset => exact .next (.ite h.pass.cvuControl h.pass)
  | cvuDataWrite => exact .next (.ite h.pass.cvuDataWrite h.pass)
  | cvuRunWrite => exact .next (.ite h.pass.cvuRunWrite h.pass)
  | cvuScanComplete => exact delivers_execCvuScanComplete
  | hltQuery => exact .next (h.pass.lcs fun _ => h.pass.cmdHltQuery)
  | hltAck => exact .next (h.pass.lcs fun _ => h.pass.cmdHltAck)
  | hltInject => exact .next (h.pass.lcs fun _ => h.pass.cmdHltInject)
  | cvuCheck => exact .next (h.pass.lcs fun _ => h.pass.cmdCvuCheck)
  | blzRecordCompose => exact .next h.pass.blzCompose
  | blzFlushStart => exact .next (.ite (h.pass.setBlz.foldl fun _ _ ht => ht.answer) h.pass.blzStart)
  | blzFlushDone => exact .next (.ite h.pass.blzFlushAll h.pass)
  | blzXspiTimeout => exact .next (.ite h.pass (.ite h.pass.raise.bump h.pass.raise.setFld.setFld.notice))
  | blzQuery => exact .next (h.pass.lcs fun _ => h.pass.cmdBlzQuery)
  | blzRead => exact .next (h.pass.lcs fun _ => h.pass.cmdBlzRead)
  | blzFlush => exact .next (h.pass.lcs fun _ => h.pass.cmdBlzFlush)
  | blzListSet => exact .next (h.pass.lcs fun _ => h.pass.cmdBlzListSet)
  | blzMark => exact .next (h.pass.lcs fun _ => h.pass.cmdBlzMark)
  | blzLogClear => exact .next (h.pass.lcs fun _ => h.pass.cmdBlzLogClear)
  | resetAssert => exact .next h.pass.coldState.setSys
  | resetRelease => exact .next (.ite h.pass.wr.setFld.setFld.setSys h.pass)
  | warmNAssert => exact .next (.ite h.pass (.ite h.pass.wakeFrom (.ite h.pass.raise h.pass.beginWarm)))
  | warmStartBegin => exact delivers_execWarmStartBegin
  | startStepDone => exact .next (.ite h.pass.startStepDone.runWaiting h.pass.startStepDone)
  | pwrFailAssert => exact .next (.ite h.pass.setSys h.pass.setSys.blzPowerFail.leavePair.setFld.setSys)
  | pwrFailRecover => exact .next h.pass.pwrRecover
  | powerStateEntryDone => exact delivers_execPowerStateEntryDone
  | sysWakeWrite => exact .next h.pass.wakeWrite
  | sysStartQuery => exact .next (h.pass.lcs fun _ => h.pass.cmdSysStartQuery)
  | sysWarmStart => exact .next (h.pass.lcs fun _ => h.pass.cmdSysWarmStart)
  | sysImageQuery => exact .next (h.pass.lcs fun _ => h.pass.cmdSysImageQuery)
  | sysImageWrite => exact .next (h.pass.lcs fun _ => h.pass.cmdSysImageWrite)
  | sysImageWriteDone => exact .next h.pass.imageWritten
  | sysPower => exact .next (h.pass.lcs fun _ => h.pass.cmdSysPower)
  | stripScan => exact .next h.pass.scanStrip
  | stripCfg => exact .next (h.pass.lcs fun _ => h.pass.cmdStripCfg)
  | stripControlSet => exact .next (h.pass.lcs fun _ => h.pass.cmdStripControlSet)
  | stripRebaseline => exact .next (h.pass.lcs fun _ => h.pass.cmdStripRebaseline)
  | stripQuery => exact .next (h.pass.lcs fun _ => h.pass.cmdStripQuery)
  | avsSetpointUpdate => exact .next h.pass.avsUpdate
  | avsReadback => exact delivers_execAvsReadback
  | avsRetry => exact .next (.ite h.pass.avsTransaction h.pass)
  | ilkInChange => exact .next (.ite h.pass.setFld.setPair.isolate h.pass.setFld.setPair)
  | pfcRxPauseExpiry => exact .next h.pass.pauseExpiry
  | delayReqSend => exact .next h.pass.sendDelayReq
  | pwrFailDeassert => exact .next h.pass.setSys
  | pciePerstRelease => exact .next h.pass.setSys

/-- Settles O30: what every command keeps, of which the queue and the order of time are two parts. -/
theorem queueKeptAndTimeRuns : Obligations.QueueKeptAndTimeRuns := fun c s t e =>
  have h := exec_delivers c s t e
  ⟨h.pending, h.tick⟩

/-- Settles O31: a step idles, or it runs a command on the state with the rest of the queue, which keeps the form of the memories. -/
theorem stepKeepsMemoryForm : Obligations.StepKeepsMemoryForm := by
  intro s t hs e
  unfold step at e
  split at e
  · cases e
    exact hs
  next c rest _ => exact (exec_delivers c { s with pending := rest } t e).memOk hs

/-- Settles O32 (what the memories hold at reset is logs 4 and 5): every one of them is empty. -/
theorem resetMemoryForm : Obligations.ResetMemoryForm := ⟨rfl, rfl, fun _ => rfl⟩

end Sys2Proof.Machine
end

-- The queue of commands (spec/opcode_table.json): O26, O27. The order of queued work (spec/15_policy.md): O60.
section
/-! PROOF. A step runs the front of the queue; which posted message gives way to which. -/

namespace Sys2Proof.Machine

open Sys2Proof

/-- Settles O26: a step matches on the queue. -/
theorem stepRunsFront : Obligations.StepRunsFront := by
  intro c rest s h
  rw [step, h]

/-- Settles O27: a step matches on the queue, and no word is decoded. -/
theorem idleAndWords : Obligations.IdleAndWords :=
  ⟨fun s h => by rw [step, h], fun _ _ => rfl, fun _ _ _ => rfl⟩

/-! ### The order of queued work (R418) -/

theorem exec_outSet (dt : Nat) (m : Fin 8) (s : State) :
    exec (.outSet dt m) s = .next ((s.pass dt).lcs m.val 0x0404 cmdOutSet) := rfl

theorem exec_outQuery (dt : Nat) (m : Fin 8) (s : State) :
    exec (.outQuery dt m) s = .next ((s.pass dt).lcs m.val 0x0405 cmdOutQuery) := rfl

theorem exec_gateTreatCfg (dt : Nat) (m : Fin 8) (s : State) :
    exec (.gateTreatCfg dt m) s = .next ((s.pass dt).lcs m.val 0x0304 cmdGateTreatCfg) := rfl

theorem exec_cnpBufSet (dt : Nat) (m : Fin 8) (s : State) :
    exec (.cnpBufSet dt m) s = .next ((s.pass dt).lcs m.val 0x0411 cmdCnpBufSet) := rfl

/-- A posted message of safety work goes before one of standard work. -/
theorem State.goesBefore_of_safety {s : State} {a b : Nat} (hab : a ≠ b) (hp : s.mbState a = mbPosted)
    (ha : s.workClass a = some true) (hb : s.workClass b = some false) : s.goesBefore a b = true := by
  simp [State.goesBefore, hab, hp, ha, hb]

/-- Within a class the message that came first goes first. -/
theorem State.goesBefore_of_earlier {s : State} {a b : Nat} (hab : a ≠ b) (hp : s.mbState a = mbPosted)
    (hc : s.workClass a = s.workClass b) (hw : (s.workClass a).isSome) (ho : s.arrivals.idxOf a < s.arrivals.idxOf b) :
    s.goesBefore a b = true := by
  obtain ⟨x, hx⟩ := Option.isSome_iff_exists.mp hw
  simp [State.goesBefore, hab, hp, ← hc, hx, ho]

/-- A message that concerns no output gives way to none. -/
theorem State.goesBefore_of_none {s : State} {b : Nat} (a : Nat) (hb : s.workClass b = none) : s.goesBefore a b = false := by
  simp [State.goesBefore, hb]

/-- A message that another goes before has not its turn. -/
theorem State.turnOf_of_goesBefore {s : State} {a b : Nat} (ha : a < 8) (h : s.goesBefore a b = true) (op : Nat) :
    s.turnOf b op = false := by
  have hnext : s.workNext b = false := by
    simp only [State.workNext, List.all_eq_false, List.mem_range]
    exact ⟨a, ha, by simp [h]⟩
  simp [State.turnOf, hnext]

/-- Settles O60: the message that goes before is posted, so the other has no turn, and a command out of turn does nothing. -/
theorem safetyWorkFirst : Obligations.SafetyWorkFirst := by
  intro s dt a b u hab hp
  have hne : a.val ≠ b.val := fun h => hab (Fin.ext h)
  refine ⟨fun h => ?_, u.goesBefore_of_none a.val⟩
  have hbefore : u.goesBefore a.val b.val = true := by
    rcases h with ⟨ha, hb⟩ | ⟨hc, hw, ho⟩
    · exact State.goesBefore_of_safety hne hp ha hb
    · exact State.goesBefore_of_earlier hne hp hc hw ho
  have hturn := State.turnOf_of_goesBefore a.isLt hbefore
  exact ⟨fun op => by simp [State.takesUp_eq, hturn],
    by rw [exec_outSet, State.lcs_idle _ _ (hturn _)], by rw [exec_outQuery, State.lcs_idle _ _ (hturn _)],
    by rw [exec_gateTreatCfg, State.lcs_idle _ _ (hturn _)], by rw [exec_cnpBufSet, State.lcs_idle _ _ (hturn _)]⟩

end Sys2Proof.Machine
end

-- The gate's colours (spec/03_scan_gate.md): O46.
section
/-! PROOF. A service write of a colour takes a value that differs from the colours it must differ from. -/

namespace Sys2Proof.Machine

open Sys2Proof

/-- The colour that index `k` of R91's table holds. -/
def State.gateCol (s : State) (k : Nat) : Nat := s.rd (gateColourRegs.getD k 0)

theorem exec_gateSvcWrite (dt a : Nat) (v : Word) (s : State) :
    exec (.gateSvcWrite dt a v) s = .next ((s.pass dt).gateSvcWrite a v.toNat) := rfl

/-- The table lists ten registers, no register twice. -/
theorem idxOf_gateColourRegs : ∀ k < 10, gateColourRegs.contains (gateColourRegs.getD k 0) = true ∧
    gateColourRegs.idxOf (gateColourRegs.getD k 0) = k := by decide

theorem gateColourRegs_apart : ∀ k < 10, ∀ j < 10, j ≠ k → gateColourRegs.getD k 0 ≠ gateColourRegs.getD j 0 := by decide

theorem gateColourRegs_ne_svcStat : ∀ j < 10, Reg.GATE_SVC_STAT_ADJUSTED.addr ≠ gateColourRegs.getD j 0 := by decide

/-- In service mode a write of a colour register is a colour's write. -/
theorem State.gateSvcWrite_colour {s : State} {k : Nat} (v : Nat) (hk : k < 10) (hsvc : s.isSet Reg.GATE_STATUS_SVC = true) :
    s.gateSvcWrite (gateColourRegs.getD k 0) v = s.gateColourWrite k v := by
  obtain ⟨hin, hidx⟩ := idxOf_gateColourRegs k hk
  rw [State.gateSvcWrite, hidx]
  simp only [hsvc, hin, Bool.not_true, Bool.false_eq_true, if_false, if_true]

/-- Of red, green and blue one differs from any two colours, so the search for a colour that differs ends with one. -/
theorem adjustColour_not_mem {others : List Nat} (h : others.length ≤ 2) (c : Nat) : adjustColour c others ∉ others := by
  have hex : ∃ x ∈ [c, complement30 c, 0x3FF00000, 0x000FFC00, 0x000003FF], x ∉ others := by
    by_contra hall
    push Not at hall
    have hsub : [0x3FF00000, 0x000FFC00, 0x000003FF] ⊆ others := fun x hx => hall x (by simp at hx ⊢; tauto)
    have hlen := (List.subperm_of_subset (by decide) hsub).length_le
    simp at hlen
    omega
  obtain ⟨x, hx, hxo⟩ := hex
  obtain ⟨y, hy⟩ : ∃ y, [c, complement30 c, 0x3FF00000, 0x000FFC00, 0x000003FF].find? (fun x => !others.contains x) = some y :=
    Option.isSome_iff_exists.mp (List.find?_isSome.mpr ⟨x, hx, by simpa using hxo⟩)
  have hyo := List.find?_some hy
  rw [adjustColour, hy]
  simpa using hyo

theorem adjustColour_lt (v : Nat) (others : List Nat) : adjustColour (v % 2 ^ 30) others < 2 ^ 32 := by
  rw [adjustColour]
  cases hf : List.find? _ _ with
  | none => simp only [Option.getD_none]; omega
  | some y =>
    have hy := List.mem_of_find?_eq_some hf
    simp only [List.mem_cons, List.not_mem_nil, or_false, complement30] at hy
    simp only [Option.getD_some]
    omega

theorem mustDiffer_length (k : Nat) : (mustDiffer k).length ≤ 2 := by
  simp only [mustDiffer]
  repeat' split
  all_goals simp

/-- The colour that a write of colour `k` takes. -/
def State.newColour (s : State) (k v : Nat) : Nat := adjustColour (v % 2 ^ 30) ((mustDiffer k).map s.gateCol)

theorem State.newColour_ne (s : State) {k j : Nat} (v : Nat) (h : j ∈ mustDiffer k) : s.newColour k v ≠ s.gateCol j := fun he =>
  adjustColour_not_mem (by simpa using mustDiffer_length k) (v % 2 ^ 30) (List.mem_map.mpr ⟨j, h, he.symm⟩)

/-- A write of one colour leaves the other colours of the table as they are. -/
theorem State.gateCol_gateColourWrite (s : State) {k j : Nat} (v : Nat) (hk : k < 10) (hj : j < 10) :
    (s.gateColourWrite k v).gateCol j = if j = k then s.newColour k v else s.gateCol j := by
  have hwr : (s.gateColourWrite k v).gateCol j = (s.wr (gateColourRegs.getD k 0) (s.newColour k v)).gateCol j := by
    rw [State.gateColourWrite]
    split
    · rfl
    · exact State.rd_raise_other _ (gateColourRegs_ne_svcStat j hj)
  rw [hwr, State.gateCol]
  split
  next h => rw [h, State.rd_wr_same, State.newColour, Nat.mod_eq_of_lt (adjustColour_lt v _)]
  next h => exact State.rd_wr_other _ _ (gateColourRegs_apart k hk j hj h)

/-- Two colours each of which must differ from the other still differ after any write. -/
theorem State.gateColourWrite_ne {s : State} {k i j : Nat} (v : Nat) (hk : k < 10) (hi : i < 10) (hj : j < 10)
    (hij : j ∈ mustDiffer i) (hji : i ∈ mustDiffer j) (hne : i ≠ j) (h : s.gateCol i ≠ s.gateCol j) :
    (s.gateColourWrite k v).gateCol i ≠ (s.gateColourWrite k v).gateCol j := by
  rw [State.gateCol_gateColourWrite _ _ hk hi, State.gateCol_gateColourWrite _ _ hk hj]
  by_cases hik : i = k
  · subst hik
    rw [if_pos rfl, if_neg hne.symm]
    exact s.newColour_ne v hij
  · rw [if_neg hik]
    split
    next hjk => subst hjk; exact (s.newColour_ne v hji).symm
    next => exact h

/-- Settles O46: whatever colour is written, each pair of R91 still differs. -/
theorem gateColoursStayApart : Obligations.GateColoursStayApart := by
  refine ⟨by decide, fun s dt k v hk hsvc hapart => ⟨_, exec_gateSvcWrite .., ?_⟩⟩
  rw [State.gateSvcWrite_colour _ hk hsvc]
  obtain ⟨h01, h23, h56, h78, h79, h89⟩ := hapart
  have hkept {i j : Nat} (hi : i < 10) (hj : j < 10) (hij : j ∈ mustDiffer i) (hji : i ∈ mustDiffer j) (hne : i ≠ j) :=
    State.gateColourWrite_ne (s := s.pass dt) v.toNat hk hi hj hij hji hne
  exact ⟨hkept (by decide) (by decide) (by decide) (by decide) (by decide) h01,
    hkept (by decide) (by decide) (by decide) (by decide) (by decide) h23,
    hkept (by decide) (by decide) (by decide) (by decide) (by decide) h56,
    hkept (by decide) (by decide) (by decide) (by decide) (by decide) h78,
    hkept (by decide) (by decide) (by decide) (by decide) (by decide) h79,
    hkept (by decide) (by decide) (by decide) (by decide) (by decide) h89⟩

end Sys2Proof.Machine
end

-- Responses in the message areas (spec/13_ranger_mailboxes.md, spec/14_command_set.md): O51.
section
/-! PROOF. What a response writes and what it leaves alone; commands that change nothing but their response. -/

namespace Sys2Proof.Machine

open Sys2Proof

/-! ### Bytes and numbers -/

@[simp] theorem leBytes_length (n v : Nat) : (leBytes n v).length = n := by
  induction n generalizing v with
  | zero => rfl
  | succ n ih => rw [leBytes, List.length_cons, ih]

theorem leNat_leBytes (n v : Nat) : leNat (leBytes n v) = v % 256 ^ n := by
  induction n generalizing v with
  | zero => rw [leBytes, leNat, Nat.pow_zero, Nat.mod_one]
  | succ n ih =>
    rw [leBytes, leNat, ih, BitVec.toNat_ofNat, Nat.pow_succ' (n := n), Nat.mod_mul]

theorem leBytes_leNat (l : List Byte) : leBytes l.length (leNat l) = l := by
  induction l with
  | nil => rfl
  | cons b t ih =>
    have hb := b.isLt
    have hhead : BitVec.ofNat 8 (b.toNat + 256 * leNat t) = b := BitVec.eq_of_toNat_eq (by rw [BitVec.toNat_ofNat]; omega)
    have htail : (b.toNat + 256 * leNat t) / 256 = leNat t := by omega
    rw [List.length_cons, leNat, leBytes, hhead, htail, ih]

theorem fieldAt_lt (l : List Byte) (off n : Nat) : fieldAt l off n < 256 ^ n := by
  have hle (b : List Byte) : leNat b < 256 ^ b.length := by
    rw [← leBytes_leNat b, leNat_leBytes, leBytes_length]
    exact Nat.mod_lt _ (Nat.pow_pos (by decide))
  exact (hle _).trans_le (Nat.pow_le_pow_right (by decide) (List.length_take_le ..))

@[simp] theorem sparseRange_length {α : Type} (d : α) (l : List (Nat × α)) (a n : Nat) : (sparseRange d l a n).length = n := by
  simp [sparseRange]

/-- What was put at a range of keys stands there. -/
theorem sparseRange_putRange_same {α : Type} [DecidableEq α] (d : α) (l : List (Nat × α)) (a : Nat) (b : List α) {i n : Nat}
    (h : i + n ≤ b.length) : sparseRange d (sparsePutRange d l a b) (a + i) n = (b.drop i).take n := by
  refine List.ext_getElem (by simp; omega) fun j h1 h2 => ?_
  have hj : j < n := by simpa using h1
  simp only [sparseRange, List.getElem_map, List.getElem_range, sparseGet_putRange, List.getElem_take, List.getElem_drop]
  rw [if_pos ⟨by omega, by omega⟩, List.getD_eq_getElem _ _ (by omega)]
  congr 1
  omega

/-- Ranges that do not meet the keys that were put are as they were. -/
theorem sparseRange_putRange_other {α : Type} [DecidableEq α] (d : α) (l : List (Nat × α)) {a : Nat} {b : List α} {c n : Nat}
    (h : c + n ≤ a ∨ a + b.length ≤ c) : sparseRange d (sparsePutRange d l a b) c n = sparseRange d l c n := by
  refine List.map_congr_left fun i hi => ?_
  have hn := List.mem_range.mp hi
  rw [sparseGet_putRange, if_neg (by omega)]

/-! ### The message areas (R375) -/

theorem State.areaBytes_areaWrite_same (s : State) (m : Nat) (b : List Byte) {i n : Nat} (h : i + n ≤ b.length) :
    (s.areaWrite m b).areaBytes m i n = (b.drop i).take n := sparseRange_putRange_same 0 s.area _ b h

/-- A message of at most 4,096 bytes stays within its mailbox's area. -/
theorem State.areaBytes_areaWrite_other (s : State) {m k : Nat} {b : List Byte} (hk : k ≠ m) (hb : b.length ≤ 4096) :
    (s.areaWrite m b).areaBytes k 0 4096 = s.areaBytes k 0 4096 := by
  refine sparseRange_putRange_other 0 s.area ?_
  rcases Nat.lt_or_gt_of_ne hk with h | h <;> omega

/-! ### Response headers (R392) -/

@[simp] theorem respHeader_length (op tag len flags part status detail : Nat) :
    (respHeader op tag len flags part status detail).length = 16 := by simp [respHeader, pack]

/-- A field of two bytes of a list in which they stand. -/
theorem fieldAt_two {l : List Byte} {off v : Nat} (h : (l.drop off).take 2 = leBytes 2 v) : fieldAt l off 2 = v % 2 ^ 16 := by
  rw [fieldAt, h]
  exact leNat_leBytes 2 v

section
variable (op tag len flags part status detail : Nat) (body : List Byte)

theorem respHeader_status : fieldAt (respHeader op tag len flags part status detail) 10 2 = status % 2 ^ 16 :=
  fieldAt_two (by simp [respHeader, pack, leBytes])

theorem respHeader_len : fieldAt (respHeader op tag len flags part status detail) 4 2 = len % 2 ^ 16 :=
  fieldAt_two (by simp [respHeader, pack, leBytes])

/-- The opcode and the tag of a request return in the header of its response. -/
theorem respHeader_request {h : List Byte} (hl : 4 ≤ h.length) :
    fieldAt (respHeader (fieldAt h 0 2) (fieldAt h 2 2) len flags part status detail) 0 4 = fieldAt h 0 4 := by
  match h, hl with
  | a :: b :: c :: d :: t, _ =>
    have hop : leBytes 2 (fieldAt (a :: b :: c :: d :: t) 0 2) = [a, b] := leBytes_leNat [a, b]
    have htag : leBytes 2 (fieldAt (a :: b :: c :: d :: t) 2 2) = [c, d] := leBytes_leNat [c, d]
    rw [respHeader, pack, List.flatMap_cons, List.flatMap_cons, hop, htag]
    rfl

end

/-! ### A response (R376, R377, R392) -/

/-- `s` with every field blanked that a response writes: two states with one `besidesMailbox` agree in every other field. -/
def State.besidesMailbox (s : State) : State := { s with regs := [], raised := [], area := [], msix := [], pcie := {} }

theorem State.setFld_besidesMailbox (s : State) (f : Fld) (v : Nat) : (s.setFld f v).besidesMailbox = s.besidesMailbox := (rfl)
theorem State.raise_besidesMailbox (s : State) (f : Fld) : (s.raise f).besidesMailbox = s.besidesMailbox := (rfl)
theorem State.areaWrite_besidesMailbox (s : State) (m : Nat) (b : List Byte) : (s.areaWrite m b).besidesMailbox = s.besidesMailbox := (rfl)
theorem State.fld_raise (s : State) (f g : Fld) : (s.raise f).fld g = (s.setFld f 1).fld g := (rfl)

section
variable (s : State) (m : Nat) (hw more : Bool) (status detail : Nat) (body : List Byte)

/-- The bytes of a response. -/
def State.respBytes (s : State) (m : Nat) (hw more : Bool) (status detail : Nat) (body : List Byte) : List Byte :=
  let h := s.areaBytes m 0 16
  respHeader (fieldAt h 0 2) (fieldAt h 2 2) (16 + body.length) (ofBool hw + 2 * ofBool more) (fieldAt h 8 2) status detail ++ body

/-- The registers of a mailbox whose response stands in the area. -/
def State.respond (s : State) (m : Nat) (hw : Bool) (b : List Byte) : State :=
  ((((s.areaWrite m b).raise (Reg.MBX_CMPL_DONE m)).setFld (Reg.MBX_CMPL_HW m) (ofBool hw)).setFld
    (Reg.MBX_CMPL_STATE m) mbDone).setFld (Reg.MBX_CMPL_TAG m) (fieldAt (s.areaBytes m 0 16) 2 2)

theorem State.complete_eq : s.complete m hw more status detail body =
    let t := s.respond m hw (s.respBytes m hw more status detail body)
    if (s.mbox m).irq then t.msixRequest (1 + m) else t := rfl

theorem State.respBytes_length : (s.respBytes m hw more status detail body).length = 16 + body.length := by
  rw [State.respBytes, List.length_append, respHeader_length]

/-- What requesting a vector leaves alone is after a response as it is before the request. -/
theorem State.obs_complete {α : Type} (obs : State → α) (h : ∀ t v, obs (State.msixRequest t v) = obs t) :
    obs (s.complete m hw more status detail body) = obs (s.respond m hw (s.respBytes m hw more status detail body)) := by
  rw [State.complete_eq]
  dsimp only
  split
  · exact h _ _
  · exact Eq.refl _

theorem State.respond_besidesMailbox (b : List Byte) : (s.respond m hw b).besidesMailbox = s.besidesMailbox := by
  simp only [State.respond, State.setFld_besidesMailbox, State.raise_besidesMailbox, State.areaWrite_besidesMailbox]

@[simp] theorem State.complete_besidesMailbox :
    (s.complete m hw more status detail body).besidesMailbox = s.besidesMailbox :=
  (s.obs_complete m hw more status detail body State.besidesMailbox fun _ _ => rfl).trans (s.respond_besidesMailbox m hw _)

theorem State.rd_respond_other {a : Nat} (b : List Byte) (h : a ≠ Reg.MBX_CMPL m) : (s.respond m hw b).rd a = s.rd a := by
  rw [State.respond, State.rd_setFld_other _ _ _ _ h.symm, State.rd_setFld_other _ _ _ _ h.symm, State.rd_setFld_other _ _ _ _ h.symm,
    State.rd_raise_other _ h.symm]
  rfl

/-- A response writes no register but its mailbox's. -/
theorem State.rd_complete_other {a : Nat} (h : a ≠ Reg.MBX_CMPL m) : (s.complete m hw more status detail body).rd a = s.rd a :=
  (s.obs_complete m hw more status detail body (State.rd · a) fun _ _ => rfl).trans (s.rd_respond_other m hw _ h)

/-- A field of the mailbox's register after a response. -/
theorem State.fld_complete (g : Fld) :
    (s.complete m hw more status detail body).fld g = (s.respond m hw (s.respBytes m hw more status detail body)).fld g :=
  s.obs_complete m hw more status detail body (State.fld · g) fun _ _ => rfl

theorem State.areaBytes_respond (b : List Byte) (k off n : Nat) :
    (s.respond m hw b).areaBytes k off n = (s.areaWrite m b).areaBytes k off n := by
  simp -implicitDefEqProofs only [State.areaBytes, State.respond, State.setFld_area, State.raise]

theorem State.areaBytes_complete (k off n : Nat) :
    (s.complete m hw more status detail body).areaBytes k off n = (s.areaWrite m (s.respBytes m hw more status detail body)).areaBytes k off n :=
  (s.obs_complete m hw more status detail body (State.areaBytes · k off n) fun _ _ => rfl).trans (s.areaBytes_respond m hw _ k off n)

theorem State.respond_msix (b : List Byte) : (s.respond m hw b).msix = s.msix := by
  simp -implicitDefEqProofs only [State.respond, State.setFld_msix, State.raise_msix]
  rfl

theorem requestsOf_complete (v : Nat) : requestsOf v (s.complete m hw more status detail body) =
    if (s.mbox m).irq then requestsOf v (s.msixRequest (1 + m)) else requestsOf v s := by
  have hr := requestsOf_eq_of_msix v (s.respond_msix m hw (s.respBytes m hw more status detail body))
  rw [State.complete_eq]
  dsimp only
  split
  · by_cases hv : 1 + m = v
    · rw [← hv] at hr ⊢
      rw [requestsOf_msixRequest_same, requestsOf_msixRequest_same, hr]
    · rw [requestsOf_msixRequest_other _ hv, requestsOf_msixRequest_other _ hv, hr]
  · exact hr

theorem State.fld_complete_done : (s.complete m hw more status detail body).fld (Reg.MBX_CMPL_DONE m) = 1 := by
  rw [State.fld_complete, State.respond, State.fld_setFld _ _ _ _ (by simp [Fld.apart, Reg.MBX_CMPL_DONE, Reg.MBX_CMPL_TAG]),
    State.fld_setFld _ _ _ _ (by simp [Fld.apart, Reg.MBX_CMPL_DONE, Reg.MBX_CMPL_STATE]),
    State.fld_setFld _ _ _ _ (by simp [Fld.apart, Reg.MBX_CMPL_DONE, Reg.MBX_CMPL_HW]), State.fld_raise,
    State.fld_setFld_same _ (Reg.MBX_CMPL_DONE m) 1 (by simp [Reg.MBX_CMPL_DONE]) (by simp [Reg.MBX_CMPL_DONE])]
  simp [Reg.MBX_CMPL_DONE]

theorem State.fld_complete_hw : (s.complete m hw more status detail body).fld (Reg.MBX_CMPL_HW m) = ofBool hw := by
  rw [State.fld_complete, State.respond, State.fld_setFld _ _ _ _ (by simp [Fld.apart, Reg.MBX_CMPL_HW, Reg.MBX_CMPL_TAG]),
    State.fld_setFld _ _ _ _ (by simp [Fld.apart, Reg.MBX_CMPL_HW, Reg.MBX_CMPL_STATE]),
    State.fld_setFld_same _ (Reg.MBX_CMPL_HW m) _ (by simp [Reg.MBX_CMPL_HW]) (by simp [Reg.MBX_CMPL_HW])]
  cases hw <;> rfl

theorem State.mbState_complete : (s.complete m hw more status detail body).mbState m = mbDone := by
  rw [State.mbState, State.fld_complete, State.respond,
    State.fld_setFld _ _ _ _ (by simp [Fld.apart, Reg.MBX_CMPL_STATE, Reg.MBX_CMPL_TAG]),
    State.fld_setFld_same _ (Reg.MBX_CMPL_STATE m) _ (by simp [Reg.MBX_CMPL_STATE]) (by simp [Reg.MBX_CMPL_STATE])]
  rfl

theorem State.fld_complete_tag :
    (s.complete m hw more status detail body).fld (Reg.MBX_CMPL_TAG m) = fieldAt (s.areaBytes m 0 16) 2 2 := by
  rw [State.fld_complete, State.respond,
    State.fld_setFld_same _ (Reg.MBX_CMPL_TAG m) _ (by simp [Reg.MBX_CMPL_TAG]) (by simp [Reg.MBX_CMPL_TAG])]
  exact Nat.mod_eq_of_lt (fieldAt_lt _ 2 2)

theorem State.header_complete : (s.complete m hw more status detail body).areaBytes m 0 16 =
    let h := s.areaBytes m 0 16
    respHeader (fieldAt h 0 2) (fieldAt h 2 2) (16 + body.length) (ofBool hw + 2 * ofBool more) (fieldAt h 8 2) status detail := by
  rw [State.areaBytes_complete, State.areaBytes_areaWrite_same _ _ _ (by rw [State.respBytes_length]; omega), List.drop_zero,
    State.respBytes]
  exact List.take_left' (respHeader_length ..)

theorem State.body_complete : (s.complete m hw more status detail body).areaBytes m 16 body.length = body := by
  rw [State.areaBytes_complete, State.areaBytes_areaWrite_same _ _ _ (by rw [State.respBytes_length]), State.respBytes,
    List.drop_left' (respHeader_length ..), List.take_length]

/-- A body of at most 4,080 bytes stays within its mailbox's area. -/
theorem State.areaBytes_complete_other {k : Nat} (hk : k ≠ m) (hb : body.length ≤ 4080) :
    (s.complete m hw more status detail body).areaBytes k 0 4096 = s.areaBytes k 0 4096 := by
  rw [State.areaBytes_complete, State.areaBytes_areaWrite_other _ hk (by rw [State.respBytes_length]; omega)]

theorem requestsOf_complete_same :
    requestsOf (1 + m) (s.complete m hw more status detail body) = requestsOf (1 + m) s + ofBool (s.mbox m).irq := by
  rw [requestsOf_complete]
  split
  next h => rw [h]; exact requestsOf_msixRequest_same _ s
  next h => rw [Bool.not_eq_true] at h; rw [h]; rfl

theorem requestsOf_complete_other {v : Nat} (h : v ≠ 1 + m) :
    requestsOf v (s.complete m hw more status detail body) = requestsOf v s := by
  rw [requestsOf_complete]
  split
  · exact requestsOf_msixRequest_other s h.symm
  · rfl

end

/-- Settles O51: the response is written whole, and its registers after it. -/
theorem responseInTheArea : Obligations.ResponseInTheArea := by
  intro s m status detail body hbody t h
  refine ⟨s.fld_complete_done .., s.mbState_complete .., s.fld_complete_tag .., s.body_complete .., ?_,
    fun k _ hk => s.areaBytes_complete_other _ _ _ _ _ _ hk hbody, requestsOf_complete_same ..⟩
  rw [State.header_complete]
  exact respHeader_status ..

end Sys2Proof.Machine
end

-- Commands that only ask, and refused commands (spec/14_command_set.md): O58, O59.
section
/-! PROOF. Queries and refused commands change nothing besides the mailbox. -/
namespace Sys2Proof.Machine

open Sys2Proof

/-! ### Commands that only ask (R394) -/

/-- The checks of a list pass where none of them fails. -/
@[simp] theorem passes_cons (b : Bool) (st d : Nat) (l : List (Bool × Nat × Nat)) : passes ((b, st, d) :: l) = (!b && passes l) := by
  rw [passes, passes, firstBad]
  cases firstBad l with
  | none => cases b <;> rfl
  | some x => cases b <;> by_cases h : checkRank st ≤ checkRank x.1 <;> simp [h]

/-- What a command answers leaves `s` as it is, and its body fits the message area. -/
def Answers (s : State) (x : State × Resp) : Prop :=
  x.1 = s ∧ match x.2 with
    | .ok b => b.length ≤ 4080
    | .more b => b.length ≤ 4080
    | .err _ _ => True
    | .fail _ _ _ => False
    | .wait => False

theorem Answers.refuseOr {s : State} {l : List (Bool × Nat × Nat)} {k : State × Resp} (h : passes l = true → Answers s k) :
    Answers s (s.refuseOr l k) := by
  cases hb : firstBad l with
  | none => rw [State.refuseOr_pass _ _ (by simp [passes, hb])]; exact h (by simp [passes, hb])
  | some x => rw [State.refuseOr_fail _ _ hb]; exact ⟨rfl, trivial⟩

theorem Answers.ok {s : State} {b : List Byte} (h : b.length ≤ 4080) : Answers s (s, .ok b) := ⟨rfl, h⟩

/-- A command that only asks and is not forwarded leaves all but its response as it is. -/
theorem State.lcs_answers {s : State} {m op : Nat} {f : Req → State → State × Resp} (hk : kindF op = false)
    (hf : Answers s (f (s.request m) s)) :
    s.lcs m op f = s ∨ ∃ more st d b, b.length ≤ 4080 ∧ s.lcs m op f = s.complete m false more st d b := by
  by_cases hturn : s.turnOf m op = true
  · right
    cases hcheck : s.headerCheck m with
    | some x => exact ⟨false, x.1, x.2, [], by simp, State.lcs_turned _ _ hturn hcheck⟩
    | none =>
      have htake : s.takesUp m op = true := by simp [State.takesUp_eq, hturn, hcheck]
      rcases hx : f (s.request m) s with ⟨t, resp⟩
      rw [hx] at hf
      obtain ⟨rfl, hb⟩ := hf
      cases resp with
      | ok b => exact ⟨false, stOk, noField, b, hb, by rw [State.lcs_ok htake hx, State.performed]; simp [hk]⟩
      | more b => exact ⟨true, stOk, noField, b, hb, State.lcs_more htake hx⟩
      | err st d => exact ⟨false, st, d, [], by simp, State.lcs_err htake hx⟩
      | fail st d b => exact hb.elim
      | wait => exact hb.elim
  · exact .inl (State.lcs_idle _ _ (by simpa using hturn))

@[simp] theorem pack_length (l : List (Nat × Nat)) : (pack l).length = (l.map Prod.fst).sum := by
  rw [pack, List.length_flatMap]
  simp only [leBytes_length]

@[simp] theorem padTo_length (n : Nat) (l : List Byte) : (padTo n l).length = n := by
  rw [padTo, List.length_append, List.length_take, zeros, List.length_replicate]
  omega

/-- Entries of one size. -/
theorem flatMap_length_of_const {α β : Type} {l : List α} {g : α → List β} {n : Nat} (h : ∀ x, (g x).length = n) :
    (l.flatMap g).length = n * l.length := by
  simp [List.length_flatMap, h, Nat.mul_comm]

@[simp] theorem State.regImage_length (s : State) (view : State → Nat → Nat) (a n : Nat) : (s.regImage view a n).length = 4 * n := by
  rw [State.regImage, flatMap_length_of_const fun _ => leBytes_length 4 _, List.length_range]

@[simp] theorem State.flashBytes_length (s : State) (a n : Nat) : (s.flashBytes a n).length = n := sparseRange_length ..

theorem State.fbkActiveBytes_length (s : State) (u : Nat) : (s.fbkActiveBytes u).length = 576 := by
  rw [State.fbkActiveBytes, flatMap_length_of_const (n := 12) fun _ => by simp, List.length_range]

section
variable (r : Req) (s : State)

/-- At most 960 cells are listed. -/
theorem cmdLdgNonliveList_answers : Answers s (cmdLdgNonliveList r s) := by
  rw [cmdLdgNonliveList]
  refine Answers.refuseOr fun h => Answers.ok ?_
  have hmost : r.u32 20 ≤ 960 := by
    simp [chkLdgNonliveList, within] at h
    exact h.2.1.2
  rw [List.length_append, pack_length, flatMap_length_of_const fun _ => leBytes_length 4 _, List.length_take]
  simp only [List.map_cons, List.map_nil, List.sum_cons, List.sum_nil]
  omega

theorem cmdOutQuery_answers : Answers s (cmdOutQuery r s) := Answers.refuseOr fun _ => Answers.ok (by simp)

/-- At most 127 regions are listed. -/
theorem cmdLkoRegionQuery_answers : Answers s (cmdLkoRegionQuery r s) := by
  have hbody : (pack [(4, min (r.u32 20) 127), (4, 0)] ++ (List.range (min (r.u32 20) 127)).flatMap fun i =>
      s.regImage State.rd (regionBase (r.u32 16 + i)) 8).length ≤ 4080 := by
    rw [List.length_append, pack_length, flatMap_length_of_const fun _ => s.regImage_length .., List.length_range]
    simp only [List.map_cons, List.map_nil, List.sum_cons, List.sum_nil]
    omega
  refine Answers.refuseOr fun _ => ⟨rfl, ?_⟩
  dsimp only
  split
  next h => split at h <;> cases h; exact hbody
  next h => split at h <;> cases h; exact hbody
  next h => split at h <;> cases h
  next h => split at h <;> cases h
  next h => split at h <;> cases h

theorem cmdDecSessionQuery_answers : Answers s (cmdDecSessionQuery r s) := Answers.refuseOr fun _ => Answers.ok (by simp)
theorem cmdEncSessionQuery_answers : Answers s (cmdEncSessionQuery r s) := Answers.refuseOr fun _ => Answers.ok (by simp)
theorem cmdPktPortQuery_answers : Answers s (cmdPktPortQuery r s) := Answers.refuseOr fun _ => Answers.ok (by simp)
theorem cmdTimQuery_answers : Answers s (cmdTimQuery r s) := Answers.refuseOr fun _ => Answers.ok (by simp)
theorem cmdKlnLaneQuery_answers : Answers s (cmdKlnLaneQuery r s) := Answers.refuseOr fun _ => Answers.ok (by simp)
theorem cmdCapQuery_answers : Answers s (cmdCapQuery r s) := Answers.refuseOr fun _ => Answers.ok (by simp)
theorem cmdPairQuery_answers : Answers s (cmdPairQuery r s) := Answers.refuseOr fun _ => Answers.ok (by simp)
theorem cmdSysIdentify_answers : Answers s (cmdSysIdentify r s) := Answers.ok (by simp)
theorem cmdSysHealth_answers : Answers s (cmdSysHealth r s) := Answers.ok (by simp)
theorem cmdSysPartQuery_answers : Answers s (cmdSysPartQuery r s) := Answers.refuseOr fun _ => Answers.ok (by simp)
theorem cmdSysStartQuery_answers : Answers s (cmdSysStartQuery r s) := Answers.ok (by simp)
theorem cmdSysImageQuery_answers : Answers s (cmdSysImageQuery r s) := Answers.ok (by simp)
theorem cmdBlzQuery_answers : Answers s (cmdBlzQuery r s) := Answers.ok (by simp)
theorem cmdFbkQuery_answers : Answers s (cmdFbkQuery r s) := Answers.refuseOr fun _ => Answers.ok (by simp [State.fbkActiveBytes_length])
theorem cmdHltQuery_answers : Answers s (cmdHltQuery r s) := Answers.ok (by simp)
theorem cmdStripQuery_answers : Answers s (cmdStripQuery r s) := Answers.ok (by simp)
theorem cmdPolQuery_answers : Answers s (cmdPolQuery r s) := Answers.ok (by simp [State.polCfg])
theorem cmdPolMeasure_answers : Answers s (cmdPolMeasure r s) := Answers.ok (by simp)

end

/-- The queries of the command set, that read no device memory. (The runtime has no tags for so many constructors: not compiled.) -/
noncomputable def queries (dt : Nat) (m : Fin 8) : List Instr :=
  [.ldgNonliveList dt m, .outQuery dt m, .lkoRegionQuery dt m, .decSessionQuery dt m,
    .encSessionQuery dt m, .pktPortQuery dt m, .timQuery dt m, .klnLaneQuery dt m, .capQuery dt m, .pairQuery dt m, .sysIdentify dt m,
    .sysHealth dt m, .sysPartQuery dt m, .sysStartQuery dt m, .sysImageQuery dt m, .blzQuery dt m, .fbkQuery dt m, .hltQuery dt m,
    .stripQuery dt m, .polQuery dt m, .polMeasure dt m]

/-- Each query is a command that is not forwarded and only asks. -/
theorem exec_query {dt : Nat} {m : Fin 8} {c : Instr} (h : c ∈ queries dt m) (s : State) :
    ∃ op f, exec c s = .next ((s.pass dt).lcs m.val op f) ∧ kindF op = false ∧
      Answers (s.pass dt) (f ((s.pass dt).request m.val) (s.pass dt)) := by
  simp only [queries, List.mem_cons, List.not_mem_nil, or_false] at h
  rcases h with rfl | rfl | rfl | rfl | rfl | rfl | rfl | rfl | rfl | rfl | rfl | rfl | rfl | rfl | rfl | rfl | rfl | rfl | rfl | rfl | rfl
  · exact ⟨0x0209, cmdLdgNonliveList, rfl, rfl, cmdLdgNonliveList_answers ..⟩
  · exact ⟨0x0405, cmdOutQuery, rfl, rfl, cmdOutQuery_answers ..⟩
  · exact ⟨0x0504, cmdLkoRegionQuery, rfl, rfl, cmdLkoRegionQuery_answers ..⟩
  · exact ⟨0x0605, cmdDecSessionQuery, rfl, rfl, cmdDecSessionQuery_answers ..⟩
  · exact ⟨0x0705, cmdEncSessionQuery, rfl, rfl, cmdEncSessionQuery_answers ..⟩
  · exact ⟨0x0806, cmdPktPortQuery, rfl, rfl, cmdPktPortQuery_answers ..⟩
  · exact ⟨0x0904, cmdTimQuery, rfl, rfl, cmdTimQuery_answers ..⟩
  · exact ⟨0x0A02, cmdKlnLaneQuery, rfl, rfl, cmdKlnLaneQuery_answers ..⟩
  · exact ⟨0x0A05, cmdCapQuery, rfl, rfl, cmdCapQuery_answers ..⟩
  · exact ⟨0x0B04, cmdPairQuery, rfl, rfl, cmdPairQuery_answers ..⟩
  · exact ⟨0x0101, cmdSysIdentify, rfl, rfl, cmdSysIdentify_answers ..⟩
  · exact ⟨0x0102, cmdSysHealth, rfl, rfl, cmdSysHealth_answers ..⟩
  · exact ⟨0x0108, cmdSysPartQuery, rfl, rfl, cmdSysPartQuery_answers ..⟩
  · exact ⟨0x1101, cmdSysStartQuery, rfl, rfl, cmdSysStartQuery_answers ..⟩
  · exact ⟨0x1103, cmdSysImageQuery, rfl, rfl, cmdSysImageQuery_answers ..⟩
  · exact ⟨0x1001, cmdBlzQuery, rfl, rfl, cmdBlzQuery_answers ..⟩
  · exact ⟨0x0E01, cmdFbkQuery, rfl, rfl, cmdFbkQuery_answers ..⟩
  · exact ⟨0x0F01, cmdHltQuery, rfl, rfl, cmdHltQuery_answers ..⟩
  · exact ⟨0x1204, cmdStripQuery, rfl, rfl, cmdStripQuery_answers ..⟩
  · exact ⟨0x0D02, cmdPolQuery, rfl, rfl, cmdPolQuery_answers ..⟩
  · exact ⟨0x0D03, cmdPolMeasure, rfl, rfl, cmdPolMeasure_answers ..⟩

theorem State.eq_of_besidesMailbox {s t : State} (h : t.besidesMailbox = s.besidesMailbox) :
    t.mem = s.mem ∧ t.hostMem = s.hostMem ∧ t.ldg = s.ldg ∧ t.outs = s.outs ∧ t.decs = s.decs ∧ t.encs = s.encs ∧
      t.queues = s.queues ∧ t.time = s.time ∧ t.lanes = s.lanes ∧ t.caps = s.caps ∧ t.pair = s.pair ∧ t.hlt = s.hlt ∧
      t.fbk = s.fbk ∧ t.blz = s.blz ∧ t.sys = s.sys ∧ t.strip = s.strip ∧ t.pol = s.pol ∧ t.flash = s.flash :=
  ⟨(congrArg State.mem h :), (congrArg State.hostMem h :), (congrArg State.ldg h :), (congrArg State.outs h :),
    (congrArg State.decs h :), (congrArg State.encs h :), (congrArg State.queues h :), (congrArg State.time h :),
    (congrArg State.lanes h :), (congrArg State.caps h :), (congrArg State.pair h :), (congrArg State.hlt h :),
    (congrArg State.fbk h :), (congrArg State.blz h :), (congrArg State.sys h :), (congrArg State.strip h :),
    (congrArg State.pol h :), (congrArg State.flash h :)⟩

/-- Settles O58: a query leaves the state as it is but for its response, which stands in its mailbox alone. -/
theorem queriesChangeNothing : Obligations.QueriesChangeNothing := by
  intro s t dt m c hc he u
  obtain ⟨op, f, hexec, hkind, hf⟩ := exec_query hc s
  obtain rfl : t = u.lcs m.val op f := by rw [hexec] at he; cases he; rfl
  rcases State.lcs_answers hkind hf with h | ⟨more, st, d, b, hb, h⟩
  · rw [h]
    exact ⟨fun _ _ => rfl, rfl, rfl, rfl, rfl, rfl, rfl, rfl, rfl, rfl, rfl, rfl, rfl, rfl, rfl, rfl, rfl, rfl, rfl,
      fun _ _ _ => rfl, fun _ _ => rfl⟩
  · obtain ⟨hmem, hhostMem, hldg, houts, hdecs, hencs, hqueues, htime, hlanes, hcaps, hpair, hhlt, hfbk, hblz, hsys, hstrip, hpol, hflash⟩ :=
      State.eq_of_besidesMailbox (u.complete_besidesMailbox m.val false more st d b)
    rw [h]
    exact ⟨fun a ha => u.rd_complete_other _ _ _ _ _ _ ha, hmem, hhostMem, hldg, houts, hdecs, hencs, hqueues, htime, hlanes, hcaps, hpair, hhlt, hfbk, hblz, hsys, hstrip, hpol, hflash,
      fun k _ hk => u.areaBytes_complete_other _ _ _ _ _ _ hk hb, fun v hv => requestsOf_complete_other _ _ _ _ _ _ _ hv⟩

/-! ### Refused commands (R125, R393) -/

theorem exec_ldgCellSet (dt : Nat) (m : Fin 8) (s : State) :
    exec (.ldgCellSet dt m) s = .next ((s.pass dt).lcs m.val 0x0203 cmdLdgCellSet) := rfl

theorem exec_standCfg (dt : Nat) (m : Fin 8) (s : State) :
    exec (.standCfg dt m) s = .next ((s.pass dt).lcs m.val 0x0401 cmdStandCfg) := rfl

theorem exec_outEnable (dt : Nat) (m : Fin 8) (s : State) :
    exec (.outEnable dt m) s = .next ((s.pass dt).lcs m.val 0x0402 cmdOutEnable) := rfl

theorem exec_outDisable (dt : Nat) (m : Fin 8) (s : State) :
    exec (.outDisable dt m) s = .next ((s.pass dt).lcs m.val 0x0403 cmdOutDisable) := rfl

theorem exec_lkoRegionSet (dt : Nat) (m : Fin 8) (s : State) :
    exec (.lkoRegionSet dt m) s = .next ((s.pass dt).lcs m.val 0x0501 cmdLkoRegionSet) := rfl

theorem exec_encRefresh (dt : Nat) (m : Fin 8) (s : State) :
    exec (.encRefresh dt m) s = .next ((s.pass dt).lcs m.val 0x0704 cmdEncRefresh) := rfl

theorem exec_pairCfg (dt : Nat) (m : Fin 8) (s : State) :
    exec (.pairCfg dt m) s = .next ((s.pass dt).lcs m.val 0x0B01 cmdPairCfg) := rfl

theorem exec_stripCfg (dt : Nat) (m : Fin 8) (s : State) :
    exec (.stripCfg dt m) s = .next ((s.pass dt).lcs m.val 0x1201 cmdStripCfg) := rfl

section
variable {r : Req} {s : State} {st d : Nat}

theorem cmdLdgCellSet_refused (h : firstBad (chkLdgCellSet r s) = some (st, d)) : cmdLdgCellSet r s = (s, .err st d) := by
  rw [cmdLdgCellSet, State.refuseOr_fail _ _ h]

theorem cmdStandCfg_refused (h : firstBad (chkStandCfg r s) = some (st, d)) : cmdStandCfg r s = (s, .err st d) := by
  rw [cmdStandCfg, State.refuseOr_fail _ _ h]

theorem cmdOutEnable_refused (h : firstBad (chkOutEnable r s) = some (st, d)) : cmdOutEnable r s = (s, .err st d) := by
  rw [cmdOutEnable, State.refuseOr_fail _ _ h]

theorem cmdOutDisable_refused (h : firstBad (chkOutDisable r s) = some (st, d)) : cmdOutDisable r s = (s, .err st d) := by
  rw [cmdOutDisable, State.refuseOr_fail _ _ h]

theorem cmdOutSet_refused (h : firstBad (chkOutSet r s) = some (st, d)) : cmdOutSet r s = (s, .err st d) := by
  rw [cmdOutSet, State.refuseOr_fail _ _ h]

theorem cmdLkoRegionSet_refused (h : firstBad (chkLkoRegionSet r s) = some (st, d)) : cmdLkoRegionSet r s = (s, .err st d) := by
  rw [cmdLkoRegionSet, State.refuseOr_fail _ _ h]

theorem cmdEncRefresh_refused (h : firstBad (chkEncRefresh r s) = some (st, d)) : cmdEncRefresh r s = (s, .err st d) := by
  rw [cmdEncRefresh, State.refuseOr_fail _ _ h]

theorem cmdPairCfg_refused (h : firstBad (chkPairCfg r s) = some (st, d)) : cmdPairCfg r s = (s, .err st d) := by
  rw [cmdPairCfg, State.refuseOr_fail _ _ h]

theorem cmdStripCfg_refused (h : firstBad (chkStripCfg r s) = some (st, d)) : cmdStripCfg r s = (s, .err st d) := by
  rw [cmdStripCfg, State.refuseOr_fail _ _ h]

end

/-- Settles O59: each command of the list is refused by the first of its checks that fails. -/
theorem refusedCommandsChangeNothing : Obligations.RefusedCommandsChangeNothing := by
  intro s dt m st d u r refused
  obtain ⟨hmem, hhostMem, hldg, houts, -, hencs, -, -, -, -, hpair, -, -, -, -, hstrip, -, -⟩ :=
    State.eq_of_besidesMailbox (u.complete_besidesMailbox m.val false false st d [])
  refine ⟨fun h hc => ?_, fun h hc => ?_, fun h hc => ?_, fun h hc => ?_, fun h hc => ?_, fun h hc => ?_, fun h hc => ?_, fun h hc => ?_,
    fun h hc => ?_, fun a ha => u.rd_complete_other _ _ _ _ _ _ ha, hmem, hhostMem, hldg, houts, hencs, hpair, hstrip⟩
  · rw [exec_ldgCellSet, State.lcs_err h (cmdLdgCellSet_refused hc)]
  · rw [exec_standCfg, State.lcs_err h (cmdStandCfg_refused hc)]
  · rw [exec_outEnable, State.lcs_err h (cmdOutEnable_refused hc)]
  · rw [exec_outDisable, State.lcs_err h (cmdOutDisable_refused hc)]
  · rw [exec_outSet, State.lcs_err h (cmdOutSet_refused hc)]
  · rw [exec_lkoRegionSet, State.lcs_err h (cmdLkoRegionSet_refused hc)]
  · rw [exec_encRefresh, State.lcs_err h (cmdEncRefresh_refused hc)]
  · rw [exec_pairCfg, State.lcs_err h (cmdPairCfg_refused hc)]
  · rw [exec_stripCfg, State.lcs_err h (cmdStripCfg_refused hc)]

end Sys2Proof.Machine
end

-- Reports (spec/13_ranger_mailboxes.md, spec/17_faults_checks_injection.md, spec/12_pair_operation.md).
section
/-! SUPPORT. The registers that a notice, a trigger of Blaze, a logged fault and a message to the partner write, and the fields they leave. -/

namespace Sys2Proof.Machine

open Sys2Proof

/-! ### What work touches -/

/-- `s` with every field blanked that a report can touch: two states with one `quiet` agree in every other field. -/
def State.quiet (s : State) : State :=
  { s with emitted := [], raised := [], regs := [], hostMem := [], msix := [], pcie := {}, nrings := [], coalesce := [],
           ranger := { s.ranger with untold := [] }, blz := {}, lanes := [], pair := { s.pair with log := [] } }

/-- `t` comes from `s` by reports that write registers of `R` alone. -/
structure Reports (R : Nat → Prop) (s t : State) : Prop where
  rd : ∀ a, ¬ R a → t.rd a = s.rd a
  quiet : t.quiet = s.quiet

section
variable {R : Nat → Prop} {s t u : State}

theorem Reports.refl (s : State) : Reports R s s := ⟨fun _ _ => rfl, rfl⟩

theorem Reports.trans (h : Reports R s t) (g : Reports R t u) : Reports R s u :=
  ⟨fun a ha => (g.rd a ha).trans (h.rd a ha), g.quiet.trans h.quiet⟩

theorem Reports.mono {Q : Nat → Prop} (h : Reports Q s t) (hQ : ∀ a, Q a → R a) : Reports R s t :=
  ⟨fun a ha => h.rd a fun hq => ha (hQ a hq), h.quiet⟩

theorem Reports.fld (h : Reports R s t) {f : Fld} (hf : ¬ R f.addr) : t.fld f = s.fld f := by
  rw [State.fld, State.fld, h.rd _ hf]

theorem Reports.isSet (h : Reports R s t) {f : Fld} (hf : ¬ R f.addr) : t.isSet f = s.isSet f := by
  rw [State.isSet, State.isSet, h.fld hf]

theorem Reports.ite {c : Prop} [Decidable c] {t' : State} (h : c → Reports R s t) (g : ¬c → Reports R s t') :
    Reports R s (if c then t else t') := by
  split
  next hc => exact h hc
  next hc => exact g hc

/-- A loop each of whose turns reports. -/
theorem Reports.foldl {α : Type} {l : List α} {g : State → α → State} (h : ∀ t x, x ∈ l → Reports R t (g t x)) :
    Reports R s (l.foldl g s) :=
  List.foldlRecOn (motive := fun t => Reports R s t) l g (Reports.refl s) fun t ht x hx => ht.trans (h t x hx)

/-! #### The updates of one field -/

theorem Reports.wr (s : State) {a : Nat} (v : Nat) (h : R a) : Reports R s (s.wr a v) :=
  ⟨fun _ hb => State.rd_wr_other _ _ fun e => hb (e ▸ h), (rfl)⟩

theorem Reports.setFld (s : State) {f : Fld} (v : Nat) (h : R f.addr) : Reports R s (s.setFld f v) :=
  ⟨fun _ hb => State.rd_setFld_other _ _ _ _ fun e => hb (e ▸ h), (rfl)⟩

theorem Reports.raise (s : State) {f : Fld} (h : R f.addr) : Reports R s (s.raise f) :=
  ⟨fun b hb => State.rd_raise_other (b := b) _ fun e => hb (e ▸ h), (rfl)⟩

theorem Reports.bump (s : State) {a : Nat} (n : Nat) (h : R a) : Reports R s (s.bump a n) :=
  ⟨fun b hb => State.rd_bump_other (a := a) (b := b) _ (fun e => hb (e ▸ h)) n, (rfl)⟩

theorem Reports.bumpWrap (s : State) {a : Nat} (n : Nat) (h : R a) : Reports R s (s.bumpWrap a n) :=
  ⟨fun b hb => State.rd_bumpWrap_other (a := a) (b := b) _ (fun e => hb (e ▸ h)) n, (rfl)⟩

theorem Reports.msixRequest (s : State) (v : Nat) : Reports R s (s.msixRequest v) := ⟨fun _ _ => rfl, (rfl)⟩
theorem Reports.hostWrite (s : State) (a : Nat) (b : List Byte) : Reports R s (s.hostWrite a b) := ⟨fun _ _ => rfl, (rfl)⟩
theorem Reports.setNring (s : State) (n : Nat) (r : NringSt) : Reports R s (s.setNring n r) := ⟨fun _ _ => rfl, (rfl)⟩
theorem Reports.setLane (s : State) (i : Nat) (x : LaneSt) : Reports R s (s.setLane i x) := ⟨fun _ _ => rfl, (rfl)⟩
theorem Reports.emit (s : State) (e : Emission) : Reports R s (s.emit e) := ⟨fun _ _ => rfl, (rfl)⟩
theorem Reports.updBlz (s : State) (x : BlzSt) : Reports R s { s with blz := x } := ⟨fun _ _ => rfl, (rfl)⟩
theorem Reports.updCoalesce (s : State) (x : List Coalesce) : Reports R s { s with coalesce := x } := ⟨fun _ _ => rfl, (rfl)⟩
theorem Reports.updUntold (s : State) (x : List Untold) : Reports R s { s with ranger := { s.ranger with untold := x } } :=
  ⟨fun _ _ => rfl, (rfl)⟩
theorem Reports.updPairLog (s : State) (x : List PairMsg) : Reports R s { s with pair := { s.pair with log := x } } :=
  ⟨fun _ _ => rfl, (rfl)⟩

end

/-! ### Notices (R380 to R384) -/

/-- The registers of the notification rings. -/
def ringRegs (a : Nat) : Prop := 0x010200 ≤ a ∧ a < 0x010300

section
variable {n : Nat} (hn : n < 8)
include hn

theorem ringRegs_prod : ringRegs (Reg.MBX_NRING_PROD n) := by simp only [ringRegs, Reg.MBX_NRING_PROD]; omega
theorem ringRegs_stat : ringRegs (Reg.MBX_NRING_STAT n) := by simp only [ringRegs, Reg.MBX_NRING_STAT]; omega
theorem ringRegs_drop : ringRegs (Reg.MBX_NRING_CNT_DROP n) := by simp only [ringRegs, Reg.MBX_NRING_CNT_DROP]; omega

theorem State.nringAdvance_reports (s : State) (k : Nat) : Reports ringRegs s (s.nringAdvance n k) := by
  have hw := Reports.wr s (wrapAdd 32 (s.rd (Reg.MBX_NRING_PROD n)) k) (ringRegs_prod hn)
  rw [State.nringAdvance]
  split
  · exact hw.trans (Reports.msixRequest ..)
  · exact hw

theorem State.nringPlace_reports (s : State) (size kind stamp part flags c : Nat) (p : List Byte) :
    Reports ringRegs s (s.nringPlace n size kind stamp part flags c p) := by
  rw [State.nringPlace]
  exact ((Reports.hostWrite ..).trans (Reports.setNring ..)).trans (State.nringAdvance_reports hn ..)

theorem State.nringWrite_reports (s : State) (kind stamp part flags c : Nat) (p : List Byte) :
    Reports ringRegs s (s.nringWrite n kind stamp part flags c p) := by
  rw [State.nringWrite]
  refine Reports.trans ?_ (State.nringPlace_reports hn ..)
  exact Reports.ite (fun _ => Reports.refl s) fun _ => State.nringPlace_reports hn ..

theorem State.nringLeave_reports (s : State) (x : Notice) (never : Bool) : Reports ringRegs s (s.nringLeave n x never) := by
  have hs := ringRegs_stat hn
  rw [State.nringLeave]
  split
  · exact (Reports.setNring ..).trans (Reports.raise _ hs)
  · split
    · exact ((Reports.setNring ..).trans (Reports.raise _ hs)).trans (Reports.setFld _ _ hs)
    · exact (((Reports.setNring ..).trans (Reports.raise _ hs)).trans (Reports.raise _ hs)).trans (Reports.bump _ _ (ringRegs_drop hn))

theorem State.nringDrain_reports (s : State) (k : Nat) : Reports ringRegs s (s.nringDrain n k) := by
  induction k generalizing s with
  | zero => exact Reports.refl s
  | succ k ih =>
    rw [State.nringDrain]
    split
    · exact Reports.refl s
    · refine Reports.ite (fun _ => ?_) fun _ => Reports.refl s
      exact (((Reports.setNring ..).trans (Reports.setFld _ _ (ringRegs_stat hn))).trans (State.nringWrite_reports hn ..)).trans (ih _)

theorem State.nringCatchUp_reports (s : State) : Reports ringRegs s (s.nringCatchUp n) := by
  rw [State.nringCatchUp]
  refine Reports.ite (fun _ => Reports.refl s) fun _ => Reports.ite (fun _ => State.nringDrain_reports hn ..) fun _ =>
    Reports.ite (fun _ => ?_) fun _ => Reports.refl s
  exact ((Reports.setNring ..).trans (State.nringWrite_reports hn ..)).trans (State.nringDrain_reports hn ..)

/-- What a ring owes is caught up with first; then the notice is written or left. -/
theorem State.nringTake_reports (s : State) (x : Notice) (never : Bool) : Reports ringRegs s (s.nringTake n x never) := by
  have howed : Reports ringRegs s (if s.nringOwes n then s.nringCatchUp n else s) :=
    Reports.ite (fun _ => State.nringCatchUp_reports hn s) fun _ => Reports.refl s
  rw [State.nringTake]
  extract_lets s0 size r c s1
  refine howed.trans (Reports.ite (fun _ => ?_) fun _ => State.nringLeave_reports hn ..)
  exact (Reports.setNring ..).trans (State.nringWrite_reports hn ..)

end

theorem State.deliver_reports (s : State) (kind obj : Nat) (dests : List Nat) (p : List Byte) (c : Nat) (never : Bool) :
    Reports ringRegs s (s.deliver kind obj dests p c never) := by
  refine Reports.foldl fun t n hn => ?_
  split
  · exact Reports.refl t
  · exact State.nringTake_reports (List.mem_range.mp hn) ..

theorem State.raiseNotice_reports (s : State) (kind obj : Nat) (dests : List Nat) (p : List Byte) (never : Bool) :
    Reports ringRegs s (s.raiseNotice kind obj dests p never) := by
  rw [State.raiseNotice]
  refine Reports.ite (fun _ => State.deliver_reports ..) fun _ => ?_
  exact Reports.ite (fun _ => Reports.updCoalesce ..) fun _ => (Reports.updCoalesce ..).trans (State.deliver_reports ..)

theorem State.notice_reports (s : State) (kind obj : Nat) (dests : List Nat) (p : List Byte) (never : Bool) :
    Reports ringRegs s (s.notice kind obj dests p never) := by
  rw [State.notice]
  exact Reports.ite (fun _ => State.raiseNotice_reports ..) fun _ => Reports.updUntold ..

/-! ### Blaze's triggers and logged faults (R460, R486) -/

/-- The registers that a trigger of Blaze writes. -/
def triggerRegs (a : Nat) : Prop := ringRegs a ∨ a = Reg.BLZ_STATUS ∨ a = Reg.BLZ_STAT ∨ a = Reg.BLZ_CNT_COALESCED ∨ a = Reg.BLZ_CNT_DROP

theorem State.blzTrigger_reports (s : State) (type source sev : Nat) (d : List Byte) (fatal : Bool) :
    Reports triggerRegs s (s.blzTrigger type source sev d fatal) := by
  rw [State.blzTrigger]
  extract_lets coalesces hit need e s1
  refine Reports.ite (fun _ => ?_) fun _ => Reports.ite (fun _ => ?_) fun _ => ?_
  · exact (Reports.updBlz ..).trans (Reports.bump _ _ (.inr (.inr (.inr (.inl rfl)))))
  · exact (Reports.updBlz ..).trans (Reports.setFld _ _ (.inr (.inl rfl)))
  · exact (((Reports.updBlz ..).trans (Reports.bump _ _ (.inr (.inr (.inr (.inr rfl)))))).trans (Reports.raise _ (.inr (.inr (.inl rfl))))).trans
      ((State.notice_reports ..).mono fun _ h => .inl h)

/-- The registers that a logged event of class `cls` writes. -/
def faultRegs (cls a : Nat) : Prop :=
  triggerRegs a ∨ (0x021000 ≤ a ∧ a < 0x021400) ∨ a = Reg.HLT_LOG_PROD ∨ a = classCounter cls ∨ (cls = 2 ∧ a = Reg.HLT_STATUS)

theorem State.logRecord_reports (s : State) (cls : Nat) (e : List Byte) : Reports (faultRegs cls) s (s.logRecord cls e) := by
  have hlog (i : Nat) (hi : i < 256) : faultRegs cls (Reg.HLT_LOG i) := .inr (.inl (by simp only [Reg.HLT_LOG]; omega))
  have hword (t : State) (j : Nat) (v : Nat) (hj : j < 4) :
      Reports (faultRegs cls) t (t.wr (Reg.HLT_LOG (4 * (s.rd Reg.HLT_LOG_PROD % 64) + j)) v) :=
    Reports.wr t v (hlog _ (by omega))
  have hentry := (((hword s 0 (fieldAt e 0 4) (by decide)).trans (hword _ 1 (fieldAt e 4 4) (by decide))).trans
    (hword _ 2 (fieldAt e 8 4) (by decide))).trans (hword _ 3 (fieldAt e 12 4) (by decide))
  have hcounted := (hentry.trans (Reports.bumpWrap _ 1 (.inr (.inr (.inl rfl))))).trans
    (Reports.bump _ 1 (.inr (.inr (.inr (.inl rfl)))))
  rw [State.logRecord]
  refine Reports.ite (fun hc => ?_) fun _ => hcounted
  exact hcounted.trans (Reports.raise _ (.inr (.inr (.inr (.inr ⟨by simpa using hc, rfl⟩)))))

/-- The collector: the record, vector 17, Blaze's trigger, the notice. -/
theorem State.logFault_reports (s : State) (det cls inst detail : Nat) (inj : Bool) :
    Reports (faultRegs cls) s (s.logFault det cls inst inj detail) := by
  rw [State.logFault_eq]
  extract_lets e r
  refine (s.logRecord_reports cls e).trans (Reports.trans ?_ ((State.notice_reports ..).mono fun _ h => .inl (.inl h)))
  refine Reports.trans ?_ ((State.blzTrigger_reports ..).mono fun _ h => .inl h)
  exact Reports.ite (fun _ => Reports.msixRequest ..) fun _ => Reports.refl _

/-! ### Messages to the partner (R333, R343) -/

/-- The registers that a message to the partner writes. -/
def pairRegs (a : Nat) : Prop := (0x48C000 ≤ a ∧ a < 0x48D000) ∨ a = Reg.PAIR_MIRROR ∨ a = Reg.PAIR_PSEQ_TX

section
variable {R : Nat → Prop} {i : Nat} (hr : R (Reg.KLN_REPLAY i)) (hc : R (Reg.KLN_CNT_FLITS_TX i))
include hr hc

theorem State.transmit_reports (s : State) (f : Flit) : Reports R s (s.transmit i f) := by
  rw [State.transmit, State.setReplay]
  exact (((((Reports.setLane ..).trans (Reports.setLane ..)).trans (Reports.setFld _ _ hr)).trans (Reports.setFld _ _ hr)).trans
    (Reports.bumpWrap _ _ hc)).trans (Reports.emit ..)

/-- A flit sent on a lane, or queued. -/
theorem State.sendFlit_reports (s : State) (f : Flit) : Reports R s (s.sendFlit i f) := by
  rw [State.sendFlit]
  exact Reports.ite (fun _ => Reports.refl s) fun _ => Reports.ite (fun _ => State.transmit_reports hr hc s f) fun _ => Reports.setLane ..

end

theorem State.settleThrottle_reports (s : State) : Reports pairRegs s s.settleThrottle := by
  have hm : pairRegs Reg.PAIR_MIRROR := .inr (.inl rfl)
  rw [State.settleThrottle]
  have hlevel (v : Nat) := Reports.setFld s (f := Reg.PAIR_MIRROR_LEVEL_KIB) v hm
  have hthrottle (v w : Nat) := (hlevel v).trans (Reports.setFld _ (f := Reg.PAIR_MIRROR_THROTTLE) w hm)
  exact Reports.ite (fun _ => hthrottle _ _) fun _ => Reports.ite (fun _ => hthrottle _ _) fun _ =>
    Reports.ite (fun _ => hthrottle _ _) fun _ => hlevel _

theorem State.pairLanes_lt {s : State} {k : Nat} (h : k ∈ s.pairLanes) : k < 4 := List.mem_range.mp (List.mem_of_mem_filter h)

/-- A message goes out on one of the pair's lanes. -/
theorem State.pairFlit_reports (s : State) (m : PairMsg) (flags : Nat) : Reports pairRegs s (s.pairFlit m flags) := by
  rw [State.pairFlit]
  refine Reports.ite (fun _ => Reports.refl s) fun he => ?_
  have hpos : 0 < s.pairLanes.length := List.length_pos_iff.mpr fun h => he (by rw [h]; rfl)
  have hlt : s.pairLanes.getD (m.pseq % s.pairLanes.length) 0 < 4 := by
    rw [List.getD_eq_getElem _ _ (Nat.mod_lt _ hpos)]
    exact State.pairLanes_lt (List.getElem_mem _)
  refine (State.sendFlit_reports (.inl ?_) (.inl ?_) ..).trans (State.settleThrottle_reports _)
  · simp only [Reg.KLN_REPLAY, pairLane]; omega
  · simp only [Reg.KLN_CNT_FLITS_TX, pairLane]; omega

theorem State.pairOrdered_reports (s : State) (type : Nat) (body : List Byte) : Reports pairRegs s (s.pairOrdered type body) := by
  rw [State.pairOrdered]
  exact ((Reports.updPairLog ..).trans (Reports.wr _ _ (.inr (.inr rfl)))).trans (State.pairFlit_reports ..)

theorem State.pairSend_reports (s : State) (type : Nat) (body : List Byte) : Reports pairRegs s (s.pairSend type body) := by
  rw [State.pairSend]
  exact Reports.ite (fun _ => State.pairOrdered_reports ..) fun _ => Reports.refl s

end Sys2Proof.Machine
end

-- The Ring ledger's cells (spec/02_ring_ledger.md): O44.
section
/-! PROOF. What an event on a cell does to the cell and to its bits, and what it leaves alone. -/

namespace Sys2Proof.Machine

open Sys2Proof

/-! ### What the windfall table and the stale batches leave alone -/

/-- The ledger without the windfall table, the cells that wait for an entry, the batches and the candidates. -/
def LedgerSt.core (l : LedgerSt) : LedgerSt := { l with windfall := [], waiting := [], notify := [], candidates := [] }

/-- What the ledger holds besides those, and the clock that its deadlines are judged by. -/
def State.ledgerCore (s : State) : LedgerSt × ClockSt × Nat := (s.ldg.core, s.clk, s.tick)

theorem Reports.ledgerCore {R : Nat → Prop} {s t : State} (h : Reports R s t) : t.ledgerCore = s.ledgerCore :=
  (congrArg State.ledgerCore h.quiet :)

theorem State.notice_ledgerCore (s : State) (kind obj : Nat) (dests : List Nat) (p : List Byte) (never : Bool) :
    (s.notice kind obj dests p never).ledgerCore = s.ledgerCore := (State.notice_reports ..).ledgerCore

theorem State.raise_ledgerCore (s : State) (f : Fld) : (s.raise f).ledgerCore = s.ledgerCore := (rfl)
theorem State.bump_ledgerCore (s : State) (a n : Nat) : (s.bump a n).ledgerCore = s.ledgerCore := (rfl)

/-- An update of the ledger outside its core. -/
theorem State.updLdg_ledgerCore {s : State} {l : LedgerSt} (h : l.core = s.ldg.core) : ({ s with ldg := l } : State).ledgerCore = s.ledgerCore := by
  rw [State.ledgerCore, State.ledgerCore, h]

theorem State.windfallWait_ledgerCore (s : State) (e : Windfall) : (s.windfallWait e).ledgerCore = s.ledgerCore := by
  rw [State.windfallWait]
  split
  · rw [State.raise_ledgerCore]
    exact State.updLdg_ledgerCore rfl
  · rw [State.notice_ledgerCore, State.raise_ledgerCore]
    exact State.updLdg_ledgerCore rfl

theorem State.windfallInstall_ledgerCore (s : State) (e : Windfall) : (s.windfallInstall e).ledgerCore = s.ledgerCore := by
  rw [State.windfallInstall]
  split
  · exact State.updLdg_ledgerCore rfl
  · split
    · split
      · exact (State.windfallWait_ledgerCore ..).trans (State.updLdg_ledgerCore rfl)
      · exact State.windfallWait_ledgerCore ..
    · exact State.windfallWait_ledgerCore ..

theorem State.windfallPromote_ledgerCore (s : State) (k : Nat) : (s.windfallPromote k).ledgerCore = s.ledgerCore := by
  induction k generalizing s with
  | zero => rw [State.windfallPromote]
  | succ k ih =>
    rw [State.windfallPromote]
    split
    · rfl
    · dsimp only
      split
      · rfl
      · exact (ih _).trans (State.updLdg_ledgerCore rfl)

theorem State.windfallRemove_ledgerCore (s : State) (n : Nat) : (s.windfallRemove n).ledgerCore = s.ledgerCore :=
  (State.windfallPromote_ledgerCore ..).trans (State.updLdg_ledgerCore rfl)

theorem State.windfallFollow_ledgerCore (s : State) (n : Nat) (old new : Cell) :
    (s.windfallFollow n old new).ledgerCore = s.ledgerCore := by
  rw [State.windfallFollow]
  split
  · exact State.updLdg_ledgerCore rfl
  · split
    · exact State.updLdg_ledgerCore rfl
    · exact State.windfallInstall_ledgerCore ..

theorem State.staleBatch_ledgerCore (s : State) (p : Nat) : (s.staleBatch p).ledgerCore = s.ledgerCore := by
  rw [State.staleBatch]
  split
  · rw [State.raiseBatch]
    split
    · rfl
    · exact (State.notice_ledgerCore ..).trans (State.updLdg_ledgerCore rfl)
  · rfl

theorem State.gatherStale_ledgerCore (s : State) (n : Nat) (c : Cell) : (s.gatherStale n c).ledgerCore = s.ledgerCore := by
  rw [State.gatherStale]
  split
  · exact State.staleBatch_ledgerCore ..
  · exact (State.updLdg_ledgerCore rfl).trans (State.staleBatch_ledgerCore ..)

/-! ### One event on one cell (R47, R61) -/

/-- The bit that a cell has in the bitmap: set where its effective state is not LIVE, and of an unallocated cell. -/
def Cell.bit (c : Cell) : Bool := c.ownerKind == 0 || c.eff != csLive

/-- The bits put depend on nothing but the core. -/
theorem State.putStaleBits_ledgerCore {s t : State} (h : t.ledgerCore = s.ledgerCore) (n : Nat) (b : Bool) :
    (t.putStaleBits n b).ledgerCore = (s.putStaleBits n b).ledgerCore := by
  have hput (x : State) (r : Nat) : (x.putStaleBit r n b).ledgerCore =
      ({ x.ledgerCore.1 with bitmap := sparsePut true x.ledgerCore.1.bitmap (r * cellCount + n) b }, x.ledgerCore.2) := rfl
  rw [State.putStaleBits, State.putStaleBits]
  simp only [hput, h]

/-- A cell goes to `new`, its four bits follow, and the rest of the ledger's core stays. -/
theorem State.settleCell_ledgerCore (s : State) (n : Nat) (new : Cell) :
    (s.settleCell n new).ledgerCore = ((s.putCell n new).putStaleBits n new.bit).ledgerCore := by
  have hfollowed := State.putStaleBits_ledgerCore ((s.putCell n new).windfallFollow_ledgerCore n (s.cell n) new) n true
  rw [State.settleCell]
  split
  next h => rw [Cell.bit, h, Bool.true_or]; exact State.putStaleBits_ledgerCore (State.windfallRemove_ledgerCore ..) n true
  next h =>
    rw [Bool.not_eq_true] at h
    split
    next he => rw [Cell.bit, h, bne, he]; exact State.windfallRemove_ledgerCore ..
    next he =>
      rw [Bool.not_eq_true] at he
      have hbit : new.bit = true := by rw [Cell.bit, h, bne, he]; rfl
      dsimp only
      rw [hbit]
      split
      · rw [State.gatherStale_ledgerCore, State.bump_ledgerCore]; exact hfollowed
      · exact hfollowed

theorem State.cell_of_ledgerCore {s t : State} (h : t.ledgerCore = s.ledgerCore) (k : Nat) : t.cell k = s.cell k := by
  have hc : t.ldg.cells = s.ldg.cells := (congrArg (fun x : LedgerSt × ClockSt × Nat => x.1.cells) h :)
  rw [State.cell, State.cell, hc]

theorem State.staleBit_of_ledgerCore {s t : State} (h : t.ledgerCore = s.ledgerCore) (r k : Nat) : t.staleBit r k = s.staleBit r k := by
  have hb : t.ldg.bitmap = s.ldg.bitmap := (congrArg (fun x : LedgerSt × ClockSt × Nat => x.1.bitmap) h :)
  rw [State.staleBit, State.staleBit, hb]

theorem State.now40_congr {s t : State} (hc : t.clk = s.clk) (ht : t.tick = s.tick) : t.now40 = s.now40 := by
  simp only [State.now40, State.nowOf, State.ageOf, State.ageNs, hc, ht]

theorem State.now40_of_ledgerCore {s t : State} (h : t.ledgerCore = s.ledgerCore) : t.now40 = s.now40 :=
  State.now40_congr (congrArg (fun x : LedgerSt × ClockSt × Nat => x.2.1) h :) (congrArg (fun x : LedgerSt × ClockSt × Nat => x.2.2) h :)

/-- The cell that an event changed. -/
theorem State.cell_settleCell_same (s : State) (n : Nat) (c : Cell) : (s.settleCell n c).cell n = c :=
  (State.cell_of_ledgerCore (s.settleCell_ledgerCore n c) n).trans (sparseGet_put_same ..)

theorem State.cell_settleCell_other (s : State) {n k : Nat} (c : Cell) (h : k ≠ n) : (s.settleCell n c).cell k = s.cell k :=
  (State.cell_of_ledgerCore (s.settleCell_ledgerCore n c) k).trans (sparseGet_put_other _ _ _ h.symm)

theorem State.putStaleBit_clk (s : State) (r n : Nat) (b : Bool) : (s.putStaleBit r n b).clk = s.clk := rfl
theorem State.putStaleBit_tick (s : State) (r n : Nat) (b : Bool) : (s.putStaleBit r n b).tick = s.tick := rfl

theorem State.putStaleBits_clk (s : State) (n : Nat) (b : Bool) : (s.putStaleBits n b).clk = s.clk := by
  simp only [State.putStaleBits, State.putStaleBit_clk]

theorem State.putStaleBits_tick (s : State) (n : Nat) (b : Bool) : (s.putStaleBits n b).tick = s.tick := by
  simp only [State.putStaleBits, State.putStaleBit_tick]

theorem State.now40_settleCell (s : State) (n : Nat) (c : Cell) : (s.settleCell n c).now40 = s.now40 := by
  rw [State.now40_of_ledgerCore (s.settleCell_ledgerCore n c)]
  exact State.now40_congr (s.putCell n c |>.putStaleBits_clk n c.bit) (s.putCell n c |>.putStaleBits_tick n c.bit)

theorem State.staleBit_putStaleBit (s : State) (r r' n k : Nat) (b : Bool) :
    (s.putStaleBit r' n b).staleBit r k = if r' * cellCount + n = r * cellCount + k then b else s.staleBit r k :=
  sparseGet_put ..

/-- The four replicas hold the bits of different cells apart. -/
theorem State.staleBit_putStaleBits (s : State) {r n k : Nat} (b : Bool) (hr : r < 4) (hn : n < cellCount) (hk : k < cellCount) :
    (s.putStaleBits n b).staleBit r k = if k = n then b else s.staleBit r k := by
  have hkey (r' : Nat) : r' * cellCount + n = r * cellCount + k ↔ r' = r ∧ k = n := by
    rw [cellCount] at hn hk ⊢
    omega
  simp only [State.putStaleBits, State.staleBit_putStaleBit, hkey]
  by_cases h : k = n
  · interval_cases r <;> simp [h]
  · simp [h]

/-- Settles O44: the cell's four bits are put, and the windfall table and the batches touch no bit. -/
theorem bitmapFollowsCell : Obligations.BitmapFollowsCell := by
  intro s n c r hr hn
  have hbit (k : Nat) (hk : k < cellCount) : (s.settleCell n c).staleBit r k = if k = n then c.bit else s.staleBit r k :=
    (State.staleBit_of_ledgerCore (s.settleCell_ledgerCore n c) r k).trans (State.staleBit_putStaleBits _ _ hr hn hk)
  exact ⟨by rw [hbit n hn, if_pos rfl, Cell.bit], fun k hkn hk => by rw [hbit k hk, if_neg hkn]⟩

end Sys2Proof.Machine
end

-- Confirmations and host records (spec/02_ring_ledger.md): O42, O43.
section
/-! PROOF. What becomes of a cell when a confirmation, an expiry, a force or a host record reaches it. -/
namespace Sys2Proof.Machine

open Sys2Proof

/-! ### Confirmation, expiry, force (R47, R57) -/

theorem State.cell_bump (s : State) (a n k : Nat) : (s.bump a n).cell k = s.cell k := rfl
theorem State.now40_bump64 (s : State) (lo hi : Nat) : (s.bump64 lo hi).now40 = s.now40 :=
  State.now40_congr (s := s) (t := s.bump64 lo hi) (rfl) (rfl)
theorem State.cell_dropCandidate (s : State) (n k : Nat) : (s.dropCandidate n).cell k = s.cell k := rfl

/-- A cell is filed in a slot of the wheel; nothing else about any cell changes. -/
theorem State.cell_appendSlot_same (s : State) (n slot : Nat) :
    (s.appendSlot n slot).cell n = { s.cell n with filed := true, slot := slot % 4096 } := s.cell_settleCell_same n _

theorem State.cell_appendSlot_other (s : State) {n k : Nat} (slot : Nat) (h : k ≠ n) : (s.appendSlot n slot).cell k = s.cell k :=
  s.cell_settleCell_other _ h

theorem State.cell_fileCell_other (s : State) {n k : Nat} (h : k ≠ n) : (s.fileCell n).cell k = s.cell k := by
  rw [State.fileCell]
  split
  · exact s.cell_settleCell_other _ h
  · split
    · split
      · rfl
      · exact (s.dropCandidate n).cell_appendSlot_other _ h
    · split
      · rfl
      · exact s.cell_appendSlot_other _ h

/-- A cell filed before its deadline keeps its STATE and CONFIRMED_AT. -/
theorem State.cell_fileCell_same {s : State} {n : Nat} (h : passed s.now40 (s.cell n).deadline = false) :
    ((s.fileCell n).cell n).state = (s.cell n).state ∧ ((s.fileCell n).cell n).confirmedAt = (s.cell n).confirmedAt := by
  rw [State.fileCell]
  simp only [h, Bool.false_eq_true, if_false]
  split
  · split
    · exact ⟨rfl, rfl⟩
    · rw [State.cell_appendSlot_same]; exact ⟨rfl, rfl⟩
  · split
    · exact ⟨rfl, rfl⟩
    · rw [State.cell_appendSlot_same]; exact ⟨rfl, rfl⟩

/-- A cell confirmed when its deadline has passed already. -/
theorem State.applyConfirm_late {s : State} {n t : Nat} (action : Nat)
    (h : passed s.now40 { s.cell n with confirmedAt := t, aged := false }.deadline = true) :
    (s.applyConfirm n action t).cell n = { { s.cell n with confirmedAt := t, aged := false }.lapse with state := csStale } := by
  simp only [State.applyConfirm, h, if_true]
  exact (s.bump64 _ _).cell_settleCell_same n _

theorem Cell.lapse_confirmedAt (c : Cell) : c.lapse.confirmedAt = c.confirmedAt := by
  rw [Cell.lapse]
  split <;> rfl

theorem Cell.lapse_filed (c : Cell) : c.lapse.filed = false := by
  rw [Cell.lapse]
  split <;> rfl

theorem Cell.lapse_state (c : Cell) : c.lapse.state = if c.state = csVoid then csVoid else csStale := by
  rw [Cell.lapse]
  by_cases h : c.state = csVoid <;> simp [h]

/-- A cell confirmed in time. -/
theorem State.applyConfirm_inTime {s : State} {n t : Nat} (action : Nat)
    (h : passed s.now40 { s.cell n with confirmedAt := t, aged := false }.deadline = false) :
    ((s.applyConfirm n action t).cell n).state = (if action = 1 then csRecovering else csLive) ∧
      ((s.applyConfirm n action t).cell n).confirmedAt = t := by
  have hact : (action == 1) = decide (action = 1) := rfl
  simp only [State.applyConfirm, h, hact, decide_eq_true_eq, Bool.false_eq_true, if_false]
  generalize hc : ({ { s.cell n with confirmedAt := t, aged := false } with state := if action = 1 then csRecovering else csLive } : Cell) = c
  have hnew := (s.bump64 Reg.LDG_CNT_ACCEPT_LO Reg.LDG_CNT_ACCEPT_HI).cell_settleCell_same n c
  have hfiled := State.cell_fileCell_same (s := (s.bump64 Reg.LDG_CNT_ACCEPT_LO Reg.LDG_CNT_ACCEPT_HI).settleCell n c) (n := n)
    (by rw [hnew, State.now40_settleCell, State.now40_bump64, ← hc]; exact h)
  rw [hnew] at hfiled
  rw [hfiled.1, hfiled.2, ← hc]
  exact ⟨rfl, rfl⟩

theorem State.cell_applyConfirm_other (s : State) {n k : Nat} (action t : Nat) (h : k ≠ n) :
    (s.applyConfirm n action t).cell k = s.cell k := by
  rw [State.applyConfirm]
  split
  · exact (s.bump64 _ _).cell_settleCell_other _ h
  · exact (State.cell_fileCell_other _ h).trans ((s.bump64 _ _).cell_settleCell_other _ h)

theorem State.confirmedAt_applyConfirm (s : State) (n action t : Nat) : ((s.applyConfirm n action t).cell n).confirmedAt = t := by
  cases h : passed s.now40 { s.cell n with confirmedAt := t, aged := false }.deadline with
  | false => exact (State.applyConfirm_inTime action h).2
  | true => rw [State.applyConfirm_late action h]; exact Cell.lapse_confirmedAt _

/-- An event on a cell that may be read, and on one that may not. -/
theorem State.onCell_ok {s : State} {n : Nat} (f : State → State) (h : (s.cellRead n false).1 = true) :
    s.onCell n f = f (s.cellRead n false).2 := by simp [State.onCell, h]

theorem State.onCell_denied {s : State} {n : Nat} (f : State → State) (h : (s.cellRead n false).1 = false) :
    s.onCell n f = (s.cellRead n false).2 := by simp [State.onCell, h]

/-- An event on one cell leaves the other cells as the read of that cell left them. -/
theorem State.cell_onCell_other {s : State} {n k : Nat} {f : State → State} (h : ∀ t, (f t).cell k = t.cell k) :
    (s.onCell n f).cell k = (s.cellRead n false).2.cell k := by
  cases hok : (s.cellRead n false).1 with
  | true => rw [State.onCell_ok f hok, h]
  | false => rw [State.onCell_denied f hok]

theorem State.expireCell_eq {s : State} {n : Nat} (h : s.ldg.suppressed.contains n = false) :
    s.expireCell n = (s.onCell n fun t => t.settleCell n (t.cell n).lapse).dropCandidate n := by
  rw [State.expireCell]
  simp only [h, Bool.false_eq_true, if_false]

/-- Settles O43: the new STATE is read off the cell that each event settles. -/
theorem confirmTransitions : Obligations.ConfirmTransitions := by
  intro s n action t c y
  refine ⟨fun h => ?_, fun h => (State.applyConfirm_inTime action h).1, s.confirmedAt_applyConfirm n action t, fun hs hok => ?_,
    fun hok => ⟨?_, ?_⟩, fun k hk => ⟨s.cell_applyConfirm_other action t hk, ?_, fun hs => ?_⟩⟩
  · rw [State.applyConfirm_late action h]
  · rw [State.expireCell_eq hs, State.cell_dropCandidate, State.onCell_ok _ hok, State.cell_settleCell_same]
    exact ⟨Cell.lapse_state _, Cell.lapse_filed _⟩
  · rw [State.forceCell, State.onCell_ok _ hok]
    dsimp only
    rw [State.cell_settleCell_same]
    rfl
  · rw [State.forceCell, State.onCell_ok _ hok]
    dsimp only
    rw [State.cell_settleCell_same]
    rfl
  · exact State.cell_onCell_other fun u => u.cell_settleCell_other _ hk
  · rw [State.expireCell_eq hs, State.cell_dropCandidate]
    exact State.cell_onCell_other fun u => u.cell_settleCell_other _ hk

/-! ### Host records (R54) -/

/-- Whether a record is out of form: step 1 of R54. -/
def formFails (rec : List Byte) : Bool :=
  let w := fieldAt rec 0 4
  let action := fieldAt rec 4 1
  let kind := fieldAt rec 5 1
  let time := fieldAt rec 8 8
  2 < action || 2 < kind || bitsAt w 31 28 != 0 || (kind == 0 && bitsAt time 63 40 != 0) || (kind == 1 && 10 ^ 9 ≤ bitsAt time 31 0)

/-- The time of a confirmation and what taking it counts (steps 6 and 7 of R54). -/
def State.confirmTime (s : State) (kind : Nat) (stamp : Option Nat) (transit : Nat) : Option Nat × State :=
  if kind == 2 then (some s.now40, s)
  else if kind == 1 && !s.trusted then (some (wrapSub 40 s.now40 transit), s.bump Reg.LDG_CNT_FALLBACK)
  else if kind == 1 && stamp.isNone then (none, s.bump Reg.TIM_CNT_CONV_OLD)
  else (stamp, s)

theorem State.cell_confirmTime (s : State) (kind : Nat) (stamp : Option Nat) (transit k : Nat) :
    (s.confirmTime kind stamp transit).2.cell k = s.cell k := by
  rw [State.confirmTime]
  split
  · rfl
  · split
    · exact s.cell_bump ..
    · split
      · exact s.cell_bump ..
      · rfl

/-- Steps 9 and 10 of R54: the time as step 8 takes it, against CONFIRMED_AT. -/
def State.confirmTaken (s : State) (n action : Nat) (taken : Option (Nat × Bool)) : Option Nat × State :=
  match taken with
  | none => (some Reg.LDG_CNT_FUTURE, s)
  | some (t, clamped) =>
    if !notOlder s.now40 (s.cell n) t then (some Reg.LDG_CNT_OLDER, s)
    else (none, (if clamped then s.bump Reg.LDG_CNT_CLAMPED else s).applyConfirm n action t)

/-- Steps 8 to 10 of R54. -/
def State.confirmAt (s : State) (n action : Nat) (stamped : Option Nat) : Option Nat × State :=
  match stamped with
  | none => (some Reg.LDG_CNT_OLDER, s)
  | some t => s.confirmTaken n action (acceptTime s.now40 t)

theorem State.confirmFrom_eq (s : State) (n action kind : Nat) (stamp : Option Nat) (epochOk : Bool) (transit : Nat) :
    s.confirmFrom n action kind stamp epochOk transit =
      if kind == 1 && !epochOk then (some Reg.LDG_CNT_EPOCH, s)
      else (s.confirmTime kind stamp transit).2.confirmAt n action (s.confirmTime kind stamp transit).1 := by
  obtain ⟨accept, ha⟩ : ∃ f, f = acceptTime := ⟨_, rfl⟩
  rw [State.confirmFrom, State.confirmTime, ← ha]
  generalize (if (kind == 2) = true then (some s.now40, s) else _) = x
  obtain ⟨t, s1⟩ := x
  cases t with
  | none => rfl
  | some t =>
    rw [State.confirmAt, ← ha]
    rfl

/-- Where a time check fails, nothing changes. -/
theorem State.confirmTaken_rejected {s : State} {n action : Nat} {taken : Option (Nat × Bool)}
    (h : (s.confirmTaken n action taken).1.isSome = true) : (s.confirmTaken n action taken).2 = s := by
  match taken with
  | none => rfl
  | some (t, clamped) =>
    rw [State.confirmTaken] at h ⊢
    split
    next => rfl
    next hold => rw [if_neg hold] at h; cases h

theorem State.confirmAt_rejected {s : State} {n action : Nat} {stamped : Option Nat}
    (h : (s.confirmAt n action stamped).1.isSome = true) : (s.confirmAt n action stamped).2 = s := by
  cases stamped with
  | none => rfl
  | some t => exact State.confirmTaken_rejected h

/-- A confirmation that fails a later check changes no cell. -/
theorem State.confirmFrom_rejected {s : State} {n action kind : Nat} {stamp : Option Nat} {epochOk : Bool} {transit : Nat}
    (h : (s.confirmFrom n action kind stamp epochOk transit).1.isSome = true) (k : Nat) :
    (s.confirmFrom n action kind stamp epochOk transit).2.cell k = s.cell k := by
  rw [State.confirmFrom_eq] at h ⊢
  split
  · rfl
  next hep =>
    rw [if_neg hep] at h
    rw [State.confirmAt_rejected h, State.cell_confirmTime]

section
variable (s : State) (ring : Nat) (rec : List Byte)

/-- The cell that a record names, and the ledger after the read of it. -/
def recordCell (rec : List Byte) : Nat := bitsAt (fieldAt rec 0 4) 19 0

/-- The cell as the ledger engine reads it; where its Firebreak unit denies the read it reads as zeros (log 177). -/
def State.readCell (s : State) (n : Nat) : Cell := if (s.cellRead n false).1 then (s.cellRead n false).2.cell n else {}

/-- R54's steps in the table's order. -/
theorem State.hostConfirm_eq : s.hostConfirm ring rec false =
    let n := recordCell rec
    let t := (s.cellRead n false).2
    let c := s.readCell n
    let action := fieldAt rec 4 1
    let kind := fieldAt rec 5 1
    let time := fieldAt rec 8 8
    if formFails rec then (some Reg.LDG_CNT_FORMAT, t)
    else if c.ownerKind == 0 then (some Reg.LDG_CNT_UNALLOC, t)
    else if c.ownerKind != 1 || c.partition != t.fld (Reg.LDG_CRING_CFG_PARTITION ring) then (some Reg.LDG_CNT_OWNER, t)
    else if c.damaged || bitsAt (fieldAt rec 0 4) 27 20 != c.gen then (some Reg.LDG_CNT_GEN, t)
    else if action == 2 then (none, t.applyVoid n)
    else
      let stamp := if kind == 0 then some (bitsAt time 39 0) else t.convPtp (t.ptp64 (bitsAt time 63 32) (bitsAt time 31 0))
      t.confirmFrom n action kind stamp (fieldAt rec 6 2 == t.epoch) (t.fld (Reg.LDG_CRING_TRANSIT_AGE_UNITS ring)) := by
  rcases hy : s.cellRead (recordCell rec) false with ⟨ok, t⟩
  rw [State.hostConfirm]
  rw [recordCell] at hy
  simp only [State.readCell, recordCell, formFails, hy]

/-- A record that any check rejects leaves the cells as its read left them. -/
theorem State.hostConfirm_rejected (h : (s.hostConfirm ring rec false).1.isSome = true) (k : Nat) :
    (s.hostConfirm ring rec false).2.cell k = (s.cellRead (recordCell rec) false).2.cell k := by
  rw [State.hostConfirm_eq] at h ⊢
  dsimp only at h ⊢
  split
  · rfl
  next h1 =>
    split
    · rfl
    next h2 =>
      split
      · rfl
      next h3 =>
        split
        · rfl
        next h4 =>
          rw [if_neg h1, if_neg h2, if_neg h3, if_neg h4] at h
          split
          next h5 => rw [if_pos h5] at h; cases h
          next h5 => rw [if_neg h5] at h; exact State.confirmFrom_rejected h k

end

/-- An accepted VOID. -/
theorem State.cell_applyVoid_same (s : State) (n : Nat) :
    (s.applyVoid n).cell n = { s.cell n with state := csVoid, sticky := false } := s.cell_settleCell_same n _

theorem formFails_iff (rec : List Byte) : formFails rec = true ↔
    2 < fieldAt rec 4 1 ∨ 2 < fieldAt rec 5 1 ∨ bitsAt (fieldAt rec 0 4) 31 28 ≠ 0 ∨
      (fieldAt rec 5 1 = 0 ∧ bitsAt (fieldAt rec 8 8) 63 40 ≠ 0) ∨ (fieldAt rec 5 1 = 1 ∧ 10 ^ 9 ≤ bitsAt (fieldAt rec 8 8) 31 0) := by
  simp only [formFails, Bool.or_eq_true, Bool.and_eq_true, decide_eq_true_eq, bne_iff_ne, beq_iff_eq, or_assoc]

/-- Settles O42: the checks stand in the table's order, and each branch that rejects keeps the state that the read left. -/
theorem hostRecordChecks : Obligations.HostRecordChecks := by
  intro s ring rec w n action kind time y c x form
  have hx : x = s.hostConfirm ring rec false := rfl
  have hc : c = s.readCell (recordCell rec) := rfl
  have hy : y = s.cellRead (recordCell rec) false := rfl
  have hform : form ↔ formFails rec = true := (formFails_iff rec).symm
  refine ⟨fun h => ?_, fun h h0 => ?_, fun h h0 ho => ?_, fun h h1 hp => ?_, s.hostConfirm_rejected ring rec⟩
  · rw [hx, State.hostConfirm_eq]
    simp only [hform.mp h, if_true]
  · rw [hx, State.hostConfirm_eq]
    simp only [mt hform.mpr h, ← hc, h0, Bool.false_eq_true, beq_self_eq_true, if_false, if_true]
  · have howner : (c.ownerKind != 1 || c.partition != y.2.fld (Reg.LDG_CRING_CFG_PARTITION ring)) = true := by simpa using ho
    rw [hx, State.hostConfirm_eq]
    simp only [mt hform.mpr h, ← hc, ← hy, beq_iff_eq, h0, howner, Bool.false_eq_true, if_false, if_true]
  · have howner : (c.ownerKind != 1 || c.partition != y.2.fld (Reg.LDG_CRING_CFG_PARTITION ring)) = false := by simp [h1, hp]
    have hkind : (c.ownerKind == 0) = false := by simp [h1]
    refine ⟨fun hd => ?_, fun hd hg ha => ?_⟩
    · have hgen : (c.damaged || bitsAt (fieldAt rec 0 4) 27 20 != c.gen) = true := by simpa using hd
      rw [hx, State.hostConfirm_eq]
      simp only [mt hform.mpr h, ← hc, ← hy, hkind, howner, hgen, Bool.false_eq_true, if_false, if_true]
    · have hgen : (c.damaged || bitsAt (fieldAt rec 0 4) 27 20 != c.gen) = false := by
        rw [Bool.or_eq_false_iff]
        exact ⟨hd, by simpa using hg⟩
      have hact : (fieldAt rec 4 1 == 2) = true := beq_iff_eq.mpr ha
      have hvoid : x = (none, y.2.applyVoid (recordCell rec)) := by
        rw [hx, State.hostConfirm_eq]
        simp only [mt hform.mpr h, ← hc, ← hy, hkind, howner, hgen, hact, Bool.false_eq_true, if_false, if_true]
      have hcell := y.2.cell_applyVoid_same (recordCell rec)
      rw [hvoid]
      exact ⟨rfl, congrArg Cell.state hcell, congrArg Cell.sticky hcell⟩

end Sys2Proof.Machine
end

-- Starts (spec/19_startup.md): O57.
section
/-! PROOF. A warm start writes the registers back entry by entry, so that a register listed twice changes. -/

namespace Sys2Proof.Machine

open Sys2Proof

/-- A started device in which confirm ring 0 is open and whose register list names LDG_CRING_PROD 0 twice: a read finds the 1, while the warm
start's walk over the list writes the 2 last. (No step of the model builds such a list: every write keeps the keys rising.) -/
def listedTwice : State :=
  { State.reset with regs := [(Reg.SYS_START_STAT, 0x80000000#32), (Reg.LDG_CRING_CFG 0, 0x80000000#32),
                              (Reg.LDG_CRING_PROD 0, 1#32), (Reg.LDG_CRING_PROD 0, 2#32)] }

theorem listedTwice_before : (listedTwice.pass 0).rd (Reg.LDG_CRING_PROD 0) = 1 := by decide +kernel

theorem listedTwice_after : ((listedTwice.pass 0).warmN).rd (Reg.LDG_CRING_PROD 0) = 2 := by decide +kernel

/-- Refutes O57: the statement speaks of every state, and in one whose register list names an open ring's PROD twice a warm start moves PROD
from 1 to 2. -/
theorem not_startsKeep : ¬ Obligations.StartsKeep := by
  intro h
  obtain ⟨-, hwarm⟩ := h listedTwice 0
  obtain ⟨t, ht, -, -, -, -, -, hrings⟩ := hwarm (by decide +kernel) (by decide +kernel) (by decide +kernel) (by decide +kernel)
  have hwt : (listedTwice.pass 0).warmN = t := Host.Outcome.next.inj (exec_warmNAssert 0 listedTwice ▸ ht)
  have hprod := (hrings 0 (by decide) (by decide +kernel)).1
  rw [listedTwice_before, ← hwt, listedTwice_after] at hprod
  exact absurd hprod (by decide)

end Sys2Proof.Machine
end

-- The fault pin (spec/17_faults_checks_injection.md): O54.
section
/-! PROOF. LASTING_PEND after a LASTING event and after HLT_ACK. -/

namespace Sys2Proof.Machine

open Sys2Proof

/-- After the record of an event nothing but Blaze's trigger and the notice write registers. -/
theorem State.logFault_after (s : State) (det cls inst detail : Nat) (inj : Bool) :
    Reports triggerRegs (s.logRecord cls (logEntry s.now40 det cls inst (ofBool inj) detail)) (s.logFault det cls inst inj detail) := by
  rw [State.logFault_eq]
  extract_lets e r
  refine Reports.trans ?_ ((State.notice_reports ..).mono fun _ h => .inl h)
  exact (Reports.ite (fun _ => Reports.msixRequest ..) fun _ => Reports.refl _).trans (State.blzTrigger_reports ..)

theorem not_triggerRegs_status : ¬ triggerRegs Reg.HLT_STATUS := by
  simp only [triggerRegs, ringRegs]
  decide

/-- A LASTING event leaves LASTING_PEND set. -/
theorem State.logFault_lastingPend (s : State) (det inst detail : Nat) (inj : Bool) :
    (s.logFault det 2 inst inj detail).fld Reg.HLT_STATUS_LASTING_PEND = 1 := by
  rw [(s.logFault_after det 2 inst detail inj).fld not_triggerRegs_status, State.logRecord]
  simp only [beq_self_eq_true, if_true]
  rw [State.fld_raise, State.fld_setFld_same _ _ _ (by decide) (by decide)]
  rfl

theorem exec_hltAck (dt : Nat) (m : Fin 8) (s : State) : exec (.hltAck dt m) s = .next ((s.pass dt).lcs m.val 0x0F02 cmdHltAck) := rfl

theorem cmdHltAck_ok {r : Req} {s : State} (h : passes (chkHltAck r s) = true) :
    cmdHltAck r s = (s.w1c Reg.HLT_STATUS_LASTING_PEND, .ok []) := by rw [cmdHltAck, State.refuseOr_pass _ _ h]

/-- A performed command that is not forwarded ends with its response. -/
theorem State.performed_local {op : Nat} (h : kindF op = false) (t : State) (m : Nat) (r : Req) (b : List Byte) :
    t.performed m op r b = t.complete m false false stOk noField b := by
  rw [State.performed, h]
  rfl

theorem State.fld_complete_other (s : State) {m : Nat} (hw more : Bool) (st d : Nat) (b : List Byte) {g : Fld} (h : g.addr ≠ Reg.MBX_CMPL m) :
    (s.complete m hw more st d b).fld g = s.fld g := by
  rw [State.fld, State.fld, State.rd_complete_other _ _ _ _ _ _ _ h]

theorem MBX_CMPL_ne_status (m : Fin 8) : Reg.HLT_STATUS ≠ Reg.MBX_CMPL m.val := by
  rw [Reg.HLT_STATUS, Reg.MBX_CMPL]
  omega

/-- A W1C bit that was not raised at this tick clears. -/
theorem State.fld_w1c_same {s : State} {f : Fld} (h : s.raised.contains (f.addr, f.lo) = false) (hf : f.lo ≤ f.hi) (h31 : f.hi < 32) :
    (s.w1c f).fld f = 0 := by
  rw [State.w1c, h]
  exact (State.fld_setFld_same s f 0 hf h31).trans (Nat.zero_mod _)

/-- Settles O54: the pin reads off the registers, the collector raises LASTING_PEND last but for reports, and HLT_ACK clears it. -/
theorem faultPin : Obligations.FaultPin := by
  refine ⟨fun s => ?_, State.logFault_lastingPend, ?_⟩
  · simp only [State.faultN, State.isSet, Bool.and_eq_true, Bool.or_eq_true, Bool.not_eq_true', beq_iff_eq, and_assoc]
  · intro s dt m u htake hpass hraised
    refine ⟨_, exec_hltAck .., ?_⟩
    rw [State.lcs_ok htake (cmdHltAck_ok hpass), State.performed_local rfl,
      State.fld_complete_other _ _ _ _ _ _ (MBX_CMPL_ne_status m)]
    exact State.fld_w1c_same hraised (by decide) (by decide)

end Sys2Proof.Machine
end

-- Rings and doorbells of the host (spec/08_encode_pool.md, spec/13_ranger_mailboxes.md): O50, O52.
section
/-! PROOF. A refused consumer index and a doorbell while no firmware is ready. -/

namespace Sys2Proof.Machine

open Sys2Proof

/-- Time touches no byte of device memory. -/
theorem State.pass_memByte (s : State) (dt b : Nat) : (s.pass dt).memByte b = s.memByte b := by
  have hmem : (s.pass dt).mem = s.mem := (congrArg State.mem (s.pass_untimed dt) :)
  rw [State.memByte, State.memByte, hmem]

theorem State.raise_memByte (s : State) (f : Fld) (b : Nat) : (s.raise f).memByte b = s.memByte b := rfl

theorem Reports.memByte {R : Nat → Prop} {s t : State} (h : Reports R s t) (b : Nat) : t.memByte b = s.memByte b := by
  have hmem : t.mem = s.mem := (congrArg State.mem h.quiet :)
  rw [State.memByte, State.memByte, hmem]

theorem State.isSet_iff_fld (s : State) (f : Fld) : s.isSet f = true ↔ s.fld f = 1 := by rw [State.isSet, beq_iff_eq]

/-! ### The encode ring's consumer index (R242) -/

theorem exec_encSesRingConsWrite (dt : Nat) (k : Fin 32) (v : Word) (s : State) :
    exec (.encSesRingConsWrite dt k v) s = .next ((s.pass dt).encCons k.val v.toNat) := rfl

/-- A CONS write beyond PROD sets ERR and reports it the first time. -/
theorem State.encCons_beyond {s : State} {k v : Nat}
    (h : wrapSub 32 (s.rd (Reg.ENC_SES_RING_PROD k)) (s.rd (Reg.ENC_SES_RING_CONS k)) < wrapSub 32 v (s.rd (Reg.ENC_SES_RING_CONS k))) :
    Reports ringRegs (s.raise (Reg.ENC_SES_RING_STAT_ERR k)) (s.encCons k v) := by
  rw [State.encCons, if_neg (Nat.not_le.mpr h)]
  exact Reports.ite (fun _ => Reports.refl _) fun _ => State.notice_reports ..

theorem not_ringRegs_encRing (k : Nat) : ¬ ringRegs (Reg.ENC_SES_RING_STAT k) ∧ ¬ ringRegs (Reg.ENC_SES_RING_CONS k) := by
  simp only [ringRegs, Reg.ENC_SES_RING_STAT, Reg.ENC_SES_RING_CONS]
  omega

theorem encRing_stat_ne_cons (k : Nat) : (Reg.ENC_SES_RING_STAT_ERR k).addr ≠ Reg.ENC_SES_RING_CONS k := by
  rw [Reg.ENC_SES_RING_STAT_ERR, Reg.ENC_SES_RING_STAT, Reg.ENC_SES_RING_CONS]
  dsimp only
  omega

/-- Settles O50: the write raises ERR, and a notice touches neither the ring's registers nor device memory. -/
theorem encodeRingRefusesCons : Obligations.EncodeRingRefusesCons := by
  intro s dt k v u h
  have hrep := State.encCons_beyond h
  obtain ⟨hstat, hcons⟩ := not_ringRegs_encRing k.val
  refine ⟨_, exec_encSesRingConsWrite .., ?_, ?_, fun b => ?_⟩
  · rw [hrep.isSet hstat, State.isSet_iff_fld, State.fld_raise,
      State.fld_setFld_same _ _ _ (by simp [Reg.ENC_SES_RING_STAT_ERR]) (by simp [Reg.ENC_SES_RING_STAT_ERR])]
    simp [Reg.ENC_SES_RING_STAT_ERR]
  · rw [hrep.rd _ hcons]
    exact State.rd_raise_other u (encRing_stat_ne_cons k.val)
  · rw [hrep.memByte, State.raise_memByte, State.pass_memByte]

/-! ### Doorbells (R377, R379, R402) -/

theorem exec_mbxDoorbell (dt : Nat) (m : Fin 8) (go irq : Bool) (s : State) :
    exec (.mbxDoorbell dt m go irq) s = .next (if go then (s.pass dt).doorbell m.val irq else s.pass dt) := rfl

/-- The message posted, once the host's writes that waited are made. -/
def State.posted (w : State) (m : Nat) (irq : Bool) : State :=
  ((({ w with arrivals := w.arrivals.filter (· != m) ++ [m] } : State).setMbox m { irq := irq, serial := (w.mbox m).serial + 1 }).setFld
    (Reg.MBX_CMPL_DONE m) 0).setFld (Reg.MBX_CMPL_STATE m) mbPosted

/-- A doorbell of an idle mailbox. -/
theorem State.doorbell_idle {s : State} {m : Nat} (irq : Bool) (hp : s.mbState m ≠ mbPosted) (hb : s.mbState m ≠ mbBusy) :
    s.doorbell m irq =
      let t := (s.serveDue fun p => p.1.unit == fbkHost && p.1.write).posted m irq
      if !t.isSet Reg.MBX_STATUS_READY then t.complete m true false stBusy noField []
      else if t.hlt.unitHalted.contains 1 then t
      else match t.headerCheck m with
        | some (st, d) => t.complete m false false st d []
        | none => t := by
  have hidle : (s.mbState m == mbPosted || s.mbState m == mbBusy) = false := by simp [hp, hb]
  rw [State.doorbell, hidle]
  simp only [Bool.false_eq_true, if_false, State.posted]
  rfl

theorem State.posted_isSet_ready (w : State) (m : Fin 8) (irq : Bool) :
    (w.posted m.val irq).isSet Reg.MBX_STATUS_READY = w.isSet Reg.MBX_STATUS_READY := by
  have hne : (Reg.MBX_CMPL m.val) ≠ Reg.MBX_STATUS_READY.addr := by
    simp only [Reg.MBX_CMPL, Reg.MBX_STATUS_READY, Reg.MBX_STATUS]
    omega
  rw [State.posted, State.isSet, State.isSet, State.fld_setFld_addr _ _ _ _ hne, State.fld_setFld_addr _ _ _ _ hne]
  rfl

theorem State.posted_areaBytes (w : State) (m : Nat) (irq : Bool) (k off n : Nat) : (w.posted m irq).areaBytes k off n = w.areaBytes k off n := by
  simp -implicitDefEqProofs only [State.areaBytes, State.posted, State.setFld_area, State.setMbox_area]

theorem State.posted_mem (w : State) (m : Nat) (irq : Bool) : (w.posted m irq).mem = w.mem := by
  simp -implicitDefEqProofs only [State.posted, State.setFld_mem, State.setMbox_mem]

/-- Settles O52: without GO nothing is done; with it, while no firmware is ready, the mailbox hardware answers. -/
theorem doorbellWithoutFirmware : Obligations.DoorbellWithoutFirmware := by
  intro s dt m irq u
  refine ⟨by rw [exec_mbxDoorbell]; exact congrArg _ (if_neg Bool.false_ne_true), ?_⟩
  intro w hp hb hready
  have hnot : (!(w.posted m.val irq).isSet Reg.MBX_STATUS_READY) = true := by rw [State.posted_isSet_ready, hready]; rfl
  have hdoor : u.doorbell m.val irq = (w.posted m.val irq).complete m.val true false stBusy noField [] := by
    rw [State.doorbell_idle irq hp hb]
    exact if_pos hnot
  have hhead := (w.posted m.val irq).header_complete m.val true false stBusy noField []
  rw [State.posted_areaBytes] at hhead
  refine ⟨_, by rw [exec_mbxDoorbell, if_pos rfl, hdoor], State.mbState_complete .., State.fld_complete_done .., State.fld_complete_hw ..,
    ?_, ?_, ?_, fun b => ?_⟩
  · rw [hhead]; exact respHeader_status ..
  · rw [hhead]; exact respHeader_len ..
  · rw [hhead]; exact respHeader_request _ _ _ _ _ (by rw [State.areaBytes, sparseRange_length]; decide)
  · rw [State.memByte, State.memByte, (State.eq_of_besidesMailbox (State.complete_besidesMailbox ..)).1, State.posted_mem]

end Sys2Proof.Machine
end

-- How a command of the command set ends (spec/14_command_set.md).
section
/-! PROOF. A command taken up is performed, or waits, by what its effect returns. -/
namespace Sys2Proof.Machine

open Sys2Proof

section
variable {c : Instr} {s u t : State} {m op : Nat} {f : Req → State → State × Resp} {b : List Byte}
  (hx : exec c s = .next (u.lcs m op f)) (h : u.takesUp m op = true)
include hx h

/-- A command whose effect answers OK is performed. -/
theorem performs_of_ok (hf : f (u.request m) u = (t, .ok b)) : Performs c s m op (u.request m) t b := by
  rw [Performs, hx, State.lcs_ok h hf]

/-- A command whose effect waits is accepted in BUSY. -/
theorem waits_of_wait (hf : f (u.request m) u = (t, .wait)) : Waits c s m t := by
  rw [Waits, hx, State.lcs_wait h hf]

end

end Sys2Proof.Machine
end

-- Blaze (spec/18_blaze_recorder.md): O24.
section
/-! PROOF. What the recorder's events and commands do where nothing stands against them. -/
namespace Sys2Proof.Machine

open Sys2Proof

theorem exec_blzFlushStart (dt : Nat) {s : State} (h : (s.pass dt).blz.flushWaiters = []) :
    exec (.blzFlushStart dt) s = .next (s.pass dt).blzStart := by
  change execBlzFlushStart dt s = _
  simp [execBlzFlushStart, h]

theorem exec_blzFlushDone (dt : Nat) {s : State} (h : (s.pass dt).isSet Reg.BLZ_STATUS_FLUSHING = true) :
    exec (.blzFlushDone dt) s = .next (s.pass dt).blzFlushAll := by
  change execBlzFlushDone dt s = _
  simp [execBlzFlushDone, h]

/-- A first timeout of the log chip is retried (R493). -/
theorem exec_blzXspiTimeout_first (dt a : Nat) {s : State} (h : (s.pass dt).isSet Reg.BLZ_STATUS_FLUSHING = true) :
    exec (.blzXspiTimeout dt a false) s = .next (((s.pass dt).raise Reg.BLZ_STAT_XSPI_ERR).bump Reg.BLZ_CNT_XSPI_RETRY) := by
  change execBlzXspiTimeout dt a false s = _
  simp [execBlzXspiTimeout, h]

/-- A second one stops the flush. -/
theorem exec_blzXspiTimeout_again (dt a : Nat) {s : State} (h : (s.pass dt).isSet Reg.BLZ_STATUS_FLUSHING = true) :
    exec (.blzXspiTimeout dt a true) s = .next (((((s.pass dt).raise Reg.BLZ_STAT_XSPI_ERR).setFld Reg.BLZ_STATUS_FLUSHING 0).setFld
      Reg.BLZ_STATUS_XSPI_STOP 1).notice 0x1002 0 [0] (pack [(1, 1), (3, 0), (4, a)])) := by
  change execBlzXspiTimeout dt a true s = _
  simp [execBlzXspiTimeout, h]

/-- A read of an empty log answers the sequence number that was asked for and no entry. -/
theorem cmdBlzRead_empty {r : Req} {s : State} (h : passes (chkBlzRead r s) = true) (he : s.blz.records = []) (hm : r.u8 16 = 0) :
    cmdBlzRead r s = (s, .ok (pack [(4, r.u32 20), (4, 0)])) := by
  rw [cmdBlzRead, State.refuseOr_pass _ _ h]
  simp [he, hm, State.blzEntries]

theorem cmdBlzFlush_due {r : Req} {s : State} (h : passes (chkBlzFlush r s) = true) (hb : s.fld Reg.BLZ_BUF_UNFLUSHED_BYTES ≠ 0) :
    cmdBlzFlush r s = ((((s.setFld Reg.BLZ_STATUS_XSPI_STOP 0).setBlz
      { s.blz with flushWaiters := s.blz.flushWaiters ++ [(r.waiter, s.tick)] }).blzStart), .wait) := by
  rw [cmdBlzFlush, State.refuseOr_pass _ _ h, if_neg (by simpa using hb)]

theorem cmdBlzMark_queued {r : Req} {s t : State} (ht : s.blzTrigger 5 r.part 0 (r.bytes 16 16) = t)
    (h : (t.blz.queue.filter fun e => e.type == 5 && e.source == r.part).length ≠ 0) :
    cmdBlzMark r s = (t.setBlz { t.blz with marks := t.blz.marks ++ [(r.part, r.waiter)] }, .wait) := by
  rw [cmdBlzMark, ht, if_pos (by simpa using h)]


theorem cmdBlzListSet_ok {r : Req} {s : State} (h : passes (chkBlzListSet r s) = true) :
    ∃ t, cmdBlzListSet r s = (t, .ok []) ∧
      sparseGet [] t.blz.lists (r.u8 16) = (List.range (r.u8 17)).map fun i => r.u64 (28 + 8 * i) := by
  rw [cmdBlzListSet, State.refuseOr_pass _ _ h]
  exact ⟨_, rfl, sparseGet_put_same _ _ _ _⟩

theorem cmdBlzLogClear_ok {r : Req} {s : State} (h : passes (chkBlzLogClear r s) = true) :
    ∃ t, cmdBlzLogClear r s = (t, .ok []) ∧ t.blz.low = [] ∧ t.blz.high = [] := by
  rw [cmdBlzLogClear, State.refuseOr_pass _ _ h]
  exact ⟨_, rfl, rfl, rfl⟩

/-- Settles O24: each event has the effect of its rule, and each command that passes its checks has its own. -/
theorem blazeComplete : Obligations.BlazeComplete := by
  intro s dt u
  refine ⟨rfl, exec_blzFlushStart dt, exec_blzFlushDone dt,
    fun a h => ⟨exec_blzXspiTimeout_first dt a h, exec_blzXspiTimeout_again dt a h⟩, ?_⟩
  intro m r
  refine ⟨fun h => performs_of_ok rfl h rfl, fun h hc he hm => performs_of_ok rfl h (cmdBlzRead_empty hc he hm),
    fun h hc hb => waits_of_wait rfl h (cmdBlzFlush_due hc hb), fun h hc => ?_, ?_, fun h hc => ?_⟩
  · obtain ⟨t, ht, hl⟩ := cmdBlzListSet_ok hc
    exact ⟨t, performs_of_ok rfl h ht, hl⟩
  · intro h t mine hq
    exact waits_of_wait rfl h (cmdBlzMark_queued rfl hq)
  · obtain ⟨t, ht, hl⟩ := cmdBlzLogClear_ok hc
    exact ⟨t, performs_of_ok rfl h ht, hl⟩

end Sys2Proof.Machine
end

-- Strip, supply and policy (spec/15_policy.md, spec/20_control_strip.md, spec/21_pins_power_package.md): O25.
section
/-! PROOF. What the strip, the supply and the policy do where nothing stands against them. -/
namespace Sys2Proof.Machine

open Sys2Proof

/-! ### The supply (R541 to R543) -/

/-- A transaction whose first try is answered. -/
theorem State.avsTransaction_answered (s : State) : s.avsTransaction [true] = (true, s.setFld Reg.SYS_AVS_STAT_FAIL 0) := rfl

theorem exec_avsSetpointUpdate (dt : Nat) (up : Bool) {s : State} (hr : (s.pass dt).avsRuns = true)
    (hf : (s.pass dt).isSet Reg.SYS_AVS_STAT_FAIL = false) (ht : (s.pass dt).since (s.pass dt).sys.avsAt ticksPerMs = true) :
    let u := s.pass dt
    exec (.avsSetpointUpdate dt up [true]) s = .next (((u.setFld Reg.SYS_AVS_STAT_FAIL 0).setSys { u.sys with avsAt := u.tick }).setFld
      Reg.SYS_AVS_STAT_SETPOINT_MV (avsStep (u.fld Reg.SYS_AVS_STAT_SETPOINT_MV) up)) := by
  change Host.Outcome.next ((s.pass dt).avsUpdate up [true]) = _
  rw [State.avsUpdate, if_neg (by simp [hr, hf, ht]), State.avsTransaction_answered]
  simp only [if_true]
  rw [State.setFld_sys]

theorem exec_avsReadback (dt vout iout power : Nat) {s : State} (hr : (s.pass dt).avsRuns = true)
    (hf : (s.pass dt).isSet Reg.SYS_AVS_STAT_FAIL = false) (hd : (s.pass dt).readbackDue = true) :
    let u := s.pass dt
    exec (.avsReadback dt vout iout power [true]) s =
      .next (((u.setSys { u.sys with avsReadAt := some u.tick }).setFld Reg.SYS_AVS_STAT_FAIL 0).showSupply vout iout power) := by
  change execAvsReadback dt vout iout power [true] s = _
  rw [execAvsReadback, if_neg (by simp [hr, hf, hd]), State.avsTransaction_answered]

theorem exec_avsRetry (dt : Nat) {s : State} (hr : (s.pass dt).avsRuns = true) (hf : (s.pass dt).isSet Reg.SYS_AVS_STAT_FAIL = true)
    (ht : (s.pass dt).sys.avsRetryAt ≤ (s.pass dt).tick) :
    exec (.avsRetry dt [true]) s = .next ((s.pass dt).setFld Reg.SYS_AVS_STAT_FAIL 0) := by
  change execAvsRetry dt [true] s = _
  rw [execAvsRetry, if_pos (by simp [hr, hf, ht]), State.avsTransaction_answered]

/-! ### The strip and the policy -/

theorem exec_stripScan (dt : Nat) (cm : List Nat) {s : State} (hd : (s.pass dt).scanDue = true) (hr : (s.pass dt).sys.resetLow = false) :
    exec (.stripScan dt cm) s =
      .next (if ((s.pass dt).stripScan cm).1 then ((s.pass dt).stripScan cm).2.wakeFrom 1 else ((s.pass dt).stripScan cm).2) := by
  change Host.Outcome.next ((s.pass dt).scanStrip cm) = _
  rw [State.scanStrip, if_pos (by simp [hd, hr])]

theorem exec_polWindowEnd (dt : Nat) (x : PolMeasure) {s : State} (hr : (s.pass dt).isSet Reg.MBX_STATUS_READY = true)
    (ht : (s.pass dt).since (s.pass dt).pol.startAt (100 * ticksPerMs) = true) :
    exec (.polWindowEnd dt x) s = .next ((s.pass dt).endWindow x) := by
  change execPolWindowEnd dt x s = _
  rw [execPolWindowEnd, if_pos (by simp [hr, ht])]

/-- STRIP_CFG that leaves the number of pulses writes its four registers, and no baseline is taken again (R534). -/
theorem cmdStripCfg_samePulses {r : Req} {s : State} (h : passes (chkStripCfg r s) = true)
    (hp : s.fld Reg.STRIP_SCAN_PULSES = bitsAt (r.u32 16) 26 16) :
    cmdStripCfg r s = ((((s.wr Reg.STRIP_SCAN (r.u32 16)).wr Reg.STRIP_THRESH (r.u32 20)).wr Reg.STRIP_TIMING (r.u32 24)).wr
      Reg.STRIP_WAKE_CFG (r.u32 28), .ok []) := by
  rw [cmdStripCfg, State.refuseOr_pass _ _ h]
  simp [hp]

/-- A word of a message keeps its value in a register. -/
theorem Req.u32_mod (r : Req) (o : Nat) : r.u32 o % 2 ^ 32 = r.u32 o := Nat.mod_eq_of_lt (fieldAt_lt r.msg o 4)

/-- With no rung in force POL_CFG moves none and only takes its values. -/
theorem cmdPolCfg_noRung {r : Req} {s : State} (h : passes (chkPolCfg r s) = true) (hr : s.pol.rungs = 0) :
    cmdPolCfg r s = (s.setPol { s.pol with rungEn := r.u8 16, margin := r.u8 17, enterWin := r.u8 18, releaseS := r.u8 19, capPct := r.u8 20 },
      .ok []) := by
  have hno (k : Nat) (x : PolSt) (hx : x.rungs = 0) : (s.setPol x).rung k = false := by
    simp [State.rung, hx, bitAt]
  rw [cmdPolCfg, State.refuseOr_pass _ _ h]
  simp [hno, hr]

/-- POL_QUERY answers the rungs in force and the degradation first. -/
theorem cmdPolQuery_ok (r : Req) (s : State) : ∃ b, cmdPolQuery r s = (s, .ok (leBytes 1 s.pol.rungs ++ leBytes 1 s.degrade ++ b)) := by
  simp only [cmdPolQuery, pack, List.flatMap_cons, List.append_assoc]
  exact ⟨_, rfl⟩

/-- Settles O25: each event has the effect of its rule, and each command that passes its checks has its own. -/
theorem stripPolicyComplete : Obligations.StripPolicyComplete := by
  intro s dt u
  refine ⟨fun cm hd hr => exec_stripScan dt cm hd hr, fun up hr hf ht => ⟨_, exec_avsSetpointUpdate dt up hr hf ht, ?_, rfl⟩,
    fun vout iout power hr hf hd => exec_avsReadback dt vout iout power hr hf hd, exec_avsRetry dt, fun x hr ht => exec_polWindowEnd dt x hr ht, ?_⟩
  · exact State.fld_setFld_same _ _ _ (by decide) (by decide)
  · intro m r
    refine ⟨fun h hc hp => ⟨_, performs_of_ok rfl h (cmdStripCfg_samePulses hc hp), ?_, ?_, ?_, ?_⟩,
      fun h hc => performs_of_ok rfl h (State.refuseOr_pass _ _ hc), fun h hc => performs_of_ok rfl h (State.refuseOr_pass _ _ hc),
      fun h => performs_of_ok rfl h rfl, fun h hc hr => ⟨_, performs_of_ok rfl h (cmdPolCfg_noRung hc hr), rfl, rfl, rfl, rfl, rfl⟩,
      fun h => ?_, fun h => performs_of_ok rfl h rfl⟩
    · rw [State.rd_wr_other _ _ (by decide), State.rd_wr_other _ _ (by decide), State.rd_wr_other _ _ (by decide), State.rd_wr_same, Req.u32_mod]
    · rw [State.rd_wr_other _ _ (by decide), State.rd_wr_other _ _ (by decide), State.rd_wr_same, Req.u32_mod]
    · rw [State.rd_wr_other _ _ (by decide), State.rd_wr_same, Req.u32_mod]
    · rw [State.rd_wr_same, Req.u32_mod]
    · obtain ⟨b, hb⟩ := cmdPolQuery_ok r u
      exact ⟨b, performs_of_ok rfl h hb⟩

end Sys2Proof.Machine
end

-- Starts and power states (spec/19_startup.md, spec/13_ranger_mailboxes.md): O20, O21.
section
/-! PROOF. What a start, a step of it, a power state and an image write do where nothing stands against them. -/
namespace Sys2Proof.Machine

open Sys2Proof

/-! ### RESET_N (R508, R509) -/

theorem coldState_mem (s : State) (c : Nat) : (s.coldState c).mem = [] := rfl
theorem coldState_tick (s : State) (c : Nat) : (s.coldState c).tick = s.tick := rfl

/-- The word of the straps as RESET_N samples them. -/
def strapWord (b : Fin 4) (side ilk dbg : Bool) : Nat := ofBool dbg * 128 + ofBool ilk * 64 + ofBool side * 32 + b.val

theorem ofBool_lt (b : Bool) : ofBool b < 2 := by cases b <;> decide

theorem strapWord_lt (b : Fin 4) (side ilk dbg : Bool) : strapWord b side ilk dbg < 2 ^ 32 := by
  have h1 := ofBool_lt side
  have h2 := ofBool_lt ilk
  have h3 := ofBool_lt dbg
  unfold strapWord
  omega

/-- The release of RESET_N after its least width samples the straps. -/
theorem exec_resetRelease (dt : Nat) (b : Fin 4) (side ilk dbg : Bool) {s : State} (hr : (s.pass dt).sys.resetLow = true)
    (ht : (s.pass dt).since (s.pass dt).sys.startAt (10 * ticksPerUs) = true) :
    let u := s.pass dt
    exec (.resetRelease dt b side ilk dbg) s =
      .next ((((u.wr Reg.SYS_STRAPS (strapWord b side ilk dbg)).setFld Reg.PAIR_STATUS_SIDE (ofBool side)).setFld Reg.PAIR_STATUS_ILK (ofBool ilk)).setSys
        { u.sys with resetLow := false, strapBoot := b.val, startAt := u.tick }) := by
  change execResetRelease dt b side ilk dbg s = _
  rw [execResetRelease, if_pos (by simp [hr, ht])]
  dsimp only
  rw [State.setFld_sys, State.setFld_sys, State.wr_sys, State.setFld_tick, State.setFld_tick,
    State.wr_tick, strapWord]

/-! ### Warm starts and the steps of a start (R510 to R516) -/

theorem State.warmN_begins {u : State} (hr : u.sys.resetLow = false) (hd : u.sys.deep = false) (hp : u.fld Reg.SYS_PWR_STATE ≠ 2)
    (hw : u.warmRefused = false) : u.warmN = u.beginWarm 2 := by
  simp [State.warmN, hr, hd, hp, hw]

theorem exec_warmStartBegin (dt t : Nat) {s : State} (hd : (s.pass dt).sys.warmDue = some t) :
    let u := s.pass dt
    exec (.warmStartBegin dt) s = .next (if u.warmRefused then u.setSys { u.sys with warmDue := none }
      else (u.beginWarm 3).setSys { (u.beginWarm 3).sys with startAt := t }) := by
  change execWarmStartBegin dt s = _
  rw [execWarmStartBegin, hd]

theorem exec_startStepDone (dt : Nat) (f : StartFacts) (s : State) :
    let w := (s.pass dt).startStepDone f
    exec (.startStepDone dt f) s = .next (if w.ready then w.runWaiting else w) := rfl

theorem State.startStepDone_eq {u : State} (f : StartFacts) (h0 : u.startStep ≠ 0) (hr : u.sys.resetLow = false) (hd : u.sys.deep = false)
    (hp : u.fld Reg.SYS_PWR_STATE ≠ 4) (hs : u.startStep = 12 → u.stepStripDone = true) :
    u.startStepDone f = (u.runStep f).setFld Reg.SYS_START_STAT_STEP (nextStep (u.runStep f).sys.form u.startStep) := by
  rw [State.startStepDone, if_neg (by simpa [h0, hr, hd, hp] using hs)]

theorem exec_firmwareReady (dt : Nat) {s : State} (hr : (s.pass dt).isSet Reg.MBX_STATUS_RESTARTING = true) (h0 : (s.pass dt).startStep = 0)
    (hl : (s.pass dt).sys.resetLow = false) (hp : (s.pass dt).fld Reg.SYS_PWR_STATE ≠ 2) :
    exec (.firmwareReady dt) s = .next ((s.pass dt).reportReady true 3).runWaiting := by
  change execFirmwareReady dt s = _
  rw [execFirmwareReady, if_pos (by simp [hr, h0, hl, hp])]

/-- Settles O20: RESET_N low leaves the cold state, its release the straps, and each further event has the effect of its rule. -/
theorem startComplete : Obligations.StartComplete := by
  intro s dt u
  refine ⟨⟨_, exec_resetAssert dt s, by rw [State.setSys_sys], by rw [State.setSys_tick, coldState_tick],
    by rw [State.setSys_mem, coldState_mem]⟩, fun b side ilk dbg hr ht => ?_,
    fun hr hd hp hw => ?_, fun t ht hw => ?_, fun t ht hw => ?_,
    fun f h0 hr hd hp hs => ?_, fun hr h0 hl hp => exec_firmwareReady dt hr h0 hl hp⟩
  · refine ⟨_, exec_resetRelease dt b side ilk dbg hr ht, ?_, ?_, ?_, ?_⟩
    · rw [State.setSys_sys]
    · rw [State.setSys_rd, State.rd_setFld_other _ _ _ _ (by decide), State.rd_setFld_other _ _ _ _ (by decide), State.rd_wr_same]
      exact Nat.mod_eq_of_lt (strapWord_lt b side ilk dbg)
    · rw [State.setSys_fld, State.fld_setFld _ _ _ _ (by decide), State.fld_setFld_same _ _ _ (by decide) (by decide)]
      exact Nat.mod_eq_of_lt (ofBool_lt side)
    · rw [State.setSys_fld, State.fld_setFld_same _ _ _ (by decide) (by decide)]
      exact Nat.mod_eq_of_lt (ofBool_lt ilk)
  · rw [exec_warmNAssert, State.warmN_begins hr hd hp hw]
  · rw [exec_warmStartBegin dt t ht, if_neg (by simp [u, hw])]
  · rw [exec_warmStartBegin dt t ht, if_pos hw]
  · intro v w
    have hw : (s.pass dt).startStepDone f = w := State.startStepDone_eq f h0 hr hd hp hs
    rw [exec_startStepDone, hw]

/-! ### The supply's failure and return, power states (R519 to R522) -/

theorem exec_pwrFailAssert (dt : Nat) {s : State} (hr : (s.pass dt).sys.resetLow = false) (hd : (s.pass dt).sys.deep = false)
    (hp : (s.pass dt).fld Reg.SYS_PWR_STATE ≠ 4) :
    let u := s.pass dt
    let v := ((u.setSys { u.sys with pfLow := true, pfHighAt := none }).blzPowerFail.leavePair).setFld Reg.SYS_PWR_STATE 4
    exec (.pwrFailAssert dt) s = .next (v.setSys { v.sys with warmDue := none, powerDue := none }) := by
  change execPwrFailAssert dt s = _
  rw [execPwrFailAssert, if_neg (by simp [hr, hd, hp])]

section
variable {u : State} {t : Nat} (ht : u.sys.pfHighAt = some t) (hl : u.sys.pfLow = false) (hp : u.fld Reg.SYS_PWR_STATE = 4)
  (hs : u.since t (10 * ticksPerMs) = true) (hf : u.isSet Reg.BLZ_STATUS_PF_DONE = true)
include ht hl hp hs hf

/-- A supply that has come back before the first start was done starts the block cold. -/
theorem State.pwrRecover_cold (hc : u.isSet Reg.SYS_START_STAT_COLD_DONE = false) : u.pwrRecover = u.coldState 6 := by
  simp only [State.pwrRecover, ht, hl, hp, hs, hf, hc, Bool.true_or, Bool.not_true, Bool.not_false, bne_self_eq_false, Bool.or_false,
    Bool.false_eq_true, if_false, if_true]

/-- After that it starts it warm, where no FATAL fault forbids it. -/
theorem State.pwrRecover_warm (hc : u.isSet Reg.SYS_START_STAT_COLD_DONE = true) (hn : u.isSet Reg.HLT_STATUS_FATAL = false) :
    let v := ((u.setFld Reg.BLZ_STATUS_PF 0).setFld Reg.BLZ_STATUS_PF_DONE 0).setFld Reg.SYS_PWR_STATE 0
    let w := v.setSys { v.sys with pfHighAt := none }
    u.pwrRecover = if w.isSet Reg.MEM_STATUS_READY0 then w.beginWarm 6 else w.warmCommon 6 1 2 := by
  simp only [State.pwrRecover, ht, hl, hp, hs, hf, hc, hn, Bool.true_or, Bool.not_true, bne_self_eq_false, Bool.or_false, Bool.false_and,
    Bool.false_eq_true, if_false]

end

theorem exec_powerStateEntryDone (dt st t : Nat) {s : State} (hd : (s.pass dt).sys.powerDue = some (st, t))
    (hp : (s.pass dt).fld Reg.SYS_PWR_STATE = 1) :
    exec (.powerStateEntryDone dt) s = .next (if st = 2 then (s.pass dt).enterRetention else (s.pass dt).enterDeep) := by
  change execPowerStateEntryDone dt s = _
  simp [execPowerStateEntryDone, hd, hp]

theorem State.wakeWrite_key {u : State} {v : Nat} (hh : u.hostPort = true) (hp : u.fld Reg.SYS_PWR_STATE = 2) (hv : bitsAt v 15 0 = 0x5A57) :
    u.wakeWrite v = u.wake 2 := by
  rw [State.wakeWrite, if_pos (by simp [hh, hp, hv])]

theorem State.wakeWrite_noKey (u : State) {v : Nat} (hv : bitsAt v 15 0 ≠ 0x5A57) : u.wakeWrite v = u := by
  rw [State.wakeWrite, if_neg (by simp [hv])]

/-- A write of an image that did not fail leaves the bytes read in the erased item, judges the item and gives notice (R524). -/
theorem State.imageWritten_done {u a x : State} {altered : List (Nat × Nat × Nat)} {w : ImgWrite} {data : List Byte} {code : Nat}
    {erased : List (Nat × Byte)}     (hw : u.sys.imgWrite = some w) (hf : u.fwRead w.source w.length = (data, a))
    (he : (a.flash.filter fun c => c.1 < itemBase w.slot w.item || itemBase w.slot w.item + itemMax w.item ≤ c.1) = erased)
    (hj : ({ a.nextFree with flash := sparsePutRange flashErased erased (itemBase w.slot w.item) data } : State).judgeItem altered w.slot w.item =
      (code, x)) :
    u.imageWritten false altered = (x.setSys { x.sys with imgWrite := none }).notice 0x1102 0 [0xFFFF]
      (pack [(1, w.slot), (1, w.item), (1, code), (1, 0), (4, w.length)]) true := by
  rw [State.imageWritten, hw]
  simp only [hf, Bool.false_eq_true, if_false, he]
  rw [hj]

/-- Settles O21: each event of the supply and of the power states has the effect of its rule. -/
theorem powerEventsComplete : Obligations.PowerEventsComplete := by
  intro s dt u
  refine ⟨fun hr hd hp => exec_pwrFailAssert dt hr hd hp, rfl, fun t ht hl hp hs hf => ⟨fun hc => ?_, fun hc hn => ?_⟩, rfl,
    fun t hd hp => exec_powerStateEntryDone dt 2 t hd hp, fun t hd hp => exec_powerStateEntryDone dt 3 t hd hp,
    fun v hh hp hv => ?_, fun v hv => ?_, ?_⟩
  · exact congrArg Host.Outcome.next (State.pwrRecover_cold ht hl hp hs hf hc)
  · exact congrArg Host.Outcome.next (State.pwrRecover_warm ht hl hp hs hf hc hn)
  · exact congrArg Host.Outcome.next (State.wakeWrite_key hh hp hv)
  · exact congrArg Host.Outcome.next (State.wakeWrite_noKey u hv)
  · intro w altered hw base
    split
    next data a hf =>
    extract_lets erased v
    split
    next code x hj => exact congrArg Host.Outcome.next (State.imageWritten_done hw hf rfl hj)

end Sys2Proof.Machine
end

-- Commands of start-up (spec/19_startup.md, spec/14_command_set.md): O22.
section
/-! PROOF. The commands of start-up. -/
namespace Sys2Proof.Machine

open Sys2Proof

/-- The check that stands between lists of checks that pass is the only one that can fail. -/
theorem firstBad_between {l l' : List (Bool × Nat × Nat)} (b : Bool) (st d : Nat) (h : passes (l ++ l') = true) :
    firstBad (l ++ (b, st, d) :: l') = if b then some (st, d) else none := by
  induction l with
  | nil => cases b <;> simp_all [passes, firstBad]
  | cons x l ih =>
    obtain ⟨c, st', d'⟩ := x
    rw [List.cons_append, passes_cons, Bool.and_eq_true] at h
    obtain ⟨hc, hl⟩ := h
    rw [List.cons_append, firstBad, ih hl]
    rw [Bool.not_eq_true'] at hc
    subst hc
    cases b <;> rfl

section
variable {r : Req} {s : State} (h : passes ((chkSysImageWrite r s).eraseIdx 6) = true)
include h

/-- With the other checks passed, only that of the image can refuse SYS_IMAGE_WRITE (R517, R524). -/
theorem firstBad_chkSysImageWrite :
    firstBad (chkSysImageWrite r s) = if (!s.memImageGood (r.u8 17) (r.u64 24) (r.u32 20)) = true then some (stInvalid, 24) else none :=
  firstBad_between (l := (chkSysImageWrite r s).take 6) _ _ _ h

theorem cmdSysImageWrite_good (hg : s.memImageGood (r.u8 17) (r.u64 24) (r.u32 20) = true) :
    cmdSysImageWrite r s = ((s.fwRead (r.u64 24) (r.u32 20)).2.setSys { (s.fwRead (r.u64 24) (r.u32 20)).2.sys with
      imgWrite := some { slot := r.u8 16, item := r.u8 17, length := r.u32 20, source := r.u64 24 } }, .ok []) := by
  rw [cmdSysImageWrite, State.refuseOr, firstBad_chkSysImageWrite h, hg]
  rfl

theorem cmdSysImageWrite_bad (hg : s.memImageGood (r.u8 17) (r.u64 24) (r.u32 20) = false) :
    cmdSysImageWrite r s = (s, .err stInvalid 24) := by
  rw [cmdSysImageWrite, State.refuseOr, firstBad_chkSysImageWrite h, hg]
  rfl

end

/-- Settles O22: each query answers what the registers and the boot flash hold, and each order is recorded. -/
theorem startCommandsComplete : Obligations.StartCommandsComplete := by
  intro s dt m u r
  refine ⟨fun h => performs_of_ok rfl h rfl, fun h hc => performs_of_ok rfl h (State.refuseOr_pass _ _ hc), fun h => performs_of_ok rfl h rfl,
    fun h hc => ?_, fun h hc => performs_of_ok rfl h (State.refuseOr_pass _ _ hc)⟩
  intro v t
  change Host.Outcome.next (u.lcs m.val 0x1104 cmdSysImageWrite) = _
  cases hg : u.memImageGood (r.u8 17) (r.u64 24) (r.u32 20) with
  | false => rw [State.lcs_err h (cmdSysImageWrite_bad hc hg), if_neg Bool.false_ne_true]
  | true => rw [State.lcs_ok h (cmdSysImageWrite_good hc hg), if_pos rfl]

end Sys2Proof.Machine
end

-- Identification, service mode and partitions (spec/14_command_set.md): O19.
section
/-! PROOF. The SYS_ commands of identification, service mode, restart and partitions. -/
namespace Sys2Proof.Machine

open Sys2Proof

theorem pack_cons (n v : Nat) (l : List (Nat × Nat)) : pack ((n, v) :: l) = leBytes n v ++ pack l := rfl

theorem cmdSysIdentify_ok (r : Req) (s : State) : ∃ b, cmdSysIdentify r s = (s, .ok (leBytes 4 (s.rd Reg.SYS_ID) ++ b)) := by
  rw [cmdSysIdentify, pack_cons]
  exact ⟨_, rfl⟩

theorem cmdSysHealth_ok (r : Req) (s : State) : ∃ b, cmdSysHealth r s = (s, .ok (leBytes 4 (s.rd Reg.HLT_CNT_CORRECTED) ++ b)) := by
  rw [cmdSysHealth, pack_cons]
  exact ⟨_, rfl⟩

section
variable {r : Req} {s : State}

/-- SYS_PART_CREATE takes the first partition that is not present (R396). -/
theorem cmdSysPartCreate_ok {i : Nat} (h : passes (chkSysPartCreate r s) = true)
    (hi : (List.range 4094).find? (fun i => !(s.partOf (i + 2)).present) = some i) :
    let x : Partition := { present := true, cellQuota := r.u32 16, decQuota := r.u8 20, encQuota := r.u8 21, capQuota := r.u8 22, ringQuota := r.u8 23 }
    cmdSysPartCreate r s =
      ((({ s with parts := sparsePut {} s.parts (i + 2) x } : State).setNotify (i + 2) { base := s.tick }).partNotice (i + 2) 0 0 0,
        .ok (pack [(2, i + 2), (2, 0)])) := by
  rw [cmdSysPartCreate, State.refuseOr_pass _ _ h, hi, Option.getD_some]

/-- An added grant takes the first region of the host that no grant holds (R397). -/
theorem cmdSysPartGrant_add {i : Nat} (h : passes (chkSysPartGrant r s) = true) (ha : r.u8 18 = 0)
    (hi : (List.range 40).find? (fun i => !s.grants.any fun g => g.region == i) = some i) :
    cmdSysPartGrant r s =
      ((({ s with grants := s.grants ++ [{ part := r.u16 16, base := r.u64 24, log2 := r.u8 19, region := i }] } : State).setFbkRegion fbkHost i
        (r.u64 24) (regionCfg false true (r.u8 19))).partNotice (r.u16 16) 1 (r.u8 19) (r.u64 24), .ok []) := by
  rw [cmdSysPartGrant, State.refuseOr_pass _ _ h, if_pos (by simp [ha]), hi, Option.getD_some]

/-- A destroyed partition is not present when its notice is given (R398). -/
theorem cmdSysPartDestroy_ok (h : passes (chkSysPartDestroy r s) = true) :
    ∃ v : State, cmdSysPartDestroy r s = (v.partNotice (r.u16 16) 3 0 0, .ok []) ∧ (v.partOf (r.u16 16)).present = false := by
  rw [cmdSysPartDestroy, State.refuseOr_pass _ _ h]
  dsimp only
  generalize List.foldl _ s _ = t
  refine ⟨_, rfl, ?_⟩
  change (sparseGet {} (sparsePut {} t.parts (r.u16 16) {}) (r.u16 16)).present = false
  rw [sparseGet_put_same]

theorem cmdSysPartQuery_ok (h : passes (chkSysPartQuery r s) = true) : ∃ b, cmdSysPartQuery r s =
    (s, .ok (leBytes 4 (if r.u16 16 ≤ 1 then 0xFFFFFFFF else (s.partOf (r.u16 16)).cellQuota) ++ leBytes 4 (s.hostCells (r.u16 16)) ++ b)) := by
  rw [cmdSysPartQuery]
  rcases s.partUse (r.u16 16) with ⟨d, e, c, g⟩
  simp only [State.refuseOr_pass _ _ h, pack_cons, List.append_assoc]
  exact ⟨_, rfl⟩

end

theorem exec_serviceTimeout (dt : Nat) {s : State} (h : (s.pass dt).ranger.svcEnd ≤ (s.pass dt).tick) :
    exec (.serviceTimeout dt) s = .next ((s.pass dt).endService 1) := by
  change execServiceTimeout dt s = _
  rw [execServiceTimeout, if_pos h]

/-- Settles O19: each command that passes its checks has its effect, and service mode ends when its time is over. -/
theorem systemCommandsComplete : Obligations.SystemCommandsComplete := by
  intro s dt m u r
  refine ⟨fun h => ?_, fun h => ?_, fun h hc => performs_of_ok rfl h (State.refuseOr_pass _ _ hc),
    fun h hc => performs_of_ok rfl h (State.refuseOr_pass _ _ hc), fun h hc i hi => performs_of_ok rfl h (cmdSysPartCreate_ok hc hi),
    fun h hc ha i hi => performs_of_ok rfl h (cmdSysPartGrant_add hc ha hi), fun h hc => ?_, fun h hc => ?_,
    fun h hc => performs_of_ok rfl h (State.refuseOr_pass _ _ hc), exec_serviceTimeout dt⟩
  · obtain ⟨b, hb⟩ := cmdSysIdentify_ok r u
    exact ⟨b, performs_of_ok rfl h hb⟩
  · obtain ⟨b, hb⟩ := cmdSysHealth_ok r u
    exact ⟨b, performs_of_ok rfl h hb⟩
  · obtain ⟨v, hv, hp⟩ := cmdSysPartDestroy_ok hc
    exact ⟨v, performs_of_ok rfl h hv, hp⟩
  · obtain ⟨b, hb⟩ := cmdSysPartQuery_ok hc
    exact ⟨b, performs_of_ok rfl h hb⟩

end Sys2Proof.Machine
end

-- Mailboxes and notification rings (spec/13_ranger_mailboxes.md, spec/14_command_set.md): O18.
section
/-! PROOF. What the registers of mailboxes and notification rings do where nothing stands against them. -/
namespace Sys2Proof.Machine

open Sys2Proof

/-! ### Mailboxes (R376, R377) -/

/-- A doorbell whose header passes its checks while firmware runs leaves the message posted. -/
theorem State.doorbell_posts {s : State} {m : Nat} (irq : Bool) (hp : s.mbState m ≠ mbPosted) (hb : s.mbState m ≠ mbBusy) :
    let v := (s.serveDue fun p => p.1.unit == fbkHost && p.1.write).posted m irq
    v.isSet Reg.MBX_STATUS_READY = true → v.headerCheck m = none → s.doorbell m irq = v := by
  intro v hr hh
  rw [State.doorbell_idle irq hp hb]
  simp only [v, hr, hh, Bool.not_true, Bool.false_eq_true, if_false, ite_self]

/-- Clearing DONE of a response that no event has just set leaves the mailbox idle. -/
theorem State.doneClear_idle {s : State} {m : Nat} (hd : s.mbState m = mbDone)
    (hr : s.raised.contains ((Reg.MBX_CMPL_DONE m).addr, (Reg.MBX_CMPL_DONE m).lo) = false) :
    (s.doneClear m).mbState m = mbIdle ∧ (s.doneClear m).fld (Reg.MBX_CMPL_DONE m) = 0 := by
  rw [State.doneClear, if_pos (by simp only [hd, hr]; rfl)]
  constructor
  · exact (State.fld_setFld_same _ (Reg.MBX_CMPL_STATE m) _ (by simp [Reg.MBX_CMPL_STATE]) (by simp [Reg.MBX_CMPL_STATE])).trans rfl
  · rw [State.fld_setFld _ _ _ _ (by simp [Fld.apart, Reg.MBX_CMPL_STATE, Reg.MBX_CMPL_DONE])]
    exact State.fld_w1c_same hr (Nat.le_refl _) (by simp [Reg.MBX_CMPL_DONE])

/-- A write of the host to the area of a mailbox that holds no message is made. -/
theorem State.hostArea_made {s : State} {m off : Nat} {data : List Byte} (hn : (data.length == 4 || data.length == 8) = true)
    (ho : (off % data.length == 0) = true) (ha : off + data.length ≤ 4096) (hp : s.mbState m ≠ mbPosted) (hb : s.mbState m ≠ mbBusy) :
    (s.hostArea m off data).areaBytes m off data.length = data := by
  have hpos : 0 < data.length := by
    rw [Bool.or_eq_true, beq_iff_eq, beq_iff_eq] at hn
    omega
  have hform : ¬ (!(data.length == 4 || data.length == 8) || off % data.length != 0 || decide (4096 ≤ off)) = true := by
    simp only [hn, bne, ho, Bool.not_true, Bool.false_or, decide_eq_true_eq]
    omega
  rw [State.hostArea, if_neg hform, if_neg (by simp [hp, hb])]
  exact (sparseRange_putRange_same 0 s.area _ data (i := 0) (by omega)).trans (List.take_length ..)

/-! ### Notification rings (R380 to R386) -/

theorem State.nringCons_taken {s : State} {n v : Nat} (ho : s.isSet (Reg.MBX_NRING_CFG_OPEN n) = true) (hv : v % 64 = 0)
    (h : wrapSub 32 v (s.rd (Reg.MBX_NRING_CONS n)) ≤ wrapSub 32 (s.rd (Reg.MBX_NRING_PROD n)) (s.rd (Reg.MBX_NRING_CONS n))) :
    s.nringCons n v = s.wr (Reg.MBX_NRING_CONS n) v := by
  rw [State.nringCons, if_neg (by simp [ho]), if_pos (by simp [hv, h])]

theorem State.nringLevel_open {s : State} {n v : Nat} (ho : s.isSet (Reg.MBX_NRING_CFG_OPEN n) = true) :
    s.nringLevel n v = s.setFld (Reg.MBX_NRING_LEVEL_BYTES n) (min (max 1 (v % 2 ^ 25)) (s.nringSize n)) := by
  rw [State.nringLevel, if_pos ho]

/-- MBX_NRING_OPEN opens the first ring that is closed, with both indices 0. -/
theorem cmdMbxNringOpen_ok {r : Req} {s : State} {n : Nat} (h : passes (chkMbxNringOpen r s) = true)
    (hn : (List.range 8).find? (fun n => !s.isSet (Reg.MBX_NRING_CFG_OPEN n)) = some n) :
    ∃ t, cmdMbxNringOpen r s = (t, .ok (leBytes 4 n)) ∧ t.rd (Reg.MBX_NRING_PROD n) = 0 ∧ t.rd (Reg.MBX_NRING_CONS n) = 0 := by
  rw [cmdMbxNringOpen, State.refuseOr_pass _ _ h, hn, Option.getD_some]
  refine ⟨_, rfl, ?_, ?_⟩
  · rw [State.rd_setFld_other _ _ _ _ (by simp [Reg.MBX_NRING_LEVEL_BYTES, Reg.MBX_NRING_LEVEL, Reg.MBX_NRING_PROD]),
      State.rd_wr_other _ _ (by simp [Reg.MBX_NRING_STAT, Reg.MBX_NRING_PROD]),
      State.rd_wr_other _ _ (by simp [Reg.MBX_NRING_CONS, Reg.MBX_NRING_PROD]), State.rd_wr_same, Nat.zero_mod]
  · rw [State.rd_setFld_other _ _ _ _ (by simp [Reg.MBX_NRING_LEVEL_BYTES, Reg.MBX_NRING_LEVEL, Reg.MBX_NRING_CONS]),
      State.rd_wr_other _ _ (by simp [Reg.MBX_NRING_STAT, Reg.MBX_NRING_CONS]), State.rd_wr_same, Nat.zero_mod]

/-! ### Firmware (R379, R389) -/

theorem exec_firmwareStop_due (dt : Nat) (p : Fin 3) {s : State} (hd : (s.pass dt).ranger.restartDue.isSome = true)
    (hr : (s.pass dt).isSet Reg.MBX_STATUS_RECOVERY = false) :
    exec (.firmwareStop dt 7 p) s = .next ((s.pass dt).restartBegins 7) := by
  change execFirmwareStop dt 7 p s = _
  rw [execFirmwareStop, if_pos (by rw [hd]; rfl), if_neg (by rw [hr]; exact Bool.false_ne_true)]

theorem exec_firmwareStop_trap (dt : Nat) (p : Fin 3) {s : State} (hf : (s.pass dt).isSet Reg.HLT_STATUS_FATAL = false) :
    exec (.firmwareStop dt 5 p) s = .next (((s.pass dt).logFault 4 2 p.val).restartBegins 5) := by
  change execFirmwareStop dt 5 p s = _
  rw [execFirmwareStop, if_neg (by exact Bool.false_ne_true), if_pos (by rw [hf]; rfl)]

/-- Settles O18: each event has the effect of its rule, and each command that passes its checks has its own. -/
theorem mailboxEventsComplete : Obligations.MailboxEventsComplete := by
  intro s dt u
  refine ⟨?_, fun m hd hr => ⟨_, rfl, State.doneClear_idle hd hr⟩, fun m off data hwf hp hb => ⟨_, rfl, ?_⟩,
    fun n v ho hv h => congrArg Host.Outcome.next (State.nringCons_taken ho hv h),
    fun n v ho => congrArg Host.Outcome.next (State.nringLevel_open ho), fun n => rfl, rfl,
    fun p hd hr => exec_firmwareStop_due dt p hd hr, fun p hf => exec_firmwareStop_trap dt p hf, rfl, rfl, ⟨_, rfl, rfl⟩, ?_⟩
  · intro m irq hp hb w v hr hh
    rw [exec_mbxDoorbell, if_pos rfl, State.doorbell_posts irq hp hb hr hh]
    rfl
  · rw [Instr.wf, Bool.and_eq_true, Bool.and_eq_true, decide_eq_true_eq] at hwf
    obtain ⟨⟨hn, ho⟩, ha⟩ := hwf
    exact State.hostArea_made hn ho ha hp hb
  · intro m r
    refine ⟨fun h hc n hn => ?_, fun h hc => performs_of_ok rfl h (State.refuseOr_pass _ _ hc)⟩
    obtain ⟨t, ht, hprod, hcons⟩ := cmdMbxNringOpen_ok hc hn
    exact ⟨t, performs_of_ok rfl h ht, hprod, hcons⟩

end Sys2Proof.Machine
end

-- Messages of the partner and the PAIR_ commands (spec/12_pair_operation.md): O17.
section
/-! PROOF. A message that comes next in order is delivered at once; the PAIR_ commands. -/
namespace Sys2Proof.Machine

open Sys2Proof

/-- What remains to be noted after an ordered message was delivered and no held one follows it (R342). -/
def State.takenInOrder (t : State) : State :=
  t.setPair { t.pair with gapAt := if t.pair.held.isEmpty then none else some t.tick, retx := false }

/-- The message that comes next, with none held behind it, is delivered alone. -/
theorem State.orderedIn_next {u : State} {m : PairMsg} (hm : m.pseq = u.rd Reg.PAIR_PSEQ_RX) (hh : u.pair.held = []) :
    u.orderedIn m = ((u.wr Reg.PAIR_PSEQ_RX (wrapAdd 32 m.pseq 1)).pairDeliver m).takenInOrder := by
  rw [State.orderedIn, if_pos (by simp [hm]), hh, ← hm]
  rfl

section
variable {u : State} (hp : u.pairHears = true)
include hp

theorem State.pairIn_ordered {m : PairMsg} (h1 : m.type ≠ 0x01) (h6 : m.type ≠ 0x06) (hA : m.type ≠ 0x0A) : u.pairIn m = u.orderedIn m := by
  rw [State.pairIn, if_neg (by simp [hp])]
  split
  · contradiction
  · contradiction
  · contradiction
  · rfl

theorem State.pairIn_sigRec (b : List Byte) : u.pairIn { pseq := 0, type := 0x06, body := b } = u.sigRecIn b := by
  rw [State.pairIn, if_neg (by simp [hp])]
  rfl

theorem State.pairIn_retx (b : List Byte) : u.pairIn { pseq := 0, type := 0x0A, body := b } = u.retxIn b := by
  rw [State.pairIn, if_neg (by simp [hp])]
  rfl

/-- A message of the ordered stream that comes next. -/
theorem State.pairIn_next {m : PairMsg} (h1 : m.type ≠ 0x01) (h6 : m.type ≠ 0x06) (hA : m.type ≠ 0x0A) (hm : m.pseq = u.rd Reg.PAIR_PSEQ_RX)
    (hh : u.pair.held = []) : u.pairIn m = ((u.wr Reg.PAIR_PSEQ_RX (wrapAdd 32 m.pseq 1)).pairDeliver m).takenInOrder := by
  rw [State.pairIn_ordered hp h1 h6 hA, State.orderedIn_next hm hh]

end

section
variable {v : State} (h : v.mirrors = true) (n : Nat) (b : List Byte)
include h

theorem State.pairDeliver_lcs : v.pairDeliver { pseq := n, type := 0x02, body := b } = v.lcsPart b := if_pos h
theorem State.pairDeliver_hostWrite : v.pairDeliver { pseq := n, type := 0x03, body := b } = v.mirrorWrite b := if_pos h
theorem State.pairDeliver_doorbell : v.pairDeliver { pseq := n, type := 0x04, body := b } = v.mirrorDoorbell b := if_pos h
theorem State.pairDeliver_latch : v.pairDeliver { pseq := n, type := 0x05, body := b } = v.latchIn b := if_pos h

end

/-- PAIR_CFG for selector 1 alone sets the loss time in microseconds (R363). -/
theorem cmdPairCfg_lossTime {r : Req} {s : State} (h : passes (chkPairCfg r s) = true) (hw : r.u8 16 = 1) :
    cmdPairCfg r s = (s.setFld Reg.PAIR_TLOSS_US (r.u16 20 * 1000), .ok []) := by
  have h0 : bitAt 1 0 = true := by decide
  have h1 : bitAt 1 1 = false := by decide
  have h2 : bitAt 1 2 = false := by decide
  rw [cmdPairCfg, State.refuseOr_pass _ _ h, hw]
  simp only [h0, h1, h2, if_true, Bool.false_eq_true, if_false, Bool.false_and]

theorem cmdPairSwitchover_forced {r : Req} {s : State} (h : passes (chkPairSwitchover r s) = true) (hf : bitAt (r.u8 16) 0 = true) :
    cmdPairSwitchover r s = ((s.setPair { s.pair with swWaiter := some r.waiter }).beginTakeover 5, .wait) := by
  rw [cmdPairSwitchover, State.refuseOr_pass _ _ h, if_pos hf]

theorem cmdPairSwitchover_planned {r : Req} {s : State} (h : passes (chkPairSwitchover r s) = true) (hf : bitAt (r.u8 16) 0 = false) :
    cmdPairSwitchover r s = ((s.setPair { s.pair with swAt := some (s.ptpNs + 50000000), swWaiter := some r.waiter }).pairOrdered 0x08
      (pack [(1, 0), (7, 0), (8, s.ptpNs + 50000000)]), .wait) := by
  rw [cmdPairSwitchover, State.refuseOr_pass _ _ h, if_neg (by rw [hf]; exact Bool.false_ne_true)]

/-- Settles O17: a message next in order is delivered by its type, and each command that passes its checks has its effect. -/
theorem pairMessagesComplete : Obligations.PairMessagesComplete := by
  intro s dt u
  refine ⟨?_, fun b hp => ⟨congrArg Host.Outcome.next (State.pairIn_sigRec hp b), congrArg Host.Outcome.next (State.pairIn_retx hp b)⟩, ?_⟩
  · intro pseq b hp hm hh v taken
    have hnext {t : Nat} {x : Option Settings} {w : State} (h1 : t ≠ 0x01) (h6 : t ≠ 0x06) (hA : t ≠ 0x0A)
        (hw : v.pairDeliver { pseq := pseq.toNat, type := t, body := b, settings := x } = w) :
        Host.Outcome.next (u.pairIn { pseq := pseq.toNat, type := t, body := b, settings := x }) =
          (Host.Outcome.next (taken w) : Host.Outcome State Fault Refusal) := by
      rw [State.pairIn_next hp h1 h6 hA hm hh, ← hw]
      rfl
    refine ⟨fun hv => ⟨hnext (by decide) (by decide) (by decide) (State.pairDeliver_lcs hv _ b),
        hnext (by decide) (by decide) (by decide) (State.pairDeliver_hostWrite hv _ b),
        hnext (by decide) (by decide) (by decide) (State.pairDeliver_doorbell hv _ b),
        hnext (by decide) (by decide) (by decide) (State.pairDeliver_latch hv _ b)⟩,
      hnext (by decide) (by decide) (by decide) rfl, hnext (by decide) (by decide) (by decide) rfl,
      hnext (by decide) (by decide) (by decide) rfl, fun x => hnext (by decide) (by decide) (by decide) rfl⟩
  · intro m r
    exact ⟨fun h hc hw => performs_of_ok rfl h (cmdPairCfg_lossTime hc hw), fun h hc hf => waits_of_wait rfl h (cmdPairSwitchover_forced hc hf),
      fun h hc hf => waits_of_wait rfl h (cmdPairSwitchover_planned hc hf), fun h hc => performs_of_ok rfl h (State.refuseOr_pass _ _ hc),
      fun h hc => performs_of_ok rfl h (State.refuseOr_pass _ _ hc)⟩

end Sys2Proof.Machine
end

-- The pair (spec/12_pair_operation.md): O16.
section
/-! PROOF. What the events of the pair do where their conditions hold. -/
namespace Sys2Proof.Machine

open Sys2Proof

/-! ### Injections (R464) -/

/-- Where no injection is taken, none is taken by a state of the same injections at the same tick, whatever it would count. -/
theorem State.injTake_none {s t : State} {det inst : Nat} {c : Nat → Nat} (c' : Nat → Nat) (h : (s.injTake det inst c).1 = none)
    (hh : t.hlt = s.hlt) (ht : t.tick = s.tick) : t.injTake det inst c' = (none, t) := by
  rw [State.injTake] at h ⊢
  rw [hh, ht]
  split at h
  · simp at h
  · split at h
    · split at h
      · simp at h
      · next hc => exact if_neg hc
    · rfl

/-! ### The heartbeat (R334 to R337) -/

theorem exec_hbPinToggle (dt : Nat) {s : State} (hr : (s.pass dt).heartRuns = true) (hf : (s.pass dt).role ≠ roFaulted)
    (ha : (s.pass dt).ageNs % 50000 ≤ 20) (ht : (s.pass dt).pair.toggledAt = none) (hi : ((s.pass dt).injTake 0x15 0).1 = none)
    (hh : (s.pass dt).pair.hbHeld ≤ (s.pass dt).tick) (hd : (s.pass dt).checkDual = s.pass dt) :
    let u := s.pass dt
    let v := u.setPair { u.pair with toggledAt := some u.tick }
    exec (.hbPinToggle dt) s = .next (v.setFld Reg.PAIR_PINS_HB_OUT (1 - v.fld Reg.PAIR_PINS_HB_OUT)) := by
  intro u v
  have hv : v.injTake 0x15 0 (fun _ => 1) = (none, v) := State.injTake_none _ hi rfl rfl
  change execHbPinToggle dt s = _
  rw [execHbPinToggle, hd, ht, if_pos (by simp [hr, hf, ha])]
  dsimp only
  rw [hv]
  exact congrArg Host.Outcome.next (if_neg (Nat.not_lt.mpr hh))

theorem exec_heartbeatSend (dt : Nat) {s : State} (hr : (s.pass dt).heartRuns = true) (ht : (s.pass dt).pair.sentAt = none)
    (hd : (s.pass dt).checkDual = s.pass dt) :
    let u := s.pass dt
    exec (.heartbeatSend dt) s = .next (u.pairLanes.foldl (fun t k => t.sendFlit (pairLane k)
      { type := 3, payload := (PairMsg.bytes { pseq := 0, type := 1, body := u.heartbeat k } 0) })
      (u.setPair { u.pair with sentAt := some u.tick })) := by
  change execHeartbeatSend dt s = _
  rw [execHeartbeatSend, hd, ht, if_pos (by simp [hr])]

theorem State.showAlive_role (s : State) : s.showAlive.role = s.role := by
  rw [State.role, State.showAlive, State.fld_setFld _ _ _ _ (by decide), State.fld_setFld _ _ _ _ (by decide), State.role]

/-- A first edge on the pin of a solo unit is noted, and no age rate is taken from it. -/
theorem exec_hbPinEdge_solo (dt : Nat) (level : Bool) {s : State} (hp : (s.pass dt).pair.pinAt = none) (hr : (s.pass dt).role = roSolo) :
    let u := s.pass dt
    exec (.hbPinEdge dt level) s =
      .next (((u.setFld Reg.PAIR_PINS_HB_IN (ofBool level)).setPair { u.pair with pinAt := some u.tick, lost := false }).showAlive) := by
  intro u
  have hrole (p : PairSt) : (((u.setFld Reg.PAIR_PINS_HB_IN (ofBool level)).setPair p).showAlive).role = roSolo := by
    rw [State.showAlive_role, State.role, State.setPair_fld, State.fld_setFld _ _ _ _ (by decide)]
    exact hr
  have hnot : ((roSolo == roBlind || roSolo == roActive) || roSolo == roStandby) = false := by decide
  change execHbPinEdge dt level s = _
  rw [execHbPinEdge, State.setFld_pair, hp]
  dsimp only
  rw [State.setFld_pair, State.setFld_tick, hrole, hnot, Bool.and_false, if_neg Bool.false_ne_true]

theorem exec_heartbeatReceived (dt : Nat) (k : Fin 4) {b : List Byte} {s : State} (hr : (s.pass dt).isSet Reg.PAIR_STATUS_READY = true)
    (hl : (s.pass dt).laneActive (pairLane k.val) = true) (hb : b.length = 48) :
    exec (.heartbeatReceived dt k b) s = .next ((s.pass dt).heartbeatIn k.val b).returnCredits := by
  change execHeartbeatReceived dt k b s = _
  rw [execHeartbeatReceived, if_pos (by simp [hr, hl, hb])]

/-! ### Loss of the partner and of the link (R338, R339) -/

section
variable {dt : Nat} {s v : State} (hv : (s.pass dt).showAlive = v) (hr : v.isSet Reg.PAIR_STATUS_READY = true)
include hv hr

theorem exec_partnerLost (hl : v.pair.lost = false) (hp : v.alive v.pair.pinAt = false) (hk : v.alive v.pair.linkAt = false)
    (hs : v.pair.pinAt.isSome = true) : exec (.partnerLost dt) s =
      .next ((v.tellLinkLost.setPair { v.tellLinkLost.pair with lost := true }).partnerGone 3).returnCredits := by
  change execPartnerLost dt s = _
  rw [execPartnerLost, hv, if_pos (by simp [hr, hl, hp, hk, hs])]

theorem exec_pairLinkLost_standby (hs : v.pair.linkAt.isSome = true) (hk : v.alive v.pair.linkAt = false) (hp : v.alive v.pair.pinAt = true)
    (hrole : v.role = roStandby) : exec (.pairLinkLost dt) s =
      .next (((v.raise Reg.PAIR_EVT_LINK_LOST).tellLinkLost.dropMirror.setRole roBlind phFinding 9).endSwitch 0) := by
  change execPairLinkLost dt s = _
  rw [execPairLinkLost, hv, if_pos (by simp [hr, hk, hs, hp]), if_pos (by simp [hrole])]

end

/-! ### Start-up, egress, the selector (R331, R349 to R354) -/

theorem exec_findingTimeout (dt t : Nat) {s : State} (ht : (s.pass dt).pair.startedAt = some t) (hr : (s.pass dt).role = roBlind)
    (hp : (s.pass dt).pairPhase = phFinding)
    (hs : (s.pass dt).since (max t (max ((s.pass dt).pair.pinAt.getD 0) ((s.pass dt).pair.linkAt.getD 0))) (2 * ticksPerS) = true) :
    let v := ((s.pass dt).setOwn true).egressOn
    exec (.findingTimeout dt) s = .next (((v.setPair { v.pair with startedAt := none }).setRole roSolo phFinding 1).settleSends) := by
  change execFindingTimeout dt s = _
  rw [execFindingTimeout, ht]
  dsimp only
  rw [if_pos (by rw [hr, hp, hs]; rfl)]

theorem exec_egressBringupTimeout_done {dt t : Nat} {s v : State} (hv : (s.pass dt).showAlive = v) (ht : v.pair.egressAt = some t)
    (hs : v.since t (8 * ticksPerMs) = true) (hm : v.egressMissing = []) : exec (.egressBringupTimeout dt) s = .next v.egressDone := by
  change execEgressBringupTimeout dt s = _
  rw [execEgressBringupTimeout, hv, ht]
  dsimp only
  rw [if_neg (by rw [hs]; exact Bool.false_ne_true), if_pos (by rw [hm]; rfl)]

/-- The holds of a gate without bit 3. -/
theorem bitAt_holds_released (h : Nat) : bitAt (if bitAt h 3 then h - 8 else h) 3 = false := by
  split
  next hb =>
    simp only [bitAt, beq_iff_eq, beq_eq_false_iff_ne] at hb ⊢
    omega
  next hb => exact Bool.eq_false_of_not_eq_true hb

theorem exec_forceVoidHoldRelease (dt : Nat) (n : Fin 32) {s : State} (hv : (s.pass dt).pair.voids.contains n.val = true)
    (hl : (s.pass dt).laneActive n.val = true) (hs : (s.pass dt).since ((s.pass dt).lane n.val).since ticksPerS = true) :
    let u := s.pass dt
    let g := u.gateOut n.val
    exec (.forceVoidHoldRelease dt n) s = .next ((u.setGate n.val { g with holds := if bitAt g.holds 3 then g.holds - 8 else g.holds }).setPair
      { u.pair with voids := u.pair.voids.filter fun x => x != n.val }) := by
  change execForceVoidHoldRelease dt n s = _
  rw [execForceVoidHoldRelease, if_pos (by rw [hv, hl, hs]; rfl)]

theorem exec_selStatusChange_none (dt : Nat) (level : Bool) {s : State} (h : (s.pass dt).pair.ownAt = none) :
    exec (.selStatusChange dt level) s = .next ((s.pass dt).setFld Reg.PAIR_PINS_SEL_STATUS (ofBool level)) := by
  change execSelStatusChange dt level s = _
  rw [execSelStatusChange, State.setFld_pair, h]

theorem exec_yield {dt own low : Nat} {s : State} (ho : (s.pass dt).pair.ownAt = some own) (hl : (s.pass dt).pair.selLowAt = some low)
    (hp : (s.pass dt).pairPresent = true) (hi : (s.pass dt).ilkMode = false) (hr : (s.pass dt).role = roSolo ∨ (s.pass dt).role = roActive)
    (hs : (s.pass dt).since (max (own + tSel) low) tYield = true) :
    let u := s.pass dt
    let v := (((u.setOwn false).stopMirror.raise Reg.PAIR_EVT_YIELD).raise Reg.PAIR_EVT_DUAL).bump Reg.PAIR_CNT_YIELD
    let w := (v.setPair { v.pair with egressAt := none, aligned := false }).setRole roBlind phIsolated 8
    exec (.yield dt) s =
      .next (((w.egressOff.settleSends).dualNotice (w.fld Reg.PAIR_STATUS_SIDE) ((u.tick - own) / ticksPerUs)).endSwitch 2).returnCredits := by
  have hrole : ((s.pass dt).role == roSolo || (s.pass dt).role == roActive) = true := by simpa using hr
  change execYield dt s = _
  rw [execYield, ho, hl]
  dsimp only
  rw [if_pos (by rw [hp, hi, hrole, hs]; rfl)]

/-! ### The interlock (R356) -/

/-- The pins and the note of the interlock input after a change of it. -/
def State.ilkNoted (u : State) (low : Bool) : State :=
  (u.setFld Reg.PAIR_PINS_ILK_IN (ofBool low)).setPair { u.pair with ilkHighAt := if low then none else some u.tick }

theorem exec_ilkInChange (dt : Nat) (low : Bool) (s : State) :
    let u := s.pass dt
    exec (.ilkInChange dt low) s = .next (if low && u.pair.ilkWaitAt.isSome && u.pair.claimAt.isNone && u.pair.retryAt.isNone && u.pair.lost
      then (u.ilkNoted low).isolate u.pair.cause else u.ilkNoted low) := rfl

theorem exec_ilkWaitExpiry {dt w h : Nat} {s : State} (hw : (s.pass dt).pair.ilkWaitAt = some w) (hc : (s.pass dt).pair.claimAt = none)
    (hr : (s.pass dt).pair.retryAt = none) (hh : (s.pass dt).ilkHigh = some h) (hs : (s.pass dt).since (max w h) (20 * ticksPerMs) = true)
    (hm : (s.pass dt).mayClaim = true) :
    let u := s.pass dt
    exec (.ilkWaitExpiry dt) s = .next ((u.setFld Reg.PAIR_PINS_ILK_OUT 1).setPair { u.pair with claimAt := some u.tick }) := by
  change execIlkWaitExpiry dt s = _
  rw [execIlkWaitExpiry, hw, hc]
  dsimp only
  rw [hr, hh]
  dsimp only
  rw [if_pos (by rw [hs, hm]; rfl)]

theorem exec_ilkSample_takes {dt t : Nat} {s : State} (hc : (s.pass dt).pair.claimAt = some t) (hs : (s.pass dt).since t ticksPerMs = true)
    (hm : (s.pass dt).mayClaim = true) (hi : (s.pass dt).isSet Reg.PAIR_PINS_ILK_IN = false) :
    exec (.ilkSample dt) s = .next ((s.pass dt).takeOver (s.pass dt).pair.cause (s.pass dt).pair.blind) := by
  change execIlkSample dt s = _
  rw [execIlkSample, hc]
  dsimp only
  rw [if_neg (by rw [hs, hm]; exact Bool.false_ne_true), if_pos (by rw [hi]; rfl)]

/-! ### Switchover and join (R351, R357 to R360) -/

section
variable {dt at_ : Nat} {s : State} (ha : (s.pass dt).pair.swAt = some at_) (hy : (s.pass dt).ready = true)
include ha hy

theorem exec_switchoverInstant_active (hr : (s.pass dt).role = roActive) (ht : at_ ≤ (s.pass dt).ptpNs) :
    let v := (((s.pass dt).setOwn false).stopMirror).setRole roStandby phSynced 5
    exec (.switchoverInstant dt) s =
      .next (((v.setPair { v.pair with swAt := none }).setFld Reg.PAIR_STATUS_CROSSCHECK 1).egressOff.settleSends.returnCredits) := by
  change execSwitchoverInstant dt s = _
  rw [execSwitchoverInstant, ha]
  dsimp only
  rw [if_pos (by rw [hr]; rfl), if_neg (by simpa [hy] using ht)]

theorem exec_switchoverInstant_standby (hr : (s.pass dt).role = roStandby) (ht : at_ + 10000 ≤ (s.pass dt).ptpNs)
    (hi : (s.pass dt).ilkMode = false) :
    let v := ((s.pass dt).claimDisplays true).setRole roActive phSynced 5
    exec (.switchoverInstant dt) s =
      .next (((v.setPair { v.pair with swAt := none, mirroring := true, aligned := false }).setFld Reg.PAIR_STATUS_CROSSCHECK 1).settleSends) := by
  change execSwitchoverInstant dt s = _
  rw [execSwitchoverInstant, ha]
  dsimp only
  rw [if_neg (by rw [hr]; decide), if_pos (by rw [hr]; rfl), if_neg (by simpa [hy, hi] using ht)]

end

/-- A join that is no resynchronization opens what was adopted and makes the unit the standby (R351). -/
theorem State.cutOver_join {u : State} {x : Settings} (hp : u.pairPhase ≠ phResync) (hx : u.pair.adopted = some x) :
    let v := (List.range 32).foldl (fun t n => t.clearConverged n) ((u.setPair { u.pair with adopted := none }).openAdopted x).syncFrames
    u.cutOver = (((v.bump Reg.PAIR_CNT_RESYNC).setFld Reg.PAIR_STATUS_CROSSCHECK 1).setRole roStandby phSynced 2).applyHotEgress.settleSends := by
  have hno : (u.pairPhase == phResync) = false := by simpa using hp
  rw [State.cutOver, hno, hx]
  simp only [Bool.false_eq_true, if_false]

theorem exec_joinCutover (dt : Nat) {s : State} (hr : (s.pass dt).role = roBlind) (ha : (s.pass dt).pair.aligned = true)
    (hx : (s.pass dt).pair.xferDone = true) (hg : (s.pass dt).pair.ageRate = false) (hy : (s.pass dt).ready = true)
    (hl : (s.pass dt).atLatchLine = true) : exec (.joinCutover dt) s = .next (s.pass dt).cutOver := by
  change execJoinCutover dt s = _
  rw [execJoinCutover, if_pos (by rw [hr, ha, hx, hg, hy, hl]; rfl)]

theorem exec_pairGapTimeout_again {dt t : Nat} {s : State} (hg : (s.pass dt).pair.gapAt = some t)
    (hs : (s.pass dt).since t (100 * ticksPerUs) = true) (hx : (s.pass dt).pair.retx = true) (hr : (s.pass dt).role = roStandby) :
    exec (.pairGapTimeout dt) s = .next ((s.pass dt).dropMirror.setRole roBlind phResync 13) := by
  change execPairGapTimeout dt s = _
  rw [execPairGapTimeout, hg]
  dsimp only
  rw [if_neg (by rw [hs]; exact Bool.false_ne_true), if_neg (by rw [hx]; exact Bool.false_ne_true), if_pos (by rw [hr]; rfl)]

/-- Settles O16: each event has the effect of its rule. -/
theorem pairEventsComplete : Obligations.PairEventsComplete := by
  intro s dt u
  refine ⟨fun hr hf ha ht hi hh hd => exec_hbPinToggle dt hr hf ha ht hi hh hd, fun hr ht hd => exec_heartbeatSend dt hr ht hd,
    fun level hp hr => exec_hbPinEdge_solo dt level hp hr, fun k b hr hl hb => exec_heartbeatReceived dt k hr hl hb,
    fun hr hl hp hk hs => exec_partnerLost rfl hr hl hp hk hs, fun hr hs hk hp hrole => exec_pairLinkLost_standby rfl hr hs hk hp hrole,
    fun t ht hr hp hs => exec_findingTimeout dt t ht hr hp hs, fun t ht hs hm => exec_egressBringupTimeout_done rfl ht hs hm,
    fun n hv hl hs => ⟨_, exec_forceVoidHoldRelease dt n hv hl hs, ?_, ?_⟩, fun level h => exec_selStatusChange_none dt level h,
    fun own low ho hl hp hi hr hs => exec_yield ho hl hp hi hr hs, fun low h => ⟨u.ilkNoted low, ?_, ?_, ?_⟩, fun hw hc hr hl => ?_,
    fun w h hw hc hr hh hs hm => exec_ilkWaitExpiry hw hc hr hh hs hm, fun t hc hs hm hi => exec_ilkSample_takes hc hs hm hi,
    fun at_ ha hr ht hy => exec_switchoverInstant_active ha hy hr ht,
    fun at_ ha hr ht hi hy => exec_switchoverInstant_standby ha hy hr ht hi, fun hr ha hx hg hy hp hl x hd => ?_,
    fun t hg hs hx hr => exec_pairGapTimeout_again hg hs hx hr⟩
  · rw [State.setPair_pair]
    simp
  · exact (congrArg (fun g : GateOut => bitAt g.holds 3) (sparseGet_put_same _ _ _ _)).trans (bitAt_holds_released _)
  · rw [exec_ilkInChange, if_neg]
    rcases h with h | h <;> simp [h, u]
  · rw [State.ilkNoted, State.setPair_fld, State.fld_setFld_same _ _ _ (by decide) (by decide)]
    exact Nat.mod_eq_of_lt (ofBool_lt low)
  · rw [State.ilkNoted, State.setPair_pair]
  · rw [exec_ilkInChange, if_pos (by simp [hw, hc, hr, hl, u])]
    rfl
  · exact (exec_joinCutover dt hr ha hx hg hy hl).trans (congrArg _ (State.cutOver_join hp hd))

end Sys2Proof.Machine
end

-- Kiene lanes and capture inputs (spec/11_kiene_link.md): O14, O15.
section
/-! PROOF. What the events of a lane and of a capture input do where their conditions hold. -/
namespace Sys2Proof.Machine

open Sys2Proof

/-! ### Lanes (R289 to R317) -/

theorem padTo_of_length {n : Nat} {l : List Byte} (h : l.length = n) : padTo n l = l := by
  rw [padTo, h, Nat.sub_self, List.take_of_length_le (Nat.le_of_eq h)]
  exact List.append_nil l

section
variable {u : State} {i : Nat}

theorem State.powerUpDone_off {t : Nat} (ht : (u.lane i).powerAt = some t) (hl : u.laneState i = lsOff)
    (hs : u.since t (400 * ticksPerUs) = true) : u.powerUpDone i = u.laneTo i lsDetect 0 := by
  rw [State.powerUpDone, ht]
  exact if_pos (by rw [hl, hs]; rfl)

theorem State.detectProbe_found (hl : u.laneState i = lsDetect) (ht : (u.lane i).probeAt ≤ u.tick) :
    u.detectProbe i true = (u.setFld (Reg.KLN_STAT_PRESENT i) 1).laneTo i lsTrain 0 := by
  rw [State.detectProbe, if_neg (by simpa [hl] using ht), if_pos rfl, ofBool, if_pos rfl]

theorem State.detectProbe_missing (hl : u.laneState i = lsDetect) (ht : (u.lane i).probeAt ≤ u.tick) :
    u.detectProbe i false = (u.setFld (Reg.KLN_STAT_PRESENT i) 0).setLane i { u.lane i with probeAt := u.tick + ticksPerMs } := by
  rw [State.detectProbe, if_neg (by simpa [hl] using ht), if_neg Bool.false_ne_true, ofBool, if_neg Bool.false_ne_true]

/-- A block of a lane that trains, agrees on its capabilities or is active, whose elastic buffer neither runs dry nor over. -/
theorem State.blockReceived_in {sync fill : Nat} {b : List Byte} {offset : Int} (hi : i < 52)
    (hl : u.laneState i = lsTrain ∨ u.laneState i = lsCaps ∨ u.laneActive i = true) (hb : b.length = 8) (h0 : 0 < fill) (h16 : fill < 16) :
    u.blockReceived i sync b fill offset = (u.setFld (Reg.KLN_ELASTIC_FILL i) fill).blockIn i sync b fill offset := by
  have htakes : (u.laneState i == lsTrain || u.laneState i == lsCaps || u.laneActive i) = true := by simpa [or_assoc] using hl
  have hfill : ¬ (fill == 0 || decide (16 ≤ fill)) = true := by simp; omega
  rw [State.blockReceived, if_neg (Nat.not_le.mpr hi), htakes, if_neg (by decide), if_neg hfill, padTo_of_length hb]

theorem State.takeFlit_good {f : List Byte} (ha : u.laneActive i = true) (hi : (u.injTake 0x08 i).1 = none) (hf : f.length = 2048)
    (hc : fieldAt f 2044 4 = crc32 (f.take 2044)) (hs : fieldAt f 0 2 = u.fld (Reg.KLN_RX_SEQ_EXPECTED i))
    (hw : (u.lane i).wantReplay = false) : u.takeFlit i f false = u.acceptFlit i f := by
  rw [State.takeFlit, if_neg (by rw [ha]; exact Bool.false_ne_true), State.injTake_none _ hi rfl rfl]
  dsimp only
  rw [if_neg (by simp [hf, hc]), if_neg (by rw [hw]; exact Bool.false_ne_true), if_pos (by simp [hs])]

theorem State.ackNakIn_ack (seq : Nat) (ha : u.laneActive i = true) :
    u.ackNakIn i false seq = if 48 ≤ i then (u.ackFlit i seq).returnCredits else u.ackFlit i seq := by
  rw [State.ackNakIn, if_neg (by rw [ha]; exact Bool.false_ne_true), if_neg Bool.false_ne_true]

theorem State.ackNakIn_nak (seq : Nat) (ha : u.laneActive i = true) : u.ackNakIn i true seq = u.nakFlit i seq := by
  rw [State.ackNakIn, if_neg (by rw [ha]; exact Bool.false_ne_true), if_pos rfl]

theorem State.replayTimeout_due {f : Flit} {l : List Flit} (ha : u.laneActive i = true) (ho : (u.lane i).out = f :: l)
    (hs : u.since f.sentAt ackTicks = true) : u.replayTimeout i = (u.bump (Reg.KLN_CNT_TIMEOUT i)).replayFrom i f.seq := by
  rw [State.replayTimeout, ho, List.head?_cons]
  exact if_pos (by rw [ha, hs]; rfl)

theorem State.msgIn_status {b : List Byte} (hr : u.rxTakes i = true) (hb : b.length = 8) : u.msgIn i 2 b = u.statusIn i b := by
  rw [State.msgIn, if_neg (by rw [hr]; exact Bool.false_ne_true), if_neg (by simp), if_pos (by simp [hb])]

theorem State.msgIn_hotplug {b : List Byte} (hr : u.rxTakes i = true) (hb : b.length = 4) : u.msgIn i 3 b = u.hotplugIn i b := by
  rw [State.msgIn, if_neg (by rw [hr]; exact Bool.false_ne_true), if_neg (by simp), if_neg (by simp), if_pos (by simp [hb])]

theorem State.sendDeviceStatus_changed (ha : u.laneActive i = true) (hd : fieldAt (u.deviceSays i) 0 4 ≠ (u.lane i).said) :
    u.sendDeviceStatus i = (u.setLane i { u.lane i with said := fieldAt (u.deviceSays i) 0 4, saidAt := some u.tick }).sendMsg i 0x11
      (u.deviceSays i) := by
  rw [State.sendDeviceStatus, if_pos (by simp [ha, hd])]

end

/-- What a lane's event does where its two conditions hold. -/
theorem exec_laneTrainTimeout (dt : Nat) {lane : Fin 52} {s : State} (hl : (s.pass dt).laneState lane.val = lsTrain)
    (hs : (s.pass dt).since ((s.pass dt).lane lane.val).since (2500 * ticksPerUs) = true) :
    exec (.laneTrainTimeout dt lane) s = .next ((s.pass dt).bringupFail lane.val 7) := by
  change execLaneTrainTimeout dt lane s = _
  rw [execLaneTrainTimeout, if_pos (by rw [hl, hs]; rfl)]

theorem exec_laneCapsTimeout (dt : Nat) {lane : Fin 52} {s : State} (hl : (s.pass dt).laneState lane.val = lsCaps)
    (hs : (s.pass dt).since ((s.pass dt).lane lane.val).since ticksPerMs = true) :
    exec (.laneCapsTimeout dt lane) s = .next ((s.pass dt).bringupFail lane.val 8) := by
  change execLaneCapsTimeout dt lane s = _
  rw [execLaneCapsTimeout, if_pos (by rw [hl, hs]; rfl)]

theorem exec_laneSignalLoss (dt : Nat) {lane : Fin 52} {s : State} (ha : (s.pass dt).laneActive lane.val = true)
    (hs : (s.pass dt).since ((s.pass dt).lane lane.val).validAt (10 * ticksPerUs) = true) :
    exec (.laneSignalLoss dt lane) s = .next ((s.pass dt).laneTo lane.val lsDetect 5) := by
  change execLaneSignalLoss dt lane s = _
  rw [execLaneSignalLoss, if_pos (by rw [ha, hs]; rfl)]

theorem exec_statusMsgReceived (dt : Nat) {lane : Fin 52} (b : List Byte) {s : State} (ha : (s.pass dt).laneActive lane.val = true) :
    exec (.statusMsgReceived dt lane b) s = .next ((s.pass dt).msgIn lane.val 2 b) := by
  change execStatusMsgReceived dt lane b s = _
  rw [execStatusMsgReceived, if_pos ha]

theorem exec_hotplugMsgReceived (dt : Nat) {lane : Fin 52} (b : List Byte) {s : State} (ha : (s.pass dt).laneActive lane.val = true) :
    exec (.hotplugMsgReceived dt lane b) s = .next ((s.pass dt).msgIn lane.val 3 b) := by
  change execHotplugMsgReceived dt lane b s = _
  rw [execHotplugMsgReceived, if_pos ha]

theorem exec_partnerSilentTimeout (dt : Nat) {lane : Fin 52} {s : State} (ha : (s.pass dt).laneActive lane.val = true)
    (hp : bitAt ((s.pass dt).partnerWord lane.val 1) 17 = true)
    (hs : (s.pass dt).since ((s.pass dt).lane lane.val).statusAt (300 * ticksPerMs) = true)
    (hn : (s.pass dt).isSet (Reg.KLN_STAT_PARTNER_SILENT lane.val) = false) :
    exec (.partnerSilentTimeout dt lane) s =
      .next (((s.pass dt).setFld (Reg.KLN_STAT_PARTNER_SILENT lane.val) 1).partnerNotice lane.val) := by
  change execPartnerSilentTimeout dt lane s = _
  rw [execPartnerSilentTimeout, if_pos (by rw [ha, hp, hs, hn]; rfl)]

/-- Settles O14: each event of a lane has the effect of its rule. -/
theorem laneEventsComplete : Obligations.LaneEventsComplete := by
  intro s dt lane u i
  refine ⟨fun t ht hl hs => congrArg Host.Outcome.next (State.powerUpDone_off ht hl hs),
    fun hl ht => ⟨congrArg Host.Outcome.next (State.detectProbe_found hl ht), congrArg Host.Outcome.next (State.detectProbe_missing hl ht)⟩,
    fun hl hs => exec_laneTrainTimeout dt hl hs, fun hl hs => exec_laneCapsTimeout dt hl hs, fun ha hs => exec_laneSignalLoss dt ha hs,
    fun sync b fill offset hl hb h0 h16 => congrArg Host.Outcome.next (State.blockReceived_in lane.isLt hl hb h0 h16),
    fun f ha hi hf hc hs hw => congrArg Host.Outcome.next (State.takeFlit_good ha hi hf hc hs hw),
    fun seq ha => ⟨congrArg Host.Outcome.next (State.ackNakIn_ack seq.val ha), congrArg Host.Outcome.next (State.ackNakIn_nak seq.val ha)⟩,
    fun f l ha ho hs => congrArg Host.Outcome.next (State.replayTimeout_due ha ho hs),
    fun b ha hr => ⟨fun hb => ?_, fun hb => ?_⟩, fun ha hp hs hn => exec_partnerSilentTimeout dt ha hp hs hn,
    fun k ha hd => congrArg Host.Outcome.next (State.sendDeviceStatus_changed ha hd)⟩
  · exact (exec_statusMsgReceived dt b ha).trans (congrArg _ (State.msgIn_status hr hb))
  · exact (exec_hotplugMsgReceived dt b ha).trans (congrArg _ (State.msgIn_hotplug hr hb))

/-! ### Capture inputs (R318 to R326) -/

section
variable {u : State} {i : Nat}

/-- A whole picture is filed as the newest, the input is free of it, its cell is confirmed, and only then is an earlier tear told. -/
theorem State.capComplete_filed {p : CapPic} (hp : (u.cap i).cur = some p) (hb : p.big = false) (hm : p.mode = true) (hl : p.lines = p.h)
    (hi : (u.injTake 0x12 i).1 = none) : ∃ (v : State) (stamp : Option Nat),
    (v.cap i).cur = none ∧ (v.pool 2 i).newest = some p.slot ∧
    let d := (v.confirmCell (v.pool 2 i).cell 0 stamp 0).detPass 0x12 i
    u.capComplete i = if d.1 then d.2.capTornNotice i (v.run 0x12 i).first 1 1 else d.2 := by
  obtain ⟨t, ht⟩ : ∃ t, t = u.capComplete i := ⟨_, rfl⟩
  rw [← ht]
  rw [State.capComplete, hp] at ht
  dsimp -zeta only at ht
  rw [if_neg (by simp [hb, hm, hl]), State.injTake_none _ hi rfl rfl] at ht
  rw [if_neg (by simp)] at ht
  dsimp -zeta only at ht
  extract_lets n old x q qpic pic filed c s1 s2 s3 s4 first at ht
  have h3 : s3.caps = s1.caps ∧ s3.pools = s1.pools := by
    unfold s3
    split
    · exact ⟨State.bump_caps _ _ _, State.bump_pools _ _ _⟩
    · exact ⟨rfl, rfl⟩
  have h4 : s4.caps = s1.caps ∧ s4.pools = s1.pools := by
    unfold s4
    cases (u.capStamp i p).2 with
    | none => exact h3
    | some time => exact ⟨(State.wr64_caps _ _ _ _).trans h3.1, (State.wr64_pools _ _ _ _).trans h3.2⟩
  have hpool : s4.pool 2 i = { x.setSlot p.slot { q with pic := pic } with newest := some p.slot } := by
    rw [State.pool, h4.2]
    exact sparseGet_put_same _ _ _ _
  refine ⟨s4, (u.capStamp i p).2, ?_, ?_, ?_⟩
  · rw [State.cap, h4.1]
    exact congrArg CapSt.cur (sparseGet_put_same _ _ _ _)
  · rw [hpool]
  · rw [hpool]
    exact ht

theorem State.capDrained_draining (hs : u.capState i = ciDraining) (hc : (u.cap i).cur = none) (hk : (u.cap i).stuck = false) :
    u.capDrained i = u.finishCap i 0 := by
  rw [State.capDrained, hs, if_neg (by decide), if_neg (by simp [hc, hk])]

theorem State.capDrained_resetting (hs : u.capState i = ciResetting) : u.capDrained i = u.finishCap i 1 := by
  rw [State.capDrained, hs, if_pos (by decide)]

/-- The state in which an input is reset whose drain took too long (R324), before the fault is logged. -/
def State.capReset (u : State) (i : Nat) : State :=
  (((u.setCap i { u.cap i with cur := none, drainAt := none, stuck := false }).setCapState i ciResetting).raise
    (Reg.KLN_CAP_STAT_DRAIN_RESET (capLane i)))

theorem State.capDrainTimeout_resets {t : Nat} (hs : u.capState i = ciDraining) (hd : (u.cap i).drainAt = some t) (ht : t ≤ u.tick) :
    u.capDrainTimeout i = (u.capReset i).logFault 0x19 1 (0x300 + i) (u.cap i).stuck := by
  rw [State.capDrainTimeout, hd]
  exact if_neg (by simpa [hs] using ht)

theorem State.raise_caps (s : State) (f : Fld) : (s.raise f).caps = s.caps := (rfl)

theorem State.capReset_cur (u : State) (i : Nat) : ((u.capReset i).cap i).cur = none := by
  rw [State.cap, State.capReset, State.raise_caps, State.setCapState, State.setFld_caps, State.setFld_caps]
  exact congrArg CapSt.cur (sparseGet_put_same _ _ _ _)

theorem State.capReset_capState (u : State) (i : Nat) : (u.capReset i).capState i = ciResetting := by
  rw [State.capState, State.capReset, State.fld_raise, State.fld_setFld_addr _ _ _ _ (by
      simp only [Reg.KLN_CAP_STAT_DRAIN_RESET, Reg.KLN_CAP_STAT, Reg.KLN_CAP_CTRL_STATE, Reg.KLN_CAP_CTRL]; omega),
    State.setCapState, State.fld_setFld _ _ _ _ (by simp [Fld.apart, Reg.KLN_CAP_CTRL_STATE, Reg.KLN_CAP_CTRL_EN]),
    State.fld_setFld_same _ _ _ (by simp [Reg.KLN_CAP_CTRL_STATE]) (by simp [Reg.KLN_CAP_CTRL_STATE])]
  rfl

theorem State.capReset_drainReset (u : State) (i : Nat) : (u.capReset i).fld (Reg.KLN_CAP_STAT_DRAIN_RESET (capLane i)) = 1 := by
  rw [State.capReset, State.fld_raise,
    State.fld_setFld_same _ _ _ (by simp [Reg.KLN_CAP_STAT_DRAIN_RESET]) (by simp [Reg.KLN_CAP_STAT_DRAIN_RESET])]
  simp [Reg.KLN_CAP_STAT_DRAIN_RESET]

end

theorem cmdCapEnable_ok {r : Req} {u v : State} {cell : Nat} {mem : List Nat} (h : passes (u.capEnableChecks r) = true) (hr : u.rung 5 = false)
    (hc : u.placeCells false 1 = some cell)
    (hm : u.takeMemory [log2Up 12 ((r.u8 18 + 2) * capSlotBytes (r.u16 20) (r.u16 22))] = some (mem, v)) :
    cmdCapEnable r u = (v.enableCap r cell (mem.getD 0 0) (log2Up 12 ((r.u8 18 + 2) * capSlotBytes (r.u16 20) (r.u16 22))),
      .ok (pack [(4, cell)])) := by
  rw [passes, Option.isNone_iff_eq_none] at h
  rw [cmdCapEnable, h, hc, hm]
  exact if_neg (by rw [hr]; exact Bool.false_ne_true)

theorem cmdCapDisable_waits {r : Req} {u : State} (h : passes (chkCapDisable r u) = true) (hi : (u.injTake 0x19 (0x300 + r.u8 16)).1 = none) :
    cmdCapDisable r u = ((u.setCap (r.u8 16) { u.cap (r.u8 16) with
      drainAt := some (u.tick + drainMs (r.u16 18) * ticksPerMs), stuck := false, waiter := some r.waiter }).setCapState (r.u8 16) ciDraining,
      .wait) := by
  rw [cmdCapDisable, State.refuseOr_pass _ _ h, State.injTake_none _ hi rfl rfl]
  rfl

/-- Settles O15: each event of a capture input has the effect of its rule, and each command that passes its checks has its own. -/
theorem captureComplete : Obligations.CaptureComplete := by
  intro s dt u
  refine ⟨fun i p hp hb hm hl hi => ?_, fun i hs hc hk => congrArg Host.Outcome.next (State.capDrained_draining hs hc hk),
    fun i hs => congrArg Host.Outcome.next (State.capDrained_resetting hs),
    fun i t hs hd ht => ⟨u.capReset i.val, congrArg Host.Outcome.next (State.capDrainTimeout_resets hs hd ht), u.capReset_cur _,
      u.capReset_capState _, u.capReset_drainReset _⟩, ?_⟩
  · obtain ⟨v, stamp, hcur, hnew, hv⟩ := State.capComplete_filed hp hb hm hl hi
    refine ⟨v, stamp, ?_⟩
    exact ⟨congrArg Host.Outcome.next hv, hcur, hnew⟩
  · intro m r
    exact ⟨fun h hc => performs_of_ok rfl h (State.refuseOr_pass _ _ hc), fun h hc => performs_of_ok rfl h (State.refuseOr_pass _ _ hc),
      fun h hc hr cell mem v hcell hmem => performs_of_ok rfl h (cmdCapEnable_ok hc hr hcell hmem),
      fun h hc hi => waits_of_wait rfl h (cmdCapDisable_waits hc hi), fun h hc => performs_of_ok rfl h (State.refuseOr_pass _ _ hc)⟩

end Sys2Proof.Machine
end

-- The time unit (spec/10_time_unit.md): O13.
section
/-! PROOF. What the events and commands of the time unit do where their conditions hold. -/
namespace Sys2Proof.Machine

open Sys2Proof

/-! ### Measurements (R264 to R268) -/

section
variable {u : State} {port : Nat} (hr : u.servoRuns = true) (hp : bitAt u.time.ports port = true)
include hr hp

/-- A measurement of the best master, or of any where none is heard, is taken with the times heard, or with its own. -/
theorem State.takeMeasure_taken {master gm : Nat} {t1 t2 t3 t4 a b c d : Int}
    (hb : (u.bestMaster.all fun x => x.port == port && x.id == master) = true) (hh : u.heardTimes.getD (t1, t2, t3, t4) = (a, b, c, d)) :
    let v := u.measure port master ((u.bestMaster.map PtpMaster.gm).getD gm) a b c d
    u.takeMeasure port master gm t1 t2 t3 t4 = { v with time := { v.time with heardSync := none } } := by
  rw [State.takeMeasure, if_neg (by rw [hr, hp, hb]; exact Bool.false_ne_true), hh]

end

theorem exec_masterLoss (dt : Nat) {s : State} (hr : (s.pass dt).servoRuns = true) (hm : (s.pass dt).isSet Reg.TIM_STATUS_MASTER = true)
    (hg : (s.pass dt).masterGone = true) : exec (.masterLoss dt) s = .next (s.pass dt).loseMaster := by
  change execMasterLoss dt s = _
  rw [execMasterLoss, if_pos (by rw [hr, hm, hg]; rfl)]

section
variable {u : State} (ht : u.timeState = tsHoldover) (hs : u.since u.time.holdoverAt (u.fld Reg.TIM_HOLDOVER_SEC * ticksPerS) = true)
include ht hs

theorem State.holdoverOver_servo (hr : u.servoRuns = true) : u.holdoverOver = u.servoTo tsUntrusted := by
  rw [State.holdoverOver, if_neg (by rw [ht, hs]; decide), if_pos hr]

theorem State.holdoverOver_noServo (hr : u.servoRuns = false) :
    u.holdoverOver = (u.setFld Reg.TIM_STATUS_TRUSTED 0).timeChanged tsHoldover u.trusted := by
  rw [State.holdoverOver, if_neg (by rw [ht, hs]; decide), if_neg (by rw [hr]; exact Bool.false_ne_true)]

end

/-! ### The queue of transmit stamps (R271) -/

theorem State.setTxq_txq (s : State) (l : List TxStamp) : (s.setTxq l).time.txq = l := by
  rw [State.setTxq, State.setFld_time, State.wr_time]

theorem State.putTxStamp_time (s : State) (x : TxStamp) : (s.putTxStamp x).time = s.time := by
  rw [State.putTxStamp, State.setFld_time, State.wr_time, State.wr_time]

theorem exec_timTxqHeadPop {dt : Nat} {s : State} {x : TxStamp} {l : List TxStamp} (h : (s.pass dt).time.txq = x :: l) :
    exec (.timTxqHeadPop dt) s = .next { ((s.pass dt).setTxq l).putTxStamp x with readData := TxStamp.head (some x) } := by
  change execTimTxqHeadPop dt s = _
  rw [execTimTxqHeadPop, h]

theorem State.emit_ptpNs (s : State) (e : Emission) : (s.emit e).ptpNs = s.ptpNs := (rfl)
theorem State.emit_txLatency (s : State) (e : Emission) (k : Nat) : (s.emit e).txLatency k = s.txLatency k := (rfl)

/-- A delay request goes out by the master's port, and its stamp is kept where the queue has a place. -/
theorem State.sendDelayReq_sent {u : State} (msg : List Byte) (hr : u.servoRuns = true) (hm : u.isSet Reg.TIM_STATUS_MASTER = true)
    (hl : u.linkUp (u.fld Reg.TIM_STATUS_PORT) = true) :
    let p := u.fld Reg.TIM_STATUS_PORT
    let seq := fieldBe msg 30 2
    let stamp := u.ptpNs + u.txLatency (52 + p)
    let v := u.emit (.frame p (u.ptpFrame p msg))
    let x := { v.time with request := some (seq, if decide (u.time.txq.length < 16) then some (stamp : Int) else none), response := none }
    u.sendDelayReq msg = ({ v with time := x } : State).pushTxStamp { port := p, msgType := fieldAt msg 0 1 % 16, seqId := seq, ptp := stamp } := by
  rw [State.sendDelayReq, if_pos (by rw [hr, hm, hl]; rfl)]
  dsimp only
  rw [State.emit_ptpNs, State.emit_txLatency, State.emit_time]
  simp only [decide_eq_true_eq]

/-! ### The pulse per second (R272 to R275) -/

theorem exec_ppsOutFall {dt at_ : Nat} {s : State} (hh : (s.pass dt).time.ppsHigh = true) (ha : (s.pass dt).time.ppsRoseAt = some at_)
    (hs : (s.pass dt).since at_ ((s.pass dt).fld Reg.TIM_PPS_CTRL_WIDTH_US * ticksPerUs) = true) :
    exec (.ppsOutFall dt) s = .next { s.pass dt with time := { (s.pass dt).time with ppsHigh := false } } := by
  change execPpsOutFall dt s = _
  rw [execPpsOutFall, ha]
  dsimp only
  rw [if_pos (by rw [hh, hs]; rfl)]

/-- The width of the pulse as it is when the pulse rises. -/
def State.pulseWidened (u : State) : State :=
  match u.time.widthPending with
  | none => u
  | some w => u.setFld Reg.TIM_PPS_CTRL_WIDTH_US w

theorem exec_ppsOutRise {dt : Nat} {s : State} (he : (s.pass dt).isSet Reg.TIM_PPS_CTRL_EN = true)
    (hg : (s.pass dt).isSet Reg.TIM_PPS_CTRL_GATE = false) (hn : (s.pass dt).ptpNs % 10 ^ 9 < 4) (ha : (s.pass dt).time.ppsRoseAt = none)
    (hh : (s.pass dt).time.ppsHigh = false) :
    let u := s.pass dt
    exec (.ppsOutRise dt) s =
      .next { u.pulseWidened with time := { u.time with ppsHigh := true, ppsRoseAt := some u.tick, widthPending := none } } := by
  change execPpsOutRise dt s = _
  rw [execPpsOutRise, ha]
  dsimp only
  rw [if_pos (by rw [he, hg, hh, decide_eq_true hn]; rfl)]
  rfl

/-- An edge of the input is stamped with the time, even in ns. -/
def State.ppsInStamped (u : State) : State :=
  (((u.wr Reg.TIM_PPSIN_NS (u.ptpNs / 2 * 2 % 10 ^ 9)).wr Reg.TIM_PPSIN_SEC_LO (u.ptpNs / 2 * 2 / 10 ^ 9 % 2 ^ 32)).setFld Reg.TIM_PPSIN_SEC_HI_SEC
    (u.ptpNs / 2 * 2 / 10 ^ 9 / 2 ^ 32)).raise Reg.TIM_PPSIN_SEC_HI_NEW

theorem State.raise_time (s : State) (f : Fld) : (s.raise f).time = s.time := (rfl)

theorem exec_ppsInEdge {dt : Nat} {s : State} (h : (s.pass dt).time.ppsInCheck = 0) :
    exec (.ppsInEdge dt) s = .next (s.pass dt).ppsInStamped := by
  have hc : ((s.pass dt).ppsInStamped.time.ppsInCheck != 0) = false := by
    rw [State.ppsInStamped, State.raise_time, State.setFld_time, State.wr_time, State.wr_time, h]
    rfl
  change Host.Outcome.next (if ((s.pass dt).ppsInStamped.time.ppsInCheck != 0 && (s.pass dt).ppsInStamped.trusted && _) = true then _
    else (s.pass dt).ppsInStamped) = _
  rw [hc, Bool.false_and, Bool.false_and, if_neg Bool.false_ne_true]

theorem State.ppsInStamped_new (u : State) : u.ppsInStamped.fld Reg.TIM_PPSIN_SEC_HI_NEW = 1 := by
  rw [State.ppsInStamped, State.fld_raise, State.fld_setFld_same _ _ _ (by decide) (by decide)]
  rfl

theorem State.rd_ppsInStamped_ns (u : State) : u.ppsInStamped.rd Reg.TIM_PPSIN_NS = u.ptpNs / 2 * 2 % 10 ^ 9 := by
  rw [State.ppsInStamped, State.rd_raise_other _ (by decide), State.rd_setFld_other _ _ _ _ (by decide), State.rd_wr_other _ _ (by decide),
    State.rd_wr_same]
  exact Nat.mod_eq_of_lt ((Nat.mod_lt _ (by decide)).trans (by decide))

theorem State.rd_ppsInStamped_sec (u : State) : u.ppsInStamped.rd Reg.TIM_PPSIN_SEC_LO = u.ptpNs / 2 * 2 / 10 ^ 9 % 2 ^ 32 := by
  rw [State.ppsInStamped, State.rd_raise_other _ (by decide), State.rd_setFld_other _ _ _ _ (by decide), State.rd_wr_same]
  exact Nat.mod_mod _ _

/-! ### The TIM_ commands -/

theorem State.updTime_fld (s : State) (x : TimeSt) (f : Fld) : ({ s with time := x } : State).fld f = s.fld f := (rfl)

section
variable {r : Req} {u : State}

/-- TIM_CFG: the registers and the settings of the time unit it writes. -/
def State.timConfigured (u : State) (r : Req) : State :=
  let t := ((u.setFld Reg.TIM_STATUS_DOMAIN (r.u8 16)).setFld Reg.TIM_STEP_THRESH_NS (if r.u32 20 == 0 then 1000000 else r.u32 20)).setFld
    Reg.TIM_HOLDOVER_SEC (if r.u16 24 == 0xFFFF then 60 else r.u16 24)
  { t with time := { u.time with ports := r.u8 17, transport := r.u8 18, pcp := r.u8 19, vlan := r.u16 26 } }

theorem State.timConfigured_role : (u.timConfigured r).role = u.role := by
  rw [State.role, State.timConfigured, State.updTime_fld, State.fld_setFld _ _ _ _ (by decide), State.fld_setFld _ _ _ _ (by decide),
    State.fld_setFld _ _ _ _ (by decide), State.role]

/-- A change of the domain, the ports, the transport or the VLAN loses the master (R276), but where the unit is standby. -/
theorem cmdTimCfg_eq (h : passes (chkTimCfg r u) = true) :
    cmdTimCfg r u = (if (u.fld Reg.TIM_STATUS_DOMAIN, u.time.ports, u.time.transport, u.time.vlan) ≠ (r.u8 16, r.u8 17, r.u8 18, r.u16 26) ∧
      u.role ≠ 2 then (u.timConfigured r).loseMaster else u.timConfigured r, .ok []) := by
  rw [cmdTimCfg, State.refuseOr_pass _ _ h]
  refine congrArg (·, Resp.ok []) (ite_congr (propext ?_) (fun _ => rfl) fun _ => rfl)
  change (_ && (u.timConfigured r).role != 2) = true ↔ _
  rw [State.timConfigured_role]
  simp only [Bool.and_eq_true, Bool.or_eq_true, bne_iff_ne, ne_eq, Prod.mk.injEq]
  tauto

theorem cmdTimPpsCfg_ok (h : passes (chkTimPpsCfg r u) = true) : ∃ t, cmdTimPpsCfg r u = (t, .ok []) ∧
    t.fld Reg.TIM_PPS_CTRL_EN = r.u8 16 ∧ t.fld Reg.TIM_PPS_CTRL_GATE = r.u8 17 ∧ t.time.widthPending = some (r.u32 20) ∧
    t.time.ppsInCheck = r.u32 24 := by
  have hbits : r.u8 16 ≤ 1 ∧ r.u8 17 ≤ 1 := by
    simp only [chkTimPpsCfg, passes_cons, Bool.and_eq_true, Bool.not_eq_true', decide_eq_false_iff_not, Nat.not_lt] at h
    exact ⟨h.2.1, h.2.2.1⟩
  rw [cmdTimPpsCfg, State.refuseOr_pass _ _ h]
  refine ⟨_, rfl, ?_, ?_, rfl, rfl⟩
  · rw [State.updTime_fld, State.fld_setFld _ _ _ _ (by decide), State.fld_setFld_same _ _ _ (by decide) (by decide)]
    exact Nat.mod_eq_of_lt (Nat.lt_succ_of_le hbits.1)
  · rw [State.updTime_fld, State.fld_setFld_same _ _ _ (by decide) (by decide)]
    exact Nat.mod_eq_of_lt (Nat.lt_succ_of_le hbits.2)

theorem cmdTimReEpoch_ok (h : passes (chkTimReEpoch r u) = true) : ∃ t, cmdTimReEpoch r u = (t, .ok []) ∧
    t.fld Reg.TIM_STATUS_PERMIT = 1 ∧ t.time.meas = [] := by
  rw [cmdTimReEpoch, State.refuseOr_pass _ _ h]
  refine ⟨_, rfl, ?_, rfl⟩
  rw [State.updTime_fld, State.fld_setFld_same _ _ _ (by decide) (by decide)]
  rfl

end

/-- Settles O13: each event of the time unit has the effect of its rule, and each command that passes its checks has its own. -/
theorem timeComplete : Obligations.TimeComplete := by
  intro s dt u
  refine ⟨fun port master gm t1 t2 t3 t4 hr hp hh => ⟨fun hb => ?_, fun b hb hbp hbm => ?_⟩,
    fun port b gm t1 t2 t3 t4 h1 h2 h3 h4 hr hp hb hbp hh => ?_, fun hr hm hg => exec_masterLoss dt hr hm hg,
    fun hr ht hs => congrArg Host.Outcome.next (State.holdoverOver_servo ht hs hr),
    fun hr ht hs => congrArg Host.Outcome.next (State.holdoverOver_noServo ht hs hr),
    fun x l h => ⟨_, exec_timTxqHeadPop h, ?_, rfl⟩, fun msg hr hm hl => congrArg Host.Outcome.next (State.sendDelayReq_sent msg hr hm hl),
    fun k => rfl, fun he hg hn ha hh => ⟨_, exec_ppsOutRise he hg hn ha hh, rfl, rfl, fun w hw => ?_⟩,
    fun at_ hh ha hs => exec_ppsOutFall hh ha hs,
    fun h => ⟨_, exec_ppsInEdge h, u.ppsInStamped_new, u.rd_ppsInStamped_ns, u.rd_ppsInStamped_sec⟩, ?_⟩
  · refine congrArg Host.Outcome.next ?_
    have h := State.takeMeasure_taken (master := master) (gm := gm) (t1 := t1) (t2 := t2) (t3 := t3) (t4 := t4) hr hp (by rw [hb]; rfl) (by rw [hh])
    rw [hb] at h
    exact h
  · refine congrArg Host.Outcome.next ?_
    have h := State.takeMeasure_taken (master := master) (gm := gm) (t1 := t1) (t2 := t2) (t3 := t3) (t4 := t4) hr hp
      (by rw [hb]; simp [hbp, hbm]) (by rw [hh])
    rw [hb] at h
    exact h
  · refine congrArg Host.Outcome.next ?_
    have h := State.takeMeasure_taken (master := b.id) (gm := gm) (t1 := t1) (t2 := t2) (t3 := t3) (t4 := t4) hr hp
      (by rw [hb]; simp [hbp]) (by rw [hh])
    rw [hb] at h
    exact h
  · dsimp only
    rw [State.putTxStamp_time, State.setTxq_txq]
  · rw [State.updTime_fld, State.pulseWidened, hw]
    exact State.fld_setFld_same _ _ _ (by decide) (by decide)
  · intro m r
    refine ⟨fun h hc he => ⟨u.timConfigured r, performs_of_ok rfl h ?_, rfl, rfl, rfl, rfl⟩,
      fun h hc hrole he => ⟨u.timConfigured r, performs_of_ok rfl h ?_, rfl, rfl, rfl, rfl⟩, fun h hc => ?_, fun h hc => ?_,
      fun h hc => performs_of_ok rfl h (State.refuseOr_pass _ _ hc)⟩
    · rw [cmdTimCfg_eq hc, if_neg fun hn => hn.1 he]
    · rw [cmdTimCfg_eq hc, if_pos ⟨he, hrole⟩]
    · obtain ⟨t, ht, hp, hm⟩ := cmdTimReEpoch_ok hc
      exact ⟨t, performs_of_ok rfl h ht, hp, hm⟩
    · obtain ⟨t, ht, hfacts⟩ := cmdTimPpsCfg_ok hc
      exact ⟨t, performs_of_ok rfl h ht, hfacts⟩

end Sys2Proof.Machine
end

-- Packet ports and ingest queues (spec/09_packet_ports.md): O11.
section
/-! PROOF. What the events of packet ports and of ingest queues do where their conditions hold. -/
namespace Sys2Proof.Machine

open Sys2Proof

/-! ### Ports (R243 to R253) -/

theorem exec_ethFrameReceived (dt : Nat) (p : Fin 2) (f : List Byte) (x : PortIntake) {s w : State}
    (hw : (s.pass dt).countFec p.val x.corrected x.uncorrectable = w) (hq : w.queueTakes 0x07 (2 * p.val) = true) :
    exec (.ethFrameReceived dt p f x) s = .next (w.ethFrame p.val f x.level) := by
  change execEthFrameReceived dt p f x s = _
  rw [execEthFrameReceived, hw]
  exact congrArg Host.Outcome.next (if_pos hq)

section
variable {u : State} {p : Nat}

/-- A good frame that finds room is counted and classified. -/
theorem State.ethFrame_good {f : List Byte} {level : Nat} (hl : u.linkUp p = true) (hi : (u.injTake 0x13 p).1 = none)
    (hn : within 64 9216 f.length = true) (hc : ethCrc (f.take (f.length - 4)) = f.drop (f.length - 4)) (hr : 64 * level + f.length ≤ 262144) :
    u.ethFrame p f level = ((((u.bumpWrap (Reg.PKT_PORT_CNT_RX_FRAMES p)).setFld (Reg.PKT_PORT_RXBUF_LEVEL p)
      (min (level + ceilDiv f.length 64) 4096)).settlePorts.frameIn p (f.take (f.length - 4))).settlePorts) := by
  rw [State.ethFrame, if_neg (by rw [hl]; exact Bool.false_ne_true), State.injTake_none _ hi rfl rfl]
  dsimp only
  rw [if_neg (by simp [hn, hc]), if_neg (Nat.not_lt.mpr hr)]

theorem State.pfcRenew_due {c t : Nat} (ht : sparseFind (u.portSt p).pfcAt c = some t) (hs : t + 500 * ticksPerUs ≤ u.tick)
    (hb : bitAt (u.fld (Reg.PKT_PORT_STAT_PFC_TX p)) c = true) : u.pfcRenew p c = u.sendPfc p c 0xFFFF := by
  rw [State.pfcRenew, ht]
  exact if_pos (by rw [decide_eq_true hs, hb]; rfl)

theorem State.pauseTimeout_due {c t : Nat} (ht : sparseFind (u.portSt p).pausedSince c = some t) (hs : t + 50 * ticksPerMs < u.tick) :
    let x := u.portSt p
    let gone := x.txq.filter fun f => f.pcp == c
    let first := (gone.findSome? fun f => f.session).getD 0
    u.pauseTimeout p c =
      ((u.setPort p { x with txq := x.txq.filter fun f => f.pcp != c }).lostFrames gone).txLoss p first gone.length (u.encOwner first) := by
  rw [State.pauseTimeout, ht]
  exact if_neg (Nat.not_le.mpr hs)

theorem State.pauseExpiry_due {c t : Nat} (ht : sparseFind (u.portSt p).pausedTill c = some t) (hs : t ≤ u.tick) :
    u.pauseExpiry p c = u.pauseClass p c 0 := by
  rw [State.pauseExpiry, ht]
  exact if_pos hs

end

/-- The registers of a port whose link comes up, and its note that it has been up. -/
def State.linkedUp (u : State) (p : Nat) : State :=
  (((((u.setFld (Reg.PKT_PORT_STAT_LINK p) (ofBool true)).setFld (if p == 0 then Reg.PKT_STATUS_LINK0 else Reg.PKT_STATUS_LINK1)
    (ofBool true)).setFld (Reg.KLN_STAT_STATE (52 + p)) 4).setFld (Reg.KLN_STAT_BLOCK_LOCK (52 + p)) (ofBool true)).setFld
    (Reg.KLN_OFFSET_FROZEN (52 + p)) 1).setPort p { u.portSt p with everUp := true }

theorem State.portLink_up {u : State} {p : Nat} (hl : u.linkUp p = false) (hd : (u.portSt p).down = false)
    (hr : u.isSet Reg.PKT_STATUS_READY = true) (hu : u.laneUsable (52 + p) = true) :
    u.portLink p true = ((u.linkedUp p).notice 0x0801 p [0] (pack [(1, p), (1, 1), (2, 0)])).settlePorts := by
  rw [State.portLink, if_neg (by simp [hl, hd, hr, hu])]
  dsimp only
  rw [if_pos rfl, if_pos rfl]
  rfl

theorem State.linkedUp_linkUp (u : State) (p : Fin 2) : (u.linkedUp p.val).linkUp p.val = true := by
  have hone : (u.linkedUp p.val).fld (Reg.PKT_PORT_STAT_LINK p.val) = 1 := by
    have hp := p.isLt
    have h0 : (if p.val == 0 then Reg.PKT_STATUS_LINK0 else Reg.PKT_STATUS_LINK1).apart (Reg.PKT_PORT_STAT_LINK p.val) = true := by
      revert p; decide
    rw [State.linkedUp, State.setPort_fld,
      State.fld_setFld_addr _ _ _ _ (by simp [Reg.KLN_OFFSET_FROZEN, Reg.KLN_OFFSET, Reg.PKT_PORT_STAT_LINK, Reg.PKT_PORT_STAT]; omega),
      State.fld_setFld_addr _ _ _ _ (by simp [Reg.KLN_STAT_BLOCK_LOCK, Reg.KLN_STAT, Reg.PKT_PORT_STAT_LINK, Reg.PKT_PORT_STAT]; omega),
      State.fld_setFld_addr _ _ _ _ (by simp [Reg.KLN_STAT_STATE, Reg.KLN_STAT, Reg.PKT_PORT_STAT_LINK, Reg.PKT_PORT_STAT]; omega),
      State.fld_setFld _ _ _ _ h0,
      State.fld_setFld_same _ _ _ (by simp [Reg.PKT_PORT_STAT_LINK]) (by simp [Reg.PKT_PORT_STAT_LINK])]
    simp [Reg.PKT_PORT_STAT_LINK, ofBool]
  rw [State.linkUp, State.isSet, hone]
  rfl

/-! ### Queues (R254 to R260) -/

section
variable {u : State} {n : Nat} (ho : u.isSet (Reg.PKT_Q_CTRL_OPEN n) = true)
include ho

theorem State.qSetMark_free {i : Nat} (hi : (List.range 4).find? (fun m => !(u.qMarks n).contains m) = some i) :
    let t := ((u.wr (Reg.PKT_Q_MARK n i) (u.rd (Reg.PKT_Q_RD n))).setMarkValid n i true).qRetail n
    u.qSetMark n = t.setDec n { t.dec n with ahead := some i } := by
  rw [State.qSetMark, if_neg (by rw [ho]; exact Bool.false_ne_true), State.takeMark, hi]

theorem State.qRewind_marked {i : Nat} (hi : (u.qMarks n).contains i = true) :
    u.qRewind n i = (((u.wr (Reg.PKT_Q_RD n) (u.rd (Reg.PKT_Q_MARK n i))).setQueue n { u.queue n with reading := none }).setDec n
      { u.dec n with marker := false }).qRetail n := by
  rw [State.qRewind, if_neg (by rw [ho]; exact Bool.false_ne_true), if_pos hi]

theorem State.qRelease_open (i : Nat) : u.qRelease n i = ((u.setDec n ((u.dec n).unmark i)).setMarkValid n i false).qRetail n := by
  rw [State.qRelease, if_neg (by rw [ho]; exact Bool.false_ne_true)]

section
variable (hs : (u.dec n).skipping = false)
include hs

/-- A pipe that reads an empty queue gets 0. -/
theorem State.qRead_empty (whole : Bool) :
    let a := u.loadDecPipe n
    a.rd (Reg.PKT_Q_RD n) = a.rd (Reg.PKT_Q_WR n) →
    u.qRead n whole = ({ a with readData := 0 } : State).setDec n { a.dec n with skipping := false } := by
  intro a he
  rw [State.qRead, if_neg (by rw [ho]; exact Bool.false_ne_true)]
  obtain ⟨load, hload⟩ : ∃ f, f = State.unitLoad := ⟨_, rfl⟩
  obtain ⟨head, hhead⟩ : ∃ f, f = State.qHeader := ⟨_, rfl⟩
  rw [← hload, ← hhead]
  dsimp only
  rw [hs, if_neg Bool.false_ne_true, if_pos (beq_iff_eq.mpr he)]

section
variable {a b v : State} {header item : List Byte} {ok l : Bool} {rd : Nat} (ha : u.loadDecPipe n = a)
  (hrd : a.rd (Reg.PKT_Q_RD n) = rd) (hne : rd ≠ a.rd (Reg.PKT_Q_WR n))
  (hb : a.qHeader (fbkDec (u.fld (Reg.DEC_SES_CTRL_PIPE n))) n rd = (header, b))
  (hv : b.unitLoad (fbkDec (u.fld (Reg.DEC_SES_CTRL_PIPE n))) (b.qAddr n rd) (b.headSize n rd header) = (item, ok, l, false, v))
include ha hrd hne hb hv

/-- What a pipe reads at the head of a queue that holds an item without poison, and what the read leaves. -/
theorem State.qRead_item (whole : Bool) :
    let w : State := { v with readData := 1 + 2 * leNat item }
    u.qRead n whole = (if whole then (((w.wr (Reg.PKT_Q_RD n) (wrapAdd 32 rd (b.headSize n rd header))).setQueue n
        { w.queue n with reading := none }).setDec n { w.dec n with marker := (w.dec n).marker || bitAt (fieldAt item 2 1) 0 }).qRetail n
      else w.setQueue n { w.queue n with reading := some rd }).decAfter n { ok := ok, lasting := l } := by
  obtain ⟨load, hload⟩ : ∃ f, f = State.unitLoad := ⟨_, rfl⟩
  obtain ⟨head, hhead⟩ : ∃ f, f = State.qHeader := ⟨_, rfl⟩
  rw [← hload] at hv
  rw [← hhead] at hb
  rw [State.qRead, if_neg (by rw [ho]; exact Bool.false_ne_true), ← hload, ← hhead]
  dsimp only
  rw [hs, if_neg Bool.false_ne_true, ha, hrd, if_neg (by simpa using hne), hb]
  dsimp only
  rw [hv]
  dsimp only
  rw [if_neg Bool.false_ne_true]

theorem State.qRead_peek :
    let w : State := { v with readData := 1 + 2 * leNat item }
    u.qRead n false = (w.setQueue n { w.queue n with reading := some rd }).decAfter n { ok := ok, lasting := l } := by
  rw [State.qRead_item ho hs ha hrd hne hb hv, if_neg Bool.false_ne_true]

theorem State.qRead_take :
    let w : State := { v with readData := 1 + 2 * leNat item }
    u.qRead n true = ((((w.wr (Reg.PKT_Q_RD n) (wrapAdd 32 rd (b.headSize n rd header))).setQueue n { w.queue n with reading := none }).setDec n
      { w.dec n with marker := (w.dec n).marker || bitAt (fieldAt item 2 1) 0 }).qRetail n).decAfter n { ok := ok, lasting := l } := by
  rw [State.qRead_item ho hs ha hrd hne hb hv, if_pos rfl]

end
end
end

/-! ### Sender reports (R263) -/

section
variable {u : State} {n : Nat} {f : TxFlow} (hf : (u.enc n).flow = some f) (hms : f.srMs ≠ 0) (hd : f.srAt + f.srMs * ticksPerMs ≤ u.tick)
  (ho : u.isSet (Reg.PKT_TX_CTRL_OPEN n) = true) (hs : u.txSends n = true)

/-- The session once its next sender report is due later and has its own index. -/
def State.reportCounted (u : State) (n : Nat) (f : TxFlow) : State :=
  let f1 : TxFlow := { f with srAt := f.srAt + f.srMs * ticksPerMs, keys := { f.keys with rtcp := (f.keys.rtcp + 1) % 2 ^ 31 } }
  u.setEnc n { u.enc n with flow := some f1 }

include hf hms hd ho hs

theorem State.senderReport_untrusted (ht : u.trusted = false) : u.senderReport n = (u.reportCounted n f).bump (Reg.PKT_TX_CNT_LOSS n) := by
  rw [State.senderReport, hf]
  dsimp only
  rw [if_neg (by simpa [hms, ho] using hd), if_neg (by rw [hs]; exact Bool.false_ne_true), if_pos (by rw [ht]; rfl)]
  rfl

theorem State.senderReport_sent {ok : Bool} {v : State} (ht : u.trusted = true)
    (hk : keyReady f.srtp (f.keys.reportKey (u.rd (Reg.PKT_TX_ROC n) * 65536 + u.fld (Reg.PKT_TX_CTRL_SEQ n))) = true)
    (hl : u.linkUp (u.fld (Reg.PKT_TX_CTRL_PORT n)) = true)
    (hv : (u.reportCounted n f).txPut (u.fld (Reg.PKT_TX_CTRL_PORT n)) ((u.reportCounted n f).reportFrame (u.fld (Reg.PKT_TX_CTRL_PORT n)) f
      (f.keys.reportKey (u.rd (Reg.PKT_TX_ROC n) * 65536 + u.fld (Reg.PKT_TX_CTRL_SEQ n)))) = (ok, v)) :
    u.senderReport n = if ok then v else v.bump (Reg.PKT_TX_CNT_LOSS n) := by
  rw [State.reportCounted] at hv
  rw [State.senderReport, hf]
  dsimp only at hv ⊢
  rw [if_neg (by simpa [hms, ho] using hd), if_neg (by rw [hs]; exact Bool.false_ne_true), if_neg (by rw [ht, hk]; exact Bool.false_ne_true), hv]
  dsimp only
  rw [hl, Bool.and_true]

end

/-! ### Service accesses (R261) -/

section
variable (s : State) (reg val : Nat → Nat)

theorem State.rd_foldl_wr_other {a : Nat} (l : List Nat) (h : ∀ k ∈ l, reg k ≠ a) :
    (l.foldl (fun t k => t.wr (reg k) (val k)) s).rd a = s.rd a := by
  induction l generalizing s with
  | nil => rfl
  | cons k l ih =>
    rw [List.foldl_cons, ih _ fun j hj => h j (List.mem_cons_of_mem k hj), State.rd_wr_other _ _ (h k List.mem_cons_self)]

/-- Registers written one after another at different addresses each hold what was written to them. -/
theorem State.rd_foldl_wr_same {n k : Nat} (hk : k < n) (h : ∀ i j, reg i = reg j → i = j) :
    ((List.range n).foldl (fun t k => t.wr (reg k) (val k)) s).rd (reg k) = val k % 2 ^ 32 := by
  induction n with
  | zero => exact absurd hk (Nat.not_lt_zero k)
  | succ n ih =>
    rw [List.range_succ, List.foldl_append, List.foldl_cons, List.foldl_nil]
    rcases Nat.lt_succ_iff_lt_or_eq.mp hk with hlt | rfl
    · rw [State.rd_wr_other _ _ fun he => absurd (h _ _ he) (Nat.ne_of_gt hlt), ih hlt]
    · exact State.rd_wr_same ..

end

/-- A read of the diagnostic window on an open queue that holds an item. -/
theorem State.qdiag_item {u t : State} {v : Nat} {h : List Byte} (hs : u.isSet Reg.PKT_STATUS_SVC = true) (hg : bitAt v 31 = true)
    (ho : u.isSet (Reg.PKT_Q_CTRL_OPEN (v % 128)) = true) (hne : u.rd (Reg.PKT_Q_RD (v % 128)) ≠ u.rd (Reg.PKT_Q_WR (v % 128)))
    (hx : (u.setFld Reg.PKT_QDIAG_CTRL_SESSION (v % 128)).qHeader fbkPkt (v % 128) (u.rd (Reg.PKT_Q_RD (v % 128))) = (h, t)) :
    u.qdiag v = (List.range 8).foldl (fun t k => t.wr (Reg.PKT_QDIAG_DATA k) (fieldAt h (4 * k) 4)) (t.setFld Reg.PKT_QDIAG_CTRL_VALID 1) := by
  obtain ⟨head, hhead⟩ : ∃ f, f = State.qHeader := ⟨_, rfl⟩
  rw [← hhead] at hx
  rw [State.qdiag, if_neg (by rw [hs]; exact Bool.false_ne_true), ← hhead]
  dsimp only
  rw [if_neg (by rw [hg]; exact Bool.false_ne_true), if_neg (by simpa [ho] using hne), hx]

theorem PKT_QDIAG_DATA_injective (i j : Nat) (h : Reg.PKT_QDIAG_DATA i = Reg.PKT_QDIAG_DATA j) : i = j := by
  simp only [Reg.PKT_QDIAG_DATA] at h
  omega

/-- The watermarks a service write leaves, each within its limits. -/
theorem State.wmarkWrite_limited {u : State} {n v : Nat} (hs : u.isSet Reg.PKT_STATUS_SVC = true)
    (ho : u.isSet (Reg.PKT_Q_CTRL_OPEN n) = true) :
    let hi := min (max (bitsAt v 25 16) 1) (highLimit (u.qSize n))
    (u.wmarkWrite n v).rd (Reg.PKT_Q_WMARK n) = hi * 65536 + min (bitsAt v 9 0) (hi - 1) := by
  intro hi
  have hne : Reg.PKT_SVC_STAT_ADJUSTED.addr ≠ Reg.PKT_Q_WMARK n := by
    simp only [Reg.PKT_SVC_STAT_ADJUSTED, Reg.PKT_SVC_STAT, Reg.PKT_Q_WMARK]
    omega
  have hword : hi * 65536 + min (bitsAt v 9 0) (hi - 1) < 2 ^ 32 := by
    have h1 : bitsAt v 25 16 < 2 ^ 10 := bitsAt_lt v 25 16
    have h2 : bitsAt v 9 0 < 2 ^ 10 := bitsAt_lt v 9 0
    omega
  rw [State.wmarkWrite, if_neg (by rw [hs]; exact Bool.false_ne_true), if_neg (by rw [ho]; exact Bool.false_ne_true)]
  dsimp only
  split
  · rw [State.rd_wr_same]
    exact Nat.mod_eq_of_lt hword
  · rw [State.rd_raise_other _ hne, State.rd_wr_same]
    exact Nat.mod_eq_of_lt hword

/-- Settles O11: each event of a port and of a queue has the effect of its rule. -/
theorem packetEventsComplete : Obligations.PacketEventsComplete := by
  intro s dt u
  refine ⟨?_, fun p c t ht hs hb => congrArg Host.Outcome.next (State.pfcRenew_due ht hs hb),
    fun p c t ht hs => congrArg Host.Outcome.next (State.pauseTimeout_due ht hs),
    fun p c t ht hs => congrArg Host.Outcome.next (State.pauseExpiry_due ht hs), fun k ho => ?_,
    fun p hl hd hr hu => ⟨u.linkedUp p.val, congrArg Host.Outcome.next (State.portLink_up hl hd hr hu), u.linkedUp_linkUp p⟩, ?_,
    fun v hs hg ho hne => ?_, fun k v hs ho => ⟨_, rfl, State.wmarkWrite_limited hs ho⟩, fun k => rfl⟩
  · intro p f level fixed bad w hq hl hi hn hc hr
    rw [exec_ethFrameReceived dt p f ⟨level, fixed, bad⟩ rfl hq]
    exact congrArg Host.Outcome.next (State.ethFrame_good hl hi hn hc hr)
  · refine ⟨fun i hi => congrArg Host.Outcome.next (State.qSetMark_free ho hi),
      fun i hi => congrArg Host.Outcome.next (State.qRewind_marked ho hi), fun i => congrArg Host.Outcome.next (State.qRelease_open ho i.val),
      ?_, ?_⟩
    · intro whole a hs he
      exact congrArg Host.Outcome.next (State.qRead_empty ho hs whole he)
    · intro hs hne rd unit a hrd hwr
      split
      next header b hb =>
      extract_lets size
      split
      next item ok l bad v hv =>
      extract_lets w
      intro hbad
      subst hbad
      rw [← hwr] at hne
      exact ⟨congrArg Host.Outcome.next (State.qRead_peek ho hs rfl hrd hne hb hv),
        congrArg Host.Outcome.next (State.qRead_take ho hs rfl hrd hne hb hv)⟩
  · intro k f hf hms hd ho hs f1 t
    refine ⟨fun ht => congrArg Host.Outcome.next (State.senderReport_untrusted hf hms hd ho hs ht), ?_⟩
    intro port key
    split
    next ok v hv => exact fun ht hk hl => congrArg Host.Outcome.next (State.senderReport_sent hf hms hd ho hs ht hk hl hv)
  · rcases hx : (u.setFld Reg.PKT_QDIAG_CTRL_SESSION (v.toNat % 128)).qHeader fbkPkt (v.toNat % 128) (u.rd (Reg.PKT_Q_RD (v.toNat % 128)))
      with ⟨h, t⟩
    refine ⟨_, congrArg Host.Outcome.next (State.qdiag_item hs hg ho hne hx), ?_, ?_⟩
    · rw [State.fld, State.rd_foldl_wr_other _ _ _ _ fun k _ => by
        simp only [Reg.PKT_QDIAG_DATA, Reg.PKT_QDIAG_CTRL_VALID, Reg.PKT_QDIAG_CTRL]; omega]
      exact State.fld_setFld_same _ _ _ (by decide) (by decide)
    · intro n k hk
      rw [hx, State.rd_foldl_wr_same _ _ _ hk PKT_QDIAG_DATA_injective]
      exact Nat.mod_eq_of_lt (fieldAt_lt _ _ 4)

end Sys2Proof.Machine
end

-- The PKT_ commands (spec/09_packet_ports.md, spec/14_command_set.md): O12.
section
/-! PROOF. The commands of packet ports, flows and ingest queues. -/
namespace Sys2Proof.Machine

open Sys2Proof

theorem Req.u8_lt (r : Req) (o : Nat) : r.u8 o < 256 := fieldAt_lt r.msg o 1
theorem Req.u16_lt (r : Req) (o : Nat) : r.u16 o < 65536 := fieldAt_lt r.msg o 2

theorem State.setFld_portSt (s : State) (f : Fld) (v p : Nat) : (s.setFld f v).portSt p = s.portSt p := (rfl)
theorem State.setFld_queue (s : State) (f : Fld) (v n : Nat) : (s.setFld f v).queue n = s.queue n := (rfl)
theorem State.wr_queue (s : State) (a v n : Nat) : (s.wr a v).queue n = s.queue n := (rfl)
theorem State.wr_enc (s : State) (a v n : Nat) : (s.wr a v).enc n = s.enc n := (rfl)

section
variable {r : Req} {u : State}

theorem cmdPktPortCfg_ok (h : passes (chkPktPortCfg r u) = true) : ∃ t, cmdPktPortCfg r u = (t, .ok []) ∧
    ((t.portSt (r.u8 16)).addrs).length = r.u8 17 ∧ t.fld (Reg.PKT_PORT_STAT_PFC_MASK (r.u8 16)) = r.u8 18 := by
  rw [cmdPktPortCfg, State.refuseOr_pass _ _ h]
  refine ⟨_, rfl, ?_, ?_⟩
  · rw [State.setFld_portSt, State.setPort_portSt_same]
    simp
  · rw [State.fld_setFld_same _ _ _ (by simp [Reg.PKT_PORT_STAT_PFC_MASK]) (by simp [Reg.PKT_PORT_STAT_PFC_MASK])]
    exact Nat.mod_eq_of_lt (r.u8_lt 18)

/-- PKT_FLOW_SET without ports takes the flow from the queue (R255). -/
theorem cmdPktFlowSet_off (h : passes (chkPktFlowSet r u) = true) (hp : (flowOf r).ports = 0) : ∃ t : State,
    cmdPktFlowSet r u = (t.settlePorts.joinGroups (r.u16 16) (flowOf r), .ok []) ∧ (t.queue (r.u16 16)).flow = none := by
  rw [cmdPktFlowSet, State.refuseOr_pass _ _ h]
  dsimp only
  rw [if_pos (by rw [hp]; rfl)]
  refine ⟨_, rfl, ?_⟩
  simp only [State.setFld_queue, State.setQueue_queue_same, hp]
  rfl

/-- With ports it gives the queue the flow and its watermarks. -/
theorem cmdPktFlowSet_on (h : passes (chkPktFlowSet r u) = true) (hp : (flowOf r).ports ≠ 0) : ∃ t : State,
    cmdPktFlowSet r u = (t.settlePorts.joinGroups (r.u16 16) (flowOf r), .ok []) ∧ (t.queue (r.u16 16)).flow = some (flowOf r) ∧
      t.rd (Reg.PKT_Q_WMARK (r.u16 16)) =
        (if r.u16 64 == 0 then 768 else r.u16 64) * 65536 + (if r.u16 66 == 0xFFFF then 512 else r.u16 66) := by
  have hon : ((flowOf r).ports != 0) = true := by simpa using hp
  rw [cmdPktFlowSet, State.refuseOr_pass _ _ h]
  dsimp only
  rw [if_neg (by simpa using hp), hon]
  refine ⟨_, rfl, ?_, ?_⟩
  · rw [State.wr_queue]
    simp only [State.setFld_queue, State.setQueue_queue_same, if_true]
  · rw [State.rd_wr_same]
    refine Nat.mod_eq_of_lt ?_
    have hhi := r.u16_lt 64
    have hlo := r.u16_lt 66
    split <;> split <;> omega

theorem cmdPktFlowKey_queue (h : passes (chkPktFlowKey r u) = true) (hk : r.u16 16 < 0x8000) :
    let q := u.queue (r.u16 16)
    let key : SrtpKey := { key := r.bytes 28 16, salt := r.bytes 44 12, start := r.u64 20 % 2 ^ 48 }
    cmdPktFlowKey r u = (u.setQueue (r.u16 16) { q with srtp := q.srtp.install (q.srtp.top.getD 0) key }, .ok []) := by
  rw [cmdPktFlowKey, State.refuseOr_pass _ _ h, if_neg (Nat.not_le.mpr hk), Nat.mod_eq_of_lt hk]

theorem cmdPktFlowKey_session (h : passes (chkPktFlowKey r u) = true) (hk : 0x8000 ≤ r.u16 16) :
    let n := r.u16 16 % 0x8000
    let key : SrtpKey := { key := r.bytes 28 16, salt := r.bytes 44 12, start := r.u64 20 % 2 ^ 48 }
    let index := u.rd (Reg.PKT_TX_ROC n) * 65536 + u.fld (Reg.PKT_TX_CTRL_SEQ n)
    let d := u.enc n
    let flow := d.flow.map fun (g : TxFlow) => { g with keys := g.keys.install index key }
    let early := if d.flow.isNone then d.txKeys.install index key else d.txKeys
    cmdPktFlowKey r u = (u.setEnc n { d with flow := flow, txKeys := early }, .ok []) := by
  rw [cmdPktFlowKey, State.refuseOr_pass _ _ h, if_pos hk]

theorem cmdPktTxFlowSet_ok (h : passes (chkPktTxFlowSet r u) = true) : ∃ t, cmdPktTxFlowSet r u = (t, .ok []) ∧
    t.rd (Reg.PKT_TX_ROC (r.u16 16)) = 0 ∧
    ((t.enc (r.u16 16)).flow.map fun f => (f.ssrc, f.dstPort, f.pt)) = some (r.u32 68, r.u16 66, r.u8 30) := by
  rw [cmdPktTxFlowSet, State.refuseOr_pass _ _ h]
  refine ⟨_, rfl, ?_, ?_⟩
  · rw [State.rd_wr_same, Nat.zero_mod]
  · rw [State.wr_enc, State.wr_enc, State.setEnc_enc_same]
    rfl

theorem cmdPktQueueRead_item {b : List Byte} {t : State} (h : passes (chkPktQueueRead r u) = true) (hm : r.u8 18 = 0)
    (hne : u.rd (Reg.PKT_Q_RD (r.u16 16)) ≠ u.rd (Reg.PKT_Q_WR (r.u16 16)))
    (hb : u.queueCopy (r.u16 16) (u.rd (Reg.PKT_Q_RD (r.u16 16))) (r.u16 22) = (b, t)) : cmdPktQueueRead r u = (t, .ok b) := by
  rw [cmdPktQueueRead, State.refuseOr_pass _ _ h, if_pos (by simp [hm, hne]), hb]

theorem cmdPktQueueRead_waits (h : passes (chkPktQueueRead r u) = true)
    (he : u.rd (Reg.PKT_Q_RD (r.u16 16)) = u.rd (Reg.PKT_Q_WR (r.u16 16))) :
    cmdPktQueueRead r u = (u.setQueue (r.u16 16) { u.queue (r.u16 16) with waits := (u.queue (r.u16 16)).waits ++
      [{ waiter := r.waiter, endTick := u.tick + r.u16 20 * ticksPerMs, most := r.u16 22 }] }, .wait) := by
  rw [cmdPktQueueRead, State.refuseOr_pass _ _ h, if_neg (by simp [he])]

end

/-- Settles O12: each PKT_ command that passes its checks has its effect. -/
theorem packetCommandsComplete : Obligations.PacketCommandsComplete := by
  intro s dt m u r k
  refine ⟨fun h hc => ?_, fun h hc hp => ?_, fun h hc hp => ?_, fun h hc hk => performs_of_ok rfl h (cmdPktFlowKey_queue hc hk),
    fun h hc hk => performs_of_ok rfl h (cmdPktFlowKey_session hc hk), fun h hc => ?_, ?_,
    fun h hc he => waits_of_wait rfl h (cmdPktQueueRead_waits hc he), fun h hc => performs_of_ok rfl h (State.refuseOr_pass _ _ hc)⟩
  · obtain ⟨t, ht, hfacts⟩ := cmdPktPortCfg_ok hc
    exact ⟨t, performs_of_ok rfl h ht, hfacts⟩
  · obtain ⟨t, ht, hfacts⟩ := cmdPktFlowSet_off hc hp
    exact ⟨t, performs_of_ok rfl h ht, hfacts⟩
  · obtain ⟨t, ht, hfacts⟩ := cmdPktFlowSet_on hc hp
    exact ⟨t, performs_of_ok rfl h ht, hfacts⟩
  · obtain ⟨t, ht, hfacts⟩ := cmdPktTxFlowSet_ok hc
    exact ⟨t, performs_of_ok rfl h ht, hfacts⟩
  · intro h hc hm hne
    split
    next b t hb => exact performs_of_ok rfl h (cmdPktQueueRead_item hc hm hne hb)

end Sys2Proof.Machine
end

-- Decode and encode sessions (spec/07_decode_pool.md, spec/08_encode_pool.md): O8, O9.
section
/-! PROOF. What the events of decode and encode sessions do where their conditions hold. -/
namespace Sys2Proof.Machine

open Sys2Proof

/-! ### Decode sessions (R207 to R229) -/

section
variable {u : State} {n : Nat}

section
variable {row : DecRow} (ho : u.isSet (Reg.DEC_SES_CTRL_OPEN n) = true) (hs : u.decState n ≠ dsResetting) (hp : (u.dec n).parked = false)
  (hk : (u.dec n).stuck = false) (he : u.isSet (Reg.DEC_PIPE_STAT_EN (u.fld (Reg.DEC_SES_CTRL_PIPE n))) = true)
  (h0 : u.queueTakes 0x08 (2 * u.fld (Reg.DEC_SES_CTRL_PIPE n)) = true)
  (h1 : u.queueTakes 0x08 (2 * u.fld (Reg.DEC_SES_CTRL_PIPE n) + 1) = true) (ht : u.decTurn n = true)
include ho hs hp hk he h0 h1 ht

/-- A row of the picture that is being decoded, in the session's turn. -/
theorem State.decRow_continues (hc : (u.dec n).cur.isSome = true) (hh : row.head = none) : u.decRow n row = u.serveRow n row := by
  obtain ⟨c, hc⟩ := Option.isSome_iff_exists.mp hc
  rw [State.decRow, if_neg (by simp [ho, hs, hp, hk, he, h0, h1, ht]), hc, hh]

/-- The first row of a picture that nothing makes the session skip. -/
theorem State.decRow_begins {h : DecHead} (hc : (u.dec n).cur = none) (hh : row.head = some h) (hd : u.decState n ≠ dsDraining)
    (hq : (u.dec n).pipeDrain = false) (hw : u.decState n = dsWaitParams → rowParams row = true)
    (ha : (u.dec n).wantWhole = true → h.whole = true) (hl : h.later = true ∨ u.skipsPictures n = false) :
    u.decRow n row = (u.beginPicture n h).serveRow n row := by
  rw [State.decRow, if_neg (by simp [ho, hs, hp, hk, he, h0, h1, ht]), hc, hh]
  simp only [Option.isSome_none, Bool.false_eq_true, if_false]
  rw [if_neg (by simp [hd, hq]), if_neg (by simpa using hw), if_neg (by simpa using ha),
    if_neg (by rcases hl with hl | hl <;> simp [hl])]

end

theorem State.outputPicture_made {i : Nat} {p : DecPic} (hk : (u.dec n).parked = false) (hp : (u.dec n).out[i]? = some p) :
    u.outputPicture n i = (u.setDec n { u.dec n with out := (u.dec n).out.eraseIdx i }).completePicture n p := by
  rw [State.outputPicture, hp]
  exact if_neg (by rw [hk]; exact Bool.false_ne_true)

theorem State.pictureTimeout_due (hc : (u.dec n).cur.isSome = true) (ht : (u.dec n).lastPacket + ceilDiv (10 ^ 12) (u.dec n).rateMhz ≤ u.tick) :
    u.pictureTimeout n = u.concealRest n deDataLost false := by
  rw [State.pictureTimeout, if_pos (by rw [hc, decide_eq_true ht]; rfl)]

theorem State.raise_dec (s : State) (f : Fld) (n : Nat) : (s.raise f).dec n = s.dec n := (rfl)
theorem State.bump_dec (s : State) (a k n : Nat) : (s.bump a k).dec n = s.dec n := (rfl)

/-- The end of a rate window begins the next one with no pixel counted. -/
theorem State.rateWindow_dec (ho : u.isSet (Reg.DEC_SES_CTRL_OPEN n) = true) (ht : (u.dec n).winAt + 10 * ticksPerMs ≤ u.tick) :
    (u.rateWindow n).dec n = { u.dec n with winPix := 0, winAt := (u.dec n).winAt + 10 * ticksPerMs } := by
  rw [State.rateWindow, if_neg (by simpa [ho] using ht)]
  split
  · rw [State.raise_dec, State.bump_dec, State.setDec_dec_same]
  · rw [State.setDec_dec_same]

theorem State.decDrained_resetting (hs : u.decState n = dsResetting) : u.decDrained n = u.finishDecClose n := by
  rw [State.decDrained, if_pos (by rw [hs]; rfl)]

section
variable (hs : u.decState n ≠ dsResetting) (hd : (u.dec n).drainAt.isSome = true) (hc : (u.dec n).cur = none) (hk : (u.dec n).stuck = false)
include hs hd hc hk

theorem State.decDrained_closing (hp : (u.dec n).pipeDrain = false) : u.decDrained n = (u.flushOut n).finishDecClose n := by
  have hsome := Option.isSome_iff_ne_none.mp hd
  rw [State.decDrained, if_neg (by simpa using hs), if_neg (by simpa [hc, hk] using hsome), if_neg (by rw [hp]; exact Bool.false_ne_true)]

theorem State.decDrained_moving (hp : (u.dec n).pipeDrain = true) :
    u.decDrained n = ((u.setDec n { u.dec n with pipeDrain := false, drainAt := none }).atBoundary n).pipeMoved (u.fld (Reg.DEC_SES_CTRL_PIPE n)) := by
  have hsome := Option.isSome_iff_ne_none.mp hd
  rw [State.decDrained, if_neg (by simpa using hs), if_neg (by simpa [hc, hk] using hsome), if_pos hp]

end

section
variable {t : Nat} (hd : (u.dec n).drainAt = some t) (ht : t ≤ u.tick)
include hd ht

theorem State.decDrainTimeout_closing (hp : (u.dec n).pipeDrain = false) :
    u.decDrainTimeout n = ((u.setDecState n dsResetting).resetDec n).logFault 0x19 1 (0x100 + n) (u.dec n).stuck := by
  rw [State.decDrainTimeout, hd]
  dsimp only
  rw [if_neg (Nat.not_lt.mpr ht), hp, if_neg Bool.false_ne_true, if_neg Bool.false_ne_true]

theorem State.decDrainTimeout_moving (hp : (u.dec n).pipeDrain = true) :
    let v := (u.resetDec n).logFault 0x19 1 (0x100 + n) (u.dec n).stuck
    u.decDrainTimeout n = ((v.setDec n { v.dec n with pipeDrain := false }).atBoundary n).pipeMoved (u.fld (Reg.DEC_SES_CTRL_PIPE n)) := by
  rw [State.decDrainTimeout, hd]
  dsimp only
  rw [if_neg (Nat.not_lt.mpr ht), hp, if_pos rfl, if_pos rfl]

end
end

/-- Settles O8: each event of a decode session has the effect of its rule. -/
theorem decodeEventsComplete : Obligations.DecodeEventsComplete := by
  intro s dt k u d
  refine ⟨?_, fun i p hk hp => congrArg Host.Outcome.next (State.outputPicture_made hk hp),
    fun hc ht => congrArg Host.Outcome.next (State.pictureTimeout_due hc ht), fun ho ht => ⟨_, rfl, ?_, ?_⟩,
    fun hs hd hc hk hp => congrArg Host.Outcome.next (State.decDrained_closing hs hd hc hk hp),
    fun hs hd hc hk hp => congrArg Host.Outcome.next (State.decDrained_moving hs hd hc hk hp),
    fun hs => congrArg Host.Outcome.next (State.decDrained_resetting hs),
    fun t hd ht hp => congrArg Host.Outcome.next (State.decDrainTimeout_closing hd ht hp), ?_⟩
  · intro row p ho hs hp hk he h0 h1 ht
    exact ⟨fun hc hh => congrArg Host.Outcome.next (State.decRow_continues ho hs hp hk he h0 h1 ht hc hh),
      fun h hc hh hd hq hw ha hl => congrArg Host.Outcome.next (State.decRow_begins ho hs hp hk he h0 h1 ht hc hh hd hq hw ha hl)⟩
  · exact congrArg DecSes.winPix (State.rateWindow_dec ho ht)
  · exact congrArg DecSes.winAt (State.rateWindow_dec ho ht)
  · intro t hd ht hp v
    exact congrArg Host.Outcome.next (State.decDrainTimeout_moving hd ht hp)

/-! ### Encode sessions (R230 to R242) -/

section
variable {u : State} {n : Nat}

section
variable {op : EncCode} (ho : u.isSet (Reg.ENC_SES_CTRL_OPEN n) = true) (hp : (u.enc n).parked = false) (hk : (u.enc n).stuck = false)
  (he : u.isSet (Reg.ENC_PIPE_STAT_EN (u.fld (Reg.ENC_SES_CTRL_PIPE n))) = true)
  (h0 : u.queueTakes 0x09 (2 * u.fld (Reg.ENC_SES_CTRL_PIPE n)) = true)
  (h1 : u.queueTakes 0x09 (2 * u.fld (Reg.ENC_SES_CTRL_PIPE n) + 1) = true) (hs : u.encState n ≠ esResetting)
include ho hp hk he h0 h1 hs

theorem State.encRow_continues {c : EncCur} {t : State} (hc : (u.enc n).cur = some c) (hr : u.rowReady n c.src c.row = true)
    (ht : u.serveEnc n c.src c.row op = some t) : u.encRow n op = t := by
  rw [State.encRow, if_neg (by simp [ho, hs, hp, hk, he, h0, h1]), hc]
  dsimp only
  rw [if_pos hr, ht, Option.getD_some]

theorem State.encRow_begins {x : EncSrc} {t : State} (hc : (u.enc n).cur = none) (hx : (u.enc n).sources.head? = some x)
    (hd : (u.enc n).pipeDrain = false) (hr : u.rowReady n x 0 = true) (ht : (u.beginCode n x op).serveEnc n x 0 op = some t) :
    u.encRow n op = t := by
  rw [State.encRow, if_neg (by simp [ho, hs, hp, hk, he, h0, h1]), hc, hx]
  dsimp only
  rw [if_neg (by rw [hd, hr]; exact Bool.false_ne_true), ht, Option.getD_some]

end

/-- A row whose result the pipe accepts is coded, with the poison met by its reads. -/
theorem State.serveEnc_obeyed {x : EncSrc} {r : Nat} {op : EncCode} {run : WriteRun} {src ref : Bool} {t : State}
    (hr : u.rowReads n x r = (run, src, ref, t)) :
    let a := t.encAfter n run
    let bad := op.poisonRef || ref
    let v := if bad then a.setEnc n { a.enc n with cur := (a.enc n).cur.map fun (c : EncCur) => { c with intra := true } } else a
    v.rowObeys n op = true →
    u.serveEnc n x r op = some (v.codeRow n { op with poisonSrc := op.poisonSrc || src, poisonRef := bad }) := by
  intro a bad v hv
  rw [State.serveEnc, hr]
  exact if_pos hv

theorem State.encDone_handed {t : Nat} (h : (u.enc n).handed = some t) :
    u.encDone n = (u.setEnc n { u.enc n with handed := none }).sendConfirm
      { cell := u.fld (Reg.ENC_SES_CELL_CELL n), action := 0, timeKind := 0, time := t } := by
  rw [State.encDone, h]

theorem State.encCons_taken {v : Nat} (h : wrapSub 32 v (u.rd (Reg.ENC_SES_RING_CONS n)) ≤
    wrapSub 32 (u.rd (Reg.ENC_SES_RING_PROD n)) (u.rd (Reg.ENC_SES_RING_CONS n))) :
    u.encCons n v = (u.wr (Reg.ENC_SES_RING_CONS n) v).abortFlush n := by
  rw [State.encCons, if_pos h]

theorem State.encDrained_resetting (hs : u.encState n = esResetting) : u.encDrained n = u.finishEncClose n := by
  rw [State.encDrained, if_pos (by rw [hs]; rfl)]

section
variable (hs : u.encState n ≠ esResetting) (hd : (u.enc n).drainAt.isSome = true) (hc : (u.enc n).cur = none) (hk : (u.enc n).stuck = false)
include hs hd hc hk

theorem State.encDrained_closing (hp : (u.enc n).pipeDrain = false) : u.encDrained n = (u.encDone n).finishEncClose n := by
  have hsome := Option.isSome_iff_ne_none.mp hd
  rw [State.encDrained, if_neg (by simpa using hs), if_neg (by simpa [hc, hk] using hsome), if_neg (by rw [hp]; exact Bool.false_ne_true)]

theorem State.encDrained_moving (hp : (u.enc n).pipeDrain = true) :
    u.encDrained n =
      ((u.setEnc n { u.enc n with pipeDrain := false, drainAt := none }).encBoundary n).encPipeMoved (u.fld (Reg.ENC_SES_CTRL_PIPE n)) := by
  have hsome := Option.isSome_iff_ne_none.mp hd
  rw [State.encDrained, if_neg (by simpa using hs), if_neg (by simpa [hc, hk] using hsome), if_pos hp]

end

theorem State.logFault_encs (s : State) (det cls inst detail : Nat) (inj : Bool) : (s.logFault det cls inst inj detail).encs = s.encs :=
  (congrArg State.encs (logFault_reports s det cls inst detail inj).quiet :)

/-- A session whose drain for closing took too long was reset. -/
theorem State.encDrainTimeout_enc {t : Nat} (hd : (u.enc n).drainAt = some t) (ht : t ≤ u.tick) (hp : (u.enc n).pipeDrain = false) :
    ((u.encDrainTimeout n).enc n).drainAt = none ∧ ((u.encDrainTimeout n).enc n).stuck = false ∧
      ((u.encDrainTimeout n).enc n).wasReset = true := by
  obtain ⟨v, hv⟩ : ∃ v, v = u.encDrainTimeout n := ⟨_, rfl⟩
  rw [← hv]
  rw [State.encDrainTimeout, hd] at hv
  dsimp -zeta only at hv
  rw [if_neg (Nat.not_lt.mpr ht)] at hv
  extract_lets p s1 s0 s2 e s3 at hv
  rw [hp, if_neg Bool.false_ne_true] at hv
  have henc : v.enc n = { s2.enc n with wasReset := true, drainAt := none, stuck := false, pipeDrain := false, refresh := true } := by
    rw [hv, State.enc, State.logFault_encs]
    exact State.setEnc_enc_same _ _ _
  rw [henc]
  exact ⟨rfl, rfl, rfl⟩

end

/-- Settles O9: each event of an encode session has the effect of its rule. -/
theorem encodeEventsComplete : Obligations.EncodeEventsComplete := by
  intro s dt k u d
  refine ⟨?_, fun t h => congrArg Host.Outcome.next (State.encDone_handed h), fun v h => congrArg Host.Outcome.next (State.encCons_taken h),
    fun hs hd hc hk hp => congrArg Host.Outcome.next (State.encDrained_closing hs hd hc hk hp),
    fun hs hd hc hk hp => congrArg Host.Outcome.next (State.encDrained_moving hs hd hc hk hp),
    fun hs => congrArg Host.Outcome.next (State.encDrained_resetting hs),
    fun t hd ht hp => ⟨_, rfl, State.encDrainTimeout_enc hd ht hp⟩⟩
  intro op p ho hp hk he h0 h1 hs
  refine ⟨fun c hc hr => ?_, fun x hc hx hd hr t ht => congrArg Host.Outcome.next (State.encRow_begins ho hp hk he h0 h1 hs hc hx hd hr ht)⟩
  split
  next run src ref t hreads =>
  extract_lets a bad v
  intro hobeys
  exact congrArg Host.Outcome.next (State.encRow_continues ho hp hk he h0 h1 hs hc hr (State.serveEnc_obeyed hreads hobeys))

end Sys2Proof.Machine
end

-- The DEC_ and ENC_ commands (spec/07_decode_pool.md, spec/08_encode_pool.md, spec/14_command_set.md): O10.
section
/-! PROOF. The commands of decode and encode sessions and of their pipes. -/
namespace Sys2Proof.Machine

open Sys2Proof

theorem passes_iff (l : List (Bool × Nat × Nat)) : passes l = true ↔ firstBad l = none := Option.isNone_iff_eq_none

theorem passes_append (l l' : List (Bool × Nat × Nat)) : passes (l ++ l') = (passes l && passes l') := by
  induction l with
  | nil => rfl
  | cons x l ih =>
    obtain ⟨b, st, d⟩ := x
    rw [List.cons_append, passes_cons, passes_cons, ih, Bool.and_assoc]

/-- A further check that passes leaves no check failing. -/
theorem firstBad_none_of_passes {l : List (Bool × Nat × Nat)} {x : Bool × Nat × Nat} (st d : Nat) {b : Bool} (h : passes (l ++ [x]) = true)
    (hb : b = false) : firstBad (l ++ [x, (b, st, d)]) = none := by
  have h2 : passes (l ++ [x] ++ [(b, st, d)]) = true := by rw [passes_append, h, hb]; rfl
  rw [List.append_assoc] at h2
  exact (passes_iff _).mp h2

section
variable {r : Req} {u : State}

/-! ### Decode (R206 to R229) -/

/-- A session opens in the first free entry, with its cells, its memory and a pipe that can take it. -/
theorem cmdDecSessionOpen_ok (h : passes (decOpenChecks r ++ [(overQuota r.part (u.decsOf r.part) 1 (u.partOf r.part).decQuota 0xFF, stNoSpace,
      noField)]) = true) (hr : u.rung 5 = false) {n cell row p : Nat} {mem : List Nat} {v w : State}
    (hn : (List.range 128).find? (fun n => !u.isSet (Reg.DEC_SES_CTRL_OPEN n)) = some n) :
    let rows := if bitAt (r.u8 17) 0 then ceilDiv (r.u16 22) rowCellLines else 0
    let slots := r.u8 19 + r.u8 18 + 2
    let picLog := log2Up 12 (slots * decSlotBytes (r.u8 16) (r.u16 20) (r.u16 22))
    let metaLog := log2Up 12 (slots * 8192)
    u.decCells r rows = some (cell, row, v) → v.takeMemory [picLog, metaLog, r.u8 39] = some (mem, w) →
    findPipe decPix decKbps u.decPipesUp u.decTable (newDecSlotted r) = some p →
    cmdDecSessionOpen r u = (w.openDec r n p cell row rows mem picLog metaLog,
      .ok (pack [(2, n), (1, p), (1, 0), (4, cell), (4, row), (2, rows), (2, 0)])) := by
  intro rows slots picLog metaLog hcells hmem hpipe
  have hfirst := firstBad_none_of_passes stNoSpace noField (b := (some n).isNone) h rfl
  unfold cmdDecSessionOpen
  dsimp only
  rw [hn, hfirst]
  dsimp only
  rw [hcells]
  dsimp only
  rw [hmem, hpipe]
  dsimp only
  rw [if_neg (by rw [hr]; exact Bool.false_ne_true)]

theorem cmdDecSessionQuery_ok (h : passes (chkDecSessionQuery r u) = true) :
    ∃ b, cmdDecSessionQuery r u = (u, .ok (u.regImage State.view (Reg.DEC_SES_CTRL (r.u16 16)) 12 ++ b)) := by
  rw [cmdDecSessionQuery, State.refuseOr_pass _ _ h]
  exact ⟨_, rfl⟩

theorem cmdDecPipeCtrl_on (h : passes (chkDecPipeCtrl r u) = true) (h1 : r.u8 17 = 1) (he : u.isSet (Reg.DEC_PIPE_STAT_EN (r.u8 16)) = false) :
    cmdDecPipeCtrl r u = (((u.setFld (Reg.DEC_PIPE_STAT_EN (r.u8 16)) 1).decFigures).resumeDecs, .ok []) := by
  rw [cmdDecPipeCtrl, State.refuseOr_pass _ _ h, if_pos (by rw [h1]; rfl), if_neg (by rw [he]; exact Bool.false_ne_true)]

theorem cmdDecPipeCtrl_drains (h : passes (chkDecPipeCtrl r u) = true) (h1 : r.u8 17 ≠ 1) (he : u.isSet (Reg.DEC_PIPE_STAT_EN (r.u8 16)) = true)
    (hd : (u.drainDecPipe (r.u8 16) (drainMs (r.u16 18)) r.waiter).pipeDraining (r.u8 16) = true) :
    cmdDecPipeCtrl r u = (u.drainDecPipe (r.u8 16) (drainMs (r.u16 18)) r.waiter, .wait) := by
  rw [cmdDecPipeCtrl, State.refuseOr_pass _ _ h, if_neg (by simpa using h1), if_neg (by rw [he]; exact Bool.false_ne_true)]
  exact if_pos hd

/-! ### Encode (R230 to R241) -/

/-- A session opens in the first free entry, with its cell, its memory and a pipe that can take it. -/
theorem cmdEncSessionOpen_ok (h : passes (u.encOpenChecks r ++ [(overQuota r.part (u.encsOf r.part) 1 (u.partOf r.part).encQuota 0xFF, stNoSpace,
      noField)]) = true) (hr : u.rung 5 = false) {n cell p x y src rcn : Nat} {mem : List Nat} {v : State} (hsize : encSize r = (x, y))
    (hbytes : encMemory (r.u8 17) (ofBool (bitAt (r.u8 18) 0)) x y = (src, rcn))
    (hfloor : encFloor (u.mode (r.u8 16)) (encUnit (r.u8 17)) x y (r.u32 32) (r.u8 28) = true)
    (hn : (List.range 32).find? (fun n => !u.isSet (Reg.ENC_SES_CTRL_OPEN n)) = some n) (hcell : u.placeCells false 1 = some cell)
    (hmem : (u.allocCells cell 1 5 0 (r.u32 40) (ofBool (bitAt (r.u8 18) 3)) (bitAt (r.u8 18) 4) (r.u8 44)).takeMemory
      ([log2Up 12 src, log2Up 12 rcn] ++ if bitAt (r.u8 18) 1 then [] else [20]) = some (mem, v))
    (hpipe : let a := encAllot (u.mode (r.u8 16)) x y (max 1 (r.u8 28))
      findPipe encPix encKbps u.encPipesUp u.encTable { id := 32, num := a.1, den := a.2, kbps := r.u32 32 } = some p) :
    cmdEncSessionOpen r u = (v.openEnc r n p cell mem (log2Up 12 src) (log2Up 12 rcn), .ok (pack [(2, n), (1, p), (1, 0), (4, cell)])) := by
  have hfirst := firstBad_none_of_passes stNoSpace noField (b := (some n).isNone) h rfl
  unfold cmdEncSessionOpen
  dsimp only
  rw [hsize]
  dsimp only
  rw [hbytes, hn, hcell]
  dsimp only
  rw [hfirst]
  dsimp only
  rw [hmem, hpipe]
  dsimp only
  rw [if_neg (by rw [hr, hfloor]; exact Bool.false_ne_true)]

/-- ENC_SESSION_SET without a new rate keeps the limits it does not name. -/
theorem cmdEncSessionSet_sameRate (h : passes (chkEncSessionSet r u) = true) (hw : bitAt (r.u8 18) 0 = false) :
    ∃ t k0 a0 b0 c0 q0, cmdEncSessionSet r u = (t, .ok []) ∧ (t.enc (r.u16 16)).set = some (0, k0, a0, b0, c0, q0) ∧
      (bitAt (r.u8 18) 1 = true → a0 = r.u8 24 ∧ b0 = r.u8 25 ∧ c0 = r.u8 26) ∧ (bitAt (r.u8 18) 2 = true → q0 = r.u8 27) := by
  rw [cmdEncSessionSet]
  generalize (match (u.enc (r.u16 16)).set with
    | some (_, k, a, b, c, q) => (k, a, b, c, q)
    | none => ((u.enc (r.u16 16)).kbps, (u.enc (r.u16 16)).qpMin, (u.enc (r.u16 16)).qpMax, (u.enc (r.u16 16)).qpInit, (u.enc (r.u16 16)).dqp)) =
    old
  obtain ⟨k, a, b, c, q⟩ := old
  dsimp only
  rw [State.refuseOr_pass _ _ h]
  simp only [hw, Bool.false_and, Bool.false_eq_true, if_false]
  refine ⟨_, _, _, _, _, _, rfl, congrArg EncSes.set (State.setEnc_enc_same _ _ _), fun h1 => ?_, fun h2 => if_pos h2⟩
  exact ⟨if_pos h1, if_pos h1, if_pos h1⟩

theorem cmdEncPipeCtrl_on (h : passes (chkEncPipeCtrl r u) = true) (h1 : r.u8 17 = 1) (he : u.isSet (Reg.ENC_PIPE_STAT_EN (r.u8 16)) = false) :
    cmdEncPipeCtrl r u = (((u.setFld (Reg.ENC_PIPE_STAT_EN (r.u8 16)) 1).encFigures).resumeEncs, .ok []) := by
  rw [cmdEncPipeCtrl, State.refuseOr_pass _ _ h, if_pos (by rw [h1]; rfl), if_neg (by rw [he]; exact Bool.false_ne_true)]

theorem cmdEncPipeCtrl_drains (h : passes (chkEncPipeCtrl r u) = true) (h1 : r.u8 17 ≠ 1) (he : u.isSet (Reg.ENC_PIPE_STAT_EN (r.u8 16)) = true)
    (hd : (u.drainEncPipe (r.u8 16) (drainMs (r.u16 18)) r.waiter).encPipeDraining (r.u8 16) = true) :
    cmdEncPipeCtrl r u = (u.drainEncPipe (r.u8 16) (drainMs (r.u16 18)) r.waiter, .wait) := by
  rw [cmdEncPipeCtrl, State.refuseOr_pass _ _ h, if_neg (by simpa using h1), if_neg (by rw [he]; exact Bool.false_ne_true)]
  exact if_pos hd

end

/-- Settles O10: each command that passes its checks has its effect or waits for its drain. -/
theorem poolCommandsComplete : Obligations.PoolCommandsComplete := by
  intro s dt m u r k
  refine ⟨?_, fun h hc => waits_of_wait rfl h (State.refuseOr_pass _ _ hc), fun h hc => performs_of_ok rfl h (State.refuseOr_pass _ _ hc),
    fun h hc => performs_of_ok rfl h (State.refuseOr_pass _ _ hc), fun h hc => ?_,
    fun h hc h1 he => performs_of_ok rfl h (cmdDecPipeCtrl_on hc h1 he), fun h hc h1 he hd => waits_of_wait rfl h (cmdDecPipeCtrl_drains hc h1 he hd),
    ?_, fun h hc => waits_of_wait rfl h (State.refuseOr_pass _ _ hc), fun h hc hw => ?_,
    fun h hc => performs_of_ok rfl h (State.refuseOr_pass _ _ hc), fun h hc => performs_of_ok rfl h (State.refuseOr_pass _ _ hc),
    fun h hc h1 he => performs_of_ok rfl h (cmdEncPipeCtrl_on hc h1 he), fun h hc h1 he hd => waits_of_wait rfl h (cmdEncPipeCtrl_drains hc h1 he hd)⟩
  · intro h hc hr rows slots picLog metaLog n cell row v mem w p hn hcells hmem hpipe
    exact performs_of_ok rfl h (cmdDecSessionOpen_ok hc hr hn hcells hmem hpipe)
  · obtain ⟨b, hb⟩ := cmdDecSessionQuery_ok hc
    exact ⟨b, performs_of_ok rfl h hb⟩
  · intro h hc hr
    split
    next x y hsize =>
    extract_lets mode a
    split
    next src rcn hbytes =>
    intro hfloor n cell mem v p hn hcell hmem hpipe
    exact performs_of_ok rfl h (cmdEncSessionOpen_ok hc hr hsize hbytes hfloor hn hcell hmem hpipe)
  · obtain ⟨t, k0, a0, b0, c0, q0, ht, hfacts⟩ := cmdEncSessionSet_sameRate hc hw
    exact ⟨t, k0, a0, b0, c0, q0, performs_of_ok rfl h ht, hfacts⟩

end Sys2Proof.Machine
end

-- The dual-clock queues (spec/01_architecture.md): O2.
section
/-! PROOF. A queue of a crossing: its pointer copies, its reset, its resume and its class. -/
namespace Sys2Proof.Machine

open Sys2Proof

@[simp] theorem DcqSt.hold_at (x : DcqSt) (c : PointerCopies) : (x.hold c).at_ = x.at_ := by
  rw [DcqSt.hold]; split <;> rfl

@[simp] theorem DcqSt.hold_lasting (x : DcqSt) (c : PointerCopies) : (x.hold c).lasting = x.lasting := by
  rw [DcqSt.hold]; split <;> rfl

/-- Copies that disagree reset a queue whose reset is not classed yet. -/
theorem State.queueMismatch_resets {u : State} {kind i : Nat} {c : PointerCopies} (hi : i < queueCount kind)
    (hd : ((u.dcq (kind * 256 + i)).hold c).differs c.bits = true) (hj : (u.injTake 0x03 (kind * 256 + i)).1 = none)
    (ha : (u.dcq (kind * 256 + i)).at_ = 0) (hl : (u.dcq (kind * 256 + i)).lasting = false) :
    u.queueMismatch kind i c = (u.queueReset kind i c.lost).setDcq (kind * 256 + i) { at_ := u.tick + 1 } := by
  rw [State.queueMismatch, if_neg (Nat.not_le.mpr hi)]
  dsimp only
  rw [State.injTake_none _ hj rfl rfl]
  dsimp only
  rw [DcqSt.hold_at, DcqSt.hold_lasting, if_neg (by rw [hl]; exact Bool.false_ne_true), if_neg (by rw [hd]; exact Bool.false_ne_true),
    if_neg (by rw [ha]; exact Bool.false_ne_true), if_neg (by rw [ha]; exact Bool.false_ne_true)]
  rfl

/-- Copies that agree are held. -/
theorem State.queueMismatch_holds {u : State} {kind i : Nat} {c : PointerCopies} (hi : i < queueCount kind)
    (hd : ((u.dcq (kind * 256 + i)).hold c).differs c.bits = false) (hj : (u.injTake 0x03 (kind * 256 + i)).1 = none)
    (hl : (u.dcq (kind * 256 + i)).lasting = false) :
    u.queueMismatch kind i c = u.setDcq (kind * 256 + i) ((u.dcq (kind * 256 + i)).hold c) := by
  rw [State.queueMismatch, if_neg (Nat.not_le.mpr hi)]
  dsimp only
  rw [State.injTake_none _ hj rfl rfl]
  dsimp only
  rw [DcqSt.hold_lasting, if_neg (by rw [hl]; exact Bool.false_ne_true), if_pos (by rw [hd]; rfl)]

/-- A queue in reset resumes. -/
theorem State.queueResume_dcq {u : State} {q : Nat} (ha : (u.dcq q).at_ ≠ 0) (hl : (u.dcq q).lasting = false) :
    (u.queueResume q).dcq q = { u.dcq q with resumed := true } := by
  rw [State.queueResume]
  dsimp only
  rw [if_neg (by simp [ha, hl])]
  split
  · exact State.setDcq_dcq_same _ _ _
  · exact State.setDcq_dcq_same _ _ _

/-- After 1,024 entries the reset of a queue that resumed is classed. -/
theorem exec_queueFaultClass_entries {dt entries : Nat} {kind : Fin 16} {index : Fin 64} {s : State} {x : DcqSt}
    (hx : (s.pass dt).dcq (kind.val * 256 + index.val) = x) (ha : x.at_ ≠ 0) (hl : x.lasting = false) (hr : x.resumed = true)
    (he : 1024 ≤ entries) : exec (.queueFaultClass dt kind index entries) s = .next ((s.pass dt).queueClass kind.val index.val) := by
  change execQueueFaultClass dt kind index entries s = _
  rw [execQueueFaultClass]
  rw [hx, if_pos (by simp [ha, hl, hr, he])]

/-- Settles O2: a queue is reset, held, resumed and classed by its two pointer copies and its state. -/
theorem queueFaultsComplete : Obligations.QueueFaultsComplete := by
  intro s dt kind index u q
  exact ⟨fun c hi hd hj ha hl => congrArg Host.Outcome.next (State.queueMismatch_resets hi hd hj ha hl),
    fun c hi hd hj hl => congrArg Host.Outcome.next (State.queueMismatch_holds hi hd hj hl),
    fun x hx ha hl => ⟨u.queueResume q, rfl, by subst hx; exact State.queueResume_dcq ha hl⟩,
    fun entries ha hl hr he => exec_queueFaultClass_entries rfl ha hl hr he⟩

end Sys2Proof.Machine
end

-- The LDG_ commands (spec/02_ring_ledger.md, spec/14_command_set.md): O4.
section
/-! PROOF. The ledger commands of the command set. -/
namespace Sys2Proof.Machine

open Sys2Proof

theorem cmdLdgCellAlloc_places {r : Req} {u : State} {n : Nat} (hc : passes (chkLdgCellAlloc r u) = true)
    (hn : u.placeCells true (r.u32 16) = some n) :
    let t := u.allocCells n (r.u32 16) 1 r.part (r.u32 20) (r.u8 24) (r.u8 25 == 1) (r.u8 26)
    cmdLdgCellAlloc r u = (t, .ok
      (pack [(4, n), (4, r.u32 16)] ++ (List.range (r.u32 16)).flatMap fun i => leBytes 1 (t.cell (n + i)).gen)) := by
  intro t
  rw [cmdLdgCellAlloc, State.refuseOr_pass _ _ hc]
  dsimp only
  rw [hn]

theorem cmdLdgCellQuery_images {r : Req} {u t : State} {b : List Byte} (hc : passes (chkLdgCellQuery r u) = true)
    (hb : u.cellImages (r.u32 16) (r.u32 20) = (b, t)) : cmdLdgCellQuery r u = (t, .ok (leBytes 8 u.now40 ++ b)) := by
  rw [cmdLdgCellQuery, State.refuseOr_pass _ _ hc]
  dsimp only
  rw [hb]

/-- The first ring that is not open is opened, with its indices at 0. -/
theorem cmdLdgRingOpen_free {r : Req} {u : State} {n : Nat} (hc : passes (chkLdgRingOpen r u) = true)
    (hn : (List.range 64).find? (fun n => !u.isSet (Reg.LDG_CRING_CFG_OPEN n)) = some n) :
    ∃ v : State, cmdLdgRingOpen r u = ((v.wr (Reg.LDG_CRING_PROD n) 0).wr (Reg.LDG_CRING_CONS n) 0, .ok (leBytes 4 n)) := by
  rw [cmdLdgRingOpen, State.refuseOr_pass _ _ hc]
  dsimp only
  rw [hn]
  exact ⟨_, rfl⟩

theorem State.ringIndices_zero (v : State) (n : Nat) :
    ((v.wr (Reg.LDG_CRING_PROD n) 0).wr (Reg.LDG_CRING_CONS n) 0).rd (Reg.LDG_CRING_PROD n) = 0 ∧
      ((v.wr (Reg.LDG_CRING_PROD n) 0).wr (Reg.LDG_CRING_CONS n) 0).rd (Reg.LDG_CRING_CONS n) = 0 := by
  have hne : Reg.LDG_CRING_CONS n ≠ Reg.LDG_CRING_PROD n := by
    simp only [Reg.LDG_CRING_CONS, Reg.LDG_CRING_PROD]
    omega
  rw [State.rd_wr_other _ _ hne, State.rd_wr_same, State.rd_wr_same]
  exact ⟨rfl, rfl⟩

/-- A ring whose records are all consumed closes at once. -/
theorem cmdLdgRingClose_empty {r : Req} {u : State} (hc : passes (chkLdgRingClose r u) = true)
    (hp : u.rd (Reg.LDG_CRING_CONS (r.u32 16)) = u.rd (Reg.LDG_CRING_PROD (r.u32 16))) :
    cmdLdgRingClose r u = (u.setFld (Reg.LDG_CRING_CFG_OPEN (r.u32 16)) 0, .ok []) := by
  rw [cmdLdgRingClose, State.refuseOr_pass _ _ hc]
  exact if_pos (beq_iff_eq.mpr hp)

/-- A ring that holds records is closing. -/
theorem cmdLdgRingClose_records {r : Req} {u : State} (hc : passes (chkLdgRingClose r u) = true)
    (hp : u.rd (Reg.LDG_CRING_CONS (r.u32 16)) ≠ u.rd (Reg.LDG_CRING_PROD (r.u32 16))) :
    let x : RingClose := { prod := u.rd (Reg.LDG_CRING_PROD (r.u32 16)), waiter := some r.waiter }
    cmdLdgRingClose r u = ({ u with ldg := { u.ldg with closing := sparseIns u.ldg.closing (r.u32 16) x } }, .wait) := by
  rw [cmdLdgRingClose, State.refuseOr_pass _ _ hc]
  exact if_neg fun h => hp (beq_iff_eq.mp h)

theorem State.setNotify_notifyOf_same (s : State) (p : Nat) (x : NotifySt) : (s.setNotify p x).notifyOf p = x := sparseGet_put_same _ _ _ _

/-- Settles O4: each command taken up by its opcode with no check failing has the effect of R76. -/
theorem ledgerCommandsComplete : Obligations.LedgerCommandsComplete := by
  intro s dt m u r first count
  refine ⟨fun h hc n hn => performs_of_ok rfl h (cmdLdgCellAlloc_places hc hn),
    fun h hc => performs_of_ok rfl h (State.refuseOr_pass _ _ hc), fun h hc => performs_of_ok rfl h (State.refuseOr_pass _ _ hc),
    fun h hc => performs_of_ok rfl h (State.refuseOr_pass _ _ hc), fun h hc => ?_,
    fun h hc => performs_of_ok rfl h (State.refuseOr_pass _ _ hc), fun h hc n hn => ?_,
    fun h hc => ⟨fun hp => performs_of_ok rfl h (cmdLdgRingClose_empty hc hp), fun hp => waits_of_wait rfl h (cmdLdgRingClose_records hc hp)⟩,
    fun h hc => ⟨_, performs_of_ok rfl h (State.refuseOr_pass _ _ hc)⟩,
    fun h hc => ⟨_, performs_of_ok rfl h (State.refuseOr_pass _ _ hc), ?_, ?_⟩⟩
  · rcases hb : u.cellImages first count with ⟨b, t⟩
    exact performs_of_ok rfl h (cmdLdgCellQuery_images hc hb)
  · obtain ⟨v, hv⟩ := cmdLdgRingOpen_free hc hn
    exact ⟨_, performs_of_ok rfl h hv, State.ringIndices_zero v n⟩
  · rw [State.setNotify_notifyOf_same]
  · rw [State.setNotify_notifyOf_same]

end Sys2Proof.Machine
end

-- The ledger engine (spec/02_ring_ledger.md): O3.
section
/-! PROOF. The events of the ledger engine: confirm rings, the wheel, the sweeper, the service window and stale batches. -/
namespace Sys2Proof.Machine

open Sys2Proof

section
variable {u : State}

/-! ### Rings, confirmations, the wheel -/

theorem State.ringProd_takes {r v : Nat} (ho : u.isSet (Reg.LDG_CRING_CFG_OPEN r) = true) (hc : sparseFind u.ldg.closing r = none)
    (hb : wrapSub 32 v (u.rd (Reg.LDG_CRING_CONS r)) ≤ 2 ^ u.fld (Reg.LDG_CRING_CFG_LOG2_SIZE r))
    (hf : wrapSub 32 v (u.rd (Reg.LDG_CRING_PROD r)) < 2 ^ 31) : u.ringProd r v = u.wr (Reg.LDG_CRING_PROD r) v := by
  rw [State.ringProd]
  dsimp only
  rw [if_neg (by rw [ho, hc]; exact Bool.false_ne_true), if_pos (by rw [decide_eq_true hb, decide_eq_true hf]; rfl)]

theorem State.hostRecord_served {r : Nat} (p : Bool) (hr : u.ledgerRuns = true) (hs : u.servedRing = some r) :
    u.hostRecord r p = (u.takeTurn r).consumeRecord r p := by
  rw [State.hostRecord, if_pos (by rw [hr, hs]; exact beq_self_eq_true (some r))]

theorem State.takeConfirm_next {e : EngineConf} {l : List EngineConf} (p : Bool) (hr : u.ledgerRuns = true) (hc : u.ldg.conf = e :: l) :
    u.takeConfirm p = ({ u with ldg := { u.ldg with conf := l } } : State).engineConfirm e p := by
  rw [State.takeConfirm, hc]
  exact if_pos hr

theorem State.wheelScan_current (l : List Nat) (hr : u.ledgerRuns = true) (hs : u.ldg.scanned = u.slotNow) :
    u.wheelScan l = u.scanSlot u.slotNow l := by
  rw [State.wheelScan, if_neg (by rw [hr]; exact Bool.false_ne_true), if_pos (beq_iff_eq.mpr hs), hs]

theorem State.wheelScan_behind (l : List Nat) (hr : u.ledgerRuns = true) (hs : u.ldg.scanned ≠ u.slotNow) (hc : u.ldg.candidates = []) :
    u.wheelScan l = ({ u with ldg := { u.ldg with scanned := (u.ldg.scanned + 1) % 2 ^ 30 } } : State).scanSlot
      ((u.ldg.scanned + 1) % 2 ^ 30) l := by
  rw [State.wheelScan, if_neg (by rw [hr]; exact Bool.false_ne_true), if_neg fun h => hs (beq_iff_eq.mp h),
    if_neg (by rw [hc]; exact Bool.false_ne_true)]

theorem State.wheelExpire_behind (hr : u.ledgerRuns = true) (hs : u.ldg.scanned ≠ u.slotNow) :
    u.wheelExpire = (u.scanSlot u.ldg.scanned []).ldg.candidates.foldl (fun t n => t.expireCell n) (u.scanSlot u.ldg.scanned []) := by
  rw [State.wheelExpire, if_neg (by simp [hr, hs])]

/-! ### The sweeper -/

theorem State.fld_sweepPos_set (t : State) (v : Nat) :
    (t.setFld Reg.LDG_SWEEP_POS_CELL v).fld Reg.LDG_SWEEP_POS_CELL = v % cellCount :=
  State.fld_setFld_same _ _ _ (by decide) (by decide)

theorem State.sweepVisit_pos (p : Bool) (hr : u.ledgerRuns = true) (hl : u.ldg.lapDue = false) :
    (u.sweepVisit p).fld Reg.LDG_SWEEP_POS_CELL = (u.fld Reg.LDG_SWEEP_POS_CELL + 1) % cellCount := by
  rw [State.sweepVisit, if_neg (by rw [hr, hl]; exact Bool.false_ne_true)]
  dsimp only
  split
  next h => exact (State.fld_sweepPos_set _ 0).trans (by rw [beq_iff_eq.mp h, Nat.mod_self, Nat.zero_mod])
  next h => exact State.fld_sweepPos_set _ _

section
variable (s : State) (det inst : Nat)

theorem State.notice_ldg (kind obj : Nat) (d : List Nat) (p : List Byte) (never : Bool) : (s.notice kind obj d p never).ldg = s.ldg :=
  (congrArg State.ldg (State.notice_reports s kind obj d p never).quiet :)

theorem State.logFault_ldg (cls detail : Nat) (inj : Bool) : (s.logFault det cls inst inj detail).ldg = s.ldg :=
  (congrArg State.ldg (State.logFault_reports s det cls inst detail inj).quiet :)

theorem State.detFail_ldg (inj : Bool) (w : Nat) : (s.detFail det inst inj w).2.ldg = s.ldg := by
  rw [State.detFail]
  split
  · rfl
  · split
    · exact State.logFault_ldg _ _ _ _ _ _
    · rfl

theorem State.detPass_ldg : (s.detPass det inst).2.ldg = s.ldg := by
  rw [State.detPass]
  split
  · exact State.logFault_ldg _ _ _ _ _ _
  · rfl

theorem State.raise_ldg (f : Fld) : (s.raise f).ldg = s.ldg := rfl

theorem State.injTake_ldg (c : Nat → Nat) : (s.injTake det inst c).2.ldg = s.ldg := by
  rw [State.injTake]
  split
  · rfl
  · split
    · split
      · dsimp only
        rw [State.bump_ldg, State.raise_ldg, State.setFld_ldg]
      · rfl
    · rfl

theorem State.lapClass_ldg (kind : Nat) (caught : Option Nat) : (s.lapClass det inst kind caught).ldg = s.ldg := by
  unfold State.lapClass
  cases caught with
  | none =>
    have hd := State.detPass_ldg s det inst
    dsimp only
    split
    · exact (State.notice_ldg _ _ _ _ _ _).trans hd
    · exact hd
  | some n =>
    have hd := (State.detFail_ldg (s.injTake det inst).2 det inst (s.injTake det inst).1.isSome n).trans (State.injTake_ldg s det inst _)
    dsimp only
    split
    · exact (State.notice_ldg _ _ _ _ _ _).trans hd
    · exact hd

end

theorem State.sweepLapEnd_ldg (h : u.ldg.lapDue = true) : u.sweepLapEnd.ldg.laps = u.ldg.laps + 1 ∧ u.sweepLapEnd.ldg.lapDue = false := by
  have hfold (l : List Nat) (t : State) (g : Nat → Option Nat) :
      (l.foldl (fun t r => t.lapClass 0x0E r 1 (g r)) t).ldg = t.ldg := by
    induction l generalizing t with
    | nil => rfl
    | cons r l ih => rw [List.foldl_cons, ih, State.lapClass_ldg]
  rw [State.sweepLapEnd, if_neg (by rw [h]; exact Bool.false_ne_true)]
  dsimp only
  rw [hfold _ _ fun r => sparseFind u.ldg.bitFault r, State.lapClass_ldg, State.bumpWrap_ldg]
  exact ⟨rfl, rfl⟩

/-! ### The service window and stale batches -/

theorem State.foldl_wr_ldg (reg val : Nat → Nat) (l : List Nat) (t : State) :
    (l.foldl (fun t k => t.wr (reg k) (val k)) t).ldg = t.ldg := by
  induction l generalizing t with
  | nil => rfl
  | cons k l ih => rw [List.foldl_cons, ih, State.wr_ldg]

theorem State.svcRead_cell {n : Nat} {p : Bool} {v : State} (hs : u.isSet Reg.LDG_STATUS_SVC = true)
    (hv : (u.svcCmd false n).cellRead n p = (true, v)) :
    u.svcRead n p = (List.range 4).foldl (fun t k => t.wr (Reg.LDG_SVC_DATA k) (fieldAt (v.cell n).image (4 * k) 4)) v := by
  rw [State.svcRead]
  dsimp only
  rw [if_neg (by rw [hs]; exact Bool.false_ne_true), hv]
  rfl

theorem State.staleBatch_due {p : Nat} (ht : (u.notifyOf p).total ≠ 0) (he : (u.notifyOf p).endTick ≤ u.tick) :
    u.staleBatch p = u.raiseBatch p := by
  rw [State.staleBatch]
  exact if_pos (by simp [ht, he])

end

/-- Settles O3: each event of the ledger engine has its own effect. -/
theorem ledgerEventsComplete : Obligations.LedgerEventsComplete := by
  intro s dt u
  refine ⟨fun r v hd ho hc hb hf => congrArg Host.Outcome.next ?_, fun r p hr hs => congrArg _ (State.hostRecord_served p hr hs),
    fun p e l hr hc => congrArg _ (State.takeConfirm_next p hr hc), fun l hr hs => congrArg _ (State.wheelScan_current l hr hs),
    fun l hr hs hc => congrArg _ (State.wheelScan_behind l hr hs hc), fun hr hs => congrArg _ (State.wheelExpire_behind hr hs),
    fun p hr hl => ⟨_, rfl, State.sweepVisit_pos p hr hl⟩, fun h => ⟨_, rfl, State.sweepLapEnd_ldg h⟩, fun c p hs => ?_,
    fun c _ => rfl, fun p ht he => congrArg _ (State.staleBatch_due ht he)⟩
  · exact (if_pos hd).trans (congrArg (State.pairSend · 0x04 _) (State.ringProd_takes ho hc hb hf))
  · rcases hv : (u.svcCmd false c.val).cellRead c.val p with ⟨ok, v⟩
    dsimp only
    rintro rfl
    refine ⟨_, congrArg Host.Outcome.next (State.svcRead_cell hs hv), fun k hk => ?_, State.foldl_wr_ldg _ _ _ _⟩
    rw [State.rd_foldl_wr_same _ _ _ hk fun i j h => by simp only [Reg.LDG_SVC_DATA] at h; omega]
    exact Nat.mod_eq_of_lt (fieldAt_lt _ _ 4)

end Sys2Proof.Machine
end

-- The events of a frame (spec/03_scan_gate.md to spec/06_lookout.md): O5.
section
/-! PROOF. Sample points, lines, the end and the start of a frame, the latch line, drains and the returns of signatures. -/
namespace Sys2Proof.Machine

open Sys2Proof

section
variable {u v : State} {n : Nat}

theorem State.samplePoint_sampled {y : Nat} (late : Bool) (ecc : List (Nat × Nat)) (h : u.sampleDue n y = true) :
    ((u.samplePoint n y late ecc).out n).sampled = y + 1 := by
  rw [State.samplePoint, if_neg (by rw [h]; exact Bool.false_ne_true)]
  dsimp only
  rw [State.setOut_out_same]

theorem State.linePoint_first (late : Bool) (ecc : List (Nat × Nat)) (h : u.sampleDue n 0 = true) :
    u.linePoint n 0 late ecc = (u.beforeFrame n).samplePoint n 0 late ecc := by
  rw [State.linePoint, if_neg (by rw [h]; exact Bool.false_ne_true), if_pos (beq_self_eq_true 0)]

theorem State.linePoint_later {y : Nat} (late : Bool) (ecc : List (Nat × Nat)) (hy : y ≠ 0) (h : u.sampleDue n y = true) :
    u.linePoint n y late ecc = u.samplePoint n y late ecc := by
  rw [State.linePoint, if_neg (by rw [h]; exact Bool.false_ne_true), if_neg fun he => hy (beq_iff_eq.mp he)]

theorem State.runLine_due {y pool : Nat} {gaps : List (Nat × Nat)} {poison : List Nat} {px : List Nat} (h : u.lineDue n y = true)
    (hx : u.lineStart n y gaps poison pool = (px, v)) : let w := v.encTap n y px
    u.runLine n y gaps poison pool = (if w.txOn n then w.sendLine n y px else w).emit (.pixels n y px) := by
  intro w
  rw [State.runLine, if_neg (by rw [h]; exact Bool.false_ne_true), hx]

theorem State.endFrame_due {lasting : Bool} (h : u.endDue n = true) (hx : u.frameEndOps n = (lasting, v)) :
    u.endFrame n = v.frameMeasure n (u.out n).poolMin (u.out n).urLines.length lasting := by
  rw [State.endFrame, if_neg (by rw [h]; exact Bool.false_ne_true), hx]

/-- A discarded report leaves the record of the frame out. -/
theorem State.postFrame_due {diff gate ret : Bool} (h : u.postDue n = true) (hx : u.lookoutPost n = (diff, gate, ret, v)) :
    let w := v.setLook n { v.look n with discard := false }
    let x := (if (v.look n).discard then w else w.postRecord n diff).ageOwn n (u.frameNo n)
    let y := if ret then x.returnRetrain n else x
    u.postFrame n = (if gate then y.voidSlice n else y).returnCredits := by
  intro w x y
  rw [State.postFrame, if_neg (by rw [h]; exact Bool.false_ne_true), hx]

theorem State.startFrame_due {lasting : Bool} (h : u.startDue n = true) (hx : u.frameStartOps n = (lasting, v)) :
    let f := v.frameNo n
    let a := if u.outState n == osStarting then v.clearConverged n else v.markLate n f
    let w := ((a.settleUnsupp n).missingRecords n f).encFrameStart n f
    let x := if w.txOn n then w.sendFrameStart n (!u.txOn n) else w
    u.startFrame n = if lasting then x.returnRetrain n else x := by
  intro f a w x
  rw [State.startFrame, if_neg (by rw [h]; exact Bool.false_ne_true)]
  dsimp only
  rw [hx]

theorem State.latchLine_standby (h : u.latchDue n = true) (hr : u.role = roStandby) : u.latchLine n = u.standbyLatch n := by
  rw [State.latchLine, if_neg (by rw [h]; exact Bool.false_ne_true), if_pos (beq_iff_eq.mpr hr)]

theorem State.msgIn_returns {b : List Byte} (hn : n < 32) (ht : u.rxTakes n = true) (hb : b.length = 72) :
    u.msgIn n 1 b = u.returnIn n b := by
  rw [State.msgIn, if_neg (by rw [ht]; exact Bool.false_ne_true), if_pos (by rw [hb, decide_eq_true hn]; rfl)]

end

/-- Settles O5: each event of a frame that is due has its own effect. -/
theorem frameEventsComplete : Obligations.FrameEventsComplete := by
  intro s dt n u
  refine ⟨fun late ecc h hb => ⟨_, congrArg Host.Outcome.next (State.linePoint_first late ecc h), State.samplePoint_sampled late ecc hb⟩,
    fun y late ecc hy h => ⟨_, congrArg Host.Outcome.next (State.linePoint_later late ecc hy h), State.samplePoint_sampled late ecc h⟩,
    fun y gaps poison pool h => ?_, fun h => ?_, fun h => ?_, fun h hr => ?_, fun h hr => congrArg _ (State.latchLine_standby h hr), fun h => ?_,
    fun h => congrArg _ (if_pos h), fun h => congrArg _ (if_pos h),
    fun body ha ht hb => (congrArg _ (if_pos ha)).trans (congrArg _ (State.msgIn_returns n.isLt ht hb))⟩
  · rcases hx : u.lineStart n.val y gaps poison pool with ⟨px, v⟩
    exact congrArg Host.Outcome.next (State.runLine_due h hx)
  · rcases hx : u.frameEndOps n.val with ⟨lasting, v⟩
    exact congrArg Host.Outcome.next (State.endFrame_due h hx)
  · rcases hx : u.lookoutPost n.val with ⟨diff, gate, ret, v⟩
    exact congrArg Host.Outcome.next (State.postFrame_due h hx)
  · rcases hx : u.decideLatch n.val with ⟨ds, deferred, waiting, v⟩
    refine congrArg Host.Outcome.next ?_
    rw [State.latchLine, if_neg (by rw [h]; exact Bool.false_ne_true), if_neg fun he => hr (beq_iff_eq.mp he), hx]
  · rcases hx : u.frameStartOps n.val with ⟨lasting, v⟩
    exact congrArg Host.Outcome.next (State.startFrame_due h hx)

end Sys2Proof.Machine
end

-- The GATE_, STAND_, OUT_, CNP_ and LKO_ commands (spec/03_scan_gate.md to spec/06_lookout.md, spec/14_command_set.md): O6.
section
/-! PROOF. The commands of the gate, of outputs, layers and Lookout. -/
namespace Sys2Proof.Machine

open Sys2Proof

/-! ### Fields of a packed body -/

theorem fieldAt_leBytes_append (n v : Nat) (l : List Byte) : fieldAt (leBytes n v ++ l) 0 n = v % 256 ^ n := by
  rw [fieldAt, List.drop_zero, List.take_append_of_le_length (Nat.le_of_eq (leBytes_length n v).symm),
    List.take_of_length_le (Nat.le_of_eq (leBytes_length n v)), leNat_leBytes]

theorem fieldAt_append_right (l l' : List Byte) (n : Nat) : fieldAt (l ++ l') l.length n = fieldAt l' 0 n := by
  rw [fieldAt, List.drop_left, fieldAt, List.drop_zero]

/-- The second word of a packed body. -/
theorem fieldAt_pack_second (v w : Nat) (l : List (Nat × Nat)) : fieldAt (pack ((4, v) :: (4, w) :: l)) 4 4 = w % 2 ^ 32 := by
  rw [pack_cons, pack_cons]
  have h := fieldAt_append_right (leBytes 4 v) (leBytes 4 w ++ pack l) 4
  rw [leBytes_length] at h
  exact h.trans (fieldAt_leBytes_append 4 w _)

/-! ### The gate -/

section
variable {r : Req} {u : State}

theorem cmdGateBindSet_ok (h : chkGateBindSet r u = none) : cmdGateBindSet r u = (u.buildStage (r.u8 16) (u.boundSlots r), .ok []) := by
  rw [cmdGateBindSet, h]

theorem cmdGateBindClear_ok (h : chkGateBindClear r u = none) :
    cmdGateBindClear r u = (u.buildStage (r.u8 16) (u.unboundSlots r), .ok []) := by
  rw [cmdGateBindClear, h]

/-- The body of a span query begins with the number of spans of the list asked for. -/
theorem cmdGateSpanQuery_ok (h : passes (chkGateSpanQuery r u) = true) : ∃ (t : State) (b : List Byte), cmdGateSpanQuery r u =
    (t, .ok (leBytes 4 (if r.u8 17 == 1 then u.stagedCount (r.u8 16) else u.activeCount (r.u8 16)) ++ b)) := by
  rw [cmdGateSpanQuery, State.refuseOr_pass _ _ h]
  dsimp only
  rw [pack_cons, List.append_assoc]
  exact ⟨_, _, rfl⟩

/-- Of registers at different addresses, each that is written by its condition holds what was written to it. -/
theorem State.rd_foldl_wrIf_same (s : State) {p : Nat → Bool} {reg val : Nat → Nat} {m k : Nat} (hk : k < m) (hp : p k = true)
    (h : ∀ i < m, ∀ j < m, i ≠ j → reg i ≠ reg j) :
    ((List.range m).foldl (fun t k => if p k then t.wr (reg k) (val k) else t) s).rd (reg k) = val k % 2 ^ 32 := by
  induction m with
  | zero => exact absurd hk (Nat.not_lt_zero k)
  | succ m ih =>
    have hm : m < m + 1 := Nat.lt_succ_self m
    rw [List.range_succ, List.foldl_append, List.foldl_cons, List.foldl_nil]
    rcases Nat.lt_succ_iff_lt_or_eq.mp hk with hlt | rfl
    · have hprev := ih hlt fun i hi j hj => h i (Nat.lt_succ_of_lt hi) j (Nat.lt_succ_of_lt hj)
      split
      · exact (State.rd_wr_other _ _ (h m hm k hk (Nat.ne_of_gt hlt))).trans hprev
      · exact hprev
    · rw [if_pos hp, State.rd_wr_same]

theorem cmdGateTreatCfg_colours (h : passes (chkGateTreatCfg r u) = true) : ∃ t, cmdGateTreatCfg r u = (t, .ok []) ∧
    ∀ k, k < 10 → bitAt (r.u32 16) k = true → t.rd (gateColourRegs.getD k 0) = r.u32 (20 + 4 * k) := by
  refine ⟨_, State.refuseOr_pass _ _ h, fun k hk hb => ?_⟩
  have halpha : Reg.GATE_HATCH_ALPHA ≠ gateColourRegs.getD k 0 := by
    have : ∀ j < 10, Reg.GATE_HATCH_ALPHA ≠ gateColourRegs.getD j 0 := by decide
    exact this k hk
  have hcol := State.rd_foldl_wrIf_same u (reg := fun k => gateColourRegs.getD k 0) (val := fun k =>
    if bitAt (r.u32 16) k then r.u32 (20 + 4 * k) else u.rd (gateColourRegs.getD k 0))
    hk hb fun i hi j hj hij => gateColourRegs_apart i hi j hj (Ne.symm hij)
  rw [if_pos hb, Req.u32_mod] at hcol
  split
  · exact (State.rd_wr_other _ _ halpha).trans hcol
  · exact hcol

/-! ### Outputs and layers -/

theorem cmdOutQuery_ok (h : passes (chkOutQuery r u) = true) : ∃ b, cmdOutQuery r u = (u, .ok b) ∧
    fieldAt b 0 4 = u.rd (Reg.CNP_OUT_CTRL (r.u8 16)) ∧ fieldAt b 4 4 = u.frameNo (r.u8 16) := by
  refine ⟨_, State.refuseOr_pass _ _ h, ?_, ?_⟩
  · rw [pack_cons]
    exact (fieldAt_leBytes_append 4 _ _).trans (Nat.mod_eq_of_lt (State.rd_lt _ _))
  · exact (fieldAt_pack_second _ _ _).trans (Nat.mod_eq_of_lt (State.rd_lt _ _))

theorem State.setCmt_buf (u : State) (n id : Nat) (c : CommitSt) (b : BufRec) :
    (u.setCmt n { c with bufs := sparsePut {} c.bufs id b }).buf n id = b := by
  rw [State.buf, State.setCmt_cmt_same]
  exact sparseGet_put_same _ _ _ _

/-- A layout that is allotted and admitted is staged. -/
theorem cmdCnpLayoutPrepare_ok {l : List StageSlot} (h : passes (chkCnpLayoutPrepare r u) = true)
    (hl : u.allotted (r.u8 16) (u.preparedSlots r (r.u8 16)) = some l) (ha : u.admission (r.u8 16) (u.mode (r.u8 16)) l = none) :
    ∃ b, cmdCnpLayoutPrepare r u = (u.buildStage (r.u8 16) l, .ok b) := by
  rw [cmdCnpLayoutPrepare, State.refuseOr_pass _ _ h]
  dsimp only
  rw [hl]
  dsimp only
  rw [ha]
  exact ⟨_, rfl⟩

theorem cmdCnpCringOpen_ok (h : passes (chkCnpCringOpen r u) = true) : ∃ t, cmdCnpCringOpen r u = (t, .ok []) ∧
    t.rd (Reg.CNP_CRING_CFG (r.u8 16)) = 2 ^ 31 + r.u8 17 ∧ t.rd (Reg.CNP_CRING_PROD (r.u8 16)) = 0 ∧
    t.rd (Reg.CNP_CRING_CONS (r.u8 16)) = 0 := by
  have hpc : Reg.CNP_CRING_PROD (r.u8 16) ≠ Reg.CNP_CRING_CFG (r.u8 16) := by simp only [Reg.CNP_CRING_PROD, Reg.CNP_CRING_CFG]; omega
  have hcc : Reg.CNP_CRING_CONS (r.u8 16) ≠ Reg.CNP_CRING_CFG (r.u8 16) := by simp only [Reg.CNP_CRING_CONS, Reg.CNP_CRING_CFG]; omega
  have hcp : Reg.CNP_CRING_CONS (r.u8 16) ≠ Reg.CNP_CRING_PROD (r.u8 16) := by simp only [Reg.CNP_CRING_CONS, Reg.CNP_CRING_PROD]; omega
  refine ⟨_, State.refuseOr_pass _ _ h, ?_, ?_, ?_⟩
  · rw [State.setCmt_rd, State.rd_wr_other _ _ hcc, State.rd_wr_other _ _ hpc, State.rd_wr_same]
    exact Nat.mod_eq_of_lt (by have := r.u8_lt 17; omega)
  · rw [State.setCmt_rd, State.rd_wr_other _ _ hcp, State.rd_wr_same, Nat.zero_mod]
  · rw [State.setCmt_rd, State.rd_wr_same, Nat.zero_mod]

/-- A commit ring whose records are all consumed closes at once. -/
theorem cmdCnpCringClose_empty (h : passes (chkCnpCringClose r u) = true)
    (hp : u.rd (Reg.CNP_CRING_CONS (r.u8 16)) = u.rd (Reg.CNP_CRING_PROD (r.u8 16))) :
    cmdCnpCringClose r u = (u.setFld (Reg.CNP_CRING_CFG_OPEN (r.u8 16)) 0, .ok []) := by
  rw [cmdCnpCringClose, State.refuseOr_pass _ _ h]
  exact if_pos (beq_iff_eq.mpr hp)

/-- A commit ring that holds records is closing. -/
theorem cmdCnpCringClose_records (h : passes (chkCnpCringClose r u) = true)
    (hp : u.rd (Reg.CNP_CRING_CONS (r.u8 16)) ≠ u.rd (Reg.CNP_CRING_PROD (r.u8 16))) :
    cmdCnpCringClose r u = (u.setCmt (r.u8 16) { u.cmt (r.u8 16) with
      closing := some (u.rd (Reg.CNP_CRING_PROD (r.u8 16)), r.waiter) }, .wait) := by
  rw [cmdCnpCringClose, State.refuseOr_pass _ _ h]
  exact if_neg fun he => hp (beq_iff_eq.mp he)

/-! ### Lookout -/

theorem cmdLkoRegionSet_ok (h : passes (chkLkoRegionSet r u) = true) : cmdLkoRegionSet r u =
    (((List.range (min (r.u32 16) 100)).map fun i => regionRec r (32 + 28 * i)).foldl (fun t x => t.regionWrite r.part x) u, .ok []) := by
  rw [cmdLkoRegionSet, State.refuseOr_pass _ _ h, List.map_map, Function.comp_def]

theorem cmdLkoRefSet_ok (h : passes (chkLkoRefSet r u) = true) : cmdLkoRefSet r u =
    (((List.range (min (r.u32 16) 200)).map fun i => 32 + 12 * i).foldl
      (fun t o => t.refSet (r.u32 o) (r.u32 (o + 4)) (r.u32 (o + 8))) u, .ok []) := by
  rw [cmdLkoRefSet, State.refuseOr_pass _ _ h]

/-- A query of at most 127 regions is answered in one message. -/
theorem cmdLkoRegionQuery_ok (h : passes (chkLkoRegionQuery r u) = true) (hc : r.u32 20 ≤ 127) : cmdLkoRegionQuery r u =
    (u, .ok (pack [(4, r.u32 20), (4, 0)] ++
      (List.range (r.u32 20)).flatMap fun i => u.regImage State.rd (regionBase (r.u32 16 + i)) 8)) := by
  rw [cmdLkoRegionQuery, State.refuseOr_pass _ _ h]
  rw [Nat.min_eq_left hc, if_neg (Nat.lt_irrefl _)]

end

/-- Settles O6: each command taken up by its opcode with no check failing has its effect. -/
theorem outputCommandsComplete : Obligations.OutputCommandsComplete := by
  intro s dt m u r n
  refine ⟨fun h hc => performs_of_ok rfl h (cmdGateBindSet_ok hc), fun h hc => performs_of_ok rfl h (cmdGateBindClear_ok hc), fun h hc => ?_,
    fun h hc => ?_, fun h hc => ⟨_, performs_of_ok rfl h (State.refuseOr_pass _ _ hc), rfl⟩,
    fun h hc => performs_of_ok (exec_standCfg dt m s) h (State.refuseOr_pass _ _ hc),
    fun h hc => performs_of_ok (exec_outEnable dt m s) h (State.refuseOr_pass _ _ hc),
    fun h hc => waits_of_wait (exec_outDisable dt m s) h (State.refuseOr_pass _ _ hc),
    fun h hc => ⟨_, performs_of_ok (exec_outSet dt m s) h (State.refuseOr_pass _ _ hc), ?_, ?_, ?_⟩, fun h hc => ?_,
    fun h hc => ⟨_, performs_of_ok (exec_cnpBufSet dt m s) h (State.refuseOr_pass _ _ hc), State.setCmt_buf _ _ _ _ _⟩,
    fun h hc => ⟨_, performs_of_ok rfl h (State.refuseOr_pass _ _ hc), State.setCmt_buf _ _ _ _ _⟩, fun h hc l hl ha => ?_, fun h hc => ?_,
    fun h hc => ⟨fun hp => performs_of_ok rfl h (cmdCnpCringClose_empty hc hp),
      fun hp => waits_of_wait rfl h (cmdCnpCringClose_records hc hp)⟩,
    fun h hc => performs_of_ok (exec_lkoRegionSet dt m s) h (cmdLkoRegionSet_ok hc),
    fun h hc => performs_of_ok rfl h (State.refuseOr_pass _ _ hc), fun h hc => performs_of_ok rfl h (cmdLkoRefSet_ok hc),
    fun h hc hq => performs_of_ok rfl h (cmdLkoRegionQuery_ok hc hq)⟩
  · obtain ⟨t, b, ht⟩ := cmdGateSpanQuery_ok hc
    exact ⟨t, _, performs_of_ok rfl h ht, fieldAt_leBytes_append 4 _ b⟩
  · obtain ⟨t, ht, hcol⟩ := cmdGateTreatCfg_colours hc
    exact ⟨t, performs_of_ok (exec_gateTreatCfg dt m s) h ht, hcol⟩
  · rw [State.setOut_out_same]
  · rw [State.setOut_out_same]
  · rw [State.setOut_out_same]
  · obtain ⟨b, hb, hq⟩ := cmdOutQuery_ok hc
    exact ⟨b, performs_of_ok (exec_outQuery dt m s) h hb, hq⟩
  · obtain ⟨b, hb⟩ := cmdCnpLayoutPrepare_ok hc hl ha
    exact ⟨b, performs_of_ok rfl h hb⟩
  · obtain ⟨t, ht, hregs⟩ := cmdCnpCringOpen_ok hc
    exact ⟨t, performs_of_ok rfl h ht, hregs⟩

end Sys2Proof.Machine
end

-- Register accesses of scan-out and Lookout (spec/03_scan_gate.md to spec/06_lookout.md): O7.
section
/-! PROOF. Service writes of gate, outputs, layers and regions, and the doorbell of a commit ring. -/
namespace Sys2Proof.Machine

open Sys2Proof

/-! ### The latch line -/

theorem getD_satisfies {α : Type} {p : α → Prop} {l : List α} {d : α} (h : ∀ x ∈ l, p x) (hd : p d) (i : Nat) : p (l.getD i d) := by
  rw [List.getD_eq_getElem?_getD]
  cases hi : l[i]? with
  | none => exact hd
  | some x => exact h x (List.mem_of_getElem? hi)

theorem modeOf_h_lt (i : Nat) : (modeOf i).h < 4096 := by
  rw [modeOf]
  split
  · exact getD_satisfies (p := fun m : Mode => m.h < 4096) (by decide) (by decide) _
  · exact getD_satisfies (p := fun m : Mode => m.h < 4096) (by decide) (by decide) _

theorem clampTo_lt {lo a b : Nat} (hi : Nat) (hl : lo < b) (ha : a < b) : clampTo lo hi a < b := by
  rw [clampTo]
  split
  · exact hl
  · split
    · omega
    · exact ha

section
variable {u : State} {n : Nat}

theorem State.latchWrite_line (v : Nat) (hs : u.isSet (Reg.CNP_OUT_CTRL_SVC n) = true) (he : u.isSet (Reg.CNP_OUT_CTRL_EN n) = true) :
    (u.latchWrite n v).fld (Reg.CNP_OUT_LATCH_LATCH_LINE n) = clampTo (u.mode n).h ((u.mode n).vTotal - 3) (bitsAt v 11 0) := by
  have hlt : clampTo (u.mode n).h ((u.mode n).vTotal - 3) (bitsAt v 11 0) < 4096 :=
    clampTo_lt _ (modeOf_h_lt _) (Nat.mod_lt _ (by decide))
  have hne : Reg.CNP_OUT_STAT n ≠ Reg.CNP_OUT_LATCH n := by simp only [Reg.CNP_OUT_STAT, Reg.CNP_OUT_LATCH]; omega
  have hset := (State.fld_setFld_same u (Reg.CNP_OUT_LATCH_LATCH_LINE n) (clampTo (u.mode n).h ((u.mode n).vTotal - 3) (bitsAt v 11 0))
    (Nat.zero_le 11) (by show 11 < 32; decide)).trans (Nat.mod_eq_of_lt hlt)
  rw [State.latchWrite, if_neg (by rw [hs, he]; exact Bool.false_ne_true)]
  dsimp only
  split
  · exact hset
  · exact ((State.fld_raise _ _ _).trans (State.fld_setFld_addr _ _ _ _ hne)).trans hset

/-! ### The doorbell of a commit ring -/

theorem State.commitProd_takes {v : Nat} (ho : u.isSet (Reg.CNP_CRING_CFG_OPEN n) = true) (hc : (u.cmt n).closing = none)
    (hb : wrapSub 32 v (u.rd (Reg.CNP_CRING_CONS n)) ≤ 2 ^ u.fld (Reg.CNP_CRING_CFG_LOG2_SIZE n))
    (hf : wrapSub 32 v (u.rd (Reg.CNP_CRING_PROD n)) < 2 ^ 31) : u.commitProd n v =
      ((u.wr (Reg.CNP_CRING_PROD n) v).setCmt n { u.cmt n with bells := (u.cmt n).bells ++ [{ prod := v, target := u.targetNow n }] }).groupBell n
        (u.rd (Reg.CNP_CRING_PROD n)) := by
  rw [State.commitProd]
  dsimp only
  rw [if_neg (by rw [ho, hc]; exact Bool.false_ne_true), if_pos (by rw [decide_eq_true hb, decide_eq_true hf]; rfl)]

/-! ### Layer registers and regions -/

/-- The first address of an output's block, and the number of the output that an address of the block is of. -/
theorem layerAddr (hn : n < 32) {o : Nat} (ho : o < 0x1000) : within 0x100000 0x11FFFF (0x100000 + 0x1000 * n + o) = true ∧
    (0x100000 + 0x1000 * n + o - 0x100000) / 0x1000 = n ∧ (0x100000 + 0x1000 * n + o - 0x100000) % 0x1000 = o := by
  refine ⟨by simp only [within, Bool.and_eq_true, decide_eq_true_eq]; omega, by omega, by omega⟩

theorem State.layerSvcWrite_background (hn : n < 32) (v : Nat) (hs : u.isSet (Reg.CNP_OUT_CTRL_SVC n) = true) :
    u.layerSvcWrite (0x100000 + 0x1000 * n + 0x120) v = u.wr (0x100000 + 0x1000 * n + 0x120) (v % 2 ^ 30) := by
  obtain ⟨hw, hd, hm⟩ := layerAddr hn (o := 0x120) (by decide)
  rw [State.layerSvcWrite]
  dsimp only
  rw [hd, hm, if_neg (by rw [hw, hs]; decide), if_pos (beq_self_eq_true 0x120)]

theorem layerSvcMask_dstXy {k : Nat} (hk : k < 8) : layerSvcMask (0x20C + 0x40 * k) = 0xFFFFFFFF := by
  have : ∀ j < 8, layerSvcMask (0x20C + 0x40 * j) = 0xFFFFFFFF := by decide
  exact this k hk

/-- A mask of ones takes the whole of the new word. -/
theorem maskedWord_full (old v : Word) :
    ((old &&& ~~~(BitVec.ofNat 32 0xFFFFFFFF)) ||| (BitVec.ofNat 32 v.toNat &&& BitVec.ofNat 32 0xFFFFFFFF)).toNat = v.toNat := by
  have hones : BitVec.ofNat 32 0xFFFFFFFF = BitVec.allOnes 32 := rfl
  rw [BitVec.ofNat_toNat, BitVec.setWidth_eq, hones, BitVec.not_allOnes, BitVec.and_zero, BitVec.zero_or, BitVec.and_allOnes]

theorem State.layerSvcWrite_dstXy {k : Nat} (hn : n < 32) (hk : k < 8) (v : Word) (hs : u.isSet (Reg.CNP_OUT_CTRL_SVC n) = true) :
    u.layerSvcWrite (Reg.CNP_LAYER_DST_XY n k) v.toNat =
      u.setCmt n { u.cmt n with svc := sparseIns (u.cmt n).svc (Reg.CNP_LAYER_DST_XY n k) v.toNat } := by
  obtain ⟨hw, hd, hm⟩ := layerAddr hn (o := 0x20C + 0x40 * k) (by omega)
  have ha : Reg.CNP_LAYER_DST_XY n k = 0x100000 + 0x1000 * n + (0x20C + 0x40 * k) := by simp only [Reg.CNP_LAYER_DST_XY]; omega
  have ho : (0x20C + 0x40 * k == 0x120) = false := beq_eq_false_iff_ne.mpr (by omega)
  rw [ha, State.layerSvcWrite]
  dsimp only
  rw [hd, hm, layerSvcMask_dstXy hk, if_neg (by rw [hw, hs]; decide), if_neg (by rw [ho]; exact Bool.false_ne_true), maskedWord_full]

theorem State.regionSvcWrite_word4 {k v : Nat} (hk : k < 16384) (hs : u.isSet Reg.LKO_STATUS_SVC = true)
    (ha : u.regionAdjusted k 4 v = v) (hd : u.rd (regionBase k + 16) ≠ v) :
    u.regionSvcWrite (regionBase k + 16) v = u.wr (regionBase k + 16) v := by
  have hr : (regionBase k + 16 - 0x800000) / 32 = k := by simp only [regionBase]; omega
  have hw : (regionBase k + 16) % 32 / 4 = 4 := by simp only [regionBase]; omega
  have hin : within 0x800000 0x87FFFF (regionBase k + 16) = true := by
    rw [within, regionBase, Bool.and_eq_true, decide_eq_true_eq, decide_eq_true_eq]
    omega
  have hal : ((regionBase k + 16) % 4 != 0) = false := by
    rw [bne_eq_false_iff_eq, regionBase]
    omega
  rw [State.regionSvcWrite]
  dsimp only
  rw [hr, hw, hin, hs, hal, ha, if_neg (by decide), if_neg (by decide), if_neg (by rw [beq_eq_false_iff_ne.mpr hd]; exact Bool.false_ne_true),
    if_neg (by decide), if_pos (beq_self_eq_true v)]

end

/-- Settles O7: each access has the effect of its register. -/
theorem outputWritesComplete : Obligations.OutputWritesComplete := by
  intro s dt u
  refine ⟨fun k v hk hs => congrArg _ (State.gateSvcWrite_colour v.toNat hk hs), fun n v hs he => ⟨_, rfl, State.latchWrite_line v.toNat hs he⟩,
    fun n => rfl, fun n v hd ho hc hb hf => congrArg Host.Outcome.next ?_,
    fun n v hs => congrArg _ (State.layerSvcWrite_background n.isLt v.toNat hs),
    fun n k v hs => congrArg _ (State.layerSvcWrite_dstXy n.isLt k.isLt v hs),
    fun k v hs ha hd => congrArg _ (State.regionSvcWrite_word4 k.isLt hs ha hd)⟩
  exact (if_pos hd).trans (congrArg (State.pairSend · 0x04 _) (State.commitProd_takes ho hc hb hf))

end Sys2Proof.Machine
end

-- Faults, injection, Firebreak registers and check-value units (spec/16_firebreak.md, spec/17_faults_checks_injection.md): O23.
section
/-! PROOF. The watchdogs and the lockstep check, injection, Firebreak's register file and the check-value units. -/
namespace Sys2Proof.Machine

open Sys2Proof

section
variable {u : State}

/-! ### Watchdogs, lockstep, injection -/

theorem exec_watchdogExpiry_running {dt : Nat} {s : State} (k : Fin 3) (hf : (s.pass dt).isSet Reg.HLT_STATUS_FATAL = false)
    (hr : (s.pass dt).isSet Reg.MBX_STATUS_RESTARTING = false) (hy : (s.pass dt).isSet Reg.MBX_STATUS_READY = true)
    (hi : ((s.pass dt).injTake 6 k.val (fun _ => 1)).1 = none) : exec (.watchdogExpiry dt k) s = .next (((s.pass dt).raise
      (if k.val == 0 then Reg.HLT_WDG_EXP_S else if k.val == 1 then Reg.HLT_WDG_EXP_A0 else Reg.HLT_WDG_EXP_A1)).faultRestart (k.val + 1) false) := by
  change execWatchdogExpiry dt k s = _
  rw [execWatchdogExpiry]
  dsimp only
  rw [if_neg (by rw [hf]; exact Bool.false_ne_true), if_neg (by rw [hr]; exact Bool.false_ne_true),
    if_neg (by rw [hy]; exact Bool.false_ne_true), State.injTake_none _ hi rfl rfl]
  rfl

theorem exec_lockstepMismatch_running {dt : Nat} {s : State} (hf : (s.pass dt).isSet Reg.HLT_STATUS_FATAL = false)
    (hr : (s.pass dt).isSet Reg.MBX_STATUS_RESTARTING = false) (hi : ((s.pass dt).injTake 5 0 (fun _ => 1)).1 = none) :
    exec (.lockstepMismatch dt) s = .next (((s.pass dt).bump Reg.HLT_LOCKSTEP_CNT).faultRestart 4 false) := by
  change execLockstepMismatch dt s = _
  rw [execLockstepMismatch]
  dsimp only
  rw [if_neg (by rw [hf, hr]; exact Bool.false_ne_true), State.injTake_none _ hi rfl rfl]
  rfl

/-- An arming that has run out ends. -/
theorem exec_injArmExpiry_due {dt t : Nat} {s : State} (hk : (s.pass dt).hlt.key1At = none) (ha : (s.pass dt).hlt.armedUntil = some t)
    (ht : t ≤ (s.pass dt).tick) : exec (.injArmExpiry dt) s =
      .next (((s.pass dt).setHlt { (s.pass dt).hlt with armedUntil := none }).setFld Reg.HLT_INJ_STAT_ARMED 0) := by
  have hkey : ¬((s.pass dt).hlt.key1At.any fun t => decide (t + ticksPerMs < (s.pass dt).tick)) = true := by
    rw [hk]
    exact Bool.false_ne_true
  have hdue : ((s.pass dt).hlt.armedUntil.any fun t => decide (t ≤ (s.pass dt).tick)) = true := by
    rw [ha]
    exact decide_eq_true ht
  change execInjArmExpiry dt s = _
  rw [execInjArmExpiry]
  dsimp only
  rw [if_neg hkey, if_pos hdue]

/-! ### Firebreak -/

theorem State.fbkGo_regs (k : Nat) (n : Nat) :
    (u.fbkGo k n).fld (Reg.FBK_BARRIER_DONE_OLD_PENDING k) = min 65535 (u.fld (Reg.FBK_BARRIER_DONE_OLD_PENDING k) + n) ∧
    (u.fbkGo k n).fld (Reg.FBK_BARRIER_DONE_DONE k) = 0 ∧ (u.fbkGo k n).fbk = (u.fbkActivate k).fbk := by
  have hap : (Reg.FBK_BARRIER_DONE_OLD_PENDING k).apart (Reg.FBK_BARRIER_DONE_DONE k) = true := by
    simp [Fld.apart, Reg.FBK_BARRIER_DONE_OLD_PENDING, Reg.FBK_BARRIER_DONE_DONE]
  rw [State.fbkGo]
  refine ⟨?_, ?_, ?_⟩
  · rw [State.fld_setFld_same _ _ _ (by show 8 ≤ 23; decide) (by show 23 < 32; decide)]
    exact Nat.mod_eq_of_lt (Nat.lt_succ_of_le (Nat.min_le_left _ _))
  · rw [State.fld_setFld _ _ _ _ hap, State.fld_setFld_same _ _ _ (by show 0 ≤ 0; decide) (by show 0 < 32; decide)]
    exact Nat.zero_mod _
  · rw [State.setFld_fbk, State.setFld_fbk]

theorem State.fbkDone_regs (k n : Nat) :
    (u.fbkDone k n).fld (Reg.FBK_BARRIER_DONE_OLD_PENDING k) = u.fld (Reg.FBK_BARRIER_DONE_OLD_PENDING k) - n ∧
    (u.fld (Reg.FBK_BARRIER_DONE_OLD_PENDING k) ≤ n → u.oldWaiting k = 0 → (u.fbkDone k n).fld (Reg.FBK_BARRIER_DONE_DONE k) = 1) ∧
    (n < u.fld (Reg.FBK_BARRIER_DONE_OLD_PENDING k) →
      (u.fbkDone k n).fld (Reg.FBK_BARRIER_DONE_DONE k) = u.fld (Reg.FBK_BARRIER_DONE_DONE k)) := by
  have hap : (Reg.FBK_BARRIER_DONE_OLD_PENDING k).apart (Reg.FBK_BARRIER_DONE_DONE k) = true := by
    simp [Fld.apart, Reg.FBK_BARRIER_DONE_OLD_PENDING, Reg.FBK_BARRIER_DONE_DONE]
  have hpa : (Reg.FBK_BARRIER_DONE_DONE k).apart (Reg.FBK_BARRIER_DONE_OLD_PENDING k) = true := by
    simp [Fld.apart, Reg.FBK_BARRIER_DONE_OLD_PENDING, Reg.FBK_BARRIER_DONE_DONE]
  have hlt : u.fld (Reg.FBK_BARRIER_DONE_OLD_PENDING k) < 65536 := bitsAt_lt _ 23 8
  have hset := (State.fld_setFld_same u (Reg.FBK_BARRIER_DONE_OLD_PENDING k) (u.fld (Reg.FBK_BARRIER_DONE_OLD_PENDING k) - n)
    (by show 8 ≤ 23; decide) (by show 23 < 32; decide)).trans (Nat.mod_eq_of_lt (Nat.lt_of_le_of_lt (Nat.sub_le _ _) hlt))
  rw [State.fbkDone]
  refine ⟨?_, fun hn ho => ?_, fun hn => ?_⟩
  · split
    · exact (State.fld_setFld _ _ _ _ hpa).trans hset
    · exact hset
  · rw [if_pos (by rw [Nat.sub_eq_zero_of_le hn, ho]; rfl)]
    exact State.fld_setFld_same _ _ _ (by show 0 ≤ 0; decide) (by show 0 < 32; decide)
  · rw [if_neg (by simp; omega)]
    exact State.fld_setFld _ _ _ _ hap

/-! ### Injection by command -/

/-- An injection that is neither refused nor met at once waits for its check. -/
theorem cmdHltInject_waits {r : Req} {a b v : State} (hc : passes (chkHltInject r u) = true)
    (ha : a = ((u.w1c Reg.HLT_INJ_STAT_DONE).w1c Reg.HLT_INJ_STAT_EXPIRED).w1c Reg.HLT_INJ_STAT_REFUSED)
    (hb : b = ((a.wr Reg.HLT_INJ_SEL (r.u8 16 * 2 ^ 24 + r.u16 18)).wr Reg.HLT_INJ_PARAM (r.u32 20)).wr64 Reg.HLT_INJ_ADDR_LO
      Reg.HLT_INJ_ADDR_HI (r.u64 24 / 64 * 64))
    (hv : v = ((b.injKey 0x1E57).injKey 0xA11C).injGo) (hr : v.isSet Reg.HLT_INJ_STAT_REFUSED = false)
    (hd : v.isSet Reg.HLT_INJ_STAT_DONE = false) : cmdHltInject r u = (v.setHlt { v.hlt with injWaiter := some r.waiter }, .wait) := by
  rw [cmdHltInject, State.refuseOr_pass _ _ hc]
  dsimp only
  rw [← ha, ← hb, ← hv, if_neg (by rw [hr]; exact Bool.false_ne_true), if_neg (by rw [hd]; exact Bool.false_ne_true)]

/-- A check by command is recorded with its waiter and its deadline. -/
theorem cmdCvuCheck_waits {r : Req} (hc : passes (chkCvuCheck r u) = true) : ∃ v : State, cmdCvuCheck r u = (v, .wait) ∧
    (v.cvuSt (r.u8 16)).waiter = some r.waiter ∧ (v.cvuSt (r.u8 16)).deadline = u.tick + r.u16 18 * ticksPerMs := by
  refine ⟨_, State.refuseOr_pass _ _ hc, ?_, ?_⟩
  · rw [State.setCvu_cvuSt_same]
  · rw [State.setCvu_cvuSt_same]

/-! ### Check-value units -/

theorem bitAt_eq_bitsAt (x i : Nat) : bitAt x i = (bitsAt x i i == 1) := by
  rw [bitAt, bitsAt, Nat.add_sub_cancel_left, pow_one]

theorem bitAt_withBits_same (x i v : Nat) : bitAt (withBits x i i v) i = (v % 2 == 1) := by
  rw [bitAt_eq_bitsAt, bitsAt_withBits _ _ _ _ (Nat.le_refl i), Nat.add_sub_cancel_left, pow_one]

theorem bitAt_withBits_above (x v : Nat) {hi lo i : Nat} (h : lo ≤ hi + 1) (hi' : hi < i) : bitAt (withBits x hi lo v) i = bitAt x i := by
  rw [bitAt_eq_bitsAt, bitsAt_withBits_above _ _ _ _ _ _ h hi', ← bitAt_eq_bitsAt]

theorem bitAt_withBits_below (x v : Nat) {hi lo i : Nat} (h : lo ≤ hi + 1) (hi' : i < lo) : bitAt (withBits x hi lo v) i = bitAt x i := by
  rw [bitAt_eq_bitsAt, bitsAt_withBits_below _ _ _ _ _ _ h hi', ← bitAt_eq_bitsAt]

/-- Bits 30 and 29 are clear where the field of both is. -/
theorem bitAt_withBits_goAbort (x : Nat) : bitAt (withBits x 30 29 0) 30 = false ∧ bitAt (withBits x 30 29 0) 29 = false := by
  have h := bitsAt_withBits x 30 29 0 (by decide)
  rw [bitsAt] at h
  simp only [bitAt, beq_eq_false_iff_ne]
  omega

theorem State.cvuControl_go (k v : Nat) (h29 : bitAt v 29 = false) (h30 : bitAt v 30 = true) : let g := u.cvuConfigWrite k v
    u.cvuControl k v = (if bitAt v 28 then g.cvuReset k else g).cvuGo k := by
  intro g
  rw [State.cvuControl, h29, h30]
  rfl

theorem State.cvuControl_reset (k v : Nat) (h28 : bitAt v 28 = true) (h29 : bitAt v 29 = false) (h30 : bitAt v 30 = false) :
    u.cvuControl k v = (u.cvuConfigWrite k v).cvuReset k := by
  rw [State.cvuControl, h28, h29, h30]
  rfl

theorem State.cvuControl_abort (k v : Nat) (h28 : bitAt v 28 = false) (h29 : bitAt v 29 = true) (h30 : bitAt v 30 = false)
    (hb : (u.cvuConfigWrite k v).isSet (Reg.CVU_CTRL_BUSY k) = true) : let x := u.cvuConfigWrite k v
    u.cvuControl k v = x.setCvu k { x.cvuSt k with aborting := true } := by
  intro x
  rw [State.cvuControl, h28, h29, h30]
  rw [if_neg Bool.false_ne_true, if_neg Bool.false_ne_true, if_pos (by rw [hb]; rfl)]

theorem State.cvuDataWrite_word {k : Nat} (w : Nat) (hb : u.isSet (Reg.CVU_CTRL_BUSY k) = false) (hf : u.fld (Reg.CVU_CTRL_FEED_BYTES k) = 0) :
    u.cvuDataWrite k [w] = u.cvuFeed k (leBytes 4 w) := by
  rw [State.cvuDataWrite]
  rw [if_neg (by rw [hb]; exact Bool.false_ne_true), hf]
  exact congrArg (u.cvuFeed k) ((List.append_nil _).trans (List.take_of_length_le (Nat.le_of_eq (leBytes_length 4 w))))

theorem exec_cvuScanComplete_whole {dt : Nat} {k : Fin 4} {s v : State} {st : Nat} (done : Nat)
    (hb : (s.pass dt).isSet (Reg.CVU_CTRL_BUSY k.val) = true) (ha : ((s.pass dt).cvuSt k.val).aborting = false)
    (hw : ((s.pass dt).cvuSt k.val).waiter = none) (hx : (s.pass dt).cvuBlocks k.val ((s.pass dt).cvuSt k.val).endAddr none
      ((((s.pass dt).cvuSt k.val).endAddr - (s.pass dt).rd64 (Reg.CVU_POS_LO k.val) (Reg.CVU_POS_HI k.val)) / 64 + 2) = (st, v)) :
    exec (.cvuScanComplete dt k done none) s = .next (v.cvuEnd k.val st false) := by
  change execCvuScanComplete dt k done none s = _
  rw [execCvuScanComplete]
  dsimp only
  rw [if_neg (by rw [hb]; exact Bool.false_ne_true), ha, hw, Option.isSome_none, Bool.false_and, Bool.false_or, if_neg Bool.false_ne_true, hx]
  rfl

end

/-- Settles O23: each event and command has its own effect. -/
theorem healthComplete : Obligations.HealthComplete := by
  intro s dt u
  refine ⟨fun k hf hr hy hi => exec_watchdogExpiry_running k hf hr hy hi, fun hf hr hi => exec_lockstepMismatch_running hf hr hi,
    fun l h => congrArg _ (if_pos h), fun v => rfl, fun t hk ha ht => ⟨_, exec_injArmExpiry_due hk ha ht, ?_, ?_⟩,
    fun v h => congrArg _ (if_pos h), rfl, fun k n w v _ _ => rfl, fun k n => ⟨_, rfl, State.fbkGo_regs k.val n.val⟩,
    fun k n => ⟨_, rfl, State.fbkDone_regs k.val n⟩, fun m => ?_,
    fun k h v hm => ⟨?_, ?_, fun h28 hb => ?_⟩, fun k h hm hb => ⟨fun w hf => ?_, fun lo hi => ?_⟩, fun k done hb ha hw => ?_⟩
  · rw [State.setFld_hlt]
    rfl
  · exact (State.fld_setFld_same _ _ _ (by decide) (by decide)).trans (Nat.zero_mod _)
  · intro r
    refine ⟨fun h hc => performs_of_ok rfl h (State.refuseOr_pass _ _ hc), fun h => performs_of_ok rfl h rfl,
      fun h hc => performs_of_ok rfl h (State.refuseOr_pass _ _ hc), fun h hc => ?_, fun h hc => ?_⟩
    · intro a b v hr hd
      exact waits_of_wait rfl h (cmdHltInject_waits hc rfl rfl rfl hr hd)
    · obtain ⟨v, hv, hst⟩ := cmdCvuCheck_waits hc
      exact ⟨v, waits_of_wait rfl h hv, hst⟩
  · have h29 := bitAt_withBits_same (withBits v.toNat 30 30 1) 29 0
    have h30 := (bitAt_withBits_above (withBits v.toNat 30 30 1) 0 (hi := 29) (lo := 29) (i := 30) (by decide) (by decide)).trans
      (bitAt_withBits_same v.toNat 30 1)
    have h28 := (bitAt_withBits_below (withBits v.toNat 30 30 1) 0 (hi := 29) (lo := 29) (i := 28) (by decide) (by decide)).trans
      (bitAt_withBits_below v.toNat 1 (hi := 30) (lo := 30) (i := 28) (by decide) (by decide))
    refine congrArg Host.Outcome.next ((if_pos hm).trans ?_)
    rw [State.cvuControl_go k.val _ h29 h30, h28]
  · obtain ⟨h30, h29⟩ := bitAt_withBits_goAbort v.toNat
    exact congrArg Host.Outcome.next ((if_pos hm).trans (State.cvuControl_reset k.val _ (bitAt_withBits_same _ 28 1)
      ((bitAt_withBits_above _ _ (by decide) (by decide)).trans h29) ((bitAt_withBits_above _ _ (by decide) (by decide)).trans h30)))
  · have h28' := (bitAt_withBits_below (withBits v.toNat 30 30 0) 1 (hi := 29) (lo := 29) (i := 28) (by decide) (by decide)).trans
      ((bitAt_withBits_below v.toNat 0 (hi := 30) (lo := 30) (i := 28) (by decide) (by decide)).trans h28)
    exact congrArg Host.Outcome.next ((if_pos hm).trans (State.cvuControl_abort k.val _ h28' (bitAt_withBits_same _ 29 1)
      ((bitAt_withBits_above _ _ (by decide) (by decide)).trans (bitAt_withBits_same _ 30 0)) hb))
  · exact congrArg Host.Outcome.next ((if_pos hm).trans (State.cvuDataWrite_word w.toNat hb hf))
  · exact congrArg Host.Outcome.next ((if_pos hm).trans (if_neg (by rw [hb]; exact Bool.false_ne_true)))
  · intro c p
    rcases hx : u.cvuBlocks k.val c.endAddr none ((c.endAddr - p) / 64 + 2) with ⟨st, v⟩
    exact exec_cvuScanComplete_whole done hb ha hw hx

end Sys2Proof.Machine
end

-- Accesses of the host, of engines and of the debug master (spec/01_architecture.md, spec/16_firebreak.md): O1.
section
/-! PROOF. Accesses inside the form of R439, power-down, promotion, the scrubber and register accesses. -/
namespace Sys2Proof.Machine

open Sys2Proof

section
variable {u : State}

/-! ### Accesses that find their memory free -/

theorem State.pairSend_off (type : Nat) (b : List Byte) (h : u.pair.mirroring = false) : u.pairSend type b = u := by
  rw [State.pairSend, if_neg (by rw [h]; exact Bool.false_ne_true)]

theorem State.foldl_pairSend_off {α : Type} (type : Nat) (g : α → List Byte) (l : List α) (h : u.pair.mirroring = false) :
    l.foldl (fun t i => t.pairSend type (g i)) u = u := by
  induction l with
  | nil => rfl
  | cons i l ih => rw [List.foldl_cons, State.pairSend_off _ _ h, ih]

theorem State.updHbm_pair (s : State) (x : HbmSt) : ({ s with hbm := x } : State).pair = s.pair := (rfl)

theorem State.touch_pair (s : State) (a n : Nat) : (s.touch a n).pair = s.pair := by
  have hfold (p : State → Nat → Bool) (l : List Nat) (t : State) :
      (l.foldl (fun t k => if p t k then t.showDown k else t) t).pair = t.pair := by
    induction l generalizing t with
    | nil => rfl
    | cons k l ih =>
      rw [List.foldl_cons, ih]
      split
      · rw [State.showDown, State.setFld_pair]
      · rfl
  rw [State.touch]
  split
  · rfl
  · exact (hfold (fun t k => (channelsOf a n).any (fun c => c / 32 == k) && t.isSet (memReadyField k) && t.fld (pdField k) != 0) _ _).trans
      (State.updHbm_pair _ _)

theorem State.spanOpen_of_memFree {a n : Nat} (h : u.memFree a n = true) : u.spanOpen a n = true := by
  rw [State.memFree, Bool.and_eq_true] at h
  exact h.1

/-- A write whose memory is free is made at once. -/
theorem State.askMem_write_free {k a n : Nat} {data : List Byte} {ecc : List Nat} (low : Bool) (h : u.memFree a data.length = true) :
    u.askMem k a true data n ecc false low = (u.touch a data.length).memWrite a data := by
  rw [State.askMem_free (write := true) (data := data) h, State.serveReq]
  exact (if_pos rfl).trans (State.storeMem_open (State.spanOpen_of_memFree h))

/-- A read whose memory is free is served at once. -/
theorem State.askMem_read_free {k a n : Nat} {ecc : List Nat} (low : Bool) (h : u.memFree a n = true) :
    let v := (u.touch a n).eccSpan a n ecc
    u.askMem k a false [] n ecc false low = { v.2 with readData := v.2.viewNat a n, readPoison := v.1 } := by
  rw [State.askMem_free (write := false) (len := n) h, State.serveReq]
  dsimp only
  rw [if_neg Bool.false_ne_true, State.loadMem_open (State.spanOpen_of_memFree h)]
  rfl

/-! ### The host -/

theorem State.unpopulated_bar2 {a : Nat} (hp : u.hostPort = true) (hs : u.fld Reg.SYS_PWR_STATE ≠ 2) (ha : 0xC00000000 ≤ a) (hl : a < 2 ^ 36) :
    u.unpopulated true false a = ({ u with readData := 0 } : State).accessError 2 a ∧ u.unpopulated true true a = u.accessError 3 a := by
  have hin : within 0xC00000000 0xFFFFFFFFF a = true := by
    rw [within, Bool.and_eq_true, decide_eq_true_eq, decide_eq_true_eq]
    omega
  have hpw : (u.fld Reg.SYS_PWR_STATE == 2) = false := beq_eq_false_iff_ne.mpr hs
  constructor
  · rw [State.unpopulated, if_neg (by rw [hp]; exact Bool.false_ne_true), if_neg (by rw [hpw]; exact Bool.false_ne_true), if_pos rfl, if_pos hin,
      if_neg Bool.false_ne_true]
  · rw [State.unpopulated, if_neg (by rw [hp]; exact Bool.false_ne_true), if_neg (by rw [hpw]; exact Bool.false_ne_true), if_pos rfl, if_pos hin,
      if_pos rfl]

theorem State.bar2Write_free {a : Nat} {data : List Byte} (hp : u.hostPort = true) (hs : u.fld Reg.SYS_PWR_STATE ≠ 2) (hd : inDeviceMem a = true)
    (hr : (u.drives || u.isSet Reg.MBX_STATUS_RECOVERY) = true) (hw : u.windowAt a = none) (hf : u.fbkDenies fbkHost a true = none)
    (hm : u.pair.mirroring = false) (h : u.memFree a data.length = true) :
    u.bar2Write a data false = (u.touch a data.length).memWrite a data := by
  have hpw : (u.fld Reg.SYS_PWR_STATE == 2) = false := beq_eq_false_iff_ne.mpr hs
  have hdr : (!u.drives && !u.isSet Reg.MBX_STATUS_RECOVERY) = false := by rw [← Bool.not_or, hr]; rfl
  have hpair : ((u.touch a data.length).memWrite a data).pair.mirroring = false := by rw [State.memWrite_pair, State.touch_pair, hm]
  rw [State.bar2Write, if_neg (by rw [hp, hpw]; exact Bool.false_ne_true), if_neg (by rw [hd]; exact Bool.false_ne_true),
    if_neg (by rw [hdr]; exact Bool.false_ne_true), hw, hf]
  dsimp only
  rw [State.askMem_write_free false h]
  exact State.foldl_pairSend_off _ _ _ hpair

theorem State.bar2Read_free {a n : Nat} {ecc : List Nat} (hp : u.hostPort = true) (hs : u.fld Reg.SYS_PWR_STATE ≠ 2) (hd : inDeviceMem a = true)
    (hf : u.fbkDenies fbkHost a false = none) (h : u.memFree a n = true) : let v := (u.touch a n).eccSpan a n ecc
    u.bar2Read a n ecc false = { v.2 with readData := v.2.viewNat a n, readPoison := v.1 } := by
  have hpw : (u.fld Reg.SYS_PWR_STATE == 2) = false := beq_eq_false_iff_ne.mpr hs
  rw [State.bar2Read, if_neg (by rw [hp]; exact Bool.false_ne_true), if_neg (by rw [hpw]; exact Bool.false_ne_true),
    if_neg (by rw [hd]; exact Bool.false_ne_true), hf]
  exact State.askMem_read_free false h

/-! ### Engines and the debug master -/

theorem State.engineRequest_units {k a n : Nat} {data : List Byte} {met : MemMet} (hk : k < 2) : u.engineRequest k a true data n met = u := by
  rw [State.engineRequest, if_pos hk]

theorem State.engineRequest_ranger {k a n : Nat} {data : List Byte} {met : MemMet} (hk : 2 ≤ k)
    (hr : (within 2 4 k && within 0xFF00000000 0xFF00FFFFFF a) = true) :
    u.engineRequest k a true data n met = u.rangerReg (k - 2) (a - 0xFF00000000) true data n := by
  rw [State.engineRequest, if_neg (Nat.not_lt.mpr hk), if_pos hr]

theorem State.engineRequest_free {k a n : Nat} {data : List Byte} {ecc : List (Fin 4)} (hk : 2 ≤ k)
    (hr : (within 2 4 k && within 0xFF00000000 0xFF00FFFFFF a) = false) (hc : (u.fbkCheck k a true data.length).1 = true)
    (h : (u.fbkCheck k a true data.length).2.2.memFree a data.length = true) :
    u.engineRequest k a true data n ⟨ecc, false⟩ = ((u.fbkCheck k a true data.length).2.2.touch a data.length).memWrite a data := by
  rw [State.engineRequest, if_neg (Nat.not_lt.mpr hk), if_neg (by rw [hr]; exact Bool.false_ne_true), State.engineAccess]
  dsimp only
  rw [if_pos rfl]
  rcases hx : u.fbkCheck k a true data.length with ⟨ok, l, t⟩
  rw [hx] at hc h
  dsimp only at hc h ⊢
  rw [if_neg (by rw [hc]; exact Bool.false_ne_true), State.askMem_write_free _ h]
  rfl

theorem State.debugAccess_free {a n : Nat} {data : List Byte} {ecc : List Nat} (he : u.isSet Reg.SYS_STRAPS_DBG_EN = true)
    (hl : u.fbkLocked a = false) (hr : within 0xFF00000000 0xFF00FFFFFF a = false) (hf : u.fbkDenies fbkDbg a true = none)
    (h : u.memFree a data.length = true) : u.debugAccess a true data n ecc = (u.touch a data.length).memWrite a data := by
  rw [State.debugAccess]
  dsimp only
  rw [if_neg (by rw [hl]; exact Bool.false_ne_true), if_neg (by rw [he]; exact Bool.false_ne_true),
    if_neg (by rw [hr]; exact Bool.false_ne_true), hf]
  exact State.askMem_write_free false h

/-! ### Power-down and promotion -/

theorem State.powerDown_idle {c : Nat} (hr : u.isSet (memReadyField (c / 32)) = true) (hp : u.fld (pdField (c / 32)) ≠ 2)
    (ht : 80 ≤ u.fld Reg.MEM_TOL_MIN_TOL_NS) (hi : u.idleFor c 80 = true) (hc : c ∉ u.hbm.down) :
    u.powerDown c = ({ u with hbm := { u.hbm with down := c :: u.hbm.down } } : State).showDown (c / 32) := by
  rw [State.powerDown]
  exact if_pos (by simp [hr, hp, ht, hi, hc])

theorem State.selfRefresh_idle {k : Nat} (hr : u.isSet (memReadyField k) = true) (ht : 4000 ≤ u.fld Reg.MEM_TOL_MIN_TOL_NS)
    (hi : u.stackIdle k (10 * ticksPerUs) = true) : u.selfRefresh k =
      ({ u with hbm := { u.hbm with down := u.hbm.down.filter fun c => c / 32 != k } } : State).setFld (pdField k) 2 := by
  rw [State.selfRefresh]
  exact if_pos (by rw [hr, hi, decide_eq_true ht]; rfl)

theorem HbmSt.waiting_nil {x : HbmSt} (h : x.waiting = []) : { x with waiting := [] } = x := by rw [← h]

theorem State.promote_none (h : u.hbm.waiting = []) : u.promote = u := by
  rw [State.promote, h]
  exact congrArg (fun x => { u with hbm := x }) (HbmSt.waiting_nil h)

theorem State.serveDue_none (sel : MemReq × Nat → Bool) (h : u.hbm.waiting = []) : u.serveDue sel = u := by
  rw [State.serveDue, h]
  exact congrArg (fun x => { u with hbm := x }) (HbmSt.waiting_nil h)

/-- A request that has waited long at the lowest level goes up one. -/
theorem State.promote_one {r : MemReq} (h : u.hbm.waiting = [r]) (ho : u.overdue r = true) :
    u.promote = { u with hbm := { u.hbm with waiting := [{ r with level := 2 }] } } := by
  rw [State.promote, h, List.map_cons, ho]
  rfl

/-- One request that is due is served alone. -/
theorem State.serveDue_one {r : MemReq} {sel : MemReq × Nat → Bool} (h : u.hbm.waiting = [r]) (hs : sel (r, 0) = true) (hl : r.level = 2) :
    u.serveDue sel = ({ u with hbm := { u.hbm with waiting := [] } } : State).serveReq r := by
  have hk : dueWith [r].zipIdx sel [r].zipIdx.length = [(r, 0)] := by simp [dueWith, hs]
  have hv : ([1, 2, 3].flatMap fun v => [(r, 0)].filter fun p => p.1.level == v) = [(r, 0)] := by simp [hl]
  have hf : ([r].zipIdx.filter fun p => !List.contains [(r, 0)] p) = [] := by simp
  rw [State.serveDue, h]
  dsimp only
  rw [hk, hv, hf]
  rfl

/-! ### The scrubber -/

theorem State.rd64_wr64 (s : State) {lo hi v : Nat} (h : lo ≠ hi) (hv : v < 2 ^ 64) : (s.wr64 lo hi v).rd64 lo hi = v := by
  rw [State.rd64, State.wr64, State.rd_wr_other _ _ h.symm, State.rd_wr_same, State.rd_wr_same]
  omega

theorem State.scrub_visits (ecc : List Nat) (he : u.isSet Reg.MEM_SCRUB_CTRL_EN = true)
    (hr : u.isSet (memReadyField (stackOf (u.rd64 Reg.MEM_SCRUB_POS_LO Reg.MEM_SCRUB_POS_HI))) = true) (hd : u.scrubDue = true) :
    let a := u.rd64 Reg.MEM_SCRUB_POS_LO Reg.MEM_SCRUB_POS_HI
    (u.scrub ecc).hbm.scrubAt = some u.tick ∧
      (u.scrub ecc).rd64 Reg.MEM_SCRUB_POS_LO Reg.MEM_SCRUB_POS_HI = (if a + 64 < 0xC00000000 then a + 64 else 0) := by
  intro a
  rw [State.scrub, if_neg (by rw [he, hr, hd]; exact Bool.false_ne_true)]
  refine ⟨?_, ?_⟩
  · rw [State.wr64_hbm]
  · rw [State.rd64_wr64 _ (by decide)]
    split <;> omega

theorem State.scrubCtrl_regs (v : Nat) : (u.scrubCtrl v).fld Reg.MEM_SCRUB_CTRL_EN = v % 2 ∧
    (u.scrubCtrl v).fld Reg.MEM_SCRUB_CTRL_PERIOD_H = clampTo 1 168 (bitsAt v 8 1) := by
  rw [State.scrubCtrl]
  refine ⟨?_, ?_⟩
  · rw [State.fld_setFld_same _ _ _ (by decide) (by decide)]
    exact Nat.mod_eq_of_lt (Nat.mod_lt _ (by decide))
  · rw [State.fld_setFld _ _ _ _ (by decide), State.fld_setFld_same _ _ _ (by decide) (by decide)]
    exact Nat.mod_eq_of_lt (clampTo_lt 168 (by decide) (bitsAt_lt v 8 1))

end

/-- Settles O1: each access, power state and visit completes with its effect. -/
theorem hostAccessesComplete : Obligations.HostAccessesComplete := by
  intro s dt u
  refine ⟨fun a hp hs ha hl => ?_, fun a data hok hp hs hd hr hw hf hm hfree ht hh => ?_, fun a data held hok ht hh => ?_,
    fun a n ecc hok hp hs hd hf hfree => ?_, fun unit a n data ecc hok => ⟨fun hk => ?_, fun hk hr => ?_, fun hk hr hc hfree => ?_⟩,
    fun a n data ecc hok he hl hr hf hfree => ?_, fun c => ?_, fun stack => ?_, fun h => ?_, fun r h hl hs => ?_,
    fun ecc => ?_, fun v => ⟨_, rfl, State.scrubCtrl_regs v.toNat⟩,
    fun a v hp ha hb => congrArg _ (State.hostRegWrite_word hp v ha hb), fun a v hp ha hb => congrArg _ (State.hostRegWrite_pair hp v ha hb),
    fun a hp ha hb => congrArg _ (State.hostRegRead_word hp ha hb),
    fun a hp ha hb => ⟨_, rfl, ?_⟩⟩
  · obtain ⟨hr, hw⟩ := State.unpopulated_bar2 hp hs ha hl
    exact ⟨congrArg _ hr, congrArg _ hw⟩
  · rw [exec_hostBar2Write]
    refine (accessOutcome_ok hok).trans (congrArg _ ?_)
    rw [State.bar2Post_free hh ht, State.bar2Write_free hp hs hd hr hw hf hm hfree]
  · rw [exec_hostBar2Write]
    exact (accessOutcome_ok hok).trans (congrArg _ (State.bar2Post_throttled hh ht))
  · rw [exec_hostBar2Read]
    exact (accessOutcome_ok hok).trans (congrArg _ (State.bar2Read_free hp hs hd hf hfree))
  · rw [exec_engineMemoryAccess]
    exact (accessOutcome_ok hok).trans (congrArg _ (State.engineRequest_units hk))
  · rw [exec_engineMemoryAccess]
    exact (accessOutcome_ok hok).trans (congrArg _ (State.engineRequest_ranger hk hr))
  · rw [exec_engineMemoryAccess]
    exact (accessOutcome_ok hok).trans (congrArg _ (State.engineRequest_free hk hr hc hfree))
  · rw [exec_debugAccess]
    exact (accessOutcome_ok hok).trans (congrArg _ (State.debugAccess_free he hl hr hf hfree))
  · exact fun hr hp ht hi hc => congrArg _ (State.powerDown_idle hr hp ht hi hc)
  · exact fun hr ht hi => congrArg _ (State.selfRefresh_idle hr ht hi)
  · change execUrgencyPromotion dt s = _
    rw [execUrgencyPromotion, State.promote_none h, State.serveDue_none _ h]
  · have ho : u.overdue r = true := by rw [State.overdue, hl, hs]; rfl
    change execUrgencyPromotion dt s = _
    rw [execUrgencyPromotion]
    dsimp only
    rw [State.promote_one h ho, State.serveDue_one rfl]
    · rw [h, List.map_cons, ho]
      rfl
    · rfl
  · exact fun he hr hd => ⟨_, rfl, State.scrub_visits _ he hr hd⟩
  · rw [State.hostRegRead_pair hp ha hb]

end Sys2Proof.Machine
end

-- What an access stores (spec/01_architecture.md, spec/16_firebreak.md): the writes that wait, and the bytes they may change.
section
/-! SUPPORT. The storage of a state, work that leaves it, and accesses that store within a set of bytes. -/
namespace Sys2Proof.Machine

open Sys2Proof

/-! ### Work that leaves storage, ledger and clocks -/

/-- Device memory and the writes that wait for it. -/
def State.storage (s : State) : List (Nat × Byte) × List MemReq × List HostWrite := (s.mem, s.hbm.waiting, s.pair.hostWait)

/-- What no access of memory changes. -/
def State.side (s : State) : LedgerSt × ClockSt := (s.ldg, s.clk)

/-- `t` comes from `s` by work that stores nothing. -/
structure Kept (s t : State) : Prop where
  storage : t.storage = s.storage
  side : t.side = s.side

section
variable {s t u : State}

theorem Kept.refl (s : State) : Kept s s := ⟨rfl, rfl⟩

theorem Kept.trans (h : Kept s t) (g : Kept t u) : Kept s u := ⟨g.storage.trans h.storage, g.side.trans h.side⟩

theorem Kept.foldl {α : Type} {l : List α} {g : State → α → State} (h : ∀ t x, Kept t (g t x)) : Kept s (l.foldl g s) :=
  List.foldlRecOn (motive := fun t => Kept s t) l g (Kept.refl s) fun t ht x _ => ht.trans (h t x)

theorem Kept.of_reports {R : Nat → Prop} (h : Reports R s t) : Kept s t :=
  ⟨(congrArg (fun q : State => (q.mem, q.hbm.waiting, q.pair.hostWait)) h.quiet :),
    (congrArg (fun q : State => (q.ldg, q.clk)) h.quiet :)⟩

theorem Kept.memByte (h : Kept s t) (b : Nat) : t.memByte b = s.memByte b := by
  have hm : t.mem = s.mem := (congrArg Prod.fst h.storage :)
  rw [State.memByte, State.memByte, hm]

end

section
variable (s : State)

theorem Kept.wr (a v : Nat) : Kept s (s.wr a v) := .of_reports (R := fun _ => True) (Reports.wr s v trivial)
theorem Kept.setFld (f : Fld) (v : Nat) : Kept s (s.setFld f v) := .of_reports (R := fun _ => True) (Reports.setFld s v trivial)
theorem Kept.raise (f : Fld) : Kept s (s.raise f) := .of_reports (R := fun _ => True) (Reports.raise s trivial)
theorem Kept.bump (a n : Nat) : Kept s (s.bump a n) := .of_reports (R := fun _ => True) (Reports.bump s n trivial)
theorem Kept.updHlt (x : HltSt) : Kept s { s with hlt := x } := ⟨(rfl), (rfl)⟩
theorem Kept.setSys (x : SysSt) : Kept s (s.setSys x) := ⟨(rfl), (rfl)⟩
theorem Kept.updFbk (x : FbkSt) : Kept s { s with fbk := x } := ⟨(rfl), (rfl)⟩
theorem Kept.updRead (v : Nat) (p : Bool) : Kept s { s with readData := v, readPoison := p } := ⟨(rfl), (rfl)⟩
theorem Kept.updReadData (v : Nat) : Kept s { s with readData := v } := ⟨(rfl), (rfl)⟩
theorem Kept.updHbm {x : HbmSt} (h : x.waiting = s.hbm.waiting) : Kept s { s with hbm := x } :=
  ⟨congrArg (fun w => (s.mem, w, s.pair.hostWait)) h, (rfl)⟩

theorem State.setRun_kept (det inst : Nat) (r : FaultRun) : Kept s (s.setRun det inst r) := Kept.updHlt ..

theorem State.notice_kept (kind obj : Nat) (d : List Nat) (p : List Byte) (never : Bool) : Kept s (s.notice kind obj d p never) :=
  .of_reports (State.notice_reports ..)

theorem State.logFault_kept (det cls inst : Nat) (inj : Bool) (detail : Nat) : Kept s (s.logFault det cls inst inj detail) :=
  .of_reports (State.logFault_reports ..)

theorem State.pairSend_kept (type : Nat) (b : List Byte) : Kept s (s.pairSend type b) := .of_reports (State.pairSend_reports ..)

end

/-! ### Work that leaves the place of the cell table as well -/

/-- The registers besides the base of the cell table. -/
abbrev offTable (a : Nat) : Prop := a ≠ Reg.LDG_CELLS_BASE_LO ∧ a ≠ Reg.LDG_CELLS_BASE_HI

/-- `t` comes from `s` by work that stores nothing, and what device memory reads as stays. -/
structure Reads (s t : State) : Prop extends Kept s t where
  base : t.cellsBase = s.cellsBase

section
variable {s t u : State}

theorem Reads.refl (s : State) : Reads s s := ⟨Kept.refl s, rfl⟩

theorem Reads.trans (h : Reads s t) (g : Reads t u) : Reads s u := ⟨h.toKept.trans g.toKept, g.base.trans h.base⟩

theorem Reads.of_reports (h : Reports offTable s t) : Reads s t := by
  refine ⟨Kept.of_reports h, ?_⟩
  rw [State.cellsBase, State.cellsBase, State.rd64, State.rd64, h.rd _ fun hn => hn.1 rfl, h.rd _ fun hn => hn.2 rfl]

theorem Reads.foldl {α : Type} {l : List α} {g : State → α → State} (h : ∀ t x, Reads t (g t x)) : Reads s (l.foldl g s) :=
  List.foldlRecOn (motive := fun t => Reads s t) l g (Reads.refl s) fun _ ht x _ => ht.trans (h _ x)

/-- A fold over a pair reads where each step does with the state in it. -/
theorem Reads.foldl_snd {α β : Type} {l : List α} {g : β × State → α → β × State} {p : β × State} (hp : Reads s p.2)
    (h : ∀ p x, Reads p.2 (g p x).2) : Reads s (l.foldl g p).2 :=
  List.foldlRecOn (motive := fun q => Reads s q.2) l g hp fun q hq x _ => hq.trans (h q x)

theorem State.viewByte_congr (h : Reads s t) (a : Nat) : t.viewByte a = s.viewByte a := by
  have hl : t.ldg = s.ldg := (congrArg Prod.fst h.side :)
  rw [State.viewByte, State.viewByte, State.inCells, State.inCells, State.cell, State.cell, h.base, hl, h.memByte]

/-- What device memory reads as. -/
theorem Reads.viewNat (h : Reads s t) (a n : Nat) : t.viewNat a n = s.viewNat a n := by
  have hm : t.mem = s.mem := (congrArg Prod.fst h.storage :)
  simp only [State.viewNat, State.viewBytes, h.base, State.viewByte_congr h, State.memBytes, hm]

end

section
variable (s : State)

theorem Reads.wr {a : Nat} (v : Nat) (h : offTable a) : Reads s (s.wr a v) := .of_reports (Reports.wr s v h)
theorem Reads.setFld {f : Fld} (v : Nat) (h : offTable f.addr) : Reads s (s.setFld f v) := .of_reports (Reports.setFld s v h)
theorem Reads.raise {f : Fld} (h : offTable f.addr) : Reads s (s.raise f) := .of_reports (Reports.raise s h)
theorem Reads.bump {a : Nat} (n : Nat) (h : offTable a) : Reads s (s.bump a n) := .of_reports (Reports.bump s n h)
theorem Reads.updHlt (x : HltSt) : Reads s { s with hlt := x } := ⟨Kept.updHlt s x, (rfl)⟩
theorem Reads.updHbm {x : HbmSt} (h : x.waiting = s.hbm.waiting) : Reads s { s with hbm := x } := ⟨Kept.updHbm s h, (rfl)⟩
theorem Reads.updFbk (x : FbkSt) : Reads s { s with fbk := x } := ⟨Kept.updFbk s x, (rfl)⟩

theorem offTable_of_faultRegs {cls a : Nat} (hc : cls ≤ 3) (h : faultRegs cls a) : offTable a := by
  simp only [faultRegs, triggerRegs, ringRegs, classCounter, Reg.BLZ_STATUS, Reg.BLZ_STAT, Reg.BLZ_CNT_COALESCED, Reg.BLZ_CNT_DROP,
    Reg.HLT_LOG_PROD, Reg.HLT_CNT_CORRECTED, Reg.HLT_STATUS] at h
  simp only [offTable, Reg.LDG_CELLS_BASE_LO, Reg.LDG_CELLS_BASE_HI]
  omega

theorem State.logFault_reads (det inst : Nat) (inj : Bool) (detail : Nat) {cls : Nat} (hc : cls ≤ 3) :
    Reads s (s.logFault det cls inst inj detail) :=
  .of_reports ((State.logFault_reports ..).mono fun _ h => offTable_of_faultRegs hc h)

theorem State.injTake_reads (det inst : Nat) (c : Nat → Nat) : Reads s (s.injTake det inst c).2 := by
  rw [State.injTake]
  split
  · exact Reads.updHlt ..
  · split
    · split
      · exact (((Reads.updHlt ..).trans (Reads.setFld _ _ (by decide))).trans (Reads.raise _ (by decide))).trans (Reads.bump _ _ (by decide))
      · exact Reads.refl s
    · exact Reads.refl s

/-! ### What a read of memory meets (R35 to R37) -/

theorem State.showDown_reads (k : Nat) : Reads s (s.showDown k) := by
  refine Reads.setFld s _ ?_
  rw [pdField]
  split <;> decide

theorem State.touch_reads (a n : Nat) : Reads s (s.touch a n) := by
  rw [State.touch]
  split
  · exact Reads.refl s
  · extract_lets l src s1
    have hused : Reads s s1 := Reads.updHbm s rfl
    refine hused.trans (Reads.foldl fun t k => ?_)
    split
    · exact State.showDown_reads t k
    · exact Reads.refl t

theorem State.eccFound_reads (a e : Nat) (inj : Bool) : Reads s (s.eccFound a e inj) := by
  rw [State.eccFound]
  split
  · exact Reads.refl s
  · split
    · exact (Reads.bump _ _ (by decide)).trans (State.logFault_reads _ _ _ _ _ (by decide))
    · split
      · exact (Reads.bump _ _ (by decide)).trans (State.logFault_reads _ _ _ _ _ (by decide))
      · exact ((((Reads.bump _ _ (by decide)).trans (Reads.wr _ _ (by decide))).trans (Reads.setFld _ _ (by decide))).trans
          (Reads.raise _ (by decide))).trans (State.logFault_reads _ _ _ _ _ (by decide))

theorem State.blockInjection_reads (det a : Nat) : Reads s (s.blockInjection det a).2 := by
  rw [State.blockInjection]
  split
  · exact State.injTake_reads ..
  · exact Reads.refl s

theorem State.keepError_reads (a e : Nat) : Reads s (s.keepError a e) := Reads.updHbm _ rfl

theorem State.eccBlock_reads (a : Nat) (met : List Nat) : Reads s (s.eccBlock a met).2 := by
  have h1 := State.blockInjection_reads s 1 (a / 64 * 64)
  rw [State.eccBlock]
  rcases hi : s.blockInjection 1 (a / 64 * 64) with ⟨i1, s1⟩
  have h2 := State.blockInjection_reads s1 2 (a / 64 * 64)
  rcases hj : s1.blockInjection 2 (a / 64 * 64) with ⟨i2, s2⟩
  rw [hi] at h1
  rw [hj] at h2
  dsimp -zeta only at h1 h2 ⊢
  rw [hj]
  dsimp -zeta only
  extract_lets words s3 struck own
  have herr : Reads s s3 := by
    refine (h1.trans h2).trans (Reads.foldl fun t k => ?_)
    split
    · exact State.keepError_reads ..
    · exact Reads.refl t
  split
  · have hfold : Reads s3 (own.foldl (fun t w => t.eccFound (a / 64 * 64) w.2 (struck w.1)) s3) :=
      Reads.foldl fun t w => State.eccFound_reads t _ _ _
    exact herr.trans hfold
  · have hfold (l : List (Nat × Nat)) : Reads s3 (l.foldl (fun t w => t.eccFound (a / 64 * 64) 1 (struck w.1)) s3) :=
      Reads.foldl fun t w => State.eccFound_reads t _ _ _
    extract_lets e
    dsimp -zeta only
    exact (herr.trans (hfold (own.filter fun w => w.2 == 1))).trans (State.eccFound_reads _ _ e true)

theorem State.eccSpan_reads (a n : Nat) (ecc : List Nat) : Reads s (s.eccSpan a n ecc).2 := by
  rw [State.eccSpan]
  split
  · exact Reads.refl s
  · exact Reads.foldl_snd (Reads.refl s) fun p i => State.eccBlock_reads ..

theorem State.meetRead_reads (a n : Nat) (ecc : List Nat) : Reads s (s.meetRead a n ecc).2 := by
  rw [State.meetRead]
  dsimp only
  split
  · exact (State.touch_reads ..).trans (State.eccSpan_reads ..)
  · refine Reads.foldl_snd (State.touch_reads ..) fun p x => ?_
    split
    · exact Reads.refl _
    · exact State.eccSpan_reads ..

theorem State.loadMem_kept (a n : Nat) (ecc : List Nat) : Kept s (s.loadMem a n ecc).2.2 := (State.meetRead_reads ..).toKept

/-! ### Denials and errors (R437, R445, R446, R450) -/

theorem State.fbkCapture_kept (k a : Nat) (write : Bool) (len cause : Nat) : Kept s (s.fbkCapture k a write len cause) := by
  rw [State.fbkCapture]
  split
  · exact (Kept.bump ..).trans (Kept.raise ..)
  · exact ((((((Kept.bump ..).trans (Kept.raise ..)).trans (Kept.setFld ..)).trans (Kept.setFld ..)).trans (Kept.setFld ..)).trans
      (Kept.wr ..)).trans (Kept.setFld ..)

theorem State.fbkViolate_kept (k a : Nat) (write : Bool) (len cause : Nat) (inj : Bool) : Kept s (s.fbkViolate k a write len cause inj).2 := by
  have hcap := State.fbkCapture_kept s k a write len cause
  rw [State.fbkViolate]
  generalize s.fbkCapture k a write len cause = c at hcap ⊢
  dsimp only
  have hviol (x : FbkSt) : Kept s { c with fbk := x } := hcap.trans (Kept.updFbk c x)
  split
  · split
    · exact (((hviol _).trans (State.setRun_kept _ _ _ _)).trans (State.logFault_kept _ _ _ _ _ _)).trans (State.notice_kept _ _ _ _ _ _)
    · exact hviol _
  · exact (hviol _).trans (State.setRun_kept _ _ _ _)

theorem State.fbkCheck_kept (k a : Nat) (write : Bool) (len : Nat) : Kept s (s.fbkCheck k a write len).2.2 := by
  have hinj := (State.injTake_reads s 0x10 k fun p => p).toKept
  rw [State.fbkCheck]
  dsimp only
  split
  · exact hinj
  · exact hinj.trans (State.fbkViolate_kept ..)
  · exact hinj.trans (State.fbkViolate_kept ..)

theorem State.hostViolation_kept (a : Nat) (write : Bool) (len cause : Nat) : Kept s (s.hostViolation a write len cause) :=
  (State.fbkCapture_kept ..).trans (State.notice_kept ..)

theorem State.windowHit_kept (w a : Nat) : Kept s (s.windowHit w a) :=
  (((Kept.bump ..).trans (Kept.bump ..)).trans (Kept.bump ..)).trans (State.notice_kept ..)

theorem State.accessError_kept (kind a : Nat) : Kept s (s.accessError kind a) := by
  have hcap (t : State) : Kept t ((((t.raise Reg.SYS_ACC_ERR_STAT_VALID).setFld Reg.SYS_ACC_ERR_STAT_KIND kind).wr Reg.SYS_ACC_ERR_ADDR_LO
      (a % 2 ^ 32)).setFld Reg.SYS_ACC_ERR_ADDR_HI_ADDR (a / 2 ^ 32)) :=
    (((Kept.raise ..).trans (Kept.setFld ..)).trans (Kept.wr ..)).trans (Kept.setFld ..)
  rw [State.accessError]
  split
  · split
    · exact ((Kept.raise ..).trans (Kept.setSys ..)).trans (hcap _)
    · exact (Kept.raise ..).trans (Kept.setSys ..)
  · exact ((hcap s).trans (Kept.setSys ..)).trans (State.notice_kept ..)

theorem State.debugDenied_kept (a : Nat) (write : Bool) (len cause : Nat) : Kept s (s.debugDenied a write len cause) := by
  have htrig (c t : State) (h : Kept s c) (ht : Kept c t) : Kept s (if write then t else { t with readData := 0 }) := by
    split
    · exact h.trans ht
    · exact (h.trans ht).trans (Kept.updReadData t 0)
  have hrep := ((State.fbkCapture_kept s fbkDbg a write len cause).trans (State.notice_kept _ 0x0E02 fbkDbg [0]
    (pack [(1, ofBool write), (3, 0), (8, a), (4, 1)]) false)).trans (.of_reports (State.blzTrigger_reports _ 2 (a / 4096 % 65536) 2
      (pack [(8, a), (1, ofBool write)]) false))
  rw [State.debugDenied]
  refine htrig _ _ hrep ?_
  split
  · exact Kept.raise ..
  · exact Kept.refl _

end

end Sys2Proof.Machine
end

-- Accesses that wait and are served (spec/01_architecture.md, spec/16_firebreak.md): no byte but those that are named or waited for.
section
/-! SUPPORT. A set of bytes that holds every write that waits, and the work that stores to no byte outside it. -/
namespace Sys2Proof.Machine

open Sys2Proof

/-! ### Bytes that may change -/

/-- `V` holds the bytes that `data` written at `a` stores to. -/
def Covers (V : Nat → Prop) (a : Nat) (data : List Byte) : Prop := ∀ b, a ≤ b → b < a + data.length → V b

/-- `V` holds the bytes that the writes waiting for device memory store to. -/
structure Within (V : Nat → Prop) (s : State) : Prop where
  waiting : ∀ r ∈ s.hbm.waiting, r.write = true → Covers V r.addr r.data
  hostWait : ∀ w ∈ s.pair.hostWait, Covers V w.a w.data

/-- `t` comes from `s` by work that stores to bytes of `V` alone, as the writes that still wait do. -/
structure Stores (V : Nat → Prop) (s t : State) : Prop where
  within : Within V t
  mem : ∀ b, ¬V b → t.memByte b = s.memByte b

/-- Work that stores to bytes of `V` alone and leaves the ledger and the clocks. -/
structure Serves (V : Nat → Prop) (s t : State) : Prop extends Stores V s t where
  side : t.side = s.side

section
variable {V : Nat → Prop} {s t u : State}

theorem State.within_waitingStore {W : Nat → Prop} (h : ∀ b, s.waitingStore b = true → W b) : Within W s := by
  refine ⟨fun r hr hw b ha hb => h b ?_, fun w hw b ha hb => h b ?_⟩
  · rw [State.waitingStore, Bool.or_eq_true]
    exact .inl (List.any_eq_true.mpr ⟨r, hr, by rw [hw, decide_eq_true ha, decide_eq_true hb]; rfl⟩)
  · rw [State.waitingStore, Bool.or_eq_true]
    exact .inr (List.any_eq_true.mpr ⟨w, hw, by rw [decide_eq_true ha, decide_eq_true hb]; rfl⟩)

theorem Within.of_storage (h : Within V s) (hs : t.storage = s.storage) : Within V t := by
  have hw : t.hbm.waiting = s.hbm.waiting := (congrArg (fun x => x.2.1) hs :)
  have hp : t.pair.hostWait = s.pair.hostWait := (congrArg (fun x => x.2.2) hs :)
  exact ⟨hw ▸ h.waiting, hp ▸ h.hostWait⟩

theorem Stores.refl (h : Within V s) : Stores V s s := ⟨h, fun _ _ => rfl⟩

theorem Stores.trans (h : Stores V s t) (g : Within V t → Stores V t u) : Stores V s u :=
  ⟨(g h.within).within, fun b hb => ((g h.within).mem b hb).trans (h.mem b hb)⟩

theorem Stores.of_storage (h : Within V s) (hs : t.storage = s.storage) : Stores V s t := by
  have hm : t.mem = s.mem := (congrArg Prod.fst hs :)
  exact ⟨h.of_storage hs, fun b _ => by rw [State.memByte, State.memByte, hm]⟩

theorem Serves.refl (h : Within V s) : Serves V s s := ⟨Stores.refl h, rfl⟩

theorem Serves.trans (h : Serves V s t) (g : Within V t → Serves V t u) : Serves V s u :=
  ⟨h.toStores.trans fun hw => (g hw).toStores, (g h.within).side.trans h.side⟩

theorem Kept.serves (k : Kept s t) (h : Within V s) : Serves V s t := ⟨Stores.of_storage h k.storage, k.side⟩

theorem Serves.kept (h : Serves V s t) (k : Kept t u) : Serves V s u := h.trans k.serves

theorem Serves.foldl {α : Type} {l : List α} {g : State → α → State} (h : Within V s)
    (hg : ∀ t, ∀ x ∈ l, Within V t → Serves V t (g t x)) :
    Serves V s (l.foldl g s) :=
  List.foldlRecOn (motive := fun t => Serves V s t) l g (Serves.refl h) fun _ ht x hx => ht.trans (hg _ x hx)

/-! ### Writes and reads that are served -/

theorem State.memWrite_serves {a : Nat} {data : List Byte} (h : Within V s) (hc : Covers V a data) : Serves V s (s.memWrite a data) :=
  ⟨⟨⟨h.waiting, h.hostWait⟩, fun _ hb => State.memByte_memWrite_other s data fun hr => hb (hc _ hr.1 hr.2)⟩, rfl⟩

/-- A piece of a write lies in it. -/
theorem Covers.piece {a : Nat} {data : List Byte} (hc : Covers V a data) {p : Nat × Nat} (hp : p ∈ channelPieces a data.length) :
    Covers V p.1 ((data.drop (p.1 - a)).take p.2) := by
  obtain ⟨i, -, rfl⟩ := List.mem_map.mp hp
  intro b hb hl
  rw [List.length_take, List.length_drop] at hl
  have ha : a ≤ max a ((a / 1024 + i) * 1024) := Nat.le_max_left _ _
  exact hc b (ha.trans hb) (by omega)

theorem State.storeMem_serves {a : Nat} {data : List Byte} (h : Within V s) (hc : Covers V a data) : Serves V s (s.storeMem a data) := by
  have htouch := (State.touch_reads s a data.length).toKept.serves h
  rw [State.storeMem]
  split
  · exact htouch.trans fun hw => State.memWrite_serves hw hc
  · refine htouch.trans fun hw => Serves.foldl hw fun t p hp ht => ?_
    split
    · exact Serves.refl ht
    · exact State.memWrite_serves ht (hc.piece hp)

theorem State.serveReq_serves {r : MemReq} (h : Within V s) (hc : r.write = true → Covers V r.addr r.data) : Serves V s (s.serveReq r) := by
  rw [State.serveReq]
  split
  next hw => exact State.storeMem_serves h (hc hw)
  next => exact ((State.loadMem_kept s r.addr r.len r.ecc).trans (Kept.updRead ..)).serves h

/-! ### Requests that wait -/

theorem mem_of_mem_dueWith {l : List (MemReq × Nat)} {sel : MemReq × Nat → Bool} {f : Nat} {p : MemReq × Nat}
    (h : p ∈ dueWith l sel f) : p ∈ l := by
  cases f with
  | zero => exact List.mem_of_mem_filter h
  | succ f => exact List.mem_of_mem_filter h

theorem State.serveDue_serves (sel : MemReq × Nat → Bool) (h : Within V s) : Serves V s (s.serveDue sel) := by
  have hzip (p : MemReq × Nat) (hp : p ∈ s.hbm.waiting.zipIdx) : p.1 ∈ s.hbm.waiting := List.fst_mem_of_mem_zipIdx hp
  have hrest (l : List MemReq) (hl : ∀ r ∈ l, r ∈ s.hbm.waiting) : Serves V s { s with hbm := { s.hbm with waiting := l } } :=
    ⟨⟨⟨fun r hr => h.waiting r (hl r hr), h.hostWait⟩, fun _ _ => (rfl)⟩, (rfl)⟩
  rw [State.serveDue]
  refine (hrest _ fun r hr => ?_).trans fun hw => Serves.foldl hw fun t p hp ht => State.serveReq_serves ht fun hwr => ?_
  · obtain ⟨p, hp, rfl⟩ := List.mem_map.mp hr
    exact hzip p (List.mem_of_mem_filter hp)
  · obtain ⟨v, -, hv⟩ := List.mem_flatMap.mp hp
    exact h.waiting p.1 (hzip p (mem_of_mem_dueWith (List.mem_of_mem_filter hv))) hwr

/-- Raising a level leaves what a request stores. -/
theorem mem_raiseShared {l k : List MemReq} {x : MemReq} (h : x ∈ raiseShared l k) :
    ∃ r ∈ l, x.write = r.write ∧ x.addr = r.addr ∧ x.data = r.data := by
  induction l generalizing k with
  | nil => exact absurd h List.not_mem_nil
  | cons r l ih =>
    rw [raiseShared] at h
    rcases List.mem_cons.mp h with rfl | h
    · exact ⟨r, List.mem_cons_self, rfl, rfl, rfl⟩
    · obtain ⟨q, hq, he⟩ := ih h
      exact ⟨q, List.mem_cons_of_mem r hq, he⟩

theorem State.raisedFor_serves (r : MemReq) (h : Within V s) : Serves V s (s.raisedFor r) := by
  refine ⟨⟨⟨fun x hx hw => ?_, h.hostWait⟩, fun _ _ => (rfl)⟩, (rfl)⟩
  obtain ⟨q, hq, hwr, ha, hd⟩ := mem_raiseShared (List.mem_reverse.mp hx)
  rw [ha, hd]
  exact h.waiting q (List.mem_reverse.mp hq) (hwr ▸ hw)

theorem State.arrive_serves (r : MemReq) (h : Within V s) : Serves V s (s.arrive r) := by
  rw [State.arrive]
  split
  · exact Serves.refl h
  · exact (State.raisedFor_serves r h).trans fun hw => State.serveDue_serves _ hw

theorem State.askMem_serves {k a len : Nat} {write : Bool} {data : List Byte} (ecc : List Nat) (held low : Bool) (h : Within V s)
    (hc : write = true → Covers V a data) : Serves V s (s.askMem k a write data len ecc held low) := by
  rw [State.askMem]
  extract_lets l t src
  split
  · exact State.serveReq_serves h hc
  · split
    · have ht : Serves V s t := State.raisedFor_serves _ h
      refine ⟨⟨⟨fun x hx hw => ?_, ht.within.hostWait⟩, fun b hb => ht.mem b hb⟩, ht.side⟩
      rcases List.mem_append.mp hx with hx | hx
      · exact ht.within.waiting x hx hw
      · obtain rfl := List.mem_singleton.mp hx
        exact hc hw
    · exact (State.arrive_serves _ h).trans fun hw => State.serveReq_serves hw hc

/-! ### Writes of the host -/

theorem State.bar2Write_serves {a : Nat} {data : List Byte} (held : Bool) (h : Within V s) (hc : Covers V a data) :
    Serves V s (s.bar2Write a data held) := by
  rw [State.bar2Write]
  split
  · exact Serves.refl h
  · split
    · exact (State.accessError_kept ..).serves h
    · split
      · exact (Kept.bump ..).serves h
      · have hmirror (ok : Bool) {t : State} (ht : Serves V s t) : Serves V s ((List.range (ceilDiv data.length 1984)).foldl (fun u i =>
            u.pairSend 0x03 (pack [(8, a + 1984 * i), (1, ofBool ok)] ++ (data.drop (1984 * i)).take 1984)) t) :=
          ht.kept (Kept.foldl fun t i => State.pairSend_kept t _ _)
        rcases s.windowAt a with _ | w
        · rcases s.fbkDenies fbkHost a true with _ | c
          · exact hmirror true (State.askMem_serves [] held false h fun _ => hc)
          · exact hmirror false ((State.hostViolation_kept s a true data.length c).serves h)
        · exact hmirror false ((State.windowHit_kept s w a).serves h)

theorem State.returnCredits_serves (h : Within V s) : Serves V s s.returnCredits := by
  rw [State.returnCredits]
  refine Serves.foldl h fun t w _ ht => ?_
  split
  · exact Serves.refl ht
  next x l hx =>
    have hmem : x ∈ t.pair.hostWait := hx ▸ List.mem_cons_self
    split
    · exact Serves.refl ht
    · have hset : Serves V t (t.setPair { t.pair with hostWait := l }) :=
        ⟨⟨⟨ht.waiting, fun y hy => ht.hostWait y (hx ▸ List.mem_cons_of_mem x hy)⟩, fun _ _ => (rfl)⟩, (rfl)⟩
      exact hset.trans fun hw => State.bar2Write_serves x.held hw (ht.hostWait x hmem)

theorem State.bar2Post_serves {a : Nat} {data : List Byte} (held : Bool) (h : Within V s) (hc : Covers V a data) :
    Serves V s (s.bar2Post a data held) := by
  have hret := State.returnCredits_serves h
  rw [State.bar2Post]
  generalize s.returnCredits = t at hret ⊢
  dsimp only
  split
  · have hset (w : HostWrite) (hw : Covers V w.a w.data) : Serves V t (t.setPair { t.pair with hostWait := t.pair.hostWait ++ [w] }) := by
      refine ⟨⟨⟨hret.within.waiting, fun y hy => ?_⟩, fun _ _ => (rfl)⟩, (rfl)⟩
      rcases List.mem_append.mp hy with hy | hy
      · exact hret.within.hostWait y hy
      · obtain rfl := List.mem_singleton.mp hy
        exact hw
    exact hret.trans fun _ => hset _ hc
  · exact hret.trans fun hw => State.bar2Write_serves held hw hc

end

end Sys2Proof.Machine
end

-- Frames of accesses (spec/01_architecture.md, spec/16_firebreak.md): O38, O39.
section
/-! PROOF. A write of the host, of an engine or of the debug master stores to the bytes it names, and the writes that waited to theirs. -/
namespace Sys2Proof.Machine

open Sys2Proof

section
variable {V : Nat → Prop} {u : State}

theorem accessOutcome_next {size a n : Nat} {t x : State} (h : accessOutcome size a n x = .next t) : x = t := by
  rw [accessOutcome] at h
  split at h
  · exact Host.Outcome.next.inj h
  · exact nomatch h

/-- The bytes of the writes that wait, and those of one more write. -/
def State.named (s : State) (a : Nat) (data : List Byte) (b : Nat) : Prop :=
  s.waitingStore b = true ∨ (a ≤ b ∧ b < a + data.length)

theorem State.within_named (a : Nat) (data : List Byte) : Within (u.named a data) u := State.within_waitingStore fun _ h => .inl h

theorem State.covers_named (a : Nat) (data : List Byte) : Covers (u.named a data) a data := fun _ ha hb => .inr ⟨ha, hb⟩

theorem State.not_named {a b : Nat} {data : List Byte} (hr : ¬(a ≤ b ∧ b < a + data.length)) (hw : u.waitingStore b = false) :
    ¬u.named a data b := fun h => h.elim (fun ht => Bool.false_ne_true (hw.symm.trans ht)) hr

/-! ### The host -/

/-- A write that a window, Firebreak or the address map drops stores nothing. -/
theorem State.bar2Write_dropped (a : Nat) (data : List Byte) (held : Bool)
    (h : (u.windowAt a).isSome = true ∨ (u.fbkDenies fbkHost a true).isSome = true ∨ inDeviceMem a = false) :
    Kept u (u.bar2Write a data held) := by
  rw [State.bar2Write]
  split
  · exact Kept.refl u
  · split
    · exact State.accessError_kept ..
    next hd =>
      split
      · exact Kept.bump ..
      · have hmirror (ok : Bool) {t : State} (ht : Kept u t) : Kept u ((List.range (ceilDiv data.length 1984)).foldl (fun u i =>
            u.pairSend 0x03 (pack [(8, a + 1984 * i), (1, ofBool ok)] ++ (data.drop (1984 * i)).take 1984)) t) :=
          ht.trans (Kept.foldl fun t i => State.pairSend_kept t _ _)
        rcases hw : u.windowAt a with _ | w
        · rcases hf : u.fbkDenies fbkHost a true with _ | c
          · simp only [hw, hf, Option.isSome_none, Bool.false_eq_true, false_or] at h
            rw [h] at hd
            exact absurd rfl hd
          · exact hmirror false (State.hostViolation_kept ..)
        · exact hmirror false (State.windowHit_kept ..)

theorem State.bar2Post_dropped {a : Nat} {data : List Byte} (held : Bool) (hw : u.pair.hostWait = [])
    (h : (u.windowAt a).isSome = true ∨ (u.fbkDenies fbkHost a true).isSome = true ∨ inDeviceMem a = false) (b : Nat) :
    (u.bar2Post a data held).memByte b = u.memByte b := by
  cases ht : u.isSet Reg.PAIR_MIRROR_THROTTLE with
  | true =>
    rw [State.bar2Post_throttled hw ht]
    rfl
  | false =>
    rw [State.bar2Post_free hw ht]
    exact (State.bar2Write_dropped a data held h).memByte b

/-- Settles O38: the write and those before it store within the bytes they name. -/
theorem hostWriteFrame : Obligations.HostWriteFrame := by
  intro s t dt a data held h u
  rw [exec_hostBar2Write] at h
  obtain rfl := accessOutcome_next h
  have hs := State.bar2Post_serves held (u.within_named a data) (u.covers_named a data)
  refine ⟨fun b hr hw => (hs.mem b (State.not_named hr hw)).trans (State.pass_memByte s dt b), fun hd hw b => ?_,
    (congrArg Prod.fst hs.side :), (congrArg Prod.snd hs.side :)⟩
  exact (State.bar2Post_dropped held hw hd b).trans (State.pass_memByte s dt b)

/-! ### Engines -/

theorem State.engineRequest_allowed {k a n : Nat} {write : Bool} {data : List Byte} {ecc : List (Fin 4)} {held : Bool} (hk : 2 ≤ k)
    (hr : (within 2 4 k && within 0xFF00000000 0xFF00FFFFFF a) = false)
    (hs : (!write && within 0xFE00000000 0xFE003FFFFF a) = false)
    (hc : (u.fbkCheck k a write (if write then data.length else n)).1 = true) :
    let v := (u.fbkCheck k a write (if write then data.length else n)).2.2
    u.engineRequest k a write data n ⟨ecc, held⟩ =
      v.askMem k a write data n (ecc.map Fin.val) held (k == fbkCnp && !write && v.fillsLow a) := by
  intro v
  rw [State.engineRequest, if_neg (Nat.not_lt.mpr hk), if_neg (by rw [hr]; exact Bool.false_ne_true), State.engineAccess]
  rcases hx : u.fbkCheck k a write (if write then data.length else n) with ⟨ok, l, t⟩
  have hv : v = t := congrArg (fun x => x.2.2) hx
  rw [hx] at hc
  dsimp only at hc
  rw [hv]
  dsimp only
  rw [if_neg (by rw [hc]; exact Bool.false_ne_true), if_neg (by rw [hs]; exact Bool.false_ne_true)]

theorem State.engineRequest_serves {k a n : Nat} {write : Bool} {data : List Byte} {ecc : List (Fin 4)} {held : Bool} (hk : 2 ≤ k)
    (hr : (within 2 4 k && within 0xFF00000000 0xFF00FFFFFF a) = false)
    (hs : (!write && within 0xFE00000000 0xFE003FFFFF a) = false)
    (hc : (u.fbkCheck k a write (if write then data.length else n)).1 = true) (h : Within V u) (hv : write = true → Covers V a data) :
    Serves V u (u.engineRequest k a write data n ⟨ecc, held⟩) := by
  rw [State.engineRequest_allowed hk hr hs hc]
  exact ((State.fbkCheck_kept ..).serves h).trans fun hw => State.askMem_serves _ held _ hw hv

theorem State.memByte_memWrite_at (s : State) (a : Nat) {data : List Byte} {i : Nat} (h : i < data.length) :
    (s.memWrite a data).memByte (a + i) = data[i] := by
  rw [State.memByte_memWrite, if_pos (by omega), Nat.add_sub_cancel_left, List.getD_eq_getElem _ _ h]

/-! ### The debug master -/

theorem State.readReg_kept (s : State) (a : Nat) : Kept s (s.readReg a) := by
  have hstamp (x : TxStamp) : Kept s (s.putTxStamp x) := ((Kept.wr ..).trans (Kept.wr ..)).trans (Kept.setFld ..)
  have hread (t : State) (h : Kept s t) (v : Nat) (l l' : List (Nat × Nat)) :
      Kept s { ({ t with readData := v, shadows := l } : State) with shadows := l' } := ⟨h.storage, h.side⟩
  rw [State.readReg]
  split
  · exact Kept.updReadData ..
  · refine hread _ ?_ _ _ _
    split
    · split
      · exact hstamp _
      · exact Kept.refl s
    · exact Kept.refl s

theorem State.debugAccess_serves {a n : Nat} {write : Bool} {data : List Byte} {ecc : List Nat}
    (hr : write = true → within 0xFF00000000 0xFF00FFFFFF a = false) (h : Within V u) (hv : write = true → Covers V a data) :
    Serves V u (u.debugAccess a write data n ecc) := by
  rw [State.debugAccess]
  dsimp only
  split
  · exact (State.debugDenied_kept ..).serves h
  · split
    · exact Serves.refl h
    · split
      next hin =>
        cases write with
        | true => exact absurd (hr rfl) (by rw [hin]; decide)
        | false =>
          rw [if_neg Bool.false_ne_true, if_neg Bool.false_ne_true]
          split
          · exact (Kept.updReadData ..).serves h
          · exact (State.readReg_kept ..).serves h
      · split
        · exact (State.debugDenied_kept ..).serves h
        · exact State.askMem_serves ecc false false h hv

end

/-- Settles O39: an access that is allowed, and those that waited, store within the bytes they name. -/
theorem masterAccessFrame : Obligations.MasterAccessFrame := by
  intro s dt a n data ecc held u
  have hwait : Within (fun b => u.waitingStore b = true) u := State.within_waitingStore fun _ h => h
  have hfree {b : Nat} (hw : u.waitingStore b = false) : ¬u.waitingStore b = true := by rw [hw]; exact Bool.false_ne_true
  refine ⟨fun k t => ?_, fun k t hc hk hd h => ?_, fun t h hr b hb hw => ?_, fun t h b hw => ?_⟩
  · intro v hc hk hr h
    rw [exec_engineMemoryAccess] at h
    obtain rfl := accessOutcome_next h
    refine ⟨fun hh hm i hi => ?_, fun b hb hw => ?_⟩
    · subst hh
      rw [State.engineRequest_free hk hr hc hm]
      exact State.memByte_memWrite_at _ a hi
    · exact ((State.engineRequest_serves hk hr rfl hc (u.within_named a data) fun _ => u.covers_named a data).mem b
        (State.not_named hb hw)).trans (State.pass_memByte s dt b)
  · rw [exec_engineMemoryAccess] at h
    obtain rfl := accessOutcome_next h
    have ha : a < 0xC00000000 := of_decide_eq_true hd
    have hs := State.engineRequest_serves (u := u) (k := k.val) (write := false) (data := data) (ecc := ecc) (held := held) hk
      (by simp [within]; omega) (by simp [within]; omega) hc hwait (fun hw => absurd hw Bool.false_ne_true)
    exact ⟨fun b hw => (hs.mem b (hfree hw)).trans (State.pass_memByte s dt b), (congrArg Prod.fst hs.side :)⟩
  · rw [exec_debugAccess] at h
    obtain rfl := accessOutcome_next h
    exact ((State.debugAccess_serves (fun _ => hr) (u.within_named a data) fun _ => u.covers_named a data).mem b
      (State.not_named hb hw)).trans (State.pass_memByte s dt b)
  · rw [exec_debugAccess] at h
    obtain rfl := accessOutcome_next h
    exact ((State.debugAccess_serves (fun hw => absurd hw Bool.false_ne_true) hwait fun hw => absurd hw Bool.false_ne_true).mem b
      (hfree hw)).trans (State.pass_memByte s dt b)

end Sys2Proof.Machine
end

-- Frames of cell commands (spec/02_ring_ledger.md): O45.
section
/-! PROOF. LDG_CELL_FORCE and LDG_STICKY_RELEASE change the cells of their range, and memory only where a write waited. -/
namespace Sys2Proof.Machine

open Sys2Proof

/-! ### What an event on a cell stores: nothing -/

section
variable (s : State)

theorem State.updLdg_storage (l : LedgerSt) : ({ s with ldg := l } : State).storage = s.storage := (rfl)

theorem State.windfallWait_storage (e : Windfall) : (s.windfallWait e).storage = s.storage := by
  rw [State.windfallWait]
  dsimp only
  split
  · exact (Kept.raise ..).storage.trans (State.updLdg_storage ..)
  · exact ((State.notice_kept ..).storage.trans (Kept.raise ..).storage).trans (State.updLdg_storage ..)

theorem State.windfallInstall_storage (e : Windfall) : (s.windfallInstall e).storage = s.storage := by
  rw [State.windfallInstall]
  split
  · exact State.updLdg_storage ..
  · split
    · split
      · exact (State.windfallWait_storage ..).trans (State.updLdg_storage ..)
      · exact State.windfallWait_storage ..
    · exact State.windfallWait_storage ..

theorem State.windfallPromote_storage (k : Nat) : (s.windfallPromote k).storage = s.storage := by
  induction k generalizing s with
  | zero => rw [State.windfallPromote]
  | succ k ih =>
    rw [State.windfallPromote]
    split
    · rfl
    · dsimp only
      split
      · rfl
      · exact (ih _).trans (State.updLdg_storage ..)

theorem State.windfallRemove_storage (n : Nat) : (s.windfallRemove n).storage = s.storage :=
  (State.windfallPromote_storage ..).trans (State.updLdg_storage ..)

theorem State.windfallFollow_storage (n : Nat) (old new : Cell) : (s.windfallFollow n old new).storage = s.storage := by
  rw [State.windfallFollow]
  split
  · exact State.updLdg_storage ..
  · split
    · exact State.updLdg_storage ..
    · exact State.windfallInstall_storage ..

theorem State.staleBatch_storage (p : Nat) : (s.staleBatch p).storage = s.storage := by
  rw [State.staleBatch]
  split
  · rw [State.raiseBatch]
    split
    · rfl
    · exact (State.notice_kept ..).storage.trans (State.updLdg_storage ..)
  · rfl

theorem State.gatherStale_storage (n : Nat) (c : Cell) : (s.gatherStale n c).storage = s.storage := by
  rw [State.gatherStale]
  split
  · exact State.staleBatch_storage ..
  · exact (State.updLdg_storage ..).trans (State.staleBatch_storage ..)

theorem State.putStaleBit_storage (r n : Nat) (b : Bool) : (s.putStaleBit r n b).storage = s.storage := State.updLdg_storage ..

theorem State.putStaleBits_storage (n : Nat) (b : Bool) : (s.putStaleBits n b).storage = s.storage := by
  rw [State.putStaleBits, State.putStaleBit_storage, State.putStaleBit_storage, State.putStaleBit_storage, State.putStaleBit_storage]

theorem State.putCell_storage (n : Nat) (c : Cell) : (s.putCell n c).storage = s.storage := by
  have hbm (x : HbmSt) (hx : x.waiting = s.hbm.waiting) (l : LedgerSt) : ({ s with ldg := l, hbm := x } : State).storage = s.storage :=
    congrArg (fun w => (s.mem, w, s.pair.hostWait)) hx
  rw [State.putCell]
  refine hbm _ ?_ _
  split <;> rfl

theorem State.settleCell_storage (n : Nat) (new : Cell) : (s.settleCell n new).storage = s.storage := by
  have hput := State.putCell_storage s n new
  have hfollow := ((State.putStaleBits_storage _ n true).trans (State.windfallFollow_storage _ n (s.cell n) new)).trans hput
  rw [State.settleCell]
  split
  · exact ((State.putStaleBits_storage ..).trans (State.windfallRemove_storage ..)).trans hput
  · split
    · exact ((State.windfallRemove_storage ..).trans (State.putStaleBits_storage ..)).trans hput
    · dsimp only
      split
      · exact ((State.gatherStale_storage ..).trans (Kept.bump ..).storage).trans hfollow
      · exact hfollow

end

/-! ### Work that changes cells of `C` and bytes of `V` alone -/

/-- `t` comes from `s` by work that changes no cell but those of `C` and no byte but those of `V`. -/
structure Touches (V C : Nat → Prop) (s t : State) : Prop extends Stores V s t where
  cell : ∀ n, ¬C n → t.cell n = s.cell n

section
variable {V C : Nat → Prop} {s t u : State}

theorem State.cell_of_side (h : t.side = s.side) (n : Nat) : t.cell n = s.cell n := by
  have hl : t.ldg = s.ldg := (congrArg Prod.fst h :)
  rw [State.cell, State.cell, hl]

theorem Serves.touches (h : Serves V s t) : Touches V C s t := ⟨h.toStores, fun n _ => State.cell_of_side h.side n⟩

theorem Touches.trans (h : Touches V C s t) (g : Within V t → Touches V C t u) : Touches V C s u :=
  ⟨h.toStores.trans fun hw => (g hw).toStores, fun n hn => ((g h.within).cell n hn).trans (h.cell n hn)⟩

theorem Touches.kept (h : Touches V C s t) (k : Kept t u) : Touches V C s u := h.trans fun hw => (k.serves hw).touches

theorem Touches.foldl {α : Type} {l : List α} {g : State → α → State} (h : Within V s)
    (hg : ∀ t, ∀ x ∈ l, Within V t → Touches V C t (g t x)) : Touches V C s (l.foldl g s) :=
  List.foldlRecOn (motive := fun t => Touches V C s t) l g (Serves.refl h).touches fun _ ht x hx => ht.trans (hg _ x hx)

theorem State.settleCell_touches {n : Nat} (new : Cell) (h : Within V s) (hn : C n) : Touches V C s (s.settleCell n new) :=
  ⟨Stores.of_storage h (State.settleCell_storage ..), fun _ hk => State.cell_settleCell_other s new fun he => hk (he ▸ hn)⟩

theorem State.cellAllowed_kept (s : State) (n : Nat) : Kept s (s.cellAllowed n).2 := by
  have hread := State.fbkCheck_kept s fbkLdg (s.cellsBase + 16 * n) false 16
  rw [State.cellAllowed]
  split
  · exact Kept.refl s
  · generalize s.fbkCheck fbkLdg (s.cellsBase + 16 * n) false 16 = y at hread ⊢
    obtain ⟨r, l, x⟩ := y
    dsimp only at hread ⊢
    split
    · exact hread
    · exact hread.trans (State.fbkCheck_kept ..)

theorem State.rebuildCell_touches {n : Nat} (h : Within V s) (hn : C n) : Touches V C s (s.rebuildCell n) := by
  rw [State.rebuildCell]
  split
  · exact (Serves.refl h).touches
  · exact ((State.settleCell_touches _ h hn).kept (Kept.bump ..)).kept (State.notice_kept ..)

/-- A read of a cell serves what waited before it, and may rebuild the cell. -/
theorem State.cellRead_touches {n : Nat} (p : Bool) (h : Within V s) (hn : C n) : Touches V C s (s.cellRead n p).2 := by
  have hall := State.cellAllowed_kept s n
  rw [State.cellRead]
  generalize s.cellAllowed n = y at hall ⊢
  obtain ⟨ok, x⟩ := y
  dsimp only at hall ⊢
  split
  · exact (hall.serves h).touches
  · have hserved := ((hall.serves h).trans fun hw => State.arrive_serves (engineReq fbkLdg (urgency fbkLdg false) (s.cellsBase + 16 * n) 16)
      hw).kept (State.meetRead_reads _ (s.cellsBase + 16 * n) 16
        (List.replicate ((s.cellsBase + 16 * n) % 64 / 8) 0 ++ [if p then 3 else 0])).toKept
    generalize State.meetRead _ _ _ _ = q at hserved ⊢
    obtain ⟨bad, z⟩ := q
    dsimp only at hserved ⊢
    split
    · exact hserved.touches.trans fun hw => State.rebuildCell_touches hw hn
    · exact hserved.touches

theorem State.onCell_touches {n : Nat} {f : State → State} (h : Within V s) (hn : C n) (hf : ∀ t, Within V t → Touches V C t (f t)) :
    Touches V C s (s.onCell n f) := by
  have hread := State.cellRead_touches false h hn
  rw [State.onCell]
  generalize s.cellRead n false = y at hread ⊢
  obtain ⟨ok, x⟩ := y
  dsimp only at hread ⊢
  split
  · exact hread.trans (hf x)
  · exact hread

/-! ### The two commands -/

theorem State.complete_kept (s : State) (m : Nat) (hw more : Bool) (st d : Nat) (b : List Byte) : Kept s (s.complete m hw more st d b) := by
  have hmsix (x : State) : Kept x (x.msixRequest (1 + m)) := .of_reports (R := fun _ => True) (Reports.msixRequest x _)
  have hresp (x : List Byte) (v : Nat) : Kept s (((((s.areaWrite m x).raise (Reg.MBX_CMPL_DONE m)).setFld (Reg.MBX_CMPL_HW m)
      (ofBool hw)).setFld (Reg.MBX_CMPL_STATE m) mbDone).setFld (Reg.MBX_CMPL_TAG m) v) := by
    have harea : Kept s (s.areaWrite m x) := ⟨(rfl), (rfl)⟩
    exact (((harea.trans (Kept.raise ..)).trans (Kept.setFld ..)).trans (Kept.setFld ..)).trans (Kept.setFld ..)
  rw [State.complete]
  split
  · exact (hresp _ _).trans (hmsix _)
  · exact hresp _ _

theorem State.forwardLcs_kept (s : State) (msg : List Byte) (st : Nat) (b : List Byte) : Kept s (s.forwardLcs msg st b) :=
  Kept.foldl fun t _ => State.pairSend_kept t _ _

/-- A command touches what its effect touches. -/
theorem State.lcs_touches {m op : Nat} {f : Req → State → State × Resp} (h : Within V s)
    (hf : Touches V C s (f (s.request m) s).1) : Touches V C s (s.lcs m op f) := by
  have herr (st d : Nat) : Touches V C s (s.complete m false false st d []) := ((State.complete_kept ..).serves h).touches
  rw [State.lcs]
  split
  · extract_lets r kindF
    change Touches V C s (f r s).1 at hf
    generalize f r s = y at hf ⊢
    obtain ⟨t, resp⟩ := y
    cases resp with
    | ok b =>
      have hok := hf.kept (State.complete_kept t m false false stOk noField b)
      dsimp only
      split
      · exact hok.kept (State.forwardLcs_kept ..)
      · exact hok
    | more b => exact hf.kept (State.complete_kept ..)
    | err st d => exact herr st d
    | fail st d b => exact hf.kept (State.complete_kept ..)
    | wait => exact hf.kept (Kept.setFld ..)
  · split
    · split
      · exact herr _ _
      · exact (Serves.refl h).touches
    · exact (Serves.refl h).touches

theorem State.refuseOr_touches (l : List (Bool × Nat × Nat)) {k : State × Resp} (h : Within V s) (hk : Touches V C s k.1) :
    Touches V C s (s.refuseOr l k).1 := by
  rw [State.refuseOr]
  split
  · exact (Serves.refl h).touches
  · exact hk

/-- The cells of a command's range. -/
def Req.range (r : Req) (n : Nat) : Prop := r.u32 16 ≤ n ∧ n < r.u32 16 + r.u32 20

theorem Req.range_of_mem {r : Req} {i : Nat} (h : i ∈ List.range (r.u32 20)) : r.range (r.u32 16 + i) :=
  ⟨Nat.le_add_right _ _, Nat.add_lt_add_left (List.mem_range.mp h) _⟩

theorem cmdLdgCellForce_touches (r : Req) (h : Within V s) : Touches V r.range s (cmdLdgCellForce r s).1 :=
  State.refuseOr_touches _ h (Touches.foldl h fun _ _ hi ht =>
    State.onCell_touches ht (Req.range_of_mem hi) fun _ hx => State.settleCell_touches _ hx (Req.range_of_mem hi))

theorem cmdLdgStickyRelease_touches (r : Req) (h : Within V s) : Touches V r.range s (cmdLdgStickyRelease r s).1 :=
  State.refuseOr_touches _ h (Touches.foldl h fun _ _ hi ht =>
    State.onCell_touches ht (Req.range_of_mem hi) fun _ hx => State.settleCell_touches _ hx (Req.range_of_mem hi))

end

theorem exec_ldgCellForce (dt : Nat) (m : Fin 8) (s : State) :
    exec (.ldgCellForce dt m) s = .next ((s.pass dt).lcs m.val 0x0204 cmdLdgCellForce) := rfl

theorem exec_ldgStickyRelease (dt : Nat) (m : Fin 8) (s : State) :
    exec (.ldgStickyRelease dt m) s = .next ((s.pass dt).lcs m.val 0x0206 cmdLdgStickyRelease) := rfl

theorem State.pass_cell (s : State) (dt n : Nat) : (s.pass dt).cell n = s.cell n := by
  have hl : (s.pass dt).ldg = s.ldg := (congrArg State.ldg (s.pass_untimed dt) :)
  rw [State.cell, State.cell, hl]

/-- Settles O45: each step on a cell of the range changes that cell, and memory where a write waited. -/
theorem cellCommandsFrame : Obligations.CellCommandsFrame := by
  intro s t dt m r h
  have hw : Within (fun b => (s.pass dt).waitingStore b = true) (s.pass dt) := State.within_waitingStore fun _ h => h
  have ht : Touches (fun b => (s.pass dt).waitingStore b = true) r.range (s.pass dt) t := by
    rcases h with h | h
    · rw [exec_ldgCellForce] at h
      obtain rfl := Host.Outcome.next.inj h
      exact State.lcs_touches hw (cmdLdgCellForce_touches r hw)
    · rw [exec_ldgStickyRelease] at h
      obtain rfl := Host.Outcome.next.inj h
      exact State.lcs_touches hw (cmdLdgStickyRelease_touches r hw)
  exact ⟨fun n hn => (ht.cell n hn).trans (State.pass_cell s dt n), fun b hb =>
    (ht.mem b (by rw [hb]; exact Bool.false_ne_true)).trans (State.pass_memByte s dt b)⟩

end Sys2Proof.Machine
end

-- Denials of Firebreak and drops of scan-lock windows (spec/05_layers_and_commits.md, spec/16_firebreak.md): O40, O41.
section
/-! PROOF. A denied read of the host, and a write that a window drops. -/
namespace Sys2Proof.Machine

open Sys2Proof

/-! ### Time leaves what device memory reads as -/

section
variable (s : State)

theorem State.writeBackDone_reads : Reads s s.writeBackDone := by
  rw [State.writeBackDone]
  split
  · exact Reads.refl s
  · exact Reads.updHbm s rfl

theorem State.rxDrain_reads {p : Nat} (dt : Nat) (hp : p < 2) : Reads s (s.rxDrain p dt) := by
  have hbuf : offTable (Reg.PKT_PORT_RXBUF_LEVEL p).addr := by
    simp only [offTable, Reg.PKT_PORT_RXBUF_LEVEL, Reg.PKT_PORT_RXBUF, Reg.LDG_CELLS_BASE_LO, Reg.LDG_CELLS_BASE_HI]
    omega
  have hpin : offTable (Reg.PKT_PORT_STAT_HOLD_PIN p).addr := by
    simp only [offTable, Reg.PKT_PORT_STAT_HOLD_PIN, Reg.PKT_PORT_STAT, Reg.LDG_CELLS_BASE_LO, Reg.LDG_CELLS_BASE_HI]
    omega
  rw [State.rxDrain]
  split
  · exact Reads.refl s
  · dsimp only
    split
    · exact (Reads.setFld _ _ hbuf).trans (Reads.setFld _ _ hpin)
    · exact Reads.setFld _ _ hbuf

theorem State.notice_reads (kind obj : Nat) (d : List Nat) (p : List Byte) (never : Bool) : Reads s (s.notice kind obj d p never) :=
  .of_reports ((State.notice_reports ..).mono fun _ h => offTable_of_faultRegs (cls := 0) (by decide) (.inl (.inl h)))

theorem State.fbkSettle_reads : Reads s s.fbkSettle := by
  refine Reads.foldl fun t p => ?_
  split
  · have hrun (r : FaultRun) (x : FbkSt) : Reads t { t.setRun 0x10 p.1 r with fbk := x } := (Reads.updHlt t _).trans (Reads.updFbk _ x)
    dsimp only
    split
    · exact ((hrun _ _).trans (State.logFault_reads _ _ _ _ _ (by decide))).trans (State.notice_reads ..)
    · exact hrun _ _
  · exact Reads.refl t

theorem State.pass_viewNat (dt a n : Nat) : (s.pass dt).viewNat a n = s.viewNat a n := by
  have helapse : (s.elapse dt).viewNat a n = s.viewNat a n := rfl
  rw [State.pass, (State.fbkSettle_reads _).viewNat]
  split
  · exact helapse
  · rw [(State.rxDrain_reads _ dt (by decide)).viewNat, (State.rxDrain_reads _ dt (by decide)).viewNat,
      (State.writeBackDone_reads _).viewNat, helapse]

end

/-! ### A denied read (R437, R438, R450) -/

section
variable {u : State} {a n c : Nat}

theorem State.rd_bump_same (s : State) (a n : Nat) : (s.bump a n).rd a = satAdd32 (s.rd a) n := by
  rw [State.bump, State.rd_wr_same]
  exact Nat.mod_eq_of_lt (Nat.lt_of_le_of_lt (Nat.min_le_right _ _) (by decide))

/-- The registers of the host's own violations besides the counter. -/
def hostCapture (a : Nat) : Prop := a = Reg.FBK_VIOL_STAT fbkHost ∨ a = Reg.FBK_VIOL_ADDR_LO fbkHost ∨ a = Reg.FBK_VIOL_ADDR_HI fbkHost

theorem State.fbkCapture_reports (s : State) (write : Bool) (len cause : Nat) :
    Reports hostCapture (s.bump (Reg.FBK_VIOL_CNT fbkHost)) (s.fbkCapture fbkHost a write len cause) := by
  rw [State.fbkCapture]
  split
  · exact Reports.raise _ (.inl rfl)
  · exact (((((Reports.raise _ (.inl rfl)).trans (Reports.setFld _ _ (.inl rfl))).trans (Reports.setFld _ _ (.inl rfl))).trans
      (Reports.setFld _ _ (.inl rfl))).trans (Reports.wr _ _ (.inr (.inl rfl)))).trans (Reports.setFld _ _ (.inr (.inr rfl)))

theorem State.hostViolation_cnt (s : State) (write : Bool) (len cause : Nat) :
    (s.hostViolation a write len cause).rd (Reg.FBK_VIOL_CNT fbkHost) = satAdd32 (s.rd (Reg.FBK_VIOL_CNT fbkHost)) 1 := by
  rw [State.hostViolation, (State.notice_reports ..).rd _ (by unfold ringRegs; decide),
    (State.fbkCapture_reports ..).rd _ (by unfold hostCapture; decide), State.rd_bump_same]

/-- A first violation is captured with its cause. -/
theorem State.hostViolation_cause (s : State) (write : Bool) (len cause : Nat) (hv : s.isSet (Reg.FBK_VIOL_STAT_VALID fbkHost) = false)
    (hc : cause < 8) : (s.hostViolation a write len cause).fld (Reg.FBK_VIOL_STAT_CAUSE fbkHost) = cause := by
  have hbump : (s.bump (Reg.FBK_VIOL_CNT fbkHost)).isSet (Reg.FBK_VIOL_STAT_VALID fbkHost) = false := by
    rw [Reports.isSet (R := fun x => x = Reg.FBK_VIOL_CNT fbkHost) (Reports.bump s 1 rfl) (by decide), hv]
  rw [State.hostViolation, (State.notice_reports ..).fld (by unfold ringRegs; decide), State.fbkCapture,
    if_neg (by rw [hbump]; exact Bool.false_ne_true), State.fld_setFld_addr _ _ _ _ (by decide),
    Reports.fld (R := fun x => x = Reg.FBK_VIOL_ADDR_LO fbkHost) (Reports.wr _ _ rfl) (by decide),
    State.fld_setFld _ _ _ _ (by decide), State.fld_setFld_same _ _ _ (by decide) (by decide)]
  exact Nat.mod_eq_of_lt hc

theorem State.fbkDenies_lt {k : Nat} {write : Bool} (h : u.fbkDenies k a write = some c) : c < 8 := by
  rw [State.fbkDenies] at h
  split at h
  · injection h with h
    omega
  · dsimp only at h
    split at h
    · exact nomatch h
    · split at h
      · injection h with h
        omega
      · injection h with h
        omega

/-- A denied read of the host answers zero and is a violation. -/
theorem State.bar2Read_denied {ecc : List Nat} {held : Bool} (hp : u.hostPort = true) (hs : u.fld Reg.SYS_PWR_STATE ≠ 2)
    (hd : inDeviceMem a = true) (hf : u.fbkDenies fbkHost a false = some c) :
    u.bar2Read a n ecc held = ({ u with readData := 0, readPoison := false } : State).hostViolation a false n c := by
  have hpw : (u.fld Reg.SYS_PWR_STATE == 2) = false := beq_eq_false_iff_ne.mpr hs
  rw [State.bar2Read, if_neg (by rw [hp]; exact Bool.false_ne_true), if_neg (by rw [hpw]; exact Bool.false_ne_true),
    if_neg (by rw [hd]; exact Bool.false_ne_true), hf]

theorem State.hostViolation_readData (s : State) (write : Bool) (len cause : Nat) :
    (s.hostViolation a write len cause).readData = s.readData :=
  (congrArg State.readData (State.notice_reports ..).quiet :).trans (congrArg State.readData (State.fbkCapture_reports s write len cause).quiet :)

end

/-- Settles O40: the read answers zero, and the violation counts and is captured. -/
theorem deniedHostRead : Obligations.DeniedHostRead := by
  intro s dt a n c ecc held u hok hp hs hd hf
  refine ⟨_, (exec_hostBar2Read ..).trans (accessOutcome_ok hok), ?_⟩
  rw [State.bar2Read_denied hp hs hd hf]
  refine ⟨State.hostViolation_readData _ _ _ _, fun b => ?_, State.hostViolation_cnt _ _ _ _, fun hv =>
    State.hostViolation_cause _ _ _ _ hv (State.fbkDenies_lt hf)⟩
  exact (((Kept.updRead u 0 false).trans (State.hostViolation_kept ..)).memByte b).trans (State.pass_memByte s dt b)

/-! ### A write that a window drops (R145, R445) -/

section
variable {u : State} {a w : Nat}

theorem not_pairRegs {x : Nat} (h : x < 0x080000 ∨ (0x100000 ≤ x ∧ x < 0x480000)) : ¬pairRegs x := by
  simp only [pairRegs, Reg.PAIR_MIRROR, Reg.PAIR_PSEQ_TX]
  omega

theorem State.windowAt_lt (h : u.windowAt a = some w) : w < 512 := by
  rw [State.windowAt] at h
  exact List.mem_range.mp (List.mem_of_find?_eq_some h)

theorem State.bar2Write_window {data : List Byte} {held : Bool} (hp : u.hostPort = true) (hs : u.fld Reg.SYS_PWR_STATE ≠ 2)
    (hd : inDeviceMem a = true) (hr : (u.drives || u.isSet Reg.MBX_STATUS_RECOVERY) = true) (hw : u.windowAt a = some w) :
    Reports pairRegs (u.windowHit w a) (u.bar2Write a data held) := by
  have hpw : (u.fld Reg.SYS_PWR_STATE == 2) = false := beq_eq_false_iff_ne.mpr hs
  have hdr : (!u.drives && !u.isSet Reg.MBX_STATUS_RECOVERY) = false := by rw [← Bool.not_or, hr]; rfl
  rw [State.bar2Write, if_neg (by rw [hp, hpw]; exact Bool.false_ne_true), if_neg (by rw [hd]; exact Bool.false_ne_true),
    if_neg (by rw [hdr]; exact Bool.false_ne_true), hw]
  exact Reports.foldl fun t i _ => State.pairSend_reports ..

/-- The three counters of a hit, and the log's index. -/
theorem State.windowHit_counters (hw : w < 512) :
    (u.windowHit w a).rd (Reg.FBK_HOST_SCANLOCK_CNT fbkHost) = satAdd32 (u.rd (Reg.FBK_HOST_SCANLOCK_CNT fbkHost)) 1 ∧
    (u.windowHit w a).rd (Reg.FBK_WIN_HITS w) = satAdd32 (u.rd (Reg.FBK_WIN_HITS w)) 1 ∧
    (u.windowHit w a).rd (Reg.CNP_CNT_SCANLOCK (u.fld (Reg.FBK_WIN_CFG_OUTPUT w))) =
      satAdd32 (u.rd (Reg.CNP_CNT_SCANLOCK (u.fld (Reg.FBK_WIN_CFG_OUTPUT w)))) 1 ∧
    (u.windowHit w a).rd Reg.HLT_LOG_PROD = u.rd Reg.HLT_LOG_PROD := by
  have hn : u.fld (Reg.FBK_WIN_CFG_OUTPUT w) < 32 := bitsAt_lt _ 21 17
  have hring {x : Nat} (h : 0x010300 ≤ x) : ¬ringRegs x := fun hx => Nat.not_lt.mpr h hx.2
  have h1 : Reg.FBK_HOST_SCANLOCK_CNT fbkHost = 0x041050 := rfl
  have h2 : Reg.FBK_WIN_HITS w = 0x04800C + 0x10 * w := rfl
  have h3 (n : Nat) : Reg.CNP_CNT_SCANLOCK n = 0x100154 + 0x1000 * n := rfl
  have h4 : Reg.HLT_LOG_PROD = 0x020020 := rfl
  rw [State.windowHit]
  generalize u.fld (Reg.FBK_WIN_CFG_OUTPUT w) = k at hn ⊢
  rw [h1, h2, h3, h4]
  refine ⟨?_, ?_, ?_, ?_⟩
  · rw [(State.notice_reports ..).rd _ (hring (by omega)), State.rd_bump_other _ (by omega), State.rd_bump_other _ (by omega),
      State.rd_bump_same]
  · rw [(State.notice_reports ..).rd _ (hring (by omega)), State.rd_bump_other _ (by omega), State.rd_bump_same,
      State.rd_bump_other _ (by omega)]
  · rw [(State.notice_reports ..).rd _ (hring (by omega)), State.rd_bump_same, State.rd_bump_other _ (by omega),
      State.rd_bump_other _ (by omega)]
  · rw [(State.notice_reports ..).rd _ (hring (by omega)), State.rd_bump_other _ (by omega), State.rd_bump_other _ (by omega),
      State.rd_bump_other _ (by omega)]

end

/-- Settles O41: a window's drop counts and stores nothing, and a read finds no window. -/
theorem windowDropsWrite : Obligations.WindowDropsWrite := by
  intro s dt a w held u hp hs hd hr hw ht hh
  refine ⟨fun data hok => ⟨_, (exec_hostBar2Write ..).trans (accessOutcome_ok hok), ?_⟩,
    fun n ecc hok hf hm => ⟨_, (exec_hostBar2Read ..).trans (accessOutcome_ok hok), ?_⟩⟩
  · rw [State.bar2Post_free hh ht]
    have hrep := State.bar2Write_window (data := data) (held := held) hp hs hd hr hw
    have hlt := State.windowAt_lt hw
    obtain ⟨h1, h2, h3, h4⟩ := State.windowHit_counters (u := u) (a := a) hlt
    have hn : u.fld (Reg.FBK_WIN_CFG_OUTPUT w) < 32 := bitsAt_lt _ 21 17
    refine ⟨fun b => ((State.windowHit_kept u w a).trans (.of_reports hrep)).memByte b |>.trans (State.pass_memByte s dt b), ?_, ?_, ?_, ?_⟩
    · exact (hrep.rd _ (not_pairRegs (.inl (by decide)))).trans h1
    · exact (hrep.rd _ (not_pairRegs (.inl (by simp only [Reg.FBK_WIN_HITS]; omega)))).trans h2
    · exact (hrep.rd _ (not_pairRegs (.inr (by simp only [Reg.CNP_CNT_SCANLOCK]; omega)))).trans h3
    · exact (hrep.rd _ (not_pairRegs (.inl (by decide)))).trans h4
  · rw [State.bar2Read_free hp hs hd hf hm]
    exact (((State.touch_reads u a n).trans (State.eccSpan_reads ..)).viewNat a n).trans (State.pass_viewNat s dt a n)

end Sys2Proof.Machine
end

-- Registers that work leaves (spec/04_outputs_and_timing.md, spec/12_pair_operation.md, spec/17_faults_checks_injection.md).
section
/-! SUPPORT. Work that leaves the status of faults and of Ranger and the frame numbers of outputs: on lanes, towards the partner, towards the host. -/
namespace Sys2Proof.Machine

open Sys2Proof

/-- The frame numbers of the outputs. -/
abbrev frameReg (a : Nat) : Prop := 0x100000 ≤ a ∧ a < 0x120000 ∧ a % 0x1000 = 0x10

/-- HLT_STATUS and MBX_STATUS. -/
abbrev statusReg (a : Nat) : Prop := a = 0x020000 ∨ a = 0x010000

/-- The registers of both kinds. -/
abbrev steadyReg (a : Nat) : Prop := frameReg a ∨ statusReg a

/-- `t` comes from `s` by work that leaves the registers of `R`. -/
structure Leaves (R : Nat → Prop) (s t : State) : Prop where
  rd : ∀ a, R a → t.rd a = s.rd a

section
variable {R Q : Nat → Prop} {s t u : State}

theorem Leaves.refl (s : State) : Leaves R s s := ⟨fun _ _ => rfl⟩

theorem Leaves.trans (h : Leaves R s t) (g : Leaves R t u) : Leaves R s u := ⟨fun a ha => (g.rd a ha).trans (h.rd a ha)⟩

theorem Leaves.mono (h : Leaves Q s t) (hR : ∀ a, R a → Q a) : Leaves R s t := ⟨fun a ha => h.rd a (hR a ha)⟩

theorem Leaves.fld (h : Leaves R s t) {f : Fld} (hf : R f.addr) : t.fld f = s.fld f := by rw [State.fld, State.fld, h.rd _ hf]

theorem Leaves.isSet (h : Leaves R s t) {f : Fld} (hf : R f.addr) : t.isSet f = s.isSet f := by rw [State.isSet, State.isSet, h.fld hf]

theorem Leaves.of_reports (h : Reports Q s t) (hR : ∀ a, R a → ¬Q a) : Leaves R s t := ⟨fun a ha => h.rd a (hR a ha)⟩

theorem Leaves.of_regs (h : t.regs = s.regs) : Leaves R s t := ⟨fun a _ => by rw [State.rd, State.rd, h]⟩

theorem Leaves.ite {c : Prop} [Decidable c] {t' : State} (h : c → Leaves R s t) (g : ¬c → Leaves R s t') : Leaves R s (if c then t else t') := by
  split
  next hc => exact h hc
  next hc => exact g hc

theorem Leaves.foldl {α : Type} {l : List α} {g : State → α → State} (h : ∀ t x, x ∈ l → Leaves R t (g t x)) : Leaves R s (l.foldl g s) :=
  List.foldlRecOn (motive := fun t => Leaves R s t) l g (Leaves.refl s) fun t ht x hx => ht.trans (h t x hx)

/-- A fold over a pair leaves what each step does in the state of it. -/
theorem Leaves.foldl_snd {α β : Type} {l : List α} {g : β × State → α → β × State} {p : β × State} (hp : Leaves R s p.2)
    (h : ∀ p x, Leaves R p.2 (g p x).2) : Leaves R s (l.foldl g p).2 :=
  List.foldlRecOn (motive := fun q => Leaves R s q.2) l g hp fun q hq x _ => hq.trans (h q x)

end

section
variable {R : Nat → Prop} (s : State)

theorem Leaves.wr {a : Nat} (v : Nat) (h : ¬R a) : Leaves R s (s.wr a v) := .of_reports (Reports.wr (R := (· = a)) s v rfl) fun _ hb he => h (he ▸ hb)
theorem Leaves.setFld {f : Fld} (v : Nat) (h : ¬R f.addr) : Leaves R s (s.setFld f v) :=
  .of_reports (Reports.setFld (R := (· = f.addr)) s v rfl) fun _ hb he => h (he ▸ hb)
theorem Leaves.raise {f : Fld} (h : ¬R f.addr) : Leaves R s (s.raise f) :=
  .of_reports (Reports.raise (R := (· = f.addr)) s rfl) fun _ hb he => h (he ▸ hb)
theorem Leaves.bump {a : Nat} (n : Nat) (h : ¬R a) : Leaves R s (s.bump a n) :=
  .of_reports (Reports.bump (R := (· = a)) s n rfl) fun _ hb he => h (he ▸ hb)

/-! ### Addresses apart from the steady registers -/

/-- The blocks above the outputs'. -/
theorem not_steadyReg_high {b n : Nat} (h : 0x120000 ≤ b) : ¬steadyReg (b + n) := by
  simp only [steadyReg, frameReg, statusReg]
  omega

/-- Another register of an output's block. -/
theorem not_steadyReg_output {b n : Nat} (h : 0x100000 ≤ b ∧ b < 0x101000 ∧ b ≠ 0x100010) : ¬steadyReg (b + 0x1000 * n) := by
  simp only [steadyReg, frameReg, statusReg]
  omega

/-! ### Reports -/

theorem State.notice_leaves (kind obj : Nat) (d : List Nat) (p : List Byte) (never : Bool) :
    Leaves steadyReg s (s.notice kind obj d p never) := by
  refine Leaves.of_reports (State.notice_reports ..) fun a ha hr => ?_
  simp only [ringRegs] at hr
  simp only [steadyReg, frameReg, statusReg] at ha
  omega

theorem State.blzTrigger_leaves (type source sev : Nat) (d : List Byte) (fatal : Bool) :
    Leaves steadyReg s (s.blzTrigger type source sev d fatal) := by
  refine Leaves.of_reports (State.blzTrigger_reports ..) fun a ha hr => ?_
  simp only [triggerRegs, ringRegs, Reg.BLZ_STATUS, Reg.BLZ_STAT, Reg.BLZ_CNT_COALESCED, Reg.BLZ_CNT_DROP] at hr
  simp only [steadyReg, frameReg, statusReg] at ha
  omega

theorem State.pairSend_leaves (type : Nat) (b : List Byte) : Leaves steadyReg s (s.pairSend type b) := by
  refine Leaves.of_reports (State.pairSend_reports ..) fun a ha hr => ?_
  simp only [pairRegs, Reg.PAIR_MIRROR, Reg.PAIR_PSEQ_TX] at hr
  simp only [steadyReg, frameReg, statusReg] at ha
  omega

/-- A logged event writes HLT_STATUS where it is LASTING, and no frame number. -/
theorem State.logFault_leaves (det inst : Nat) (inj : Bool) (detail : Nat) {cls : Nat} (hc : cls ≤ 3) :
    Leaves frameReg s (s.logFault det cls inst inj detail) := by
  refine Leaves.of_reports (State.logFault_reports ..) fun a ha hr => ?_
  simp only [faultRegs, triggerRegs, ringRegs, classCounter, Reg.BLZ_STATUS, Reg.BLZ_STAT, Reg.BLZ_CNT_COALESCED, Reg.BLZ_CNT_DROP,
    Reg.HLT_LOG_PROD, Reg.HLT_CNT_CORRECTED, Reg.HLT_STATUS] at hr
  simp only [frameReg] at ha
  omega

/-! ### Lanes and what they send -/

theorem State.partnerNotice_leaves (i : Nat) : Leaves steadyReg s (s.partnerNotice i) := State.notice_leaves ..

theorem State.putTx_leaves (n v : Nat) : Leaves steadyReg s (s.putTx n v) :=
  (Leaves.setFld _ _ (not_steadyReg_output (by decide))).trans (Leaves.setFld _ _ (not_steadyReg_high (by decide)))

theorem State.settleTx_leaves (n : Nat) : Leaves steadyReg s (s.settleTx n) := by
  rw [State.settleTx]
  exact Leaves.ite (fun _ => State.putTx_leaves ..) fun _ => Leaves.refl s

theorem State.settleUnsupp_leaves (n : Nat) : Leaves steadyReg s (s.settleUnsupp n) := by
  rw [State.settleUnsupp]
  exact Leaves.ite (fun _ => Leaves.refl s) fun _ =>
    (Leaves.setFld _ _ (not_steadyReg_high (by decide))).trans (State.partnerNotice_leaves ..)

/-- An output's lane that changes its state. -/
theorem State.laneTo_leaves {i : Nat} (st cause : Nat) (hi : i < 32) : Leaves steadyReg s (s.laneTo i st cause) := by
  unfold State.laneTo
  extract_lets old s1 s2 s3 s4 s5 s6
  have h1 : Leaves steadyReg s s1 :=
    (Leaves.setFld _ _ (not_steadyReg_high (by decide))).trans ⟨fun _ _ => State.setLane_rd ..⟩
  have h2 : Leaves steadyReg s s2 := h1.trans (Leaves.ite (fun _ => Leaves.refl _) fun _ => Leaves.setFld _ _ (not_steadyReg_high (by decide)))
  have h3 : Leaves steadyReg s s3 := h2.trans (Leaves.ite (fun _ => ((Leaves.setFld _ _ (not_steadyReg_high (by decide))).trans
    (Leaves.setFld _ _ (not_steadyReg_high (by decide)))).trans (Leaves.setFld _ _ (not_steadyReg_high (by decide)))) fun _ => Leaves.refl _)
  have h4 : Leaves steadyReg s s4 := h3.trans (Leaves.ite (fun _ => ((Leaves.setFld _ _ (not_steadyReg_high (by decide))).trans
    (Leaves.setFld _ _ (not_steadyReg_high (by decide)))).trans (Leaves.setFld _ _ (not_steadyReg_high (by decide)))) fun _ => Leaves.refl _)
  have h5 : Leaves steadyReg s s5 := h4.trans (Leaves.ite (fun _ => ((Leaves.setFld _ _ (not_steadyReg_high (by decide))).trans
    (Leaves.setFld _ _ (not_steadyReg_high (by decide)))).trans (Leaves.setFld _ _ (not_steadyReg_high (by decide)))) fun _ => Leaves.refl _)
  have h6 : Leaves steadyReg s s6 := by
    refine h5.trans (Leaves.ite (fun _ => (State.settleTx_leaves ..).trans (State.settleUnsupp_leaves ..)) fun h => absurd hi h)
  exact h6.trans (Leaves.ite (fun _ => State.notice_leaves ..) fun _ => Leaves.refl _)

end

end Sys2Proof.Machine
end

-- A FATAL fault (spec/13_ranger_mailboxes.md, spec/17_faults_checks_injection.md): O56.
section
/-! PROOF. What a FATAL fault records, and that nothing it sets off takes it back. -/
namespace Sys2Proof.Machine

open Sys2Proof

section
variable (s : State)

/-! ### Mailboxes and waiters -/

theorem not_steadyReg_mailbox (m : Nat) : ¬steadyReg (Reg.MBX_CMPL m) := by
  simp only [steadyReg, frameReg, statusReg, Reg.MBX_CMPL]
  omega

theorem State.complete_leaves (m : Nat) (hw more : Bool) (st d : Nat) (b : List Byte) : Leaves steadyReg s (s.complete m hw more st d b) := by
  have hm := not_steadyReg_mailbox m
  have hresp (x : List Byte) (v : Nat) : Leaves steadyReg s (((((s.areaWrite m x).raise (Reg.MBX_CMPL_DONE m)).setFld (Reg.MBX_CMPL_HW m)
      (ofBool hw)).setFld (Reg.MBX_CMPL_STATE m) mbDone).setFld (Reg.MBX_CMPL_TAG m) v) := by
    have harea : Leaves steadyReg s (s.areaWrite m x) := Leaves.of_regs rfl
    exact (((harea.trans (Leaves.raise _ hm)).trans (Leaves.setFld _ _ hm)).trans (Leaves.setFld _ _ hm)).trans (Leaves.setFld _ _ hm)
  have hmsix (t : State) : Leaves steadyReg t (t.msixRequest (1 + m)) := Leaves.of_regs rfl
  rw [State.complete]
  split
  · exact (hresp _ _).trans (hmsix _)
  · exact hresp _ _

theorem State.abortMailbox_leaves (m : Nat) : Leaves steadyReg s (s.abortMailbox m) := by
  rw [State.abortMailbox]
  exact Leaves.ite (fun _ => State.complete_leaves ..) fun _ => Leaves.ite (fun _ => State.complete_leaves ..) fun _ => Leaves.refl s

theorem State.loseFolded_leaves : Leaves steadyReg s s.loseFolded := by
  have hco (t : State) (l : List Coalesce) : Leaves steadyReg t { t with coalesce := l } := Leaves.of_regs rfl
  have hring (t : State) (n : Nat) (x : NringSt) : Leaves steadyReg t (t.setNring n x) := Leaves.of_regs rfl
  rw [State.loseFolded]
  refine Leaves.trans (Leaves.foldl fun t c _ => Leaves.foldl fun x n _ => ?_) (hco _ _)
  exact Leaves.ite (fun _ => hring ..) fun _ => Leaves.refl _

theorem State.forwardLcs_leaves (msg : List Byte) (st : Nat) (b : List Byte) : Leaves steadyReg s (s.forwardLcs msg st b) :=
  Leaves.foldl fun _ _ _ => State.pairSend_leaves ..

/-! ### The pair -/

theorem State.setPair_leaves (x : PairSt) : Leaves steadyReg s (s.setPair x) := Leaves.of_regs rfl

theorem State.blzEvent_leaves (kind low : Nat) : Leaves steadyReg s (s.blzEvent kind low) := by
  have hfree : Leaves steadyReg s s.nextFree := Leaves.of_regs rfl
  exact hfree.trans (State.blzTrigger_leaves ..)

theorem State.setRole_leaves (role phase cause : Nat) (blind : Bool) : Leaves steadyReg s (s.setRole role phase cause blind) := by
  unfold State.setRole
  extract_lets old changed s1 s2
  have h1 : Leaves steadyReg s s1 := (Leaves.setFld _ _ (by decide)).trans (Leaves.setFld _ _ (by decide))
  have h2 : Leaves steadyReg s s2 := h1.trans (Leaves.ite (fun _ => Leaves.refl _) fun _ =>
    (Leaves.setFld _ _ (by decide)).trans (State.blzEvent_leaves ..))
  exact h2.trans (Leaves.ite (fun _ => State.notice_leaves ..) fun _ => Leaves.refl _)

theorem State.dropMirror_leaves : Leaves steadyReg s s.dropMirror :=
  Leaves.trans (State.setPair_leaves s _) (Leaves.setFld _ _ (by decide))

theorem State.diverge_leaves : Leaves steadyReg s s.diverge := by
  rw [State.diverge]
  exact Leaves.ite (fun _ => ((Leaves.raise _ (by decide)).trans (State.dropMirror_leaves _)).trans (State.setRole_leaves ..)) fun _ => Leaves.refl s

theorem State.mirrorEnd_leaves (serial st : Nat) (b : List Byte) : Leaves steadyReg s (s.mirrorEnd serial st b) := by
  rw [State.mirrorEnd]
  split
  · exact Leaves.refl s
  · exact (State.setPair_leaves s _).trans (Leaves.ite (fun _ => Leaves.refl _) fun _ => State.diverge_leaves _)

theorem State.answer_leaves (w : Option Waiter) (st : Nat) (b : List Byte) : Leaves steadyReg s (s.answer w st b) := by
  cases w with
  | none => exact Leaves.refl s
  | some w =>
    rw [State.answer]
    refine Leaves.ite (fun _ => State.mirrorEnd_leaves ..) fun _ => Leaves.ite (fun _ => ?_) fun _ => Leaves.refl s
    exact (State.complete_leaves ..).trans (Leaves.ite (fun _ => State.forwardLcs_leaves ..) fun _ => Leaves.refl _)

theorem State.settleThrottle_leaves : Leaves steadyReg s s.settleThrottle := by
  have hlevel (v : Nat) : Leaves steadyReg s (s.setFld Reg.PAIR_MIRROR_LEVEL_KIB v) := Leaves.setFld _ _ (by decide)
  have hthr (t : State) (v : Nat) : Leaves steadyReg t (t.setFld Reg.PAIR_MIRROR_THROTTLE v) := Leaves.setFld _ _ (by decide)
  rw [State.settleThrottle]
  exact (hlevel _).trans (Leaves.ite (fun _ => hthr ..) fun _ => Leaves.ite (fun _ => hthr ..) fun _ =>
    Leaves.ite (fun _ => hthr ..) fun _ => Leaves.refl _)

theorem State.stopMirror_leaves : Leaves steadyReg s s.stopMirror := by
  have hlane (t : State) (i : Nat) (x : LaneSt) : Leaves steadyReg t (t.setLane i x) := ⟨fun _ _ => State.setLane_rd ..⟩
  exact (((State.setPair_leaves s _).trans (Leaves.setFld _ _ (by decide))).trans (Leaves.foldl fun t k _ => hlane ..)).trans
    (State.settleThrottle_leaves _)

theorem State.setOwn_leaves (v : Bool) : Leaves steadyReg s (s.setOwn v) := by
  have hown : Leaves steadyReg s (s.setFld Reg.PAIR_PINS_OUT_OWN (ofBool v)) := Leaves.setFld _ _ (by decide)
  rw [State.setOwn]
  exact (hown.trans (Leaves.ite (fun _ => Leaves.setFld _ _ (by decide)) fun _ => Leaves.refl _)).trans (State.setPair_leaves ..)

theorem State.dropClaim_leaves : Leaves steadyReg s s.dropClaim := (Leaves.setFld _ _ (by decide)).trans (State.setPair_leaves ..)

theorem State.egressOff_leaves : Leaves steadyReg s s.egressOff := by
  rw [State.egressOff]
  refine Leaves.ite (fun _ => Leaves.refl s) fun _ => Leaves.foldl fun t i hi => ?_
  exact Leaves.ite (fun _ => State.laneTo_leaves _ _ _ (List.mem_range.mp hi)) fun _ => Leaves.refl t

theorem State.settleSends_leaves : Leaves steadyReg s s.settleSends := by
  rw [State.settleSends]
  refine (Leaves.foldl fun t n _ => State.settleTx_leaves t n).trans (Leaves.foldl fun t n _ => ?_)
  exact Leaves.ite (fun _ => Leaves.setFld _ _ (not_steadyReg_high (by decide))) fun _ => Leaves.refl t

theorem State.endSwitch_leaves (r : Nat) : Leaves steadyReg s (s.endSwitch r) := (State.setPair_leaves ..).trans (State.answer_leaves ..)

theorem State.enterFaulted_leaves (cause : Nat) : Leaves steadyReg s (s.enterFaulted cause) := by
  have hrole := (((((State.dropMirror_leaves s).trans (State.stopMirror_leaves _)).trans (State.setOwn_leaves _ false)).trans
    (State.dropClaim_leaves _)).trans (Leaves.setFld _ (f := Reg.PAIR_PINS_HB_OUT) 0 (by decide))).trans
      (State.setRole_leaves _ roFaulted s.pairPhase cause false)
  rw [State.enterFaulted]
  exact (((hrole.trans (State.setPair_leaves ..)).trans (State.egressOff_leaves _)).trans (State.settleSends_leaves _)).trans
    (State.endSwitch_leaves ..)

/-! ### Firmware stops (R379) -/

theorem State.rangerStop_leaves (b : Bool) :
    Leaves steadyReg ((s.setFld Reg.MBX_STATUS_READY 0).setFld Reg.MBX_STATUS_RESTARTING (ofBool b)) (s.rangerStop b) := by
  have hmsix (t : State) : Leaves steadyReg t (t.msixRequest 0) := Leaves.of_regs rfl
  rw [State.rangerStop]
  exact ((Leaves.ite (fun _ => hmsix _) fun _ => Leaves.refl _).trans (State.loseFolded_leaves _)).trans
    (Leaves.foldl fun t m _ => State.abortMailbox_leaves t m)

theorem State.rangerStop_hlt (b : Bool) {f : Fld} (hf : f.addr = 0x020000) : (s.rangerStop b).fld f = s.fld f := by
  have hne : (0x010000 : Nat) ≠ f.addr := by rw [hf]; decide
  rw [(State.rangerStop_leaves s b).fld (.inr (.inl hf)), State.fld_setFld_addr _ Reg.MBX_STATUS_RESTARTING _ _ hne,
    State.fld_setFld_addr _ Reg.MBX_STATUS_READY _ _ hne]

theorem State.rangerStop_ready (b : Bool) : (s.rangerStop b).isSet Reg.MBX_STATUS_READY = false := by
  rw [(State.rangerStop_leaves s b).isSet (.inr (.inr rfl)), State.isSet, State.fld_setFld _ _ _ _ (by decide),
    State.fld_setFld_same _ _ _ (by decide) (by decide)]
  rfl

/-! ### FATAL (R459) -/

/-- A logged event that is not LASTING writes neither status register. -/
theorem State.logFault_status (det inst : Nat) (inj : Bool) (detail : Nat) {cls : Nat} (hc : cls ≤ 3) (h2 : cls ≠ 2) :
    Leaves statusReg s (s.logFault det cls inst inj detail) := by
  refine Leaves.of_reports (State.logFault_reports ..) fun a ha hr => ?_
  simp only [faultRegs, triggerRegs, ringRegs, classCounter, Reg.BLZ_STATUS, Reg.BLZ_STAT, Reg.BLZ_CNT_COALESCED, Reg.BLZ_CNT_DROP,
    Reg.HLT_LOG_PROD, Reg.HLT_CNT_CORRECTED, Reg.HLT_STATUS] at hr
  simp only [statusReg] at ha
  omega

theorem State.blzOrder_leaves : Leaves steadyReg s s.blzOrder := by
  have hord : Leaves steadyReg s (s.setBlz { s.blz with pfFlush := true }) := Leaves.of_regs rfl
  rw [State.blzOrder, State.blzStart]
  exact hord.trans (Leaves.ite (fun _ => Leaves.setFld _ _ (by decide)) fun _ => Leaves.refl _)

/-- What a first FATAL fault has recorded once firmware stops stays recorded. -/
theorem State.fatal_leaves (cause det inst : Nat) (inj : Bool) (h : (s.logFault det 3 inst inj cause).isSet Reg.HLT_STATUS_FATAL = false) :
    Leaves steadyReg ((((s.logFault det 3 inst inj cause).setFld Reg.HLT_STATUS_FATAL 1).setFld Reg.HLT_STATUS_FATAL_CAUSE cause).rangerStop
      false) (s.fatal cause det inst inj) := by
  have hranger (t : State) (x : RangerSt) : Leaves steadyReg t (t.setRanger x) := Leaves.of_regs rfl
  have hgate (t : State) (n : Nat) (x : GateOut) : Leaves steadyReg t (t.setGate n x) := Leaves.of_regs rfl
  have hpins (t : State) : Leaves steadyReg t ((t.setFld Reg.PAIR_PINS_HB_OUT 0).setFld Reg.PAIR_PINS_ILK_OUT 0) :=
    (Leaves.setFld _ _ (by decide)).trans (Leaves.setFld _ _ (by decide))
  rw [State.fatal, if_neg (by rw [h]; exact Bool.false_ne_true)]
  extract_lets s2 src s3 s4 s5
  have h3 : Leaves steadyReg s2 s3 := hranger _ _
  have h4 : Leaves steadyReg s2 s4 := h3.trans (Leaves.ite (fun _ => State.enterFaulted_leaves _ 7) fun _ => hpins _)
  have h5 : Leaves steadyReg s2 s5 := h4.trans (Leaves.foldl fun t n _ => Leaves.ite (fun _ => hgate ..) fun _ => Leaves.refl t)
  exact h5.trans (State.blzOrder_leaves _)

theorem State.fatal_later (cause det inst : Nat) (inj : Bool) (h : (s.logFault det 3 inst inj cause).isSet Reg.HLT_STATUS_FATAL = true) :
    s.fatal cause det inst inj = s.logFault det 3 inst inj cause := by
  rw [State.fatal]
  exact if_pos h

end

/-- Settles O56: the first fault records FATAL and its cause and stops firmware, and nothing after writes them. -/
theorem fatalFault : Obligations.FatalFault := by
  intro s cause det inst inj hc t
  have hlog := State.logFault_status s det inst inj cause (cls := 3) (by decide) (by decide)
  have hset := hlog.isSet (f := Reg.HLT_STATUS_FATAL) (.inl rfl)
  cases hf : s.isSet Reg.HLT_STATUS_FATAL with
  | true =>
    have ht : t = s.logFault det 3 inst inj cause := State.fatal_later s cause det inst inj (hset.trans hf)
    rw [ht]
    exact ⟨hset.trans hf, fun h => absurd h.symm Bool.false_ne_true, fun _ => hlog.fld (.inl rfl)⟩
  | false =>
    have ht := State.fatal_leaves s cause det inst inj (hset.trans hf)
    refine ⟨?_, fun _ => ⟨?_, ?_⟩, fun h => absurd h Bool.false_ne_true⟩
    · rw [State.isSet, ht.fld (.inr (.inl rfl)), State.rangerStop_hlt _ _ rfl, State.fld_setFld _ _ _ _ (by decide),
        State.fld_setFld_same _ _ _ (by decide) (by decide)]
      rfl
    · rw [ht.fld (.inr (.inl rfl)), State.rangerStop_hlt _ _ rfl, State.fld_setFld_same _ _ _ (by decide) (by decide)]
      exact Nat.mod_eq_of_lt (Nat.lt_trans hc (by decide))
    · rw [ht.isSet (.inr (.inr rfl)), State.rangerStop_ready]

end Sys2Proof.Machine
end

-- Frame numbers (spec/04_outputs_and_timing.md): O48.
section
/-! PROOF. A frame start writes the frame number once. -/
namespace Sys2Proof.Machine

open Sys2Proof

theorem Leaves.frame {s t : State} (h : Leaves steadyReg s t) : Leaves frameReg s t := h.mono fun _ ha => .inl ha

section
variable (s : State)

/-! ### Returns of signatures -/

theorem State.setLook_leaves (n : Nat) (x : LookOut) : Leaves steadyReg s (s.setLook n x) := Leaves.of_regs rfl
theorem State.setOut_leaves (n : Nat) (x : OutSt) : Leaves steadyReg s (s.setOut n x) := Leaves.of_regs rfl
theorem State.setRun_leaves (det inst : Nat) (r : FaultRun) : Leaves steadyReg s (s.setRun det inst r) := Leaves.of_regs rfl
theorem State.setEnc_leaves (n : Nat) (x : EncSes) : Leaves steadyReg s (s.setEnc n x) := Leaves.of_regs rfl
theorem State.setPol_leaves (x : PolSt) : Leaves steadyReg s (s.setPol x) := Leaves.of_regs rfl
theorem State.setPairOut_leaves (n : Nat) (x : PairOut) : Leaves steadyReg s (s.setPairOut n x) := Leaves.of_regs rfl

theorem State.showResult_leaves (n tag result : Nat) : Leaves steadyReg s (s.showResult n tag result) := by
  unfold State.showResult
  extract_lets s1
  have h1 : Leaves steadyReg s s1 :=
    ((Leaves.setFld _ _ (not_steadyReg_high (by decide))).trans (Leaves.setFld _ _ (not_steadyReg_high (by decide)))).trans
      (Leaves.setFld _ _ (not_steadyReg_high (by decide)))
  have hcount (a : Nat) (f : Fld) (ha : ¬steadyReg a) (hf : ¬steadyReg f.addr) : Leaves steadyReg s ((s1.bump a).raise f) :=
    (h1.trans (Leaves.bump _ _ ha)).trans (Leaves.raise _ hf)
  exact Leaves.ite (fun _ => h1.trans (Leaves.bump _ _ (not_steadyReg_high (by decide)))) fun _ =>
    Leaves.ite (fun _ => hcount _ _ (not_steadyReg_high (by decide)) (not_steadyReg_high (by decide))) fun _ =>
    Leaves.ite (fun _ => hcount _ _ (not_steadyReg_high (by decide)) (not_steadyReg_high (by decide))) fun _ => h1

theorem State.returnNotice_leaves (n tag bad cls : Nat) (missing : Bool) : Leaves steadyReg s (s.returnNotice n tag bad cls missing) := by
  rw [State.returnNotice]
  exact Leaves.ite (fun _ => State.notice_leaves ..) fun _ => State.notice_leaves ..

theorem State.returnRunEnd_leaves (n : Nat) (missing : Bool) : Leaves frameReg s (s.returnRunEnd n missing) := by
  rw [State.returnRunEnd]
  refine (State.setRun_leaves ..).frame.trans (Leaves.ite (fun _ => ?_) fun _ => Leaves.refl _)
  exact (State.logFault_leaves _ _ _ _ _ (by decide)).trans (State.returnNotice_leaves ..).frame

theorem State.returnClass_leaves (n : Nat) (e : SentFrame) : Leaves frameReg s (s.returnClass n e).2 := by
  rw [State.returnClass]
  split
  · exact Leaves.refl s
  · split
    · exact (State.returnRunEnd_leaves ..).trans (State.returnRunEnd_leaves ..)
    · extract_lets missing key s1 x
      have h1 : Leaves frameReg s s1 := State.returnRunEnd_leaves ..
      split
      · exact h1.trans (State.setRun_leaves ..).frame
      · split
        · exact h1.trans ((((State.setRun_leaves ..).frame.trans (State.logFault_leaves _ _ _ _ _ (by decide))).trans
            (Leaves.raise _ fun h => not_steadyReg_high (by decide) (.inl h))).trans (State.returnNotice_leaves ..).frame)
        · exact h1

theorem State.classReturns_leaves (n : Nat) : Leaves frameReg s (s.classReturns n).2 := by
  rw [State.classReturns]
  exact Leaves.foldl_snd (State.setLook_leaves ..).frame fun p e => State.returnClass_leaves ..

theorem State.missingReturn_leaves (n f : Nat) : Leaves frameReg s (s.missingReturn n f).2 := by
  rw [State.missingReturn]
  exact Leaves.foldl_snd (Leaves.refl s) fun p e =>
    ((State.setLook_leaves ..).frame.trans (State.showResult_leaves ..).frame).trans (State.classReturns_leaves ..)

theorem State.returnRetrain_leaves {n : Nat} (hn : n < 32) : Leaves steadyReg s (s.returnRetrain n) := by
  have hwait : Leaves steadyReg s (s.waitTrade 0 n) := by
    rw [State.waitTrade]
    exact Leaves.ite (fun _ => Leaves.refl s) fun _ => State.setPol_leaves ..
  have htrain (t : State) : Leaves steadyReg t (t.retrainLane n) := by
    rw [State.retrainLane]
    exact Leaves.ite (fun _ => State.laneTo_leaves _ _ _ hn) fun _ => Leaves.ite (fun _ => State.laneTo_leaves _ _ _ hn) fun _ => Leaves.refl t
  rw [State.returnRetrain]
  exact Leaves.ite (fun _ => Leaves.refl s) fun _ => Leaves.ite (fun _ => hwait) fun _ =>
    ((State.setPol_leaves s _).trans (htrain _)).trans (State.notice_leaves ..)

/-! ### The pair's records -/

theorem not_steadyReg_pairOut {b n : Nat} (hn : n < 32) (hb : b < 0x082000 ∧ 0x081000 ≤ b) : ¬steadyReg (b + 0x10 * n) := by
  simp only [steadyReg, frameReg, statusReg]
  omega

theorem State.clearConverged_leaves {n : Nat} (hn : n < 32) : Leaves steadyReg s (s.clearConverged n) :=
  (Leaves.setFld _ _ (not_steadyReg_pairOut hn (by decide))).trans (State.setPairOut_leaves ..)

theorem State.markLate_leaves (n f : Nat) : Leaves steadyReg s (s.markLate n f) := by
  rw [State.markLate]
  exact Leaves.ite (fun _ => Leaves.refl s) fun _ => (State.setPairOut_leaves ..).trans (Leaves.bump _ _ (by decide))

theorem State.exclude_leaves {n : Nat} (cause : Nat) (hn : n < 32) : Leaves steadyReg s (s.exclude n cause) :=
  (((Leaves.setFld _ _ (not_steadyReg_pairOut hn (by decide))).trans (Leaves.setFld _ _ (not_steadyReg_pairOut hn (by decide)))).trans
    (Leaves.setFld _ _ (not_steadyReg_pairOut hn (by decide)))).trans (Leaves.wr _ _ (not_steadyReg_pairOut hn (by decide)))

theorem State.missingRecords_leaves {n : Nat} (f : Nat) (hn : n < 32) : Leaves steadyReg s (s.missingRecords n f) := by
  rw [State.missingRecords]
  refine Leaves.ite (fun _ => Leaves.refl s) fun _ => (State.setPairOut_leaves s n _).trans (Leaves.foldl fun t r _ => ?_)
  exact ((Leaves.bump _ _ (by decide)).trans (Leaves.wr _ _ (not_steadyReg_pairOut hn (by decide)))).trans (State.exclude_leaves _ 4 hn)

/-! ### Encode sessions -/

theorem State.setEncState_leaves (n st : Nat) : Leaves steadyReg s (s.setEncState n st) := by
  have hst : Leaves steadyReg s ((s.setFld (Reg.ENC_SES_CTRL_STATE n) st).setFld (Reg.ENC_SES_CTRL_OPEN n) (ofBool (st != esClosed))) :=
    (Leaves.setFld _ _ (not_steadyReg_high (by decide))).trans (Leaves.setFld _ _ (not_steadyReg_high (by decide)))
  rw [State.setEncState]
  exact hst.trans (Leaves.ite (fun _ => State.notice_leaves ..) fun _ => Leaves.refl _)

theorem State.abortOwed_leaves (n : Nat) (always : Bool) : Leaves steadyReg s (s.abortOwed n always) := by
  rw [State.abortOwed]
  split
  · exact Leaves.ite (fun _ => State.setEnc_leaves ..) fun _ => Leaves.refl s
  · exact Leaves.refl s

theorem State.encBoundary_leaves (n : Nat) : Leaves steadyReg s (s.encBoundary n) := by
  rw [State.encBoundary]
  split
  · exact Leaves.ite (fun _ => (Leaves.setFld _ _ (not_steadyReg_high (by decide))).trans (State.setEnc_leaves ..)) fun _ => Leaves.refl s
  · exact Leaves.refl s

theorem State.encLose_leaves (n cause : Nat) : Leaves steadyReg s (s.encLose n cause) := by
  unfold State.encLose
  extract_lets d given lost s1 e t
  have h1 : Leaves steadyReg s s1 := Leaves.ite (fun _ => State.abortOwed_leaves ..) fun _ => Leaves.refl s
  have ht : Leaves steadyReg s t := (h1.trans (State.setEnc_leaves ..)).trans (Leaves.bump _ _ (not_steadyReg_high (by decide)))
  exact ((ht.trans (State.encBoundary_leaves ..)).trans (State.setEncState_leaves ..)).trans (State.notice_leaves ..)

theorem State.tapFrame_leaves (n f : Nat) : Leaves steadyReg s (s.tapFrame n f) := by
  have hdrop (t : State) : Leaves steadyReg t (t.encDrop n 0) :=
    ((Leaves.bump _ _ (not_steadyReg_high (by decide))).trans (State.setEnc_leaves ..)).trans (State.notice_leaves ..)
  rw [State.tapFrame]
  exact Leaves.ite (fun _ => Leaves.refl s) fun _ => Leaves.ite (fun _ => (Leaves.raise _ (not_steadyReg_high (by decide))).trans (hdrop _)) fun _ =>
    State.setEnc_leaves ..

theorem State.encFrameStart_leaves (out f : Nat) : Leaves steadyReg s (s.encFrameStart out f) := by
  have hstart (t : State) (n : Nat) : Leaves steadyReg t (if t.encState n == esWaitSource && t.outState out == osRunning && t.encFits n then
      (t.setEncState n esRunning).coppice n else if t.encState n == esRunning && !t.encFits n then t.encLose n 1 else t) :=
    Leaves.ite (fun _ => (State.setEncState_leaves ..).trans (State.setEnc_leaves ..)) fun _ =>
      Leaves.ite (fun _ => State.encLose_leaves ..) fun _ => Leaves.refl t
  exact Leaves.foldl fun t n _ => (hstart t n).trans (Leaves.ite (fun _ => State.tapFrame_leaves ..) fun _ => Leaves.refl _)

/-! ### The start itself -/

theorem State.sendFrameStart_leaves (n : Nat) (resumed : Bool) : Leaves steadyReg s (s.sendFrameStart n resumed) := by
  have hemit (e : Emission) : Leaves steadyReg s (s.emit e) := Leaves.of_regs rfl
  rw [State.sendFrameStart]
  exact (hemit _).trans (Leaves.of_reports (State.sendFlit_reports (R := fun a => ¬steadyReg a) (not_steadyReg_high (by decide))
    (not_steadyReg_high (by decide)) _ _) fun _ ha hn => hn ha)

theorem State.putFstart_leaves (n : Nat) (t : Int) : Leaves steadyReg s (s.putFstart n t) :=
  ((Leaves.wr _ _ (not_steadyReg_output (by decide))).trans (Leaves.wr _ _ (not_steadyReg_output (by decide)))).trans
    (Leaves.setFld _ _ (not_steadyReg_output (by decide)))

theorem State.applyOutSet_leaves (n : Nat) : Leaves steadyReg s (s.applyOutSet n) := by
  unfold State.applyOutSet
  extract_lets o s1 s2 s3
  have h1 : Leaves steadyReg s s1 := Leaves.ite (fun _ => Leaves.setFld _ _ (not_steadyReg_output (by decide))) fun _ => Leaves.refl s
  have h2 : Leaves steadyReg s s2 := h1.trans (Leaves.ite (fun _ => Leaves.setFld _ _ (not_steadyReg_output (by decide))) fun _ =>
    Leaves.refl _)
  have h3 : Leaves steadyReg s s3 := h2.trans (Leaves.ite (fun _ => Leaves.setFld _ _ (not_steadyReg_output (by decide))) fun _ =>
    Leaves.refl _)
  exact h3.trans (State.setOut_leaves ..)

theorem State.setOutState_leaves (n v : Nat) : Leaves steadyReg s (s.setOutState n v) :=
  (Leaves.setFld _ _ (not_steadyReg_output (by decide))).trans (Leaves.setFld _ _ (not_steadyReg_output (by decide)))

/-- The number of the frame that starts (R109). -/
def State.startNo (s : State) (n : Nat) : Nat :=
  if s.outState n == osStarting then ((s.out n).nextK % (2 ^ 32 : Int)).toNat else wrapAdd 32 (s.frameNo n) 1

theorem State.frameStartOps_leaves (n : Nat) : ∃ v : State,
    Leaves frameReg (v.wr (Reg.CNP_OUT_FRAME n) (s.startNo n)) (s.frameStartOps n).2 := by
  unfold State.frameStartOps
  extract_lets o first start f l s1 s2 src s3 s4 s5 s6 s7 tx s8
  have h3 : Leaves frameReg (s1.wr (Reg.CNP_OUT_FRAME n) f) s3 :=
    (((State.putFstart_leaves ..).trans (State.applyOutSet_leaves ..)).trans (State.setOut_leaves ..)).frame
  have h4 : Leaves frameReg (s1.wr (Reg.CNP_OUT_FRAME n) f) s4 :=
    h3.trans (Leaves.ite (fun _ => (State.setOutState_leaves ..).frame) fun _ => Leaves.refl _)
  have h5 : Leaves frameReg (s1.wr (Reg.CNP_OUT_FRAME n) f) s5 := by
    refine h4.trans ?_
    unfold s5
    split
    · exact Leaves.refl _
    · exact Leaves.ite (fun _ => Leaves.refl _) fun _ => (((Leaves.raise _ (not_steadyReg_output (by decide))).trans
        (Leaves.bump _ _ (not_steadyReg_output (by decide)))).trans (State.notice_leaves ..)).frame
  have h6 : Leaves frameReg (s1.wr (Reg.CNP_OUT_FRAME n) f) s6 := by
    refine h5.trans ?_
    unfold s6
    split
    · exact Leaves.refl _
    · exact (State.setOut_leaves ..).frame
  have h7 : Leaves frameReg (s1.wr (Reg.CNP_OUT_FRAME n) f) s7 :=
    h6.trans (Leaves.ite (fun _ => (State.notice_leaves ..).frame) fun _ => Leaves.refl _)
  have h8 : Leaves frameReg (s1.wr (Reg.CNP_OUT_FRAME n) f) s8 :=
    h7.trans (Leaves.ite (fun _ => (State.settleTx_leaves ..).frame) fun _ =>
      Leaves.ite (fun _ => (State.putTx_leaves ..).frame) fun _ => Leaves.refl _)
  exact ⟨s1, h8.trans (State.missingReturn_leaves ..)⟩

theorem frameReg_frame {n : Nat} (hn : n < 32) : frameReg (Reg.CNP_OUT_FRAME n) := by
  simp only [frameReg, Reg.CNP_OUT_FRAME]
  omega

theorem State.startNo_lt (n : Nat) : s.startNo n < 2 ^ 32 := by
  rw [State.startNo]
  split
  · have := Int.emod_lt_of_pos (s.out n).nextK (show (0 : Int) < 2 ^ 32 by decide)
    omega
  · exact Nat.mod_lt _ (by decide)

/-- After a frame start the output's frame number is that of the frame. -/
theorem State.startFrame_frameNo {n : Nat} (hn : n < 32) (h : s.startDue n = true) : (s.startFrame n).frameNo n = s.startNo n := by
  obtain ⟨v, hv⟩ := s.frameStartOps_leaves n
  rcases hx : s.frameStartOps n with ⟨lasting, t⟩
  rw [hx] at hv
  have hframe : Leaves frameReg (v.wr (Reg.CNP_OUT_FRAME n) (s.startNo n)) (s.startFrame n) := by
    rw [State.startFrame_due h hx]
    refine hv.trans (Leaves.frame ?_)
    have hseen : Leaves steadyReg t (if s.outState n == osStarting then t.clearConverged n else t.markLate n (t.frameNo n)) :=
      Leaves.ite (fun _ => State.clearConverged_leaves t hn) fun _ => State.markLate_leaves ..
    have hcoded := ((hseen.trans (State.settleUnsupp_leaves _ n)).trans (State.missingRecords_leaves _ (t.frameNo n) hn)).trans
      (State.encFrameStart_leaves _ n (t.frameNo n))
    have hsend (w : State) : Leaves steadyReg w (if w.txOn n then w.sendFrameStart n (!s.txOn n) else w) :=
      Leaves.ite (fun _ => State.sendFrameStart_leaves ..) fun _ => Leaves.refl w
    exact (hcoded.trans (hsend _)).trans (Leaves.ite (fun _ => State.returnRetrain_leaves _ hn) fun _ => Leaves.refl _)
  rw [State.frameNo, hframe.rd _ (frameReg_frame hn), State.rd_wr_same, Nat.mod_eq_of_lt (s.startNo_lt n)]

end

/-- Settles O48: the start writes the number of its frame, and nothing after it in the start writes the register again. -/
theorem frameNumbers : Obligations.FrameNumbers := by
  intro s dt n u h
  refine ⟨u.startFrame n.val, rfl, fun hs => ?_, fun hs => ?_⟩
  · rw [State.startFrame_frameNo u n.isLt h, State.startNo, if_pos (beq_iff_eq.mpr hs)]
    exact Int.toNat_of_nonneg (Int.emod_nonneg _ (by decide))
  · rw [State.startFrame_frameNo u n.isLt h, State.startNo, if_neg fun he => hs (beq_iff_eq.mp he)]
    rfl

end Sys2Proof.Machine
end
